-- ==== Sys2Proof/Word.lean ====
section
/-!
DEFINITION. The word types of the XMD-8140 and the plain data that commands carry: the five masters of the control
matrix (Table 16.1), waymarks (Table 2.6), frames (Table 2.1), and the records that arrive at or leave the part's ports.
-/

namespace Sys2Proof

/-- A register or table word (R8). -/
abbrev Word := BitVec 32

/-- A byte of HBM, of a payload or of a package. -/
abbrev Byte := BitVec 8

/-- A 16-bit word of a sample area (R37). -/
abbrev Half := BitVec 16

/-- The masters of Table 16.1 (R383). -/
inductive Master where
  | m0 | m1 | m2 | m3 | m4
  deriving DecidableEq, Repr

/-- The number of a master, as `CMX_ERR_INFO.MASTER` holds it. -/
def Master.num : Master → Nat
  | .m0 => 0 | .m1 => 1 | .m2 => 2 | .m3 => 3 | .m4 => 4

/-- A waymark (R49, Table 2.6). -/
structure Waymark where
  kind : Nat
  flags : Nat
  scope : Nat
  anchor : Nat
  arg : Nat
  deriving DecidableEq, Repr

/-- A frame (R31, R32, Tables 2.1 to 2.4): the header fields, the waymark area, the void map (one entry per stream or
beam, when FLAGS.VMAP is set), the sample area as 16-bit words, and, for the kinds whose payload is not samples (TWIN,
LEGEND), the payload bytes. -/
structure Frame where
  protoGen : Nat
  hdrVer : Nat
  kind : Nat
  srcChip : Nat
  format : Nat
  twinGen : Nat
  flags : Nat
  seq : Nat
  firstStream : Nat
  streamCount : Nat
  firstChan : Nat
  chanCount : Nat
  index : Nat
  payloadLen : Nat
  waymarkCount : Nat
  arithGen : Nat
  aux : Nat
  waymarks : List Waymark
  voidMap : List Bool
  samples : List Half
  body : List Byte
  deriving DecidableEq, Repr

/-- A request that a port presents to HBM (R338): port, whether a write, address, length of a read, bytes of a write. -/
structure HbmReq where
  port : Fin 8
  write : Bool
  addr : Nat
  len : Nat
  data : List Byte
  deriving DecidableEq, Repr

/-- A command that failed all its reissues (R352): address, whether a write, port, and whether the marking write failed too. -/
structure CmdFail where
  addr : Nat
  write : Bool
  port : Fin 8
  fence : Bool
  deriving DecidableEq, Repr

/-- What a class was granted of a resource in a budget period: class, resource, amount in the resource's unit (array handshakes
for the X-arrays), whether it had demand throughout, and whether it waited at its ceiling (R324, R328). -/
structure Use where
  cls : Fin 16
  res : Fin 12
  amount : Nat
  demand : Bool
  ceiling : Bool
  deriving DecidableEq, Repr

/-- What the meridian measured of one reference entry over a second (R359, R364): whether it showed edges without a gap, its fractional
frequency against the oscillator over the second and over the last `MER_DRIFT_TAU` seconds, in units of 10⁻¹², and whether its companion gave
one edge within 100 ns of the prediction. -/
structure RefMeas where
  edges : Bool
  freq : Int
  mean : Int
  companion : Bool
  deriving DecidableEq, Repr

/-- An IRIG-B frame as received (R377): whether every marker stood in its place, the BCD digits of second, minute, hour, day of the year and
(where the form carries it) year, the control-function bits, and the straight binary seconds where the form carries them. -/
structure Irig where
  markers : Bool
  sec : BitVec 8
  min : BitVec 8
  hour : BitVec 8
  day : BitVec 12
  year : Option (BitVec 8)
  control : BitVec 27
  sbs : Option (BitVec 17)
  deriving DecidableEq, Repr

/-- A PTP message or timeout at the management port, for one domain (R374). An Announce carries the ranks that the best master clock algorithm
compares, in its order and ending with the sender, and the grandmaster's identity. A Sync gives a master's time and the counter's at its arrival (both
steps of a two-step master); an exchange gives the four times of a Sync and a delay request; both with corrections applied, in nanoseconds. -/
inductive PtpMsg where
  | announce (rank : List Nat) (gm : BitVec 64)
  | announceTimeout
  | sync (origin arrival : Nat)
  | exchange (t1 t2 t3 t4 : Nat)
  | fault
  | faultCleared
  deriving DecidableEq, Repr

/-- One 32-bit word of a burst beat with its strobes (R384): none set, some set, or all set with the word written. -/
inductive Strobe where
  | skip
  | part
  | word (w : Word)
  deriving DecidableEq, Repr

/-- A packet at the management port (R401). -/
inductive MgtPkt where
  | arp
  | neighbour
  | echo (v6 : Bool) (data : List Byte)
  | other
  deriving DecidableEq, Repr

/-- What the reset logic and the firmware find when the part starts (Table 17.4): the straps, whether every supply is in its operating window, the flash
controller's read mode (none: the SFDP tables are not valid), the density they give in Mib, the PCIe link as rate and width (none: it did not train), and the
exponent of the regulator's VOUT_MODE (none: not the linear format, or no answer). -/
structure StartEnv where
  chipId : Fin 64
  supplies : Bool
  flashMode : Option (Fin 3)
  density : Nat
  link : Option (Fin 8 × Fin 16)
  voutMode : Option Int
  deriving DecidableEq, Repr

/-- Physical facts at the moment of a write or command: nanoseconds to the next internal PPS edge, the pseudo-channel measured fastest, what a
descriptor read meets (0 nothing, 1 a corrected error, 2 an uncorrectable one), whether the lane's sender is within a frame and whether its first
SLEEP block has left, the eye heights of the 16 peaking settings by lane, and the best margin that a full training finds, by pseudo-channel. -/
structure Env where
  ns : Nat
  fast : Fin 64
  err : Fin 3
  inProgress : Bool
  sleepSent : Bool
  eyes : List (List (BitVec 8))
  margins : List (BitVec 16)
  deriving DecidableEq, Repr

/-- A request of sub-command 8 of UPDATE (R448, R457), whose layout stands in the key-service note: the root that signed it, whether the signature
verifies, and either the root to revoke or a role (less 1) with its new key floor. -/
structure KeyReq where
  root : Fin 4
  good : Bool
  revoke : Option (Fin 4)
  role : Fin 3
  serial : BitVec 32
  deriving DecidableEq, Repr, Inhabited

/-- An instruction of the test access port (R408). -/
inductive TapInstr where
  | bypass | idcode | sample | preload | extest | clamp | highz | extestPulse | extestTrain | debug
  deriving DecidableEq, Repr

end Sys2Proof
end

