-- ==== Sys2Proof/Syntax.lean ====
section
/-!
DEFINITION. The commands of the XMD-8140: one constructor per row of the opcode table, with the row's operands. An
operand is what the outside world, or the part's own physics, supplies at that step: the word written, the frame that
arrived, the temperature read.
-/

namespace Sys2Proof

/-- The commands. -/
inductive Instr where
  -- General register access
  /-- REGISTER_WRITE (R9): A host or master write to a register or table word that has no row of its own, including the shared checks of R8, R10 and the owning unit's refusal rules. -/
  | registerWrite (m : Master) (addr : Word) (value : Word) (env : Env)
  /-- UNIT_EVENT_CLEAR (R397): A write to a unit's UNIT_EVENT clears the written bits and re-evaluates the interrupt source, resending the vector once if a pending enabled bit remains. -/
  | unitEventClear (m : Master) (unit : Fin 21) (value : Word) (env : Env)
  -- Resets, supplies and monitors
  /-- THERMAL_SHUTDOWN (R29): A sensor reads 120 °C or more and the part stops all outputs, records the cause and holds itself in OFF. -/
  | thermalShutdown (sensor : Fin 16)
  /-- SUPPLY_FAULT_RESET (R29): A monitored supply stays outside its fault window for more than 2 µs and the part records the cause and holds itself in reset. -/
  | supplyFaultReset (supply : Fin 10) (mv : Int)
  /-- SUPPLY_FAULT_CLEARED (R29): The supply fault clears and the part starts through BOOT as at power-up, unless thermal shutdown also occurred. -/
  | supplyFaultCleared (e : StartEnv) (margins : List (BitVec 16))
  /-- RESET_RELEASE (R417): HLT_POR_L rises with every supply in window; OFF becomes BOOT and the boot sequence of Table 17.4 runs to READY or SAFE. -/
  | resetRelease (e : StartEnv) (margins : List (BitVec 16))
  /-- POR_ASSERT (R474): HLT_POR_L falls for at least 1 µs during operation and the part enters OFF at once, writing nothing more to the settings store. -/
  | porAssert (ns : Nat) (taken : Bool)
  /-- TEMP_SAMPLE (R443): Every 1 ms the part reads all temperature sensors, updates HLT_TEMP and the lifetime mean, and raises TEMP_HIGH or TEMP_FAULT. -/
  | tempSample (temps : List (BitVec 8))
  /-- LIFE_HOURS_STORE (R443): Once per hour the part stores HLT_LIFE_HOURS and HLT_TJ_MEAN in the settings store. -/
  | lifeHoursStore
  /-- SUPPLY_SAMPLE (R444): Every 1 ms the part reads the ten supplies into HLT_SUPPLY and raises SUPPLY_WARN outside 3 % of nominal. -/
  | supplySample (mvs : List Int)
  /-- FABRIC_SECOND (R445): Each second the part latches the lowest headroom count and highest array utilisation into HLT_FABRIC. -/
  | fabricSecond
  -- Waymarks
  /-- EPOCH_WAYMARK (R488): A unit applies an EPOCH waymark, discarding anchored waymarks and requests and resetting index-anchored state before the index restarts. -/
  | epochWaymark (unit : Fin 21)
  /-- DUMP_WAYMARK (R205): Accumulation applies a DUMP to each local channel at the first block boundary at or after its anchor, closing the integration. -/
  | dumpWaymark (plan : Fin 16)
  /-- FLUSH_WAYMARK (R53): An acting unit applies FLUSH, voiding queued work of the scope before the anchor as Table 2.10 gives. -/
  | flushWaymark (unit : Fin 21)
  /-- GAIN_WAYMARK (R113): The channeliser and staging switch their active gain bank at the anchored spectrum. -/
  | gainWaymark (unit : Fin 21)
  /-- WSWAP_WAYMARK (R194): The X-arrays and the trig point switch their weight and direction bank at the anchored spectrum or window. -/
  | wswapWaymark (unit : Fin 21)
  /-- HALT_WAYMARK (R62): Units in scope stop processing the scope and void arriving grains from the anchored grain. -/
  | haltWaymark (unit : Fin 21)
  /-- RESUME_WAYMARK (R97): Units in scope restart processing, with a synchronising reset of the decimator slots in scope. -/
  | resumeWaymark (unit : Fin 21)
  /-- VOIDRUN_WAYMARK (R100): The decimators and staging void a run of grains of the scope. -/
  | voidrunWaymark (unit : Fin 21)
  /-- TRIG_WAYMARK (R313): Accumulation and framing carry a TRIG waymark onward on the named ports without acting on it. -/
  | trigWaymark
  /-- TWIN_WAYMARK (R48): Framing and health take the new twin generation carried by a TWIN waymark. -/
  | twinWaymark (chip : Fin 64) (gen : Fin 16)
  /-- GEN_WAYMARK (R465): Arithmetic units change the arithmetic generation at the anchor, or refuse an unsupported or late generation. -/
  | genWaymark (unit : Fin 21)
  /-- MODEL_WAYMARK (R149): Staging sets the anchor of the named model slot and marks it valid, or refuses a slot in use. -/
  | modelWaymark
  /-- CAL_WAYMARK (R52): Staging and accumulation mark a delay-calibration injection window of the given length. -/
  | calWaymark (unit : Fin 21)
  /-- STEP_WAYMARK (R284): A STEP waymark reaches accumulation; as a completion waymark it commits a CORR or a BEAM step and tells the issuing core. -/
  | stepWaymark
  /-- PROBE_WAYMARK (R187): A unit records passage of a PROBE waymark, the X-arrays latching its tag and index. -/
  | probeWaymark (unit : Fin 21)
  /-- WAYMARK_ARRIVE (R58): A waymark reaches an acting unit and is stored among up to 64 pending anchors, waiting, refused, forwarded or applied late. -/
  | waymarkArrive (unit : Fin 21)
  -- Lanes
  /-- OCTET_ROLE_WRITE (R63): A write of LNS_OCTET_ROLE sets an octet's role, starting training of an enabled octet, or is refused. -/
  | octetRoleWrite (m : Master) (octet : Fin 12) (value : Word) (env : Env)
  /-- LNS_BASIC_WRITE (R63): A write to UNIT_BASIC of LNS enables or disables octets and auto-idle, starting or stopping lane training. -/
  | lnsBasicWrite (m : Master) (value : Word) (env : Env)
  /-- TX_FIR_WRITE (R65): A write of LNS_TX_FIR sets the transmit cursors or is refused for out-of-range values. -/
  | txFirWrite (m : Master) (lane : Fin 96) (value : Word) (env : Env)
  /-- LANE_IDLE_SET (R73): The host sets LNS_LANE_CTRL.IDLE and the lane finishes its frame, sends SLEEP blocks and squelches. -/
  | laneIdleSet (m : Master) (lane : Fin 96) (value : Word) (env : Env)
  /-- LANE_IDLE_CLEAR (R74): The host clears LNS_LANE_CTRL.IDLE and the lane runs the idle exit of Table 3.4. -/
  | laneIdleClear (m : Master) (lane : Fin 96) (value : Word) (env : Env)
  /-- IDLE_TIMEOUT (R73): With AUTO_IDLE set, no frame has been queued for LNS_IDLE_TIMEOUT and the lane enters electrical idle. -/
  | idleTimeout (lane : Fin 96)
  /-- AUTO_IDLE_EXIT (R74): With AUTO_IDLE set, a frame is queued for an idle lane and the lane exits idle. -/
  | autoIdleExit (lane : Fin 96) (firstSleepSent : Bool)
  /-- RELOCK_TIMEOUT (R75): The far end fails to restore block lock by step 4 of the idle exit, counts it, raises RELOCK_FAILED and enters TRAIN. -/
  | relockTimeout (lane : Fin 96)
  /-- LANE_RETRAIN (R85): The host writes LNS_LANE_CTRL.RETRAIN and the lane starts training. -/
  | laneRetrain (m : Master) (lane : Fin 96) (value : Word) (env : Env)
  /-- LANE_ADAPT (R66): The host writes LNS_LANE_CTRL.ADAPT in CALIBRATE and the lane tries all 16 peaking settings, keeping the best eye. -/
  | laneAdapt (m : Master) (lane : Fin 96) (value : Word) (env : Env)
  /-- LANE_TRAIN_COMPLETE (R85): A lane's training or retraining ends, returning it to ACTIVE with block lock or to FAULT with RETRAIN_FAILED. -/
  | laneTrainComplete (lane : Fin 96) (lock : Bool) (height width : BitVec 8)
  /-- BLOCK_LOCK_LOSS (R84): A lane loses block lock; short losses are counted and frames in flight are lost. -/
  | blockLockLoss (lane : Fin 96)
  /-- LANE_DOWN (R84): Block lock has been lost for more than 1 µs; LANE_DOWN is raised and an armed retraining starts. -/
  | laneDown (lane : Fin 96)
  /-- REF_LOST (R84): LREF0 or LREF1 becomes absent and REF_LOST is raised. -/
  | refLost (ref : Fin 2)
  /-- LINKINFO_RX (R464): A LINKINFO block is received; the lane learns its far chip and fixes the protocol generation on entry to ACTIVE. -/
  | linkinfoRx (lane : Fin 96) (offer : Fin 16) (chip : Fin 64)
  /-- LINKINFO_TX (R69): Every 16,384 blocks the sender transmits a LINKINFO block. -/
  | linkinfoTx (lane : Fin 96)
  /-- SLEEP_RX (R73): The receiver receives a second SLEEP block and enters IDLE. -/
  | sleepRx (lane : Fin 96)
  /-- INVALID_BLOCK_RX (R67): A block with an invalid sync header arrives; it is counted and the frame in progress is discarded. -/
  | invalidBlockRx (lane : Fin 96)
  /-- REORDER_TIMEOUT (R69): The 2 µs reorder window closes with a frame missing; the frame is lost and R46 applies. -/
  | reorderTimeout (path : Fin 80) (dest : Fin 64) (control : Bool) (chip : Fin 64)
  /-- FEC_UNCORR (R70): An RS(544,514) codeword cannot be corrected and every frame overlapping it is discarded. -/
  | fecUncorr (lane : Fin 96) (corrected : Nat)
  -- Frames and framing
  /-- INGRESS_FRAME_RX (R47): A frame arrives whole on an ingress lane and is checked, buffered and passed to the decimators or discarded with its grains voided. -/
  | ingressFrameRx (lane : Fin 96) (f : Frame) (check : Nat)
  /-- GRATICULE_FRAME_RX (R138): A frame arrives on a graticule lane and is checked, passed to staging, forwarded as a relay or discarded as misrouted. -/
  | graticuleFrameRx (lane : Fin 96) (f : Frame) (check : Nat)
  /-- TWIN_FRAME_RX (R434): A TWIN frame arrives on the twin link and its beacon and signature elements are taken and compared. -/
  | twinFrameRx (lane : Fin 96) (f : Frame) (check : Nat) (fits : Bool)
  /-- CK_SHADOW_WRITE (R78): A write to a check-engine shadow register is stored or refused with CK_CFG_REFUSED. -/
  | ckShadowWrite (m : Master) (lane : Fin 96) (word : Fin 8) (value : Word) (env : Env)
  /-- CK_PRESET_WRITE (R80): A write to UNIT_BASIC.CK_PRESET of FRM selects a check configuration for every lane or is refused. -/
  | ckPresetWrite (m : Master) (value : Word) (env : Env)
  /-- CK_PRESET_LOAD (R80): A lane next in IDLE or DISABLED loads the pending preset into its shadow and clears PENDING. -/
  | ckPresetLoad (lane : Fin 96)
  /-- PORT_CFG_WRITE (R83): A write of FRM_PORT_CFG sets an output port or is refused for MAX_FRAME out of range. -/
  | portCfgWrite (m : Master) (port : Fin 8) (value : Word) (env : Env)
  /-- ETH_FRAME_RX (R81): An Ethernet frame arrives on an output port and is checked, counted and discarded. -/
  | ethFrameRx (port : Fin 8) (fcsGood : Bool)
  /-- LNS_CNT_CLEAR (R86): A write to LNS_CNT_CLEAR zeroes the selected lane counters. -/
  | lnsCntClear (m : Master) (value : Word) (env : Env)
  /-- FRM_CNT_CLEAR (R86): A write to FRM_CNT_CLEAR zeroes the selected lane, octet or port counters. -/
  | frmCntClear (m : Master) (value : Word) (env : Env)
  -- Decimators
  /-- DEC_BASIC_WRITE (R90): A write to UNIT_BASIC of DEC loads decimation settings into every slot's shadow and derives DEC_OUT_SCALE. -/
  | decBasicWrite (m : Master) (value : Word) (env : Env)
  /-- DEC_SHADOW_WRITE (R97): A write to a slot's shadowed configuration is stored, refused, or schedules an enable or disable of the slot. -/
  | decShadowWrite (m : Master) (slot : Fin 256) (word : Fin 16) (value : Word) (env : Env)
  /-- DEC_SYNC_GO (R97): A write of DEC_SYNC_CTRL.GO schedules a host synchronising reset for one slot or all, applying late with SYNC_LATE if passed. -/
  | decSyncGo (m : Master) (value : Word) (env : Env)
  /-- SYNC_RESET (R97): A slot reaches its synchronising reset index, clears its registers, takes its shadow and emits its settle span void. -/
  | syncReset (slot : Fin 256)
  /-- SLOT_DISABLE (R97): A disabled slot completes its TIME frame in progress and then emits nothing and holds no state. -/
  | slotDisable (slot : Fin 256)
  /-- DEC_INPUT_FRAME (R94): A decimator slot processes an input TIME frame through mixer, CIC and output stage and emits decimated frames. -/
  | decInputFrame
  /-- DEC_CNT_CLEAR (R86): A write to DEC_CNT_CLEAR zeroes the selected slot counters. -/
  | decCntClear (m : Master) (value : Word) (env : Env)
  -- Channeliser
  /-- CHN_BASIC_WRITE (R106): A write to UNIT_BASIC of CHN while STOPPED copies settings into CHN_CFG, loads the built-in window and resets gains, or is refused. -/
  | chnBasicWrite (m : Master) (value : Word) (env : Env)
  /-- CHN_CFG_WRITE (R117): A write of CHN_CFG while STOPPED changes the filterbank and sets CHN_COEF_COUNT to zero. -/
  | chnCfgWrite (m : Master) (value : Word) (env : Env)
  /-- CHN_COEF_DATA_WRITE (R117): A write to CHN_COEF_DATA stores a coefficient, advances the address and updates the count and CRC. -/
  | chnCoefDataWrite (m : Master) (value : Word) (env : Env)
  /-- CHN_GAIN_DATA_WRITE (R113): A write to CHN_GAIN_DATA stores a gain and advances the address, or is refused for a bank in use. -/
  | chnGainDataWrite (m : Master) (value : Word) (env : Env)
  /-- CHN_START (R118): A write of CHN_CTRL.START enters STARTING or is refused for an incomplete window, capacity or state. -/
  | chnStart (m : Master) (value : Word) (env : Env)
  /-- CHN_STOP (R119): A write of CHN_CTRL.STOP schedules a stop at its anchor or cancels a start not yet begun. -/
  | chnStop (m : Master) (value : Word) (env : Env)
  /-- CHN_STREAM_BEGIN (R118): A stream reaches its first spectrum boundary at or after the start anchor and begins; the unit becomes RUNNING. -/
  | chnStreamBegin (slot : Fin 256)
  /-- CHN_STOP_COMMIT (R119): The stop reaches its spectrum boundary; the unit completes earlier spectra, discards history and enters STOPPED. -/
  | chnStopCommit
  /-- CHN_SPECTRUM (R107): A stream's window is complete and the channeliser forms, equalises, requantises and emits one spectrum. -/
  | chnSpectrum (slot : Fin 256)
  /-- CHN_CNT_CLEAR (R86): A write to CHN_CNT_CLEAR zeroes the selected slot counters. -/
  | chnCntClear (m : Master) (value : Word) (env : Env)
  -- Resynthesiser
  /-- RSY_BASIC_WRITE (R130): A write to UNIT_BASIC of RSY while STOPPED copies taps and format into RSY_CFG and loads the built-in window. -/
  | rsyBasicWrite (m : Master) (value : Word) (env : Env)
  /-- RSY_COEF_DATA_WRITE (R126): A write to RSY_COEF_DATA stores a synthesis coefficient and advances the address. -/
  | rsyCoefDataWrite (m : Master) (value : Word) (env : Env)
  /-- RSY_START (R126): A write of RSY_CTRL.START enters STARTING or is refused. -/
  | rsyStart (m : Master) (value : Word) (env : Env)
  /-- RSY_STOP (R126): A write of RSY_CTRL.STOP schedules a stop at its anchor. -/
  | rsyStop (m : Master) (value : Word) (env : Env)
  /-- RSY_STOP_COMMIT (R126): The resynthesiser's stop reaches its boundary and the unit enters STOPPED. -/
  | rsyStopCommit
  /-- RSY_SLICE_WRITE (R298): A write of a slice entry enables or disables a slice, refused for capacity or a wrong plan. -/
  | rsySliceWrite (m : Master) (slice : Fin 1024) (half : Fin 2) (value : Word) (env : Env)
  /-- RSY_HALF_READ (R299): Every step of block n has committed or been undone and the resynthesiser begins reading buffer half n. -/
  | rsyHalfRead (plan : Fin 16)
  /-- RSY_SYNTH_STEP (R124): A beam spectrum of a slice is taken and the resynthesiser runs the inverse transform and synthesis sum, emitting SERIES frames. -/
  | rsySynthStep (plan : Fin 16)
  /-- RSY_CNT_CLEAR (R86): A write to RSY_CNT_CLEAR zeroes the resynthesiser counters. -/
  | rsyCntClear (m : Master) (value : Word) (env : Env)
  -- Graticule
  /-- GRT_BASIC_WRITE (R131): A write to UNIT_BASIC of GRT fills the shadow tables from a preset and applies them now, or is refused. -/
  | grtBasicWrite (m : Master) (value : Word) (env : Env)
  /-- GRT_CHIP_WRITE (R133): A write of GRT_CHIP sets the chip identity or is refused while a graticule lane is active. -/
  | grtChipWrite (m : Master) (value : Word) (env : Env)
  /-- GRT_APPLY (R134): A write of GRT_CTRL.APPLY checks the shadow routing table and schedules it, or is refused. -/
  | grtApply (m : Master) (value : Word) (env : Env)
  /-- GRT_APPLY_COMMIT (R134): The first spectrum at or after the apply anchor arrives and the shadow table comes into force. -/
  | grtApplyCommit
  /-- GRT_SPECTRUM_SEND (R135): The graticule cuts a spectrum at entry boundaries into SPEC frames and routes them direct, relayed, to staging or to a twin. -/
  | grtSpectrumSend
  /-- GRT_CNT_CLEAR (R86): A write to GRT_CNT_CLEAR zeroes the graticule counters. -/
  | grtCntClear (m : Master) (value : Word) (env : Env)
  -- Staging
  /-- STG_BASIC_WRITE (R132): A write to UNIT_BASIC of STG while STOPPED copies its fields into STG_CFG and sets the source table. -/
  | stgBasicWrite (m : Master) (value : Word) (env : Env)
  /-- STG_START (R147): A write of STG_CTRL.START schedules staging to start at a block boundary, or is refused. -/
  | stgStart (m : Master) (value : Word) (env : Env)
  /-- STG_STOP (R147): A write of STG_CTRL.STOP schedules staging to stop at a block boundary. -/
  | stgStop (m : Master) (value : Word) (env : Env)
  /-- STG_BLOCK_BOUNDARY (R147): Staging reaches the block boundary of a pending start or stop and changes state. -/
  | stgBlockBoundary
  /-- STG_FRAME_WRITE (R144): Staging writes an arriving corner-turned frame into the HBM ring, or discards a frame of a closed block. -/
  | stgFrameWrite
  /-- BLOCK_CLOSE (R145): Every source has sent a frame of the next block and staging closes block n. -/
  | blockClose
  /-- CLOSE_TIMEOUT (R145): STG_CLOSE_WAIT ticks pass after the first frame of the next block and staging closes the block by wait. -/
  | closeTimeout
  /-- RING_HOLD_RELEASE (R146): Staging finishes reading channel c of block n and a held write of block n+2 into that channel proceeds. -/
  | ringHoldRelease
  /-- SUB_BLOCK_STAGE (R146): A staging buffer is free and staging reads, phases, gains and masks the next sub-block and hands it to the arrays. -/
  | subBlockStage
  /-- STG_CNT_CLEAR (R86): A write to STG_CNT_CLEAR zeroes the staging counters. -/
  | stgCntClear (m : Master) (value : Word) (env : Env)
  -- Bearing cores
  /-- BRG_BASIC_WRITE (R157): A write of UNIT_BASIC.RUN of BRG halts every core and, for RUN 1, loads the built-in program and starts the enabled cores. -/
  | brgBasicWrite (m : Master) (value : Word) (env : Env)
  /-- BRG_CORE_RUN (R166): A write of BRG_CORE_CTRL.RUN clears both banks and starts the core at its entry address. -/
  | brgCoreRun (m : Master) (core : Fin 16) (value : Word) (env : Env)
  /-- BRG_CORE_HALT (R179): A write of BRG_CORE_CTRL.HALT halts the core after its in-flight instructions. -/
  | brgCoreHalt (m : Master) (core : Fin 16) (value : Word) (env : Env)
  /-- BRG_CORE_STEP (R179): A write of BRG_CORE_CTRL.STEP runs one instruction of a halted core. -/
  | brgCoreStep (m : Master) (core : Fin 16) (value : Word) (env : Env)
  /-- BRG_CORE_LOADBI (R179): A write of BRG_CORE_CTRL.LOADBI loads the built-in program into a halted core or is refused. -/
  | brgCoreLoadbi (m : Master) (core : Fin 16) (value : Word) (env : Env)
  /-- BRG_DOORBELL (R164): A write of BRG_CORE_DOORBELL raises the DOORBELL interrupt source of a core. -/
  | brgDoorbell (m : Master) (core : Fin 16) (value : Word) (env : Env)
  /-- BRG_DIR_SWITCH_ARM (R171): A write of BRG_DIR_CTRL.HALF arms a direction-half switch at tick BRG_DIR_TICK, replacing a pending one. -/
  | brgDirSwitchArm (m : Master) (value : Word) (env : Env)
  /-- BRG_TICK_FIRE (R169): The ingress index reaches a tick's firing index and the tick becomes pending on every core in BRG_POST_MASK, or is skipped. -/
  | brgTickFire
  /-- BRG_INTERRUPT_ACCEPT (R164): A core reaches a permitted instruction boundary with an enabled interrupt pending and switches to the shadow bank at its vector. -/
  | brgInterruptAccept (core : Fin 16)
  /-- BRG_WAIT_END (R165): A core waiting in WAITT, WAITI or DIR resumes when its tick, interrupt or bank switch arrives. -/
  | brgWaitEnd (core : Fin 16)
  /-- BRG_PUT_WRITTEN (R173): A model record reaches HBM and a core's POST is marked posted once all its earlier PUTs are written. -/
  | brgPutWritten (core : Fin 16)
  /-- BRG_NOP (R168): A bearing core executes NOP. -/
  | brgNop (core : Fin 16)
  /-- BRG_ADD (R168): A bearing core executes ADD. -/
  | brgAdd (core : Fin 16)
  /-- BRG_SUB (R168): A bearing core executes SUB. -/
  | brgSub (core : Fin 16)
  /-- BRG_AND (R168): A bearing core executes AND. -/
  | brgAnd (core : Fin 16)
  /-- BRG_OR (R168): A bearing core executes OR. -/
  | brgOr (core : Fin 16)
  /-- BRG_XOR (R168): A bearing core executes XOR. -/
  | brgXor (core : Fin 16)
  /-- BRG_SHL (R168): A bearing core executes SHL. -/
  | brgShl (core : Fin 16)
  /-- BRG_SHR (R168): A bearing core executes SHR. -/
  | brgShr (core : Fin 16)
  /-- BRG_SRA (R168): A bearing core executes SRA. -/
  | brgSra (core : Fin 16)
  /-- BRG_MUL (R168): A bearing core executes MUL. -/
  | brgMul (core : Fin 16)
  /-- BRG_ADDI (R168): A bearing core executes ADDI. -/
  | brgAddi (core : Fin 16)
  /-- BRG_ORI (R168): A bearing core executes ORI. -/
  | brgOri (core : Fin 16)
  /-- BRG_LUI (R168): A bearing core executes LUI. -/
  | brgLui (core : Fin 16)
  /-- BRG_LD (R168): A bearing core executes LD from X, Y or coefficient memory. -/
  | brgLd (core : Fin 16)
  /-- BRG_ST (R168): A bearing core executes ST to X or Y memory. -/
  | brgSt (core : Fin 16)
  /-- BRG_SETP (R168): A bearing core executes SETP. -/
  | brgSetp (core : Fin 16)
  /-- BRG_SETM (R168): A bearing core executes SETM. -/
  | brgSetm (core : Fin 16)
  /-- BRG_MFS (R168): A bearing core executes MFS, reading a special register. -/
  | brgMfs (core : Fin 16)
  /-- BRG_OMAC (R167): A bearing core executes OMAC, writing four accumulators. -/
  | brgOmac (core : Fin 16)
  /-- BRG_CMAC (R167): A bearing core executes CMAC, a complex multiply-accumulate. -/
  | brgCmac (core : Fin 16)
  /-- BRG_DMAC (R167): A bearing core executes DMAC. -/
  | brgDmac (core : Fin 16)
  /-- BRG_EXT (R168): A bearing core executes EXT, rounding an accumulator into a register. -/
  | brgExt (core : Fin 16)
  /-- BRG_MOVA (R168): A bearing core executes MOVA. -/
  | brgMova (core : Fin 16)
  /-- BRG_BEQ (R162): A bearing core executes BEQ with its delay slot. -/
  | brgBeq (core : Fin 16)
  /-- BRG_BNE (R162): A bearing core executes BNE with its delay slot. -/
  | brgBne (core : Fin 16)
  /-- BRG_BLT (R162): A bearing core executes BLT with its delay slot. -/
  | brgBlt (core : Fin 16)
  /-- BRG_BGE (R162): A bearing core executes BGE with its delay slot. -/
  | brgBge (core : Fin 16)
  /-- BRG_JMP (R162): A bearing core executes JMP with its delay slot. -/
  | brgJmp (core : Fin 16)
  /-- BRG_CALL (R162): A bearing core executes CALL, setting b31. -/
  | brgCall (core : Fin 16)
  /-- BRG_RET (R162): A bearing core executes RET. -/
  | brgRet (core : Fin 16)
  /-- BRG_LOOP (R163): A bearing core executes LOOP, filling the loop cache. -/
  | brgLoop (core : Fin 16)
  /-- BRG_PUT (R172): A bearing core executes PUT, issuing a model record write to HBM. -/
  | brgPut (core : Fin 16)
  /-- BRG_DIR (R174): A bearing core executes DIR, writing a direction record into the inactive bank of a direction table. -/
  | brgDir (core : Fin 16)
  /-- BRG_POST (R173): A bearing core executes POST for its tick. -/
  | brgPost (core : Fin 16)
  /-- BRG_WAITT (R168): A bearing core executes WAITT, consuming its oldest pending tick or waiting. -/
  | brgWaitt (core : Fin 16)
  /-- BRG_WAITI (R168): A bearing core executes WAITI and waits for an interrupt. -/
  | brgWaiti (core : Fin 16)
  /-- BRG_RETI (R164): A bearing core executes RETI, returning to the main bank. -/
  | brgReti (core : Fin 16)
  /-- BRG_EI (R164): A bearing core executes EI. -/
  | brgEi (core : Fin 16)
  /-- BRG_DI (R164): A bearing core executes DI. -/
  | brgDi (core : Fin 16)
  /-- BRG_HALT (R168): A bearing core executes HALT and raises CORE_HALTED. -/
  | brgHalt (core : Fin 16)
  /-- BRG_CNT_CLEAR (R86): A write to BRG_CNT_CLEAR zeroes the bearing counters. -/
  | brgCntClear (m : Master) (value : Word) (env : Env)
  -- X-arrays
  /-- XAR_BASIC_WRITE (R180): A write to UNIT_BASIC of XAR enables or disables all arrays and sets weight source, taper and checksum. -/
  | xarBasicWrite (m : Master) (value : Word) (env : Env)
  /-- XAR_ENABLE_WRITE (R181): A write of XAR_ENABLE_n enables arrays or drains them to DISABLED, clearing isolated bits on enable. -/
  | xarEnableWrite (m : Master) (reg : Fin 3) (value : Word) (env : Env)
  /-- XAR_TABLE_WRITE (R194): A host write to a direction, position, taper or weight table word is stored or refused for a bank in use or a busy beam. -/
  | xarTableWrite (m : Master) (off : BitVec 24) (value : Word) (env : Env)
  /-- PASS_DISPATCH (R250): An array becomes free or a pass becomes dispatchable and the atlas gives the array a tile pass. -/
  | passDispatch (desc : Fin 3) (corr : Nat) (ue : List (Fin 1024))
  /-- PASS_FILL_END (R189): An array finishes filling a tile pass and its accumulator starts exchanging. -/
  | passFillEnd (array : Fin 80) (parity : Option (Fin 4096 × Fin 4096))
  /-- EXCHANGE_END (R189): A tile's drain reaches the tile store; the pass is counted, checked and the descriptor updated. -/
  | exchangeEnd (array : Fin 80) (upset : Option (Fin 1024 × Word × Word))
  /-- XAR_CNT_CLEAR (R86): A write to XAR_CNT_CLEAR zeroes array or unit counters. -/
  | xarCntClear (m : Master) (value : Word) (env : Env)
  -- Accumulation
  /-- ACC_BASIC_WRITE (R204): A write to UNIT_BASIC of ACC copies output settings into every idle plan. -/
  | accBasicWrite (m : Master) (value : Word) (env : Env)
  /-- ACC_DRAIN (R206): A write of ACC_CTRL.DRAIN makes a host DUMP for the plan anchored at the next sub-block boundary. -/
  | accDrain (m : Master) (value : Word) (env : Env)
  /-- SK_RESET (R217): A write of ACC_CTRL.SK_RESET clears the plan's kurtosis baselines. -/
  | skReset (m : Master) (value : Word) (env : Env)
  /-- ACC_BLOCK_CLOSE (R212): At a block close accumulation reads the sub-block summaries and allocates or refuses planes. -/
  | accBlockClose
  /-- BLOCK_RESULT_MERGE (R208): A COMPLETE block result reaches accumulation and is merged into the integrating set, or left out if poisoned. -/
  | blockResultMerge (index : Fin 4194304)
  /-- SET_DRAIN (R228): Accumulation drains a closed set to each port as legend, VIS frames and TAIL. -/
  | setDrain (plan : Fin 16)
  /-- DRAIN_END (R211): A set's drain ends and any held merge proceeds. -/
  | drainEnd (plan : Fin 16)
  /-- MARK_OUTPUT_TIMEOUT (R280): An output-point waymark finds no frame of the plan on a port within 10 µs and leaves in a frame of its own. -/
  | markOutputTimeout (port : Fin 8)
  /-- ACC_CNT_CLEAR (R86): A write to ACC_CNT_CLEAR zeroes the accumulation counters. -/
  | accCntClear (m : Master) (value : Word) (env : Env)
  -- Atlas
  /-- ATL_BASIC_WRITE (R240): A write to UNIT_BASIC of ATL sets dispatch and paging and, with AUTO, shapes and declares plan 0. -/
  | atlBasicWrite (m : Master) (value : Word) (env : Env)
  /-- ATL_REGION_WRITE (R237): A write of ATL_PLAN_BASE or ATL_PLAN_SHAPE sets a plan region or is refused. -/
  | atlRegionWrite (m : Master) (plan : Fin 16) (reg : Fin 2) (value : Word) (env : Env)
  /-- STATS_RESET (R249): A write of ATL_CTRL.STATS_RESET discards the plan's placement statistics. -/
  | statsReset (m : Master) (value : Word) (env : Env)
  /-- ATL_UNLOAD (R239): A write of ATL_CTRL.UNLOAD returns the plan's ZERO tiles to ABSENT or is refused. -/
  | atlUnload (m : Master) (value : Word) (env : Env)
  /-- ATL_READ (R245): A host READ operation is issued through ATL_OP_CTRL and waits for ownership and state. -/
  | atlRead (m : Master) (value : Word) (env : Env)
  /-- ATL_EVICT (R245): A host EVICT operation is issued through ATL_OP_CTRL. -/
  | atlEvict (m : Master) (value : Word) (env : Env)
  /-- ATL_OP_ABORT (R245): A write of ATL_OP_CTRL.ABORT undoes a host operation before its commit point or is answered ALREADY_DONE. -/
  | atlOpAbort (m : Master) (value : Word) (env : Env)
  /-- HOST_OP_COMPLETE (R245): A host READ or EVICT finishes its copy or page-out and records its result. -/
  | hostOpComplete (fast : Fin 64)
  /-- DESC_SNAPSHOT (R258): A write of ATL_DESC_INDEX latches a descriptor snapshot. -/
  | descSnapshot (m : Master) (value : Word) (env : Env)
  /-- OWNERSHIP_GRANT (R242): Every tile a waiting operation names becomes free and the operation takes ownership. -/
  | ownershipGrant (cls : Fin 16) (fast : Fin 64)
  /-- PAGE_OUT_START (R248): Free slots fall below demand and the atlas evicts a RESIDENT tile to PAGING_OUT. -/
  | pageOutStart (fast : Fin 64)
  /-- PAGE_OUT_COMPLETE (R239): A page write completes and the tile becomes PAGED with its slot freed. -/
  | pageOutComplete (index : Fin 4194304)
  /-- PAGE_IN_START (R249): A PAGED tile comes within the page-in lead and the atlas starts copying it to a slot. -/
  | pageInStart
  /-- PAGE_IN_COMPLETE (R239): A page-in completes and the tile becomes RESIDENT. -/
  | pageInComplete (index : Fin 4194304)
  /-- ATL_QUARANTINE (R255): A host quarantine command or armed quarantine excludes a pseudo-channel and queues its migration. -/
  | atlQuarantine (m : Master) (value : Word) (env : Env)
  /-- ATL_RELEASE (R256): A write of ATL_QUAR_CTRL.RELEASE clears a pseudo-channel's exclusion and stops its migration after the current step. -/
  | atlRelease (m : Master) (value : Word) (env : Env)
  /-- QUARANTINE_MOVE_STEP (R255): In a budget period the atlas starts a step of up to 64 page moves off a quarantined pseudo-channel. -/
  | quarantineMoveStep (fast : Fin 64)
  /-- MOVE_COMMIT (R255): A moved page's write completes; the new LOCATION is written and QUARANTINE_DONE raised when the channel is empty. -/
  | moveCommit (index : Fin 4194304)
  /-- ATL_CNT_CLEAR (R258): A write to ATL_CNT_CLEAR zeroes the atlas counters and ATL_SLOTS_PEAK. -/
  | atlCntClear (m : Master) (value : Word) (env : Env)
  -- Surveyor cores
  /-- SVY_BASIC_WRITE (R263): A write of UNIT_BASIC.RUN of SVY loads and starts the built-in plan on core 0, or requests its stop. -/
  | svyBasicWrite (m : Master) (value : Word) (env : Env)
  /-- SVY_LOAD (R265): A write of SVY_CORE_CTRL.LOAD starts loading and checking a plan image. -/
  | svyLoad (m : Master) (core : Fin 8) (value : Word) (env : Env)
  /-- PLAN_LOAD_DONE (R265): The image checks finish; the core becomes LOADED or the load is refused with its cause. -/
  | planLoadDone (core : Fin 8)
  /-- SVY_START (R262): A write of SVY_CORE_CTRL.START starts a loaded plan or is refused by mode, state or arithmetic generation. -/
  | svyStart (m : Master) (core : Fin 8) (value : Word) (env : Env)
  /-- SVY_STOP (R286): A write of SVY_CORE_CTRL.STOP requests a stop at the core's next step point. -/
  | svyStop (m : Master) (core : Fin 8) (value : Word) (env : Env)
  /-- SVY_KILL (R286): A write of SVY_CORE_CTRL.KILL requests a kill at the next step point. -/
  | svyKill (m : Master) (core : Fin 8) (value : Word) (env : Env)
  /-- SVY_SUSPEND (R286): A write of SVY_CORE_CTRL.SUSPEND requests parking at the next step point. -/
  | svySuspend (m : Master) (core : Fin 8) (value : Word) (env : Env)
  /-- SVY_RESUME (R286): A write of SVY_CORE_CTRL.RESUME continues a suspended core. -/
  | svyResume (m : Master) (core : Fin 8) (value : Word) (env : Env)
  /-- SVY_UNLOAD (R266): A write of SVY_CORE_CTRL.UNLOAD returns the plan's tiles to ABSENT and empties the core, or is refused. -/
  | svyUnload (m : Master) (core : Fin 8) (value : Word) (env : Env)
  /-- SVY_HOST_ABORT (R285): A write of SVY_CORE_ABORT requests an abort of a handle at the next step point. -/
  | svyHostAbort (m : Master) (core : Fin 8) (value : Word) (env : Env)
  /-- SVY_REG_WRITE (R285): A write of SVY_CORE_REG_LO requests a register write at the next step point. -/
  | svyRegWrite (m : Master) (core : Fin 8) (value : Word) (env : Env)
  /-- STEP_POINT (R285): A core reaches a step point and applies pending host requests. -/
  | stepPoint (core : Fin 8)
  /-- CORE_STOP_COMPLETE (R286): The last in-flight operation of a STOPPING core retires and the core enters HALTED. -/
  | coreStopComplete (core : Fin 8)
  /-- PLAN_WAIT_END (R282): A core waiting in an instruction has its condition met and resumes. -/
  | planWaitEnd (core : Fin 8)
  /-- PLAN_NOP (R270): A surveyor core executes NOP. -/
  | planNop (core : Fin 8)
  /-- PLAN_SET (R270): A surveyor core executes SET. -/
  | planSet (core : Fin 8)
  /-- PLAN_SETHI (R270): A surveyor core executes SETHI. -/
  | planSethi (core : Fin 8)
  /-- PLAN_ADD (R270): A surveyor core executes ADD. -/
  | planAdd (core : Fin 8)
  /-- PLAN_SUB (R270): A surveyor core executes SUB. -/
  | planSub (core : Fin 8)
  /-- PLAN_MUL (R270): A surveyor core executes MUL. -/
  | planMul (core : Fin 8)
  /-- PLAN_AND (R270): A surveyor core executes AND. -/
  | planAnd (core : Fin 8)
  /-- PLAN_OR (R270): A surveyor core executes OR. -/
  | planOr (core : Fin 8)
  /-- PLAN_SHL (R270): A surveyor core executes SHL. -/
  | planShl (core : Fin 8)
  /-- PLAN_SHR (R270): A surveyor core executes SHR. -/
  | planShr (core : Fin 8)
  /-- PLAN_BRANCH (R271): A surveyor core executes BRANCH. -/
  | planBranch (core : Fin 8)
  /-- PLAN_LOOP (R271): A surveyor core executes LOOP. -/
  | planLoop (core : Fin 8)
  /-- PLAN_CALL (R271): A surveyor core executes CALL. -/
  | planCall (core : Fin 8)
  /-- PLAN_RET (R271): A surveyor core executes RET. -/
  | planRet (core : Fin 8)
  /-- PLAN_LOAD (R272): A surveyor core executes LOAD from plan memory or control space. -/
  | planLoad (core : Fin 8)
  /-- PLAN_STORE (R272): A surveyor core executes STORE to plan memory or control space. -/
  | planStore (core : Fin 8) (env : Env)
  /-- PLAN_STREAM (R273): A surveyor core executes STREAM, declaring streams and setting or clearing forerunner slots. -/
  | planStream (core : Fin 8)
  /-- PLAN_SPECTRA (R274): A surveyor core executes SPECTRA, setting the operation window. -/
  | planSpectra (core : Fin 8)
  /-- PLAN_TILESET (R275): A surveyor core executes TILESET, declaring tiles. -/
  | planTileset (core : Fin 8)
  /-- PLAN_BUDGET (R276): A surveyor core executes BUDGET, setting a class share or the core's class. -/
  | planBudget (core : Fin 8)
  /-- PLAN_CORR (R277): A surveyor core executes CORR, issuing a visibility operation. -/
  | planCorr (core : Fin 8)
  /-- PLAN_BEAM (R278): A surveyor core executes BEAM, issuing a beam operation. -/
  | planBeam (core : Fin 8)
  /-- PLAN_MERGE (R279): A surveyor core executes MERGE, binding a handle to an integration. -/
  | planMerge (core : Fin 8)
  /-- PLAN_DUMP (R280): A surveyor core executes DUMP, inserting a DUMP waymark at staging input. -/
  | planDump (core : Fin 8)
  /-- PLAN_MARK (R280): A surveyor core executes MARK, inserting a waymark at the selected point. -/
  | planMark (core : Fin 8)
  /-- PLAN_WAITMARK (R281): A surveyor core executes WAITMARK. -/
  | planWaitmark (core : Fin 8)
  /-- PLAN_WAITIDX (R281): A surveyor core executes WAITIDX. -/
  | planWaitidx (core : Fin 8)
  /-- PLAN_STEP (R285): A surveyor core executes STEP, raising the step count and inserting a STEP waymark. -/
  | planStep (core : Fin 8)
  /-- PLAN_FENCE (R282): A surveyor core executes FENCE. -/
  | planFence (core : Fin 8)
  /-- PLAN_COMMIT (R282): A surveyor core executes COMMIT. -/
  | planCommit (core : Fin 8)
  /-- PLAN_ABORT (R283): A surveyor core executes ABORT of an operation. -/
  | planAbort (core : Fin 8)
  /-- PLAN_HALT (R286): A surveyor core executes HALT, as STOP or KILL. -/
  | planHalt (core : Fin 8)
  /-- SVY_CNT_CLEAR (R86): A write to SVY_CNT_CLEAR zeroes core counters. -/
  | svyCntClear (m : Master) (value : Word) (env : Env)
  -- Trig point
  /-- TRP_BASIC_WRITE (R302): A write of UNIT_BASIC.EN of TRP builds and applies a rule table and starts, or stops, the trig point. -/
  | trpBasicWrite (m : Master) (value : Word) (env : Env)
  /-- TRP_APPLY (R310): A write of TRP_CTRL.APPLY checks the shadow rule program and makes it the program from the next window. -/
  | trpApply (m : Master) (value : Word) (env : Env)
  /-- LEVEL_RESET (R307): A write of TRP_CTRL.LEVEL_RESET returns every running beam to n = 0. -/
  | levelReset (m : Master) (value : Word) (env : Env)
  /-- REP_NEXT (R312): A write of TRP_CTRL.REP_NEXT removes the oldest report. -/
  | repNext (m : Master) (value : Word) (env : Env)
  /-- CAP_RELEASE (R317): A write of TRP_CAP_RELEASE frees one or all capture entries. -/
  | capRelease (m : Master) (value : Word) (env : Env)
  /-- TRP_DIR_RECORD_WRITE (R305): A direction record is written into a trig point bank and delays and weights are derived for its beam. -/
  | trpDirRecordWrite (m : Master) (word : Fin 512) (value : Word) (env : Env)
  /-- TRP_WINDOW (R306): Every running beam completes window k; powers, level, hits and the rule program are evaluated and rules fire. -/
  | trpWindow
  /-- PIN_PULSE_END (R311): A trigger pin pulse's WIDTH ticks expire and the pin returns inactive. -/
  | pinPulseEnd (pin : Fin 8)
  /-- TRP_REPORT (R312): The checks of a firing's frames end and the report is queued, marked SUSPECT or lost. -/
  | trpReport (suspect : Bool)
  /-- TRIG_MARK_TIMEOUT (R313): A TRIG waymark finds no output frame within 10 µs and leaves in its own MARK frame. -/
  | trigMarkTimeout (port : Fin 8)
  /-- RING_FRAME_WRITE (R316): A frame time of trigger streams is written to the HBM ring, or skipped over held records. -/
  | ringFrameWrite
  /-- TRP_CNT_CLEAR (R86): A write to TRP_CNT_CLEAR zeroes the trig point counters. -/
  | trpCntClear (m : Master) (value : Word) (env : Env)
  -- Cadastre
  /-- CAD_BASIC_WRITE (R323): A write of UNIT_BASIC.PROFILE loads a profile into the shadow share table and applies it, or has no effect. -/
  | cadBasicWrite (m : Master) (value : Word) (env : Env)
  /-- CAD_SHARE_WRITE (R326): A write of CAD_SHARE stores a shadow share or is refused. -/
  | cadShareWrite (m : Master) (cls : Fin 16) (res : Fin 12) (value : Word) (env : Env)
  /-- CAD_APPLY (R326): A write of CAD_CTRL.APPLY makes the shadow the pending table or is refused. -/
  | cadApply (m : Master) (value : Word) (env : Env)
  /-- BUDGET_PERIOD (R320): A budget period ends; the pending table commits, tokens are refilled, headroom and utilisation latched, and beacons sent. -/
  | budgetPeriod (count : Nat) (uses : List Use) (peerAct : Bool)
  /-- CAD_CNT_CLEAR (R86): A write to CAD_CNT_CLEAR zeroes counters, peaks and CAD_HEADROOM_MIN. -/
  | cadCntClear (m : Master) (value : Word) (env : Env)
  -- Memory stacks
  /-- HBM_REQUEST (R338): A pseudo-channel accepts one port's request into a bank queue. -/
  | hbmRequest (pc : Fin 64) (presented : List HbmReq)
  /-- HBM_COMMAND_SLOT (R339): At a command slot the controller issues refresh or a bank head's command and returns read data in port order. -/
  | hbmCommandSlot (pc : Fin 64) (banks : List (Fin 64))
  /-- REFRESH_DUE (R341): A bank's refresh interval expires and a refresh becomes due. -/
  | refreshDue (pc : Fin 64)
  /-- STACK_TEMP_REPORT (R341): A stack reports its temperature; refresh doubles at 85 °C and STACK_HOT is raised at 95 °C. -/
  | stackTempReport (stack : Fin 2) (temp : BitVec 8)
  /-- MEM_SR_ENTER (R342): A write of MEM_CTRL.SR_ENTER requests self-refresh entry of a stack, or is refused by mode. -/
  | memSrEnter (m : Master) (stack : Fin 2) (value : Word) (env : Env)
  /-- MEM_SR_EXIT (R343): A write of MEM_CTRL.SR_EXIT requests exit of a stack, cancelling an uncommitted host entry. -/
  | memSrExit (m : Master) (stack : Fin 2) (value : Word) (env : Env)
  /-- SR_IDLE_TIMEOUT (R342): A stack receives no request for the idle time and enters self-refresh. -/
  | srIdleTimeout (stack : Fin 2)
  /-- SR_ENTRY_COMPLETE (R342): A stack's self-refresh entry completes and its clocks stop; a STANDBY entry commits when both stacks are in. -/
  | srEntryComplete (stack : Fin 2)
  /-- SR_EXIT_COMPLETE (R343): A stack's self-refresh exit ends, serving waiting requests; a STANDBY exit commits when both stacks are active. -/
  | srExitComplete (stack : Fin 2) (wait : Fin 1601)
  /-- MEM_TRAIN (R345): A write of MEM_CTRL.TRAIN in CALIBRATE starts full training of every pseudo-channel. -/
  | memTrain (m : Master) (value : Word) (env : Env)
  /-- TRAIN_COMPLETE (R345): A full training of a pseudo-channel ends with a new benchmark, DEGRADED or DEAD. -/
  | trainComplete (pc : Fin 64) (margin : BitVec 16)
  /-- RETRAIN_DUE (R346): A pseudo-channel's retraining period or temperature step falls due and retraining begins. -/
  | retrainDue (pc : Fin 64)
  /-- RETRAIN_STEP (R346): A retraining step runs at least 100 µs after the last, pausing the pseudo-channel and saving and restoring a granule. -/
  | retrainStep (pc : Fin 64) (count : Word) (margin : BitVec 16)
  /-- CE_RATE_SECOND (R347): Each second the corrected-error rate is reported and CE_RATE raised above threshold. -/
  | ceRateSecond
  /-- PATROL_SCRUB (R353): Patrol scrub reads the next unit, corrects or logs errors and raises SCRUB_DONE at the end of a pass. -/
  | patrolScrub
  /-- CMD_PARITY_ERROR (R352): A stack reports a command or write-data parity error; commands are reissued and then failed. -/
  | cmdParityError (pc : Fin 64) (reissues : Nat) (failed : List CmdFail)
  /-- UE_NEXT (R355): A write of MEM_CTRL.UE_NEXT removes the oldest error-log entry. -/
  | ueNext (m : Master) (value : Word) (env : Env)
  /-- RETIRE_GO (R348): A write of MEM_RETIRE.GO starts retiring a pseudo-channel, filling the spare area, or is refused. -/
  | retireGo (m : Master) (value : Word) (env : Env)
  /-- RETIRE_ABORT (R348): A write of MEM_RETIRE.ABORT abandons a retirement or restoration before its commit point. -/
  | retireAbort (m : Master) (value : Word) (env : Env)
  /-- RETIRE_RESTORE (R348): A write of MEM_RETIRE.RESTORE starts copying the spare area back to the retired pseudo-channel. -/
  | retireRestore (m : Master) (value : Word) (env : Env)
  /-- RETIRE_COMMIT (R348): The last copy ends and the address mapping switches, raising PC_RETIRED. -/
  | retireCommit
  /-- MEM_CNT_CLEAR (R86): A write to MEM_CNT_CLEAR zeroes counters and MEM_SR_WAIT_MAX. -/
  | memCntClear (m : Master) (value : Word) (env : Env)
  -- Meridian
  /-- MER_BASIC_WRITE (R381): A write to UNIT_BASIC of MER sets reference nominals, companions, revertive mode and enables outputs. -/
  | merBasicWrite (m : Master) (value : Word) (env : Env)
  /-- MER_SELECT (R362): A write of MER_CTRL.SELECT switches to a named reference entry or is refused. -/
  | merSelect (m : Master) (value : Word) (env : Env)
  /-- REALIGN (R363): A write of MER_CTRL.REALIGN starts slewing the build-out offset to zero. -/
  | realign (m : Master) (value : Word) (env : Env)
  /-- MER_EPOCH_REQUEST (R369): A write of MER_CTRL.EPOCH requests an epoch at a named second or is refused. -/
  | merEpochRequest (m : Master) (value : Word) (env : Env)
  /-- MER_FS_WRITE (R368): A write of MER_FS sets the sample clock and clears IDX_VALID, or is refused. -/
  | merFsWrite (m : Master) (value : Word) (env : Env)
  /-- OFFSET_WRITE (R370): A write of a PPS or frame offset is accepted for the first edge 1 s later or refused. -/
  | offsetWrite (m : Master) (output : Fin 8) (half : Fin 2) (value : Word) (env : Env)
  /-- INTERNAL_PPS_EDGE (R369): At each internal PPS edge the label advances, the epoch is applied or dropped, time of day latched and offsets and increments take effect. -/
  | internalPpsEdge
  /-- REF_SECOND (R359): Each second the meridian measures every entry's frequency and drift, updates qualification, WTR and disagreement, and switches if armed. -/
  | refSecond (a b c d twin : RefMeas) (y phase : Int)
  /-- REF_EDGE_LOSS (R359): An entry shows no edge for 1 µs, or its companion edge is absent or misplaced, and it is disqualified. -/
  | refEdgeLoss (entry : Fin 5) (companion : Bool)
  /-- IRIG_FRAME (R377): An IRIG-B frame is decoded or discarded with IRIG_ERROR. -/
  | irigFrame (entry : Fin 4) (f : Irig)
  /-- BUILDOUT_LATCH (R363): A switch latches its build-out offset at its commit point. -/
  | buildoutLatch (steps : BitVec 40)
  /-- LOOP_BW_STEP (R366): After the acquisition time or each 4 s the loop bandwidth halves or doubles, reaching LOCKED. -/
  | loopBwStep (phase : Int)
  -- Time service
  /-- TIM_BASIC_WRITE (R382): A write to UNIT_BASIC of TIM sets the source, IRIG entry and PTP domain enables. -/
  | timBasicWrite (m : Master) (value : Word) (env : Env)
  /-- SEC_SET (R373): A write of TIM_CTRL.SEC_SET loads a second label at the next edge. -/
  | secSet (m : Master) (value : Word) (env : Env)
  /-- TOD_SET (R378): A write of TIM_CTRL.TOD_SET loads the time of day at the next edge. -/
  | todSet (m : Master) (value : Word) (env : Env)
  /-- PTP_ACCEPT (R375): A write of TIM_CTRL.ACCEPT adopts a held domain's new median path delay. -/
  | ptpAccept (m : Master) (value : Word) (env : Env)
  /-- PTP_RESET (R375): A write of TIM_CTRL.RESET returns a domain to LISTENING. -/
  | ptpReset (m : Master) (value : Word) (env : Env)
  /-- TIM_SELECT (R376): A write of TIM_CTRL.SELECT changes the naming source from the next edge. -/
  | timSelect (m : Master) (value : Word) (env : Env)
  /-- INCR_HI_WRITE (R378): A write of TIM_INCR_HI holds the whole-nanosecond part of a new increment. -/
  | incrHiWrite (m : Master) (value : Word) (env : Env)
  /-- INCR_LO_WRITE (R378): A write of TIM_INCR_LO commits the increment pair for the next edge or refuses it. -/
  | incrLoWrite (m : Master) (value : Word) (env : Env)
  /-- EVT_CFG_WRITE (R379): A write of TIM_EVT_CFG enables or disables an event output, refusing a passed single pulse with EVT_LATE. -/
  | evtCfgWrite (m : Master) (output : Fin 4) (value : Word) (env : Env)
  /-- PTP_MESSAGE_RX (R374): A PTP message arrives; offsets, path delay medians, domain states and grandmaster changes are updated. -/
  | ptpMessageRx (domain : Fin 2) (msg : PtpMsg)
  /-- TIM_CNT_CLEAR (R86): A write to TIM_CNT_CLEAR zeroes the time service counters. -/
  | timCntClear (m : Master) (value : Word) (env : Env)
  -- Control matrix and host ports
  /-- MATRIX_BURST (R385): A master's burst is granted at a target port and its beats are delivered and answered. -/
  | matrixBurst (m : Master) (addr : Word) (write : Bool) (lock : Bool) (total : Fin 17) (beats : List (List Strobe)) (env : Env)
  /-- TARGET_TIMEOUT (R388): A target has not answered within 10 µs and is answered SLVERR on its behalf. -/
  | targetTimeout (m : Master) (addr : Word) (write : Bool)
  /-- MASTER_RESET (R389): A master is reset during a burst; the matrix finishes the burst and raises BURST_RESET. -/
  | masterReset (m : Master)
  /-- LOCK_EXPIRY (R390): A locked sequence reaches 64 handshakes after its read and the lock ends. -/
  | lockExpiry
  /-- PCIE_CONFIG_REQUEST (R392): A PCI Express configuration request arrives and is answered, with retry status before 100 ms. -/
  | pcieConfigRequest (early : Bool) (bars : Option Bool) (msix : Option Bool)
  /-- PCIE_LINK (R392): The PCIe link trains below full rate or width, or goes down, and PCIE_LINK is raised. -/
  | pcieLink (rate : Fin 6) (width : Fin 9)
  /-- BAR0_READ (R393): A BAR0 read enters the matrix at M0 and completes as success, Unsupported Request or Completer Abort. -/
  | bar0Read (addr : Word) (words : List Strobe) (env : Env)
  /-- BAR0_WRITE (R393): A posted BAR0 write enters the matrix; an error is counted and raises WRITE_ERR. -/
  | bar0Write (addr : Word) (words : List Strobe) (env : Env)
  /-- BAR2_READ (R395): A BAR2 read goes to HBM on P5 or to the tile-store window and completes, poisoned or unsupported on error. -/
  | bar2Read (addr : BitVec 36) (len : Fin 4097)
  /-- BAR2_WRITE (R395): A BAR2 write goes to HBM on P5, or is refused and counted with BAR2_ERR. -/
  | bar2Write (addr : BitVec 36) (data : List Byte)
  /-- MSIX_VECTOR_UNMASK (R397): A masked MSI-X vector with its pending bit set is unmasked and sent. -/
  | msixVectorUnmask (vector : Fin 256) (env : Env)
  /-- MBOX_ABORT (R400): A write of CMX_MBOX_ABORT aborts a stepped command before its commit point or is answered ALREADY_DONE. -/
  | mboxAbort (m : Master) (channel : Fin 3) (value : Word) (env : Env)
  /-- GET_INFO (R400): Mailbox command GET_INFO returns chip identity, stepping, firmware version, mode and generation. -/
  | getInfo (channel : Fin 3) (env : Env)
  /-- SET_MODE (R412): Mailbox command SET_MODE requests a mode transition. -/
  | setMode (channel : Fin 3) (mode : Word) (env : Env)
  /-- APPLY_REFERENCE (R490): Mailbox command APPLY_REFERENCE writes every UNIT_BASIC at reset value with GRT PRESET 2, stopping at a refusal. -/
  | applyReference (channel : Fin 3) (env : Env)
  /-- SET_EPOCH (R369): Mailbox command SET_EPOCH requests an epoch at a named second. -/
  | setEpoch (channel : Fin 3) (label : BitVec 64) (env : Env)
  /-- SELECT_REF (R362): Mailbox command SELECT_REF selects a reference entry. -/
  | selectRef (channel : Fin 3) (entry : Word) (env : Env)
  /-- PLAN_RUN (R263): Mailbox command PLAN_RUN sets INTEG_BLOCKS and starts the built-in plan. -/
  | planRun (channel : Fin 3) (blocks : Word) (env : Env)
  /-- PLAN_STOP (R490): Mailbox command PLAN_STOP stops core 0, stepped until HALTED. -/
  | planStop (channel : Fin 3) (env : Env)
  /-- DRAIN (R206): Mailbox command DRAIN makes a host drain of a plan. -/
  | drain (channel : Fin 3) (plan : Word) (arg : Word) (env : Env)
  /-- HALT_SCOPE (R62): Mailbox command HALT_SCOPE makes a HALT waymark with FLAGS.HOST at ingress. -/
  | haltScope (channel : Fin 3) (scope : Word) (anchor : BitVec 64) (env : Env)
  /-- RESUME_SCOPE (R62): Mailbox command RESUME_SCOPE makes a RESUME waymark with FLAGS.HOST at ingress. -/
  | resumeScope (channel : Fin 3) (scope : Word) (anchor : BitVec 64) (env : Env)
  /-- READ_LOG (R440): Mailbox command READ_LOG returns the next unread log record and advances the read index, or EMPTY. -/
  | readLog (channel : Fin 3) (env : Env)
  /-- ARM (R400): Mailbox command ARM writes a unit's UNIT_ARM. -/
  | arm (channel : Fin 3) (unit : Word) (value : Word) (env : Env)
  /-- TRAIN (R490): Mailbox command TRAIN adapts every enabled lane and fully trains every pseudo-channel in CALIBRATE, stepped. -/
  | train (channel : Fin 3) (env : Env)
  /-- SET_VCORE (R406): Mailbox command SET_VCORE writes CMX_PMB_VOUT. -/
  | setVcore (channel : Fin 3) (mv : Word) (env : Env)
  /-- UPDATE_WRITE (R457): UPDATE sub-command WRITE checks a package and writes it to the inactive slot, stepped. -/
  | updateWrite (channel : Fin 3) (addr : BitVec 64) (len : Word) (env : Env)
  /-- UPDATE_TRIAL (R455): UPDATE sub-command TRIAL marks a VALID slot TRIAL and starts a warm boot. -/
  | updateTrial (channel : Fin 3) (env : Env)
  /-- UPDATE_CONFIRM (R456): UPDATE sub-command CONFIRM raises FW_FLOOR and confirms the running trial slot. -/
  | updateConfirm (channel : Fin 3) (force : Bool) (env : Env)
  /-- UPDATE_REJECT (R455): UPDATE sub-command REJECT marks the running trial slot REJECTED and boots the confirmed slot. -/
  | updateReject (channel : Fin 3) (env : Env)
  /-- UPDATE_STATUS (R457): UPDATE sub-command STATUS returns trust state, slot status and versions. -/
  | updateStatus (channel : Fin 3) (env : Env)
  /-- UPDATE_TICKET (R462): UPDATE sub-command TICKET installs a plan ticket, the owner key or a policy change. -/
  | updateTicket (channel : Fin 3) (addr : BitVec 64) (len : Word) (env : Env)
  /-- UPDATE_SAFE_WRITE (R457): UPDATE sub-command SAFE_WRITE writes a SAFE package into the SAFE region in READY. -/
  | updateSafeWrite (channel : Fin 3) (addr : BitVec 64) (len : Word) (env : Env)
  /-- UPDATE_KEYFLOOR_REVOKE (R448): UPDATE sub-command KEYFLOOR or REVOKE applies a root-signed key floor or root revocation. -/
  | updateKeyfloorRevoke (channel : Fin 3) (addr : BitVec 64) (len : Word) (env : Env)
  /-- SURVEY (R423): Mailbox command SURVEY enters CLOSING and runs the closing survey. -/
  | survey (channel : Fin 3) (env : Env)
  /-- TAKEOVER (R435): Mailbox command TAKEOVER makes a standby in SHADOW take over, or returns WRONG_MODE. -/
  | takeover (channel : Fin 3) (env : Env)
  /-- MGT_MBOX_REQUEST (R402): A mailbox request datagram arrives on the management port and is executed, repeated or denied. -/
  | mgtMboxRequest (port : BitVec 16) (data : List Byte) (env : Env)
  /-- MGT_PACKET_RX (R401): A packet arrives on the management port and is answered for ARP, neighbour discovery or echo, or discarded. -/
  | mgtPacketRx (pkt : MgtPkt)
  /-- SMB_READ_WORD (R403): SMBus Read Word returns mode and highest sensor temperature. -/
  | smbReadWord (addr : BitVec 7)
  /-- SMB_BLOCK_WRITE (R403): SMBus Block Write delivers a channel 2 mailbox request. -/
  | smbBlockWrite (addr : BitVec 7) (data : List Byte) (pec : Option Byte) (env : Env)
  /-- SMB_BLOCK_READ (R403): SMBus Block Read returns the channel 2 reply. -/
  | smbBlockRead (addr : BitVec 7)
  /-- PMB_VOUT_WRITE (R406): A write of CMX_PMB_VOUT sends VOUT_COMMAND to the regulator or is refused. -/
  | pmbVoutWrite (m : Master) (value : Word) (env : Env)
  /-- PMBUS_POLL (R405): Each second the PMBus controller reads voltage, current and status, and an armed AVS steps VOUT. -/
  | pmbusPoll (failed : Option (BitVec 8 × Bool)) (vout : BitVec 10) (iout : BitVec 20) (status : BitVec 16)
  /-- WDOG_KICK (R407): A write of CMX_WDOG.KICK restarts the watchdog timeout. -/
  | wdogKick (m : Master) (value : Word) (env : Env)
  /-- WDOG_EXPIRED (R407): The watchdog times out; WDOG_EXPIRED is raised and an armed reset restarts the management core. -/
  | wdogExpired (pc : Word)
  /-- TAP_INSTRUCTION (R408): A test access port instruction is loaded and executed, or treated as BYPASS. -/
  | tapInstruction (instruction : TapInstr)
  /-- CMX_CNT_CLEAR (R86): A write to CMX_CNT_CLEAR zeroes the matrix counters. -/
  | cmxCntClear (m : Master) (value : Word) (env : Env)
  -- Modes, survey, twins and health
  /-- MODE_CTRL_GO (R412): A write of HLT_MODE_CTRL with GO requests a mode transition. -/
  | modeCtrlGo (m : Master) (value : Word) (env : Env)
  /-- MODE_CTRL_ABORT (R413): A write of HLT_MODE_CTRL.ABORT undoes a transition before its commit point. -/
  | modeCtrlAbort (m : Master) (value : Word) (env : Env)
  /-- READY_EXIT_PROGRESS (R415): During a data mode to READY transition, a drain, core halt or TAIL completes and the next exit step runs. -/
  | readyExitProgress
  /-- SURVEY_STEP_COMPLETE (R425): A survey or start-test step ends; its result word is recorded and the next step or the end follows. -/
  | surveyStepComplete (word : BitVec 64) (expected : BitVec 64)
  /-- SURVEY_CUT (R426): A write of HLT_SURVEY_CTRL.CUT ends the survey or start tests after the step in progress. -/
  | surveyCut (m : Master) (value : Word) (env : Env)
  /-- BEACON_LOST (R435): A standby receives no beacon for three budget periods and raises BEACON_LOST, taking over if armed. -/
  | beaconLost (peerAct : Bool)
  /-- TWIN_CTRL_TAKEOVER (R436): A write of HLT_TWIN_CTRL.TAKEOVER makes a standby take over. -/
  | twinCtrlTakeover (m : Master) (value : Word) (env : Env)
  /-- TWIN_CTRL_ABORT (R436): A write of HLT_TWIN_CTRL.ABORT undoes a takeover before its commit point. -/
  | twinCtrlAbort (m : Master) (value : Word) (env : Env)
  /-- PEER_ACT_RISE (R437): TWIN_PEER_ACT rises while TWIN_ACT is high and the later part yields to SHADOW. -/
  | peerActRise
  /-- HANDOVER_TIMEOUT (R437): The peer does not rise within 100 ms of HANDOVER; HANDOVER clears and SET_MODE returns FAILED. -/
  | handoverTimeout
  /-- SWITCHBACK_HOLD_EXPIRY (R438): A side-A standby holds SHADOW cleanly for HLT_TWIN_HOLD and sets REVERT_REQ. -/
  | switchbackHoldExpiry
  /-- REVERT_DELAY_EXPIRY (R438): Two budget periods after REVERT_REQ the side-A standby takes over. -/
  | revertDelayExpiry
  /-- SIG_MISSING_TIMEOUT (R434): A signature element has no counterpart 2 s after the other side's and is counted missing. -/
  | sigMissingTimeout (own : Bool)
  /-- AAT_FIRE (R442): An armed-action table entry reaches its count and performs its action once. -/
  | aatFire (env : Env)
  /-- LOG_RECORD_WRITE (R439): The log writer stores the oldest queued record in the next slot of the settings store. -/
  | logRecordWrite
  /-- LOG_READ_WRITE (R440): A write of HLT_LOG_READ selects a slot or is refused for a slot never written. -/
  | logReadWrite (m : Master) (value : Word) (env : Env)
  /-- HLT_BASIC_WRITE (R447): A write to UNIT_BASIC of HLT sets twin enable, side, revert and minimum severity, refused outside READY if [2:0] change. -/
  | hltBasicWrite (m : Master) (value : Word) (env : Env)
  /-- HLT_CNT_CLEAR (R447): A write to HLT_CNT_CLEAR zeroes the health counters and HLT_LOG_LOST. -/
  | hltCntClear (m : Master) (value : Word) (env : Env)
  -- Trust
  /-- DEBUG_TOKEN_WRITE (R463): A host write of a debug token in SAFE is checked and opens debug for M3. -/
  | debugTokenWrite (m : Master) (word : Fin 52) (value : Word) (env : Env)
  /-- REC_DATA_WRITE (R452): A write of TRU_REC_DATA adds a word of a recovery package to the staging area. -/
  | recDataWrite (m : Master) (value : Word) (env : Env)
  /-- REC_GO (R452): A write of TRU_REC_CTRL.GO verifies a SAFE recovery package, copies it and boots it. -/
  | recGo (m : Master) (value : Word) (env : Env)
  -- Further events
  /-- BLOCK_LOCK_RESTORED (R84): A lane's receiver regains block lock after a loss shorter than 1 µs, and RX_LOCK is set again without LANE_DOWN. -/
  | blockLockRestored (lane : Fin 96)
  /-- DOMAIN_LEAVES_SLAVE (R376): A PTP domain leaves SLAVE when its master falls silent, and the part switches domain if armed or raises DOMAIN_LOST. -/
  | domainLeavesSlave (domain : Fin 2)
  /-- EVT_OUT_PULSE (R379): The sample index reaches TIM_EVT_START plus m times TIM_EVT_PERIOD, EVT_OUTk pulses and TIM_EVT_COUNT rises. -/
  | evtOutPulse (output : Fin 4)
  /-- FLASH_PROGRAM_END (R457): A flash erase or program started by the trust unit ends, CMX_FLASH_STATUS.BUSY clears, and the slot write goes on to read-back and its commit point. -/
  | flashProgramEnd (good : Bool)
  /-- SLEW_END (R363): The build-out offset being slewed by REALIGN reaches zero and MER_STATE.SLEWING clears. -/
  | slewEnd
  deriving DecidableEq, Repr

end Sys2Proof
end

