-- ==== Sys2Proof/Decode.lean ====
section
/-!
DEFINITION. The opcode table of this part gives its rows no bits: its commands are register accesses, port events and
time events, not words. So no word spells a command.
-/

namespace Sys2Proof

/-- The command that a word spells by the table's bits: the table gives no row any bits. -/
def decodeTableWord (_nbits _w : Nat) : Option Instr := none

end Sys2Proof
end

