-- ==== Sys2Proof/Machine/Bits.lean ====
section
/-!
DEFINITION. Bit fields, sign extension, byte order and sparse maps in canonical form. A sparse map is a list of
(key, value) pairs with strictly rising keys and no value equal to what an unlisted key reads as, so that equal maps are
equal lists.
-/

namespace Sys2Proof.Machine

/-- The `w` bits of `n` from bit `lo`. -/
def bits (n lo w : Nat) : Nat := (n >>> lo) % 2 ^ w

/-- Bit `i` of `n`. -/
def bit (n i : Nat) : Bool := (n >>> i) % 2 = 1

/-- `n` with the `w` bits from `lo` replaced by the low `w` bits of `v`. -/
def setBits (n lo w v : Nat) : Nat := n - (bits n lo w <<< lo) + ((v % 2 ^ w) <<< lo)

/-- One bit as a number. -/
def b2n (b : Bool) : Nat := if b then 1 else 0

/-- The signed value of the low `w` bits of `n`, two's complement. -/
def sext (w n : Nat) : Int :=
  let m := n % 2 ^ w
  if 2 * m < 2 ^ w then (m : Int) else (m : Int) - (2 ^ w : Nat)

/-- The low `w` bits of `z`, two's complement. -/
def toU (w : Nat) (z : Int) : Nat := (z % ((2 ^ w : Nat) : Int)).toNat

/-- `z` clamped to `[lo, hi]`. -/
def clampI (lo hi z : Int) : Int := if z < lo then lo else if hi < z then hi else z

/-- `z` saturated to a signed field of `w` bits. -/
def satS (w : Nat) (z : Int) : Int := clampI (-((2 ^ (w - 1) : Nat) : Int)) (((2 ^ (w - 1) : Nat) : Int) - 1) z

/-- `z` wrapped to a signed field of `w` bits. -/
def wrapS (w : Nat) (z : Int) : Int := sext w (toU w z)

/-- `n / d` rounded to the nearest integer, ties to even (`d > 0`). -/
def rneDiv (n : Int) (d : Nat) : Int :=
  let q := n / (d : Int)
  let r := n % (d : Int)
  if 2 * r < d then q else if (d : Int) < 2 * r then q + 1 else if q % 2 = 0 then q else q + 1

/-- `round_half_even(z / 2^k)`. -/
def rneShift (z : Int) (k : Nat) : Int := rneDiv z (2 ^ k)

/-- Modulo-2^64 truncation of a natural number. -/
def u64 (n : Nat) : Nat := n % 2 ^ 64

/-- All ones in 64 bits: the anchor value that means now (R49). -/
def nowAnchor : Nat := 0xFFFFFFFFFFFFFFFF

/-- The least multiple of `d` at or above `n` (`d > 0`). -/
def ceilTo (n d : Nat) : Nat := if d = 0 then n else ((n + d - 1) / d) * d

/-- `⌈n / d⌉` (`d > 0`). -/
def ceilDiv (n d : Nat) : Nat := if d = 0 then 0 else (n + d - 1) / d

/-- Little-endian bytes of `n`, `k` of them (R31). -/
def leBytes : Nat → Nat → List Byte
  | 0, _ => []
  | k + 1, n => BitVec.ofNat 8 n :: leBytes k (n / 256)

/-- The number whose little-endian bytes are given (R31). -/
def ofLe : List Byte → Nat
  | [] => 0
  | b :: t => b.toNat + 256 * ofLe t

/-- Position of an element for which `p` holds. -/
def findIdx? {α : Type} (p : α → Bool) : List α → Option Nat
  | [] => none
  | a :: t => if p a then some 0 else (findIdx? p t).map (· + 1)

/-- The list with element `i` replaced. -/
def setAt {α : Type} : List α → Nat → α → List α
  | [], _, _ => []
  | _ :: t, 0, v => v :: t
  | a :: t, i + 1, v => a :: setAt t i v

/-- The numbers `lo, lo + 1, …` of count `n`. -/
def rangeFrom : Nat → Nat → List Nat
  | _, 0 => []
  | lo, n + 1 => lo :: rangeFrom (lo + 1) n

/-- The indices of the set bits of an `n`-bit mask, in ascending order. -/
def maskList (n mask : Nat) : List Nat := (List.range n).filter (fun i => bit mask i)

/-- Run `f` over a list, threading the state. -/
def foldS {σ α : Type} (f : α → σ → σ) : List α → σ → σ
  | [], s => s
  | a :: t, s => foldS f t (f a s)

/-! ### Sparse maps -/

/-- Value at key `k`; `d` where the key is unlisted. -/
def sget {α : Type} (d : α) : List (Nat × α) → Nat → α
  | [], _ => d
  | (a, v) :: t, k => if a = k then v else sget d t k

/-- The map with key `k` removed. -/
def sdel {α : Type} : List (Nat × α) → Nat → List (Nat × α)
  | [], _ => []
  | (a, v) :: t, k => if a = k then sdel t k else (a, v) :: sdel t k

/-- The map with key `k` listed as `v`. -/
def sins {α : Type} : List (Nat × α) → Nat → α → List (Nat × α)
  | [], k, v => [(k, v)]
  | (a, w) :: t, k, v => if a = k then (k, v) :: t else if k < a then (k, v) :: (a, w) :: t else (a, w) :: sins t k v

/-- The map with key `k` reading `v`; an entry equal to the default `d` is not listed. -/
def sset {α : Type} [DecidableEq α] (d : α) (m : List (Nat × α)) (k : Nat) (v : α) : List (Nat × α) :=
  if v = d then sdel m k else sins m k v

/-- The canonical form: strictly rising keys, no entry equal to what its key reads as unlisted. -/
def smapWf {α : Type} [DecidableEq α] (d : Nat → α) : List (Nat × α) → Bool
  | [] => true
  | [(a, v)] => decide (v ≠ d a)
  | (a, v) :: (b, w) :: t => decide (v ≠ d a) && decide (a < b) && smapWf d ((b, w) :: t)

end Sys2Proof.Machine
end

