-- ==== Sys2Proof/Machine/Arith.lean ====
section
/-!
DEFINITION. The arithmetic that several units share: the check-value engine (R77), the sine table (R92), IEEE 754
binary16, binary32 and binary64 with round-to-nearest-even, and SHA-512.
-/

namespace Sys2Proof.Machine

/-! ### Check values (R77, Table 3.5, Table 3.6) -/

/-- The parameters of a check-value engine (Table 3.5). -/
structure CrcCfg where
  width : Nat
  poly : Nat
  init : Nat
  refin : Bool
  refout : Bool
  xorout : Nat
  deriving DecidableEq, Repr

/-- The low `w` bits of `n` in reverse order. -/
def reflect : Nat → Nat → Nat
  | 0, _ => 0
  | w + 1, n => (n % 2) * 2 ^ w + reflect w (n / 2)

/-- `k` shifts of the register. -/
def crcShift (w poly : Nat) : Nat → Nat → Nat
  | 0, crc => crc
  | k + 1, crc =>
    crcShift w poly k (if bit crc (w - 1) then ((crc * 2) ^^^ poly) % 2 ^ w else (crc * 2) % 2 ^ w)

/-- The register after the bytes of a payload. -/
def crcRun (c : CrcCfg) : List Byte → Nat → Nat
  | [], crc => crc
  | b :: t, crc =>
    let v := if c.refin then reflect 8 b.toNat else b.toNat
    crcRun c t (crcShift c.width c.poly 8 (crc ^^^ (v <<< (c.width - 8))))

/-- The check value over a payload (R77). -/
def crc (c : CrcCfg) (bs : List Byte) : Nat :=
  let r := crcRun c bs c.init
  (if c.refout then reflect c.width r else r) ^^^ c.xorout

/-! The rows of Table 3.6 that the part uses. -/
def crc8 : CrcCfg := ⟨8, 0x07, 0, false, false, 0⟩
def crc16IBM3740 : CrcCfg := ⟨16, 0x1021, 0xFFFF, false, false, 0⟩
def crc32ISO : CrcCfg := ⟨32, 0x04C11DB7, 0xFFFFFFFF, true, true, 0xFFFFFFFF⟩
def crc32C : CrcCfg := ⟨32, 0x1EDC6F41, 0xFFFFFFFF, true, true, 0xFFFFFFFF⟩
def crc64XZ : CrcCfg := ⟨64, 0x42F0E1EBA9EA3693, 0xFFFFFFFFFFFFFFFF, true, true, 0xFFFFFFFFFFFFFFFF⟩

/-! ### The sine table of R92 -/

/-- π scaled by 2^96. -/
def piFix : Nat := 248902613312231085230521944622

/-- Terms of the alternating series of sine or cosine at `x` (scaled by 2^96): term `t`, next divisor `n (n + 1)`. -/
def trigSeries (x2 : Nat) : Nat → Nat → Nat → Int
  | 0, _, _ => 0
  | k + 1, t, n => (t : Int) - trigSeries x2 k (t * x2 / 2 ^ 96 / (n * (n + 1))) (n + 2)

/-- `cos` and `sin` of an angle in the first octant, scaled by 2^96. -/
def cosFix (x : Nat) : Int := trigSeries (x * x / 2 ^ 96) 16 (2 ^ 96) 1
def sinFix (x : Nat) : Int := trigSeries (x * x / 2 ^ 96) 16 x 2

/-- `round_half_even(131,071 · v)` of a value scaled by 2^96. -/
def trigRound (v : Int) : Int := rneDiv (131071 * v) (2 ^ 96)

/-- Cosine and sine of `2πk / 65,536` for `k ≤ 8,192`, as table entries. -/
def octant (k : Nat) : Int × Int :=
  let x := 2 * piFix * k / 65536
  (trigRound (cosFix x), trigRound (sinFix x))

/-- `(C[k], S[k])`: `round_half_even(131,071 · cos(2πk / 65,536))` and the same of sine (R92). -/
def trig (k : Nat) : Int × Int :=
  let k := k % 65536
  let q := k / 16384
  let r := k % 16384
  let (c, s) := if r ≤ 8192 then octant r else let (s, c) := octant (16384 - r); (c, s)
  match q with
  | 0 => (c, s)
  | 1 => (-s, c)
  | 2 => (-c, -s)
  | _ => (s, -c)

/-! ### Floating point (IEEE 754-2019, round to nearest even) -/

/-- A floating-point datum; a finite one is `(-1)^s · m · 2^e`. -/
inductive Fl where
  | fin (s : Bool) (m : Nat) (e : Int)
  | inf (s : Bool)
  | nan
  deriving DecidableEq, Repr

/-- An interchange format: exponent width and trailing significand width. -/
structure FlFmt where
  ew : Nat
  tw : Nat
  deriving DecidableEq, Repr

def fmt16 : FlFmt := ⟨5, 10⟩
def fmt32 : FlFmt := ⟨8, 23⟩
def fmt64 : FlFmt := ⟨11, 52⟩

/-- Exponent bias. -/
def FlFmt.bias (f : FlFmt) : Int := 2 ^ (f.ew - 1) - 1

/-- The datum that an encoding holds. -/
def decodeFl (f : FlFmt) (n : Nat) : Fl :=
  let t := n % 2 ^ f.tw
  let x := (n / 2 ^ f.tw) % 2 ^ f.ew
  let s := bit n (f.tw + f.ew)
  if x = 2 ^ f.ew - 1 then (if t = 0 then .inf s else .nan)
  else if x = 0 then .fin s t (1 - f.bias - f.tw)
  else .fin s (t + 2 ^ f.tw) ((x : Int) - f.bias - f.tw)

/-- Shift a magnitude so that its unit is `2^q`, rounding to nearest even. -/
def alignMag (m : Nat) (e q : Int) : Nat :=
  if q ≤ e then m * 2 ^ (e - q).toNat else (rneDiv m (2 ^ (q - e).toNat)).toNat

/-- The encoding of a datum, rounded to nearest even; the default quiet NaN for a NaN. -/
def encodeFl (f : FlFmt) : Fl → Nat
  | .nan => (2 ^ f.ew - 1) * 2 ^ f.tw + 2 ^ (f.tw - 1)
  | .inf s => b2n s * 2 ^ (f.tw + f.ew) + (2 ^ f.ew - 1) * 2 ^ f.tw
  | .fin s m e =>
    let sg := b2n s * 2 ^ (f.tw + f.ew)
    if m = 0 then sg
    else
      let top : Int := e + Nat.log2 m
      let q : Int := max (top - f.tw) (1 - f.bias - f.tw)
      let mant := alignMag m e q
      let x := ((q + f.tw + f.bias).toNat) * 2 ^ f.tw + mant - 2 ^ f.tw
      if (2 ^ f.ew - 1) * 2 ^ f.tw ≤ x then sg + (2 ^ f.ew - 1) * 2 ^ f.tw else sg + x

/-- Sum, exact. -/
def Fl.add : Fl → Fl → Fl
  | .nan, _ => .nan
  | _, .nan => .nan
  | .inf s, .inf t => if s = t then .inf s else .nan
  | .inf s, _ => .inf s
  | _, .inf s => .inf s
  | .fin s m e, .fin t n g =>
    let k := min e g
    let a : Int := (if s then -1 else 1) * ((m * 2 ^ (e - k).toNat : Nat) : Int)
    let b : Int := (if t then -1 else 1) * ((n * 2 ^ (g - k).toNat : Nat) : Int)
    let z := a + b
    if z = 0 then .fin (s && t) 0 k else .fin (decide (z < 0)) z.natAbs k

/-- Negation. -/
def Fl.neg : Fl → Fl
  | .nan => .nan
  | .inf s => .inf !s
  | .fin s m e => .fin (!s) m e

/-- Product, exact. -/
def Fl.mul : Fl → Fl → Fl
  | .nan, _ => .nan
  | _, .nan => .nan
  | .inf s, .inf t => .inf (s != t)
  | .inf s, .fin t m _ => if m = 0 then .nan else .inf (s != t)
  | .fin t m _, .inf s => if m = 0 then .nan else .inf (s != t)
  | .fin s m e, .fin t n g => .fin (s != t) (m * n) (e + g)

/-- Quotient, carried to 160 bits with a sticky bit, so that one rounding to any of the three formats is exact. -/
def Fl.div : Fl → Fl → Fl
  | .nan, _ => .nan
  | _, .nan => .nan
  | .inf _, .inf _ => .nan
  | .inf s, .fin t _ _ => .inf (s != t)
  | .fin s _ _, .inf t => .fin (s != t) 0 0
  | .fin s m e, .fin t n g =>
    if n = 0 then (if m = 0 then .nan else .inf (s != t))
    else
      let a := m * 2 ^ 160
      let q := a / n
      let r := a % n
      .fin (s != t) (2 * q + (if r = 0 then 0 else 1)) (e - g - 161)

/-- The datum of an integer. -/
def Fl.ofInt (z : Int) : Fl := .fin (decide (z < 0)) z.natAbs 0

/-- The largest finite magnitude of a format. -/
def FlFmt.maxFinite (f : FlFmt) : Nat := (2 ^ f.ew - 1) * 2 ^ f.tw - 1

/-- `round(x)` in a format. -/
def Fl.rnd (f : FlFmt) (x : Fl) : Fl := decodeFl f (encodeFl f x)

/-- Operations on encodings: each one rounding (IEEE 754). -/
def fAdd (f : FlFmt) (a b : Nat) : Nat := encodeFl f ((decodeFl f a).add (decodeFl f b))
def fSub (f : FlFmt) (a b : Nat) : Nat := encodeFl f ((decodeFl f a).add (decodeFl f b).neg)
def fMul (f : FlFmt) (a b : Nat) : Nat := encodeFl f ((decodeFl f a).mul (decodeFl f b))
def fDiv (f : FlFmt) (a b : Nat) : Nat := encodeFl f ((decodeFl f a).div (decodeFl f b))
def fOfInt (f : FlFmt) (z : Int) : Nat := encodeFl f (Fl.ofInt z)

/-- Is the datum finite? -/
def Fl.isFin : Fl → Bool
  | .fin _ _ _ => true
  | _ => false

/-- `a ≤ b`, of finite or infinite data; false with a NaN. -/
def Fl.le (a b : Fl) : Bool :=
  match a, b with
  | .nan, _ => false
  | _, .nan => false
  | .inf true, _ => true
  | _, .inf false => true
  | .inf false, _ => false
  | _, .inf true => false
  | .fin s m e, .fin t n g =>
    let k := min e g
    decide ((if s then (-1 : Int) else 1) * ((m * 2 ^ (e - k).toNat : Nat) : Int)
      ≤ (if t then (-1 : Int) else 1) * ((n * 2 ^ (g - k).toNat : Nat) : Int))

/-- `a < b`. -/
def Fl.lt (a b : Fl) : Bool := a.le b && !(b.le a)

/-- The exact value of a finite datum as a fraction with a positive denominator. -/
def Fl.frac : Fl → Int × Nat
  | .fin s m e =>
    let z : Int := if s then -(m : Int) else m
    if 0 ≤ e then (z * (2 ^ e.toNat : Nat), 1) else (z, 2 ^ (-e).toNat)
  | _ => (0, 1)

/-! ### SHA-512 (FIPS 180-4) -/

/-- The first `n` primes' fractional-root words are fixed constants; `isqrt`-like roots give them exactly. -/
def rootFloor (k n : Nat) : Nat → Nat → Nat → Nat
  | 0, lo, _ => lo
  | f + 1, lo, hi =>
    if hi ≤ lo + 1 then lo
    else
      let mid := (lo + hi) / 2
      if mid ^ k ≤ n then rootFloor k n f mid hi else rootFloor k n f lo mid

def isPrimeNat (n : Nat) : Bool := decide (2 ≤ n) && (List.range n).all (fun d => decide (d < 2) || decide (n % d ≠ 0))

def primesUpTo (n : Nat) : List Nat := (List.range (n + 1)).filter isPrimeNat

/-- The 80 round constants: the first 64 fractional bits of the cube roots of the first 80 primes. -/
def sha512K : List Nat := (primesUpTo 409).map (fun p => rootFloor 3 (p * 2 ^ 192) 80 0 (2 ^ 68) % 2 ^ 64)

/-- The initial hash: the first 64 fractional bits of the square roots of the first 8 primes. -/
def sha512H : List Nat := (primesUpTo 19).map (fun p => rootFloor 2 (p * 2 ^ 128) 80 0 (2 ^ 68) % 2 ^ 64)

def rotr64 (x n : Nat) : Nat := (x >>> n) ||| ((x <<< (64 - n)) % 2 ^ 64)

/-- Big-endian bytes of `n`. -/
def beBytes (k n : Nat) : List Byte := (leBytes k n).reverse

/-- The number whose big-endian bytes are given. -/
def ofBe (bs : List Byte) : Nat := ofLe bs.reverse

/-- Consecutive groups of `k` elements, `n` of them. -/
def chunksN {α : Type} (k : Nat) : Nat → List α → List (List α)
  | 0, _ => []
  | n + 1, l => l.take k :: chunksN k n (l.drop k)

/-- The message with its padding. -/
def shaPad (m : List Byte) : List Byte :=
  let z := (239 - m.length % 128) % 128
  m ++ [0x80#8] ++ List.replicate z 0#8 ++ beBytes 16 (8 * m.length)

/-- Extend the 16 message words (newest first) by `k` schedule words. -/
def shaSched : Nat → List Nat → List Nat
  | 0, w => w
  | k + 1, w =>
    let a := w.getD 14 0
    let b := w.getD 1 0
    let s0 := rotr64 a 1 ^^^ rotr64 a 8 ^^^ (a >>> 7)
    let s1 := rotr64 b 19 ^^^ rotr64 b 61 ^^^ (b >>> 6)
    shaSched k ((s1 + w.getD 6 0 + s0 + w.getD 15 0) % 2 ^ 64 :: w)

/-- The eight working variables. -/
structure ShaV where
  a : Nat
  b : Nat
  c : Nat
  d : Nat
  e : Nat
  f : Nat
  g : Nat
  h : Nat
  deriving DecidableEq, Repr

def shaRound (k w : Nat) (v : ShaV) : ShaV :=
  let s1 := rotr64 v.e 14 ^^^ rotr64 v.e 18 ^^^ rotr64 v.e 41
  let ch := (v.e &&& v.f) ^^^ ((2 ^ 64 - 1 - v.e) &&& v.g)
  let t1 := v.h + s1 + ch + k + w
  let s0 := rotr64 v.a 28 ^^^ rotr64 v.a 34 ^^^ rotr64 v.a 39
  let mj := (v.a &&& v.b) ^^^ (v.a &&& v.c) ^^^ (v.b &&& v.c)
  ⟨(t1 + s0 + mj) % 2 ^ 64, v.a, v.b, v.c, (v.d + t1) % 2 ^ 64, v.e, v.f, v.g⟩

def shaRounds : List Nat → List Nat → ShaV → ShaV
  | k :: ks, w :: ws, v => shaRounds ks ws (shaRound k w v)
  | _, _, v => v

def shaBlock (h : ShaV) (b : List Byte) : ShaV :=
  let w := (shaSched 64 ((chunksN 8 16 b).map ofBe).reverse).reverse
  let v := shaRounds sha512K w h
  ⟨(h.a + v.a) % 2 ^ 64, (h.b + v.b) % 2 ^ 64, (h.c + v.c) % 2 ^ 64, (h.d + v.d) % 2 ^ 64,
   (h.e + v.e) % 2 ^ 64, (h.f + v.f) % 2 ^ 64, (h.g + v.g) % 2 ^ 64, (h.h + v.h) % 2 ^ 64⟩

/-- SHA-512 of a message. -/
def sha512 (m : List Byte) : List Byte :=
  let p := shaPad m
  let i := sha512H
  let h0 : ShaV := ⟨i.getD 0 0, i.getD 1 0, i.getD 2 0, i.getD 3 0, i.getD 4 0, i.getD 5 0, i.getD 6 0, i.getD 7 0⟩
  let r := (chunksN 128 (p.length / 128) p).foldl shaBlock h0
  [r.a, r.b, r.c, r.d, r.e, r.f, r.g, r.h].flatMap (beBytes 8)

end Sys2Proof.Machine
end

