-- ==== Sys2Proof/Config.lean ====
section
/-!
DEFINITION. What an implementation fixes and the specification leaves open, as constants without a body: nothing in Lean
can evaluate them, and a statement about them holds whatever they are.
-/

namespace Sys2Proof.Config

/-- Coefficient `n` of the built-in channeliser window for `p` points and `t` taps: a table of the signed firmware image
that the specification names and does not print (R106). -/
opaque chnWindow (p t n : Nat) : BitVec 18

/-- Coefficient `n` of the built-in synthesis window for `pr` points and `t` taps (Table 5.9). -/
opaque rsyWindow (pr t n : Nat) : BitVec 18

/-- The `n`-th wait of a request through a self-refresh exit (ns): R344 bounds it and gives no value. -/
opaque srWait (n : Nat) : BitVec 11

/-- Passes of a `LOOP` whose register count `v` lies above 65,536, the greatest that R163 gives a meaning. -/
opaque brgLoopCount (v : Nat) : BitVec 17

/-- The code of an event that the specification calls for without a code in any event table: unit `u`, occasion `k`
(0 late, 1 store full, 2 reserved kind or scope, 3 ACK). -/
opaque openEventCode (u k : Nat) : BitVec 16

/-- The page-in lead of a plan with statistics, less its 8 passes: measured times that R249 names, by plan and dispatch count. -/
opaque atlLead (p n : Nat) : BitVec 8

/-- Part `i` (0 real, 1 imaginary) of a cell of a set tile into which no block of the integration was merged, at HBM address `a` in the
`n`-th drain: R208 gives it no value. -/
opaque accUnmerged (n a i : Nat) : BitVec 32

/-- The integer that a not-a-number (in binary16 also an infinity) with encoding `n` becomes where a conversion to integer meets one: no rule
states it. -/
opaque nonFinite (n : Nat) : BitVec 48

/-- TOOL_VER and PLAN_VERSION in the header of the built-in plan, which the specification does not give (R263). -/
opaque builtinToolVer : BitVec 16
opaque builtinPlanVer : BitVec 32

/-- The number that an event gives a cause for which no table lists numbers: the event's code and the occasion, in the order in which the rule names
them. -/
opaque openCause (code k : Nat) : Word

/-- What a request of UPDATE sub-command 8 says: its layout is given in the Yilvephor key-service note and not in the specification (R457). -/
opaque keyRequest (bytes : List Byte) : KeyReq

/-- The words of the boot ROM, which the specification does not give. -/
opaque romWord (addr : Nat) : Word

end Sys2Proof.Config
end

