-- ==== Sys2Proof/Machine/Events.lean ====
section
/-!
DEFINITION. The events of the twenty units: code and severity (R14), from the event tables of each chapter and R30. The
first two digits of a code are the unit number, the last two the event within the unit; event EE sets bit EE - 1 of the
unit's UNIT_EVENT.
-/

namespace Sys2Proof.Machine

/-- The severities of R14, in rising order. -/
inductive Sev where
  | note | warn | fault | fatal
  deriving DecidableEq, Repr

/-- The code of a severity in a log record (Table 18.4). -/
def Sev.num : Sev → Nat
  | .note => 0 | .warn => 1 | .fault => 2 | .fatal => 3

/-- An event: its code and severity. -/
structure Ev where
  code : Nat
  sev : Sev
  deriving DecidableEq, Repr

/-- Block lock lost for more than 1 µs -/
def EV_LNS_LANE_DOWN : Ev := ⟨0x0101, .fault⟩
/-- No block lock by step 4 of Table 3.4 -/
def EV_LNS_RELOCK_FAILED : Ev := ⟨0x0102, .warn⟩
/-- Eye height below `LNS_LANE_CTRL.EYE_MIN` -/
def EV_LNS_EYE_LOW : Ev := ⟨0x0103, .warn⟩
/-- `LREF0` or `LREF1` absent -/
def EV_LNS_REF_LOST : Ev := ⟨0x0104, .fault⟩
/-- R63, R65, or ADAPT written outside CALIBRATE -/
def EV_LNS_CFG_REFUSED : Ev := ⟨0x0105, .warn⟩
/-- R85 -/
def EV_LNS_RETRAIN_FAILED : Ev := ⟨0x0106, .warn⟩
/-- R79 -/
def EV_FRM_CK_MISMATCH : Ev := ⟨0x0201, .warn⟩
/-- Uncorrectable codeword -/
def EV_FRM_FEC_UNCORR : Ev := ⟨0x0202, .warn⟩
/-- R46 gap in a flow -/
def EV_FRM_SEQ_GAP : Ev := ⟨0x0203, .note⟩
/-- R78 -/
def EV_FRM_CK_CFG_REFUSED : Ev := ⟨0x0204, .warn⟩
/-- Receive buffer overrun under R21 -/
def EV_FRM_RX_OVERRUN : Ev := ⟨0x0205, .warn⟩
/-- Received Ethernet frame with a bad frame check sequence -/
def EV_FRM_ETH_FCS : Ev := ⟨0x0206, .note⟩
/-- Output frames routed to a port that cannot send are discarded, R223 -/
def EV_FRM_PORT_DROP : Ev := ⟨0x0207, .warn⟩
/-- R80, R83 -/
def EV_FRM_CFG_REFUSED : Ev := ⟨0x0208, .warn⟩
/-- A slot's `DEC_CNT_SAT` leaves zero -/
def EV_DEC_SATURATION : Ev := ⟨0x0301, .note⟩
/-- R99 -/
def EV_DEC_SYNC_LATE : Ev := ⟨0x0302, .warn⟩
/-- R89, or a field out of range in a shadow write -/
def EV_DEC_CFG_REFUSED : Ev := ⟨0x0303, .warn⟩
/-- R106, R113, R116 -/
def EV_CHN_CFG_REFUSED : Ev := ⟨0x0401, .warn⟩
/-- R112, R118 -/
def EV_CHN_CAPACITY : Ev := ⟨0x0402, .warn⟩
/-- R118 -/
def EV_CHN_COEF_INCOMPLETE : Ev := ⟨0x0403, .warn⟩
/-- A latched window has SAT above zero -/
def EV_CHN_SATURATION : Ev := ⟨0x0404, .note⟩
/-- R115 -/
def EV_CHN_STATS_READY : Ev := ⟨0x0405, .note⟩
/-- R126 -/
def EV_RSY_CFG_REFUSED : Ev := ⟨0x0501, .warn⟩
/-- R122 -/
def EV_RSY_CAPACITY : Ev := ⟨0x0502, .warn⟩
/-- START with `RSY_COEF_COUNT` ≠ Tr × Pr -/
def EV_RSY_COEF_INCOMPLETE : Ev := ⟨0x0503, .warn⟩
/-- `RSY_CNT_SAT` leaves zero -/
def EV_RSY_SATURATION : Ev := ⟨0x0504, .note⟩
/-- R123 -/
def EV_RSY_INPUT_MISMATCH : Ev := ⟨0x0505, .warn⟩
/-- R136 -/
def EV_GRT_LINK_MISMATCH : Ev := ⟨0x0601, .warn⟩
/-- R140 -/
def EV_GRT_LINK_DOWN : Ev := ⟨0x0602, .fault⟩
/-- R140 -/
def EV_GRT_REROUTED : Ev := ⟨0x0603, .warn⟩
/-- R138 -/
def EV_GRT_MISROUTE : Ev := ⟨0x0604, .warn⟩
/-- R131, R133, R134 -/
def EV_GRT_CFG_REFUSED : Ev := ⟨0x0605, .warn⟩
/-- R145 -/
def EV_STG_LATE_FRAME : Ev := ⟨0x0701, .warn⟩
/-- R145 -/
def EV_STG_CLOSE_TIMEOUT : Ev := ⟨0x0702, .note⟩
/-- R146 -/
def EV_STG_RING_HOLD : Ev := ⟨0x0703, .note⟩
/-- `STG_CNT_SAT` leaves zero -/
def EV_STG_SATURATION : Ev := ⟨0x0704, .note⟩
/-- R150 -/
def EV_STG_MODEL_MISSING : Ev := ⟨0x0705, .warn⟩
/-- R132, R143, R148, R150 -/
def EV_STG_CFG_REFUSED : Ev := ⟨0x0706, .warn⟩
/-- R166 -/
def EV_BRG_CORE_FAULT : Ev := ⟨0x0801, .fault⟩
/-- `HALT` executed -/
def EV_BRG_CORE_HALTED : Ev := ⟨0x0802, .note⟩
/-- R170 -/
def EV_BRG_TICK_OVERRUN : Ev := ⟨0x0803, .warn⟩
/-- R170 -/
def EV_BRG_POST_STALL : Ev := ⟨0x0804, .warn⟩
/-- R171 -/
def EV_BRG_DIR_LATE : Ev := ⟨0x0805, .warn⟩
/-- Program-memory write, `LOADBI` or `BRG_TICK_CFG` write refused -/
def EV_BRG_CFG_REFUSED : Ev := ⟨0x0806, .warn⟩
/-- R198 -/
def EV_XAR_ARRAY_CHECK : Ev := ⟨0x0901, .fault⟩
/-- R199 -/
def EV_XAR_TILE_LOAD_UE : Ev := ⟨0x0902, .fault⟩
/-- R199 -/
def EV_XAR_OPERAND_ERR : Ev := ⟨0x0903, .fault⟩
/-- R200 -/
def EV_XAR_ISOLATED : Ev := ⟨0x0904, .warn⟩
/-- R195 -/
def EV_XAR_WSWAP_SPLIT : Ev := ⟨0x0905, .note⟩
/-- R191, R193, R194, R201 -/
def EV_XAR_CFG_REFUSED : Ev := ⟨0x0906, .warn⟩
/-- R229 -/
def EV_ACC_POISONED : Ev := ⟨0x0A01, .warn⟩
/-- R230, merge or drain -/
def EV_ACC_MERGE_UE : Ev := ⟨0x0A02, .fault⟩
/-- R214 -/
def EV_ACC_PLANE_FULL : Ev := ⟨0x0A03, .warn⟩
/-- R211 -/
def EV_ACC_DRAIN_LATE : Ev := ⟨0x0A04, .warn⟩
/-- `ACC_CNT_SAT` leaves zero -/
def EV_ACC_SATURATION : Ev := ⟨0x0A05, .note⟩
/-- R217 -/
def EV_ACC_SK_TRUNC : Ev := ⟨0x0A06, .warn⟩
/-- R216, R220, R223, R233 -/
def EV_ACC_CFG_REFUSED : Ev := ⟨0x0A07, .warn⟩
/-- R205 -/
def EV_ACC_INTEG_CLOSED : Ev := ⟨0x0A08, .note⟩
/-- R207 -/
def EV_ACC_DUMP_EMPTY : Ev := ⟨0x0A09, .note⟩
/-- R242 -/
def EV_ATL_TILE_BUSY : Ev := ⟨0x0B01, .warn⟩
/-- R252 -/
def EV_ATL_TILE_POISONED : Ev := ⟨0x0B02, .warn⟩
/-- R253 -/
def EV_ATL_PAGE_UE : Ev := ⟨0x0B03, .fault⟩
/-- R253 -/
def EV_ATL_DESC_UE : Ev := ⟨0x0B04, .fault⟩
/-- R248 -/
def EV_ATL_PAGE_AREA_FULL : Ev := ⟨0x0B05, .warn⟩
/-- R255 -/
def EV_ATL_QUARANTINE_BEGIN : Ev := ⟨0x0B06, .warn⟩
/-- R255 -/
def EV_ATL_QUARANTINE_DONE : Ev := ⟨0x0B07, .note⟩
/-- R255 -/
def EV_ATL_QUARANTINE_STALLED : Ev := ⟨0x0B08, .warn⟩
/-- R249 -/
def EV_ATL_STATS_READY : Ev := ⟨0x0B09, .note⟩
/-- R237, R240, R245, R258 -/
def EV_ATL_CFG_REFUSED : Ev := ⟨0x0B0A, .warn⟩
/-- R347 -/
def EV_MEM_CE_RATE : Ev := ⟨0x0C01, .warn⟩
/-- R351 -/
def EV_MEM_UE : Ev := ⟨0x0C02, .fault⟩
/-- R352 -/
def EV_MEM_CMD_ERR : Ev := ⟨0x0C03, .fault⟩
/-- R347 -/
def EV_MEM_RETRAIN_FAILED : Ev := ⟨0x0C04, .warn⟩
/-- R347 -/
def EV_MEM_TRAIN_RESTORED : Ev := ⟨0x0C05, .note⟩
/-- R343 -/
def EV_MEM_SR_ABANDONED : Ev := ⟨0x0C06, .note⟩
/-- R353 -/
def EV_MEM_SCRUB_UE : Ev := ⟨0x0C07, .fault⟩
/-- R353 -/
def EV_MEM_SCRUB_DONE : Ev := ⟨0x0C08, .note⟩
/-- R341 -/
def EV_MEM_STACK_HOT : Ev := ⟨0x0C09, .warn⟩
/-- R345 -/
def EV_MEM_TRAIN_FAILED : Ev := ⟨0x0C0A, .fault⟩
/-- R355, R348 -/
def EV_MEM_CFG_REFUSED : Ev := ⟨0x0C0B, .warn⟩
/-- R348 -/
def EV_MEM_PC_RETIRED : Ev := ⟨0x0C0C, .note⟩
/-- R286 -/
def EV_SVY_CORE_FAULT : Ev := ⟨0x0D01, .fault⟩
/-- R262, R263, R265 -/
def EV_SVY_LOAD_REFUSED : Ev := ⟨0x0D02, .warn⟩
/-- START accepted -/
def EV_SVY_PLAN_STARTED : Ev := ⟨0x0D03, .note⟩
/-- HALTED entered -/
def EV_SVY_PLAN_HALTED : Ev := ⟨0x0D04, .note⟩
/-- A status of REFUSED, PASSED or BUDGET_REFUSED -/
def EV_SVY_OP_REFUSED : Ev := ⟨0x0D05, .warn⟩
/-- An issued operation is undone under R283 -/
def EV_SVY_OP_UNDONE : Ev := ⟨0x0D06, .note⟩
/-- R285, first time per START -/
def EV_SVY_STEP_IMPLICIT : Ev := ⟨0x0D07, .note⟩
/-- R288 -/
def EV_SVY_SLOT_CONFLICT : Ev := ⟨0x0D08, .warn⟩
/-- R262 -/
def EV_SVY_PLAN_GEN_LOW : Ev := ⟨0x0D09, .warn⟩
/-- R328, R329 -/
def EV_CAD_FLOOR_MISS : Ev := ⟨0x0E01, .warn⟩
/-- R331 -/
def EV_CAD_BUFFER_HIGH : Ev := ⟨0x0E02, .warn⟩
/-- R332 -/
def EV_CAD_HEADROOM_LOW : Ev := ⟨0x0E03, .warn⟩
/-- R325, R326 -/
def EV_CAD_CFG_REFUSED : Ev := ⟨0x0E04, .warn⟩
/-- R359 -/
def EV_MER_REF_QUALIFIED : Ev := ⟨0x0F01, .note⟩
/-- R359, R365 -/
def EV_MER_REF_DISQUALIFIED : Ev := ⟨0x0F02, .warn⟩
/-- R362, R365 -/
def EV_MER_REF_SWITCHED : Ev := ⟨0x0F03, .warn⟩
/-- R362 -/
def EV_MER_HOLDOVER_ENTERED : Ev := ⟨0x0F04, .warn⟩
/-- R366 -/
def EV_MER_LOCKED : Ev := ⟨0x0F05, .note⟩
/-- R364 -/
def EV_MER_DRIFT_SOFT : Ev := ⟨0x0F06, .warn⟩
/-- R364 -/
def EV_MER_DRIFT_HARD : Ev := ⟨0x0F07, .fault⟩
/-- R361, R362, R365 -/
def EV_MER_DISAGREE : Ev := ⟨0x0F08, .warn⟩
/-- R367 -/
def EV_MER_HO_QUALIFIED : Ev := ⟨0x0F09, .note⟩
/-- R369 -/
def EV_MER_EPOCH_SET : Ev := ⟨0x0F0A, .note⟩
/-- R369 -/
def EV_MER_EPOCH_REFUSED : Ev := ⟨0x0F0B, .fault⟩
/-- R358 -/
def EV_MER_QL_CHANGED : Ev := ⟨0x0F0C, .note⟩
/-- R358, R362, R368, R370 -/
def EV_MER_CFG_REFUSED : Ev := ⟨0x0F0D, .warn⟩
/-- R373 -/
def EV_TIM_SEC_NAMED : Ev := ⟨0x1001, .note⟩
/-- R373 -/
def EV_TIM_SEC_MISMATCH : Ev := ⟨0x1002, .warn⟩
/-- R373 -/
def EV_TIM_SEC_AMBIGUOUS : Ev := ⟨0x1003, .warn⟩
/-- R375 -/
def EV_TIM_PATH_STEP : Ev := ⟨0x1004, .warn⟩
/-- R376 -/
def EV_TIM_DOMAIN_LOST : Ev := ⟨0x1005, .warn⟩
/-- R376 -/
def EV_TIM_DOMAIN_DISAGREE : Ev := ⟨0x1006, .warn⟩
/-- R376 -/
def EV_TIM_SOURCE_SWITCHED : Ev := ⟨0x1007, .note⟩
/-- R374 -/
def EV_TIM_GM_CHANGE : Ev := ⟨0x1008, .note⟩
/-- R377 -/
def EV_TIM_IRIG_ERROR : Ev := ⟨0x1009, .warn⟩
/-- R379 -/
def EV_TIM_EVT_LATE : Ev := ⟨0x100A, .warn⟩
/-- R378, R379 -/
def EV_TIM_CFG_REFUSED : Ev := ⟨0x100B, .warn⟩
/-- R307 -/
def EV_TRP_LEVEL_READY : Ev := ⟨0x1101, .note⟩
/-- R312 -/
def EV_TRP_SUSPECT_TRIGGER : Ev := ⟨0x1102, .warn⟩
/-- R312 -/
def EV_TRP_REP_OVERFLOW : Ev := ⟨0x1103, .warn⟩
/-- R317 -/
def EV_TRP_CAPTURE_NOT_HELD : Ev := ⟨0x1104, .warn⟩
/-- R305 -/
def EV_TRP_DELAY_RANGE : Ev := ⟨0x1105, .warn⟩
/-- R303 -/
def EV_TRP_INPUT_MISMATCH : Ev := ⟨0x1106, .warn⟩
/-- R304, R310, R319 -/
def EV_TRP_CFG_REFUSED : Ev := ⟨0x1107, .warn⟩
/-- R387, DECERR -/
def EV_CMX_DECODE_ERR : Ev := ⟨0x1201, .note⟩
/-- R387, SLVERR -/
def EV_CMX_SLAVE_ERR : Ev := ⟨0x1202, .warn⟩
/-- R393 -/
def EV_CMX_WRITE_ERR : Ev := ⟨0x1203, .warn⟩
/-- R389 -/
def EV_CMX_BURST_RESET : Ev := ⟨0x1204, .warn⟩
/-- R388 -/
def EV_CMX_TARGET_TIMEOUT : Ev := ⟨0x1205, .fault⟩
/-- R392 -/
def EV_CMX_PCIE_LINK : Ev := ⟨0x1206, .warn⟩
/-- R407 -/
def EV_CMX_WDOG_EXPIRED : Ev := ⟨0x1207, .fault⟩
/-- R404 -/
def EV_CMX_FLASH_SFDP : Ev := ⟨0x1208, .warn⟩
/-- R405 -/
def EV_CMX_PMBUS_FAULT : Ev := ⟨0x1209, .warn⟩
/-- R395 -/
def EV_CMX_BAR2_ERR : Ev := ⟨0x120A, .warn⟩
/-- R406, R408 -/
def EV_CMX_CFG_REFUSED : Ev := ⟨0x120B, .warn⟩
/-- R452 -/
def EV_TRU_VERIFY_FAILED : Ev := ⟨0x1301, .fault⟩
/-- R452 -/
def EV_TRU_NO_FIRMWARE : Ev := ⟨0x1302, .fatal⟩
/-- R455 -/
def EV_TRU_TRIAL_STARTED : Ev := ⟨0x1303, .note⟩
/-- R456 -/
def EV_TRU_CONFIRMED : Ev := ⟨0x1304, .note⟩
/-- R455 -/
def EV_TRU_FALLBACK : Ev := ⟨0x1305, .warn⟩
/-- R453 -/
def EV_TRU_ROLLBACK_REFUSED : Ev := ⟨0x1306, .warn⟩
/-- R460 -/
def EV_TRU_SETTINGS_UNREADABLE : Ev := ⟨0x1307, .warn⟩
/-- R460 -/
def EV_TRU_SETTINGS_LOST : Ev := ⟨0x1308, .warn⟩
/-- R461 -/
def EV_TRU_PLAN_REFUSED : Ev := ⟨0x1309, .warn⟩
/-- R465 -/
def EV_TRU_GEN_UNSUPPORTED : Ev := ⟨0x130A, .fault⟩
/-- R465 -/
def EV_TRU_ARITH_DEFAULTED : Ev := ⟨0x130B, .warn⟩
/-- R464 -/
def EV_TRU_LINK_GEN_MISMATCH : Ev := ⟨0x130C, .warn⟩
/-- R452 -/
def EV_TRU_FLASH_UNSAFE : Ev := ⟨0x130D, .warn⟩
/-- R463 -/
def EV_TRU_DEBUG_OPENED : Ev := ⟨0x130E, .warn⟩
/-- R467 -/
def EV_TRU_CFG_REFUSED : Ev := ⟨0x130F, .warn⟩
/-- R30 -/
def EV_HLT_THERMAL_SHUTDOWN : Ev := ⟨0x1401, .fatal⟩
/-- R30 -/
def EV_HLT_SUPPLY_FAULT_RESET : Ev := ⟨0x1402, .fatal⟩
/-- R411 -/
def EV_HLT_MODE_CHANGED : Ev := ⟨0x1403, .note⟩
/-- R412, R414, R420 -/
def EV_HLT_MODE_REFUSED : Ev := ⟨0x1404, .warn⟩
/-- R424, PASS -/
def EV_HLT_SURVEY_PASS : Ev := ⟨0x1405, .note⟩
/-- R424, PARTIAL -/
def EV_HLT_SURVEY_PARTIAL : Ev := ⟨0x1406, .warn⟩
/-- R419, R424 -/
def EV_HLT_SURVEY_FAIL : Ev := ⟨0x1407, .fault⟩
/-- R430 -/
def EV_HLT_TWIN_PAIRED : Ev := ⟨0x1408, .note⟩
/-- R434 -/
def EV_HLT_TWIN_MISMATCH : Ev := ⟨0x1409, .warn⟩
/-- R434 -/
def EV_HLT_TWIN_SIG_MISSING : Ev := ⟨0x140A, .warn⟩
/-- R435 -/
def EV_HLT_BEACON_LOST : Ev := ⟨0x140B, .warn⟩
/-- R436, R438 -/
def EV_HLT_TAKEOVER : Ev := ⟨0x140C, .warn⟩
/-- R437 -/
def EV_HLT_DEMOTED : Ev := ⟨0x140D, .warn⟩
/-- R431 -/
def EV_HLT_TWIN_CFG_DIFFER : Ev := ⟨0x140E, .warn⟩
/-- R443 -/
def EV_HLT_TEMP_HIGH : Ev := ⟨0x140F, .warn⟩
/-- R443 -/
def EV_HLT_TEMP_FAULT : Ev := ⟨0x1410, .fault⟩
/-- R444 -/
def EV_HLT_SUPPLY_WARN : Ev := ⟨0x1411, .warn⟩
/-- R442 -/
def EV_HLT_ARMED_ACTION : Ev := ⟨0x1412, .note⟩
/-- R439 -/
def EV_HLT_LOG_LOST : Ev := ⟨0x1413, .warn⟩
/-- R440, R442, R447, R490 -/
def EV_HLT_CFG_REFUSED : Ev := ⟨0x1414, .warn⟩
/-- R332, below the fault threshold -/
def EV_CAD_HEADROOM_LOW_FAULT : Ev := ⟨0x0E03, .fault⟩

/-- The CFG_REFUSED event of unit `u` (R486). -/
def cfgRefusedEv : Nat → Ev
  | 1 => EV_LNS_CFG_REFUSED
  | 2 => EV_FRM_CFG_REFUSED
  | 3 => EV_DEC_CFG_REFUSED
  | 4 => EV_CHN_CFG_REFUSED
  | 5 => EV_RSY_CFG_REFUSED
  | 6 => EV_GRT_CFG_REFUSED
  | 7 => EV_STG_CFG_REFUSED
  | 8 => EV_BRG_CFG_REFUSED
  | 9 => EV_XAR_CFG_REFUSED
  | 10 => EV_ACC_CFG_REFUSED
  | 11 => EV_ATL_CFG_REFUSED
  | 12 => EV_MEM_CFG_REFUSED
  | 14 => EV_CAD_CFG_REFUSED
  | 15 => EV_MER_CFG_REFUSED
  | 16 => EV_TIM_CFG_REFUSED
  | 17 => EV_TRP_CFG_REFUSED
  | 18 => EV_CMX_CFG_REFUSED
  | 19 => EV_TRU_CFG_REFUSED
  | 20 => EV_HLT_CFG_REFUSED
  | _ => EV_CMX_CFG_REFUSED

end Sys2Proof.Machine
end

