-- ==== Sys2Proof/Machine/RegMap.lean ====
section
/-!
DEFINITION. The control-space register map: for each of the twenty unit windows (R4) the rows of its register map,
with the access code of R9, the reset value, the bits a write stores and the bits that are not reserved (R10); an
address constant for every register and a field constant for every field of the field tables. Tables 3.9-3.12, 4.4,
4.5, 5.6-5.9, 6.4-6.6, 7.10, 7.11, 8.8-8.10, 9.9, 9.10, 10.8, 10.9, 11.13, 11.14, 12.6, 12.7, 13.5, 13.6, 14.6, 14.7,
15.5-15.8, 16.8, 16.10, 17.9, 18.7, 18.8, 19.8 and 19.9.
-/

namespace Sys2Proof.Machine

/-- The access codes of Table 0.5 (R9). -/
inductive Acc where
  | rw | ro | wc | ws | wo
  deriving DecidableEq, Repr

/-- One row of a register map: word `j < inner` of repetition `i < count` lies at `off + stride * i + 4 * j`. -/
structure RegDesc where
  off : Nat
  stride : Nat
  count : Nat
  inner : Nat
  acc : Acc
  /-- Reset value. -/
  rst : Nat
  /-- Bits that a host write stores (the rw bits). -/
  wmask : Nat
  /-- Bits that a field table or the map names; the others are reserved and read as zero (R10). -/
  vmask : Nat
  deriving DecidableEq, Repr

/-- A field of a register: the register's control address, its lowest bit and its width. -/
structure Field where
  addr : Nat
  lo : Nat
  width : Nat
  deriving DecidableEq, Repr

/-- The common block of Table 0.6, by unit number. -/
def UNIT_ID (u : Nat) : Nat := u * 0x1000000
def UNIT_VER (u : Nat) : Nat := u * 0x1000000 + 0x4
def UNIT_STATUS (u : Nat) : Nat := u * 0x1000000 + 0x8
def UNIT_EVENT (u : Nat) : Nat := u * 0x1000000 + 0xC
def UNIT_EVENT_EN (u : Nat) : Nat := u * 0x1000000 + 0x10
def UNIT_ARM (u : Nat) : Nat := u * 0x1000000 + 0x14
def UNIT_BASIC (u : Nat) : Nat := u * 0x1000000 + 0x18


/-! ### LNS: unit 0x01 -/

/-- Role of octet k, k = 0–11 -/
def LNS_OCTET_ROLE (k : Nat) : Nat := 0x1000100 + 0x4 * k
/-- Auto-idle timeout in meridian ticks (2 µs) -/
def LNS_IDLE_TIMEOUT : Nat := 0x1000140
/-- [6:0] lane; [7] all lanes -/
def LNS_CNT_CLEAR : Nat := 0x1000144
/-- [0] `LREF0` present; [1] `LREF1` present; [2] spread detected on `LREF0` -/
def LNS_REF_STATUS : Nat := 0x1000148
/-- Lane n control, n = 0–95 -/
def LNS_LANE_CTRL (n : Nat) : Nat := 0x1001000 + 0x40 * n
/-- Lane state -/
def LNS_LANE_STATUS (n : Nat) : Nat := 0x1001004 + 0x40 * n
/-- Receive peaking -/
def LNS_RX_EQ (n : Nat) : Nat := 0x1001008 + 0x40 * n
/-- Transmit FIR -/
def LNS_TX_FIR (n : Nat) : Nat := 0x100100C + 0x40 * n
/-- Eye margins -/
def LNS_EYE (n : Nat) : Nat := 0x1001010 + 0x40 * n
/-- Invalid blocks -/
def LNS_CNT_BLOCK_ERR (n : Nat) : Nat := 0x1001014 + 0x40 * n
/-- Losses of block lock -/
def LNS_CNT_LOCK_LOSS (n : Nat) : Nat := 0x1001018 + 0x40 * n
/-- Idle exits -/
def LNS_CNT_IDLE_EXIT (n : Nat) : Nat := 0x100101C + 0x40 * n
/-- Failed relocks -/
def LNS_CNT_RELOCK_FAIL (n : Nat) : Nat := 0x1001020 + 0x40 * n
def LNS_STATUS_OCTET_UP : Field := ⟨UNIT_STATUS 0x1, 0, 12⟩
def LNS_BASIC_OCTET_EN : Field := ⟨UNIT_BASIC 0x1, 0, 12⟩
def LNS_BASIC_AUTO_IDLE : Field := ⟨UNIT_BASIC 0x1, 12, 1⟩
def LNS_ARM_RETRAIN : Field := ⟨UNIT_ARM 0x1, 0, 1⟩
def LNS_OCTET_ROLE_ROLE (k : Nat) : Field := ⟨LNS_OCTET_ROLE k, 0, 3⟩
def LNS_LANE_CTRL_IDLE (n : Nat) : Field := ⟨LNS_LANE_CTRL n, 0, 1⟩
def LNS_LANE_CTRL_RETRAIN (n : Nat) : Field := ⟨LNS_LANE_CTRL n, 1, 1⟩
def LNS_LANE_CTRL_ADAPT (n : Nat) : Field := ⟨LNS_LANE_CTRL n, 2, 1⟩
def LNS_LANE_CTRL_LOOPBACK (n : Nat) : Field := ⟨LNS_LANE_CTRL n, 3, 1⟩
def LNS_LANE_CTRL_EYE_MIN (n : Nat) : Field := ⟨LNS_LANE_CTRL n, 8, 8⟩
def LNS_LANE_STATUS_STATE (n : Nat) : Field := ⟨LNS_LANE_STATUS n, 0, 3⟩
def LNS_LANE_STATUS_RX_LOCK (n : Nat) : Field := ⟨LNS_LANE_STATUS n, 3, 1⟩
def LNS_RX_EQ_PEAK (n : Nat) : Field := ⟨LNS_RX_EQ n, 0, 4⟩
def LNS_TX_FIR_C_PRE (n : Nat) : Field := ⟨LNS_TX_FIR n, 0, 4⟩
def LNS_TX_FIR_C_POST (n : Nat) : Field := ⟨LNS_TX_FIR n, 8, 4⟩
def LNS_EYE_HEIGHT (n : Nat) : Field := ⟨LNS_EYE n, 0, 8⟩
def LNS_EYE_WIDTH (n : Nat) : Field := ⟨LNS_EYE n, 8, 8⟩

/-- Register map of LNS. -/
def regsLNS0 : List RegDesc := [
  ⟨0x0, 0x1000000, 1, 1, .ro, 0x534E4C01, 0x0, 0xFFFFFFFF⟩,
  ⟨0x4, 0x1000000, 1, 1, .ro, 0xB100, 0x0, 0xFFFF⟩,
  ⟨0x8, 0x1000000, 1, 1, .ro, 0x0, 0x0, 0xFFF⟩,
  ⟨0xC, 0x1000000, 1, 1, .wc, 0x0, 0x0, 0x3F⟩,
  ⟨0x10, 0x1000000, 1, 1, .rw, 0x0, 0x3F, 0x3F⟩,
  ⟨0x14, 0x1000000, 1, 1, .rw, 0x0, 0x1, 0x1⟩,
  ⟨0x18, 0x1000000, 1, 1, .rw, 0x0, 0x1FFF, 0x1FFF⟩,
  ⟨0x100, 0x4, 12, 1, .rw, 0x0, 0x7, 0x7⟩,
  ⟨0x140, 0x1000000, 1, 1, .rw, 0xC8, 0xFFFFFFFF, 0xFFFFFFFF⟩,
  ⟨0x144, 0x1000000, 1, 1, .wo, 0x0, 0x0, 0xFFFFFFFF⟩,
  ⟨0x148, 0x1000000, 1, 1, .ro, 0x0, 0x0, 0x7⟩,
  ⟨0x1000, 0x40, 96, 1, .rw, 0x0, 0xFF09, 0xFF0F⟩,
  ⟨0x1004, 0x40, 96, 1, .ro, 0x0, 0x0, 0xF⟩,
  ⟨0x1008, 0x40, 96, 1, .rw, 0x6, 0xF, 0xF⟩,
  ⟨0x100C, 0x40, 96, 1, .rw, 0x604, 0xF0F, 0xF0F⟩,
  ⟨0x1010, 0x40, 96, 1, .ro, 0x0, 0x0, 0xFFFF⟩,
  ⟨0x1014, 0x40, 96, 1, .ro, 0x0, 0x0, 0xFFFFFFFF⟩,
  ⟨0x1018, 0x40, 96, 1, .ro, 0x0, 0x0, 0xFFFFFFFF⟩,
  ⟨0x101C, 0x40, 96, 1, .ro, 0x0, 0x0, 0xFFFFFFFF⟩,
  ⟨0x1020, 0x40, 96, 1, .ro, 0x0, 0x0, 0xFFFFFFFF⟩]
def regsLNS : List RegDesc := regsLNS0

/-! ### FRM: unit 0x02 -/

/-- Speed of octet 10 + j, j = 0–1 -/
def FRM_ETH_OCTET (j : Nat) : Nat := 0x2000100 + 0x4 * j
/-- [6:0] lane whose counters are cleared, acting only when [7] and [8] are both clear; [7] the counters of every lane and octet, not of ports; [8] the counters of every port -/
def FRM_CNT_CLEAR : Nat := 0x2000108
/-- Frames lost under R46 on octet k -/
def FRM_CNT_SEQ_LOST (k : Nat) : Nat := 0x2000200 + 0x4 * k
/-- Check engine of lane n (shadow) -/
def FRM_CK_CFG (n : Nat) : Nat := 0x2001000 + 0x20 * n
/-- Polynomial [31:0] -/
def FRM_CK_POLY_LO (n : Nat) : Nat := 0x2001004 + 0x20 * n
/-- Polynomial [63:32] -/
def FRM_CK_POLY_HI (n : Nat) : Nat := 0x2001008 + 0x20 * n
/-- Initial value [31:0] -/
def FRM_CK_INIT_LO (n : Nat) : Nat := 0x200100C + 0x20 * n
/-- Initial value [63:32] -/
def FRM_CK_INIT_HI (n : Nat) : Nat := 0x2001010 + 0x20 * n
/-- XOR-out [31:0] -/
def FRM_CK_XOR_LO (n : Nat) : Nat := 0x2001014 + 0x20 * n
/-- XOR-out [63:32] -/
def FRM_CK_XOR_HI (n : Nat) : Nat := 0x2001018 + 0x20 * n
/-- Configuration in use -/
def FRM_CK_STATUS (n : Nat) : Nat := 0x200101C + 0x20 * n
/-- Frames received on lane n -/
def FRM_CNT_RX_FRAMES (n : Nat) : Nat := 0x2003000 + 0x20 * n
/-- Frames sent -/
def FRM_CNT_TX_FRAMES (n : Nat) : Nat := 0x2003004 + 0x20 * n
/-- Check failures -/
def FRM_CNT_CK_FAIL (n : Nat) : Nat := 0x2003008 + 0x20 * n
/-- Frames discarded under R33, R39, R47 or R48 -/
def FRM_CNT_DISCARD (n : Nat) : Nat := 0x200300C + 0x20 * n
/-- Frames lost to receive overrun -/
def FRM_CNT_OVERRUN (n : Nat) : Nat := 0x2003010 + 0x20 * n
/-- Corrected FEC symbols -/
def FRM_CNT_FEC_CORR (n : Nat) : Nat := 0x2003014 + 0x20 * n
/-- Uncorrectable codewords -/
def FRM_CNT_FEC_UNCORR (n : Nat) : Nat := 0x2003018 + 0x20 * n
/-- Output port p, p = 0–7 -/
def FRM_PORT_CFG (p : Nat) : Nat := 0x2005000 + 0x100 * p
/-- Packets sent -/
def FRM_PORT_CNT_TX (p : Nat) : Nat := 0x2005004 + 0x100 * p
/-- Frames received and discarded -/
def FRM_PORT_CNT_RX (p : Nat) : Nat := 0x2005008 + 0x100 * p
/-- Received frames with a bad frame check sequence -/
def FRM_PORT_CNT_FCS (p : Nat) : Nat := 0x200500C + 0x100 * p
/-- Output frames discarded because the port cannot send, R223 -/
def FRM_PORT_CNT_DROP (p : Nat) : Nat := 0x2005010 + 0x100 * p
/-- 32 words of header template, Table 3.7 -/
def FRM_PORT_TMPL (p : Nat) (w : Nat) : Nat := 0x2005080 + 0x100 * p + 4 * w
def FRM_BASIC_CK_PRESET : Field := ⟨UNIT_BASIC 0x2, 0, 3⟩
def FRM_ETH_OCTET_SPEED (j : Nat) : Field := ⟨FRM_ETH_OCTET j, 0, 2⟩
def FRM_CK_CFG_EN (n : Nat) : Field := ⟨FRM_CK_CFG n, 0, 1⟩
def FRM_CK_CFG_REFIN (n : Nat) : Field := ⟨FRM_CK_CFG n, 1, 1⟩
def FRM_CK_CFG_REFOUT (n : Nat) : Field := ⟨FRM_CK_CFG n, 2, 1⟩
def FRM_CK_CFG_WIDTH (n : Nat) : Field := ⟨FRM_CK_CFG n, 8, 7⟩
def FRM_CK_STATUS_PENDING (n : Nat) : Field := ⟨FRM_CK_STATUS n, 0, 1⟩
def FRM_CK_STATUS_IN_USE_EN (n : Nat) : Field := ⟨FRM_CK_STATUS n, 1, 1⟩
def FRM_CK_STATUS_IN_USE_WIDTH (n : Nat) : Field := ⟨FRM_CK_STATUS n, 8, 7⟩
def FRM_PORT_CFG_EN (p : Nat) : Field := ⟨FRM_PORT_CFG p, 0, 1⟩
def FRM_PORT_CFG_IPV6 (p : Nat) : Field := ⟨FRM_PORT_CFG p, 1, 1⟩
def FRM_PORT_CFG_VLAN (p : Nat) : Field := ⟨FRM_PORT_CFG p, 2, 1⟩
def FRM_PORT_CFG_UDP_CSUM (p : Nat) : Field := ⟨FRM_PORT_CFG p, 3, 1⟩
def FRM_PORT_CFG_CK_EN (p : Nat) : Field := ⟨FRM_PORT_CFG p, 4, 1⟩
def FRM_PORT_CFG_MAX_FRAME (p : Nat) : Field := ⟨FRM_PORT_CFG p, 16, 14⟩

/-- Register map of FRM. -/
def regsFRM0 : List RegDesc := [
  ⟨0x0, 0x1000000, 1, 1, .ro, 0x4D524602, 0x0, 0xFFFFFFFF⟩,
  ⟨0x4, 0x1000000, 1, 1, .ro, 0xB100, 0x0, 0xFFFF⟩,
  ⟨0x8, 0x1000000, 1, 1, .ro, 0x0, 0x0, 0x0⟩,
  ⟨0xC, 0x1000000, 1, 1, .wc, 0x0, 0x0, 0xFF⟩,
  ⟨0x10, 0x1000000, 1, 1, .rw, 0x0, 0xFF, 0xFF⟩,
  ⟨0x14, 0x1000000, 1, 1, .rw, 0x0, 0x0, 0x0⟩,
  ⟨0x18, 0x1000000, 1, 1, .rw, 0x0, 0x7, 0x7⟩,
  ⟨0x100, 0x4, 2, 1, .rw, 0x0, 0x3, 0x3⟩,
  ⟨0x108, 0x1000000, 1, 1, .wo, 0x0, 0x0, 0xFFFFFFFF⟩,
  ⟨0x200, 0x4, 12, 1, .ro, 0x0, 0x0, 0xFFFFFFFF⟩,
  ⟨0x1000, 0x20, 96, 1, .rw, 0x2007, 0x7F07, 0x7F07⟩,
  ⟨0x1004, 0x20, 96, 1, .rw, 0x1EDC6F41, 0xFFFFFFFF, 0xFFFFFFFF⟩,
  ⟨0x1008, 0x20, 96, 1, .rw, 0x0, 0xFFFFFFFF, 0xFFFFFFFF⟩,
  ⟨0x100C, 0x20, 96, 1, .rw, 0xFFFFFFFF, 0xFFFFFFFF, 0xFFFFFFFF⟩,
  ⟨0x1010, 0x20, 96, 1, .rw, 0x0, 0xFFFFFFFF, 0xFFFFFFFF⟩,
  ⟨0x1014, 0x20, 96, 1, .rw, 0xFFFFFFFF, 0xFFFFFFFF, 0xFFFFFFFF⟩,
  ⟨0x1018, 0x20, 96, 1, .rw, 0x0, 0xFFFFFFFF, 0xFFFFFFFF⟩,
  ⟨0x101C, 0x20, 96, 1, .ro, 0x0, 0x0, 0x7F03⟩,
  ⟨0x3000, 0x20, 96, 1, .ro, 0x0, 0x0, 0xFFFFFFFF⟩,
  ⟨0x3004, 0x20, 96, 1, .ro, 0x0, 0x0, 0xFFFFFFFF⟩,
  ⟨0x3008, 0x20, 96, 1, .ro, 0x0, 0x0, 0xFFFFFFFF⟩,
  ⟨0x300C, 0x20, 96, 1, .ro, 0x0, 0x0, 0xFFFFFFFF⟩,
  ⟨0x3010, 0x20, 96, 1, .ro, 0x0, 0x0, 0xFFFFFFFF⟩,
  ⟨0x3014, 0x20, 96, 1, .ro, 0x0, 0x0, 0xFFFFFFFF⟩]
def regsFRM1 : List RegDesc := [
  ⟨0x3018, 0x20, 96, 1, .ro, 0x0, 0x0, 0xFFFFFFFF⟩,
  ⟨0x5000, 0x100, 8, 1, .rw, 0x24000000, 0x3FFF001F, 0x3FFF001F⟩,
  ⟨0x5004, 0x100, 8, 1, .ro, 0x0, 0x0, 0xFFFFFFFF⟩,
  ⟨0x5008, 0x100, 8, 1, .ro, 0x0, 0x0, 0xFFFFFFFF⟩,
  ⟨0x500C, 0x100, 8, 1, .ro, 0x0, 0x0, 0xFFFFFFFF⟩,
  ⟨0x5010, 0x100, 8, 1, .ro, 0x0, 0x0, 0xFFFFFFFF⟩,
  ⟨0x5080, 0x100, 8, 32, .rw, 0x0, 0xFFFFFFFF, 0xFFFFFFFF⟩]
def regsFRM : List RegDesc := regsFRM0 ++ regsFRM1

/-! ### DEC: unit 0x03 -/

/-- Host reset anchor [31:0] -/
def DEC_SYNC_ANCHOR_LO : Nat := 0x3000100
/-- Host reset anchor [63:32] -/
def DEC_SYNC_ANCHOR_HI : Nat := 0x3000104
/-- [0] GO; [1] ALL enabled slots; [15:8] slot -/
def DEC_SYNC_CTRL : Nat := 0x3000108
/-- [9:0] input load in the R89 limit (per mille) -/
def DEC_LOAD : Nat := 0x300010C
/-- [7:0] slot; [8] all slots -/
def DEC_CNT_CLEAR : Nat := 0x3000110
/-- Slot j configuration, j = 0–255 (shadow) -/
def DEC_STREAM_CFG (j : Nat) : Nat := 0x3001000 + 0x40 * j
/-- [15:0] stream identity -/
def DEC_STREAM_ID (j : Nat) : Nat := 0x3001004 + 0x40 * j
/-- FREQ [31:0] (shadow) -/
def DEC_NCO_FREQ_LO (j : Nat) : Nat := 0x3001008 + 0x40 * j
/-- [15:0] FREQ [47:32] (shadow) -/
def DEC_NCO_FREQ_HI (j : Nat) : Nat := 0x300100C + 0x40 * j
/-- [15:0] PHASE (shadow) -/
def DEC_NCO_PHASE (j : Nat) : Nat := 0x3001010 + 0x40 * j
/-- Output stage (shadow) -/
def DEC_OUT_SCALE (j : Nat) : Nat := 0x3001014 + 0x40 * j
/-- Stage shifts 0–7, 4 bits each (shadow) -/
def DEC_FORE_SHIFT_LO (j : Nat) : Nat := 0x3001018 + 0x40 * j
/-- [7:0] stage shifts 8–9 (shadow) -/
def DEC_FORE_SHIFT_HI (j : Nat) : Nat := 0x300101C + 0x40 * j
/-- Slot state -/
def DEC_STREAM_STATUS (j : Nat) : Nat := 0x3001020 + 0x40 * j
/-- [15:0] 2g of the setting in use -/
def DEC_GDELAY (j : Nat) : Nat := 0x3001024 + 0x40 * j
/-- Saturated output parts -/
def DEC_CNT_SAT (j : Nat) : Nat := 0x3001028 + 0x40 * j
/-- Void output frames -/
def DEC_CNT_VOID (j : Nat) : Nat := 0x300102C + 0x40 * j
def DEC_STATUS_ACTIVE : Field := ⟨UNIT_STATUS 0x3, 0, 9⟩
def DEC_STATUS_SYNC_PENDING : Field := ⟨UNIT_STATUS 0x3, 9, 1⟩
def DEC_BASIC_DECIM : Field := ⟨UNIT_BASIC 0x3, 0, 7⟩
def DEC_BASIC_ORDER : Field := ⟨UNIT_BASIC 0x3, 8, 3⟩
def DEC_BASIC_M2 : Field := ⟨UNIT_BASIC 0x3, 11, 1⟩
def DEC_BASIC_OUT_CI16 : Field := ⟨UNIT_BASIC 0x3, 12, 1⟩
def DEC_STREAM_CFG_DECIM (j : Nat) : Field := ⟨DEC_STREAM_CFG j, 0, 7⟩
def DEC_STREAM_CFG_ORDER (j : Nat) : Field := ⟨DEC_STREAM_CFG j, 8, 3⟩
def DEC_STREAM_CFG_M2 (j : Nat) : Field := ⟨DEC_STREAM_CFG j, 11, 1⟩
def DEC_STREAM_CFG_OUT_CI16 (j : Nat) : Field := ⟨DEC_STREAM_CFG j, 12, 1⟩
def DEC_STREAM_CFG_NCO_EN (j : Nat) : Field := ⟨DEC_STREAM_CFG j, 13, 1⟩
def DEC_STREAM_CFG_FORE (j : Nat) : Field := ⟨DEC_STREAM_CFG j, 14, 1⟩
def DEC_STREAM_CFG_TO_CHN (j : Nat) : Field := ⟨DEC_STREAM_CFG j, 16, 1⟩
def DEC_STREAM_CFG_TO_TRP (j : Nat) : Field := ⟨DEC_STREAM_CFG j, 17, 1⟩
def DEC_STREAM_CFG_EN (j : Nat) : Field := ⟨DEC_STREAM_CFG j, 31, 1⟩
def DEC_OUT_SCALE_SHIFT (j : Nat) : Field := ⟨DEC_OUT_SCALE j, 0, 6⟩
def DEC_OUT_SCALE_GAIN (j : Nat) : Field := ⟨DEC_OUT_SCALE j, 16, 16⟩
def DEC_STREAM_STATUS_SETTLED (j : Nat) : Field := ⟨DEC_STREAM_STATUS j, 0, 1⟩
def DEC_STREAM_STATUS_SHADOW_PENDING (j : Nat) : Field := ⟨DEC_STREAM_STATUS j, 1, 1⟩
def DEC_STREAM_STATUS_SYNC_PENDING (j : Nat) : Field := ⟨DEC_STREAM_STATUS j, 2, 1⟩
def DEC_STREAM_STATUS_FORE_IN_USE (j : Nat) : Field := ⟨DEC_STREAM_STATUS j, 3, 1⟩

/-- Register map of DEC. -/
def regsDEC0 : List RegDesc := [
  ⟨0x0, 0x1000000, 1, 1, .ro, 0x43454403, 0x0, 0xFFFFFFFF⟩,
  ⟨0x4, 0x1000000, 1, 1, .ro, 0xB100, 0x0, 0xFFFF⟩,
  ⟨0x8, 0x1000000, 1, 1, .ro, 0x0, 0x0, 0x3FF⟩,
  ⟨0xC, 0x1000000, 1, 1, .wc, 0x0, 0x0, 0x7⟩,
  ⟨0x10, 0x1000000, 1, 1, .rw, 0x0, 0x7, 0x7⟩,
  ⟨0x14, 0x1000000, 1, 1, .rw, 0x0, 0x0, 0x0⟩,
  ⟨0x18, 0x1000000, 1, 1, .rw, 0x401, 0x1F7F, 0x1F7F⟩,
  ⟨0x100, 0x1000000, 1, 1, .rw, 0x0, 0xFFFFFFFF, 0xFFFFFFFF⟩,
  ⟨0x104, 0x1000000, 1, 1, .rw, 0x0, 0xFFFFFFFF, 0xFFFFFFFF⟩,
  ⟨0x108, 0x1000000, 1, 1, .wo, 0x0, 0x0, 0xFFFFFFFF⟩,
  ⟨0x10C, 0x1000000, 1, 1, .ro, 0x0, 0x0, 0x3FF⟩,
  ⟨0x110, 0x1000000, 1, 1, .wo, 0x0, 0x0, 0xFFFFFFFF⟩,
  ⟨0x1000, 0x40, 256, 1, .rw, 0x10401, 0x80037F7F, 0x80037F7F⟩,
  ⟨0x1004, 0x40, 256, 1, .rw, 0x0, 0xFFFF, 0xFFFF⟩,
  ⟨0x1008, 0x40, 256, 1, .rw, 0x0, 0xFFFFFFFF, 0xFFFFFFFF⟩,
  ⟨0x100C, 0x40, 256, 1, .rw, 0x0, 0xFFFF, 0xFFFF⟩,
  ⟨0x1010, 0x40, 256, 1, .rw, 0x0, 0xFFFF, 0xFFFF⟩,
  ⟨0x1014, 0x40, 256, 1, .rw, 0x80000008, 0xFFFF003F, 0xFFFF003F⟩,
  ⟨0x1018, 0x40, 256, 1, .rw, 0x0, 0xFFFFFFFF, 0xFFFFFFFF⟩,
  ⟨0x101C, 0x40, 256, 1, .rw, 0x0, 0xFF, 0xFF⟩,
  ⟨0x1020, 0x40, 256, 1, .ro, 0x0, 0x0, 0xF⟩,
  ⟨0x1024, 0x40, 256, 1, .ro, 0x0, 0x0, 0xFFFF⟩,
  ⟨0x1028, 0x40, 256, 1, .ro, 0x0, 0x0, 0xFFFFFFFF⟩,
  ⟨0x102C, 0x40, 256, 1, .ro, 0x0, 0x0, 0xFFFFFFFF⟩]
def regsDEC : List RegDesc := regsDEC0

/-! ### CHN: unit 0x04 -/

/-- Start and stop -/
def CHN_CTRL : Nat := 0x4000100
/-- Unit state -/
def CHN_STATE : Nat := 0x4000104
/-- Start or stop anchor [31:0] -/
def CHN_ANCHOR_LO : Nat := 0x4000108
/-- Anchor [63:32] -/
def CHN_ANCHOR_HI : Nat := 0x400010C
/-- Filterbank and output -/
def CHN_CFG : Nat := 0x4000110
/-- [15:0] identity of local channel 0 -/
def CHN_CHAN_BASE : Nat := 0x4000114
/-- Emitted channels -/
def CHN_OUT_RANGE : Nat := 0x4000118
/-- Gain grouping and bank -/
def CHN_GAIN_CFG : Nat := 0x400011C
/-- [19:0] entry; [20] bank -/
def CHN_GAIN_ADDR : Nat := 0x4000120
/-- [15:0] gain at `CHN_GAIN_ADDR`; address increments on write -/
def CHN_GAIN_DATA : Nat := 0x4000124
/-- [19:0] coefficient address -/
def CHN_COEF_ADDR : Nat := 0x4000128
/-- [17:0] coefficient; address increments on write -/
def CHN_COEF_DATA : Nat := 0x400012C
/-- [20:0] R117 -/
def CHN_COEF_COUNT : Nat := 0x4000130
/-- R117 -/
def CHN_COEF_CRC : Nat := 0x4000134
/-- Statistics window -/
def CHN_STAT_CFG : Nat := 0x4000138
/-- [9:0] R120 (per mille) -/
def CHN_LOAD : Nat := 0x400013C
/-- [7:0] slot; [8] all slots -/
def CHN_CNT_CLEAR : Nat := 0x4000140
/-- Slot j, j = 0–255 -/
def CHN_SLOT_STATUS (j : Nat) : Nat := 0x4001000 + 0x20 * j
/-- Latched N -/
def CHN_STAT_N (j : Nat) : Nat := 0x4001004 + 0x20 * j
/-- Latched SAT -/
def CHN_STAT_SAT (j : Nat) : Nat := 0x4001008 + 0x20 * j
/-- Latched POW [31:0] -/
def CHN_STAT_POW_LO (j : Nat) : Nat := 0x400100C + 0x20 * j
/-- Latched POW [63:32] -/
def CHN_STAT_POW_HI (j : Nat) : Nat := 0x4001010 + 0x20 * j
/-- Saturated parts -/
def CHN_CNT_SAT (j : Nat) : Nat := 0x4001014 + 0x20 * j
/-- Void spectra emitted -/
def CHN_CNT_VOID (j : Nat) : Nat := 0x4001018 + 0x20 * j
def CHN_STATUS_ACTIVE : Field := ⟨UNIT_STATUS 0x4, 0, 9⟩
def CHN_BASIC_FFT_LOG2 : Field := ⟨UNIT_BASIC 0x4, 0, 5⟩
def CHN_BASIC_TAPS : Field := ⟨UNIT_BASIC 0x4, 8, 5⟩
def CHN_BASIC_OS43 : Field := ⟨UNIT_BASIC 0x4, 13, 1⟩
def CHN_BASIC_OUT_CH16 : Field := ⟨UNIT_BASIC 0x4, 14, 1⟩
def CHN_BASIC_OUT_SHIFT : Field := ⟨UNIT_BASIC 0x4, 16, 5⟩
def CHN_BASIC_BUILTIN : Field := ⟨UNIT_BASIC 0x4, 24, 1⟩
def CHN_CTRL_START : Field := ⟨CHN_CTRL, 0, 1⟩
def CHN_CTRL_STOP : Field := ⟨CHN_CTRL, 1, 1⟩
def CHN_CTRL_NOW : Field := ⟨CHN_CTRL, 2, 1⟩
def CHN_STATE_STATE : Field := ⟨CHN_STATE, 0, 2⟩
def CHN_STATE_STOP_PENDING : Field := ⟨CHN_STATE, 2, 1⟩
def CHN_CFG_FFT_LOG2 : Field := ⟨CHN_CFG, 0, 5⟩
def CHN_CFG_TAPS : Field := ⟨CHN_CFG, 8, 5⟩
def CHN_CFG_OS43 : Field := ⟨CHN_CFG, 13, 1⟩
def CHN_CFG_OUT_CH16 : Field := ⟨CHN_CFG, 14, 1⟩
def CHN_CFG_OUT_SHIFT : Field := ⟨CHN_CFG, 16, 5⟩
def CHN_OUT_RANGE_FIRST : Field := ⟨CHN_OUT_RANGE, 0, 16⟩
def CHN_OUT_RANGE_COUNT32 : Field := ⟨CHN_OUT_RANGE, 16, 12⟩
def CHN_GAIN_CFG_GROUP_LOG2 : Field := ⟨CHN_GAIN_CFG, 0, 4⟩
def CHN_GAIN_CFG_ACTIVE_BANK : Field := ⟨CHN_GAIN_CFG, 8, 1⟩
def CHN_GAIN_CFG_SWITCH_PENDING : Field := ⟨CHN_GAIN_CFG, 9, 1⟩
def CHN_STAT_CFG_WINDOW : Field := ⟨CHN_STAT_CFG, 0, 16⟩
def CHN_STAT_CFG_EN : Field := ⟨CHN_STAT_CFG, 31, 1⟩
def CHN_SLOT_STATUS_ACTIVE (j : Nat) : Field := ⟨CHN_SLOT_STATUS j, 0, 1⟩
def CHN_SLOT_STATUS_STATS_VALID (j : Nat) : Field := ⟨CHN_SLOT_STATUS j, 1, 1⟩

/-- Register map of CHN. -/
def regsCHN0 : List RegDesc := [
  ⟨0x0, 0x1000000, 1, 1, .ro, 0x4E484304, 0x0, 0xFFFFFFFF⟩,
  ⟨0x4, 0x1000000, 1, 1, .ro, 0xB100, 0x0, 0xFFFF⟩,
  ⟨0x8, 0x1000000, 1, 1, .ro, 0x0, 0x0, 0x1FF⟩,
  ⟨0xC, 0x1000000, 1, 1, .wc, 0x0, 0x0, 0x1F⟩,
  ⟨0x10, 0x1000000, 1, 1, .rw, 0x0, 0x1F, 0x1F⟩,
  ⟨0x14, 0x1000000, 1, 1, .rw, 0x0, 0x0, 0x0⟩,
  ⟨0x18, 0x1000000, 1, 1, .rw, 0x10E080C, 0x11F7F1F, 0x11F7F1F⟩,
  ⟨0x100, 0x1000000, 1, 1, .wo, 0x0, 0x0, 0x7⟩,
  ⟨0x104, 0x1000000, 1, 1, .ro, 0x0, 0x0, 0x7⟩,
  ⟨0x108, 0x1000000, 1, 1, .rw, 0x0, 0xFFFFFFFF, 0xFFFFFFFF⟩,
  ⟨0x10C, 0x1000000, 1, 1, .rw, 0x0, 0xFFFFFFFF, 0xFFFFFFFF⟩,
  ⟨0x110, 0x1000000, 1, 1, .rw, 0xE080C, 0x1F7F1F, 0x1F7F1F⟩,
  ⟨0x114, 0x1000000, 1, 1, .rw, 0x0, 0xFFFF, 0xFFFF⟩,
  ⟨0x118, 0x1000000, 1, 1, .rw, 0x0, 0xFFFFFFF, 0xFFFFFFF⟩,
  ⟨0x11C, 0x1000000, 1, 1, .rw, 0x0, 0xF, 0x30F⟩,
  ⟨0x120, 0x1000000, 1, 1, .rw, 0x0, 0x1FFFFF, 0x1FFFFF⟩,
  ⟨0x124, 0x1000000, 1, 1, .rw, 0x1000, 0xFFFF, 0xFFFF⟩,
  ⟨0x128, 0x1000000, 1, 1, .rw, 0x0, 0xFFFFF, 0xFFFFF⟩,
  ⟨0x12C, 0x1000000, 1, 1, .rw, 0x0, 0x3FFFF, 0x3FFFF⟩,
  ⟨0x130, 0x1000000, 1, 1, .ro, 0x0, 0x0, 0x1FFFFF⟩,
  ⟨0x134, 0x1000000, 1, 1, .ro, 0x0, 0x0, 0xFFFFFFFF⟩,
  ⟨0x138, 0x1000000, 1, 1, .rw, 0x0, 0x8000FFFF, 0x8000FFFF⟩,
  ⟨0x13C, 0x1000000, 1, 1, .ro, 0x0, 0x0, 0x3FF⟩,
  ⟨0x140, 0x1000000, 1, 1, .wo, 0x0, 0x0, 0xFFFFFFFF⟩]
def regsCHN1 : List RegDesc := [
  ⟨0x1000, 0x20, 256, 1, .ro, 0x0, 0x0, 0x3⟩,
  ⟨0x1004, 0x20, 256, 1, .ro, 0x0, 0x0, 0xFFFFFFFF⟩,
  ⟨0x1008, 0x20, 256, 1, .ro, 0x0, 0x0, 0xFFFFFFFF⟩,
  ⟨0x100C, 0x20, 256, 1, .ro, 0x0, 0x0, 0xFFFFFFFF⟩,
  ⟨0x1010, 0x20, 256, 1, .ro, 0x0, 0x0, 0xFFFFFFFF⟩,
  ⟨0x1014, 0x20, 256, 1, .ro, 0x0, 0x0, 0xFFFFFFFF⟩,
  ⟨0x1018, 0x20, 256, 1, .ro, 0x0, 0x0, 0xFFFFFFFF⟩]
def regsCHN : List RegDesc := regsCHN0 ++ regsCHN1

/-! ### RSY: unit 0x05 -/

/-- Start and stop, as `CHN_CTRL` -/
def RSY_CTRL : Nat := 0x5000100
/-- As `CHN_STATE` -/
def RSY_STATE : Nat := 0x5000104
/-- Anchor [31:0] -/
def RSY_ANCHOR_LO : Nat := 0x5000108
/-- Anchor [63:32] -/
def RSY_ANCHOR_HI : Nat := 0x500010C
/-- Synthesis and output -/
def RSY_CFG : Nat := 0x5000110
/-- [23:0] sample-clock periods per spectrum -/
def RSY_HOP : Nat := 0x5000114
/-- [13:0] coefficient address -/
def RSY_COEF_ADDR : Nat := 0x5000118
/-- [17:0] coefficient; address increments on write -/
def RSY_COEF_DATA : Nat := 0x500011C
/-- [14:0] as R117 -/
def RSY_COEF_COUNT : Nat := 0x5000120
/-- As R117 -/
def RSY_COEF_CRC : Nat := 0x5000124
/-- [0] all counters -/
def RSY_CNT_CLEAR : Nat := 0x5000128
/-- Saturated parts -/
def RSY_CNT_SAT : Nat := 0x500012C
/-- Void output grains -/
def RSY_CNT_VOID : Nat := 0x5000130
/-- [9:0] larger of the two R122 loads (per mille) -/
def RSY_LOAD : Nat := 0x5000134
/-- Slice n, n = 0–1,023 -/
def RSY_SLICE_BEAM (n : Nat) : Nat := 0x5001000 + 0x8 * n
/-- [15:0] FIRST_CHAN -/
def RSY_SLICE_CHAN (n : Nat) : Nat := 0x5001004 + 0x8 * n
def RSY_STATUS_ACTIVE : Field := ⟨UNIT_STATUS 0x5, 0, 11⟩
def RSY_BASIC_TAPS : Field := ⟨UNIT_BASIC 0x5, 8, 5⟩
def RSY_BASIC_OUT_FMT : Field := ⟨UNIT_BASIC 0x5, 13, 2⟩
def RSY_BASIC_BUILTIN : Field := ⟨UNIT_BASIC 0x5, 24, 1⟩
def RSY_CFG_PR_LOG2 : Field := ⟨RSY_CFG, 0, 4⟩
def RSY_CFG_TAPS : Field := ⟨RSY_CFG, 8, 5⟩
def RSY_CFG_OUT_FMT : Field := ⟨RSY_CFG, 13, 2⟩
def RSY_CFG_IN_EXP : Field := ⟨RSY_CFG, 16, 6⟩
def RSY_CFG_OUT_SHIFT : Field := ⟨RSY_CFG, 24, 5⟩
def RSY_SLICE_BEAM_BEAM (n : Nat) : Field := ⟨RSY_SLICE_BEAM n, 0, 16⟩
def RSY_SLICE_BEAM_EN (n : Nat) : Field := ⟨RSY_SLICE_BEAM n, 31, 1⟩

/-- Register map of RSY. -/
def regsRSY0 : List RegDesc := [
  ⟨0x0, 0x1000000, 1, 1, .ro, 0x59535205, 0x0, 0xFFFFFFFF⟩,
  ⟨0x4, 0x1000000, 1, 1, .ro, 0xB100, 0x0, 0xFFFF⟩,
  ⟨0x8, 0x1000000, 1, 1, .ro, 0x0, 0x0, 0x7FF⟩,
  ⟨0xC, 0x1000000, 1, 1, .wc, 0x0, 0x0, 0x1F⟩,
  ⟨0x10, 0x1000000, 1, 1, .rw, 0x0, 0x1F, 0x1F⟩,
  ⟨0x14, 0x1000000, 1, 1, .rw, 0x0, 0x0, 0x0⟩,
  ⟨0x18, 0x1000000, 1, 1, .rw, 0x1002800, 0x1007F00, 0x1007F00⟩,
  ⟨0x100, 0x1000000, 1, 1, .wo, 0x0, 0x0, 0x7⟩,
  ⟨0x104, 0x1000000, 1, 1, .ro, 0x0, 0x0, 0x7⟩,
  ⟨0x108, 0x1000000, 1, 1, .rw, 0x0, 0xFFFFFFFF, 0xFFFFFFFF⟩,
  ⟨0x10C, 0x1000000, 1, 1, .rw, 0x0, 0xFFFFFFFF, 0xFFFFFFFF⟩,
  ⟨0x110, 0x1000000, 1, 1, .rw, 0xC002807, 0x1F3F7F0F, 0x1F3F7F0F⟩,
  ⟨0x114, 0x1000000, 1, 1, .rw, 0x1000, 0xFFFFFF, 0xFFFFFF⟩,
  ⟨0x118, 0x1000000, 1, 1, .rw, 0x0, 0x3FFF, 0x3FFF⟩,
  ⟨0x11C, 0x1000000, 1, 1, .rw, 0x0, 0x3FFFF, 0x3FFFF⟩,
  ⟨0x120, 0x1000000, 1, 1, .ro, 0x0, 0x0, 0x7FFF⟩,
  ⟨0x124, 0x1000000, 1, 1, .ro, 0x0, 0x0, 0xFFFFFFFF⟩,
  ⟨0x128, 0x1000000, 1, 1, .wo, 0x0, 0x0, 0xFFFFFFFF⟩,
  ⟨0x12C, 0x1000000, 1, 1, .ro, 0x0, 0x0, 0xFFFFFFFF⟩,
  ⟨0x130, 0x1000000, 1, 1, .ro, 0x0, 0x0, 0xFFFFFFFF⟩,
  ⟨0x134, 0x1000000, 1, 1, .ro, 0x0, 0x0, 0x3FF⟩,
  ⟨0x1000, 0x8, 1024, 1, .rw, 0x0, 0x8000FFFF, 0x8000FFFF⟩,
  ⟨0x1004, 0x8, 1024, 1, .rw, 0x0, 0xFFFF, 0xFFFF⟩]
def regsRSY : List RegDesc := regsRSY0

/-! ### GRT: unit 0x06 -/

/-- [5:0] ID, R133 -/
def GRT_CHIP : Nat := 0x6000100
/-- [0] APPLY; [1] NOW -/
def GRT_CTRL : Nat := 0x6000104
/-- Apply anchor [31:0] -/
def GRT_ANCHOR_LO : Nat := 0x6000108
/-- Apply anchor [63:32] -/
def GRT_ANCHOR_HI : Nat := 0x600010C
/-- [0] APPLY_PENDING; [1] PREVIOUS_HELD -/
def GRT_STATE : Nat := 0x6000110
/-- R134 -/
def GRT_ROUTE_CRC : Nat := 0x6000114
/-- [0] all counters -/
def GRT_CNT_CLEAR : Nat := 0x6000118
/-- Frames not sent, R135 -/
def GRT_CNT_UNROUTED : Nat := 0x600011C
/-- R138 -/
def GRT_CNT_MISROUTE : Nat := 0x6000120
/-- R140 -/
def GRT_CNT_NOLINK : Nat := 0x6000124
/-- Frames forwarded -/
def GRT_CNT_RELAYED : Nat := 0x6000128
/-- Entry e, e = 0–63 (shadow): [15:0] FIRST_CHAN; [31:16] COUNT -/
def GRT_ROUTE_CHAN (e : Nat) : Nat := 0x6001000 + 0x8 * e
/-- [5:0] OWNER; [13:8] TWIN; [14] TWIN_EN; [31] EN (shadow) -/
def GRT_ROUTE_OWNER (e : Nat) : Nat := 0x6001004 + 0x8 * e
/-- Destination d, d = 0–63 (shadow): [5:0] RELAY; [15:8] MASK -/
def GRT_HOP (d : Nat) : Nat := 0x6002000 + 0x4 * d
/-- Lane n, n = 0–79 (shadow): [5:0] FAR; [8] ASSIGNED -/
def GRT_LANE_CFG (n : Nat) : Nat := 0x6003000 + 0x4 * n
/-- [5:0] learned chip; [8] VALID; [9] MISMATCH -/
def GRT_LANE_FAR (n : Nat) : Nat := 0x6003200 + 0x4 * n
def GRT_STATUS_LINKS_UP : Field := ⟨UNIT_STATUS 0x6, 0, 1⟩
def GRT_BASIC_PRESET : Field := ⟨UNIT_BASIC 0x6, 0, 2⟩
def GRT_BASIC_PARTS : Field := ⟨UNIT_BASIC 0x6, 8, 7⟩
def GRT_BASIC_CHANS : Field := ⟨UNIT_BASIC 0x6, 16, 16⟩
def GRT_ARM_REROUTE : Field := ⟨UNIT_ARM 0x6, 0, 1⟩

/-- Register map of GRT. -/
def regsGRT0 : List RegDesc := [
  ⟨0x0, 0x1000000, 1, 1, .ro, 0x54524706, 0x0, 0xFFFFFFFF⟩,
  ⟨0x4, 0x1000000, 1, 1, .ro, 0xB100, 0x0, 0xFFFF⟩,
  ⟨0x8, 0x1000000, 1, 1, .ro, 0x0, 0x0, 0x1⟩,
  ⟨0xC, 0x1000000, 1, 1, .wc, 0x0, 0x0, 0x1F⟩,
  ⟨0x10, 0x1000000, 1, 1, .rw, 0x0, 0x1F, 0x1F⟩,
  ⟨0x14, 0x1000000, 1, 1, .rw, 0x0, 0x1, 0x1⟩,
  ⟨0x18, 0x1000000, 1, 1, .rw, 0x802000, 0xFFFF7F03, 0xFFFF7F03⟩,
  ⟨0x100, 0x1000000, 1, 1, .rw, 0x0, 0x3F, 0x3F⟩,
  ⟨0x104, 0x1000000, 1, 1, .wo, 0x0, 0x0, 0xFFFFFFFF⟩,
  ⟨0x108, 0x1000000, 1, 1, .rw, 0x0, 0xFFFFFFFF, 0xFFFFFFFF⟩,
  ⟨0x10C, 0x1000000, 1, 1, .rw, 0x0, 0xFFFFFFFF, 0xFFFFFFFF⟩,
  ⟨0x110, 0x1000000, 1, 1, .ro, 0x0, 0x0, 0x3⟩,
  ⟨0x114, 0x1000000, 1, 1, .ro, 0x0, 0x0, 0xFFFFFFFF⟩,
  ⟨0x118, 0x1000000, 1, 1, .wo, 0x0, 0x0, 0xFFFFFFFF⟩,
  ⟨0x11C, 0x1000000, 1, 1, .ro, 0x0, 0x0, 0xFFFFFFFF⟩,
  ⟨0x120, 0x1000000, 1, 1, .ro, 0x0, 0x0, 0xFFFFFFFF⟩,
  ⟨0x124, 0x1000000, 1, 1, .ro, 0x0, 0x0, 0xFFFFFFFF⟩,
  ⟨0x128, 0x1000000, 1, 1, .ro, 0x0, 0x0, 0xFFFFFFFF⟩,
  ⟨0x1000, 0x8, 64, 1, .rw, 0x0, 0xFFFFFFFF, 0xFFFFFFFF⟩,
  ⟨0x1004, 0x8, 64, 1, .rw, 0x0, 0x80007F3F, 0x80007F3F⟩,
  ⟨0x2000, 0x4, 64, 1, .rw, 0x0, 0xFF3F, 0xFF3F⟩,
  ⟨0x3000, 0x4, 80, 1, .rw, 0x0, 0x13F, 0x13F⟩,
  ⟨0x3200, 0x4, 80, 1, .ro, 0x0, 0x0, 0x33F⟩]
def regsGRT : List RegDesc := regsGRT0

/-! ### STG: unit 0x07 -/

/-- As `CHN_CTRL` -/
def STG_CTRL : Nat := 0x7000100
/-- As `CHN_STATE` -/
def STG_STATE : Nat := 0x7000104
/-- Anchor [31:0] -/
def STG_ANCHOR_LO : Nat := 0x7000108
/-- Anchor [63:32] -/
def STG_ANCHOR_HI : Nat := 0x700010C
/-- Fields of `UNIT_BASIC` -/
def STG_CFG : Nat := 0x7000110
/-- [15:0] identity of slot 0 -/
def STG_STREAM_BASE : Nat := 0x7000114
/-- [15:0] reference F channel -/
def STG_CHAN_REF : Nat := 0x7000118
/-- Ticks, R145 (100 µs) -/
def STG_CLOSE_WAIT : Nat := 0x700011C
/-- R144; `_HI` at 0x124 -/
def STG_RING_BASE_LO : Nat := 0x7000120
/-- R144; `_HI` at 0x124 -/
def STG_RING_BASE_HI : Nat := 0x7000124
/-- R152; `_HI` at 0x12C -/
def STG_MASK_BASE_LO : Nat := 0x7000128
/-- R152; `_HI` at 0x12C -/
def STG_MASK_BASE_HI : Nat := 0x700012C
/-- R149; `_HI` at 0x134 -/
def STG_MODEL_BASE_LO : Nat := 0x7000130
/-- R149; `_HI` at 0x134 -/
def STG_MODEL_BASE_HI : Nat := 0x7000134
/-- R148; `_HI` at 0x13C -/
def STG_GAIN_BASE0_LO : Nat := 0x7000138
/-- R148; `_HI` at 0x13C -/
def STG_GAIN_BASE0_HI : Nat := 0x700013C
/-- R148; `_HI` at 0x144 -/
def STG_GAIN_BASE1_LO : Nat := 0x7000140
/-- R148; `_HI` at 0x144 -/
def STG_GAIN_BASE1_HI : Nat := 0x7000144
/-- Bit q set when slot q is free; `_HI` at 0x14C -/
def STG_MODEL_FREE_LO : Nat := 0x7000148
/-- Bit q set when slot q is free; `_HI` at 0x14C -/
def STG_MODEL_FREE_HI : Nat := 0x700014C
/-- Read position -/
def STG_POS : Nat := 0x7000150
/-- [0] all counters -/
def STG_CNT_CLEAR : Nat := 0x7000154
/-- R145 -/
def STG_CNT_LATE : Nat := 0x7000158
/-- R151 -/
def STG_CNT_SAT : Nat := 0x700015C
/-- Stream-spectra voided -/
def STG_CNT_VOID : Nat := 0x7000160
/-- R146 -/
def STG_CNT_HOLD : Nat := 0x7000164
/-- Slot q, q = 0–63; `_HI` at + 4 -/
def STG_MODEL_ANCHOR_LO (q : Nat) : Nat := 0x7001000 + 0x10 * q
/-- Slot q, q = 0–63; `_HI` at + 4 -/
def STG_MODEL_ANCHOR_HI (q : Nat) : Nat := 0x7001004 + 0x10 * q
/-- [0] VALID; [1] IN_USE -/
def STG_MODEL_STATUS (q : Nat) : Nat := 0x7001008 + 0x10 * q
/-- Source chip k, k = 0–63: [15:0] FIRST_STREAM; [27:16] COUNT -/
def STG_SRC (k : Nat) : Nat := 0x7002000 + 0x4 * k
def STG_STATUS_READING : Field := ⟨UNIT_STATUS 0x7, 0, 1⟩
def STG_BASIC_BLOCK_LOG2 : Field := ⟨UNIT_BASIC 0x7, 0, 4⟩
def STG_BASIC_SUB_LOG2 : Field := ⟨UNIT_BASIC 0x7, 4, 4⟩
def STG_BASIC_OUT_FMT : Field := ⟨UNIT_BASIC 0x7, 8, 2⟩
def STG_BASIC_PHASE_EN : Field := ⟨UNIT_BASIC 0x7, 12, 1⟩
def STG_BASIC_CAL_EN : Field := ⟨UNIT_BASIC 0x7, 13, 1⟩
def STG_BASIC_C4_SHIFT : Field := ⟨UNIT_BASIC 0x7, 16, 4⟩
def STG_BASIC_STREAMS : Field := ⟨UNIT_BASIC 0x7, 24, 5⟩
def STG_POS_CHAN : Field := ⟨STG_POS, 0, 12⟩
def STG_POS_SUB : Field := ⟨STG_POS, 12, 7⟩
def STG_POS_BLOCK : Field := ⟨STG_POS, 19, 13⟩

/-- Register map of STG. -/
def regsSTG0 : List RegDesc := [
  ⟨0x0, 0x1000000, 1, 1, .ro, 0x47545307, 0x0, 0xFFFFFFFF⟩,
  ⟨0x4, 0x1000000, 1, 1, .ro, 0xB100, 0x0, 0xFFFF⟩,
  ⟨0x8, 0x1000000, 1, 1, .ro, 0x0, 0x0, 0x1⟩,
  ⟨0xC, 0x1000000, 1, 1, .wc, 0x0, 0x0, 0x3F⟩,
  ⟨0x10, 0x1000000, 1, 1, .rw, 0x0, 0x3F, 0x3F⟩,
  ⟨0x14, 0x1000000, 1, 1, .rw, 0x0, 0x0, 0x0⟩,
  ⟨0x18, 0x1000000, 1, 1, .rw, 0x404002E, 0x1F0F33FF, 0x1F0F33FF⟩,
  ⟨0x100, 0x1000000, 1, 1, .wo, 0x0, 0x0, 0x7⟩,
  ⟨0x104, 0x1000000, 1, 1, .ro, 0x0, 0x0, 0x7⟩,
  ⟨0x108, 0x1000000, 1, 1, .rw, 0x0, 0xFFFFFFFF, 0xFFFFFFFF⟩,
  ⟨0x10C, 0x1000000, 1, 1, .rw, 0x0, 0xFFFFFFFF, 0xFFFFFFFF⟩,
  ⟨0x110, 0x1000000, 1, 1, .rw, 0x404002E, 0x1F0F33FF, 0x1F0F33FF⟩,
  ⟨0x114, 0x1000000, 1, 1, .rw, 0x0, 0xFFFF, 0xFFFF⟩,
  ⟨0x118, 0x1000000, 1, 1, .rw, 0x800, 0xFFFF, 0xFFFF⟩,
  ⟨0x11C, 0x1000000, 1, 1, .rw, 0x2710, 0xFFFFFFFF, 0xFFFFFFFF⟩,
  ⟨0x120, 0x1000000, 1, 1, .rw, 0x0, 0xFFFFFFFF, 0xFFFFFFFF⟩,
  ⟨0x124, 0x1000000, 1, 1, .rw, 0x0, 0xFFFFFFFF, 0xFFFFFFFF⟩,
  ⟨0x128, 0x1000000, 1, 1, .rw, 0x0, 0xFFFFFFFF, 0xFFFFFFFF⟩,
  ⟨0x12C, 0x1000000, 1, 1, .rw, 0x8, 0xFFFFFFFF, 0xFFFFFFFF⟩,
  ⟨0x130, 0x1000000, 1, 1, .rw, 0x1000000, 0xFFFFFFFF, 0xFFFFFFFF⟩,
  ⟨0x134, 0x1000000, 1, 1, .rw, 0x8, 0xFFFFFFFF, 0xFFFFFFFF⟩,
  ⟨0x138, 0x1000000, 1, 1, .rw, 0x1400000, 0xFFFFFFFF, 0xFFFFFFFF⟩,
  ⟨0x13C, 0x1000000, 1, 1, .rw, 0x8, 0xFFFFFFFF, 0xFFFFFFFF⟩,
  ⟨0x140, 0x1000000, 1, 1, .rw, 0x1500000, 0xFFFFFFFF, 0xFFFFFFFF⟩]
def regsSTG1 : List RegDesc := [
  ⟨0x144, 0x1000000, 1, 1, .rw, 0x8, 0xFFFFFFFF, 0xFFFFFFFF⟩,
  ⟨0x148, 0x1000000, 1, 1, .ro, 0xFFFFFFFF, 0x0, 0xFFFFFFFF⟩,
  ⟨0x14C, 0x1000000, 1, 1, .ro, 0xFFFFFFFF, 0x0, 0xFFFFFFFF⟩,
  ⟨0x150, 0x1000000, 1, 1, .ro, 0x0, 0x0, 0xFFFFFFFF⟩,
  ⟨0x154, 0x1000000, 1, 1, .wo, 0x0, 0x0, 0xFFFFFFFF⟩,
  ⟨0x158, 0x1000000, 1, 1, .ro, 0x0, 0x0, 0xFFFFFFFF⟩,
  ⟨0x15C, 0x1000000, 1, 1, .ro, 0x0, 0x0, 0xFFFFFFFF⟩,
  ⟨0x160, 0x1000000, 1, 1, .ro, 0x0, 0x0, 0xFFFFFFFF⟩,
  ⟨0x164, 0x1000000, 1, 1, .ro, 0x0, 0x0, 0xFFFFFFFF⟩,
  ⟨0x1000, 0x10, 64, 1, .ro, 0x0, 0x0, 0xFFFFFFFF⟩,
  ⟨0x1004, 0x10, 64, 1, .ro, 0x0, 0x0, 0xFFFFFFFF⟩,
  ⟨0x1008, 0x10, 64, 1, .ro, 0x0, 0x0, 0x3⟩,
  ⟨0x2000, 0x4, 64, 1, .rw, 0x0, 0xFFFFFFF, 0xFFFFFFF⟩]
def regsSTG : List RegDesc := regsSTG0 ++ regsSTG1

/-! ### BRG: unit 0x08 -/

/-- Tick period and lead -/
def BRG_TICK_CFG : Nat := 0x8000100
/-- [23:0] sample-clock periods per spectrum -/
def BRG_HOP : Nat := 0x8000104
/-- Target spectrum of the next tick [31:0] -/
def BRG_TICK_NEXT_LO : Nat := 0x8000108
/-- [63:32] -/
def BRG_TICK_NEXT_HI : Nat := 0x800010C
/-- [15:0] cores whose `POST` closes a tick -/
def BRG_POST_MASK : Nat := 0x8000110
/-- [15:0] cores posted for the oldest open tick; [17:16] open ticks -/
def BRG_POST_STATE : Nat := 0x8000114
/-- Tick of the armed direction switch, low 32 bits -/
def BRG_DIR_TICK : Nat := 0x8000118
/-- Direction halves -/
def BRG_DIR_CTRL : Nat := 0x800011C
/-- [0] all counters -/
def BRG_CNT_CLEAR : Nat := 0x8000120
/-- Ticks skipped -/
def BRG_CNT_OVERRUN : Nat := 0x8000124
/-- POST_STALL events -/
def BRG_CNT_STALL : Nat := 0x8000128
/-- Core c, c = 0–15 -/
def BRG_CORE_CTRL (c : Nat) : Nat := 0x8001000 + 0x40 * c
/-- Core state -/
def BRG_CORE_STATUS (c : Nat) : Nat := 0x8001004 + 0x40 * c
/-- [11:0] start address -/
def BRG_CORE_ENTRY (c : Nat) : Nat := 0x8001008 + 0x40 * c
/-- [11:0] interrupt vector -/
def BRG_CORE_VEC (c : Nat) : Nat := 0x800100C + 0x40 * c
/-- [0] TICK; [1] DOORBELL -/
def BRG_CORE_IEN (c : Nat) : Nat := 0x8001010 + 0x40 * c
/-- [0] raises DOORBELL; cleared by `RETI` -/
def BRG_CORE_DOORBELL (c : Nat) : Nat := 0x8001014 + 0x40 * c
/-- Host word, read by `MFS` MBOX -/
def BRG_CORE_MBOX (c : Nat) : Nat := 0x8001018 + 0x40 * c
/-- Last tick posted, low 32 bits -/
def BRG_CORE_POSTED (c : Nat) : Nat := 0x800101C + 0x40 * c
/-- X memory of core c -/
def BRG_X (c : Nat) (w : Nat) : Nat := 0x8100000 + 0x40000 * c + 4 * w
/-- Y memory of core c -/
def BRG_Y (c : Nat) (w : Nat) : Nat := 0x8110000 + 0x40000 * c + 4 * w
/-- Coefficient pairs of core c -/
def BRG_COEF (c : Nat) (w : Nat) : Nat := 0x8120000 + 0x40000 * c + 4 * w
/-- Program memory of core c -/
def BRG_PROG (c : Nat) (w : Nat) : Nat := 0x8130000 + 0x40000 * c + 4 * w
def BRG_STATUS_RUNNING : Field := ⟨UNIT_STATUS 0x8, 0, 16⟩
def BRG_BASIC_RUN : Field := ⟨UNIT_BASIC 0x8, 0, 1⟩
def BRG_BASIC_BUILTIN : Field := ⟨UNIT_BASIC 0x8, 1, 1⟩
def BRG_BASIC_PERIOD_LOG2 : Field := ⟨UNIT_BASIC 0x8, 8, 4⟩
def BRG_BASIC_CORE_EN : Field := ⟨UNIT_BASIC 0x8, 16, 16⟩
def BRG_TICK_CFG_PERIOD_LOG2 : Field := ⟨BRG_TICK_CFG, 0, 4⟩
def BRG_TICK_CFG_LEAD : Field := ⟨BRG_TICK_CFG, 16, 16⟩
def BRG_DIR_CTRL_HALF : Field := ⟨BRG_DIR_CTRL, 0, 1⟩
def BRG_DIR_CTRL_PENDING : Field := ⟨BRG_DIR_CTRL, 8, 1⟩
def BRG_DIR_CTRL_ACTIVE_HALF : Field := ⟨BRG_DIR_CTRL, 9, 1⟩
def BRG_CORE_CTRL_RUN (c : Nat) : Field := ⟨BRG_CORE_CTRL c, 0, 1⟩
def BRG_CORE_CTRL_HALT (c : Nat) : Field := ⟨BRG_CORE_CTRL c, 1, 1⟩
def BRG_CORE_CTRL_STEP (c : Nat) : Field := ⟨BRG_CORE_CTRL c, 2, 1⟩
def BRG_CORE_CTRL_LOADBI (c : Nat) : Field := ⟨BRG_CORE_CTRL c, 3, 1⟩
def BRG_CORE_STATUS_STATE (c : Nat) : Field := ⟨BRG_CORE_STATUS c, 0, 2⟩
def BRG_CORE_STATUS_SHADOW (c : Nat) : Field := ⟨BRG_CORE_STATUS c, 2, 1⟩
def BRG_CORE_STATUS_SAT (c : Nat) : Field := ⟨BRG_CORE_STATUS c, 3, 1⟩
def BRG_CORE_STATUS_FAULT_CAUSE (c : Nat) : Field := ⟨BRG_CORE_STATUS c, 4, 4⟩
def BRG_CORE_STATUS_PC (c : Nat) : Field := ⟨BRG_CORE_STATUS c, 16, 12⟩

/-- Register map of BRG. -/
def regsBRG0 : List RegDesc := [
  ⟨0x0, 0x1000000, 1, 1, .ro, 0x47524208, 0x0, 0xFFFFFFFF⟩,
  ⟨0x4, 0x1000000, 1, 1, .ro, 0xB100, 0x0, 0xFFFF⟩,
  ⟨0x8, 0x1000000, 1, 1, .ro, 0x0, 0x0, 0xFFFF⟩,
  ⟨0xC, 0x1000000, 1, 1, .wc, 0x0, 0x0, 0x3F⟩,
  ⟨0x10, 0x1000000, 1, 1, .rw, 0x0, 0x3F, 0x3F⟩,
  ⟨0x14, 0x1000000, 1, 1, .rw, 0x0, 0x0, 0x0⟩,
  ⟨0x18, 0x1000000, 1, 1, .rw, 0xFFFF0B02, 0xFFFF0F03, 0xFFFF0F03⟩,
  ⟨0x100, 0x1000000, 1, 1, .rw, 0xB, 0xFFFF000F, 0xFFFF000F⟩,
  ⟨0x104, 0x1000000, 1, 1, .rw, 0x1000, 0xFFFFFF, 0xFFFFFF⟩,
  ⟨0x108, 0x1000000, 1, 1, .ro, 0x0, 0x0, 0xFFFFFFFF⟩,
  ⟨0x10C, 0x1000000, 1, 1, .ro, 0x0, 0x0, 0xFFFFFFFF⟩,
  ⟨0x110, 0x1000000, 1, 1, .rw, 0xFFFF, 0xFFFF, 0xFFFF⟩,
  ⟨0x114, 0x1000000, 1, 1, .ro, 0x0, 0x0, 0x3FFFF⟩,
  ⟨0x118, 0x1000000, 1, 1, .rw, 0x0, 0xFFFFFFFF, 0xFFFFFFFF⟩,
  ⟨0x11C, 0x1000000, 1, 1, .rw, 0x0, 0x1, 0x301⟩,
  ⟨0x120, 0x1000000, 1, 1, .wo, 0x0, 0x0, 0xFFFFFFFF⟩,
  ⟨0x124, 0x1000000, 1, 1, .ro, 0x0, 0x0, 0xFFFFFFFF⟩,
  ⟨0x128, 0x1000000, 1, 1, .ro, 0x0, 0x0, 0xFFFFFFFF⟩,
  ⟨0x1000, 0x40, 16, 1, .wo, 0x0, 0x0, 0xF⟩,
  ⟨0x1004, 0x40, 16, 1, .ro, 0x0, 0x0, 0xFFF00FF⟩,
  ⟨0x1008, 0x40, 16, 1, .rw, 0x0, 0xFFF, 0xFFF⟩,
  ⟨0x100C, 0x40, 16, 1, .rw, 0x0, 0xFFF, 0xFFF⟩,
  ⟨0x1010, 0x40, 16, 1, .rw, 0x0, 0x3, 0x3⟩,
  ⟨0x1014, 0x40, 16, 1, .ws, 0x0, 0x0, 0x1⟩]
def regsBRG1 : List RegDesc := [
  ⟨0x1018, 0x40, 16, 1, .rw, 0x0, 0xFFFFFFFF, 0xFFFFFFFF⟩,
  ⟨0x101C, 0x40, 16, 1, .ro, 0x0, 0x0, 0xFFFFFFFF⟩,
  ⟨0x100000, 0x40000, 16, 16384, .rw, 0x0, 0xFFFFFFFF, 0xFFFFFFFF⟩,
  ⟨0x110000, 0x40000, 16, 16384, .rw, 0x0, 0xFFFFFFFF, 0xFFFFFFFF⟩,
  ⟨0x120000, 0x40000, 16, 8192, .rw, 0x0, 0xFFFFFFFF, 0xFFFFFFFF⟩,
  ⟨0x130000, 0x40000, 16, 4096, .rw, 0x0, 0xFFFFFFFF, 0xFFFFFFFF⟩]
def regsBRG : List RegDesc := regsBRG0 ++ regsBRG1

/-! ### XAR: unit 0x09 -/

/-- Arrays 0–31, bit per array -/
def XAR_ENABLE_0 : Nat := 0x9000100
/-- Arrays 32–63 -/
def XAR_ENABLE_1 : Nat := 0x9000104
/-- [15:0] arrays 64–79 -/
def XAR_ENABLE_2 : Nat := 0x9000108
/-- Arrays 0–31 filling or exchanging -/
def XAR_BUSY_0 : Nat := 0x900010C
/-- Arrays 32–63 -/
def XAR_BUSY_1 : Nat := 0x9000110
/-- [15:0] arrays 64–79 -/
def XAR_BUSY_2 : Nat := 0x9000114
/-- Arrays 0–31 isolated, R200 -/
def XAR_ISOLATED_0 : Nat := 0x9000118
/-- Arrays 32–63 -/
def XAR_ISOLATED_1 : Nat := 0x900011C
/-- [15:0] arrays 64–79 -/
def XAR_ISOLATED_2 : Nat := 0x9000120
/-- Weight banks and beam activity -/
def XAR_WG_STATE : Nat := 0x9000124
/-- Sky frequency of `STG_CHAN_REF` (Hz), unsigned -/
def XAR_WG_KF : Nat := 0x9000128
/-- Channel spacing (Hz), unsigned -/
def XAR_WG_KS : Nat := 0x900012C
/-- [6:0] array; [7] all arrays and unit counters -/
def XAR_CNT_CLEAR : Nat := 0x9000130
/-- Split beam tiles, R195 -/
def XAR_CNT_SPLIT : Nat := 0x9000134
/-- Corrected tile-store cells, R199 -/
def XAR_CNT_CORR : Nat := 0x9000138
/-- ARG of the last PROBE passed -/
def XAR_PROBE_TAG : Nat := 0x900013C
/-- Its ANCHOR [31:0] -/
def XAR_PROBE_IDX_LO : Nat := 0x9000140
/-- Its ANCHOR [63:32] -/
def XAR_PROBE_IDX_HI : Nat := 0x9000144
/-- Array a, a = 0–79 -/
def XAR_ARR_STATUS (a : Nat) : Nat := 0x9001000 + 0x20 * a
/-- Tile filling -/
def XAR_ARR_TILE (a : Nat) : Nat := 0x9001004 + 0x20 * a
/-- Passes completed, R189 -/
def XAR_ARR_CNT_PASS (a : Nat) : Nat := 0x9001008 + 0x20 * a
/-- Passes that waited on an exchange, R197 -/
def XAR_ARR_CNT_STALL (a : Nat) : Nat := 0x900100C + 0x20 * a
/-- Checksum mismatches, R198 -/
def XAR_ARR_CNT_CHECK (a : Nat) : Nat := 0x9001010 + 0x20 * a
/-- Uncorrectable loads and operand errors, R199 -/
def XAR_ARR_CNT_UE (a : Nat) : Nat := 0x9001014 + 0x20 * a
/-- Direction table, bank i word w -/
def XAR_DIR (i : Nat) (w : Nat) : Nat := 0x9100000 + 0x8000 * i + 4 * w
/-- Position table -/
def XAR_POS (w : Nat) : Nat := 0x9200000 + 4 * w
/-- Taper table set t -/
def XAR_TAPER (t : Nat) (w : Nat) : Nat := 0x9300000 + 0x1000 * t + 4 * w
/-- Weight table, bank i -/
def XAR_WEIGHT (i : Nat) (w : Nat) : Nat := 0x9400000 + 0x400000 * i + 4 * w
def XAR_STATUS_BUSY : Field := ⟨UNIT_STATUS 0x9, 0, 7⟩
def XAR_STATUS_ENABLED : Field := ⟨UNIT_STATUS 0x9, 8, 7⟩
def XAR_BASIC_EN : Field := ⟨UNIT_BASIC 0x9, 0, 1⟩
def XAR_BASIC_WSRC : Field := ⟨UNIT_BASIC 0x9, 4, 1⟩
def XAR_BASIC_TAPER_EN : Field := ⟨UNIT_BASIC 0x9, 5, 1⟩
def XAR_BASIC_CHECK_EN : Field := ⟨UNIT_BASIC 0x9, 8, 1⟩
def XAR_ARM_ISOLATE : Field := ⟨UNIT_ARM 0x9, 0, 1⟩
def XAR_WG_STATE_ACTIVE_BANK : Field := ⟨XAR_WG_STATE, 0, 1⟩
def XAR_WG_STATE_SWITCH_PENDING : Field := ⟨XAR_WG_STATE, 1, 1⟩
def XAR_WG_STATE_BEAM_BUSY : Field := ⟨XAR_WG_STATE, 2, 1⟩
def XAR_ARR_STATUS_STATE (a : Nat) : Field := ⟨XAR_ARR_STATUS a, 0, 3⟩
def XAR_ARR_STATUS_EXCHANGING (a : Nat) : Field := ⟨XAR_ARR_STATUS a, 3, 1⟩
def XAR_ARR_STATUS_SPLIT (a : Nat) : Field := ⟨XAR_ARR_STATUS a, 4, 1⟩
def XAR_ARR_STATUS_FORMAT (a : Nat) : Field := ⟨XAR_ARR_STATUS a, 5, 2⟩
def XAR_ARR_TILE_KEY (a : Nat) : Field := ⟨XAR_ARR_TILE a, 0, 30⟩
def XAR_ARR_TILE_VALID (a : Nat) : Field := ⟨XAR_ARR_TILE a, 31, 1⟩

/-- Register map of XAR. -/
def regsXAR0 : List RegDesc := [
  ⟨0x0, 0x1000000, 1, 1, .ro, 0x52415809, 0x0, 0xFFFFFFFF⟩,
  ⟨0x4, 0x1000000, 1, 1, .ro, 0xB100, 0x0, 0xFFFF⟩,
  ⟨0x8, 0x1000000, 1, 1, .ro, 0x5000, 0x0, 0x7F7F⟩,
  ⟨0xC, 0x1000000, 1, 1, .wc, 0x0, 0x0, 0x3F⟩,
  ⟨0x10, 0x1000000, 1, 1, .rw, 0x0, 0x3F, 0x3F⟩,
  ⟨0x14, 0x1000000, 1, 1, .rw, 0x0, 0x1, 0x1⟩,
  ⟨0x18, 0x1000000, 1, 1, .rw, 0x101, 0x131, 0x131⟩,
  ⟨0x100, 0x1000000, 1, 1, .rw, 0xFFFFFFFF, 0xFFFFFFFF, 0xFFFFFFFF⟩,
  ⟨0x104, 0x1000000, 1, 1, .rw, 0xFFFFFFFF, 0xFFFFFFFF, 0xFFFFFFFF⟩,
  ⟨0x108, 0x1000000, 1, 1, .rw, 0xFFFF, 0xFFFF, 0xFFFF⟩,
  ⟨0x10C, 0x1000000, 1, 1, .ro, 0x0, 0x0, 0xFFFFFFFF⟩,
  ⟨0x110, 0x1000000, 1, 1, .ro, 0x0, 0x0, 0xFFFFFFFF⟩,
  ⟨0x114, 0x1000000, 1, 1, .ro, 0x0, 0x0, 0xFFFF⟩,
  ⟨0x118, 0x1000000, 1, 1, .ro, 0x0, 0x0, 0xFFFFFFFF⟩,
  ⟨0x11C, 0x1000000, 1, 1, .ro, 0x0, 0x0, 0xFFFFFFFF⟩,
  ⟨0x120, 0x1000000, 1, 1, .ro, 0x0, 0x0, 0xFFFF⟩,
  ⟨0x124, 0x1000000, 1, 1, .ro, 0x0, 0x0, 0x7⟩,
  ⟨0x128, 0x1000000, 1, 1, .rw, 0x0, 0xFFFFFFFF, 0xFFFFFFFF⟩,
  ⟨0x12C, 0x1000000, 1, 1, .rw, 0x0, 0xFFFFFFFF, 0xFFFFFFFF⟩,
  ⟨0x130, 0x1000000, 1, 1, .wo, 0x0, 0x0, 0xFFFFFFFF⟩,
  ⟨0x134, 0x1000000, 1, 1, .ro, 0x0, 0x0, 0xFFFFFFFF⟩,
  ⟨0x138, 0x1000000, 1, 1, .ro, 0x0, 0x0, 0xFFFFFFFF⟩,
  ⟨0x13C, 0x1000000, 1, 1, .ro, 0x0, 0x0, 0xFFFFFFFF⟩,
  ⟨0x140, 0x1000000, 1, 1, .ro, 0x0, 0x0, 0xFFFFFFFF⟩]
def regsXAR1 : List RegDesc := [
  ⟨0x144, 0x1000000, 1, 1, .ro, 0x0, 0x0, 0xFFFFFFFF⟩,
  ⟨0x1000, 0x20, 80, 1, .ro, 0x1, 0x0, 0x7F⟩,
  ⟨0x1004, 0x20, 80, 1, .ro, 0x0, 0x0, 0xBFFFFFFF⟩,
  ⟨0x1008, 0x20, 80, 1, .ro, 0x0, 0x0, 0xFFFFFFFF⟩,
  ⟨0x100C, 0x20, 80, 1, .ro, 0x0, 0x0, 0xFFFFFFFF⟩,
  ⟨0x1010, 0x20, 80, 1, .ro, 0x0, 0x0, 0xFFFFFFFF⟩,
  ⟨0x1014, 0x20, 80, 1, .ro, 0x0, 0x0, 0xFFFFFFFF⟩,
  ⟨0x100000, 0x8000, 2, 8192, .rw, 0x0, 0xFFFFFFFF, 0xFFFFFFFF⟩,
  ⟨0x200000, 0x1000000, 1, 16384, .rw, 0x0, 0xFFFFFFFF, 0xFFFFFFFF⟩,
  ⟨0x300000, 0x1000, 256, 1024, .rw, 0x0, 0xFFFFFFFF, 0xFFFFFFFF⟩,
  ⟨0x400000, 0x400000, 2, 1048576, .rw, 0x0, 0xFFFFFFFF, 0xFFFFFFFF⟩]
def regsXAR : List RegDesc := regsXAR0 ++ regsXAR1

/-! ### ACC: unit 0x0A -/

/-- Drain and kurtosis reset -/
def ACC_CTRL : Nat := 0xA000100
/-- ARG of host drains, R206 -/
def ACC_DRAIN_ARG : Nat := 0xA000104
/-- R210 -/
def ACC_LOAD : Nat := 0xA000108
/-- [0] all counters -/
def ACC_CNT_CLEAR : Nat := 0xA00010C
/-- R208, R219, R220 -/
def ACC_CNT_SAT : Nat := 0xA000110
/-- R229, R230 -/
def ACC_CNT_POISON : Nat := 0xA000114
/-- R214 -/
def ACC_CNT_PLANE_FULL : Nat := 0xA000118
/-- R211 -/
def ACC_CNT_DRAIN_LATE : Nat := 0xA00011C
/-- Plan p, p = 0–15 -/
def ACC_PLAN_CFG (p : Nat) : Nat := 0xA001000 + 0x80 * p
/-- Plan state -/
def ACC_PLAN_STATUS (p : Nat) : Nat := 0xA001004 + 0x80 * p
/-- Binary32, R219 -/
def ACC_OUT_SCALE (p : Nat) : Nat := 0xA001008 + 0x80 * p
/-- Binary32 -/
def ACC_OUT_BIAS_RE (p : Nat) : Nat := 0xA00100C + 0x80 * p
/-- Binary32 -/
def ACC_OUT_BIAS_IM (p : Nat) : Nat := 0xA001010 + 0x80 * p
/-- Binary32, CLAMP -/
def ACC_ACT_LO (p : Nat) : Nat := 0xA001014 + 0x80 * p
/-- Binary32, CLAMP -/
def ACC_ACT_HI (p : Nat) : Nat := 0xA001018 + 0x80 * p
/-- Binary32, 0.05, R216 -/
def ACC_SK_DEV (p : Nat) : Nat := 0xA00101C + 0x80 * p
/-- Set 0, R209; `_HI` at + 0x24 -/
def ACC_SET0_BASE_LO (p : Nat) : Nat := 0xA001020 + 0x80 * p
/-- Set 0, R209; `_HI` at + 0x24 -/
def ACC_SET0_BASE_HI (p : Nat) : Nat := 0xA001024 + 0x80 * p
/-- Set 1; `_HI` at + 0x2C -/
def ACC_SET1_BASE_LO (p : Nat) : Nat := 0xA001028 + 0x80 * p
/-- Set 1; `_HI` at + 0x2C -/
def ACC_SET1_BASE_HI (p : Nat) : Nat := 0xA00102C + 0x80 * p
/-- [19:0] planes per set -/
def ACC_PLANE_CAP (p : Nat) : Nat := 0xA001030 + 0x80 * p
/-- Ports and pacing -/
def ACC_OUT_CFG (p : Nat) : Nat := 0xA001034 + 0x80 * p
/-- Number of the last closed integration -/
def ACC_PLAN_INTEG (p : Nat) : Nat := 0xA001038 + 0x80 * p
/-- Blocks merged into the integrating set -/
def ACC_PLAN_BLOCKS (p : Nat) : Nat := 0xA00103C + 0x80 * p
/-- First spectrum of the integrating set; `_HI` at + 0x44 -/
def ACC_PLAN_FIRST_LO (p : Nat) : Nat := 0xA001040 + 0x80 * p
/-- First spectrum of the integrating set; `_HI` at + 0x44 -/
def ACC_PLAN_FIRST_HI (p : Nat) : Nat := 0xA001044 + 0x80 * p
/-- VIS frames sent -/
def ACC_PLAN_CNT_FRAMES (p : Nat) : Nat := 0xA001048 + 0x80 * p
/-- Planes in the integrating set -/
def ACC_PLAN_CNT_PLANES (p : Nat) : Nat := 0xA00104C + 0x80 * p
def ACC_STATUS_BUSY : Field := ⟨UNIT_STATUS 0xA, 0, 16⟩
def ACC_BASIC_OUT_FMT : Field := ⟨UNIT_BASIC 0xA, 0, 4⟩
def ACC_BASIC_NORM : Field := ⟨UNIT_BASIC 0xA, 4, 1⟩
def ACC_BASIC_REDUCE_EN : Field := ⟨UNIT_BASIC 0xA, 5, 1⟩
def ACC_BASIC_SK_EN : Field := ⟨UNIT_BASIC 0xA, 6, 1⟩
def ACC_BASIC_SK_WINDOW : Field := ⟨UNIT_BASIC 0xA, 8, 6⟩
def ACC_BASIC_PORTS : Field := ⟨UNIT_BASIC 0xA, 16, 8⟩
def ACC_CTRL_PLAN : Field := ⟨ACC_CTRL, 0, 4⟩
def ACC_CTRL_DRAIN : Field := ⟨ACC_CTRL, 4, 1⟩
def ACC_CTRL_SK_RESET : Field := ⟨ACC_CTRL, 5, 1⟩
def ACC_LOAD_MERGE : Field := ⟨ACC_LOAD, 0, 10⟩
def ACC_LOAD_REDUCE : Field := ⟨ACC_LOAD, 16, 10⟩
def ACC_PLAN_CFG_EN (p : Nat) : Field := ⟨ACC_PLAN_CFG p, 0, 1⟩
def ACC_PLAN_CFG_NORM (p : Nat) : Field := ⟨ACC_PLAN_CFG p, 1, 1⟩
def ACC_PLAN_CFG_REDUCE_EN (p : Nat) : Field := ⟨ACC_PLAN_CFG p, 2, 1⟩
def ACC_PLAN_CFG_SK_EN (p : Nat) : Field := ⟨ACC_PLAN_CFG p, 3, 1⟩
def ACC_PLAN_CFG_OUT_FMT (p : Nat) : Field := ⟨ACC_PLAN_CFG p, 4, 4⟩
def ACC_PLAN_CFG_ACT (p : Nat) : Field := ⟨ACC_PLAN_CFG p, 8, 3⟩
def ACC_PLAN_CFG_SK_WINDOW (p : Nat) : Field := ⟨ACC_PLAN_CFG p, 16, 6⟩
def ACC_PLAN_CFG_BEAM (p : Nat) : Field := ⟨ACC_PLAN_CFG p, 24, 1⟩
def ACC_PLAN_STATUS_BUSY (p : Nat) : Field := ⟨ACC_PLAN_STATUS p, 0, 1⟩
def ACC_PLAN_STATUS_ACTIVE_SET (p : Nat) : Field := ⟨ACC_PLAN_STATUS p, 1, 1⟩
def ACC_PLAN_STATUS_DRAINING (p : Nat) : Field := ⟨ACC_PLAN_STATUS p, 2, 1⟩
def ACC_PLAN_STATUS_DRAIN_LATE (p : Nat) : Field := ⟨ACC_PLAN_STATUS p, 3, 1⟩
def ACC_PLAN_STATUS_SK_BASE (p : Nat) : Field := ⟨ACC_PLAN_STATUS p, 4, 1⟩
def ACC_PLAN_STATUS_DUMP_PENDING (p : Nat) : Field := ⟨ACC_PLAN_STATUS p, 5, 1⟩
def ACC_OUT_CFG_PORTS (p : Nat) : Field := ⟨ACC_OUT_CFG p, 0, 8⟩
def ACC_OUT_CFG_RATE (p : Nat) : Field := ⟨ACC_OUT_CFG p, 16, 16⟩

/-- Register map of ACC. -/
def regsACC0 : List RegDesc := [
  ⟨0x0, 0x1000000, 1, 1, .ro, 0x4343410A, 0x0, 0xFFFFFFFF⟩,
  ⟨0x4, 0x1000000, 1, 1, .ro, 0xB100, 0x0, 0xFFFF⟩,
  ⟨0x8, 0x1000000, 1, 1, .ro, 0x0, 0x0, 0xFFFF⟩,
  ⟨0xC, 0x1000000, 1, 1, .wc, 0x0, 0x0, 0x1FF⟩,
  ⟨0x10, 0x1000000, 1, 1, .rw, 0x0, 0x1FF, 0x1FF⟩,
  ⟨0x14, 0x1000000, 1, 1, .rw, 0x0, 0x0, 0x0⟩,
  ⟨0x18, 0x1000000, 1, 1, .rw, 0x11067, 0xFF3F7F, 0xFF3F7F⟩,
  ⟨0x100, 0x1000000, 1, 1, .wo, 0x0, 0x0, 0x3F⟩,
  ⟨0x104, 0x1000000, 1, 1, .rw, 0x0, 0xFFFFFFFF, 0xFFFFFFFF⟩,
  ⟨0x108, 0x1000000, 1, 1, .ro, 0x0, 0x0, 0x3FF03FF⟩,
  ⟨0x10C, 0x1000000, 1, 1, .wo, 0x0, 0x0, 0xFFFFFFFF⟩,
  ⟨0x110, 0x1000000, 1, 1, .ro, 0x0, 0x0, 0xFFFFFFFF⟩,
  ⟨0x114, 0x1000000, 1, 1, .ro, 0x0, 0x0, 0xFFFFFFFF⟩,
  ⟨0x118, 0x1000000, 1, 1, .ro, 0x0, 0x0, 0xFFFFFFFF⟩,
  ⟨0x11C, 0x1000000, 1, 1, .ro, 0x0, 0x0, 0xFFFFFFFF⟩,
  ⟨0x1000, 0x80, 16, 1, .rw, 0x10007D, 0x13F07FF, 0x13F07FF⟩,
  ⟨0x1004, 0x80, 16, 1, .ro, 0x0, 0x0, 0x3F⟩,
  ⟨0x1008, 0x80, 16, 1, .rw, 0x3F800000, 0xFFFFFFFF, 0xFFFFFFFF⟩,
  ⟨0x100C, 0x80, 16, 1, .rw, 0x0, 0xFFFFFFFF, 0xFFFFFFFF⟩,
  ⟨0x1010, 0x80, 16, 1, .rw, 0x0, 0xFFFFFFFF, 0xFFFFFFFF⟩,
  ⟨0x1014, 0x80, 16, 1, .rw, 0xFF7FFFFF, 0xFFFFFFFF, 0xFFFFFFFF⟩,
  ⟨0x1018, 0x80, 16, 1, .rw, 0x7F7FFFFF, 0xFFFFFFFF, 0xFFFFFFFF⟩,
  ⟨0x101C, 0x80, 16, 1, .rw, 0x3D4CCCCD, 0xFFFFFFFF, 0xFFFFFFFF⟩,
  ⟨0x1020, 0x80, 16, 1, .rw, 0x2000000, 0xFFFFFFFF, 0xFFFFFFFF⟩]
def regsACC1 : List RegDesc := [
  ⟨0x1024, 0x80, 16, 1, .rw, 0x8, 0xFFFFFFFF, 0xFFFFFFFF⟩,
  ⟨0x1028, 0x80, 16, 1, .rw, 0x17000000, 0xFFFFFFFF, 0xFFFFFFFF⟩,
  ⟨0x102C, 0x80, 16, 1, .rw, 0xA, 0xFFFFFFFF, 0xFFFFFFFF⟩,
  ⟨0x1030, 0x80, 16, 1, .rw, 0x20000, 0xFFFFF, 0xFFFFF⟩,
  ⟨0x1034, 0x80, 16, 1, .rw, 0x1, 0xFFFF00FF, 0xFFFF00FF⟩,
  ⟨0x1038, 0x80, 16, 1, .ro, 0x0, 0x0, 0xFFFFFFFF⟩,
  ⟨0x103C, 0x80, 16, 1, .ro, 0x0, 0x0, 0xFFFFFFFF⟩,
  ⟨0x1040, 0x80, 16, 1, .ro, 0x0, 0x0, 0xFFFFFFFF⟩,
  ⟨0x1044, 0x80, 16, 1, .ro, 0x0, 0x0, 0xFFFFFFFF⟩,
  ⟨0x1048, 0x80, 16, 1, .ro, 0x0, 0x0, 0xFFFFFFFF⟩,
  ⟨0x104C, 0x80, 16, 1, .ro, 0x0, 0x0, 0xFFFFFFFF⟩]
def regsACC : List RegDesc := regsACC0 ++ regsACC1

/-! ### ATL: unit 0x0B -/

/-- Plan-level commands -/
def ATL_CTRL : Nat := 0xB000100
/-- Slot use -/
def ATL_SLOTS : Nat := 0xB000104
/-- [14:0] highest USED since the last counter clear -/
def ATL_SLOTS_PEAK : Nat := 0xB000108
/-- [23:0] pages holding tiles -/
def ATL_PAGES_USED : Nat := 0xB00010C
/-- R247; `_HI` at 0x114 -/
def ATL_PAGE_BASE_LO : Nat := 0xB000110
/-- R247; `_HI` at 0x114 -/
def ATL_PAGE_BASE_HI : Nat := 0xB000114
/-- [23:0] pages -/
def ATL_PAGE_COUNT : Nat := 0xB000118
/-- Pseudo-channels 0–31 excluded, R255 -/
def ATL_PC_EXCL_LO : Nat := 0xB00011C
/-- Pseudo-channels 32–63 -/
def ATL_PC_EXCL_HI : Nat := 0xB000120
/-- Quarantine and release -/
def ATL_QUAR_CTRL : Nat := 0xB000124
/-- Migration in progress -/
def ATL_QUAR_STATUS : Nat := 0xB000128
/-- [21:0] descriptor to snapshot -/
def ATL_DESC_INDEX : Nat := 0xB00012C
/-- Descriptor [31:0] -/
def ATL_DESC_LO : Nat := 0xB000130
/-- Descriptor [63:32] -/
def ATL_DESC_HI : Nat := 0xB000134
/-- Poison and ECC -/
def ATL_DESC_AUX : Nat := 0xB000138
/-- [29:0] tile key, R245 -/
def ATL_OP_KEY : Nat := 0xB00013C
/-- READ destination, 64-byte aligned; `_HI` at 0x144 -/
def ATL_OP_ADDR_LO : Nat := 0xB000140
/-- READ destination, 64-byte aligned; `_HI` at 0x144 -/
def ATL_OP_ADDR_HI : Nat := 0xB000144
/-- Host operation -/
def ATL_OP_CTRL : Nat := 0xB000148
/-- Host operation state -/
def ATL_OP_STATUS : Nat := 0xB00014C
/-- [0] all counters and `ATL_SLOTS_PEAK` -/
def ATL_CNT_CLEAR : Nat := 0xB000150
/-- Passes dispatched -/
def ATL_CNT_DISPATCH : Nat := 0xB000154
/-- Page-ins -/
def ATL_CNT_PAGE_IN : Nat := 0xB000158
/-- Page-outs -/
def ATL_CNT_PAGE_OUT : Nat := 0xB00015C
/-- Passes that waited, R246, R248 -/
def ATL_CNT_SLOT_WAIT : Nat := 0xB000160
/-- TILE_BUSY refusals -/
def ATL_CNT_BUSY : Nat := 0xB000164
/-- Block results poisoned -/
def ATL_CNT_POISON : Nat := 0xB000168
/-- Corrected descriptors -/
def ATL_CNT_DESC_CORR : Nat := 0xB00016C
/-- Pages moved, R255 -/
def ATL_CNT_MOVED : Nat := 0xB000170
/-- Plan p, p = 0–15: [21:0] first descriptor -/
def ATL_PLAN_BASE (p : Nat) : Nat := 0xB001000 + 0x10 * p
/-- Region shape, R237; plans 1–15 reset to 0 -/
def ATL_PLAN_SHAPE (p : Nat) : Nat := 0xB001004 + 0x10 * p
/-- Plan state -/
def ATL_PLAN_STATUS (p : Nat) : Nat := 0xB001008 + 0x10 * p
/-- [23:0] pages held by the plan -/
def ATL_PLAN_PAGES (p : Nat) : Nat := 0xB00100C + 0x10 * p
/-- Class k, k = 0–15 -/
def ATL_ISSUE_STATUS (k : Nat) : Nat := 0xB002000 + 0x10 * k
/-- [29:0] key the head waits for; [31] VALID -/
def ATL_ISSUE_BLOCKER (k : Nat) : Nat := 0xB002004 + 0x10 * k
/-- Pseudo-channel n, n = 0–63 -/
def ATL_PC_STATUS (n : Nat) : Nat := 0xB003000 + 0x4 * n
def ATL_STATUS_DISPATCHING : Field := ⟨UNIT_STATUS 0xB, 0, 1⟩
def ATL_STATUS_PAGING_ACTIVE : Field := ⟨UNIT_STATUS 0xB, 1, 1⟩
def ATL_STATUS_QUARANTINE_ACTIVE : Field := ⟨UNIT_STATUS 0xB, 2, 1⟩
def ATL_STATUS_SLOT_WAIT : Field := ⟨UNIT_STATUS 0xB, 3, 1⟩
def ATL_BASIC_EN : Field := ⟨UNIT_BASIC 0xB, 0, 1⟩
def ATL_BASIC_AUTO : Field := ⟨UNIT_BASIC 0xB, 1, 1⟩
def ATL_BASIC_PAGING : Field := ⟨UNIT_BASIC 0xB, 2, 1⟩
def ATL_BASIC_PREFETCH : Field := ⟨UNIT_BASIC 0xB, 8, 8⟩
def ATL_ARM_QUARANTINE : Field := ⟨UNIT_ARM 0xB, 0, 1⟩
def ATL_CTRL_PLAN : Field := ⟨ATL_CTRL, 0, 4⟩
def ATL_CTRL_STATS_RESET : Field := ⟨ATL_CTRL, 4, 1⟩
def ATL_CTRL_UNLOAD : Field := ⟨ATL_CTRL, 5, 1⟩
def ATL_SLOTS_USED : Field := ⟨ATL_SLOTS, 0, 15⟩
def ATL_SLOTS_COMPLETE : Field := ⟨ATL_SLOTS, 16, 15⟩
def ATL_QUAR_CTRL_PC : Field := ⟨ATL_QUAR_CTRL, 0, 6⟩
def ATL_QUAR_CTRL_QUARANTINE : Field := ⟨ATL_QUAR_CTRL, 8, 1⟩
def ATL_QUAR_CTRL_RELEASE : Field := ⟨ATL_QUAR_CTRL, 9, 1⟩
def ATL_QUAR_STATUS_PC : Field := ⟨ATL_QUAR_STATUS, 0, 6⟩
def ATL_QUAR_STATUS_ACTIVE : Field := ⟨ATL_QUAR_STATUS, 6, 1⟩
def ATL_QUAR_STATUS_STALLED : Field := ⟨ATL_QUAR_STATUS, 7, 1⟩
def ATL_QUAR_STATUS_LEFT : Field := ⟨ATL_QUAR_STATUS, 8, 24⟩
def ATL_DESC_AUX_POISON : Field := ⟨ATL_DESC_AUX, 0, 1⟩
def ATL_DESC_AUX_CORRECTED : Field := ⟨ATL_DESC_AUX, 1, 1⟩
def ATL_OP_CTRL_CMD : Field := ⟨ATL_OP_CTRL, 0, 2⟩
def ATL_OP_CTRL_CLASS : Field := ⟨ATL_OP_CTRL, 4, 4⟩
def ATL_OP_CTRL_GO : Field := ⟨ATL_OP_CTRL, 8, 1⟩
def ATL_OP_CTRL_ABORT : Field := ⟨ATL_OP_CTRL, 9, 1⟩
def ATL_OP_STATUS_STATE : Field := ⟨ATL_OP_STATUS, 0, 2⟩
def ATL_OP_STATUS_RESULT : Field := ⟨ATL_OP_STATUS, 4, 4⟩
def ATL_PLAN_SHAPE_ROWS (p : Nat) : Field := ⟨ATL_PLAN_SHAPE p, 0, 8⟩
def ATL_PLAN_SHAPE_COLS (p : Nat) : Field := ⟨ATL_PLAN_SHAPE p, 8, 8⟩
def ATL_PLAN_SHAPE_BEAM (p : Nat) : Field := ⟨ATL_PLAN_SHAPE p, 16, 1⟩
def ATL_PLAN_SHAPE_LM1 (p : Nat) : Field := ⟨ATL_PLAN_SHAPE p, 20, 12⟩
def ATL_PLAN_STATUS_DECLARED (p : Nat) : Field := ⟨ATL_PLAN_STATUS p, 0, 1⟩
def ATL_PLAN_STATUS_STATS (p : Nat) : Field := ⟨ATL_PLAN_STATUS p, 1, 1⟩
def ATL_PLAN_STATUS_OWNED (p : Nat) : Field := ⟨ATL_PLAN_STATUS p, 2, 1⟩
def ATL_PLAN_STATUS_LEAD (p : Nat) : Field := ⟨ATL_PLAN_STATUS p, 8, 8⟩
def ATL_ISSUE_STATUS_WAITING (k : Nat) : Field := ⟨ATL_ISSUE_STATUS k, 0, 8⟩
def ATL_ISSUE_STATUS_BLOCKED (k : Nat) : Field := ⟨ATL_ISSUE_STATUS k, 8, 1⟩
def ATL_PC_STATUS_PAGES (n : Nat) : Field := ⟨ATL_PC_STATUS n, 0, 24⟩
def ATL_PC_STATUS_EXCLUDED (n : Nat) : Field := ⟨ATL_PC_STATUS n, 24, 1⟩
def ATL_PC_STATUS_MIGRATING (n : Nat) : Field := ⟨ATL_PC_STATUS n, 25, 1⟩
def ATL_PC_STATUS_DEGRADED (n : Nat) : Field := ⟨ATL_PC_STATUS n, 26, 1⟩
def ATL_PC_STATUS_DEAD (n : Nat) : Field := ⟨ATL_PC_STATUS n, 27, 1⟩

/-- Register map of ATL. -/
def regsATL0 : List RegDesc := [
  ⟨0x0, 0x1000000, 1, 1, .ro, 0x4C54410B, 0x0, 0xFFFFFFFF⟩,
  ⟨0x4, 0x1000000, 1, 1, .ro, 0xB100, 0x0, 0xFFFF⟩,
  ⟨0x8, 0x1000000, 1, 1, .ro, 0x0, 0x0, 0xF⟩,
  ⟨0xC, 0x1000000, 1, 1, .wc, 0x0, 0x0, 0x3FF⟩,
  ⟨0x10, 0x1000000, 1, 1, .rw, 0x0, 0x3FF, 0x3FF⟩,
  ⟨0x14, 0x1000000, 1, 1, .rw, 0x0, 0x1, 0x1⟩,
  ⟨0x18, 0x1000000, 1, 1, .rw, 0x4007, 0xFF07, 0xFF07⟩,
  ⟨0x100, 0x1000000, 1, 1, .wo, 0x0, 0x0, 0x3F⟩,
  ⟨0x104, 0x1000000, 1, 1, .ro, 0x0, 0x0, 0x7FFF7FFF⟩,
  ⟨0x108, 0x1000000, 1, 1, .ro, 0x0, 0x0, 0x7FFF⟩,
  ⟨0x10C, 0x1000000, 1, 1, .ro, 0x0, 0x0, 0xFFFFFF⟩,
  ⟨0x110, 0x1000000, 1, 1, .rw, 0x2C000000, 0xFFFFFFFF, 0xFFFFFFFF⟩,
  ⟨0x114, 0x1000000, 1, 1, .rw, 0xC, 0xFFFFFFFF, 0xFFFFFFFF⟩,
  ⟨0x118, 0x1000000, 1, 1, .rw, 0x20000, 0xFFFFFF, 0xFFFFFF⟩,
  ⟨0x11C, 0x1000000, 1, 1, .ro, 0x0, 0x0, 0xFFFFFFFF⟩,
  ⟨0x120, 0x1000000, 1, 1, .ro, 0x0, 0x0, 0xFFFFFFFF⟩,
  ⟨0x124, 0x1000000, 1, 1, .wo, 0x0, 0x0, 0x33F⟩,
  ⟨0x128, 0x1000000, 1, 1, .ro, 0x0, 0x0, 0xFFFFFFFF⟩,
  ⟨0x12C, 0x1000000, 1, 1, .rw, 0x0, 0x3FFFFF, 0x3FFFFF⟩,
  ⟨0x130, 0x1000000, 1, 1, .ro, 0x0, 0x0, 0xFFFFFFFF⟩,
  ⟨0x134, 0x1000000, 1, 1, .ro, 0x0, 0x0, 0xFFFFFFFF⟩,
  ⟨0x138, 0x1000000, 1, 1, .ro, 0x0, 0x0, 0x3⟩,
  ⟨0x13C, 0x1000000, 1, 1, .rw, 0x0, 0x3FFFFFFF, 0x3FFFFFFF⟩,
  ⟨0x140, 0x1000000, 1, 1, .rw, 0x0, 0xFFFFFFFF, 0xFFFFFFFF⟩]
def regsATL1 : List RegDesc := [
  ⟨0x144, 0x1000000, 1, 1, .rw, 0x0, 0xFFFFFFFF, 0xFFFFFFFF⟩,
  ⟨0x148, 0x1000000, 1, 1, .wo, 0x0, 0x0, 0x3F3⟩,
  ⟨0x14C, 0x1000000, 1, 1, .ro, 0x0, 0x0, 0xF3⟩,
  ⟨0x150, 0x1000000, 1, 1, .wo, 0x0, 0x0, 0xFFFFFFFF⟩,
  ⟨0x154, 0x1000000, 1, 1, .ro, 0x0, 0x0, 0xFFFFFFFF⟩,
  ⟨0x158, 0x1000000, 1, 1, .ro, 0x0, 0x0, 0xFFFFFFFF⟩,
  ⟨0x15C, 0x1000000, 1, 1, .ro, 0x0, 0x0, 0xFFFFFFFF⟩,
  ⟨0x160, 0x1000000, 1, 1, .ro, 0x0, 0x0, 0xFFFFFFFF⟩,
  ⟨0x164, 0x1000000, 1, 1, .ro, 0x0, 0x0, 0xFFFFFFFF⟩,
  ⟨0x168, 0x1000000, 1, 1, .ro, 0x0, 0x0, 0xFFFFFFFF⟩,
  ⟨0x16C, 0x1000000, 1, 1, .ro, 0x0, 0x0, 0xFFFFFFFF⟩,
  ⟨0x170, 0x1000000, 1, 1, .ro, 0x0, 0x0, 0xFFFFFFFF⟩,
  ⟨0x1000, 0x10, 16, 1, .rw, 0x0, 0x3FFFFF, 0x3FFFFF⟩,
  ⟨0x1004, 0x10, 16, 1, .rw, 0x7F08080, 0xFFF1FFFF, 0xFFF1FFFF⟩,
  ⟨0x1008, 0x10, 16, 1, .ro, 0x0, 0x0, 0xFF07⟩,
  ⟨0x100C, 0x10, 16, 1, .ro, 0x0, 0x0, 0xFFFFFF⟩,
  ⟨0x2000, 0x10, 16, 1, .ro, 0x0, 0x0, 0x1FF⟩,
  ⟨0x2004, 0x10, 16, 1, .ro, 0x0, 0x0, 0xBFFFFFFF⟩,
  ⟨0x3000, 0x4, 64, 1, .ro, 0x0, 0x0, 0xFFFFFFF⟩]
def regsATL : List RegDesc := regsATL0 ++ regsATL1

/-! ### MEM: unit 0x0C -/

/-- Training, self-refresh, error log -/
def MEM_CTRL : Nat := 0xC000100
/-- Stack states -/
def MEM_STATE : Nat := 0xC000104
/-- [15:0] idle ticks before self-refresh, R342; 0 means 64 -/
def MEM_SR_IDLE : Nat := 0xC000108
/-- Retraining period and temperature step -/
def MEM_RETRAIN_CFG : Nat := 0xC00010C
/-- Minimum margin -/
def MEM_TRAIN_MIN : Nat := 0xC000110
/-- [15:0] HOURS per scrub pass, 1–65,535 -/
def MEM_SCRUB_CFG : Nat := 0xC000114
/-- [29:0] next unit, A[35:6] -/
def MEM_SCRUB_POS : Nat := 0xC000118
/-- [15:0] corrected errors per second, R347 -/
def MEM_CE_THR : Nat := 0xC00011C
/-- Pseudo-channels 0–31 DEGRADED or DEAD -/
def MEM_DEGRADED_LO : Nat := 0xC000120
/-- Pseudo-channels 32–63 -/
def MEM_DEGRADED_HI : Nat := 0xC000124
/-- Uncorrectable errors -/
def MEM_UE_COUNT : Nat := 0xC000128
/-- Oldest log entry: A[35:6], [29:0] -/
def MEM_UE_ADDR_LO : Nat := 0xC00012C
/-- Oldest log entry: source -/
def MEM_UE_INFO : Nat := 0xC000130
/-- [0] all counters and `MEM_SR_WAIT_MAX` -/
def MEM_CNT_CLEAR : Nat := 0xC000134
/-- R343 -/
def MEM_CNT_SR_ABANDON : Nat := 0xC000138
/-- R344 -/
def MEM_CNT_SR_WAIT : Nat := 0xC00013C
/-- [11:0] longest wait (ns) -/
def MEM_SR_WAIT_MAX : Nat := 0xC000140
/-- R352 -/
def MEM_CNT_CMD_RETRY : Nat := 0xC000144
/-- Pseudo-channel retirement, R348 -/
def MEM_RETIRE : Nat := 0xC000148
/-- Stack s, s = 0–1 -/
def MEM_STACK_STATUS (s : Nat) : Nat := 0xC000200 + 0x10 * s
/-- Pseudo-channel n, n = 0–63 -/
def MEM_PC_STATUS (n : Nat) : Nat := 0xC001000 + 0x40 * n
/-- Corrected errors -/
def MEM_PC_CNT_CE (n : Nat) : Nat := 0xC001004 + 0x40 * n
/-- Corrected errors in the last second -/
def MEM_PC_CE_RATE (n : Nat) : Nat := 0xC001008 + 0x40 * n
/-- Uncorrectable errors -/
def MEM_PC_CNT_UE (n : Nat) : Nat := 0xC00100C + 0x40 * n
/-- Stack error-check count, R349 -/
def MEM_PC_ODECC (n : Nat) : Nat := 0xC001010 + 0x40 * n
/-- [7:0] time (1/64 UI), [15:8] voltage (mV) of the setting in use -/
def MEM_PC_MARGIN (n : Nat) : Nat := 0xC001014 + 0x40 * n
/-- Retrainings completed -/
def MEM_PC_CNT_RETRAIN (n : Nat) : Nat := 0xC001018 + 0x40 * n
def MEM_STATUS_SR : Field := ⟨UNIT_STATUS 0xC, 0, 2⟩
def MEM_STATUS_DEGRADED : Field := ⟨UNIT_STATUS 0xC, 2, 1⟩
def MEM_BASIC_RETRAIN_EN : Field := ⟨UNIT_BASIC 0xC, 0, 1⟩
def MEM_BASIC_SCRUB_EN : Field := ⟨UNIT_BASIC 0xC, 1, 1⟩
def MEM_BASIC_AUTO_SR : Field := ⟨UNIT_BASIC 0xC, 2, 1⟩
def MEM_CTRL_TRAIN : Field := ⟨MEM_CTRL, 0, 1⟩
def MEM_CTRL_SR_ENTER : Field := ⟨MEM_CTRL, 1, 2⟩
def MEM_CTRL_SR_EXIT : Field := ⟨MEM_CTRL, 3, 2⟩
def MEM_CTRL_UE_NEXT : Field := ⟨MEM_CTRL, 8, 1⟩
def MEM_STATE_STACK0 : Field := ⟨MEM_STATE, 0, 3⟩
def MEM_STATE_STACK1 : Field := ⟨MEM_STATE, 4, 3⟩
def MEM_RETRAIN_CFG_PERIOD : Field := ⟨MEM_RETRAIN_CFG, 0, 16⟩
def MEM_RETRAIN_CFG_TEMP_DELTA : Field := ⟨MEM_RETRAIN_CFG, 16, 8⟩
def MEM_TRAIN_MIN_TIME : Field := ⟨MEM_TRAIN_MIN, 0, 8⟩
def MEM_TRAIN_MIN_VOLT : Field := ⟨MEM_TRAIN_MIN, 8, 8⟩
def MEM_UE_INFO_PORT : Field := ⟨MEM_UE_INFO, 0, 3⟩
def MEM_UE_INFO_SOURCE : Field := ⟨MEM_UE_INFO, 3, 3⟩
def MEM_UE_INFO_PC : Field := ⟨MEM_UE_INFO, 8, 6⟩
def MEM_UE_INFO_OVERFLOW : Field := ⟨MEM_UE_INFO, 30, 1⟩
def MEM_UE_INFO_VALID : Field := ⟨MEM_UE_INFO, 31, 1⟩
def MEM_STACK_STATUS_TEMP (s : Nat) : Field := ⟨MEM_STACK_STATUS s, 0, 8⟩
def MEM_STACK_STATUS_REFRESH_X2 (s : Nat) : Field := ⟨MEM_STACK_STATUS s, 8, 1⟩
def MEM_PC_STATUS_STATE (n : Nat) : Field := ⟨MEM_PC_STATUS n, 0, 2⟩
def MEM_PC_STATUS_RETRAINING (n : Nat) : Field := ⟨MEM_PC_STATUS n, 2, 1⟩
def MEM_PC_STATUS_STEP (n : Nat) : Field := ⟨MEM_PC_STATUS n, 4, 4⟩
def MEM_PC_STATUS_BENCHMARK (n : Nat) : Field := ⟨MEM_PC_STATUS n, 8, 1⟩
def MEM_RETIRE_PC : Field := ⟨MEM_RETIRE, 0, 6⟩
def MEM_RETIRE_GO : Field := ⟨MEM_RETIRE, 8, 1⟩
def MEM_RETIRE_ABORT : Field := ⟨MEM_RETIRE, 9, 1⟩
def MEM_RETIRE_RESTORE : Field := ⟨MEM_RETIRE, 10, 1⟩
def MEM_RETIRE_RETIRED : Field := ⟨MEM_RETIRE, 16, 1⟩
def MEM_RETIRE_BUSY : Field := ⟨MEM_RETIRE, 17, 1⟩

/-- Register map of MEM. -/
def regsMEM0 : List RegDesc := [
  ⟨0x0, 0x1000000, 1, 1, .ro, 0x4D454D0C, 0x0, 0xFFFFFFFF⟩,
  ⟨0x4, 0x1000000, 1, 1, .ro, 0xB100, 0x0, 0xFFFF⟩,
  ⟨0x8, 0x1000000, 1, 1, .ro, 0x0, 0x0, 0x7⟩,
  ⟨0xC, 0x1000000, 1, 1, .wc, 0x0, 0x0, 0xFFF⟩,
  ⟨0x10, 0x1000000, 1, 1, .rw, 0x0, 0xFFF, 0xFFF⟩,
  ⟨0x14, 0x1000000, 1, 1, .rw, 0x0, 0x0, 0x0⟩,
  ⟨0x18, 0x1000000, 1, 1, .rw, 0x3, 0x7, 0x7⟩,
  ⟨0x100, 0x1000000, 1, 1, .wo, 0x0, 0x0, 0x11F⟩,
  ⟨0x104, 0x1000000, 1, 1, .ro, 0x0, 0x0, 0x77⟩,
  ⟨0x108, 0x1000000, 1, 1, .rw, 0x0, 0xFFFF, 0xFFFF⟩,
  ⟨0x10C, 0x1000000, 1, 1, .rw, 0xA0258, 0xFFFFFF, 0xFFFFFF⟩,
  ⟨0x110, 0x1000000, 1, 1, .rw, 0x1408, 0xFFFF, 0xFFFF⟩,
  ⟨0x114, 0x1000000, 1, 1, .rw, 0x18, 0xFFFF, 0xFFFF⟩,
  ⟨0x118, 0x1000000, 1, 1, .ro, 0x0, 0x0, 0x3FFFFFFF⟩,
  ⟨0x11C, 0x1000000, 1, 1, .rw, 0x64, 0xFFFF, 0xFFFF⟩,
  ⟨0x120, 0x1000000, 1, 1, .ro, 0x0, 0x0, 0xFFFFFFFF⟩,
  ⟨0x124, 0x1000000, 1, 1, .ro, 0x0, 0x0, 0xFFFFFFFF⟩,
  ⟨0x128, 0x1000000, 1, 1, .ro, 0x0, 0x0, 0xFFFFFFFF⟩,
  ⟨0x12C, 0x1000000, 1, 1, .ro, 0x0, 0x0, 0x3FFFFFFF⟩,
  ⟨0x130, 0x1000000, 1, 1, .ro, 0x0, 0x0, 0xC0003F3F⟩,
  ⟨0x134, 0x1000000, 1, 1, .wo, 0x0, 0x0, 0xFFFFFFFF⟩,
  ⟨0x138, 0x1000000, 1, 1, .ro, 0x0, 0x0, 0xFFFFFFFF⟩,
  ⟨0x13C, 0x1000000, 1, 1, .ro, 0x0, 0x0, 0xFFFFFFFF⟩,
  ⟨0x140, 0x1000000, 1, 1, .ro, 0x0, 0x0, 0xFFF⟩]
def regsMEM1 : List RegDesc := [
  ⟨0x144, 0x1000000, 1, 1, .ro, 0x0, 0x0, 0xFFFFFFFF⟩,
  ⟨0x148, 0x1000000, 1, 1, .rw, 0x0, 0x3F, 0x3073F⟩,
  ⟨0x200, 0x10, 2, 1, .ro, 0x0, 0x0, 0x1FF⟩,
  ⟨0x1000, 0x40, 64, 1, .ro, 0x0, 0x0, 0x1F7⟩,
  ⟨0x1004, 0x40, 64, 1, .ro, 0x0, 0x0, 0xFFFFFFFF⟩,
  ⟨0x1008, 0x40, 64, 1, .ro, 0x0, 0x0, 0xFFFFFFFF⟩,
  ⟨0x100C, 0x40, 64, 1, .ro, 0x0, 0x0, 0xFFFFFFFF⟩,
  ⟨0x1010, 0x40, 64, 1, .ro, 0x0, 0x0, 0xFFFFFFFF⟩,
  ⟨0x1014, 0x40, 64, 1, .ro, 0x0, 0x0, 0xFFFF⟩,
  ⟨0x1018, 0x40, 64, 1, .ro, 0x0, 0x0, 0xFFFFFFFF⟩]
def regsMEM : List RegDesc := regsMEM0 ++ regsMEM1

/-! ### SVY: unit 0x0D -/

/-- [2:0] core; [3] all cores -/
def SVY_CNT_CLEAR : Nat := 0xD000100
/-- [15:0] plan tags held by a core -/
def SVY_TAGS : Nat := 0xD000104
/-- Core c, c = 0–7 -/
def SVY_CORE_CTRL (c : Nat) : Nat := 0xD001000 + 0x80 * c
/-- Core state -/
def SVY_CORE_STATUS (c : Nat) : Nat := 0xD001004 + 0x80 * c
/-- Image HBM address [31:0] -/
def SVY_CORE_IMG_LO (c : Nat) : Nat := 0xD001008 + 0x80 * c
/-- Image HBM address [63:32]; 0xFFFF_FFFF for the window load -/
def SVY_CORE_IMG_HI (c : Nat) : Nat := 0xD00100C + 0x80 * c
/-- Load outcome -/
def SVY_CORE_LOAD_RESULT (c : Nat) : Nat := 0xD001010 + 0x80 * c
/-- [15:0] handle to abort, R285 -/
def SVY_CORE_ABORT (c : Nat) : Nat := 0xD001014 + 0x80 * c
/-- Reply to the last host abort -/
def SVY_CORE_ABORT_RESULT (c : Nat) : Nat := 0xD001018 + 0x80 * c
/-- [3:0] register s0–s15 -/
def SVY_CORE_REG_SEL (c : Nat) : Nat := 0xD00101C + 0x80 * c
/-- Selected register [31:0]; write at the next step point -/
def SVY_CORE_REG_LO (c : Nat) : Nat := 0xD001020 + 0x80 * c
/-- Selected register [63:32]; a write to `_LO` commits both -/
def SVY_CORE_REG_HI (c : Nat) : Nat := 0xD001024 + 0x80 * c
/-- Operations in flight -/
def SVY_CORE_INFLIGHT (c : Nat) : Nat := 0xD001028 + 0x80 * c
/-- [15:0] IMM of the last STEP; [31:16] step count, low 16 bits -/
def SVY_CORE_STEP (c : Nat) : Nat := 0xD00102C + 0x80 * c
/-- What the core waits for -/
def SVY_CORE_WAIT (c : Nat) : Nat := 0xD001030 + 0x80 * c
/-- Operations issued -/
def SVY_CORE_CNT_OPS (c : Nat) : Nat := 0xD001034 + 0x80 * c
/-- Results with a status other than OK, ALREADY_DONE or ABORTED -/
def SVY_CORE_CNT_REFUSED (c : Nat) : Nat := 0xD001038 + 0x80 * c
/-- Implicit steps, R285 -/
def SVY_CORE_CNT_IMPLICIT (c : Nat) : Nat := 0xD00103C + 0x80 * c
/-- 64 words: the header of Table 11.2; writable while EMPTY -/
def SVY_CORE_HDR (c : Nat) (w : Nat) : Nat := 0xD002000 + 0x100 * c + 4 * w
/-- Plan memory of core c -/
def SVY_MEM (c : Nat) (w : Nat) : Nat := 0xD100000 + 0x40000 * c + 4 * w
def SVY_STATUS_RUNNING : Field := ⟨UNIT_STATUS 0xD, 0, 8⟩
def SVY_BASIC_RUN : Field := ⟨UNIT_BASIC 0xD, 0, 1⟩
def SVY_BASIC_INTEG_BLOCKS : Field := ⟨UNIT_BASIC 0xD, 8, 8⟩
def SVY_CORE_CTRL_LOAD (c : Nat) : Field := ⟨SVY_CORE_CTRL c, 0, 1⟩
def SVY_CORE_CTRL_START (c : Nat) : Field := ⟨SVY_CORE_CTRL c, 1, 1⟩
def SVY_CORE_CTRL_STOP (c : Nat) : Field := ⟨SVY_CORE_CTRL c, 2, 1⟩
def SVY_CORE_CTRL_KILL (c : Nat) : Field := ⟨SVY_CORE_CTRL c, 3, 1⟩
def SVY_CORE_CTRL_SUSPEND (c : Nat) : Field := ⟨SVY_CORE_CTRL c, 4, 1⟩
def SVY_CORE_CTRL_RESUME (c : Nat) : Field := ⟨SVY_CORE_CTRL c, 5, 1⟩
def SVY_CORE_CTRL_UNLOAD (c : Nat) : Field := ⟨SVY_CORE_CTRL c, 6, 1⟩
def SVY_CORE_STATUS_STATE (c : Nat) : Field := ⟨SVY_CORE_STATUS c, 0, 3⟩
def SVY_CORE_STATUS_TAG (c : Nat) : Field := ⟨SVY_CORE_STATUS c, 4, 4⟩
def SVY_CORE_STATUS_FORERUNNER (c : Nat) : Field := ⟨SVY_CORE_STATUS c, 8, 1⟩
def SVY_CORE_STATUS_HOST_PENDING (c : Nat) : Field := ⟨SVY_CORE_STATUS c, 9, 1⟩
def SVY_CORE_STATUS_FAULT_CAUSE (c : Nat) : Field := ⟨SVY_CORE_STATUS c, 12, 4⟩
def SVY_CORE_STATUS_PC (c : Nat) : Field := ⟨SVY_CORE_STATUS c, 16, 15⟩
def SVY_CORE_LOAD_RESULT_CAUSE (c : Nat) : Field := ⟨SVY_CORE_LOAD_RESULT c, 0, 4⟩
def SVY_CORE_LOAD_RESULT_BUSY (c : Nat) : Field := ⟨SVY_CORE_LOAD_RESULT c, 8, 1⟩
def SVY_CORE_ABORT_RESULT_STATUS (c : Nat) : Field := ⟨SVY_CORE_ABORT_RESULT c, 0, 8⟩
def SVY_CORE_ABORT_RESULT_PENDING (c : Nat) : Field := ⟨SVY_CORE_ABORT_RESULT c, 8, 1⟩
def SVY_CORE_ABORT_RESULT_HANDLE (c : Nat) : Field := ⟨SVY_CORE_ABORT_RESULT c, 16, 16⟩
def SVY_CORE_INFLIGHT_COUNT (c : Nat) : Field := ⟨SVY_CORE_INFLIGHT c, 0, 7⟩
def SVY_CORE_INFLIGHT_OLDEST (c : Nat) : Field := ⟨SVY_CORE_INFLIGHT c, 16, 16⟩
def SVY_CORE_WAIT_KIND (c : Nat) : Field := ⟨SVY_CORE_WAIT c, 0, 4⟩
def SVY_CORE_WAIT_HANDLE (c : Nat) : Field := ⟨SVY_CORE_WAIT c, 16, 16⟩

/-- Register map of SVY. -/
def regsSVY0 : List RegDesc := [
  ⟨0x0, 0x1000000, 1, 1, .ro, 0x5956530D, 0x0, 0xFFFFFFFF⟩,
  ⟨0x4, 0x1000000, 1, 1, .ro, 0xB100, 0x0, 0xFFFF⟩,
  ⟨0x8, 0x1000000, 1, 1, .ro, 0x0, 0x0, 0xFF⟩,
  ⟨0xC, 0x1000000, 1, 1, .wc, 0x0, 0x0, 0x1FF⟩,
  ⟨0x10, 0x1000000, 1, 1, .rw, 0x0, 0x1FF, 0x1FF⟩,
  ⟨0x14, 0x1000000, 1, 1, .rw, 0x0, 0x0, 0x0⟩,
  ⟨0x18, 0x1000000, 1, 1, .rw, 0xB00, 0xFF01, 0xFF01⟩,
  ⟨0x100, 0x1000000, 1, 1, .wo, 0x0, 0x0, 0xFFFFFFFF⟩,
  ⟨0x104, 0x1000000, 1, 1, .ro, 0x0, 0x0, 0xFFFF⟩,
  ⟨0x1000, 0x80, 8, 1, .wo, 0x0, 0x0, 0x7F⟩,
  ⟨0x1004, 0x80, 8, 1, .ro, 0x0, 0x0, 0x7FFFF3F7⟩,
  ⟨0x1008, 0x80, 8, 1, .rw, 0x0, 0xFFFFFFFF, 0xFFFFFFFF⟩,
  ⟨0x100C, 0x80, 8, 1, .rw, 0x0, 0xFFFFFFFF, 0xFFFFFFFF⟩,
  ⟨0x1010, 0x80, 8, 1, .ro, 0x0, 0x0, 0x10F⟩,
  ⟨0x1014, 0x80, 8, 1, .wo, 0x0, 0x0, 0xFFFFFFFF⟩,
  ⟨0x1018, 0x80, 8, 1, .ro, 0x0, 0x0, 0xFFFF01FF⟩,
  ⟨0x101C, 0x80, 8, 1, .rw, 0x0, 0xF, 0xF⟩,
  ⟨0x1020, 0x80, 8, 1, .rw, 0x0, 0xFFFFFFFF, 0xFFFFFFFF⟩,
  ⟨0x1024, 0x80, 8, 1, .rw, 0x0, 0xFFFFFFFF, 0xFFFFFFFF⟩,
  ⟨0x1028, 0x80, 8, 1, .ro, 0x0, 0x0, 0xFFFF007F⟩,
  ⟨0x102C, 0x80, 8, 1, .ro, 0x0, 0x0, 0xFFFFFFFF⟩,
  ⟨0x1030, 0x80, 8, 1, .ro, 0x0, 0x0, 0xFFFF000F⟩,
  ⟨0x1034, 0x80, 8, 1, .ro, 0x0, 0x0, 0xFFFFFFFF⟩,
  ⟨0x1038, 0x80, 8, 1, .ro, 0x0, 0x0, 0xFFFFFFFF⟩]
def regsSVY1 : List RegDesc := [
  ⟨0x103C, 0x80, 8, 1, .ro, 0x0, 0x0, 0xFFFFFFFF⟩,
  ⟨0x2000, 0x100, 8, 64, .ro, 0x0, 0xFFFFFFFF, 0xFFFFFFFF⟩,
  ⟨0x100000, 0x40000, 8, 65536, .rw, 0x0, 0xFFFFFFFF, 0xFFFFFFFF⟩]
def regsSVY : List RegDesc := regsSVY0 ++ regsSVY1

/-! ### CAD: unit 0x0E -/

/-- [0] APPLY, R326 -/
def CAD_CTRL : Nat := 0xE000100
/-- [0] APPLY_PENDING; [1] HEADROOM_LOW in force -/
def CAD_STATE : Nat := 0xE000104
/-- Period number [31:0] -/
def CAD_PERIOD_LO : Nat := 0xE000108
/-- Period number [63:32] -/
def CAD_PERIOD_HI : Nat := 0xE00010C
/-- [15:0] real-time classes; bit 0 ignored -/
def CAD_RT : Nat := 0xE000110
/-- [10:0] HBM floor sum limit, R326 (768, 1,228.8 GB/s) -/
def CAD_HBM_FLOOR_CAP : Nat := 0xE000114
/-- R332 -/
def CAD_HEADROOM : Nat := 0xE000118
/-- [15:0] lowest COUNT since clear -/
def CAD_HEADROOM_MIN : Nat := 0xE00011C
/-- [15:0] threshold (29,030) -/
def CAD_HEADROOM_THR : Nat := 0xE000120
/-- [9:0] per mille (750) -/
def CAD_RXBUF_HIGH : Nat := 0xE000124
/-- [0] all counters, peaks and `CAD_HEADROOM_MIN` -/
def CAD_CNT_CLEAR : Nat := 0xE000128
/-- Resource r, r = 0–11: [9:0] per mille, R333 -/
def CAD_UTIL (r : Nat) : Nat := 0xE000200 + 0x4 * r
/-- Octet k, k = 0–11 -/
def CAD_RXBUF (k : Nat) : Nat := 0xE000300 + 0x4 * k
/-- Class c, c = 0–15, resource r (shadow) -/
def CAD_SHARE (c : Nat) (r : Nat) : Nat := 0xE001000 + 0x40 * c + 4 * r
/-- Class state -/
def CAD_CLASS_STATUS (c : Nat) : Nat := 0xE001030 + 0x40 * c
/-- Periods with a floor miss, R328 -/
def CAD_CNT_MISS (c : Nat) : Nat := 0xE001034 + 0x40 * c
/-- Periods held at a ceiling, R328 -/
def CAD_CNT_CEIL (c : Nat) : Nat := 0xE001038 + 0x40 * c
/-- Share in force -/
def CAD_SHARE_LIVE (c : Nat) (r : Nat) : Nat := 0xE002000 + 0x40 * c + 4 * r
def CAD_STATUS_MISS : Field := ⟨UNIT_STATUS 0xE, 0, 12⟩
def CAD_BASIC_PROFILE : Field := ⟨UNIT_BASIC 0xE, 0, 3⟩
def CAD_BASIC_HYB_ARRAYS : Field := ⟨UNIT_BASIC 0xE, 8, 7⟩
def CAD_SHARE_FLOOR (c : Nat) (r : Nat) : Field := ⟨CAD_SHARE c r, 0, 11⟩
def CAD_SHARE_CEILING (c : Nat) (r : Nat) : Field := ⟨CAD_SHARE c r, 16, 11⟩
def CAD_HEADROOM_COUNT : Field := ⟨CAD_HEADROOM, 0, 16⟩
def CAD_HEADROOM_PERMILLE : Field := ⟨CAD_HEADROOM, 16, 16⟩
def CAD_CLASS_STATUS_AT_CEILING (c : Nat) : Field := ⟨CAD_CLASS_STATUS c, 0, 12⟩
def CAD_CLASS_STATUS_MISS (c : Nat) : Field := ⟨CAD_CLASS_STATUS c, 16, 12⟩
def CAD_RXBUF_LEVEL (k : Nat) : Field := ⟨CAD_RXBUF k, 0, 10⟩
def CAD_RXBUF_PEAK (k : Nat) : Field := ⟨CAD_RXBUF k, 16, 10⟩

/-- Register map of CAD. -/
def regsCAD0 : List RegDesc := [
  ⟨0x0, 0x1000000, 1, 1, .ro, 0x4441430E, 0x0, 0xFFFFFFFF⟩,
  ⟨0x4, 0x1000000, 1, 1, .ro, 0xB100, 0x0, 0xFFFF⟩,
  ⟨0x8, 0x1000000, 1, 1, .ro, 0x0, 0x0, 0xFFF⟩,
  ⟨0xC, 0x1000000, 1, 1, .wc, 0x0, 0x0, 0xF⟩,
  ⟨0x10, 0x1000000, 1, 1, .rw, 0x0, 0xF, 0xF⟩,
  ⟨0x14, 0x1000000, 1, 1, .rw, 0x0, 0x0, 0x0⟩,
  ⟨0x18, 0x1000000, 1, 1, .rw, 0x2801, 0x7F07, 0x7F07⟩,
  ⟨0x100, 0x1000000, 1, 1, .wo, 0x0, 0x0, 0xFFFFFFFF⟩,
  ⟨0x104, 0x1000000, 1, 1, .ro, 0x0, 0x0, 0x3⟩,
  ⟨0x108, 0x1000000, 1, 1, .ro, 0x0, 0x0, 0xFFFFFFFF⟩,
  ⟨0x10C, 0x1000000, 1, 1, .ro, 0x0, 0x0, 0xFFFFFFFF⟩,
  ⟨0x110, 0x1000000, 1, 1, .rw, 0xC, 0xFFFF, 0xFFFF⟩,
  ⟨0x114, 0x1000000, 1, 1, .rw, 0x300, 0x7FF, 0x7FF⟩,
  ⟨0x118, 0x1000000, 1, 1, .ro, 0x0, 0x0, 0xFFFFFFFF⟩,
  ⟨0x11C, 0x1000000, 1, 1, .ro, 0xFFFF, 0x0, 0xFFFF⟩,
  ⟨0x120, 0x1000000, 1, 1, .rw, 0x7166, 0xFFFF, 0xFFFF⟩,
  ⟨0x124, 0x1000000, 1, 1, .rw, 0x2EE, 0x3FF, 0x3FF⟩,
  ⟨0x128, 0x1000000, 1, 1, .wo, 0x0, 0x0, 0xFFFFFFFF⟩,
  ⟨0x200, 0x4, 12, 1, .ro, 0x0, 0x0, 0x3FF⟩,
  ⟨0x300, 0x4, 12, 1, .ro, 0x0, 0x0, 0x3FF03FF⟩,
  ⟨0x1000, 0x40, 16, 12, .rw, 0x0, 0x7FF07FF, 0x7FF07FF⟩,
  ⟨0x1030, 0x40, 16, 1, .ro, 0x0, 0x0, 0xFFF0FFF⟩,
  ⟨0x1034, 0x40, 16, 1, .ro, 0x0, 0x0, 0xFFFFFFFF⟩,
  ⟨0x1038, 0x40, 16, 1, .ro, 0x0, 0x0, 0xFFFFFFFF⟩]
def regsCAD1 : List RegDesc := [
  ⟨0x2000, 0x40, 16, 12, .ro, 0x0, 0x0, 0x7FF07FF⟩]
def regsCAD : List RegDesc := regsCAD0 ++ regsCAD1

/-! ### MER: unit 0x0F -/

/-- Select, realign, epoch -/
def MER_CTRL : Nat := 0xF000100
/-- Loop and selection -/
def MER_STATE : Nat := 0xF000104
/-- Selection rules -/
def MER_SEL_CFG : Nat := 0xF000108
/-- [11:0] TRACK_BW (0.01 Hz), 1–4,000 -/
def MER_LOOP_CFG : Nat := 0xF00010C
/-- [15:0] bandwidth in use (0.01 Hz) -/
def MER_BW : Nat := 0xF000110
/-- [7:0] WIN (ppm), 1–100; [23:16] TIME (s), 1–255 -/
def MER_QUAL_CFG : Nat := 0xF000114
/-- Soft limit (10⁻¹²) -/
def MER_DRIFT_SOFT : Nat := 0xF000118
/-- Hard limit (10⁻¹²) -/
def MER_DRIFT_HARD : Nat := 0xF00011C
/-- Agreement tolerance (10⁻¹²) -/
def MER_AGREE : Nat := 0xF000120
/-- [13:0] averaging (s), 10–10,000 -/
def MER_DRIFT_TAU : Nat := 0xF000124
/-- Loop phase error (ps), signed -/
def MER_PHASE_ERR : Nat := 0xF000128
/-- R363, 2 ps steps, 40-bit signed; `_HI` [7:0] at 0x130 -/
def MER_BUILDOUT_LO : Nat := 0xF00012C
/-- R363, 2 ps steps, 40-bit signed; `_HI` [7:0] at 0x130 -/
def MER_BUILDOUT_HI : Nat := 0xF000130
/-- [13:0] ps/s, 1–10,000 -/
def MER_SLEW : Nat := 0xF000134
/-- y_L (10⁻¹²), signed -/
def MER_HO_FREQ : Nat := 0xF000138
/-- [15:0] LEARNED; [31:16] ELAPSED (s, saturating) -/
def MER_HO_TIME : Nat := 0xF00013C
/-- f_s (kHz), R368 -/
def MER_FS : Nat := 0xF000140
/-- Byte n: [1:0] DIV (1, 2, 4, 8), [7] EN -/
def MER_SCLK_CFG : Nat := 0xF000144
/-- Label of the epoch; `_HI` [15:0] at 0x14C -/
def MER_EPOCH_SEC_LO : Nat := 0xF000148
/-- Label of the epoch; `_HI` [15:0] at 0x14C -/
def MER_EPOCH_SEC_HI : Nat := 0xF00014C
/-- Sample index; `_HI` at 0x154 -/
def MER_IDX_LO : Nat := 0xF000150
/-- Sample index; `_HI` at 0x154 -/
def MER_IDX_HI : Nat := 0xF000154
/-- Samples, 1–2³² − 1 -/
def MER_FRAME_PERIOD : Nat := 0xF000158
/-- [15:0] PPS width, [31:16] frame width (ticks) -/
def MER_PULSE_CFG : Nat := 0xF00015C
/-- [3:0] `PPS_OUTn`; [7:4] `FRAME_OUTn` -/
def MER_OUT_EN : Nat := 0xF000160
/-- n = 0–3, R370; `_HI` [7:0] at + 4 -/
def MER_PPS_OFS_LO (n : Nat) : Nat := 0xF000200 + 0x8 * n
/-- n = 0–3, R370; `_HI` [7:0] at + 4 -/
def MER_PPS_OFS_HI (n : Nat) : Nat := 0xF000204 + 0x8 * n
/-- As above -/
def MER_FRAME_OFS_LO (n : Nat) : Nat := 0xF000220 + 0x8 * n
/-- As above -/
def MER_FRAME_OFS_HI (n : Nat) : Nat := 0xF000224 + 0x8 * n
/-- Entry e, e = 0–5 -/
def MER_REF_CFG (e : Nat) : Nat := 0xF001000 + 0x20 * e
/-- [3:0] PRIO; A 1, B 2, C 3, D 4, TWIN 0, OSC 0 -/
def MER_REF_PRIO (e : Nat) : Nat := 0xF001004 + 0x20 * e
/-- Entry state -/
def MER_REF_STATUS (e : Nat) : Nat := 0xF001008 + 0x20 * e
/-- y (10⁻¹²), signed -/
def MER_REF_FREQ (e : Nat) : Nat := 0xF00100C + 0x20 * e
/-- d (10⁻¹²), signed -/
def MER_REF_DRIFT (e : Nat) : Nat := 0xF001010 + 0x20 * e
def MER_STATUS_LOCKED : Field := ⟨UNIT_STATUS 0xF, 0, 1⟩
def MER_STATUS_HO_QUALIFIED : Field := ⟨UNIT_STATUS 0xF, 1, 1⟩
def MER_BASIC_NOM : Field := ⟨UNIT_BASIC 0xF, 0, 2⟩
def MER_BASIC_COMPANION : Field := ⟨UNIT_BASIC 0xF, 2, 2⟩
def MER_BASIC_REVERTIVE : Field := ⟨UNIT_BASIC 0xF, 4, 1⟩
def MER_BASIC_OUT_EN : Field := ⟨UNIT_BASIC 0xF, 8, 4⟩
def MER_ARM_SWITCH : Field := ⟨UNIT_ARM 0xF, 0, 1⟩
def MER_ARM_DISQ_ODD : Field := ⟨UNIT_ARM 0xF, 1, 1⟩
def MER_CTRL_SELECT : Field := ⟨MER_CTRL, 0, 1⟩
def MER_CTRL_REALIGN : Field := ⟨MER_CTRL, 1, 1⟩
def MER_CTRL_EPOCH : Field := ⟨MER_CTRL, 2, 1⟩
def MER_CTRL_ENTRY : Field := ⟨MER_CTRL, 4, 3⟩
def MER_STATE_LOOP : Field := ⟨MER_STATE, 0, 2⟩
def MER_STATE_SELECTED : Field := ⟨MER_STATE, 4, 3⟩
def MER_STATE_SLEWING : Field := ⟨MER_STATE, 8, 1⟩
def MER_STATE_IDX_VALID : Field := ⟨MER_STATE, 9, 1⟩
def MER_STATE_EPOCH_PENDING : Field := ⟨MER_STATE, 10, 1⟩
def MER_SEL_CFG_REVERTIVE : Field := ⟨MER_SEL_CFG, 0, 1⟩
def MER_SEL_CFG_MIN_QL : Field := ⟨MER_SEL_CFG, 8, 3⟩
def MER_SEL_CFG_WTR : Field := ⟨MER_SEL_CFG, 16, 16⟩
def MER_REF_CFG_NOM (e : Nat) : Field := ⟨MER_REF_CFG e, 0, 2⟩
def MER_REF_CFG_COMPANION (e : Nat) : Field := ⟨MER_REF_CFG e, 2, 2⟩
def MER_REF_CFG_QL_SRC (e : Nat) : Field := ⟨MER_REF_CFG e, 4, 2⟩
def MER_REF_CFG_QL_HOST (e : Nat) : Field := ⟨MER_REF_CFG e, 8, 3⟩
def MER_REF_CFG_CF_POS (e : Nat) : Field := ⟨MER_REF_CFG e, 16, 5⟩
def MER_REF_STATUS_STATE (e : Nat) : Field := ⟨MER_REF_STATUS e, 0, 3⟩
def MER_REF_STATUS_SELECTED (e : Nat) : Field := ⟨MER_REF_STATUS e, 3, 1⟩
def MER_REF_STATUS_QL (e : Nat) : Field := ⟨MER_REF_STATUS e, 4, 3⟩
def MER_REF_STATUS_DRIFT_SOFT (e : Nat) : Field := ⟨MER_REF_STATUS e, 7, 1⟩
def MER_REF_STATUS_DRIFT_HARD (e : Nat) : Field := ⟨MER_REF_STATUS e, 8, 1⟩
def MER_REF_STATUS_DISAGREE (e : Nat) : Field := ⟨MER_REF_STATUS e, 9, 1⟩
def MER_REF_STATUS_DQ_CAUSE (e : Nat) : Field := ⟨MER_REF_STATUS e, 10, 3⟩
def MER_REF_STATUS_WTR_LEFT (e : Nat) : Field := ⟨MER_REF_STATUS e, 16, 16⟩

/-- Register map of MER. -/
def regsMER0 : List RegDesc := [
  ⟨0x0, 0x1000000, 1, 1, .ro, 0x52454D0F, 0x0, 0xFFFFFFFF⟩,
  ⟨0x4, 0x1000000, 1, 1, .ro, 0xB100, 0x0, 0xFFFF⟩,
  ⟨0x8, 0x1000000, 1, 1, .ro, 0x0, 0x0, 0x3⟩,
  ⟨0xC, 0x1000000, 1, 1, .wc, 0x0, 0x0, 0x1FFF⟩,
  ⟨0x10, 0x1000000, 1, 1, .rw, 0x0, 0x1FFF, 0x1FFF⟩,
  ⟨0x14, 0x1000000, 1, 1, .rw, 0x0, 0x3, 0x3⟩,
  ⟨0x18, 0x1000000, 1, 1, .rw, 0x4, 0xF1F, 0xF1F⟩,
  ⟨0x100, 0x1000000, 1, 1, .wo, 0x0, 0x0, 0x77⟩,
  ⟨0x104, 0x1000000, 1, 1, .ro, 0x70, 0x0, 0x773⟩,
  ⟨0x108, 0x1000000, 1, 1, .rw, 0x12C0600, 0xFFFF0701, 0xFFFF0701⟩,
  ⟨0x10C, 0x1000000, 1, 1, .rw, 0xA, 0xFFF, 0xFFF⟩,
  ⟨0x110, 0x1000000, 1, 1, .ro, 0x0, 0x0, 0xFFFF⟩,
  ⟨0x114, 0x1000000, 1, 1, .rw, 0xA000A, 0xFF00FF, 0xFF00FF⟩,
  ⟨0x118, 0x1000000, 1, 1, .rw, 0x14, 0xFFFFFFFF, 0xFFFFFFFF⟩,
  ⟨0x11C, 0x1000000, 1, 1, .rw, 0x3E8, 0xFFFFFFFF, 0xFFFFFFFF⟩,
  ⟨0x120, 0x1000000, 1, 1, .rw, 0x64, 0xFFFFFFFF, 0xFFFFFFFF⟩,
  ⟨0x124, 0x1000000, 1, 1, .rw, 0x64, 0x3FFF, 0x3FFF⟩,
  ⟨0x128, 0x1000000, 1, 1, .ro, 0x0, 0x0, 0xFFFFFFFF⟩,
  ⟨0x12C, 0x1000000, 1, 1, .ro, 0x0, 0x0, 0xFFFFFFFF⟩,
  ⟨0x130, 0x1000000, 1, 1, .ro, 0x0, 0x0, 0xFF⟩,
  ⟨0x134, 0x1000000, 1, 1, .rw, 0x3E8, 0x3FFF, 0x3FFF⟩,
  ⟨0x138, 0x1000000, 1, 1, .ro, 0x0, 0x0, 0xFFFFFFFF⟩,
  ⟨0x13C, 0x1000000, 1, 1, .ro, 0x0, 0x0, 0xFFFFFFFF⟩,
  ⟨0x140, 0x1000000, 1, 1, .rw, 0xBB800, 0xFFFFFFFF, 0xFFFFFFFF⟩]
def regsMER1 : List RegDesc := [
  ⟨0x144, 0x1000000, 1, 1, .rw, 0x0, 0x83838383, 0x83838383⟩,
  ⟨0x148, 0x1000000, 1, 1, .rw, 0x0, 0xFFFFFFFF, 0xFFFFFFFF⟩,
  ⟨0x14C, 0x1000000, 1, 1, .rw, 0x0, 0xFFFF, 0xFFFF⟩,
  ⟨0x150, 0x1000000, 1, 1, .ro, 0x0, 0x0, 0xFFFFFFFF⟩,
  ⟨0x154, 0x1000000, 1, 1, .ro, 0x0, 0x0, 0xFFFFFFFF⟩,
  ⟨0x158, 0x1000000, 1, 1, .rw, 0x4000000, 0xFFFFFFFF, 0xFFFFFFFF⟩,
  ⟨0x15C, 0x1000000, 1, 1, .rw, 0xA03E8, 0xFFFFFFFF, 0xFFFFFFFF⟩,
  ⟨0x160, 0x1000000, 1, 1, .rw, 0x0, 0xFF, 0xFF⟩,
  ⟨0x200, 0x8, 4, 1, .rw, 0x0, 0xFFFFFFFF, 0xFFFFFFFF⟩,
  ⟨0x204, 0x8, 4, 1, .rw, 0x0, 0xFF, 0xFF⟩,
  ⟨0x220, 0x8, 4, 1, .rw, 0x0, 0xFFFFFFFF, 0xFFFFFFFF⟩,
  ⟨0x224, 0x8, 4, 1, .rw, 0x0, 0xFF, 0xFF⟩,
  ⟨0x1000, 0x20, 6, 1, .rw, 0x604, 0x1F073F, 0x1F073F⟩,
  ⟨0x1004, 0x20, 6, 1, .rw, 0x0, 0xF, 0xF⟩,
  ⟨0x1008, 0x20, 6, 1, .ro, 0x0, 0x0, 0xFFFF1FFF⟩,
  ⟨0x100C, 0x20, 6, 1, .ro, 0x0, 0x0, 0xFFFFFFFF⟩,
  ⟨0x1010, 0x20, 6, 1, .ro, 0x0, 0x0, 0xFFFFFFFF⟩]
def regsMER : List RegDesc := regsMER0 ++ regsMER1

/-! ### TIM: unit 0x10 -/

/-- Labels, steps, domains -/
def TIM_CTRL : Nat := 0x10000100
/-- Source and naming -/
def TIM_STATE : Nat := 0x10000104
/-- [1:0] SOURCE; [6:4] IRIG_REF -/
def TIM_SRC_CFG : Nat := 0x10000108
/-- Label; `_HI` [15:0] at 0x110 -/
def TIM_SEC_LO : Nat := 0x1000010C
/-- Label; `_HI` [15:0] at 0x110 -/
def TIM_SEC_HI : Nat := 0x10000110
/-- R373; `_HI` [15:0] at 0x118 -/
def TIM_SEC_SET_LO : Nat := 0x10000114
/-- R373; `_HI` [15:0] at 0x118 -/
def TIM_SEC_SET_HI : Nat := 0x10000118
/-- [15:0] TAI − UTC (s), signed -/
def TIM_UTC_OFS : Nat := 0x1000011C
/-- Increment fraction; a write commits the pair, R378 -/
def TIM_INCR_LO : Nat := 0x10000120
/-- [7:0] increment whole nanoseconds -/
def TIM_INCR_HI : Nat := 0x10000124
/-- Counter (ns); `_HI` at 0x12C -/
def TIM_TOD_LO : Nat := 0x10000128
/-- Counter (ns); `_HI` at 0x12C -/
def TIM_TOD_HI : Nat := 0x1000012C
/-- Counter at the last PPS; `_HI` at 0x134 -/
def TIM_PPS_TOD_LO : Nat := 0x10000130
/-- Counter at the last PPS; `_HI` at 0x134 -/
def TIM_PPS_TOD_HI : Nat := 0x10000134
/-- R378; `_HI` at 0x13C -/
def TIM_TOD_SET_LO : Nat := 0x10000138
/-- R378; `_HI` at 0x13C -/
def TIM_TOD_SET_HI : Nat := 0x1000013C
/-- Nanoseconds, R376 -/
def TIM_DOM_TOL : Nat := 0x10000140
/-- Nanoseconds, R375 -/
def TIM_PTP_STEP : Nat := 0x10000144
/-- [0] all counters -/
def TIM_CNT_CLEAR : Nat := 0x10000148
/-- R377 -/
def TIM_CNT_IRIG_ERR : Nat := 0x1000014C
/-- Domain d, d = 0–1; d0 0x0000_0100, d1 0x0000_0101 -/
def TIM_PTP_CFG (d : Nat) : Nat := 0x10000200 + 0x40 * d
/-- Domain state -/
def TIM_PTP_STATUS (d : Nat) : Nat := 0x10000204 + 0x40 * d
/-- Offset from master (ns), signed; `_HI` at + 0x0C -/
def TIM_PTP_OFS_LO (d : Nat) : Nat := 0x10000208 + 0x40 * d
/-- Offset from master (ns), signed; `_HI` at + 0x0C -/
def TIM_PTP_OFS_HI (d : Nat) : Nat := 0x1000020C + 0x40 * d
/-- Accepted mean path delay (ns) -/
def TIM_PTP_DELAY (d : Nat) : Nat := 0x10000210 + 0x40 * d
/-- Latest median (ns) -/
def TIM_PTP_DELAY_NEW (d : Nat) : Nat := 0x10000214 + 0x40 * d
/-- Grandmaster identity; `_HI` at + 0x1C -/
def TIM_PTP_GM_LO (d : Nat) : Nat := 0x10000218 + 0x40 * d
/-- Grandmaster identity; `_HI` at + 0x1C -/
def TIM_PTP_GM_HI (d : Nat) : Nat := 0x1000021C + 0x40 * d
/-- Sync messages used -/
def TIM_PTP_CNT_SYNC (d : Nat) : Nat := 0x10000220 + 0x40 * d
/-- Output k, k = 0–3; `_HI` at + 4 -/
def TIM_EVT_START_LO (k : Nat) : Nat := 0x10000300 + 0x20 * k
/-- Output k, k = 0–3; `_HI` at + 4 -/
def TIM_EVT_START_HI (k : Nat) : Nat := 0x10000304 + 0x20 * k
/-- Samples; 0 for one pulse -/
def TIM_EVT_PERIOD (k : Nat) : Nat := 0x10000308 + 0x20 * k
/-- Output settings -/
def TIM_EVT_CFG (k : Nat) : Nat := 0x1000030C + 0x20 * k
/-- Pulses given -/
def TIM_EVT_COUNT (k : Nat) : Nat := 0x10000310 + 0x20 * k
def TIM_STATUS_NAMED : Field := ⟨UNIT_STATUS 0x10, 0, 1⟩
def TIM_BASIC_SOURCE : Field := ⟨UNIT_BASIC 0x10, 0, 2⟩
def TIM_BASIC_PTP0_EN : Field := ⟨UNIT_BASIC 0x10, 2, 1⟩
def TIM_BASIC_PTP1_EN : Field := ⟨UNIT_BASIC 0x10, 3, 1⟩
def TIM_BASIC_IRIG_REF : Field := ⟨UNIT_BASIC 0x10, 4, 3⟩
def TIM_ARM_DOMAIN_SWITCH : Field := ⟨UNIT_ARM 0x10, 0, 1⟩
def TIM_CTRL_SEC_SET : Field := ⟨TIM_CTRL, 0, 1⟩
def TIM_CTRL_TOD_SET : Field := ⟨TIM_CTRL, 1, 1⟩
def TIM_CTRL_ACCEPT : Field := ⟨TIM_CTRL, 2, 1⟩
def TIM_CTRL_RESET : Field := ⟨TIM_CTRL, 3, 1⟩
def TIM_CTRL_DOMAIN : Field := ⟨TIM_CTRL, 4, 1⟩
def TIM_CTRL_SELECT : Field := ⟨TIM_CTRL, 5, 1⟩
def TIM_CTRL_SOURCE : Field := ⟨TIM_CTRL, 8, 2⟩
def TIM_STATE_SOURCE : Field := ⟨TIM_STATE, 0, 2⟩
def TIM_STATE_NAMED : Field := ⟨TIM_STATE, 2, 1⟩
def TIM_STATE_MISMATCH : Field := ⟨TIM_STATE, 3, 1⟩
def TIM_STATE_INCR_PENDING : Field := ⟨TIM_STATE, 4, 1⟩
def TIM_PTP_CFG_DOMAIN (d : Nat) : Field := ⟨TIM_PTP_CFG d, 0, 8⟩
def TIM_PTP_CFG_EN (d : Nat) : Field := ⟨TIM_PTP_CFG d, 8, 1⟩
def TIM_PTP_CFG_IPV6 (d : Nat) : Field := ⟨TIM_PTP_CFG d, 9, 1⟩
def TIM_PTP_STATUS_STATE (d : Nat) : Field := ⟨TIM_PTP_STATUS d, 0, 3⟩
def TIM_PTP_STATUS_AGREE (d : Nat) : Field := ⟨TIM_PTP_STATUS d, 8, 1⟩
def TIM_EVT_CFG_EN (k : Nat) : Field := ⟨TIM_EVT_CFG k, 0, 1⟩
def TIM_EVT_CFG_INVERT (k : Nat) : Field := ⟨TIM_EVT_CFG k, 1, 1⟩
def TIM_EVT_CFG_WIDTH (k : Nat) : Field := ⟨TIM_EVT_CFG k, 8, 16⟩

/-- Register map of TIM. -/
def regsTIM0 : List RegDesc := [
  ⟨0x0, 0x1000000, 1, 1, .ro, 0x4D495410, 0x0, 0xFFFFFFFF⟩,
  ⟨0x4, 0x1000000, 1, 1, .ro, 0xB100, 0x0, 0xFFFF⟩,
  ⟨0x8, 0x1000000, 1, 1, .ro, 0x0, 0x0, 0x1⟩,
  ⟨0xC, 0x1000000, 1, 1, .wc, 0x0, 0x0, 0x7FF⟩,
  ⟨0x10, 0x1000000, 1, 1, .rw, 0x0, 0x7FF, 0x7FF⟩,
  ⟨0x14, 0x1000000, 1, 1, .rw, 0x0, 0x1, 0x1⟩,
  ⟨0x18, 0x1000000, 1, 1, .rw, 0xC, 0x7F, 0x7F⟩,
  ⟨0x100, 0x1000000, 1, 1, .wo, 0x0, 0x0, 0x33F⟩,
  ⟨0x104, 0x1000000, 1, 1, .ro, 0x0, 0x0, 0x1F⟩,
  ⟨0x108, 0x1000000, 1, 1, .rw, 0x0, 0x73, 0x73⟩,
  ⟨0x10C, 0x1000000, 1, 1, .ro, 0x0, 0x0, 0xFFFFFFFF⟩,
  ⟨0x110, 0x1000000, 1, 1, .ro, 0x0, 0x0, 0xFFFF⟩,
  ⟨0x114, 0x1000000, 1, 1, .rw, 0x0, 0xFFFFFFFF, 0xFFFFFFFF⟩,
  ⟨0x118, 0x1000000, 1, 1, .rw, 0x0, 0xFFFF, 0xFFFF⟩,
  ⟨0x11C, 0x1000000, 1, 1, .rw, 0x0, 0xFFFF, 0xFFFF⟩,
  ⟨0x120, 0x1000000, 1, 1, .rw, 0x0, 0xFFFFFFFF, 0xFFFFFFFF⟩,
  ⟨0x124, 0x1000000, 1, 1, .rw, 0xA, 0xFF, 0xFF⟩,
  ⟨0x128, 0x1000000, 1, 1, .ro, 0x0, 0x0, 0xFFFFFFFF⟩,
  ⟨0x12C, 0x1000000, 1, 1, .ro, 0x0, 0x0, 0xFFFFFFFF⟩,
  ⟨0x130, 0x1000000, 1, 1, .ro, 0x0, 0x0, 0xFFFFFFFF⟩,
  ⟨0x134, 0x1000000, 1, 1, .ro, 0x0, 0x0, 0xFFFFFFFF⟩,
  ⟨0x138, 0x1000000, 1, 1, .rw, 0x0, 0xFFFFFFFF, 0xFFFFFFFF⟩,
  ⟨0x13C, 0x1000000, 1, 1, .rw, 0x0, 0xFFFFFFFF, 0xFFFFFFFF⟩,
  ⟨0x140, 0x1000000, 1, 1, .rw, 0x2710, 0xFFFFFFFF, 0xFFFFFFFF⟩]
def regsTIM1 : List RegDesc := [
  ⟨0x144, 0x1000000, 1, 1, .rw, 0x1F4, 0xFFFFFFFF, 0xFFFFFFFF⟩,
  ⟨0x148, 0x1000000, 1, 1, .wo, 0x0, 0x0, 0xFFFFFFFF⟩,
  ⟨0x14C, 0x1000000, 1, 1, .ro, 0x0, 0x0, 0xFFFFFFFF⟩,
  ⟨0x200, 0x40, 2, 1, .rw, 0x0, 0x3FF, 0x3FF⟩,
  ⟨0x204, 0x40, 2, 1, .ro, 0x0, 0x0, 0x107⟩,
  ⟨0x208, 0x40, 2, 1, .ro, 0x0, 0x0, 0xFFFFFFFF⟩,
  ⟨0x20C, 0x40, 2, 1, .ro, 0x0, 0x0, 0xFFFFFFFF⟩,
  ⟨0x210, 0x40, 2, 1, .ro, 0x0, 0x0, 0xFFFFFFFF⟩,
  ⟨0x214, 0x40, 2, 1, .ro, 0x0, 0x0, 0xFFFFFFFF⟩,
  ⟨0x218, 0x40, 2, 1, .ro, 0x0, 0x0, 0xFFFFFFFF⟩,
  ⟨0x21C, 0x40, 2, 1, .ro, 0x0, 0x0, 0xFFFFFFFF⟩,
  ⟨0x220, 0x40, 2, 1, .ro, 0x0, 0x0, 0xFFFFFFFF⟩,
  ⟨0x300, 0x20, 4, 1, .rw, 0x0, 0xFFFFFFFF, 0xFFFFFFFF⟩,
  ⟨0x304, 0x20, 4, 1, .rw, 0x0, 0xFFFFFFFF, 0xFFFFFFFF⟩,
  ⟨0x308, 0x20, 4, 1, .rw, 0x0, 0xFFFFFFFF, 0xFFFFFFFF⟩,
  ⟨0x30C, 0x20, 4, 1, .rw, 0xA00, 0xFFFF03, 0xFFFF03⟩,
  ⟨0x310, 0x20, 4, 1, .ro, 0x0, 0x0, 0xFFFFFFFF⟩]
def regsTIM : List RegDesc := regsTIM0 ++ regsTIM1

/-! ### TRP: unit 0x11 -/

/-- Apply, level reset, report advance -/
def TRP_CTRL : Nat := 0x11000100
/-- Trig point state -/
def TRP_STATE : Nat := 0x11000104
/-- Window, level and cap -/
def TRP_CFG : Nat := 0x11000108
/-- Array sample clock (kHz) -/
def TRP_FS : Nat := 0x1100010C
/-- Sky frequency for phases (Hz), unsigned -/
def TRP_KF : Nat := 0x11000110
/-- Delay base (δ), signed -/
def TRP_DLY_BASE : Nat := 0x11000114
/-- Pins -/
def TRP_PIN_CFG : Nat := 0x11000118
/-- [7:0] PORTS for TRIG waymarks -/
def TRP_OUT_CFG : Nat := 0x1100011C
/-- Ring base, 1 MiB aligned; `_HI` at 0x124 -/
def TRP_RING_BASE_LO : Nat := 0x11000120
/-- Ring base, 1 MiB aligned; `_HI` at 0x124 -/
def TRP_RING_BASE_HI : Nat := 0x11000124
/-- [15:0] ring size (MiB) -/
def TRP_RING_SIZE : Nat := 0x11000128
/-- Frame times in the ring -/
def TRP_RING_NF : Nat := 0x1100012C
/-- Streams 32m to 32m + 31 recorded, m = 0–3 -/
def TRP_RING_SEL (m : Nat) : Nat := 0x11000130 + 0x4 * m
/-- First index of the newest frame time written; `_HI` at 0x144 -/
def TRP_RING_POS_LO : Nat := 0x11000140
/-- First index of the newest frame time written; `_HI` at 0x144 -/
def TRP_RING_POS_HI : Nat := 0x11000144
/-- Oldest report: anchor [31:0] -/
def TRP_REP_IDX_LO : Nat := 0x11000148
/-- Anchor [63:32] -/
def TRP_REP_IDX_HI : Nat := 0x1100014C
/-- Oldest report: rule, beam, capture -/
def TRP_REP_INFO : Nat := 0x11000150
/-- Oldest report: ratio (2⁻⁸) -/
def TRP_REP_RATIO : Nat := 0x11000154
/-- [8:0] reports queued -/
def TRP_REP_COUNT : Nat := 0x11000158
/-- [3:0] entry; [4] all entries -/
def TRP_CAP_RELEASE : Nat := 0x1100015C
/-- [0] all counters -/
def TRP_CNT_CLEAR : Nat := 0x11000160
/-- Firings -/
def TRP_CNT_FIRE : Nat := 0x11000164
/-- R312 -/
def TRP_CNT_SUSPECT : Nat := 0x11000168
/-- R312 -/
def TRP_CNT_REP_LOST : Nat := 0x1100016C
/-- R317 -/
def TRP_CNT_RING_SKIP : Nat := 0x11000170
/-- R305 -/
def TRP_CNT_DLY_RANGE : Nat := 0x11000174
/-- R306 -/
def TRP_CNT_VOID_WIN : Nat := 0x11000178
/-- Beam b, b = 0–63 -/
def TRP_BEAM_STATUS (b : Nat) : Nat := 0x11001000 + 0x10 * b
/-- L8 [31:0] -/
def TRP_BEAM_LEVEL_LO (b : Nat) : Nat := 0x11001004 + 0x10 * b
/-- L8 [63:32] -/
def TRP_BEAM_LEVEL_HI (b : Nat) : Nat := 0x11001008 + 0x10 * b
/-- Ratio of the latest valid window (2⁻⁸) -/
def TRP_BEAM_LAST (b : Nat) : Nat := 0x1100100C + 0x10 * b
/-- Rule r, r = 0–63: eight words of Table 12.3 (shadow) -/
def TRP_RULE (r : Nat) (w : Nat) : Nat := 0x11002000 + 0x20 * r + 4 * w
/-- Capture entry e, e = 0–15: first frame time's index [31:0] -/
def TRP_CAP_FIRST_LO (e : Nat) : Nat := 0x11003000 + 0x10 * e
/-- [63:32] -/
def TRP_CAP_FIRST_HI (e : Nat) : Nat := 0x11003004 + 0x10 * e
/-- Entry state -/
def TRP_CAP_INFO (e : Nat) : Nat := 0x11003008 + 0x10 * e
/-- Direction bank i -/
def TRP_DIR (i : Nat) (w : Nat) : Nat := 0x11100000 + 0x400 * i + 4 * w
/-- Position table -/
def TRP_POS (w : Nat) : Nat := 0x11200000 + 4 * w
def TRP_STATUS_RUNNING : Field := ⟨UNIT_STATUS 0x11, 0, 1⟩
def TRP_STATUS_LEVELS_READY : Field := ⟨UNIT_STATUS 0x11, 1, 1⟩
def TRP_BASIC_EN : Field := ⟨UNIT_BASIC 0x11, 0, 1⟩
def TRP_BASIC_CAPTURE : Field := ⟨UNIT_BASIC 0x11, 1, 1⟩
def TRP_BASIC_PIN0 : Field := ⟨UNIT_BASIC 0x11, 2, 1⟩
def TRP_BASIC_BEAMS : Field := ⟨UNIT_BASIC 0x11, 8, 7⟩
def TRP_BASIC_THR : Field := ⟨UNIT_BASIC 0x11, 16, 16⟩
def TRP_CTRL_APPLY : Field := ⟨TRP_CTRL, 0, 1⟩
def TRP_CTRL_LEVEL_RESET : Field := ⟨TRP_CTRL, 1, 1⟩
def TRP_CTRL_REP_NEXT : Field := ⟨TRP_CTRL, 2, 1⟩
def TRP_STATE_BEAMS_RUNNING : Field := ⟨TRP_STATE, 0, 7⟩
def TRP_STATE_ACTIVE_BANK : Field := ⟨TRP_STATE, 8, 1⟩
def TRP_STATE_SWITCH_PENDING : Field := ⟨TRP_STATE, 9, 1⟩
def TRP_STATE_APPLY_PENDING : Field := ⟨TRP_STATE, 10, 1⟩
def TRP_STATE_PINS_DRIVEN : Field := ⟨TRP_STATE, 11, 1⟩
def TRP_STATE_RING_ON : Field := ⟨TRP_STATE, 12, 1⟩
def TRP_CFG_WIN_LOG2 : Field := ⟨TRP_CFG, 0, 4⟩
def TRP_CFG_ALPHA_LOG2 : Field := ⟨TRP_CFG, 4, 4⟩
def TRP_CFG_LEVEL_CAP : Field := ⟨TRP_CFG, 16, 16⟩
def TRP_PIN_CFG_EN : Field := ⟨TRP_PIN_CFG, 0, 8⟩
def TRP_PIN_CFG_INVERT : Field := ⟨TRP_PIN_CFG, 8, 8⟩
def TRP_PIN_CFG_WIDTH : Field := ⟨TRP_PIN_CFG, 16, 8⟩
def TRP_REP_INFO_RULE : Field := ⟨TRP_REP_INFO, 0, 6⟩
def TRP_REP_INFO_SUSPECT : Field := ⟨TRP_REP_INFO, 6, 1⟩
def TRP_REP_INFO_BEAM : Field := ⟨TRP_REP_INFO, 8, 6⟩
def TRP_REP_INFO_CAP : Field := ⟨TRP_REP_INFO, 16, 5⟩
def TRP_REP_INFO_VALID : Field := ⟨TRP_REP_INFO, 31, 1⟩
def TRP_BEAM_STATUS_NLEVEL (b : Nat) : Field := ⟨TRP_BEAM_STATUS b, 0, 7⟩
def TRP_BEAM_STATUS_READY (b : Nat) : Field := ⟨TRP_BEAM_STATUS b, 8, 1⟩
def TRP_BEAM_STATUS_RUNNING (b : Nat) : Field := ⟨TRP_BEAM_STATUS b, 9, 1⟩
def TRP_CAP_INFO_COUNT (e : Nat) : Field := ⟨TRP_CAP_INFO e, 0, 16⟩
def TRP_CAP_INFO_RULE (e : Nat) : Field := ⟨TRP_CAP_INFO e, 16, 6⟩
def TRP_CAP_INFO_STATE (e : Nat) : Field := ⟨TRP_CAP_INFO e, 24, 3⟩

/-- Register map of TRP. -/
def regsTRP0 : List RegDesc := [
  ⟨0x0, 0x1000000, 1, 1, .ro, 0x50525411, 0x0, 0xFFFFFFFF⟩,
  ⟨0x4, 0x1000000, 1, 1, .ro, 0xB100, 0x0, 0xFFFF⟩,
  ⟨0x8, 0x1000000, 1, 1, .ro, 0x0, 0x0, 0x3⟩,
  ⟨0xC, 0x1000000, 1, 1, .wc, 0x0, 0x0, 0x7F⟩,
  ⟨0x10, 0x1000000, 1, 1, .rw, 0x0, 0x7F, 0x7F⟩,
  ⟨0x14, 0x1000000, 1, 1, .rw, 0x0, 0x0, 0x0⟩,
  ⟨0x18, 0x1000000, 1, 1, .rw, 0x6001004, 0xFFFF7F07, 0xFFFF7F07⟩,
  ⟨0x100, 0x1000000, 1, 1, .wo, 0x0, 0x0, 0x7⟩,
  ⟨0x104, 0x1000000, 1, 1, .ro, 0x0, 0x0, 0x1F7F⟩,
  ⟨0x108, 0x1000000, 1, 1, .rw, 0x40000A6, 0xFFFF00FF, 0xFFFF00FF⟩,
  ⟨0x10C, 0x1000000, 1, 1, .rw, 0xBB800, 0xFFFFFFFF, 0xFFFFFFFF⟩,
  ⟨0x110, 0x1000000, 1, 1, .rw, 0x0, 0xFFFFFFFF, 0xFFFFFFFF⟩,
  ⟨0x114, 0x1000000, 1, 1, .rw, 0x0, 0xFFFFFFFF, 0xFFFFFFFF⟩,
  ⟨0x118, 0x1000000, 1, 1, .rw, 0x80000, 0xFFFFFF, 0xFFFFFF⟩,
  ⟨0x11C, 0x1000000, 1, 1, .rw, 0x1, 0xFF, 0xFF⟩,
  ⟨0x120, 0x1000000, 1, 1, .rw, 0x6C000000, 0xFFFFFFFF, 0xFFFFFFFF⟩,
  ⟨0x124, 0x1000000, 1, 1, .rw, 0xC, 0xFFFFFFFF, 0xFFFFFFFF⟩,
  ⟨0x128, 0x1000000, 1, 1, .rw, 0x2000, 0xFFFF, 0xFFFF⟩,
  ⟨0x12C, 0x1000000, 1, 1, .ro, 0x0, 0x0, 0xFFFFFFFF⟩,
  ⟨0x130, 0x4, 4, 1, .rw, 0xFFFFFFFF, 0xFFFFFFFF, 0xFFFFFFFF⟩,
  ⟨0x140, 0x1000000, 1, 1, .ro, 0x0, 0x0, 0xFFFFFFFF⟩,
  ⟨0x144, 0x1000000, 1, 1, .ro, 0x0, 0x0, 0xFFFFFFFF⟩,
  ⟨0x148, 0x1000000, 1, 1, .ro, 0x0, 0x0, 0xFFFFFFFF⟩,
  ⟨0x14C, 0x1000000, 1, 1, .ro, 0x0, 0x0, 0xFFFFFFFF⟩]
def regsTRP1 : List RegDesc := [
  ⟨0x150, 0x1000000, 1, 1, .ro, 0x0, 0x0, 0x801F3F7F⟩,
  ⟨0x154, 0x1000000, 1, 1, .ro, 0x0, 0x0, 0xFFFFFFFF⟩,
  ⟨0x158, 0x1000000, 1, 1, .ro, 0x0, 0x0, 0x1FF⟩,
  ⟨0x15C, 0x1000000, 1, 1, .wo, 0x0, 0x0, 0xFFFFFFFF⟩,
  ⟨0x160, 0x1000000, 1, 1, .wo, 0x0, 0x0, 0xFFFFFFFF⟩,
  ⟨0x164, 0x1000000, 1, 1, .ro, 0x0, 0x0, 0xFFFFFFFF⟩,
  ⟨0x168, 0x1000000, 1, 1, .ro, 0x0, 0x0, 0xFFFFFFFF⟩,
  ⟨0x16C, 0x1000000, 1, 1, .ro, 0x0, 0x0, 0xFFFFFFFF⟩,
  ⟨0x170, 0x1000000, 1, 1, .ro, 0x0, 0x0, 0xFFFFFFFF⟩,
  ⟨0x174, 0x1000000, 1, 1, .ro, 0x0, 0x0, 0xFFFFFFFF⟩,
  ⟨0x178, 0x1000000, 1, 1, .ro, 0x0, 0x0, 0xFFFFFFFF⟩,
  ⟨0x1000, 0x10, 64, 1, .ro, 0x0, 0x0, 0x37F⟩,
  ⟨0x1004, 0x10, 64, 1, .ro, 0x0, 0x0, 0xFFFFFFFF⟩,
  ⟨0x1008, 0x10, 64, 1, .ro, 0x0, 0x0, 0xFFFFFFFF⟩,
  ⟨0x100C, 0x10, 64, 1, .ro, 0x0, 0x0, 0xFFFFFFFF⟩,
  ⟨0x2000, 0x20, 64, 8, .rw, 0x0, 0xFFFFFFFF, 0xFFFFFFFF⟩,
  ⟨0x3000, 0x10, 16, 1, .ro, 0x0, 0x0, 0xFFFFFFFF⟩,
  ⟨0x3004, 0x10, 16, 1, .ro, 0x0, 0x0, 0xFFFFFFFF⟩,
  ⟨0x3008, 0x10, 16, 1, .ro, 0x0, 0x0, 0x73FFFFF⟩,
  ⟨0x100000, 0x400, 2, 256, .rw, 0x0, 0xFFFFFFFF, 0xFFFFFFFF⟩,
  ⟨0x200000, 0x1000000, 1, 512, .rw, 0x0, 0xFFFFFFFF, 0xFFFFFFFF⟩]
def regsTRP : List RegDesc := regsTRP0 ++ regsTRP1

/-! ### CMX: unit 0x12 -/

/-- R387 -/
def CMX_ERR_ADDR : Nat := 0x12000100
/-- R387 -/
def CMX_ERR_INFO : Nat := 0x12000104
/-- [0] all counters -/
def CMX_CNT_CLEAR : Nat := 0x12000108
/-- DECERR responses -/
def CMX_CNT_DECERR : Nat := 0x1200010C
/-- SLVERR responses -/
def CMX_CNT_SLVERR : Nat := 0x12000110
/-- R393 -/
def CMX_CNT_WR_ERR : Nat := 0x12000114
/-- R389 -/
def CMX_CNT_BURST_RESET : Nat := 0x12000118
/-- R395 -/
def CMX_CNT_BAR2_ERR : Nat := 0x1200011C
/-- [0] TS_WIN, R394 -/
def CMX_BAR2_CFG : Nat := 0x12000120
/-- Link -/
def CMX_PCIE_STATUS : Nat := 0x12000124
/-- R408 -/
def CMX_IDCODE : Nat := 0x12000128
/-- Watchdog -/
def CMX_WDOG : Nat := 0x1200012C
/-- Flash controller -/
def CMX_FLASH_STATUS : Nat := 0x12000130
/-- Management port -/
def CMX_MGT_CFG : Nat := 0x12000134
/-- IPv4 destination of the event stream; 0 off -/
def CMX_MGT_LOG_DEST : Nat := 0x12000138
/-- PMBus -/
def CMX_PMB_CFG : Nat := 0x1200013C
/-- [9:0] millivolts (720), R406 -/
def CMX_PMB_VOUT : Nat := 0x12000140
/-- [9:0] millivolts -/
def CMX_PMB_READ_VOUT : Nat := 0x12000144
/-- [19:0] milliamperes -/
def CMX_PMB_READ_IOUT : Nat := 0x12000148
/-- [15:0] STATUS_WORD -/
def CMX_PMB_STATUS : Nat := 0x1200014C
/-- Source u, u = 0–20 -/
def CMX_INT_ROUTE (u : Nat) : Nat := 0x12000200 + 0x4 * u
/-- Channel c, c = 0–2; channels 1–2 read-only from BAR0 -/
def CMX_MBOX_CMD (c : Nat) : Nat := 0x12000400 + 0x80 * c
/-- k = 0–7 -/
def CMX_MBOX_ARG (c : Nat) (k : Nat) : Nat := 0x12000404 + 0x80 * c + 4 * k
/-- Channel state -/
def CMX_MBOX_STATUS (c : Nat) : Nat := 0x12000424 + 0x80 * c
/-- k = 0–7 -/
def CMX_MBOX_RES (c : Nat) (k : Nat) : Nat := 0x12000428 + 0x80 * c + 4 * k
/-- [0] abort, R400 -/
def CMX_MBOX_ABORT (c : Nat) : Nat := 0x12000448 + 0x80 * c
/-- MSI-X table, R397 -/
def CMX_MSIX_TABLE (w : Nat) : Nat := 0x12010000 + 4 * w
/-- MSI-X pending bits, R397 -/
def CMX_MSIX_PBA (w : Nat) : Nat := 0x12011000 + 4 * w
def CMX_STATUS_LINK_UP : Field := ⟨UNIT_STATUS 0x12, 0, 1⟩
def CMX_STATUS_MBOX_BUSY : Field := ⟨UNIT_STATUS 0x12, 1, 3⟩
def CMX_BASIC_MGT_10G : Field := ⟨UNIT_BASIC 0x12, 0, 1⟩
def CMX_BASIC_MGT_WRITE : Field := ⟨UNIT_BASIC 0x12, 1, 1⟩
def CMX_BASIC_SMB_ADDR : Field := ⟨UNIT_BASIC 0x12, 8, 7⟩
def CMX_ARM_AVS : Field := ⟨UNIT_ARM 0x12, 0, 1⟩
def CMX_ARM_WDOG_RESET : Field := ⟨UNIT_ARM 0x12, 1, 1⟩
def CMX_ERR_INFO_MASTER : Field := ⟨CMX_ERR_INFO, 0, 3⟩
def CMX_ERR_INFO_CAUSE : Field := ⟨CMX_ERR_INFO, 3, 2⟩
def CMX_ERR_INFO_WRITE : Field := ⟨CMX_ERR_INFO, 5, 1⟩
def CMX_ERR_INFO_VALID : Field := ⟨CMX_ERR_INFO, 31, 1⟩
def CMX_PCIE_STATUS_RATE : Field := ⟨CMX_PCIE_STATUS, 0, 3⟩
def CMX_PCIE_STATUS_WIDTH : Field := ⟨CMX_PCIE_STATUS, 4, 4⟩
def CMX_PCIE_STATUS_MSIX_EN : Field := ⟨CMX_PCIE_STATUS, 8, 1⟩
def CMX_WDOG_TIMEOUT : Field := ⟨CMX_WDOG, 0, 16⟩
def CMX_WDOG_KICK : Field := ⟨CMX_WDOG, 31, 1⟩
def CMX_FLASH_STATUS_BUSY : Field := ⟨CMX_FLASH_STATUS, 0, 1⟩
def CMX_FLASH_STATUS_MODE : Field := ⟨CMX_FLASH_STATUS, 1, 2⟩
def CMX_MGT_CFG_MBOX_PORT : Field := ⟨CMX_MGT_CFG, 0, 16⟩
def CMX_PMB_CFG_ADDR : Field := ⟨CMX_PMB_CFG, 0, 7⟩
def CMX_PMB_CFG_PEC : Field := ⟨CMX_PMB_CFG, 7, 1⟩
def CMX_PMB_CFG_VMIN : Field := ⟨CMX_PMB_CFG, 8, 12⟩
def CMX_PMB_CFG_VMAX : Field := ⟨CMX_PMB_CFG, 20, 12⟩
def CMX_INT_ROUTE_VECTOR (u : Nat) : Field := ⟨CMX_INT_ROUTE u, 0, 8⟩
def CMX_INT_ROUTE_PINS (u : Nat) : Field := ⟨CMX_INT_ROUTE u, 8, 4⟩
def CMX_INT_ROUTE_MSIX_EN (u : Nat) : Field := ⟨CMX_INT_ROUTE u, 16, 1⟩
def CMX_MBOX_CMD_CMD (c : Nat) : Field := ⟨CMX_MBOX_CMD c, 0, 16⟩
def CMX_MBOX_CMD_GO (c : Nat) : Field := ⟨CMX_MBOX_CMD c, 31, 1⟩
def CMX_MBOX_STATUS_STATUS (c : Nat) : Field := ⟨CMX_MBOX_STATUS c, 0, 8⟩
def CMX_MBOX_STATUS_BUSY (c : Nat) : Field := ⟨CMX_MBOX_STATUS c, 8, 1⟩
def CMX_MBOX_STATUS_STEPPING (c : Nat) : Field := ⟨CMX_MBOX_STATUS c, 9, 1⟩
def CMX_MBOX_STATUS_DONE (c : Nat) : Field := ⟨CMX_MBOX_STATUS c, 16, 16⟩

/-- Register map of CMX. -/
def regsCMX0 : List RegDesc := [
  ⟨0x0, 0x1000000, 1, 1, .ro, 0x584D4312, 0x0, 0xFFFFFFFF⟩,
  ⟨0x4, 0x1000000, 1, 1, .ro, 0xB100, 0x0, 0xFFFF⟩,
  ⟨0x8, 0x1000000, 1, 1, .ro, 0x0, 0x0, 0xF⟩,
  ⟨0xC, 0x1000000, 1, 1, .wc, 0x0, 0x0, 0x7FF⟩,
  ⟨0x10, 0x1000000, 1, 1, .rw, 0x0, 0x7FF, 0x7FF⟩,
  ⟨0x14, 0x1000000, 1, 1, .rw, 0x0, 0x3, 0x3⟩,
  ⟨0x18, 0x1000000, 1, 1, .rw, 0x4C01, 0x7F03, 0x7F03⟩,
  ⟨0x100, 0x1000000, 1, 1, .ro, 0x0, 0x0, 0xFFFFFFFF⟩,
  ⟨0x104, 0x1000000, 1, 1, .ro, 0x0, 0x0, 0x8000003F⟩,
  ⟨0x108, 0x1000000, 1, 1, .wo, 0x0, 0x0, 0xFFFFFFFF⟩,
  ⟨0x10C, 0x1000000, 1, 1, .ro, 0x0, 0x0, 0xFFFFFFFF⟩,
  ⟨0x110, 0x1000000, 1, 1, .ro, 0x0, 0x0, 0xFFFFFFFF⟩,
  ⟨0x114, 0x1000000, 1, 1, .ro, 0x0, 0x0, 0xFFFFFFFF⟩,
  ⟨0x118, 0x1000000, 1, 1, .ro, 0x0, 0x0, 0xFFFFFFFF⟩,
  ⟨0x11C, 0x1000000, 1, 1, .ro, 0x0, 0x0, 0xFFFFFFFF⟩,
  ⟨0x120, 0x1000000, 1, 1, .rw, 0x0, 0x1, 0x1⟩,
  ⟨0x124, 0x1000000, 1, 1, .ro, 0x0, 0x0, 0x1F7⟩,
  ⟨0x128, 0x1000000, 1, 1, .ro, 0x0, 0x0, 0xFFFFFFFF⟩,
  ⟨0x12C, 0x1000000, 1, 1, .rw, 0x3E8, 0xFFFF, 0x8000FFFF⟩,
  ⟨0x130, 0x1000000, 1, 1, .ro, 0x0, 0x0, 0x7⟩,
  ⟨0x134, 0x1000000, 1, 1, .rw, 0x1036, 0xFFFF, 0xFFFF⟩,
  ⟨0x138, 0x1000000, 1, 1, .rw, 0x0, 0xFFFFFFFF, 0xFFFFFFFF⟩,
  ⟨0x13C, 0x1000000, 1, 1, .rw, 0x3202890, 0xFFFFFFFF, 0xFFFFFFFF⟩,
  ⟨0x140, 0x1000000, 1, 1, .rw, 0x2D0, 0x3FF, 0x3FF⟩]
def regsCMX1 : List RegDesc := [
  ⟨0x144, 0x1000000, 1, 1, .ro, 0x0, 0x0, 0x3FF⟩,
  ⟨0x148, 0x1000000, 1, 1, .ro, 0x0, 0x0, 0xFFFFF⟩,
  ⟨0x14C, 0x1000000, 1, 1, .ro, 0x0, 0x0, 0xFFFF⟩,
  ⟨0x200, 0x4, 21, 1, .rw, 0x10100, 0x10FFF, 0x10FFF⟩,
  ⟨0x400, 0x80, 3, 1, .rw, 0x0, 0xFFFF, 0x8000FFFF⟩,
  ⟨0x404, 0x80, 3, 8, .rw, 0x0, 0xFFFFFFFF, 0xFFFFFFFF⟩,
  ⟨0x424, 0x80, 3, 1, .ro, 0x0, 0x0, 0xFFFF03FF⟩,
  ⟨0x428, 0x80, 3, 8, .ro, 0x0, 0x0, 0xFFFFFFFF⟩,
  ⟨0x448, 0x80, 3, 1, .wo, 0x0, 0x0, 0xFFFFFFFF⟩,
  ⟨0x10000, 0x1000000, 1, 1024, .rw, 0x0, 0xFFFFFFFF, 0xFFFFFFFF⟩,
  ⟨0x11000, 0x1000000, 1, 8, .ro, 0x0, 0x0, 0xFFFFFFFF⟩]
def regsCMX : List RegDesc := regsCMX0 ++ regsCMX1

/-! ### TRU: unit 0x13 -/

/-- Running slot and trial -/
def TRU_STATE : Nat := 0x13000100
/-- Slot s, s = 0 A, 1 B, 2 SAFE -/
def TRU_SLOT_STATUS (s : Nat) : Nat := 0x13000104 + 0x8 * s
/-- FW_VERSION of slot s -/
def TRU_SLOT_VER (s : Nat) : Nat := 0x13000108 + 0x8 * s
/-- R453 -/
def TRU_FW_FLOOR : Nat := 0x13000120
/-- R453 -/
def TRU_SAFE_FLOOR : Nat := 0x13000124
/-- Role r + 1, r = 0–2 -/
def TRU_KEY_FLOOR (r : Nat) : Nat := 0x13000128 + 0x4 * r
/-- [3:0] revoked roots -/
def TRU_REVOKE : Nat := 0x13000134
/-- Die identity; `_HI` at 0x13C -/
def TRU_DIE_ID_LO : Nat := 0x13000138
/-- Die identity; `_HI` at 0x13C -/
def TRU_DIE_ID_HI : Nat := 0x1300013C
/-- [1:0] TRIES, 1–3 -/
def TRU_TRIAL_CFG : Nat := 0x13000140
/-- [0] 0 OPEN, 1 TICKET; [14:8] tickets installed; [15] owner key present -/
def TRU_PLAN_POLICY : Nat := 0x13000144
/-- Generations -/
def TRU_ARITH : Nat := 0x13000148
/-- Settings areas -/
def TRU_SET_STATUS : Nat := 0x1300014C
/-- [0] open; [1] token accepted -/
def TRU_DEBUG : Nat := 0x13000150
/-- 52 words, R463 -/
def TRU_DEBUG_TOKEN (w : Nat) : Nat := 0x13000200 + 4 * w
/-- [0] GO; [1] BUSY (ro); [7:4] result -/
def TRU_REC_CTRL : Nat := 0x13000300
/-- Next word of the recovery package -/
def TRU_REC_DATA : Nat := 0x13000304
def TRU_STATUS_TRIAL : Field := ⟨UNIT_STATUS 0x13, 0, 1⟩
def TRU_STATUS_SAFE : Field := ⟨UNIT_STATUS 0x13, 1, 1⟩
def TRU_STATE_RUNNING : Field := ⟨TRU_STATE, 0, 2⟩
def TRU_STATE_CONFIRMED : Field := ⟨TRU_STATE, 8, 2⟩
def TRU_SLOT_STATUS_STATE (s : Nat) : Field := ⟨TRU_SLOT_STATUS s, 0, 4⟩
def TRU_SLOT_STATUS_TRIES_LEFT (s : Nat) : Field := ⟨TRU_SLOT_STATUS s, 4, 2⟩
def TRU_SLOT_STATUS_SET_FMT (s : Nat) : Field := ⟨TRU_SLOT_STATUS s, 8, 8⟩
def TRU_ARITH_IN_FORCE : Field := ⟨TRU_ARITH, 0, 8⟩
def TRU_ARITH_MIN : Field := ⟨TRU_ARITH, 8, 8⟩
def TRU_ARITH_MAX : Field := ⟨TRU_ARITH, 16, 8⟩
def TRU_ARITH_PROTO_GEN : Field := ⟨TRU_ARITH, 24, 4⟩
def TRU_SET_STATUS_CURRENT_AREA : Field := ⟨TRU_SET_STATUS, 0, 1⟩
def TRU_SET_STATUS_CURRENT_FMT : Field := ⟨TRU_SET_STATUS, 8, 8⟩
def TRU_SET_STATUS_UNREADABLE : Field := ⟨TRU_SET_STATUS, 16, 1⟩
def TRU_SET_STATUS_CHANGES : Field := ⟨TRU_SET_STATUS, 20, 12⟩

/-- Register map of TRU. -/
def regsTRU0 : List RegDesc := [
  ⟨0x0, 0x1000000, 1, 1, .ro, 0x55525413, 0x0, 0xFFFFFFFF⟩,
  ⟨0x4, 0x1000000, 1, 1, .ro, 0xB100, 0x0, 0xFFFF⟩,
  ⟨0x8, 0x1000000, 1, 1, .ro, 0x0, 0x0, 0x3⟩,
  ⟨0xC, 0x1000000, 1, 1, .wc, 0x0, 0x0, 0x7FFF⟩,
  ⟨0x10, 0x1000000, 1, 1, .rw, 0x0, 0x7FFF, 0x7FFF⟩,
  ⟨0x14, 0x1000000, 1, 1, .rw, 0x0, 0x0, 0x0⟩,
  ⟨0x18, 0x1000000, 1, 1, .rw, 0x0, 0x0, 0x0⟩,
  ⟨0x100, 0x1000000, 1, 1, .ro, 0x0, 0x0, 0x303⟩,
  ⟨0x104, 0x8, 3, 1, .ro, 0x0, 0x0, 0xFF3F⟩,
  ⟨0x108, 0x8, 3, 1, .ro, 0x0, 0x0, 0xFFFFFFFF⟩,
  ⟨0x120, 0x1000000, 1, 1, .ro, 0x0, 0x0, 0xFFFFFFFF⟩,
  ⟨0x124, 0x1000000, 1, 1, .ro, 0x0, 0x0, 0xFFFFFFFF⟩,
  ⟨0x128, 0x4, 3, 1, .ro, 0x0, 0x0, 0xFFFFFFFF⟩,
  ⟨0x134, 0x1000000, 1, 1, .ro, 0x0, 0x0, 0xF⟩,
  ⟨0x138, 0x1000000, 1, 1, .ro, 0x0, 0x0, 0xFFFFFFFF⟩,
  ⟨0x13C, 0x1000000, 1, 1, .ro, 0x0, 0x0, 0xFFFFFFFF⟩,
  ⟨0x140, 0x1000000, 1, 1, .rw, 0x1, 0x3, 0x3⟩,
  ⟨0x144, 0x1000000, 1, 1, .ro, 0x0, 0x0, 0xFF01⟩,
  ⟨0x148, 0x1000000, 1, 1, .ro, 0x0, 0x0, 0xFFFFFFF⟩,
  ⟨0x14C, 0x1000000, 1, 1, .ro, 0x0, 0x0, 0xFFF1FF01⟩,
  ⟨0x150, 0x1000000, 1, 1, .ro, 0x0, 0x0, 0x3⟩,
  ⟨0x200, 0x1000000, 1, 52, .wo, 0x0, 0x0, 0xFFFFFFFF⟩,
  ⟨0x300, 0x1000000, 1, 1, .rw, 0x0, 0x0, 0xF2⟩,
  ⟨0x304, 0x1000000, 1, 1, .wo, 0x0, 0x0, 0xFFFFFFFF⟩]
def regsTRU : List RegDesc := regsTRU0

/-! ### HLT: unit 0x14 -/

/-- Table 17.9 -/
def HLT_MODE : Nat := 0x14000100
/-- Table 17.9 -/
def HLT_MODE_CTRL : Nat := 0x14000104
/-- Table 17.9 -/
def HLT_MODE_RESULT : Nat := 0x14000108
/-- Table 17.9 -/
def HLT_SURVEY_CTRL : Nat := 0x1400010C
/-- Table 17.9 -/
def HLT_SURVEY_STATUS : Nat := 0x14000110
/-- Three records, R427 -/
def HLT_SURVEY_REC (w : Nat) : Nat := 0x14000200 + 4 * w
/-- [0] TAKEOVER; [1] ABORT -/
def HLT_TWIN_CTRL : Nat := 0x14000300
/-- Twin state -/
def HLT_TWIN_STATUS : Nat := 0x14000304
/-- [15:0] seconds, R438 -/
def HLT_TWIN_HOLD : Nat := 0x14000308
/-- R434 -/
def HLT_CMP_COUNT : Nat := 0x1400030C
/-- R434 -/
def HLT_CMP_MISMATCH : Nat := 0x14000310
/-- R434 -/
def HLT_CMP_SKIPPED : Nat := 0x14000314
/-- R434 -/
def HLT_CMP_MISSING : Nat := 0x14000318
/-- R434; `_HI` at 0x320 -/
def HLT_CMP_FIRST_LO : Nat := 0x1400031C
/-- R434; `_HI` at 0x320 -/
def HLT_CMP_FIRST_HI : Nat := 0x14000320
/-- R435 -/
def HLT_CNT_BEACON_LOST : Nat := 0x14000324
/-- [0] all counters, `HLT_LOG_LOST` included, R447 -/
def HLT_CNT_CLEAR : Nat := 0x14000328
/-- Records written, low 32 bits -/
def HLT_LOG_HEAD : Nat := 0x14000400
/-- [16:0] next slot to read, R440 -/
def HLT_LOG_READ : Nat := 0x14000404
/-- R439, R440 -/
def HLT_LOG_LOST : Nat := 0x14000408
/-- Sensor s, s = 0–15: [7:0] °C, signed -/
def HLT_TEMP (s : Nat) : Nat := 0x14000500 + 0x4 * s
/-- R443 -/
def HLT_TEMP_CFG : Nat := 0x14000540
/-- Powered hours -/
def HLT_LIFE_HOURS : Nat := 0x14000544
/-- [15:0] lifetime mean (0.1 °C) -/
def HLT_TJ_MEAN : Nat := 0x14000548
/-- Supply v, v = 0–9: [15:0] millivolts -/
def HLT_SUPPLY (v : Nat) : Nat := 0x14000580 + 0x4 * v
/-- R445 -/
def HLT_FABRIC : Nat := 0x140005C0
/-- Entry e, e = 0–31 -/
def HLT_AAT_MATCH (e : Nat) : Nat := 0x14001000 + 0x8 * e
/-- Entry e -/
def HLT_AAT_ACTION (e : Nat) : Nat := 0x14001004 + 0x8 * e
/-- Log window, R440 -/
def HLT_LOG_WINDOW (w : Nat) : Nat := 0x14100000 + 4 * w
def HLT_MODE_MODE : Field := ⟨HLT_MODE, 0, 4⟩
def HLT_MODE_TARGET : Field := ⟨HLT_MODE, 4, 4⟩
def HLT_MODE_TRANSITION : Field := ⟨HLT_MODE, 8, 1⟩
def HLT_MODE_PREVIOUS : Field := ⟨HLT_MODE, 12, 4⟩
def HLT_MODE_CTRL_MODE : Field := ⟨HLT_MODE_CTRL, 0, 4⟩
def HLT_MODE_CTRL_GO : Field := ⟨HLT_MODE_CTRL, 8, 1⟩
def HLT_MODE_CTRL_ABORT : Field := ⟨HLT_MODE_CTRL, 9, 1⟩
def HLT_MODE_RESULT_STATUS : Field := ⟨HLT_MODE_RESULT, 0, 8⟩
def HLT_MODE_RESULT_PENDING : Field := ⟨HLT_MODE_RESULT, 8, 1⟩
def HLT_MODE_RESULT_MODE : Field := ⟨HLT_MODE_RESULT, 12, 4⟩
def HLT_MODE_RESULT_CAUSE : Field := ⟨HLT_MODE_RESULT, 16, 8⟩
def HLT_SURVEY_CTRL_CUT : Field := ⟨HLT_SURVEY_CTRL, 0, 1⟩
def HLT_SURVEY_STATUS_STEP : Field := ⟨HLT_SURVEY_STATUS, 0, 8⟩
def HLT_SURVEY_STATUS_RUNNING : Field := ⟨HLT_SURVEY_STATUS, 8, 1⟩
def HLT_SURVEY_STATUS_KIND : Field := ⟨HLT_SURVEY_STATUS, 9, 1⟩
def HLT_SURVEY_STATUS_FAILED : Field := ⟨HLT_SURVEY_STATUS, 16, 8⟩
def HLT_STATUS_ACT : Field := ⟨UNIT_STATUS 0x14, 0, 1⟩
def HLT_STATUS_PEER_ACT : Field := ⟨UNIT_STATUS 0x14, 1, 1⟩
def HLT_BASIC_TWIN_EN : Field := ⟨UNIT_BASIC 0x14, 0, 1⟩
def HLT_BASIC_SIDE : Field := ⟨UNIT_BASIC 0x14, 1, 1⟩
def HLT_BASIC_REVERT : Field := ⟨UNIT_BASIC 0x14, 2, 1⟩
def HLT_BASIC_MIN_SEV : Field := ⟨UNIT_BASIC 0x14, 4, 2⟩
def HLT_ARM_TAKEOVER : Field := ⟨UNIT_ARM 0x14, 0, 1⟩
def HLT_ARM_SWITCHBACK : Field := ⟨UNIT_ARM 0x14, 1, 1⟩
def HLT_TWIN_STATUS_ROLE : Field := ⟨HLT_TWIN_STATUS, 0, 2⟩
def HLT_TWIN_STATUS_BEACON_OK : Field := ⟨HLT_TWIN_STATUS, 2, 1⟩
def HLT_TWIN_STATUS_TWIN_GEN : Field := ⟨HLT_TWIN_STATUS, 4, 4⟩
def HLT_TWIN_STATUS_HOLD_LEFT : Field := ⟨HLT_TWIN_STATUS, 16, 16⟩
def HLT_LOG_LOST_DROPPED : Field := ⟨HLT_LOG_LOST, 0, 16⟩
def HLT_LOG_LOST_OVERWRITTEN : Field := ⟨HLT_LOG_LOST, 16, 16⟩
def HLT_TEMP_CFG_WARN : Field := ⟨HLT_TEMP_CFG, 0, 8⟩
def HLT_TEMP_CFG_FAULT : Field := ⟨HLT_TEMP_CFG, 8, 8⟩
def HLT_FABRIC_COUNT : Field := ⟨HLT_FABRIC, 0, 16⟩
def HLT_FABRIC_UTIL : Field := ⟨HLT_FABRIC, 16, 10⟩
def HLT_AAT_MATCH_CODE (e : Nat) : Field := ⟨HLT_AAT_MATCH e, 0, 16⟩
def HLT_AAT_MATCH_COUNT (e : Nat) : Field := ⟨HLT_AAT_MATCH e, 16, 8⟩
def HLT_AAT_MATCH_FIRED (e : Nat) : Field := ⟨HLT_AAT_MATCH e, 30, 1⟩
def HLT_AAT_MATCH_EN (e : Nat) : Field := ⟨HLT_AAT_MATCH e, 31, 1⟩
def HLT_AAT_ACTION_ACTION (e : Nat) : Field := ⟨HLT_AAT_ACTION e, 0, 4⟩
def HLT_AAT_ACTION_ARG (e : Nat) : Field := ⟨HLT_AAT_ACTION e, 16, 16⟩

/-- Register map of HLT. -/
def regsHLT0 : List RegDesc := [
  ⟨0x0, 0x1000000, 1, 1, .ro, 0x544C4814, 0x0, 0xFFFFFFFF⟩,
  ⟨0x4, 0x1000000, 1, 1, .ro, 0xB100, 0x0, 0xFFFF⟩,
  ⟨0x8, 0x1000000, 1, 1, .ro, 0x0, 0x0, 0x3⟩,
  ⟨0xC, 0x1000000, 1, 1, .wc, 0x0, 0x0, 0xFFFFF⟩,
  ⟨0x10, 0x1000000, 1, 1, .rw, 0x0, 0xFFFFF, 0xFFFFF⟩,
  ⟨0x14, 0x1000000, 1, 1, .rw, 0x0, 0x3, 0x3⟩,
  ⟨0x18, 0x1000000, 1, 1, .rw, 0x0, 0x37, 0x37⟩,
  ⟨0x100, 0x1000000, 1, 1, .ro, 0x1, 0x0, 0xF1FF⟩,
  ⟨0x104, 0x1000000, 1, 1, .wo, 0x0, 0x0, 0x30F⟩,
  ⟨0x108, 0x1000000, 1, 1, .ro, 0x0, 0x0, 0xFFF1FF⟩,
  ⟨0x10C, 0x1000000, 1, 1, .wo, 0x0, 0x0, 0x1⟩,
  ⟨0x110, 0x1000000, 1, 1, .ro, 0x0, 0x0, 0xFF03FF⟩,
  ⟨0x200, 0x1000000, 1, 48, .ro, 0x0, 0x0, 0xFFFFFFFF⟩,
  ⟨0x300, 0x1000000, 1, 1, .wo, 0x0, 0x0, 0xFFFFFFFF⟩,
  ⟨0x304, 0x1000000, 1, 1, .ro, 0x0, 0x0, 0xFFFF00F7⟩,
  ⟨0x308, 0x1000000, 1, 1, .rw, 0x12C, 0xFFFF, 0xFFFF⟩,
  ⟨0x30C, 0x1000000, 1, 1, .ro, 0x0, 0x0, 0xFFFFFFFF⟩,
  ⟨0x310, 0x1000000, 1, 1, .ro, 0x0, 0x0, 0xFFFFFFFF⟩,
  ⟨0x314, 0x1000000, 1, 1, .ro, 0x0, 0x0, 0xFFFFFFFF⟩,
  ⟨0x318, 0x1000000, 1, 1, .ro, 0x0, 0x0, 0xFFFFFFFF⟩,
  ⟨0x31C, 0x1000000, 1, 1, .ro, 0x0, 0x0, 0xFFFFFFFF⟩,
  ⟨0x320, 0x1000000, 1, 1, .ro, 0x0, 0x0, 0xFFFFFFFF⟩,
  ⟨0x324, 0x1000000, 1, 1, .ro, 0x0, 0x0, 0xFFFFFFFF⟩,
  ⟨0x328, 0x1000000, 1, 1, .wo, 0x0, 0x0, 0xFFFFFFFF⟩]
def regsHLT1 : List RegDesc := [
  ⟨0x400, 0x1000000, 1, 1, .ro, 0x0, 0x0, 0xFFFFFFFF⟩,
  ⟨0x404, 0x1000000, 1, 1, .rw, 0x0, 0x1FFFF, 0x1FFFF⟩,
  ⟨0x408, 0x1000000, 1, 1, .ro, 0x0, 0x0, 0xFFFFFFFF⟩,
  ⟨0x500, 0x4, 16, 1, .ro, 0x0, 0x0, 0xFF⟩,
  ⟨0x540, 0x1000000, 1, 1, .rw, 0x6E64, 0xFFFF, 0xFFFF⟩,
  ⟨0x544, 0x1000000, 1, 1, .ro, 0x0, 0x0, 0xFFFFFFFF⟩,
  ⟨0x548, 0x1000000, 1, 1, .ro, 0x0, 0x0, 0xFFFF⟩,
  ⟨0x580, 0x4, 10, 1, .ro, 0x0, 0x0, 0xFFFF⟩,
  ⟨0x5C0, 0x1000000, 1, 1, .ro, 0x0, 0x0, 0x3FFFFFF⟩,
  ⟨0x1000, 0x8, 32, 1, .rw, 0x0, 0x80FFFFFF, 0xC0FFFFFF⟩,
  ⟨0x1004, 0x8, 32, 1, .rw, 0x0, 0xFFFF000F, 0xFFFF000F⟩,
  ⟨0x100000, 0x1000000, 1, 1048576, .ro, 0x0, 0x0, 0xFFFFFFFF⟩]
def regsHLT : List RegDesc := regsHLT0 ++ regsHLT1

/-- The register map of unit `u` (R4). -/
def unitRegs (u : Nat) : List RegDesc :=
  match u with
  | 1 => regsLNS
  | 2 => regsFRM
  | 3 => regsDEC
  | 4 => regsCHN
  | 5 => regsRSY
  | 6 => regsGRT
  | 7 => regsSTG
  | 8 => regsBRG
  | 9 => regsXAR
  | 10 => regsACC
  | 11 => regsATL
  | 12 => regsMEM
  | 13 => regsSVY
  | 14 => regsCAD
  | 15 => regsMER
  | 16 => regsTIM
  | 17 => regsTRP
  | 18 => regsCMX
  | 19 => regsTRU
  | 20 => regsHLT
  | _ => []

/-- Does offset `o` fall in row `d`, at an aligned word of one of its repetitions? -/
def RegDesc.covers (d : RegDesc) (o : Nat) : Bool :=
  decide (d.off ≤ o) && decide ((o - d.off) / d.stride < d.count) && decide ((o - d.off) % d.stride < 4 * d.inner)
    && decide (o % 4 = 0)

/-- The row that holds control address `a`, if any register or table does. -/
def regDesc? (a : Nat) : Option RegDesc := (unitRegs (a / 0x1000000)).find? (fun d => d.covers (a % 0x1000000))

/-- A share: ceiling in the upper half word, floor in the lower. -/
def share (f c : Nat) : Nat := f + 65536 * c

/-- The share of class `c` in resource `r` under profile `pr` with `hyb` arrays for beams (Table 13.3); class 0 reads as R335
gives. -/
def profileShare (pr hyb c r : Nat) : Nat :=
  let f := (64 * hyb + 4) / 5
  match c, r with
  | 0, 9 => 0x04000010
  | 0, _ => 0
  | 1, 0 => share (if pr = 2 then 0 else if pr = 3 then 1024 - f else 1024) 1024
  | 1, 1 => share 128 256
  | 1, 2 => share 128 256
  | 1, 3 => share 136 512
  | 1, 9 => share 960 1024
  | 1, 10 => share (if pr = 2 then 0 else if pr = 3 then 160 else 320) 1024
  | 1, 11 => share (if pr = 2 then 0 else if pr = 3 then 160 else 320) 1024
  | 2, 0 => share (if pr = 2 then 1024 else if pr = 3 then f else 0) 1024
  | 2, 4 => if pr = 2 then share 128 256 else if pr = 3 then share 64 256 else share 0 1024
  | 2, 10 => share (if pr = 2 then 320 else if pr = 3 then 160 else 0) 1024
  | 2, 11 => share (if pr = 2 then 320 else if pr = 3 then 160 else 0) 1024
  | 3, 5 => if pr = 4 then share 128 256 else share 32 128
  | 4, 7 => share 2 16
  | 5, 6 => share 8 256
  | 6, 7 => share 4 64
  | 7, 8 => share 2 8
  | _, _ => share 0 1024

/-- Shares of profile 1 (Table 13.3), the reset values of `CAD_SHARE` and `CAD_SHARE_LIVE` (R335). -/
def cadResetShare (c r : Nat) : Nat := profileShare 1 40 c r

/-- Reset value of the register at control address `a`, where it depends on the repetition. -/
def resetNat (a : Nat) : Nat :=
  match regDesc? a with
  | none => 0
  | some d =>
    let o := a % 0x1000000
    let i := (o - d.off) / d.stride
    let j := ((o - d.off) % d.stride) / 4
    match a / 0x1000000, d.off with
    | 3, 0x1004 => i                                             -- DEC_STREAM_ID j
    | 10, 0x1000 => if i = 0 then d.rst else d.rst - 1           -- ACC plans 1-15: EN 0
    | 10, 0x1034 => if i = 0 then d.rst else 0                   -- PORTS 0
    | 10, 0x1020 => if i = 0 then d.rst else 0
    | 10, 0x1024 => if i = 0 then d.rst else 0
    | 10, 0x1028 => if i = 0 then d.rst else 0
    | 10, 0x102C => if i = 0 then d.rst else 0
    | 11, 0x1004 => if i = 0 then d.rst else 0                   -- ATL_PLAN_SHAPE
    | 14, 0x1000 => cadResetShare i j
    | 14, 0x2000 => cadResetShare i j
    | 15, 0x1004 => if i < 4 then i + 1 else 0                   -- MER_REF_PRIO
    | 16, 0x200 => 0x100 + i                                     -- TIM_PTP_CFG d
    | 18, 0x200 => d.rst + i                                     -- CMX_INT_ROUTE u
    | 18, 0x10000 => if j % 4 = 3 then 1 else 0                  -- MSI-X vector control: masked (PRESUMED, log entry 41)
    | _, _ => d.rst

end Sys2Proof.Machine
end

