-- ==== Sys2Proof/Machine/State.lean ====
section
/-!
DEFINITION. The state of the part as plain data: the registers, the HBM, each unit's internal state, the settings store,
what has left the part's ports, and the queue of commands that wait.
-/

namespace Sys2Proof.Machine

/-- Why the machine stops with a fault. -/
inductive Fault where
  /-- Raised by SUPPLY_SAMPLE, SUPPLY_FAULT_RESET and TEMP_SAMPLE on a reading beyond the absolute maximum ratings of Table 20.1:
  R468 leaves behaviour beyond them undefined. Safe: the hardware may go on, the model stops. -/
  | beyondAbsoluteMaximum
  deriving DecidableEq, Repr

/-- Why a command has no meaning in the model. -/
inductive Refusal where
  /-- An arm of exec that has no meaning yet, by its row's mnemonic. Safe: the model stops. -/
  | notModelled (mnemonic : String)
  deriving DecidableEq, Repr

/-- A log record (R15, Table 18.4). -/
structure LogRec where
  code : Nat
  sev : Nat
  idxValid : Bool
  todValid : Bool
  recno : Nat
  index : Nat
  tod : Nat
  arg0 : Nat
  arg1 : Nat
  deriving DecidableEq, Repr

/-- What a slot of the log ring never written reads as. -/
def LogRec.blank : LogRec := ⟨0, 0, false, false, 0, 0, 0, 0, 0⟩

/-- A matrix response (R387). -/
inductive Resp where
  | okay | slverr | decerr
  deriving DecidableEq, Repr

/-- What leaves the part, where an observer can see it. -/
inductive Output where
  /-- The response of a register or table write, to its master. -/
  | writeResp (m : Master) (addr : Nat) (r : Resp)
  /-- The response and data of a register or table read, to its master. -/
  | readResp (m : Master) (addr : Nat) (r : Resp) (data : Nat)
  /-- An MSI-X message (R397). -/
  | msix (vector : Nat)
  /-- A frame sent on a lane, with its check value; `loop` when near-end loopback returns it to the receiver. -/
  | laneFrame (lane : Nat) (loop : Bool) (f : Frame) (check : Nat)
  /-- A frame sent in a packet on an output port, with its check value and the packet's Ethernet length (R83). -/
  | portFrame (port : Nat) (f : Frame) (check : Nat) (ethLen : Nat)
  /-- A LINKINFO block (Table 3.3): lane, offered generation, source chip, count. -/
  | linkInfo (lane offer chip count : Nat)
  /-- Four SLEEP blocks, after which the driver is squelched (R73). -/
  | sleep (lane : Nat)
  /-- The training burst of an idle exit (Table 3.4). -/
  | burst (lane : Nat)
  /-- Pin `TRIGn` becomes active or inactive. -/
  | trig (n : Nat) (active : Bool)
  /-- An edge of `PPS_OUTn`, so many 2 ps steps after the internal PPS edge. -/
  | pps (n : Nat) (offset : Int)
  /-- `count` edges of `FRAME_OUTn`, the first at sample index `first`, each so many 2 ps steps later. -/
  | frameOut (n first count : Nat) (offset : Int)
  /-- `count` pulses of `EVT_OUTk`, the first at sample index `first`. -/
  | evt (k first count : Nat)
  /-- The completion of a PCIe configuration request: retry status or answered in full. -/
  | cfgDone (retry : Bool)
  /-- The completion of a BAR read: successful, Unsupported Request (1) or Completer Abort (2), its data, and the poisoned bit. -/
  | barDone (status : Nat) (data : List Byte) (poisoned : Bool)
  /-- A reply of the management port: mailbox, echo, ARP or neighbour discovery. -/
  | mgt (kind : Nat) (data : List Byte)
  /-- A log record sent as a datagram (R401). -/
  | logSent (r : LogRec)
  /-- An answer of the SMBus target, or a NACK. -/
  | smb (ack : Bool) (data : List Byte)
  /-- VOUT_COMMAND with its value, on the PMBus. -/
  | vout (value : Nat)
  /-- `TWIN_ACT` driven high or low. -/
  | twinAct (high : Bool)
  /-- A test access port instruction taken, or treated as BYPASS. -/
  | tap (i : TapInstr)
  deriving DecidableEq, Repr

/-- One lane (R63, R73 to R76, R85, R464): the state code of each direction (Table 3.10), whether auto-idle holds it,
whether its armed retraining is used up, SLEEP blocks received, the far end's offer and chip, the generation in use while
ACTIVE, and the LINKINFO counts. -/
structure LaneSt where
  tx : Nat
  rx : Nat
  autoHeld : Bool
  retrainUsed : Bool
  sleeps : Nat
  farOffer : Option Nat
  farChip : Option Nat
  gen : Option Nat
  liTx : Nat
  liRx : Nat
  deriving DecidableEq, Repr

/-- A lane at reset: DISABLED. -/
def LaneSt.blank : LaneSt := ⟨0, 0, false, false, 0, none, none, none, 0, 0⟩

/-- Lanes unit. `stbyIdled` are the lanes that a STANDBY entry idled (R420). -/
structure LnsSt where
  lanes : List (Nat × LaneSt)
  stbyIdled : List Nat
  deriving DecidableEq, Repr

/-- A check configuration in use on a lane (R78). -/
structure CkUse where
  en : Bool
  width : Nat
  poly : Nat
  init : Nat
  refin : Bool
  refout : Bool
  xorout : Nat
  deriving DecidableEq, Repr

def CkUse.blank : CkUse := ⟨false, 0, 0, 0, false, false, 0⟩

/-- A receive flow (R46, R47): whether a frame has been seen, the next SEQ, the next INDEX due, the format and streams
of the last accepted frame, whether the next frame is the first after ACTIVE or an EPOCH, whether the flow has failed,
the first of two consistent frames, the frames held in the reorder window (R69), and the lane of its latest frame. -/
structure FlowSt where
  seen : Bool
  seq : Nat
  nextIdx : Nat
  format : Option Nat
  first : Nat
  count : Nat
  fresh : Bool
  failed : Bool
  cand : Option Frame
  held : List Frame
  lane : Nat
  deriving DecidableEq, Repr

def FlowSt.blank : FlowSt := ⟨false, 0, 0, none, 0, 0, true, false, none, [], 0⟩

/-- Framing unit: check configurations in use, consecutive check failures, receive flows by
path, destination, class and source chip (`flowKey`), the newest twin generation accepted per source chip (plus one), transmit
sequence numbers by path and class, waymarks that wait for the next output frame
of a port, frames that wait for one of a list of lanes, and the part's own twin generation. -/
structure FrmSt where
  ckUse : List (Nat × CkUse)
  ckFails : List (Nat × Nat)
  flows : List (Nat × FlowSt)
  newestTwin : List (Nat × Nat)
  txSeq : List (Nat × Nat)
  ride : List (Nat × Waymark)
  waitQ : List (List Nat × Frame)
  deriving DecidableEq, Repr

/-- An item of the decimators' input queue: a frame from an octet's receive buffer, or a run of void grains of streams
`first` to `first + count - 1` from INDEX `index`, `n` grains of 256 samples. `timing` marks a timing void (R24). -/
inductive DecIn where
  | frame (octet : Nat) (f : Frame)
  | voids (first count index n : Nat) (timing : Bool)
  deriving DecidableEq, Repr

/-- A decimator setting (Table 4.5): decimation, order, differential delay, output and mixer selections, NCO frequency and
phase, output shift and gain, and the forerunner stage shifts. -/
structure DecUse where
  d : Nat
  n : Nat
  m : Nat
  ci16 : Bool
  ncoEn : Bool
  fore : Bool
  toChn : Bool
  toTrp : Bool
  freq : Nat
  phase : Nat
  shift : Nat
  gain : Nat
  foreShift : Nat
  deriving DecidableEq, Repr

/-- The setting in use of a slot at reset. -/
def DecUse.blank : DecUse := ⟨1, 4, 1, false, false, false, true, false, 0, 0, 8, 0x8000, 0⟩

/-- One decimator slot: whether it is enabled, its setting in use, the next input index (none before its first
synchronising reset), integrators, comb delay lines, the output frame being filled with its label and whether it depends
on a void input, output samples of the settle span left, the newest void input index, the pending host reset anchor, the
pending enable and disable, halted index ranges, void runs as (from, grains), the index below which a FLUSH voids, and whether its next output frame
is the first after a reset. -/
structure DecSlot where
  on : Bool
  use : DecUse
  pos : Option Nat
  integ : List (Int × Int)
  combs : List (List (Int × Int))
  outIdx : Nat
  outBuf : List (Int × Int)
  outVoid : Bool
  settle : Nat
  lastVoid : Option Nat
  pendReset : Option Nat
  pendEnable : Bool
  pendDisable : Bool
  halts : List (Nat × Option Nat)
  voidRuns : List (Nat × Nat)
  flushBelow : Nat
  fresh : Bool
  deriving DecidableEq, Repr

def DecSlot.blank : DecSlot :=
  ⟨false, DecUse.blank, none, [], [], 0, [], false, 0, none, none, false, false, [], [], 0, true⟩

/-- Front decimators: the input queue and the slots. -/
structure DecSt where
  inQ : List DecIn
  slots : List (Nat × DecSlot)
  deriving DecidableEq, Repr

/-- Cadastre: bytes held in each octet's receive buffer, the octets whose BUFFER_HIGH is not re-armed (R330, R331), the pending
shares by `class * 16 + resource` (R326), whether HEADROOM_LOW is in force, and the (class, resource) pairs whose FLOOR_MISS has
been raised (R328), and the token balances by `class * 16 + resource` (R324). -/
structure CadSt where
  rxBytes : List (Nat × Nat)
  rxHigh : List (Nat × Bool)
  pend : List (Nat × Nat)
  headLow : Bool
  missed : List (Nat × Bool)
  tokens : List (Nat × Int)
  deriving DecidableEq, Repr

/-- Waymarks: those each unit holds (R58), those that wait for space in a full store, those on their way to a unit, and
those applied, newest first, with the unit (R281). -/
structure WmSt where
  held : List (Nat × List Waymark)
  waiting : List (Nat × Waymark)
  transit : List (Nat × Waymark)
  applied : List (Nat × Waymark)
  deriving DecidableEq, Repr


/-- A TIME frame of one decimator slot on its way to the channeliser or the trig point: the slot, its decimation, and
whether it is the first after a synchronising reset of the slot. -/
structure TimeIn where
  slot : Nat
  d : Nat
  fresh : Bool
  f : Frame
  deriving DecidableEq, Repr

/-- One stream of the channeliser (R111, R115, R118): whether it has begun, whether joining broke a limit, its
decimation, the sample index at which its history starts, its next spectrum index, the sample index up to which the
history reaches, the history, and the statistics window in progress. -/
structure ChnSlot where
  begun : Bool
  capped : Bool
  d : Nat
  start : Nat
  next : Nat
  upto : Nat
  hist : List Frame
  statWin : Nat
  statN : Nat
  statSat : Nat
  statPow : Nat
  deriving DecidableEq, Repr

def ChnSlot.blank : ChnSlot := ⟨false, false, 1, 0, 0, 0, [], 0, 0, 0, 0⟩

/-- Channeliser: the queue of TIME frames from the decimators, the streams, coefficient memory with the addresses written
since the last change of `CHN_CFG` (all of them after a built-in load), both gain banks (entry of bank b at
`b * 2^20 + entry`), the bank switches made as (sample index, bank), newest first, and the anchors of a start and of a
pending stop. -/
structure ChnSt where
  inQ : List TimeIn
  slots : List (Nat × ChnSlot)
  coef : List (Nat × Nat)
  coefSet : List (Nat × Bool)
  coefAll : Bool
  gains : List (Nat × Nat)
  switches : List (Nat × Nat)
  startAt : Option Nat
  stopAt : Option Nat
  deriving DecidableEq, Repr

/-- One spectrum of one stream as it leaves the channeliser: slot, stream identity, spectrum index, its sample-index
start, whether it is void, forerunner or ch16, the first local channel, and the emitted channels' parts. -/
structure SpecIn where
  slot : Nat
  stream : Nat
  s : Nat
  start : Nat
  void : Bool
  fore : Bool
  ch16 : Bool
  first : Nat
  vals : List (Int × Int)
  deriving DecidableEq, Repr

/-- An entry of a routing table (R134): first F channel, channel count, owner and, where enabled, twin. -/
structure RouteEnt where
  first : Nat
  count : Nat
  owner : Nat
  twin : Option Nat
  deriving DecidableEq, Repr

/-- A routing table: enabled entries in order, hops as (destination, relay, mask) with a mask other than 0, and lanes as
(lane, far chip). -/
structure RouteTab where
  entries : List RouteEnt
  hops : List (Nat × Nat × Nat)
  lanes : List (Nat × Nat)
  deriving DecidableEq, Repr

def RouteTab.blank : RouteTab := ⟨[], [], []⟩

/-- Graticule: the spectra that left the channeliser, the table in force with the spectrum index from which it is, the
table before it, a pending table with its anchor, one more than the greatest spectrum index seen, destinations moved to
another route (route + 1), and the (destination, route) pairs whose outage has been reported. -/
structure GrtSt where
  inQ : List SpecIn
  tab : RouteTab
  since : Nat
  prev : Option RouteTab
  pend : Option (RouteTab × Nat)
  seen : Nat
  moved : List (Nat × Nat)
  down : List (Nat × Bool)
  deriving DecidableEq, Repr

/-- A frame on its way into staging: the receive buffer that holds it (none for the part's own frames), the chip at the
far end of the link on which it arrived, and the frame. -/
structure StgIn where
  octet : Option Nat
  link : Nat
  f : Frame
  deriving DecidableEq, Repr

/-- A staged sub-block in SRAM (R146): block, local channel and sub-block; its words after R151, the word of spectrum `t`
and slot `j` at `t * S + j` (ch16 parts as encodings); the void rows of the slots that have a void, bit `t` for spectrum
`t`; its format (0 c8, 1 c4, 2 ch16); the header flags FORERUNNER, CAL and TEST of its data; and the slots that met an
error response. -/
structure SubBuf where
  n : Nat
  c : Nat
  k : Nat
  vals : List (Int × Int)
  mask : List (Nat × Nat)
  fmt : Nat
  flags : Nat
  badSlots : List Nat
  deriving DecidableEq, Repr

/-- Staging: the input queue and whether its head waits under R146, the local channels' identities in force since START,
the blocks of a pending start and stop, the first block, the next block to close, the read position, frames received as counts of local
channels by `(spectrum * 4096 + slot)`, void marks of arrived frames by `block * 4096 + slot` as bit masks over the block's spectra,
void ranges by slot, header flags by block, newest spectrum plus one by `source * 4096 + link`, slots hit by a mask error by
block, model slots as (slot, anchor) with the latest set first, gain bank switches and calibration windows in spectra, waymarks
on their way to the arrays with their spectrum, the staged sub-blocks, and the (channel, block) pairs whose RING_HOLD has been raised. -/
structure StgSt where
  inQ : List StgIn
  held : Bool
  chans : List Nat
  startAt : Option Nat
  stopAt : Option Nat
  blk0 : Nat
  nclose : Nat
  rBlk : Nat
  rChan : Nat
  rSub : Nat
  recv : List (Nat × Nat)
  bad : List (Nat × Nat)
  voids : List (Nat × List (Nat × Option Nat))
  flagsB : List (Nat × Nat)
  srcMax : List (Nat × Nat)
  maskErr : List (Nat × List Nat)
  models : List (Nat × Nat)
  gainSw : List (Nat × Nat)
  cals : List (Nat × Nat)
  outMarks : List (Nat × Waymark)
  bufs : List SubBuf
  holdEv : List (Nat × Nat)
  deriving DecidableEq, Repr

/-- One rule of the trig point's program (R308, R309): its eight words, the beams that hit at recent windows as (window,
mask), its matches as (window, reported beam), the window of its last firing, and its prescale count. -/
structure RuleSt where
  words : List Nat
  hits : List (Nat × Nat)
  matched : List (Nat × Nat)
  fired : Option Nat
  presc : Nat
  deriving DecidableEq, Repr

def RuleSt.blank : RuleSt := ⟨[0, 0, 0, 0, 0, 0, 0, 0], [], [], none, 0⟩

/-- A trigger beam's level estimate (R307). -/
structure BeamSt where
  n : Nat
  sum : Nat
  l8 : Nat
  deriving DecidableEq, Repr

def BeamSt.blank : BeamSt := ⟨0, 0, 0⟩

/-- A firing whose report waits for the checks of its frames, or a report in the queue (R312). -/
structure TrpRep where
  anchor : Nat
  rule : Nat
  beam : Nat
  ratio : Nat
  cap : Nat
  suspect : Bool
  deriving DecidableEq, Repr

/-- A ring capture entry (R317): its state code, first and last frame times, and its rule. -/
structure CapSt where
  st : Nat
  first : Nat
  last : Nat
  rule : Nat
  deriving DecidableEq, Repr

def CapSt.blank : CapSt := ⟨0, 0, 0, 0⟩

/-- Trig point: the queue of TIME frames from the decimators, each stream's history by slot, the sample index from which
it runs, the next window, the program in force and the one that awaits its window, beam levels, derived delays and weights
by `bank * 64 + beam` as (delay, wr, wi) per stream, the active pins, firings that wait for their checks, the report
queue and whether its overflow has been reported, capture entries, and the ring: next frame time, the frame time at which
it started, and the recorded set. -/
structure TrpSt where
  inQ : List TimeIn
  hist : List (Nat × List TimeIn)
  from_ : Nat
  win : Option Nat
  rules : List (Nat × RuleSt)
  pend : Option (List (Nat × List Nat))
  beams : List (Nat × BeamSt)
  derived : List (Nat × List (Nat × Int × Int))
  pins : List (Nat × Bool)
  fires : List (TrpRep × Bool)
  reps : List TrpRep
  overflowed : Bool
  caps : List (Nat × CapSt)
  ringNext : Option Nat
  ringStart : Nat
  ringSet : List Nat
  deriving DecidableEq, Repr

/-- A handle of an operation (R268, R269, R279): identity (core * 65536 + handle), kind (1 CORR, 2 BEAM, 3 MERGE, 4 DUMP or MARK),
plan, the anchor at which a MERGE's integration begins, whether it is issued, whether it has committed, steps that stand, and its
final status once it has retired. -/
structure Handle where
  id : Nat
  kind : Nat
  plan : Nat
  bound : Option Nat
  issued : Bool
  committed : Bool
  stood : Nat
  status : Option Nat
  deriving DecidableEq, Repr

/-- A host request to a surveyor core, which takes effect at its next step point (R285). -/
inductive SvyReq where
  | abort (handle : Nat)
  | stop
  | kill
  | suspend
  | reg (r v : Nat)
  deriving DecidableEq, Repr

/-- One surveyor core (R260, R261): state code (Table 11.1), fault cause, next instruction, registers, loop stack as (first, last, passes
left) with the innermost first, call stack, step count and the last STEP's IMM, instructions since a step point, whether an implicit step has
been reported since START, the class of later operations, the window as (first spectrum, sub-blocks), what it waits for (Table 11.14) and on
which handle, the next handle, host requests in order, how it halts (0 STOP, 1 KILL, 2 HALT), and the image address of a load in progress. -/
structure SvyCore where
  st : Nat
  cause : Nat
  pc : Nat
  regs : List (Nat × Nat)
  loops : List (Nat × Nat × Nat)
  calls : List Nat
  steps : Nat
  stepImm : Nat
  since : Nat
  implicit : Bool
  cls : Nat
  win : Option (Nat × Nat)
  wait : Nat
  waitH : Nat
  next : Nat
  reqs : List SvyReq
  how : Nat
  loading : Option Nat
  deriving DecidableEq, Repr

/-- A core at reset: EMPTY. -/
def SvyCore.blank : SvyCore := ⟨0, 0, 0, [], [], [], 0, 0, 0, false, 0, none, 0, 0, 1, [], 0, none⟩

/-- Surveyor cores: the streams each plan declared with its latest STREAM, by tag: first identity and count (R273), the handles, the
anchor of each plan's latest DUMP, by tag, and the cores. -/
structure SvySt where
  decl : List (Nat × Nat × Nat)
  handles : List Handle
  lastDump : List (Nat × Nat)
  cores : List (Nat × SvyCore)
  deriving DecidableEq, Repr

/-- An entry of the memory error log (R351): the address [35:6], the port, the source code of Table 14.7 and the
pseudo-channel. -/
structure UeEnt where
  unit : Nat
  port : Nat
  source : Nat
  pc : Nat
  deriving DecidableEq, Repr

/-- A request that waits in a bank queue (R338 to R340): port, whether a write, unit as presented, row, the tag that orders its port's
responses, and what a read returns (none for an error response). -/
structure HbmQ where
  port : Nat
  write : Bool
  unit : Nat
  row : Nat
  tag : Nat
  data : Option (List Byte)
  deriving DecidableEq, Repr

/-- Memory unit. `ecc` marks physical units: 1 correctable, 2 uncorrectable, 3 fenced. Bank queues, refreshes due and open
rows (plus one) are keyed by `pc * 64 + bank`; the port pointer, the bank pointer, the bus direction (1 write) with its burst count as
`2 * count + direction`, and the bank next to refresh by pseudo-channel; by port, the tags of reads not yet answered, in order. `ready` are the reads
served and not yet answered, and `resp` the answers given, by tag (none: an error). `waiting` are the requests at the inputs, oldest first, `hostSr` the
stacks with a host entry requested, `bench` the benchmark margins, `retired` the retired pseudo-channel (kept in the settings store), `copy` a copy in
progress with whether it restores, `restore` a restoration that waits for training, `training` the pseudo-channels in full training, `ceSec` the corrected
errors of this second, `lastTemp` the stack temperature at the last training. -/
structure MemSt where
  ecc : List (Nat × Nat)
  log : List UeEnt
  queues : List (Nat × List HbmQ)
  refDue : List (Nat × Nat)
  openRow : List (Nat × Nat)
  portPtr : List (Nat × Nat)
  bankPtr : List (Nat × Nat)
  dir : List (Nat × Nat)
  order : List (Nat × List Nat)
  ready : List (Nat × Option (List Byte))
  resp : List (Nat × Option (List Byte))
  nextTag : Nat
  waiting : List HbmReq
  hostSr : List (Nat × Bool)
  refNext : List (Nat × Nat)
  bench : List (Nat × Nat)
  retired : Option Nat
  copy : Option (Nat × Bool)
  restore : Option Nat
  training : List Nat
  ceSec : List (Nat × Nat)
  lastTemp : List (Nat × Nat)
  scrubFix : Nat
  scrubBad : Nat
  deriving DecidableEq, Repr

/-- One bank of a bearing core (Table 7.1): registers, accumulators, the accumulators as they stood before the latest
instruction (R161), pointers, modifiers, and the loop registers (passes left, 0 outside a loop; first and last address). -/
structure BankSt where
  b : List (Nat × Nat)
  a : List (Nat × Int)
  aPrev : List (Nat × Int)
  p : List (Nat × Nat)
  m : List (Nat × Int)
  loopCount : Nat
  loopStart : Nat
  loopEnd : Nat
  deriving DecidableEq, Repr

def BankSt.blank : BankSt := ⟨[], [], [], [], [], 0, 0, 0⟩

/-- What a core has issued to HBM and not yet seen written: a model record, or the posting of a tick behind it (R172,
R173). -/
inductive BrgQ where
  | put (addr : Nat) (ws : List Nat)
  | post (n : Nat)
  deriving DecidableEq, Repr

/-- One bearing core: state code (Table 7.11), fault cause, SAT, next instruction, whether that lies in a delay slot and
the target taken after it, the bank in force and both banks, the register write not yet visible as (register, value), the
word stored by the latest instruction as (address, old word), interrupt enable, the saved address, the TICK cause, the
causes at handler entry, pending ticks as (number, target, half), the tick last consumed, what the core waits for
(1 `WAITT`, 2 `WAITI`, 3 `DIR`), and its queue to HBM. -/
structure CoreSt where
  st : Nat
  cause : Nat
  sat : Bool
  pc : Nat
  slot : Option (Option Nat)
  shadow : Bool
  main : BankSt
  shad : BankSt
  late : Option (Nat × Nat)
  memOld : Option (Nat × Nat)
  ei : Bool
  savedPc : Nat
  tickCause : Bool
  entryCause : Nat
  ticks : List (Nat × Nat × Nat)
  tick : Option (Nat × Nat × Nat)
  wait : Nat
  q : List BrgQ
  deriving DecidableEq, Repr

def CoreSt.blank : CoreSt :=
  ⟨0, 0, false, 0, none, false, BankSt.blank, BankSt.blank, none, none, false, 0, false, 0, [], none, 0, []⟩

/-- An open tick (R170): number, target spectrum, the cores that have posted it, and the banks of the WSWAPs to send at
its close. -/
structure TickSt where
  n : Nat
  target : Nat
  posted : List Nat
  wswaps : List Nat
  deriving DecidableEq, Repr

/-- Bearing cores: the cores, the open ticks (oldest first), the next tick to fire, and the armed direction switch as
(half, tick). -/
structure BrgSt where
  cores : List (Nat × CoreSt)
  open_ : List TickSt
  nextTick : Option Nat
  armed : Option (Nat × Nat)
  deriving DecidableEq, Repr

/-- An installed plan ticket (R462): digest, tag, version. -/
structure Ticket where
  digest : List Byte
  tag : Nat
  version : Nat
  deriving DecidableEq, Repr

/-- A settings area (R459, R460): format, FW_VERSION of the writer, state (0 FREE, 1 CURRENT, 2 TRIAL), change count, whether its CRC is good, and the
settings as (register address, value). -/
structure SetArea where
  fmt : Nat
  fw : Nat
  st : Nat
  changes : Nat
  good : Bool
  items : List (Nat × Word)
  deriving DecidableEq, Repr

def SetArea.blank : SetArea := ⟨0, 0, 0, 0, true, []⟩

/-- A write of an image under way (R457): mailbox channel, UPDATE sub-command, slot (2 SAFE), and the manifest and image. -/
structure UpdSt where
  ch : Nat
  sub : Nat
  slot : Nat
  bytes : List Byte
  deriving DecidableEq, Repr

/-- Trust unit. The arithmetic generations that GEN waymarks brought into force, newest first, as (anchor, generation), the one
in force since the boot, the installed plan tickets, oldest first, and the stored generation (R465). The trust region: slot states and tries left of slots A and B and the SAFE region,
the counters of Table 19.3, REVOKE, the owner key, the plan policy, the two settings areas. The ROM's root keys and the die's identity. The boot flash, a latched
SAFE request, the running slot (0 A, 1 B, 2 SAFE, 3 none), whether the settings could not be read, the words of a recovery package, the debug token's words, an image write under way, and whether FLASH_SFDP
stands, and the identity latched from the straps. -/
structure TruSt where
  gens : List (Nat × Nat)
  genBoot : Nat
  tickets : List Ticket
  stored : Nat
  slots : List (Nat × Nat)
  fwFloor : Nat
  safeFloor : Nat
  keyFloor : List Nat
  revoke : Nat
  owner : Option (List Byte)
  ticketOnly : Bool
  area0 : SetArea
  area1 : SetArea
  roots : List (List Byte)
  dieId : Nat
  flash : List Host.Cell
  safeReq : Bool
  running : Nat
  unreadable : Bool
  recWords : Nat
  token : List (Nat × Word)
  update : Option UpdSt
  sfdpBad : Bool
  chipId : Nat
  deriving DecidableEq, Repr

/-- A tile descriptor and what the atlas keeps beside it (Table 10.2, R252): key, LOCATION, state code of Table 10.3, owner class,
the owning operation's identity plus one, poison, place in declared order, whether its operation was undone while an array or a
transfer held it, the page or slot reserved for a transfer, the identity plus one of the operation whose pass last filled it, and
whether it has been dispatched since the statistics began. -/
structure Desc where
  key : Nat
  loc : Nat
  st : Nat
  owner : Nat
  op : Nat
  poison : Bool
  order : Nat
  undo : Bool
  resv : Nat
  src : Nat
  seen : Bool
  deriving DecidableEq, Repr

/-- An undeclared tile: ABSENT. -/
def Desc.blank : Desc := ⟨0, 0, 0, 0, 0, false, 0, false, 0, 0, false⟩

/-- A tile operation (R241, R245, R277, R278): identity (core * 65536 + handle; 8 * 65536 for the host's), plan, class, whether
it forms beams, first channel and count, first beam group and count, first spectrum, sub-blocks, staging slot of the plan's first
stream, low 16 bits of the core's step count, the one descriptor of a host operation, whether it evicts, beam steps committed, and whether a block result of
it has reached accumulation. -/
structure TileOp where
  id : Nat
  plan : Nat
  cls : Nat
  beam : Bool
  lo : Nat
  n : Nat
  row : Nat
  rows : Nat
  first : Nat
  nsub : Nat
  base : Nat
  step : Nat
  one : Option Nat
  evict : Bool
  done : Nat
  fed : Bool
  deriving DecidableEq, Repr

/-- A tile pass (R250): its operation, class, descriptor, block, channel, sub-block, row and column block, staging slot of
operand row 0 of block 0, whether a beam pass, whether the block's last, and whether it has been counted as waiting. -/
structure Pass where
  op : Nat
  cls : Nat
  idx : Nat
  n : Nat
  c : Nat
  k : Nat
  u : Nat
  v : Nat
  base : Nat
  beam : Bool
  last : Bool
  waited : Bool
  deriving DecidableEq, Repr

/-- A tile in an array: the latest pass, format (0 c8, 1 c4, 2 ch16), slot, cells as 32-bit words, the sum of the start value's
cells, the check value (R198), passes since the load, and the poison cause met (0 none). -/
structure Work where
  pass : Pass
  fmt : Nat
  slot : Nat
  cells : List (Nat × Nat)
  start : Int × Int
  chk : Int × Int
  npass : Nat
  bad : Nat
  deriving DecidableEq, Repr

/-- One X-array (R181, R189, R200): the pass given to it and not yet filling with its start value (kept: the tile it is
filling), the tile filling, the tile draining, the latest tile key, whether it is to be isolated once empty, and
whether its fill has ended and waits on the exchange (R197). -/
structure ArrSt where
  next : Option Work
  keep : Bool
  fill : Option Work
  drain : Option Work
  key : Nat
  isolate : Bool
  stalled : Bool
  deriving DecidableEq, Repr

def ArrSt.blank : ArrSt := ⟨none, false, none, none, 0, false, false⟩

/-- A beam step (R293): operation, block, channel, sub-block, whether it has been decided, and whether it was undone. -/
structure BeamStep where
  op : Nat
  n : Nat
  c : Nat
  k : Nat
  decided : Bool
  undone : Bool
  deriving DecidableEq, Repr

/-- Atlas: descriptors by index, tile-store slots as 1,024 cells (empty: all zero), operations waiting at issue, operations issued and not retired, the
dispatch list in order, beam steps not yet forgotten, the arrays, the host operation's state (0 idle, 1 waiting, 2 running), pages that have left the free list, quarantined pseudo-channels in
order of request, pages moved so far, the next pseudo-channel of the round robin, the next declared place, plans with statistics,
plans of which a whole block has closed, (plan, block) pairs whose PAGE_AREA_FULL has been raised, and whether a migration step has started in this budget period. -/
structure AtlSt where
  desc : List (Nat × Desc)
  tiles : List (Nat × List (Nat × Nat))
  queue : List TileOp
  ops : List TileOp
  passes : List Pass
  steps : List BeamStep
  arrays : List (Nat × ArrSt)
  hostSt : Nat
  gone : List Nat
  quar : List Nat
  moved : Nat
  rr : Nat
  order : Nat
  stats : List Nat
  closed : List Nat
  full : List (Nat × Nat)
  stepped : Bool
  deriving DecidableEq, Repr

/-- X-arrays: bank switches as (spectrum, bank), newest first, and the rewritten anchors of late WSWAPs as spectra. -/
structure XarSt where
  switches : List (Nat × Nat)
  lates : List Nat
  deriving DecidableEq, Repr

/-- A tile of an integration (R213, R227, R229): flag bits (1 POISON, 2 EXCL_POISON, 4 EXCL_PLANE, 8 DRAIN_POISON, 16 forerunner,
32 CAL), spectra left out, and whether a block has been merged into it. -/
structure AccTile where
  flags : Nat
  excl : Nat
  merged : Bool
  deriving DecidableEq, Repr

def AccTile.blank : AccTile := ⟨0, 0, false⟩

/-- The voids of a block (R212): block, void row by slot, and counts of timing voids by slot. -/
structure BlockRow where
  n : Nat
  masks : List (Nat × Nat)
  timing : List (Nat × Nat)
  deriving DecidableEq, Repr

/-- A plane position of a block: block, row block, column block, and whether the plane area had room (R212, R214). -/
structure PlanePos where
  n : Nat
  u : Nat
  v : Nat
  ok : Bool
  deriving DecidableEq, Repr

/-- Sums of a kurtosis window (R216): block, channel, window, and (N, S1, S2) by slot. -/
structure SkWin where
  n : Nat
  c : Nat
  w : Nat
  sums : List (Nat × Nat × Nat)
  deriving DecidableEq, Repr

/-- Moment sums of a block (R218), (N, SXR, SXI, SP) by slot, and the block's header flags. -/
structure Moments where
  n : Nat
  flags : Nat
  sums : List (Nat × Int × Int × Nat)
  deriving DecidableEq, Repr

/-- A closed integration that drains (R211, R228): set, number, its blocks in order, tiles by `(c * 128 + u) * 128 + v`, block rows, plane positions,
flags of Table 9.7, flagged windows as (channel, window, flag bits), moments by slot, late anchors, and whether everything has been sent. -/
structure AccInteg where
  set : Nat
  num : Nat
  blocks : List Nat
  tiles : List (Nat × AccTile)
  rows : List BlockRow
  planes : List PlanePos
  flags : Nat
  kurt : List (Nat × Nat × Nat)
  moments : List (Nat × Int × Int × Nat)
  late : Bool
  sent : Bool
  deriving DecidableEq, Repr

/-- A tile of a beam step with something to report (R297): block, tile key, sub-block, flag bits (1 POISON, 2 TIMING_VOID, 4 LATE), and
spectra left out. -/
structure BeamTile where
  n : Nat
  key : Nat
  k : Nat
  flags : Nat
  excl : Nat
  deriving DecidableEq, Repr

/-- Accumulation's state of one plan: integrating set, its blocks and tiles, block rows and planes noted, kurtosis windows, moments,
baselines by channel as binary64 and whether they exist, whether DRAIN_LATE has been raised for the held merge, spectra of late
waymarks, closed integrations that drain (oldest first), DUMPs held for their boundary, the anchor at which the open integration
began, blocks whose PLANE_FULL has been raised, beam frames by `block * 8 + port`, beam tiles to report, and beam blocks whose
legend has left. -/
structure AccPlan where
  set : Nat
  blocks : List Nat
  tiles : List (Nat × AccTile)
  rows : List BlockRow
  planes : List PlanePos
  wins : List SkWin
  moments : List Moments
  base : List (Nat × Nat)
  based : Bool
  lateSet : Bool
  lates : List Nat
  drains : List AccInteg
  dumps : List Waymark
  began : Option Nat
  fullBlk : List Nat
  beamOut : List (Nat × Nat)
  beamTiles : List BeamTile
  legends : List Nat
  deriving DecidableEq, Repr

def AccPlan.blank : AccPlan := ⟨0, [], [], [], [], [], [], [], false, false, [], [], [], none, [], [], [], []⟩

/-- A twin signature in progress (R433): sum, units, exempt. -/
structure SigSum where
  sum : Nat
  count : Nat
  exempt : Bool
  deriving DecidableEq, Repr

def SigSum.blank : SigSum := ⟨0, 0, false⟩

/-- Accumulation: the plans, CAL windows in spectra, drains made so far, twin signatures by `((block * 4096 + channel) * 16 + plan) * 4 + source`, and the
resynthesis halves in use as `plan * 2^40 + block`. -/
structure AccSt where
  plans : List (Nat × AccPlan)
  cals : List (Nat × Nat)
  ndrain : Nat
  sigs : List (Nat × SigSum)
  halves : List Nat
  deriving DecidableEq, Repr

/-- One beam-slice of the resynthesiser (R124, R126): the spectrum at which it began, its latest spectra, newest first, as (void, from a
poisoned tile, transform), and the output frame being filled: number of its first output sample, its samples, whether it is void and whether it used a
poisoned spectrum. -/
structure SliceSt where
  began : Nat
  hist : List (Bool × Bool × List (Int × Int))
  outAt : Int
  out : List (Int × Int)
  void : Bool
  poison : Bool
  deriving DecidableEq, Repr

/-- Resynthesiser: coefficient memory as the channeliser's, the spectra of a pending start and of a pending stop, the slices that have begun, the
half of each plan that is being read as (plan, block, next spectrum within it), and void ranges as (scope, from, to) in spectra. -/
structure RsySt where
  coef : List (Nat × Nat)
  coefSet : List (Nat × Bool)
  coefAll : Bool
  startAt : Option Nat
  stopAt : Option Nat
  slices : List (Nat × SliceSt)
  reading : List (Nat × Nat × Nat)
  voids : List (Nat × Nat × Option Nat)
  deriving DecidableEq, Repr

/-- A mode transition in progress (R411): target, who asked (0 the register, c + 1 mailbox channel c, 4 an armed action, 5 the part itself), the cause that MODE_CHANGED
gives, the step of an exit reached, and whether it has committed. -/
structure Trans where
  target : Nat
  src : Nat
  cause : Nat
  step : Nat
  committed : Bool
  deriving DecidableEq, Repr

/-- A survey record (Table 17.8). -/
structure SurveyRec where
  kind : Nat
  result : Nat
  planned : Nat
  done : Nat
  coverage : Nat
  signature : Nat
  tod : Nat
  fw : Nat
  cut : Nat
  failStep : Nat
  steps : Nat
  deriving DecidableEq, Repr

/-- A run of survey steps or start tests (R418, R424): the steps still to run, the result words of those completed with the words expected of them, oldest first,
whether a cut was asked for, and the record so far. -/
structure SurveyRun where
  todo : List Nat
  words : List (Nat × Nat × Nat)
  cut : Bool
  record : SurveyRec
  deriving DecidableEq, Repr

/-- A beacon (Table 18.1). -/
structure Beacon where
  role : Nat
  handover : Bool
  revert : Bool
  mode : Nat
  health : Nat
  seq : Nat
  ppsIdx : Nat
  fw : Nat
  gen : Nat
  twinGen : Nat
  ql : Nat
  cfgCrc : Nat
  src : Nat
  deriving DecidableEq, Repr

/-- Health unit. The log queue and ring with the records written, and whether a loss is to be reported (R439, R440); the occurrence counts of the armed-action table and the entries due (R442); the mode of
the active twin; the transition; the survey run and the three records kept; the cause of R30 that waits for the next boot, and whether thermal shutdown or a supply
fault holds the part; temperature and supply events not re-armed; the VDD_CORE suppression of R471; powered hours and readings (live and last stored, as (sum, count)); the
lowest headroom and highest utilisation of the second; and twin operation: beacons sent, the last one received, whether one came in this period, periods in a row with and
without one, whether the loss was reported, HANDOVER, REVERT_REQ, periods since the own and the peer's rise of the active line, a difference of CFG_CRC reported, a mismatch in this second, the own and
the peer's signatures by key, and the first common block by plan and source. -/
structure HltSt where
  logQ : List LogRec
  logRing : List (Nat × LogRec)
  logHead : Nat
  logLossOpen : Bool
  aatCount : List (Nat × Nat)
  aatDue : List Nat
  peerMode : Option Nat
  trans : Option Trans
  survey : Option SurveyRun
  closing1 : Option SurveyRec
  closing2 : Option SurveyRec
  start : Option SurveyRec
  cause30 : Option (Nat × Nat)
  thermal : Bool
  supplyFault : Bool
  tempHigh : Bool
  tempFault : Bool
  supplyLow : List (Nat × Bool)
  voutQuiet : Bool
  hours : Nat
  tj : Int × Nat
  tjStored : Int × Nat
  fabMin : Option Nat
  fabMax : Nat
  beaconSeq : Nat
  beacon : Option Beacon
  beaconIn : Bool
  beaconRun : Nat
  beaconMiss : Nat
  lostTold : Bool
  handover : Bool
  revertReq : Bool
  ownAge : Nat
  revertAge : Nat
  cfgDiffer : Bool
  mismatched : Bool
  sigOwn : List (Nat × SigSum)
  sigPeer : List (Nat × SigSum)
  sigFirst : List (Nat × Nat)
  sigSent : List Nat
  deriving DecidableEq, Repr

/-- A burst whose master has not delivered every beat (R385, R389): master, first address, whether a write, beats in it and beats completed. -/
structure Burst where
  m : Nat
  addr : Nat
  write : Bool
  total : Nat
  done : Nat
  deriving DecidableEq, Repr

/-- A request at a target port (R384, R385, R390): master, first address, whether a write, its beats in all, whether it belongs to a locked sequence, whether
it is a BAR0 request, answered at the PCI Express link, the beats at hand, each with its 32-bit words in ascending order, and the physical facts. -/
structure MatrixReq where
  m : Master
  addr : Nat
  write : Bool
  total : Nat
  lock : Bool
  bar : Bool
  beats : List (List Strobe)
  env : Env
  deriving DecidableEq, Repr

/-- Control matrix and host ports: whether channel 0 holds an unread completion, the mailbox commands in flight as (channel, code, argument), the pseudo-channels that a TRAIN has still
to train and the trainings it has committed, an open burst, the lock of a locked sequence as (master, address, expired), whether the host has configured the BARs, whether configuration requests are
answered in full, the last request of channel 1 and its reply, the sequence number and reply of channel 2, the test access port's instruction, the regulator's VOUT_MODE exponent, the
channels whose command met an abort after its commit point, the requests that wait at a target port, and the master that each port's rotating pick
considers first, by port. -/
structure CmxSt where
  mboxUnread : Bool
  steps : List (Nat × Nat × Nat)
  train : Option (List Nat × Nat)
  burst : Option Burst
  lock : Option (Nat × Nat × Bool)
  bars : Bool
  cfgReady : Bool
  lastSeq : Option Nat
  lastReply : List Byte
  smbSeq : Nat
  smbReply : List Byte
  tap : TapInstr
  voutExp : Option Int
  late : List Nat
  waits : List MatrixReq
  picks : List (Nat × Nat)
  deriving DecidableEq, Repr

/-- One reference entry (R359, R364, R365): seconds of unbroken good conditions, whether it has been disqualified since it last
qualified, its latest mean frequency, the quality level that its input carries, and IRIG-B frames failed in a row. -/
structure RefSt where
  good : Nat
  wasDq : Bool
  mean : Int
  qlIn : Nat
  irigFails : Nat
  deriving DecidableEq, Repr

def RefSt.blank : RefSt := ⟨0, false, 0, 6, 0⟩

/-- Meridian: sample index with its fraction of a sample (in 1/100,000) and the samples since the last internal edge, whether the decimators have seen the
first EPOCH, internal edges since the epoch in force, the label of the pending epoch, the units that have made the discards of R488, the entries, pairs in disagreement, whether the first
selection waits on a disagreement, the switch that waits for its build-out offset as (entry, cause), the bandwidth in use
in units of 2^-16 of 0.01 Hz, seconds and the sum of the frequency that is being learned, the loop's last frequencies,
the build-out offset in picoseconds, output offsets in force (PPS 0 to 3, FRAME 4 to 7), those written as (output, value, edges to wait), and the outputs whose next edge is omitted. -/
structure MerSt where
  idx : Nat
  frac : Nat
  since : Nat
  epochSeen : Bool
  edges : Nat
  pend : Option Nat
  epochDone : List Nat
  refs : List (Nat × RefSt)
  pairs : List (Nat × Bool)
  waitAgree : Bool
  switch : Option (Nat × Nat)
  bw : Nat
  learnN : Nat
  learnSum : Int
  last : List Int
  build : Int
  offs : List (Nat × Int)
  newOffs : List (Nat × Int × Nat)
  skip : List (Nat × Bool)
  deriving DecidableEq, Repr

/-- A PTP domain (R374 to R376): the master in use as (ranks, grandmaster), the last exchanges' delays, newest first, and the accepted delay. -/
structure DomSt where
  master : Option (List Nat × Nat)
  delays : List Int
  accepted : Option Int
  deriving DecidableEq, Repr

def DomSt.blank : DomSt := ⟨none, [], none⟩

/-- Time service: the counter with its fraction, the increment in use (32.32), the one pending and the held `_HI` value, requests that wait for
the next edge (SEC_SET, TOD_SET, a source), the last candidate and how many rose in turn, differing candidates in turn, whether SEC_NAMED has been
raised, the last IRIG-B time (TAI seconds), the domains, edges in turn at which they agreed, whether their disagreement has been
reported, the domain lost as (domain, state, agreed edges), and the next pulse of each event output. -/
structure TimSt where
  tod : Nat
  todFrac : Nat
  incr : Nat
  incrPend : Option Nat
  incrHeld : Option Nat
  secSet : Bool
  todSet : Bool
  source : Option Nat
  cand : Option Nat
  run : Nat
  misses : Nat
  named : Bool
  irig : Option Int
  doms : List (Nat × DomSt)
  agree : Nat
  disagreed : Bool
  lost : Option (Nat × Nat × Nat)
  evtNext : List (Nat × Option Nat)
  deriving DecidableEq, Repr

/-- The state of the part. -/
structure State where
  regs : List (Nat × Word)
  lns : LnsSt
  frm : FrmSt
  dec : DecSt
  cad : CadSt
  wm : WmSt
  chn : ChnSt
  grt : GrtSt
  stg : StgSt
  trp : TrpSt
  svy : SvySt
  hbm : List Host.Cell
  mem : MemSt
  brg : BrgSt
  tru : TruSt
  atl : AtlSt
  xar : XarSt
  acc : AccSt
  rsy : RsySt
  hlt : HltSt
  cmx : CmxSt
  mer : MerSt
  tim : TimSt
  out : List Output
  pending : List Instr
  deriving DecidableEq, Repr

def State.reset : State :=
  { regs := []
    lns := { lanes := [], stbyIdled := [] }
    frm := { ckUse := [], ckFails := [], flows := [], newestTwin := [], txSeq := [], ride := [], waitQ := [] }
    dec := { inQ := [], slots := [] }
    cad := { rxBytes := [], rxHigh := [], pend := [], headLow := false, missed := [], tokens := [] }
    wm := { held := [], waiting := [], transit := [], applied := [] }
    chn := { inQ := [], slots := [], coef := [], coefSet := [], coefAll := false, gains := [], switches := []
             startAt := none, stopAt := none }
    grt := { inQ := [], tab := RouteTab.blank, since := 0, prev := none, pend := none, seen := 0, moved := [], down := [] }
    stg := { inQ := [], held := false, chans := [], startAt := none, stopAt := none, blk0 := 0, nclose := 0, rBlk := 0, rChan := 0
             rSub := 0, recv := [], bad := [], voids := [], flagsB := [], srcMax := [], maskErr := [], models := []
             gainSw := [], cals := [], outMarks := [], bufs := [], holdEv := [] }
    trp := { inQ := [], hist := [], from_ := 0, win := none, rules := [], pend := none, beams := [], derived := [], pins := []
             fires := [], reps := [], overflowed := false, caps := [], ringNext := none, ringStart := 0, ringSet := [] }
    svy := { decl := [], handles := [], lastDump := [], cores := [] }
    hbm := []
    mem := { ecc := [], log := [], queues := [], refDue := [], openRow := [], portPtr := [], bankPtr := [], dir := []
             order := [], ready := [], resp := [], nextTag := 0, waiting := [], hostSr := [], refNext := [], bench := []
             retired := none, copy := none, restore := none, training := [], ceSec := [], lastTemp := [], scrubFix := 0, scrubBad := 0 }
    brg := { cores := [], open_ := [], nextTick := none, armed := none }
    tru := { gens := [], genBoot := 0, tickets := [], stored := 0, slots := [(0, 0), (0, 0), (0, 0)], fwFloor := 0, safeFloor := 0, keyFloor := [0, 0, 0]
             revoke := 0, owner := none, ticketOnly := false, area0 := SetArea.blank, area1 := SetArea.blank, roots := [[], [], [], []], dieId := 0
             flash := [], safeReq := false, running := 3, unreadable := false, recWords := 0, token := [], update := none, sfdpBad := false, chipId := 0 }
    atl := { desc := [], tiles := [], queue := [], ops := [], passes := [], steps := [], arrays := [], hostSt := 0, gone := [], quar := []
             moved := 0, rr := 0, order := 0, stats := [], closed := [], full := [], stepped := false }
    xar := { switches := [], lates := [] }
    acc := { plans := [], cals := [], ndrain := 0, sigs := [], halves := [] }
    rsy := { coef := [], coefSet := [], coefAll := false, startAt := none, stopAt := none, slices := [], reading := [], voids := [] }
    hlt := { logQ := [], logRing := [], logHead := 0, logLossOpen := false, aatCount := [], aatDue := [], peerMode := none, trans := none, survey := none
             closing1 := none, closing2 := none, start := none, cause30 := none, thermal := false, supplyFault := false, tempHigh := false
             tempFault := false, supplyLow := [], voutQuiet := false, hours := 0, tj := (0, 0), tjStored := (0, 0), fabMin := none, fabMax := 0
             beaconSeq := 0, beacon := none, beaconIn := false, beaconRun := 0, beaconMiss := 0, lostTold := false, handover := false
             revertReq := false, ownAge := 0, revertAge := 0, cfgDiffer := false, mismatched := false, sigOwn := [], sigPeer := [], sigFirst := [], sigSent := [] }
    cmx := { mboxUnread := false, steps := [], train := none, burst := none, lock := none, bars := false, cfgReady := false, lastSeq := none
             lastReply := [], smbSeq := 0, smbReply := [], tap := .idcode, voutExp := none, late := [], waits := [], picks := [] }
    mer := { idx := 0, frac := 0, since := 0, epochSeen := false, edges := 0, pend := none, epochDone := [], refs := [], pairs := [], waitAgree := false
             switch := none, bw := 0, learnN := 0, learnSum := 0, last := [], build := 0, offs := [], newOffs := [], skip := [] }
    tim := { tod := 0, todFrac := 0, incr := 10 * 2 ^ 32, incrPend := none, incrHeld := none, secSet := false, todSet := false, source := none
             cand := none, run := 0, misses := 0, named := false, irig := none, doms := [], agree := 0, disagreed := false, lost := none
             evtNext := [] }
    out := []
    pending := [] }

end Sys2Proof.Machine
end

