-- ==== Sys2Proof/Machine/Ops.lean ====
section
/-!
DEFINITION. The named operations that every unit shares: reading and writing a register from inside the part, events
with their log records, interrupts and armed-action counts, and what leaves the part.
-/

namespace Sys2Proof.Machine

/-! ### Registers -/

/-- What the register at `a` holds when nothing has written it: its reset value (R9). -/
def regReset (a : Nat) : Word := BitVec.ofNat 32 (resetNat a)

/-- The word that the register at control address `a` holds. -/
def State.reg (s : State) (a : Nat) : Nat := (sget (regReset a) s.regs a).toNat

/-- `s` with the register at `a` holding the low 32 bits of `n`. -/
def State.setReg (s : State) (a n : Nat) : State :=
  { s with regs := sset (regReset a) s.regs a (BitVec.ofNat 32 n) }

/-- A field of a register. -/
def State.rf (s : State) (f : Field) : Nat := bits (s.reg f.addr) f.lo f.width

/-- `s` with a field of a register set. -/
def State.wf (s : State) (f : Field) (v : Nat) : State :=
  s.setReg f.addr (setBits (s.reg f.addr) f.lo f.width v)

/-- A 64-bit value held in a `_LO` and `_HI` pair. -/
def State.reg64 (s : State) (lo hi : Nat) : Nat := s.reg lo + 2 ^ 32 * s.reg hi

/-- `s` with a `_LO` and `_HI` pair set. -/
def State.setReg64 (s : State) (lo hi n : Nat) : State := (s.setReg lo (n % 2 ^ 32)).setReg hi (n / 2 ^ 32 % 2 ^ 32)

/-- A counter register raised by `n`; counters saturate at 32 bits (R86). -/
def State.inc (s : State) (a n : Nat) : State := s.setReg a (min (s.reg a + n) 0xFFFFFFFF)

/-- Several registers set to zero. -/
def State.zero (s : State) (as : List Nat) : State := foldS (fun a t => t.setReg a 0) as s

/-- The major mode (R5). -/
def State.mode (s : State) : Nat := s.rf HLT_MODE_MODE

/-! The mode codes of Table 0.4. -/
def mOFF : Nat := 0
def mBOOT : Nat := 1
def mSAFE : Nat := 2
def mSTANDBY : Nat := 3
def mREADY : Nat := 4
def mCALIBRATE : Nat := 5
def mCORRELATE : Nat := 6
def mBEAMFORM : Nat := 7
def mHYBRID : Nat := 8
def mTRIGGER : Nat := 9
def mSHADOW : Nat := 10
def mCLOSING : Nat := 11

/-- CORRELATE, BEAMFORM, HYBRID or TRIGGER. -/
def isDataMode (m : Nat) : Bool := decide (6 ≤ m) && decide (m ≤ 9)

/-- What leaves the part, newest first. -/
def State.emit (s : State) (o : Output) : State := { s with out := o :: s.out }

/-! ### Interrupts (R396, R397) -/

/-- Is interrupt source `u` pending? Source 0 is the mailbox, source u unit u (R396). -/
def intPending (s : State) (u : Nat) : Bool :=
  if u = 0 then s.cmx.mboxUnread
  else decide ((s.reg (UNIT_EVENT u)) &&& (s.reg (UNIT_EVENT_EN u)) ≠ 0)

/-- The level of pin INTn_L: driven low while any source routed to it is pending (R396). -/
def intPinLow (s : State) (n : Nat) : Bool :=
  (List.range 21).any (fun u => bit (s.rf (CMX_INT_ROUTE_PINS u)) n && intPending s u)

/-- Is MSI-X vector `v` masked: by its own mask bit, or because the host has not enabled MSI-X? -/
def vectorMasked (s : State) (v : Nat) : Bool :=
  bit (s.reg (CMX_MSIX_TABLE (4 * v + 3))) 0 || s.rf CMX_PCIE_STATUS_MSIX_EN = 0

/-- Send the vector of source `u`, or set its pending bit while it is masked (R397). -/
def sendVector (u : Nat) (s : State) : State :=
  if s.rf (CMX_INT_ROUTE_MSIX_EN u) = 0 then s
  else
    let v := s.rf (CMX_INT_ROUTE_VECTOR u)
    if vectorMasked s v then
      s.setReg (CMX_MSIX_PBA (v / 32)) (s.reg (CMX_MSIX_PBA (v / 32)) ||| 2 ^ (v % 32))
    else s.emit (.msix v)

/-- Run `f` and send the vector of source `u` if the source became pending from not pending (R397). -/
def withIrq (u : Nat) (f : State → State) (s : State) : State :=
  let t := f s
  if !intPending s u && intPending t u then sendVector u t else t

/-! ### Events (R14, R15, R439, R442) -/

/-- The log record of an event as it stands in the queue; its record number is given when it is written (R439). -/
def mkRec (s : State) (e : Ev) (a0 a1 : Nat) : LogRec :=
  { code := e.code, sev := e.sev.num
    idxValid := s.rf MER_STATE_IDX_VALID = 1
    todValid := s.rf TIM_STATE_NAMED = 1
    recno := 0
    index := if s.rf MER_STATE_IDX_VALID = 1 then s.mer.idx else 0
    tod := s.tim.tod
    arg0 := a0 % 2 ^ 32, arg1 := a1 % 2 ^ 32 }

/-- The queue with its newest NOTE taken out, if it holds one. -/
def dropNewestNote (q : List LogRec) : Option (List LogRec) :=
  match findIdx? (fun r => r.sev = 0) q.reverse with
  | some i => some ((q.reverse.eraseIdx i).reverse)
  | none => none

/-- Put a record into the log queue of 4,096 records; a record that finds it full displaces the newest queued NOTE if it
is WARN or above, and is dropped and counted otherwise (R439). -/
def queueRec (r : LogRec) (s : State) : State :=
  if s.hlt.logQ.length < 4096 then { s with hlt := { s.hlt with logQ := s.hlt.logQ ++ [r] } }
  else
    let lost (t : State) : State :=
      { (t.wf HLT_LOG_LOST_DROPPED (min (t.rf HLT_LOG_LOST_DROPPED + 1) 0xFFFF)) with
        hlt := { t.hlt with logLossOpen := true } }
    if r.sev = 0 then lost s
    else
      match dropNewestNote s.hlt.logQ with
      | some q => lost { s with hlt := { s.hlt with logQ := q ++ [r] } }
      | none => lost s

/-- Count an occurrence of an event code in every armed entry of the armed-action table that names it; an entry that
reaches its count becomes due (R442). -/
def countAat (code : Nat) (s : State) : State :=
  foldS (fun e t =>
    if t.rf (HLT_AAT_MATCH_EN e) = 1 && t.rf (HLT_AAT_MATCH_CODE e) = code && !(t.hlt.aatDue.contains e) then
      let n := sget 0 t.hlt.aatCount e + 1
      let t := { t with hlt := { t.hlt with aatCount := sset 0 t.hlt.aatCount e n } }
      if n = t.rf (HLT_AAT_MATCH_COUNT e) then { t with hlt := { t.hlt with aatDue := t.hlt.aatDue ++ [e] } } else t
    else t) (List.range 32) s

/-- Raise event `e` with its two argument words: set its bit of UNIT_EVENT, send its interrupt, count it in the
armed-action table and queue its log record if its severity reaches `UNIT_BASIC.MIN_SEV` of HLT. -/
def raise (e : Ev) (a0 a1 : Nat) (s : State) : State :=
  let u := e.code / 256
  let b := e.code % 256 - 1
  let r := mkRec s e a0 a1
  let s := withIrq u (fun t => t.setReg (UNIT_EVENT u) (t.reg (UNIT_EVENT u) ||| 2 ^ b)) s
  let s := countAat e.code s
  if s.rf HLT_BASIC_MIN_SEV ≤ e.sev.num then queueRec r s else s

/-- Log an event of unit `u` that has no code in the unit's event table: its record carries a free code, and no UNIT_EVENT bit
is set (log entry 4). -/
def logOpen (u k : Nat) (sev : Sev) (a0 a1 : Nat) (s : State) : State :=
  let e : Ev := ⟨(Config.openEventCode u k).toNat, sev⟩
  if s.rf HLT_BASIC_MIN_SEV ≤ sev.num then queueRec (mkRec s e a0 a1) s else s

/-! ### Answers of a unit to a write -/

/-- A unit's answer to a write or command: accepted, or refused with no effect but its event. -/
structure WOut where
  ok : Bool
  st : State
  deriving DecidableEq, Repr

/-- Accept. -/
def acc (s : State) : WOut := ⟨true, s⟩

/-- Refuse with the unit's CFG_REFUSED and the two argument words that its event table gives. -/
def refuse (u a0 a1 : Nat) (s : State) : WOut := ⟨false, raise (cfgRefusedEv u) a0 a1 s⟩

/-! The causes of Table 0.9 (R486). -/
def cRANGE : Nat := 1
def cMODE : Nat := 2
def cSTATE : Nat := 3
def cINUSE : Nat := 4
def cCONFLICT : Nat := 5
def cCAPACITY : Nat := 6
def cPROTECTED : Nat := 7

/-- The host's bits of a register stored: the rw bits take the written value, the others stay (R9, R10). -/
def storeBits (a wmask v : Nat) (s : State) : State :=
  let old := s.reg a
  s.setReg a ((old - (old &&& wmask)) + (v &&& wmask))

/-- What the register at `a` would hold after a host write of `v`. -/
def merged (s : State) (a wmask v : Nat) : Nat :=
  let old := s.reg a
  (old - (old &&& wmask)) + (v &&& wmask)

end Sys2Proof.Machine
end

