-- ==== Sys2Proof/Machine/Frames.lean ====
section
/-!
DEFINITION. Frames and waymarks as every unit reads them: header checks (R33, R35, R39), payload layout (R36, R37),
sample formats (R38), scopes (R50, R489), twin generations (R48) and the order of waymarks (R56).
-/

namespace Sys2Proof.Machine

/-! Frame kinds (Table 2.2). -/
def kTIME : Nat := 1
def kSPEC : Nat := 2
def kVIS : Nat := 3
def kBEAM : Nat := 4
def kSERIES : Nat := 5
def kLEGEND : Nat := 6
def kMARK : Nat := 7
def kCTRL : Nat := 8
def kTWIN : Nat := 9

/-! Sample formats (Table 2.3). -/
def fI16 : Nat := 0
def fR8x2 : Nat := 1
def fC8 : Nat := 2
def fC4x2 : Nat := 3
def fH16 : Nat := 4
def fCH16 : Nat := 5
def fCI16 : Nat := 6
def fCF32 : Nat := 7
def fCI32 : Nat := 8
def fF32P : Nat := 9

/-- Words of one element of a format (Table 2.3); the packed formats hold two elements in one word. -/
def fmtWords (f : Nat) : Nat :=
  match f with
  | 5 => 2 | 6 => 2 | 7 => 4 | 8 => 4 | 9 => 2 | _ => 1

/-- Is the format one of the packed ones? -/
def fmtPacked (f : Nat) : Bool := f = 1 || f = 3

/-- The bytes of a void map: bit i of byte i / 8 stands for stream FIRST_STREAM + i (R36). -/
def bitsToBytes : Nat → List Bool → List Byte
  | 0, _ => []
  | n + 1, l =>
    BitVec.ofNat 8 ((List.range 8).foldl (fun a i => a + b2n (l.getD i false) * 2 ^ i) 0) :: bitsToBytes n (l.drop 8)

end Sys2Proof.Machine

namespace Sys2Proof
open Sys2Proof.Machine

/-- Flag bits of a frame (Table 2.4). -/
def Frame.isVoid (f : Frame) : Bool := bit f.flags 0
def Frame.hasVmap (f : Frame) : Bool := bit f.flags 1

/-- Elements in the sample area of a full frame (R39). -/
def Frame.elements (f : Frame) : Nat :=
  if f.kind = kTIME || f.kind = kSERIES then f.streamCount * 256 else f.streamCount * f.chanCount

/-- Size of the sample area in 16-bit words (R39): TIME, SERIES, SPEC and BEAM by the formula; MARK and CTRL have none;
the payload of the other kinds is given in bytes. -/
def Frame.sampleWords (f : Frame) : Nat :=
  if f.isVoid then 0
  else if f.kind = kTIME || f.kind = kSERIES || f.kind = kSPEC || f.kind = kBEAM then
    (if fmtPacked f.format then f.elements / 2 else fmtWords f.format * f.elements)
  else f.samples.length

/-- Size of the padded void map in bytes (R36). -/
def Frame.vmapBytes (f : Frame) : Nat := if f.hasVmap then ceilTo (ceilDiv f.streamCount 8) 8 else 0

/-- The length that PAYLOAD_LEN must state (R39). -/
def Frame.payloadWant (f : Frame) : Nat :=
  16 * f.waymarkCount + f.vmapBytes + 2 * f.sampleWords + f.body.length

/-- The checks of R39. -/
def Frame.lengthOk (f : Frame) : Bool :=
  decide (f.waymarkCount ≤ 32) && decide (f.payloadLen = f.payloadWant) && decide (f.payloadLen ≤ 8192)

/-- The checks of R33 against the generation negotiated on the link. -/
def Frame.headerOk (f : Frame) (gen : Nat) : Bool :=
  decide (f.hdrVer = 1) && decide (1 ≤ f.kind) && decide (f.kind ≤ 9) && decide (f.format ≤ 9)
    && !(f.isVoid && f.hasVmap) && decide (f.protoGen = gen)

/-- The 16 bytes of a waymark (R49, Table 2.6). -/
def Waymark.bytes (w : Waymark) : List Byte :=
  leBytes 1 w.kind ++ leBytes 1 w.flags ++ leBytes 2 w.scope ++ leBytes 8 w.anchor ++ leBytes 4 w.arg

/-- The payload's bytes in order: waymark area, void map, sample area (R36). -/
def Frame.payload (f : Frame) : List Byte :=
  f.waymarks.flatMap Waymark.bytes ++ (if f.hasVmap then bitsToBytes f.vmapBytes f.voidMap else [])
    ++ f.samples.flatMap (fun h => leBytes 2 h.toNat) ++ f.body

/-- The 32 header bytes (R32, Table 2.1); reserved bits zero. -/
def Frame.header (f : Frame) : List Byte :=
  leBytes 1 (f.protoGen % 16 + 16 * (f.hdrVer % 16)) ++ leBytes 1 f.kind ++ leBytes 1 (f.srcChip % 64)
    ++ leBytes 1 (f.format % 16 + 16 * (f.twinGen % 16)) ++ leBytes 2 f.flags ++ leBytes 2 f.seq
    ++ leBytes 2 f.firstStream ++ leBytes 2 f.streamCount ++ leBytes 2 f.firstChan ++ leBytes 2 f.chanCount
    ++ leBytes 8 f.index ++ leBytes 2 f.payloadLen ++ leBytes 1 f.waymarkCount ++ leBytes 1 f.arithGen
    ++ leBytes 2 f.aux ++ leBytes 2 0

/-- A frame as the part sends it: waymark count and payload length filled in (R39). -/
def Frame.sealed (f : Frame) : Frame :=
  let f := { f with waymarkCount := f.waymarks.length }
  { f with payloadLen := 16 * f.waymarkCount + f.vmapBytes + 2 * f.samples.length + f.body.length }

/-- An empty frame of a kind. -/
def Frame.blank (kind : Nat) : Frame :=
  { protoGen := 0, hdrVer := 1, kind := kind, srcChip := 0, format := 0, twinGen := 0, flags := 0, seq := 0,
    firstStream := 0, streamCount := 0, firstChan := 0, chanCount := 0, index := 0, payloadLen := 0, waymarkCount := 0,
    arithGen := 0, aux := 0, waymarks := [], voidMap := [], samples := [], body := [] }

/-- Is stream or beam `i` of the frame void, by the VOID flag or by the void map? -/
def Frame.voidAt (f : Frame) (i : Nat) : Bool := f.isVoid || (f.hasVmap && f.voidMap.getD i false)

end Sys2Proof

namespace Sys2Proof.Machine

/-- Element `n` of a format from its words: real and imaginary parts as integers (R37, R38); a real format has
imaginary part zero. The binary formats give their encodings. -/
def elemOf (fmt : Nat) (ws : List Half) (n : Nat) : Int × Int :=
  let w (i : Nat) : Nat := (ws.getD i 0#16).toNat
  match fmt with
  | 0 => (sext 16 (w n), 0)
  | 1 => (sext 8 (bits (w (n / 2)) (8 * (n % 2)) 8), 0)
  | 2 => (sext 8 (bits (w n) 0 8), sext 8 (bits (w n) 8 8))
  | 3 => (sext 4 (bits (w (n / 2)) (8 * (n % 2)) 4), sext 4 (bits (w (n / 2)) (8 * (n % 2) + 4) 4))
  | 4 => (w n, 0)
  | 5 => (w (2 * n), w (2 * n + 1))
  | 6 => (sext 16 (w (2 * n)), sext 16 (w (2 * n + 1)))
  | 7 => (w (4 * n) + 65536 * w (4 * n + 1), w (4 * n + 2) + 65536 * w (4 * n + 3))
  | 8 => (sext 32 (w (4 * n) + 65536 * w (4 * n + 1)), sext 32 (w (4 * n + 2) + 65536 * w (4 * n + 3)))
  | _ => (w (2 * n) + 65536 * w (2 * n + 1), 0)

/-- The words of a list of elements in a format (R37, R38). -/
def packElems (fmt : Nat) : List (Int × Int) → List Half
  | [] => []
  | (r, i) :: t =>
    let h (w : Nat) (z : Int) : Half := BitVec.ofNat 16 (toU w z)
    match fmt with
    | 0 => h 16 r :: packElems fmt t
    | 1 =>
      match t with
      | [] => [h 8 r]
      | (r2, _) :: t2 => BitVec.ofNat 16 (toU 8 r + 256 * toU 8 r2) :: packElems fmt t2
    | 2 => BitVec.ofNat 16 (toU 8 r + 256 * toU 8 i) :: packElems fmt t
    | 3 =>
      match t with
      | [] => [BitVec.ofNat 16 (toU 4 r + 16 * toU 4 i)]
      | (r2, i2) :: t2 =>
        BitVec.ofNat 16 (toU 4 r + 16 * toU 4 i + 256 * toU 4 r2 + 4096 * toU 4 i2) :: packElems fmt t2
    | 4 => h 16 r :: packElems fmt t
    | 5 => h 16 r :: h 16 i :: packElems fmt t
    | 6 => h 16 r :: h 16 i :: packElems fmt t
    | 9 => BitVec.ofNat 16 (toU 32 r % 65536) :: BitVec.ofNat 16 (toU 32 r / 65536) :: packElems fmt t
    | _ =>
      BitVec.ofNat 16 (toU 32 r % 65536) :: BitVec.ofNat 16 (toU 32 r / 65536)
        :: BitVec.ofNat 16 (toU 32 i % 65536) :: BitVec.ofNat 16 (toU 32 i / 65536) :: packElems fmt t

/-! ### Waymarks -/

/-! Waymark kinds (Table 2.8). -/
def wEPOCH : Nat := 1
def wDUMP : Nat := 2
def wFLUSH : Nat := 3
def wGAIN : Nat := 4
def wWSWAP : Nat := 5
def wHALT : Nat := 6
def wRESUME : Nat := 7
def wVOIDRUN : Nat := 8
def wTRIG : Nat := 9
def wTWIN : Nat := 10
def wGEN : Nat := 11
def wMODEL : Nat := 12
def wCAL : Nat := 13
def wSTEP : Nat := 14
def wPROBE : Nat := 15

/-- Control-class kinds travel in CTRL frames (Table 2.8). -/
def waymarkControl (kind : Nat) : Bool := kind = wFLUSH || kind = wHALT || kind = wRESUME || kind = wGEN

/-- Place of a kind in the order of R56. -/
def waymarkRank (kind : Nat) : Nat :=
  match kind with
  | 1 => 0 | 11 => 1 | 12 => 2 | 13 => 3 | 4 => 4 | 5 => 5 | 8 => 6 | 2 => 7 | 3 => 8 | 7 => 9 | 6 => 10 | 9 => 11
  | 10 => 12 | 14 => 13 | _ => 14

/-- Scope type and value (R50). -/
def scopeType (s : Nat) : Nat := bits s 12 4
def scopeValue (s : Nat) : Nat := bits s 0 12

/-- Is the scope a legal one (R50)? -/
def scopeOk (s : Nat) : Bool :=
  (scopeType s = 0 && scopeValue s = 0) || scopeType s = 1 || scopeType s = 2

/-- Kind and scope are not reserved (R50, R52). -/
def waymarkOk (w : Waymark) : Bool := decide (1 ≤ w.kind) && decide (w.kind ≤ 15) && scopeOk w.scope

/-- Is twin generation `a` newer than `b` (R48)? -/
def twinNewer (a b : Nat) : Bool := let d := (a + 16 - b % 16) % 16; decide (1 ≤ d) && decide (d ≤ 7)

/-- The stream group of a stream identity (R50). -/
def streamGroup (id : Nat) : Nat := id / 16

/-! ### Twin signatures (R433) -/

/-- Add a unit to a twin signature; `c` is 4095 where the element gives no channel. -/
def sigAdd (n c p src : Nat) (bs : List Byte) (exempt : Bool) (s : State) : State :=
  if s.rf HLT_BASIC_TWIN_EN = 0 then s
  else
    let k := ((n * 4096 + c) * 16 + p) * 4 + src
    let x := sget SigSum.blank s.acc.sigs k
    let y : SigSum := ⟨(x.sum + crc crc64XZ bs) % 2 ^ 64, x.count + 1, x.exempt || exempt⟩
    { s with acc := { s.acc with sigs := sset SigSum.blank s.acc.sigs k y } }

end Sys2Proof.Machine
end

