-- ==== Sys2Proof/Machine/Lanes.lean ====
section
/-!
DEFINITION. Lanes (LNS) and framing (FRM): octet roles, training, electrical idle, check engines, flows and their
plausibility, sending frames on lanes and ports (chapter 3, R33, R39, R46 to R48, R330, R331, R464).
-/

namespace Sys2Proof.Machine

/-! ### Lanes -/

/-- State codes of `LNS_LANE_STATUS.STATE` (Table 3.10). -/
def lDISABLED : Nat := 0
def lTRAIN : Nat := 1
def lACTIVE : Nat := 2
def lIDLE : Nat := 3
def lENTERING : Nat := 4
def lEXITING : Nat := 5
def lFAULT : Nat := 6

def State.lane (s : State) (n : Nat) : LaneSt := sget LaneSt.blank s.lns.lanes n

/-- The one STATE of a lane: its entry or exit while one runs, IDLE while either direction is idle, otherwise the
receiver's (DEDUCED, log entry 10). -/
def laneCode (l : LaneSt) : Nat :=
  if l.tx = lENTERING || l.tx = lEXITING then l.tx
  else if l.tx = lIDLE || l.rx = lIDLE then lIDLE else l.rx

/-- `s` with lane `n` as given, and its STATE field following. -/
def State.setLane (s : State) (n : Nat) (l : LaneSt) : State :=
  State.wf { s with lns := { s.lns with lanes := sset LaneSt.blank s.lns.lanes n l } } (LNS_LANE_STATUS_STATE n) (laneCode l)

/-- A direction that is IDLE or DISABLED. -/
def dirQuiet (c : Nat) : Bool := c = lIDLE || c = lDISABLED

/-- Both directions of the lane are idle or disabled. -/
def laneQuiet (s : State) (n : Nat) : Bool := dirQuiet (s.lane n).tx && dirQuiet (s.lane n).rx

def octetLanes (k : Nat) : List Nat := rangeFrom (8 * k) 8
def octetRole (s : State) (k : Nat) : Nat := s.rf (LNS_OCTET_ROLE_ROLE k)
def octetEnabled (s : State) (k : Nat) : Bool := bit (s.rf LNS_BASIC_OCTET_EN) k

/-! Octet roles (Table 3.1). -/
def roOFF : Nat := 0
def roINGRESS : Nat := 1
def roGRATICULE : Nat := 2
def roOUTPUT : Nat := 3
def roTWIN : Nat := 4

/-- Is role `r` permitted on octet `k` (Table 3.1)? -/
def rolePermitted (k r : Nat) : Bool :=
  r = roOFF || ((r = roINGRESS || r = roGRATICULE) && decide (k ≤ 9)) || ((r = roOUTPUT || r = roTWIN) && decide (10 ≤ k))

/-! ### Check engines (R77 to R80) -/

/-- The shadow of lane `n`'s engine. -/
def ckShadow (s : State) (n : Nat) : CkUse :=
  { en := s.rf (FRM_CK_CFG_EN n) = 1, width := s.rf (FRM_CK_CFG_WIDTH n)
    poly := s.reg64 (FRM_CK_POLY_LO n) (FRM_CK_POLY_HI n), init := s.reg64 (FRM_CK_INIT_LO n) (FRM_CK_INIT_HI n)
    refin := s.rf (FRM_CK_CFG_REFIN n) = 1, refout := s.rf (FRM_CK_CFG_REFOUT n) = 1
    xorout := s.reg64 (FRM_CK_XOR_LO n) (FRM_CK_XOR_HI n) }

/-- The shadow holds a width of 8 to 64, an odd polynomial and no value bit at or above W (R78). -/
def ckShadowOk (c : CkUse) : Bool :=
  decide (8 ≤ c.width) && decide (c.width ≤ 64) && decide (c.poly % 2 = 1) && decide (c.poly < 2 ^ c.width)
    && decide (c.init < 2 ^ c.width) && decide (c.xorout < 2 ^ c.width)

def ckInUse (s : State) (n : Nat) : CkUse := sget CkUse.blank s.frm.ckUse n

/-- Commit of R78: the shadow becomes the configuration in use. -/
def ckCommit (n : Nat) (s : State) : State :=
  let c := ckShadow s n
  let s := { s with frm := { s.frm with ckUse := sset CkUse.blank s.frm.ckUse n c } }
  (s.wf (FRM_CK_STATUS_IN_USE_EN n) (b2n c.en)).wf (FRM_CK_STATUS_IN_USE_WIDTH n) c.width

/-- A direction is about to leave IDLE or DISABLED: the commit point of R78 if both were quiet. -/
def ckCommitIfQuiet (n : Nat) (s : State) : State := if laneQuiet s n then ckCommit n s else s

def CkUse.cfg (c : CkUse) : CrcCfg := ⟨c.width, c.poly, c.init, c.refin, c.refout, c.xorout⟩

/-- The check value that lane `n` appends or expects; 0 with its engine off. -/
def laneCheck (s : State) (n : Nat) (f : Frame) : Nat :=
  let c := ckInUse s n
  if c.en then crc c.cfg f.payload else 0

/-- The parameters of CK_PRESET codes 0 to 3 (R80). -/
def ckPreset (code : Nat) : CrcCfg :=
  match code with
  | 0 => crc32C
  | 1 => crc32ISO
  | 2 => crc64XZ
  | _ => crc16IBM3740

/-- Load the preset into lane `n`'s shadow, EN left as the host set it (R80). -/
def ckLoadPreset (n : Nat) (s : State) : State :=
  let c := ckPreset (s.rf FRM_BASIC_CK_PRESET)
  let s := ((s.wf (FRM_CK_CFG_REFIN n) (b2n c.refin)).wf (FRM_CK_CFG_REFOUT n) (b2n c.refout)).wf (FRM_CK_CFG_WIDTH n) c.width
  let s := s.setReg64 (FRM_CK_POLY_LO n) (FRM_CK_POLY_HI n) c.poly
  let s := s.setReg64 (FRM_CK_INIT_LO n) (FRM_CK_INIT_HI n) c.init
  let s := s.setReg64 (FRM_CK_XOR_LO n) (FRM_CK_XOR_HI n) c.xorout
  s.wf (FRM_CK_STATUS_PENDING n) 0

/-! ### Sending (R46, R68, R76, R77, R429) -/

/-- Does the part drive its privileged outputs? With TWIN_EN clear always; with it set only while TWIN_ACT is high
(R429). -/
def drivesPrivileged (s : State) : Bool := s.rf HLT_BASIC_TWIN_EN = 0 || s.rf HLT_STATUS_ACT = 1

/-- The next sequence number of a transmit flow on path `p` (an octet, or 16 + a port): `class` 1 for control (R46). -/
def nextSeq (p cls : Nat) (s : State) : Nat × State :=
  let k := 2 * p + cls
  let n := sget 0 s.frm.txSeq k
  (n, { s with frm := { s.frm with txSeq := sset 0 s.frm.txSeq k ((n + 1) % 65536) } })

def frameClass (f : Frame) : Nat := if f.kind = kCTRL then 1 else 0

/-- Put a frame on lane `n` with its check value. -/
def putOnLane (n : Nat) (f : Frame) (s : State) : State :=
  let f := { f with protoGen := ((s.lane n).gen).getD f.protoGen }
  ((s.inc (FRM_CNT_TX_FRAMES n) 1).emit
    (.laneFrame n (s.rf (LNS_LANE_CTRL_LOOPBACK n) = 1) f (laneCheck s n f)))

/-- The lanes among `ls` on which a frame may be placed: transmit side ACTIVE, a generation in use. -/
def sendableLanes (s : State) (ls : List Nat) : List Nat := ls.filter (fun n => (s.lane n).tx = lACTIVE)

/-- Send a frame on one of the lanes `ls`: on the lowest-numbered sendable one, or kept until one is (R68, R76). -/
def sendLanes (ls : List Nat) (f : Frame) (s : State) : State :=
  match sendableLanes s ls with
  | n :: _ => putOnLane n f s
  | [] => { s with frm := { s.frm with waitQ := s.frm.waitQ ++ [(ls, f)] } }

/-- Send the frames that wait for lane `n`, now that it can carry them. -/
def flushWaiting (n : Nat) (s : State) : State :=
  let mine := s.frm.waitQ.filter (fun x => x.1.contains n)
  let rest := s.frm.waitQ.filter (fun x => !(x.1.contains n))
  foldS (fun x t => putOnLane n x.2 t) mine { s with frm := { s.frm with waitQ := rest } }

/-! ### Training, generations and electrical idle -/

/-- The chip identity of this part (R133). -/
def ownChip (s : State) : Nat := s.reg GRT_CHIP

/-- The generation of R464 from two offers: the lower of offers equal or one apart. -/
def agreedGen (own far : Nat) : Option Nat :=
  if far ≤ own + 1 && own ≤ far + 1 then some (min own far) else none

/-- The generation in use is fixed when the lane enters ACTIVE, from the far end's offer; offers two or more apart raise
LINK_GEN_MISMATCH and the lane carries no frames (R464). -/
def fixGen (n : Nat) (s : State) : State :=
  let l := s.lane n
  match l.farOffer with
  | none => s
  | some far =>
    match agreedGen (s.rf TRU_ARITH_PROTO_GEN) far with
    | some g => s.setLane n { l with gen := some g }
    | none => raise EV_TRU_LINK_GEN_MISMATCH n far (s.setLane n { l with gen := none })

/-- Every receive flow of octet `k` begins afresh: its next frame is checked as a first frame (R47). -/
def freshFlows (k : Nat) (s : State) : State :=
  { s with frm := { s.frm with
      flows := s.frm.flows.map (fun x => if x.1 / 8192 = k then (x.1, { x.2 with fresh := true, failed := false, cand := none }) else x) } }

/-- The lane enters ACTIVE in both directions, with block lock. -/
def enterActive (n : Nat) (s : State) : State :=
  let l := s.lane n
  let s := s.setLane n { l with tx := lACTIVE, rx := lACTIVE, retrainUsed := false, sleeps := 0 }
  let s := s.wf (LNS_LANE_STATUS_RX_LOCK n) 1
  flushWaiting n (freshFlows (n / 8) (fixGen n s))

/-- The lane starts training (R63, R85): the commit point of R78 where it was quiet. -/
def startTraining (n : Nat) (s : State) : State :=
  let s := ckCommitIfQuiet n s
  let l := s.lane n
  (s.setLane n { l with tx := lTRAIN, rx := lTRAIN, gen := none, farOffer := none, autoHeld := false }).wf (LNS_LANE_STATUS_RX_LOCK n) 0

/-- The lane goes DISABLED. -/
def disableLane (n : Nat) (s : State) : State :=
  (s.setLane n { (s.lane n) with tx := lDISABLED, rx := lDISABLED, gen := none, farOffer := none, autoHeld := false }).wf
    (LNS_LANE_STATUS_RX_LOCK n) 0

/-- Idle entry (R73): with a frame still in progress the lane is ENTERING until it ends; then four SLEEP blocks and
squelch. -/
def idleEnter (n : Nat) (inProgress auto : Bool) (s : State) : State :=
  let l := s.lane n
  if l.tx ≠ lACTIVE then s
  else if inProgress then s.setLane n { l with tx := lENTERING, autoHeld := auto }
  else (s.setLane n { l with tx := lIDLE, autoHeld := auto }).emit (.sleep n)

/-- An idle entry in progress completes: the SLEEP blocks leave and the driver is squelched. -/
def idleEntryDone (n : Nat) (s : State) : State :=
  let l := s.lane n
  if l.tx = lENTERING then (s.setLane n { l with tx := lIDLE }).emit (.sleep n) else s

/-- The body of a LINKINFO block, sent and counted (R69, Table 3.3). -/
def sendLinkInfo (n : Nat) (s : State) : State :=
  let l := s.lane n
  (s.setLane n { l with liTx := (l.liTx + 1) % 2 ^ 32 }).emit
    (.linkInfo n (s.rf TRU_ARITH_PROTO_GEN) (ownChip s) l.liTx)

/-- The idle exit of Table 3.4: training burst, LINKINFO, and queued frames. -/
def idleExit (n : Nat) (s : State) : State :=
  let l := s.lane n
  if l.tx ≠ lIDLE then s
  else
    let s := ckCommitIfQuiet n s
    let s := (s.setLane n { (s.lane n) with tx := lACTIVE, autoHeld := false }).inc (LNS_CNT_IDLE_EXIT n) 1
    flushWaiting n (sendLinkInfo n (s.emit (.burst n)))

/-- An exit request (R74, R75): during an entry before its first SLEEP block the entry is abandoned, after it the entry
completes and the exit follows. -/
def idleExitRequest (n : Nat) (firstSleepSent : Bool) (s : State) : State :=
  let l := s.lane n
  if l.tx = lENTERING then
    if firstSleepSent then idleExit n (idleEntryDone n s)
    else s.setLane n { l with tx := lACTIVE, autoHeld := false }
  else idleExit n s

/-- Report a low eye (R84). -/
def checkEye (n : Nat) (s : State) : State :=
  let m := s.rf (LNS_LANE_CTRL_EYE_MIN n)
  let h := s.rf (LNS_EYE_HEIGHT n)
  if m ≠ 0 && decide (h < m) then raise EV_LNS_EYE_LOW n h s else s

/-- Peaking adaptation (R66): all 16 settings tried, the one of greatest eye height kept, ties to the lower. -/
def bestSetting (hs : List (BitVec 8)) : Nat :=
  (rangeFrom 1 15).foldl (fun b k => if (hs.getD b 0#8).toNat < (hs.getD k 0#8).toNat then k else b) 0

def adaptLane (n : Nat) (hs : List (BitVec 8)) (s : State) : State :=
  let b := bestSetting hs
  checkEye n ((s.wf (LNS_RX_EQ_PEAK n) b).wf (LNS_EYE_HEIGHT n) (hs.getD b 0#8).toNat)

/-! ### Register writes of LNS -/

/-- `UNIT_BASIC`: octets newly enabled train if they have a role, octets newly disabled are DISABLED (R63). -/
def lnsBasicWrite (v : Nat) (s : State) : State :=
  let was := s.rf LNS_BASIC_OCTET_EN
  let s := storeBits (UNIT_BASIC 1) 0x1FFF v s
  foldS (fun k t =>
    if bit v k && !(bit was k) && octetRole t k ≠ roOFF then foldS startTraining (octetLanes k) t
    else if !(bit v k) && bit was k then foldS disableLane (octetLanes k) t else t) (List.range 12) s

/-- `LNS_OCTET_ROLE` of octet `k` (R63). -/
def octetRoleWrite (k v : Nat) (s : State) : WOut :=
  let r := v % 8
  if !(rolePermitted k r) then refuse 1 (0x100 + 4 * k) cRANGE s
  else if !((octetLanes k).all (fun n => laneQuiet s n)) then refuse 1 (0x100 + 4 * k) cSTATE s
  else
    let s := s.setReg (LNS_OCTET_ROLE k) r
    acc (if r = roOFF then foldS disableLane (octetLanes k) s
      else if octetEnabled s k then foldS startTraining (octetLanes k) s else s)

/-- `LNS_TX_FIR` of lane `n` (R65). -/
def txFirWrite (n v : Nat) (s : State) : WOut :=
  let pre := bits v 0 4
  let post := bits v 8 4
  if 10 < pre || 12 < post || 16 < pre + post then refuse 1 (0x100C + 0x40 * n) cRANGE s
  else acc (storeBits (LNS_TX_FIR n) 0xF0F v s)

/-- `LNS_LANE_CTRL` of lane `n`: idle entry or exit on a change of IDLE, RETRAIN, and ADAPT in CALIBRATE (R66, R73, R74,
R85). `inProgress` and `firstSleepSent` say where the sender stands; `hs` are the eye heights of the 16 settings. -/
def laneCtrlWrite (n v : Nat) (inProgress firstSleepSent : Bool) (hs : List (BitVec 8)) (s : State) : WOut :=
  if bit v 2 && s.mode ≠ mCALIBRATE then refuse 1 (0x1000 + 0x40 * n) cMODE s
  else
    let was := s.rf (LNS_LANE_CTRL_IDLE n)
    let s := storeBits (LNS_LANE_CTRL n) 0xFF09 v s
    let s := if was = 0 && bit v 0 then idleEnter n inProgress false s
      else if was = 1 && !(bit v 0) then idleExitRequest n firstSleepSent s else s
    let s := if bit v 1 && (s.lane n).rx ≠ lDISABLED then startTraining n s else s
    acc (if bit v 2 then adaptLane n hs s else s)

/-- The counters of lane `n` in LNS. -/
def lnsCounters (n : Nat) : List Nat :=
  [LNS_CNT_BLOCK_ERR n, LNS_CNT_LOCK_LOSS n, LNS_CNT_IDLE_EXIT n, LNS_CNT_RELOCK_FAIL n]

/-- `LNS_CNT_CLEAR` (R86). -/
def lnsCntClear (v : Nat) (s : State) : State :=
  if bit v 7 then foldS (fun n t => t.zero (lnsCounters n)) (List.range 96) s
  else if v % 128 < 96 then s.zero (lnsCounters (v % 128)) else s

/-- The unit's status: octets with every lane ACTIVE or IDLE (Table 3.10). -/
def lnsStatus (s : State) : Nat :=
  (List.range 12).foldl (fun a k =>
    a + b2n ((octetLanes k).all (fun n => laneCode (s.lane n) = lACTIVE || laneCode (s.lane n) = lIDLE)) * 2 ^ k) 0

/-! ### Register writes of FRM -/

/-- `UNIT_BASIC.CK_PRESET` of FRM (R80): lanes already idle load at once, the others are marked PENDING. -/
def ckPresetWrite (v : Nat) (s : State) : WOut :=
  let c := v % 8
  if 5 ≤ c then refuse 2 0x18 cRANGE s
  else
    let s := s.setReg (UNIT_BASIC 2) c
    if c = 4 then acc (foldS (fun n t => t.wf (FRM_CK_STATUS_PENDING n) 0) (List.range 96) s)
    else acc (foldS (fun n t => if laneQuiet t n then ckLoadPreset n t else t.wf (FRM_CK_STATUS_PENDING n) 1) (List.range 96) s)

/-- A write of word `w` (0 to 6) of lane `n`'s engine shadow (R78). -/
def ckShadowWrite (n w v : Nat) (s : State) : WOut :=
  let o := 0x1000 + 0x20 * n + 4 * w
  let t := storeBits (0x2000000 + o) (if w = 0 then 0x7F07 else 0xFFFFFFFF) v s
  if !(laneQuiet s n) || !(ckShadowOk (ckShadow t n)) then ⟨false, raise EV_FRM_CK_CFG_REFUSED n o s⟩ else acc t

/-- `FRM_PORT_CFG` of port `p` (R83). -/
def portCfgWrite (p v : Nat) (s : State) : WOut :=
  let m := bits v 16 14
  if m < 1518 || 9216 < m then refuse 2 (0x5000 + 0x100 * p) cRANGE s
  else acc (storeBits (FRM_PORT_CFG p) 0x3FFF001F v s)

def frmLaneCounters (n : Nat) : List Nat :=
  [FRM_CNT_RX_FRAMES n, FRM_CNT_TX_FRAMES n, FRM_CNT_CK_FAIL n, FRM_CNT_DISCARD n, FRM_CNT_OVERRUN n,
   FRM_CNT_FEC_CORR n, FRM_CNT_FEC_UNCORR n]

def frmPortCounters (p : Nat) : List Nat :=
  [FRM_PORT_CNT_TX p, FRM_PORT_CNT_RX p, FRM_PORT_CNT_FCS p, FRM_PORT_CNT_DROP p]

/-- `FRM_CNT_CLEAR`: [7] every lane and octet, [8] every port, [6:0] one lane when both are clear (R86, Table 3.11). -/
def frmCntClear (v : Nat) (s : State) : State :=
  let s := if bit v 7 then
      foldS (fun n t => t.zero (frmLaneCounters n)) (List.range 96) (s.zero ((List.range 12).map FRM_CNT_SEQ_LOST))
    else s
  let s := if bit v 8 then foldS (fun p t => t.zero (frmPortCounters p)) (List.range 8) s else s
  if !(bit v 7) && !(bit v 8) && decide (v % 128 < 96) then s.zero (frmLaneCounters (v % 128)) else s

/-! ### Output ports (R81 to R83, R223) -/

/-- The lanes of port `p` at its octet's speed; empty where the port does not exist (R82). -/
def portLanes (s : State) (p : Nat) : List Nat :=
  let k := 10 + p / 4
  let q := p % 4
  match s.rf (FRM_ETH_OCTET_SPEED (p / 4)) with
  | 1 => rangeFrom (8 * k + 2 * q) 2
  | 2 => if q = 0 || q = 2 then rangeFrom (8 * k + 2 * q) 4 else []
  | 3 => if q = 0 then rangeFrom (8 * k) 8 else []
  | _ => []

/-- Can port `p` send: enabled, its octet in the OUTPUT role, and every one of its lanes ACTIVE (R76, R82)? -/
def portCanSend (s : State) (p : Nat) : Bool :=
  s.rf (FRM_PORT_CFG_EN p) = 1 && octetRole s (10 + p / 4) = roOUTPUT && !(portLanes s p).isEmpty
    && (portLanes s p).all (fun n => (s.lane n).tx = lACTIVE && s.rf (LNS_LANE_CTRL_IDLE n) = 0)

/-- Width in bytes of the check value of port `p`'s packets: that of the engine of its lowest lane, with CK_EN (R82, R83). -/
def portCheckBytes (s : State) (p : Nat) : Nat :=
  if s.rf (FRM_PORT_CFG_CK_EN p) = 1 then ceilDiv (ckInUse s ((portLanes s p).headD 0)).width 8 else 0

/-- Length of the Ethernet frame that carries a part frame with `n` payload bytes on port `p` (R83, Table 3.7). -/
def ethLength (s : State) (p n : Nat) : Nat :=
  (if s.rf (FRM_PORT_CFG_VLAN p) = 1 then 18 else 14) + (if s.rf (FRM_PORT_CFG_IPV6 p) = 1 then 40 else 20) + 8
    + 32 + n + portCheckBytes s p + 4

/-- Discard `n` output frames of a port that cannot send (R223). -/
def portDrop (p n : Nat) (s : State) : State := raise EV_FRM_PORT_DROP p n (s.inc (FRM_PORT_CNT_DROP p) n)

/-- The waymarks that wait for the next output frame of port `p` and that a frame of `n` payload bytes with `k` waymarks
can still take: at most 32, within 8,192 payload bytes and within MAX_FRAME (R39, R83, R294). -/
def rideRoom (s : State) (p n k : Nat) : Nat :=
  min (32 - k) (min ((8192 - n) / 16) ((s.rf (FRM_PORT_CFG_MAX_FRAME p) - ethLength s p n) / 16))

/-- Is the waiting waymark `x` one that a frame of plan `pl - 1` (0: of no plan) on port `p` carries? -/
def ridesOn (pl p : Nat) (x : Nat × Waymark) : Bool := x.1 % 8 = p && (x.1 / 8 = 0 || x.1 / 8 = pl)

/-- Send a frame of plan `pl - 1` (0: of no plan) on output port `p` (R83), with the waymarks that wait for it. A part in SHADOW, or one that does not drive
`TWIN_ACT`, discards and counts it (R430); a port that cannot send drops it (R223). -/
def sendPortFor (pl p : Nat) (f : Frame) (s : State) : State :=
  if !(portCanSend s p) then portDrop p 1 s
  else
    let mine := s.frm.ride.filter (ridesOn pl p)
    let k := rideRoom s p f.sealed.payloadLen f.waymarks.length
    let s := { s with frm := { s.frm with ride := s.frm.ride.filter (fun x => !(ridesOn pl p x)) ++ mine.drop k } }
    let (q, s) := nextSeq (16 + p) (frameClass f) s
    let f := { Frame.sealed { f with waymarks := f.waymarks ++ (mine.take k).map (·.2) } with seq := q }
    let s := s.inc (FRM_PORT_CNT_TX p) 1
    if drivesPrivileged s then
      let c := ckInUse s ((portLanes s p).headD 0)
      s.emit (.portFrame p f (if s.rf (FRM_PORT_CFG_CK_EN p) = 1 && c.en then crc c.cfg f.payload else 0)
        (ethLength s p f.payloadLen))
    else s

/-- Send a frame of no plan. -/
def sendPort (p : Nat) (f : Frame) (s : State) : State := sendPortFor 0 p f s

/-! ### Receive buffers (R330, R331) -/

def rxCapacity : Nat := 262144

/-- Set the occupancy of octet `k`'s receive buffer, its LEVEL and PEAK, and raise BUFFER_HIGH as R331 gives. -/
def setRxBytes (k n : Nat) (s : State) : State :=
  let s := { s with cad := { s.cad with rxBytes := sset 0 s.cad.rxBytes k n } }
  let lvl := n * 1000 / rxCapacity
  let s := s.wf (CAD_RXBUF_LEVEL k) lvl
  let s := if s.rf (CAD_RXBUF_PEAK k) < lvl then s.wf (CAD_RXBUF_PEAK k) lvl else s
  let thr := s.reg CAD_RXBUF_HIGH
  let high := sget false s.cad.rxHigh k
  if !high && decide (thr < lvl) then
    raise EV_CAD_BUFFER_HIGH k lvl { s with cad := { s.cad with rxHigh := sset false s.cad.rxHigh k true } }
  else if high && decide (2 * lvl < thr) then { s with cad := { s.cad with rxHigh := sset false s.cad.rxHigh k false } }
  else s

def rxBytesOf (s : State) (k : Nat) : Nat := sget 0 s.cad.rxBytes k
def frameBytes (f : Frame) : Nat := 32 + f.payloadLen

/-- Does the whole frame fit octet `k`'s receive buffer? -/
def rxFits (s : State) (k : Nat) (f : Frame) : Bool := decide (rxBytesOf s k + frameBytes f ≤ rxCapacity)

/-- A frame leaves octet `k`'s receive buffer. -/
def rxRelease (k : Nat) (f : Frame) (s : State) : State := setRxBytes k (rxBytesOf s k - frameBytes f) s

/-! ### Receiving on Vyal lanes (R33, R39, R46, R47, R48, R69, R77, R79) -/

/-- The key of a receive flow: its path (an octet, or 16 + the far chip of a graticule link), its destination chip (0 on
an ingress octet), its class and its source chip (R46, R136). -/
def flowKey (path dest cls src : Nat) : Nat := ((path * 64 + dest) * 2 + cls) * 64 + src
def State.flow (s : State) (k : Nat) : FlowSt := sget FlowSt.blank s.frm.flows k
def State.setFlow (s : State) (k : Nat) (f : FlowSt) : State :=
  { s with frm := { s.frm with flows := sset FlowSt.blank s.frm.flows k f } }

/-- Count a check failure of lane `n`; the sixteenth in a row raises CK_MISMATCH (R77, R79). -/
def ckFail (n : Nat) (s : State) : State :=
  let k := sget 0 s.frm.ckFails n + 1
  let s := (s.inc (FRM_CNT_CK_FAIL n) 1)
  let s := { s with frm := { s.frm with ckFails := sset 0 s.frm.ckFails n k } }
  if k = 16 then raise EV_FRM_CK_MISMATCH n k s else s

def ckGood (n : Nat) (s : State) : State := { s with frm := { s.frm with ckFails := sset 0 s.frm.ckFails n 0 } }

/-- What the lane-level checks make of an arriving frame. -/
inductive RxVerdict where
  /-- The lane carries nothing in its state; the frame is lost. -/
  | lost
  /-- Discarded for its header, length or check value; its grains are voided. -/
  | discard
  /-- Discarded as of an older twin generation. -/
  | old
  | good
  deriving DecidableEq, Repr

/-- The lane-level checks of a frame arriving on lane `n` with check value `chk`: a lane not ACTIVE, or one whose
generation is not fixed, carries no frames (R73, R464); the check value (R77); R33 and R39; R48. -/
def rxLane (n : Nat) (f : Frame) (chk : Nat) (s : State) : RxVerdict × State :=
  let l := s.lane n
  if l.rx = lIDLE then (.lost, s.inc (LNS_CNT_BLOCK_ERR n) 1)
  else if l.rx ≠ lACTIVE then (.lost, s)
  else
    match l.gen with
    | none => (.lost, s)
    | some g =>
      let s := s.inc (FRM_CNT_RX_FRAMES n) 1
      if (ckInUse s n).en && laneCheck s n f ≠ chk then (.discard, ckFail n s)
      else
        let s := ckGood n s
        if !(f.headerOk g) || !f.lengthOk then (.discard, s.inc (FRM_CNT_DISCARD n) 1)
        else
          let newest := sget 0 s.frm.newestTwin f.srcChip
          if newest ≠ 0 && twinNewer (newest - 1) f.twinGen then (.old, s.inc (FRM_CNT_DISCARD n) 1)
          else (.good, { s with frm := { s.frm with newestTwin := sset 0 s.frm.newestTwin f.srcChip (f.twinGen + 1) } })

/-- Queue void grains for the decimators. -/
def queueVoids (first count index n : Nat) (timing : Bool) (s : State) : State :=
  if n = 0 || count = 0 then s
  else { s with dec := { s.dec with inQ := s.dec.inQ ++ [.voids first count index n timing] } }

/-- The enabled decimator slot whose stream identity is `id` (Table 4.4). -/
def slotOfStream (s : State) (id : Nat) : Option Nat :=
  (List.range 256).find? (fun j => s.rf (DEC_STREAM_CFG_EN j) = 1 && s.reg (DEC_STREAM_ID j) = id)

/-- The first three conditions of R47. -/
def plausible3 (fl : FlowSt) (f : Frame) (s : State) : Bool :=
  f.kind = kTIME && (f.format = fI16 || f.format = fR8x2 || f.format = fC8 || f.format = fCI16)
    && (match fl.format with | none => true | some x => decide (x = f.format))
    && (rangeFrom f.firstStream f.streamCount).all (fun id => (slotOfStream s id).isSome)

/-- A gap of `g` frames in a flow of octet `k` from chip `src`: counted, and SEQ_GAP raised (R46). -/
def seqGap (k src g : Nat) (s : State) : State :=
  if g = 0 then s else raise EV_FRM_SEQ_GAP (src % 64 + 256 * k) g (s.inc (FRM_CNT_SEQ_LOST k) g)

/-- Accept a frame of octet `k` into its receive buffer and pass it to the decimators, or discard it for want of space:
RX_OVERRUN, its grains void, its SEQ counted as received (R330). `n` is the lane. -/
def ingressAccept (k n : Nat) (f : Frame) (s : State) : State :=
  if rxFits s k f then
    setRxBytes k (rxBytesOf s k + frameBytes f) { s with dec := { s.dec with inQ := s.dec.inQ ++ [.frame k f] } }
  else
    queueVoids f.firstStream f.streamCount f.index 1 true
      (raise EV_FRM_RX_OVERRUN n f.streamCount (s.inc (FRM_CNT_OVERRUN n) 1))

/-- The flow after frame `f`. -/
def flowAfter (fl : FlowSt) (f : Frame) : FlowSt :=
  { fl with seen := true, seq := (f.seq + 1) % 65536, nextIdx := f.index + 256, format := some f.format,
            first := f.firstStream, count := f.streamCount, fresh := false, failed := false, cand := none }

/-- Grains of the flow from its next INDEX up to `upto`, void (R46, R47). -/
def voidUpTo (fl : FlowSt) (upto : Nat) (s : State) : State :=
  queueVoids fl.first fl.count fl.nextIdx ((upto - fl.nextIdx) / 256) true s

/-- The plausibility checks of R47 on a frame in SEQ order: accepted, or discarded with its expected grains voided. -/
def ingressDeliver (k n : Nat) (f : Frame) (s : State) : State :=
  let key := flowKey k 0 (frameClass f) f.srcChip
  let fl := s.flow key
  let s := if fl.seen then seqGap k f.srcChip ((f.seq + 65536 - fl.seq) % 65536) s else s
  let lose (t : State) : State :=
    let t := t.inc (FRM_CNT_DISCARD n) 1
    t.setFlow key { fl with seen := true, seq := (f.seq + 1) % 65536, nextIdx := fl.nextIdx + 256, failed := true, cand := none }
  let p3 := plausible3 fl f s
  if fl.fresh then
    if p3 then ingressAccept k n f (s.setFlow key (flowAfter fl f)) else s.inc (FRM_CNT_DISCARD n) 1
  else if fl.failed then
    if !p3 then (s.inc (FRM_CNT_DISCARD n) 1).setFlow key { fl with seq := (f.seq + 1) % 65536, cand := none }
    else
      match fl.cand with
      | some c =>
        if f.seq = (c.seq + 1) % 65536 && f.index = c.index + 256 then
          let s := voidUpTo fl c.index s
          ingressAccept k n f (ingressAccept k n c (s.setFlow key (flowAfter fl f)))
        else (s.inc (FRM_CNT_DISCARD n) 1).setFlow key { fl with seq := (f.seq + 1) % 65536, cand := some f }
      | none => s.setFlow key { fl with seq := (f.seq + 1) % 65536, cand := some f }
  else if p3 && f.seq = fl.seq && f.index = fl.nextIdx then ingressAccept k n f (s.setFlow key (flowAfter fl f))
  else queueVoids fl.first fl.count fl.nextIdx 1 true (lose s)

/-- Frames held in a flow's reorder window that are now in order, delivered. -/
def drainHeld (k n key : Nat) : Nat → State → State
  | 0, s => s
  | fuel + 1, s =>
    let fl := s.flow key
    match fl.held.find? (fun f => f.seq = fl.seq) with
    | some f => drainHeld k n key fuel (ingressDeliver k n f (s.setFlow key { fl with held := fl.held.erase f }))
    | none => s

/-- A frame arrives whole on an ingress lane (R47, R69): delivered in SEQ order; one that is ahead of a missing frame is
held for the reorder window. -/
def ingressRx (n : Nat) (f : Frame) (chk : Nat) (s : State) : State :=
  let k := n / 8
  let key := flowKey k 0 (frameClass f) f.srcChip
  match rxLane n f chk s with
  | (.lost, s) => s
  | (.old, s) => s
  | (.discard, s) =>
    let fl := s.flow key
    let s := if f.kind = kTIME then queueVoids f.firstStream f.streamCount f.index 1 true s else s
    if fl.seen && f.seq = fl.seq then s.setFlow key { fl with seq := (f.seq + 1) % 65536, nextIdx := fl.nextIdx + 256 } else s
  | (.good, s) =>
    if f.kind = kMARK || f.kind = kCTRL then
      let fl := s.flow key
      let s := if fl.seen then seqGap k f.srcChip ((f.seq + 65536 - fl.seq) % 65536) s else s
      let s := s.setFlow key { fl with seen := true, seq := (f.seq + 1) % 65536 }
      { s with wm := { s.wm with transit := s.wm.transit ++ f.waymarks.map (fun w => (3, w)) } }
    else
      let fl := s.flow key
      let ahead := (f.seq + 65536 - fl.seq) % 65536
      if fl.seen && !fl.fresh && !fl.failed && ahead ≠ 0 && decide (ahead < 32768) then
        s.setFlow key { fl with held := fl.held ++ [f] }
      else
        let s := ingressDeliver k n f s
        drainHeld k n key ((s.flow key).held.length) s

/-- The held frame of least SEQ distance from the flow's next. -/
def nearestHeld (fl : FlowSt) : Option Frame :=
  fl.held.foldl (fun b f =>
    match b with
    | none => some f
    | some g => if (f.seq + 65536 - fl.seq) % 65536 < (g.seq + 65536 - fl.seq) % 65536 then some f else some g) none

/-- The 2 µs reorder window closes: the missing frames are lost (R46) and the held ones are taken in order (R69). -/
def reorderClose (k n key : Nat) : Nat → State → State
  | 0, s => s
  | fuel + 1, s =>
    let fl := s.flow key
    match nearestHeld fl with
    | some f => reorderClose k n key fuel (ingressDeliver k n f (s.setFlow key { fl with held := fl.held.erase f }))
    | none => s

/-! ### Meanings -/

/-- INGRESS_FRAME_RX -/
def execIngressFrameRx (lane : Fin 96) (f : Frame) (check : Nat) (s : State) : Host.Outcome State Fault Refusal :=
  .next (if octetRole s (lane.val / 8) = roINGRESS then ingressRx lane.val f check s else s)

/-- IDLE_TIMEOUT -/
def execIdleTimeout (lane : Fin 96) (s : State) : Host.Outcome State Fault Refusal :=
  .next (if s.rf LNS_BASIC_AUTO_IDLE = 1 then idleEnter lane.val false true s else s)

/-- AUTO_IDLE_EXIT -/
def execAutoIdleExit (lane : Fin 96) (firstSleepSent : Bool) (s : State) : Host.Outcome State Fault Refusal :=
  .next (if s.rf LNS_BASIC_AUTO_IDLE = 1 && (s.lane lane.val).autoHeld && s.rf (LNS_LANE_CTRL_IDLE lane.val) = 0 then
    idleExitRequest lane.val firstSleepSent s else s)

/-- RELOCK_TIMEOUT -/
def execRelockTimeout (lane : Fin 96) (s : State) : Host.Outcome State Fault Refusal :=
  let s := raise EV_LNS_RELOCK_FAILED lane.val 0 (s.inc (LNS_CNT_RELOCK_FAIL lane.val) 1)
  .next (startTraining lane.val s)

/-- BLOCK_LOCK_LOSS -/
def execBlockLockLoss (lane : Fin 96) (s : State) : Host.Outcome State Fault Refusal :=
  .next (s.wf (LNS_LANE_STATUS_RX_LOCK lane.val) 0)

/-- BLOCK_LOCK_RESTORED -/
def execBlockLockRestored (lane : Fin 96) (s : State) : Host.Outcome State Fault Refusal :=
  .next (checkEye lane.val ((s.wf (LNS_LANE_STATUS_RX_LOCK lane.val) 1).inc (LNS_CNT_LOCK_LOSS lane.val) 1))

/-- REF_LOST -/
def execRefLost (ref : Fin 2) (s : State) : Host.Outcome State Fault Refusal :=
  .next (raise EV_LNS_REF_LOST ref.val 0 (s.setReg LNS_REF_STATUS (setBits (s.reg LNS_REF_STATUS) ref.val 1 0)))

/-- LINKINFO_TX -/
def execLinkinfoTx (lane : Fin 96) (s : State) : Host.Outcome State Fault Refusal :=
  .next (if (s.lane lane.val).tx = lACTIVE then sendLinkInfo lane.val s else s)

/-- SLEEP_RX -/
def execSleepRx (lane : Fin 96) (s : State) : Host.Outcome State Fault Refusal :=
  let l := s.lane lane.val
  .next (if l.rx = lACTIVE then s.setLane lane.val { l with sleeps := 0, rx := lIDLE } else s)

/-- INVALID_BLOCK_RX -/
def execInvalidBlockRx (lane : Fin 96) (s : State) : Host.Outcome State Fault Refusal :=
  .next (s.inc (LNS_CNT_BLOCK_ERR lane.val) 1)

/-- FEC_UNCORR -/
def execFecUncorr (lane : Fin 96) (corrected : Nat) (s : State) : Host.Outcome State Fault Refusal :=
  let n := lane.val
  let s := (s.inc (FRM_CNT_FEC_CORR n) corrected).inc (FRM_CNT_FEC_UNCORR n) 1
  .next (raise EV_FRM_FEC_UNCORR n (s.reg (FRM_CNT_FEC_UNCORR n)) s)

/-- CK_PRESET_LOAD -/
def execCkPresetLoad (lane : Fin 96) (s : State) : Host.Outcome State Fault Refusal :=
  .next (if s.rf (FRM_CK_STATUS_PENDING lane.val) = 1 && laneQuiet s lane.val then ckLoadPreset lane.val s else s)

/-- ETH_FRAME_RX -/
def execEthFrameRx (port : Fin 8) (fcsGood : Bool) (s : State) : Host.Outcome State Fault Refusal :=
  let s := s.inc (FRM_PORT_CNT_RX port.val) 1
  .next (if fcsGood then s else raise EV_FRM_ETH_FCS port.val 0 (s.inc (FRM_PORT_CNT_FCS port.val) 1))

end Sys2Proof.Machine
end

