-- ==== Sys2Proof/Machine/Dec.lean ====
section
/-!
DEFINITION. Front decimators (DEC, chapter 4): slots and their shadows, native and forerunner arithmetic, synchronising
resets, voids at the input, and the waymarks that decimators act on.
-/

namespace Sys2Proof.Machine

/-! ### Scopes at units that work by stream (R489) -/

/-- The streams that plan `tag` declared with its latest STREAM (R273, R489). -/
def planStreams (s : State) (tag : Nat) : Option (Nat × Nat) := (s.svy.decl.find? (fun x => x.1 = tag)).map (·.2)

/-- Does the scope cover stream identity `id`? -/
def scopeCoversStream (s : State) (scope id : Nat) : Bool :=
  match scopeType scope with
  | 0 => true
  | 1 =>
    match planStreams s (scopeValue scope % 16) with
    | some (f, c) => decide (f ≤ id) && decide (id < f + c)
    | none => false
  | 2 => decide (streamGroup id = scopeValue scope)
  | _ => false

/-- Does the scope cover plan `tag`, at a unit that works by plan? -/
def scopeCoversPlan (s : State) (scope tag : Nat) : Bool :=
  match scopeType scope with
  | 0 => true
  | 1 => decide (scopeValue scope % 16 = tag)
  | 2 =>
    match planStreams s tag with
    | some (f, c) => decide (f < 16 * scopeValue scope + 16) && decide (16 * scopeValue scope < f + c)
    | none => false
  | _ => false

/-! ### Slots -/

def State.slot (s : State) (j : Nat) : DecSlot := sget DecSlot.blank s.dec.slots j
def State.setSlot (s : State) (j : Nat) (x : DecSlot) : State :=
  { s with dec := { s.dec with slots := sset DecSlot.blank s.dec.slots j x } }

/-- The shadow of slot `j` (R97). -/
def decShadow (s : State) (j : Nat) : DecUse :=
  { d := s.rf (DEC_STREAM_CFG_DECIM j), n := s.rf (DEC_STREAM_CFG_ORDER j)
    m := if s.rf (DEC_STREAM_CFG_M2 j) = 1 then 2 else 1
    ci16 := s.rf (DEC_STREAM_CFG_OUT_CI16 j) = 1, ncoEn := s.rf (DEC_STREAM_CFG_NCO_EN j) = 1
    fore := s.rf (DEC_STREAM_CFG_FORE j) = 1
    toChn := s.rf (DEC_STREAM_CFG_TO_CHN j) = 1, toTrp := s.rf (DEC_STREAM_CFG_TO_TRP j) = 1
    freq := s.reg64 (DEC_NCO_FREQ_LO j) (DEC_NCO_FREQ_HI j), phase := s.reg (DEC_NCO_PHASE j)
    shift := s.rf (DEC_OUT_SCALE_SHIFT j), gain := s.rf (DEC_OUT_SCALE_GAIN j)
    foreShift := s.reg64 (DEC_FORE_SHIFT_LO j) (DEC_FORE_SHIFT_HI j) }

/-- Slots whose configuration has EN set. -/
def enabledSlots (s : State) : List Nat := (List.range 256).filter (fun j => s.rf (DEC_STREAM_CFG_EN j) = 1)

/-- 2g of a setting (R101). -/
def gdelay2 (u : DecUse) : Nat := if u.d = 1 then 0 else u.n * (u.d * u.m - 1)

/-- Earliest index at or after `a` at which a reset of the slot may take effect: a multiple of 256 D of the new setting
(R97). -/
def resetIndex (s : State) (j a : Nat) : Nat := ceilTo a (256 * s.rf (DEC_STREAM_CFG_DECIM j))

/-- The index at which slot `j`'s pending reset takes effect: anchored now, the first permitted one whose input is not yet
processed (R97). -/
def pendingIndex (s : State) (j a : Nat) : Nat :=
  let p := (s.slot j).pos.getD 0
  if a = nowAnchor then resetIndex s j p else resetIndex s j (max a p)

/-- A synchronising reset of slot `j` at index `i` (R97, R98): the shadow is taken, registers cleared, groups and frames
start afresh, and the settle span begins. -/
def syncReset (j i : Nat) (s : State) : State :=
  let u := decShadow s j
  let x := s.slot j
  let settle := if u.d = 1 then 0 else ceilTo (u.n * u.m) 256
  let s := s.setSlot j { x with
    on := true, use := u, pos := some i, integ := List.replicate u.n (0, 0)
    combs := List.replicate u.n (List.replicate u.m (0, 0)), outIdx := i, outBuf := [], outVoid := false
    settle := settle, lastVoid := none, pendReset := none, pendEnable := false, pendDisable := false, fresh := true }
  (s.wf (DEC_STREAM_STATUS_SETTLED j) 0).setReg (DEC_GDELAY j) (gdelay2 u)

/-- A disabled slot emits nothing and holds no state (R97). -/
def slotOff (j : Nat) (s : State) : State :=
  let x := s.slot j
  (s.setSlot j { DecSlot.blank with halts := x.halts, flushBelow := x.flushBelow }).setReg (DEC_STREAM_STATUS j) 0

/-! ### Arithmetic -/

/-- The mixer (R92, R93). -/
def decMix (u : DecUse) (i : Nat) (x : Int × Int) : Int × Int :=
  if u.ncoEn then
    let p := (u.phase * 2 ^ 32 + u.freq * i) % 2 ^ 48
    let (c, sn) := trig (p / 2 ^ 32)
    (rneShift (x.1 * c + x.2 * sn) 17, rneShift (x.2 * c - x.1 * sn) 17)
  else x

/-- Register width of the CIC (R94, R96). -/
def cicWidth (u : DecUse) : Nat := if u.fore then 48 else 56

/-- The value that stage `k` passes on: shifted under forerunner arithmetic (R96). -/
def stagePass (u : DecUse) (k : Nat) (v : Int) : Int :=
  if u.fore then v / ((2 ^ bits u.foreShift (4 * k) 4 : Nat) : Int) else v

/-- The integrators from stage `k` on one input part pair: the registers after it and the value passed on. -/
def integrate (u : DecUse) : Nat → List (Int × Int) → Int × Int → List (Int × Int) × (Int × Int)
  | _, [], x => ([], x)
  | k, (a, b) :: t, x =>
    let a' := wrapS (cicWidth u) (a + x.1)
    let b' := wrapS (cicWidth u) (b + x.2)
    let (t', y) := integrate u (k + 1) t (stagePass u k a', stagePass u k b')
    ((a', b') :: t', y)

/-- The combs from stage `k`; each delay line holds its inputs newest first. -/
def comb (u : DecUse) : Nat → List (List (Int × Int)) → Int × Int → List (List (Int × Int)) × (Int × Int)
  | _, [], x => ([], x)
  | k, dl :: t, x =>
    let z := dl.getLastD (0, 0)
    let a := wrapS (cicWidth u) (x.1 - z.1)
    let b := wrapS (cicWidth u) (x.2 - z.2)
    let (t', y) := comb u (k + 1) t (stagePass u k a, stagePass u k b)
    ((x :: dl.dropLast) :: t', y)

/-- The output stage on one part: the clamped value and whether it clamped (R95, R96). -/
def decOut (u : DecUse) (c : Int) : Int × Bool :=
  let b := if u.ci16 then 16 else 8
  let v := if u.fore then c / ((2 ^ u.shift : Nat) : Int) else rneShift (c * u.gain) (u.shift + 15)
  let o := satS b v
  (o, decide (o ≠ v))

/-- Input sample `n` of stream `j` of a TIME frame as 16-bit parts (R91); void and unlisted formats give none. -/
def decInput (f : Frame) (j n : Nat) : Option (Int × Int) :=
  if f.voidAt j then none
  else
    let (r, i) := elemOf f.format f.samples (j * 256 + n)
    match f.format with
    | 0 => some (r, 0)
    | 1 => some (256 * r, 0)
    | 2 => some (256 * r, 256 * i)
    | 6 => some (r, i)
    | _ => none

/-- Emit slot `j`'s full output frame: void in the settle span or on void input, else valid (R98, R100). -/
def emitFrame (j : Nat) (s : State) : State :=
  let x := s.slot j
  let void := decide (x.settle ≠ 0) || x.outVoid
  let u := x.use
  let f : Frame := { Frame.blank kTIME with
    protoGen := s.rf TRU_ARITH_PROTO_GEN, srcChip := ownChip s, format := if u.ci16 then fCI16 else fC8
    twinGen := s.rf HLT_TWIN_STATUS_TWIN_GEN, flags := b2n void + 8 * b2n u.fore
    firstStream := s.reg (DEC_STREAM_ID j), streamCount := 1, index := x.outIdx
    arithGen := s.rf TRU_ARITH_IN_FORCE
    samples := if void then [] else packElems (if u.ci16 then fCI16 else fC8) x.outBuf }
  let f := f.sealed
  let s := s.setSlot j { x with
    outIdx := x.outIdx + 256 * u.d, outBuf := [], outVoid := false, settle := x.settle - 256, fresh := false }
  let s := if void then s.inc (DEC_CNT_VOID j) 1 else s.wf (DEC_STREAM_STATUS_SETTLED j) 1
  let t : TimeIn := { slot := j, d := u.d, fresh := x.fresh, f := f }
  let s := if s.mer.epochSeen && u.toChn && s.rf CHN_STATE_STATE ≠ 0 then
    { s with chn := { s.chn with inQ := s.chn.inQ ++ [t] } } else s
  if s.mer.epochSeen && u.toTrp then { s with trp := { s.trp with inQ := s.trp.inQ ++ [t] } } else s

/-- Is input index `i` of the slot voided by a HALT, a VOIDRUN or a FLUSH (R53, R62, R100)? -/
def slotVoids (x : DecSlot) (i : Nat) : Bool :=
  decide (i < x.flushBelow)
    || x.halts.any (fun h => decide (h.1 ≤ i) && (match h.2 with | none => true | some e => decide (i < e)))
    || x.voidRuns.any (fun v => decide (v.1 ≤ i) && decide (i < v.1 + 256 * v.2))

/-- Process input index `i` of slot `j`: its reset if due, then mixer, CIC, output stage and frame (R93 to R98, R100). -/
def decSample (j i : Nat) (v : Option (Int × Int)) (s : State) : State :=
  let x := s.slot j
  let s := match x.pendReset with
    | some a => if pendingIndex s j a = i then syncReset j i s else s
    | none => if x.pendEnable && resetIndex s j i = i then syncReset j i s else s
  let x := s.slot j
  if !x.on || x.pos ≠ some i then s
  else
    let u := x.use
    let v := if slotVoids x i then none else v
    let lastVoid := if v.isNone then some i else x.lastVoid
    let m := decMix u i (v.getD (0, 0))
    let (integ, y) := if u.d = 1 then (x.integ, m) else integrate u 0 x.integ m
    let x := { x with integ := integ, lastVoid := lastVoid, pos := some (i + 1) }
    if (i + 1) % u.d ≠ 0 then s.setSlot j x
    else
      let (combs, c) := if u.d = 1 then (x.combs, m) else comb u u.n x.combs y
      let (o, satR) := decOut u c.1
      let (p, satI) := decOut u c.2
      let dep := match lastVoid with | none => false | some l => decide (i ≤ l + gdelay2 u)
      let x := { x with combs := combs, outBuf := x.outBuf ++ [(o, p)], outVoid := x.outVoid || dep }
      let s := s.setSlot j x
      let k := b2n satR + b2n satI
      let s := if k = 0 then s
        else
          let first := s.reg (DEC_CNT_SAT j) = 0
          let s := s.inc (DEC_CNT_SAT j) k
          if first then raise EV_DEC_SATURATION j x.outIdx s else s
      if x.outBuf.length = 256 then
        let s := emitFrame j s
        if (s.slot j).pendDisable then slotOff j s else s
      else s

/-- `n` samples of slot `j` from index `i`, void ones. -/
def decVoidRun (j : Nat) : Nat → Nat → State → State
  | 0, _, s => s
  | n + 1, i, s => decVoidRun j n (i + 1) (decSample j i none s)

/-- Samples `k` onwards of stream `st` of a frame into slot `j`. -/
def decRun (j : Nat) (f : Frame) (st : Nat) : Nat → Nat → State → State
  | 0, _, s => s
  | n + 1, k, s => decRun j f st n (k + 1) (decSample j (f.index + k) (decInput f st k) s)

/-- Inputs of slot `j` missing before index `i` enter as void. -/
def decCatchUp (j i : Nat) (s : State) : State :=
  match (s.slot j).pos with
  | some p => if (s.slot j).on && decide (p < i) then decVoidRun j (i - p) p s else s
  | none => s

/-! ### Waymarks at the decimators (R53, R54, R62, R97, R100) -/

/-- The next grain boundary the unit reaches: 256-sample grains of input. -/
def decPos (s : State) : Nat := ceilTo (s.dec.slots.foldl (fun a x => max a (x.2.pos.getD 0)) 0) 256

/-- Slots whose stream the scope covers. -/
def slotsInScope (s : State) (scope : Nat) : List Nat :=
  (enabledSlots s).filter (fun j => scopeCoversStream s scope (s.reg (DEC_STREAM_ID j)))

/-- Apply a waymark at the decimators from grain boundary `g`: FLUSH, HALT, RESUME (with a synchronising reset) and
VOIDRUN. The others pass. -/
def decApply (w : Waymark) (g : Nat) (s : State) : State :=
  foldS (fun j t =>
    let x := t.slot j
    match w.kind with
    | 3 => t.setSlot j { x with flushBelow := max x.flushBelow g }
    | 6 => t.setSlot j { x with halts := x.halts ++ [(g, none)] }
    | 7 => t.setSlot j { x with
        halts := x.halts.map (fun h => if h.2.isNone then (h.1, some g) else h), pendReset := some g }
    | 8 => t.setSlot j { x with voidRuns := x.voidRuns ++ [(g, w.arg)] }
    | _ => t) (slotsInScope s w.scope) s

/-! ### Register writes -/

/-- SHIFT and GAIN of R90 for a setting. -/
def decScale (d n m : Nat) (ci16 : Bool) : Nat × Nat :=
  let g := (d * m) ^ n
  let s := if d = 1 then 0 else (if 2 ^ Nat.log2 g = g then Nat.log2 g else Nat.log2 g + 1)
  let gg := if d = 1 then 1 else g
  (s + (if ci16 then 0 else 8), min (rneDiv ((2 ^ (15 + s) : Nat) : Int) gg).toNat 0xFFFF)

/-- `UNIT_BASIC` (R90). -/
def decBasicWrite (v : Nat) (s : State) : WOut :=
  let d := bits v 0 7
  let n := bits v 8 3
  if d < 1 || 64 < d || n < 3 || 5 < n then refuse 3 0 0x18 s
  else
    let m := if bit v 11 then 2 else 1
    let (sh, gn) := decScale d n m (bit v 12)
    acc (foldS (fun j t =>
      (t.setReg (DEC_STREAM_CFG j) (setBits (t.reg (DEC_STREAM_CFG j)) 0 13 (v % 8192 - bits v 7 1 * 128))).setReg
        (DEC_OUT_SCALE j) (sh + 65536 * gn)) (List.range 256) (storeBits (UNIT_BASIC 3) 0x1F7F v s))

/-- Would the enabled slots keep the limits of R89? -/
def decLimitsOk (s : State) : Bool :=
  let es := enabledSlots s
  let ids := es.map (fun j => s.reg (DEC_STREAM_ID j))
  decide (es.length * s.reg MER_FS ≤ 204800000) && decide (ids.Nodup)

/-- A write to slot `j`'s configuration at row offset `d` (R89, R97, R104): checked, stored in the shadow, and an enable
or disable scheduled. -/
def decShadowWrite (d j v mask : Nat) (s : State) : WOut :=
  let a := 0x3000000 + d + 0x40 * j
  let t := storeBits a mask v s
  let cfgBad := d = 0x1000 && (bits v 0 7 < 1 || 64 < bits v 0 7 || bits v 8 3 < 3 || 5 < bits v 8 3)
  if cfgBad || ((d = 0x1000 || d = 0x1004) && !(decLimitsOk t)) then refuse 3 j (d + 0x40 * j) s
  else if d = 0x1000 then
    let was := s.rf (DEC_STREAM_CFG_EN j) = 1
    let now := bit v 31
    let x := t.slot j
    if now && !was then acc (t.setSlot j { x with pendEnable := true, pendReset := if x.on then some nowAnchor else none, pendDisable := false })
    else if was && !now then
      if x.on then (if x.outBuf = [] then acc (slotOff j t) else acc (t.setSlot j { x with pendDisable := true }))
      else acc (t.setSlot j { x with pendEnable := false, pendReset := none })
    else acc t
  else acc t

/-- Schedule a host reset of slot `j` at anchor `a`; an anchor already passed applies at the next permitted index and
raises SYNC_LATE (R97, R99). -/
def syncSchedule (j a : Nat) (s : State) : State :=
  let x := s.slot j
  let late := a ≠ nowAnchor && decide (resetIndex s j a < x.pos.getD 0)
  let t := s.setSlot j { x with pendReset := some a }
  if late then raise EV_DEC_SYNC_LATE j (pendingIndex s j a) t else t

/-- `DEC_SYNC_CTRL` (R97). -/
def decSyncWrite (v : Nat) (s : State) : State :=
  if !(bit v 0) then s
  else
    let a := s.reg64 DEC_SYNC_ANCHOR_LO DEC_SYNC_ANCHOR_HI
    let js := if bit v 1 then (enabledSlots s).filter (fun j => (s.slot j).on) else [bits v 8 8]
    foldS (fun j t => syncSchedule j a t) js s

def decCounters (j : Nat) : List Nat := [DEC_CNT_SAT j, DEC_CNT_VOID j]

/-- `DEC_CNT_CLEAR` (R86). -/
def decCntClear (v : Nat) (s : State) : State :=
  if bit v 8 then foldS (fun j t => t.zero (decCounters j)) (List.range 256) s else s.zero (decCounters (v % 256))

/-- `DEC_STREAM_STATUS` of slot `j` as it reads. -/
def decStatus (s : State) (j : Nat) : Nat :=
  let x := s.slot j
  bits (s.reg (DEC_STREAM_STATUS j)) 0 1 + 2 * b2n (x.on && decide (decShadow s j ≠ x.use))
    + 4 * b2n (x.pendReset.isSome) + 8 * b2n (x.on && x.use.fore)

/-- `UNIT_STATUS` of DEC as it reads. -/
def decUnitStatus (s : State) : Nat :=
  (s.dec.slots.filter (fun x => x.2.on)).length + 512 * b2n (s.dec.slots.any (fun x => x.2.pendReset.isSome))

/-- `DEC_LOAD` as it reads (R89): per mille of 204.8 G input samples per second. -/
def decLoad (s : State) : Nat := (enabledSlots s).length * s.reg MER_FS * 1000 / 204800000

end Sys2Proof.Machine
end

