-- ==== Sys2Proof/Machine/Marks.lean ====
section
/-!
DEFINITION. Waymarks between units: the store of each acting unit (R58), the order of application (R56), and the way from
unit to unit. The path is DEC to CHN and TRP, CHN to GRT, GRT to STG, STG to XAR, XAR to ACC, and ACC to the ports.
-/

namespace Sys2Proof.Machine

/-! Unit numbers (Table 0.3). -/
def uLNS : Nat := 1
def uFRM : Nat := 2
def uDEC : Nat := 3
def uCHN : Nat := 4
def uRSY : Nat := 5
def uGRT : Nat := 6
def uSTG : Nat := 7
def uBRG : Nat := 8
def uXAR : Nat := 9
def uACC : Nat := 10
def uATL : Nat := 11
def uMEM : Nat := 12
def uSVY : Nat := 13
def uCAD : Nat := 14
def uMER : Nat := 15
def uTIM : Nat := 16
def uTRP : Nat := 17
def uCMX : Nat := 18
def uTRU : Nat := 19
def uHLT : Nat := 20

/-- The waymarks that unit `u` holds. -/
def heldBy (s : State) (u : Nat) : List Waymark := sget [] s.wm.held u

def setHeld (u : Nat) (l : List Waymark) (s : State) : State :=
  { s with wm := { s.wm with held := sset [] s.wm.held u l } }

/-- Is waymark `a` applied before `b` (R56)? Earlier anchors first, then the order of kinds. -/
def markBefore (a b : Waymark) : Bool :=
  decide (a.anchor < b.anchor) || (a.anchor = b.anchor && decide (waymarkRank a.kind < waymarkRank b.kind))

/-- Insert after every waymark that is not to follow it, so that equal ones keep their order of arrival. -/
def markInsert (w : Waymark) : List Waymark → List Waymark
  | [] => [w]
  | a :: t => if markBefore w a then w :: a :: t else a :: markInsert w t

/-- The held waymarks of unit `u` due at index `i`, in order of application, and the state without them. -/
def takeDue (u i : Nat) (s : State) : List Waymark × State :=
  let h := heldBy s u
  ((h.filter (fun w => decide (w.anchor ≤ i))).foldl (fun l w => markInsert w l) [],
   setHeld u (h.filter (fun w => decide (i < w.anchor))) s)

/-- Units that a waymark goes to from unit `u`. -/
def marksNext (u : Nat) : List Nat :=
  match u with
  | 3 => [4, 17] | 4 => [6] | 6 => [7] | 7 => [9] | 9 => [10] | 10 => [5] | _ => []

/-- Does a data-class waymark wait for room in the store of unit `u`? The data behind it then waits also (R58). -/
def markBlocked (s : State) (u : Nat) : Bool := s.wm.waiting.any (fun x => x.1 = u)

/-- Send a waymark on from unit `u`. -/
def passMark (u : Nat) (w : Waymark) (s : State) : State :=
  { s with wm := { s.wm with transit := s.wm.transit ++ (marksNext u).map (fun x => (x, w)) } }

/-- The argument words of an event that a waymark causes: reason and host value of a HALT or FLUSH (R53; the reserved
reasons are taken as 0), otherwise the anchor. -/
def markArgs (w : Waymark) : Nat × Nat :=
  if w.kind = wHALT || w.kind = wFLUSH then
    let r := w.arg % 256
    (if 6 ≤ r && r ≤ 0x7F then 0 else r, w.arg / 256)
  else (w.anchor % 2 ^ 32, w.anchor / 2 ^ 32)

/-- The NOTE of FLAGS.ACK (R51): the acting unit has applied the waymark. -/
def ackMark (u : Nat) (w : Waymark) (s : State) : State :=
  if bit w.flags 1 then logOpen u 3 .note (markArgs w).1 (markArgs w).2 s else s

/-- Unit `u` has applied waymark `w`: recorded for WAITMARK (R281), and acknowledged. -/
def noteApplied (u : Nat) (w : Waymark) (s : State) : State :=
  ackMark u w { s with wm := { s.wm with applied := (u, w) :: s.wm.applied } }

/-- Run `f` for each waymark of unit `u` due at index `i`. A data-class waymark goes on to the next units now; a control-class
one went on when it arrived (R60). -/
def applyDue (u i : Nat) (f : Waymark → State → State) (s : State) : State :=
  let (ws, s) := takeDue u i s
  foldS (fun w t =>
    let t := noteApplied u w (f w t)
    if waymarkControl w.kind then t else passMark u w t) ws s

/-- Bring generation `w.arg` into force from the waymark's anchor (R465): refused with GEN_UNSUPPORTED outside the range of the
running image; a running plan that asks for a later generation is reported (R262). -/
def genApply (w : Waymark) (s : State) : State :=
  let g := w.arg % 256
  if g < s.rf TRU_ARITH_MIN || s.rf TRU_ARITH_MAX < g then
    raise EV_TRU_GEN_UNSUPPORTED g (s.rf TRU_ARITH_MIN + 256 * s.rf TRU_ARITH_MAX) s
  else if s.tru.gens.any (fun x => decide (w.anchor ≤ x.1)) then s
  else
    let s := { (s.wf TRU_ARITH_IN_FORCE g) with tru := { s.tru with gens := (w.anchor, g) :: s.tru.gens, stored := g } }
    foldS (fun (x : Nat × SvyCore) t =>
      let own := bits (t.reg (SVY_CORE_HDR x.1 2)) 16 8
      if 2 ≤ x.2.st && x.2.st ≤ 5 && g < own then raise EV_SVY_PLAN_GEN_LOW x.1 (g + 256 * own) t else t) s.svy.cores s

/-- The arithmetic generation in force at sample index `i`. -/
def genAt (s : State) (i : Nat) : Nat :=
  match s.tru.gens.find? (fun x => decide (x.1 ≤ i)) with
  | some x => x.2
  | none => s.tru.genBoot

/-! ### The decimators' input -/

/-- Apply the decimators' held waymarks due at grain boundary `i`. -/
def decDue (i : Nat) (s : State) : State :=
  applyDue uDEC i (fun w t => if w.kind = wGEN then genApply w t else decApply w (ceilTo w.anchor 256) t) s

/-- DEC_INPUT_FRAME -/
def execDecInputFrame (s : State) : Host.Outcome State Fault Refusal :=
  if markBlocked s uDEC then .next s
  else
  match s.dec.inQ with
  | [] => .next s
  | .frame k f :: rest =>
    let s := decDue f.index s
    let s := rxRelease k f { s with dec := { s.dec with inQ := rest } }
    let s := { s with wm := { s.wm with transit := s.wm.transit ++ f.waymarks.map (fun w => (3, w)) } }
    .next (foldS (fun i t =>
      match slotOfStream t (f.firstStream + i) with
      | some j => decRun j f i 256 0 (decCatchUp j f.index t)
      | none => t) (List.range f.streamCount) s)
  | .voids first count index n _ :: rest =>
    let s := decDue index s
    .next (foldS (fun i t =>
      match slotOfStream t (first + i) with
      | some j => decVoidRun j (256 * n) index (decCatchUp j index t)
      | none => t) (List.range count) { s with dec := { s.dec with inQ := rest } })

/-- SYNC_RESET -/
def execSyncReset (slot : Fin 256) (s : State) : Host.Outcome State Fault Refusal :=
  let x := s.slot slot.val
  .next (match x.pendReset with
    | some a => syncReset slot.val (pendingIndex s slot.val a) s
    | none => if x.pendEnable then syncReset slot.val (resetIndex s slot.val (x.pos.getD 0)) s else s)

/-- SLOT_DISABLE -/
def execSlotDisable (slot : Fin 256) (s : State) : Host.Outcome State Fault Refusal :=
  .next (if (s.slot slot.val).pendDisable then slotOff slot.val s else s)


end Sys2Proof.Machine
end

