-- ==== Sys2Proof/Machine/Cad.lean ====
section
/-! DEFINITION. The cadastre (CAD): R320 to R335. -/

namespace Sys2Proof.Machine

/-! ### Shares (R323, R326) -/

def shareFloor (v : Nat) : Nat := bits v 0 11
def shareCeil (v : Nat) : Nat := bits v 16 11
def shareLive (s : State) (c r : Nat) : Nat := s.reg (CAD_SHARE_LIVE c r)
def shareShadow (s : State) (c r : Nat) : Nat := s.reg (CAD_SHARE c r)

/-- The pending table: the live one with the pending entries. -/
def sharePend (s : State) (c r : Nat) : Nat :=
  match s.cad.pend.find? (fun x => x.1 = c * 16 + r) with
  | some x => x.2
  | none => shareLive s c r

/-- The limits of R326 on a table of shares. -/
def sharesOk (s : State) (t : Nat → Nat → Nat) : Bool :=
  let floors (r : Nat) : Nat := ((List.range 16).drop 1).foldl (fun a c => a + shareFloor (t c r)) 0
  (List.range 12).all (fun r => decide (floors r ≤ if r = 9 then 1008 else 1024))
    && decide (((List.range 9).drop 1).foldl (fun a r => a + floors r) 0 ≤ bits (s.reg CAD_HBM_FLOOR_CAP) 0 11)

/-- Every (class, resource) pair of the share table. -/
def sharePairs : List (Nat × Nat) :=
  ((List.range 16).drop 1).flatMap (fun c => (List.range 12).map (fun r => (c, r)))

/-- Set a pending entry. -/
def setPend (c r v : Nat) (s : State) : State :=
  let s := { s with cad := { s.cad with pend := sins s.cad.pend (c * 16 + r) v } }
  s.setReg CAD_STATE (setBits (s.reg CAD_STATE) 0 1 1)

/-- `CAD_CTRL.APPLY`: the shadow becomes the pending table; none where R326 refuses it. -/
def cadApply (s : State) : Option State :=
  if sharesOk s (shareShadow s) then some (foldS (fun (x : Nat × Nat) t => setPend x.1 x.2 (shareShadow t x.1 x.2) t) sharePairs s)
  else none

/-- `BUDGET` (R276, R326): false where the floors would pass their limits. -/
def cadBudget (c r floor ceil : Nat) (s : State) : Bool × State :=
  let v := share floor ceil
  if sharesOk s (fun a b => if a = c && b = r then v else sharePend s a b) then
    (true, setPend c r v (s.setReg (CAD_SHARE c r) v))
  else (false, s)

def cadBasicMask : Nat := 0x7F07

/-- `UNIT_BASIC` (R323). -/
def cadBasicWrite (v : Nat) (s : State) : WOut :=
  let pr := bits v 0 3
  let hyb := bits v 8 7
  if 5 ≤ pr || 80 < hyb then refuse uCAD 0x18 cRANGE s
  else
    let t := storeBits (UNIT_BASIC 14) cadBasicMask v s
    if pr = 0 then acc t
    else
      let t := foldS (fun (x : Nat × Nat) u => u.setReg (CAD_SHARE x.1 x.2) (profileShare pr hyb x.1 x.2)) sharePairs t
      match cadApply t with
      | some t => acc t
      | none => refuse uCAD 0x18 cCONFLICT s

/-- A write of a shadow share (R325, R326). -/
def cadShareWrite (c r v : Nat) (s : State) : WOut :=
  let off := 0x1000 + 0x40 * c + 4 * r
  if 1024 < shareCeil v || shareCeil v < shareFloor v then refuse uCAD off cRANGE s
  else if c = 0 then refuse uCAD off cPROTECTED s
  else acc (storeBits (CAD_SHARE c r) 0x07FF07FF v s)

def cadCtrlWrite (v : Nat) (s : State) : WOut :=
  if bit v 0 then
    match cadApply s with
    | some t => acc t
    | none => refuse uCAD 0x100 cCONFLICT s
  else acc s

/-- Counters, peaks and `CAD_HEADROOM_MIN` (R86). -/
def cadCntClear (v : Nat) (s : State) : State :=
  if bit v 0 then
    let s := s.zero ((List.range 16).flatMap (fun c => [CAD_CNT_MISS c, CAD_CNT_CEIL c]))
    let s := foldS (fun k t => t.wf (CAD_RXBUF_PEAK k) 0) (List.range 12) s
    s.setReg CAD_HEADROOM_MIN 0xFFFF
  else s

/-- Writes of CAD registers that do more than store. -/
def cadWrite (off v : Nat) (s : State) : Option WOut :=
  if off = 0x18 then some (cadBasicWrite v s)
  else if off = 0x100 then some (cadCtrlWrite v s)
  else if off = 0x128 then some (acc (cadCntClear v s))
  else if 0x1000 ≤ off && off < 0x1400 && off % 0x40 < 0x30 then
    some (cadShareWrite ((off - 0x1000) / 0x40) (off % 0x40 / 4) v s)
  else none

/-! ### The budget period (R320, R324, R328, R332, R333) -/

/-- Capacity of a resource per period (Table 13.2), in the unit of a grant; array handshakes for the X-arrays and the active
lanes' bytes for the graticule. -/
def resCap (r lanes : Nat) : Nat :=
  match r with
  | 0 => 80 * 27648 | 9 => 61440 * lanes | 10 => 442368 | 11 => 113246208 | _ => 16777216

/-- Tokens of a floor. -/
def floorUnits (r f lanes : Nat) : Nat := if r = 0 then f * 80 / 1024 * 27648 else f * resCap r lanes / 1024

/-- Active graticule lanes. -/
def grtLanes (s : State) : Nat :=
  ((List.range 96).filter (fun n => octetRole s (n / 8) = roGRATICULE && (s.lane n).tx = lACTIVE)).length

/-- Amount of resource `r` granted to class `c`. -/
def usedOf (us : List Use) (c r : Nat) : Nat :=
  (us.filter (fun u => u.cls.val = c && u.res.val = r)).foldl (fun a u => a + u.amount) 0

/-- The balance that a class starts the next period with: its floor's tokens less any deficit. -/
def refill (us : List Use) (lanes : Nat) (x : Nat × Nat) (s : State) : State :=
  let k := x.1 * 16 + x.2
  let left := sget 0 s.cad.tokens k - (usedOf us x.1 x.2 : Int)
  let b := (floorUnits x.2 (shareFloor (shareLive s x.1 x.2)) lanes : Int) + min 0 left
  { s with cad := { s.cad with tokens := sset 0 s.cad.tokens k b } }

/-- Classes that waited at a ceiling, and classes short of their floor (R328). -/
def periodClass (us : List Use) (lanes c : Nat) (s : State) : State :=
  let mine := us.filter (fun u => u.cls.val = c)
  let ceil := (mine.filter (·.ceiling)).map (·.res.val)
  let short (r : Nat) : Nat := floorUnits r (shareFloor (shareLive s c r)) lanes - usedOf us c r
  let miss := (List.range 12).filter (fun r => mine.any (fun u => u.res.val = r && u.demand) && decide (0 < short r))
  let m (l : List Nat) : Nat := l.foldl (fun a r => a ||| 2 ^ r) 0
  let s := s.setReg (CAD_CLASS_STATUS c) (m ceil + 65536 * m miss)
  let s := if ceil.isEmpty then s else s.inc (CAD_CNT_CEIL c) 1
  let s := if miss.isEmpty then s else s.inc (CAD_CNT_MISS c) 1
  foldS (fun r t =>
    let k := c * 16 + r
    if miss.contains r then
      if sget false t.cad.missed k then t
      else raise EV_CAD_FLOOR_MISS (c + 256 * r) (short r) { t with cad := { t.cad with missed := sset false t.cad.missed k true } }
    else { t with cad := { t.cad with missed := sset false t.cad.missed k false } }) (List.range 12) s

/-- Headroom of the period just over (R332). -/
def periodHeadroom (count : Nat) (s : State) : State :=
  let s := s.setReg CAD_HEADROOM (count + 65536 * toU 16 (((count : Int) - 27648) * 1000 / 27648))
  let s := if count < s.reg CAD_HEADROOM_MIN then s.setReg CAD_HEADROOM_MIN count else s
  let thr := s.reg CAD_HEADROOM_THR
  let low := decide (count < thr) || decide (count < 27648)
  let s := if low && !s.cad.headLow then
      raise { EV_CAD_HEADROOM_LOW with sev := if count < 27648 then .fault else .warn } count thr s
    else s
  let s := s.setReg CAD_STATE (setBits (s.reg CAD_STATE) 1 1 (b2n low))
  { s with cad := { s.cad with headLow := low } }

/-- Utilisation of the period just over (R333). -/
def periodUtil (us : List Use) (count lanes : Nat) (s : State) : State :=
  foldS (fun r t =>
    let used := us.foldl (fun a u => if u.res.val = r then a + u.amount else a) 0
    let cap := match r with | 0 => 80 * count | 10 => 16 * count | 11 => 4096 * count | _ => resCap r lanes
    t.setReg (CAD_UTIL r) (min 1023 (if cap = 0 then 0 else used * 1000 / cap))) (List.range 12) s

/-- A period boundary: the pending table becomes live, the period counts on, and tokens, headroom and utilisation follow. -/
def cadPeriod (count : Nat) (us : List Use) (s : State) : State :=
  let lanes := grtLanes s
  let s := periodUtil us count lanes (periodHeadroom count s)
  let s := foldS (periodClass us lanes) (List.range 16) s
  let misses := (List.range 12).filter (fun r => (List.range 16).any (fun c => bit (s.reg (CAD_CLASS_STATUS c)) (16 + r)))
  let s := s.wf CAD_STATUS_MISS (misses.foldl (fun a r => a ||| 2 ^ r) 0)
  let s := foldS (fun (x : Nat × Nat) t => t.setReg (CAD_SHARE_LIVE (x.1 / 16) (x.1 % 16)) x.2) s.cad.pend s
  let s := { s with cad := { s.cad with pend := [] } }
  let s := s.setReg CAD_STATE (setBits (s.reg CAD_STATE) 0 1 0)
  let s := foldS (refill us lanes) (sharePairs.filter (fun x => x.2 ≠ 0)) s
  s.setReg64 CAD_PERIOD_LO CAD_PERIOD_HI (s.reg64 CAD_PERIOD_LO CAD_PERIOD_HI + 1)

/-! ### Arrays among classes (R324, R327) -/

/-- Arrays that a floor reserves and a ceiling allows. -/
def arrFloor (s : State) (c : Nat) : Nat := shareFloor (shareLive s c 0) * 80 / 1024
def arrCeil (s : State) (c : Nat) : Nat := shareCeil (shareLive s c 0) * 80 / 1024

/-- Is the class real-time (R242)? -/
def classRt (s : State) (c : Nat) : Bool := decide (c ≠ 0) && bit (s.reg CAD_RT) c

/-- The order in which R327 serves the classes of `cs`, `used` giving what each holds, `floor` and `ceil` its limits: class 0, then those below their
floor, then those below their ceiling; real-time classes first, then by the rotating pick. -/
def classOrder (s : State) (cs : List Nat) (used floor ceil : Nat → Nat) : List Nat :=
  let start := s.reg CAD_PERIOD_LO % 16
  let rot := (List.range 16).map (fun i => (start + i) % 16)
  let among (p : Nat → Bool) : List Nat :=
    cs.filter (fun c => p c && classRt s c) ++ rot.filter (fun c => cs.contains c && p c && !(classRt s c))
  cs.filter (· = 0) ++ among (fun c => c ≠ 0 && decide (used c < floor c))
    ++ among (fun c => c ≠ 0 && !(decide (used c < floor c)) && decide (used c < ceil c))

end Sys2Proof.Machine
end

