-- ==== Sys2Proof/Machine/Filter.lean ====
section
/-! DEFINITION. The arithmetic of the polyphase filterbanks: window sums and the exact transforms (R107, R108, R124). -/

namespace Sys2Proof.Machine

/-- One product with a twiddle: `round_half_even((re · C ± im · S) / 2^17)` for both parts; `inv` takes the conjugate. -/
def twiddle (inv : Bool) (k : Nat) (d : Int × Int) : Int × Int :=
  let (c, sn) := trig k
  if inv then (rneShift (d.1 * c - d.2 * sn) 17, rneShift (d.2 * c + d.1 * sn) 17)
  else (rneShift (d.1 * c + d.2 * sn) 17, rneShift (d.2 * c - d.1 * sn) 17)

/-- The differences of a stage, each times its twiddle; `step` is the table index between neighbours. -/
def stageDiffs (inv : Bool) (step : Nat) : Nat → List (Int × Int) → List (Int × Int) → List (Int × Int)
  | j, a :: as, b :: bs => twiddle inv (j * step) (a.1 - b.1, a.2 - b.2) :: stageDiffs inv step (j + 1) as bs
  | _, _, _ => []

/-- The sums of a stage. -/
def stageSums : List (Int × Int) → List (Int × Int) → List (Int × Int)
  | a :: as, b :: bs => (a.1 + b.1, a.2 + b.2) :: stageSums as bs
  | _, _ => []

/-- Even and odd elements of a result. -/
def interleave {α : Type} : List α → List α → List α
  | a :: as, b :: bs => a :: b :: interleave as bs
  | _, _ => []

/-- The radix-2 decimation-in-frequency transform of `2^n` points in the order of R108, result in natural order. The first
half of a stage's output holds the even bins and the second half the odd ones, which is what the bit reversal of R108
gives. -/
def fft (inv : Bool) : Nat → List (Int × Int) → List (Int × Int)
  | 0, z => z
  | n + 1, z =>
    let lo := z.take (2 ^ n)
    let hi := z.drop (2 ^ n)
    interleave (fft inv n (stageSums lo hi)) (fft inv n (stageDiffs inv (65536 / 2 ^ (n + 1)) 0 lo hi))

/-- `Σ_t h[t·p + i] · x[t·p + i]` for one phase `i`: the elements of a list at `i`, `i + p`, … summed. -/
def phaseSum (h x : List Int) (p i : Nat) : Nat → Int
  | 0 => 0
  | t + 1 => phaseSum h x p i t + h.getD (t * p + i) 0 * x.getD (t * p + i) 0

/-- Rotate a list of `p` elements so that element `i` moves to `(r + i) mod p`. -/
def rotateTo {α : Type} (r p : Nat) (l : List α) : List α := l.drop ((p - r % p) % p) ++ l.take ((p - r % p) % p)

/-- Round a datum to binary16, nearest even; a result of infinite magnitude becomes ±65,504 and counts (R114). -/
def roundH16 (x : Fl) : Nat × Bool :=
  let n := encodeFl fmt16 x
  if n % 0x8000 = 0x7C00 then (n - 1, true) else (n, false)

/-- `z / 2^k` as a datum. -/
def flOver (z : Int) (k : Nat) : Fl := .fin (decide (z < 0)) z.natAbs (-(k : Int))

end Sys2Proof.Machine
end

