-- ==== Sys2Proof/Machine/Chn.lean ====
section
/-! DEFINITION. The channeliser (CHN): R105 to R121, R128, R129. -/

namespace Sys2Proof.Machine

/-! Unit states of `CHN_STATE` (R116), shared by CHN, RSY and STG. -/
def stSTOPPED : Nat := 0
def stSTARTING : Nat := 1
def stRUNNING : Nat := 2
def stSTOPPING : Nat := 3

def State.cslot (s : State) (j : Nat) : ChnSlot := sget ChnSlot.blank s.chn.slots j
def State.setCslot (s : State) (j : Nat) (x : ChnSlot) : State :=
  { s with chn := { s.chn with slots := sset ChnSlot.blank s.chn.slots j x } }

def chnP (s : State) : Nat := 2 ^ s.rf CHN_CFG_FFT_LOG2
def chnT (s : State) : Nat := s.rf CHN_CFG_TAPS

/-- The hop of R42 and R110. -/
def chnHop (s : State) : Nat := if s.rf CHN_CFG_OS43 = 1 then 3 * chnP s / 4 else chnP s

/-- Channels emitted (R109). -/
def chnCount (s : State) : Nat :=
  if s.rf CHN_OUT_RANGE_COUNT32 = 0 then chnP s else 32 * s.rf CHN_OUT_RANGE_COUNT32

/-- First channel plus count must not exceed P (R109). -/
def chnRangeOk (s : State) : Bool := decide (s.rf CHN_OUT_RANGE_FIRST + chnCount s ≤ chnP s)

/-- Gain entries per slot (R112). -/
def chnQ (s : State) : Nat := ceilDiv (chnCount s) (2 ^ s.rf CHN_GAIN_CFG_GROUP_LOG2)

/-- The decimator slots that the channeliser serves (R105). -/
def chnServed (s : State) : List Nat := (enabledSlots s).filter (fun j => s.rf (DEC_STREAM_CFG_TO_CHN j) = 1)

/-! ### Coefficients and gains (R106, R112, R117) -/

def chnCoef (s : State) (n : Nat) : Nat := sget 0 s.chn.coef n

/-- The signed window coefficients in use. -/
def chnWin (s : State) : List Int := (List.range (chnP s * chnT s)).map (fun n => sext 18 (chnCoef s n))

/-- `CHN_COEF_COUNT` (R117). -/
def chnCoefCount (s : State) : Nat :=
  if s.chn.coefAll then chnP s * chnT s
  else (s.chn.coefSet.filter (fun x => decide (x.1 < chnP s * chnT s))).length

/-- `CHN_COEF_CRC` (R117): CRC-32C over the coefficients as sign-extended little-endian words. -/
def chnCoefCrc (s : State) : Nat := crc crc32C ((chnWin s).flatMap (fun h => leBytes 4 (toU 32 h)))

/-- Load the built-in window for the present P and T (R106, R117). -/
def chnLoadBuiltin (s : State) : State :=
  let n := chnP s * chnT s
  let w := (List.range n).map (fun i => (i, (Config.chnWindow (chnP s) (chnT s) i).toNat))
  { s with chn := { s.chn with coef := foldS (fun e m => sset 0 m e.1 e.2) w s.chn.coef, coefAll := true } }

/-- A change of `CHN_CFG` sets the count of written coefficients to 0 (R117). -/
def chnSetCfg (v : Nat) (s : State) : State :=
  let s := s.setReg CHN_CFG (v &&& 0x1F7F1F)
  { s with chn := { s.chn with coefSet := [], coefAll := false } }

/-- The fields of `CHN_CFG` within their ranges. -/
def chnCfgOk (v : Nat) : Bool :=
  decide (8 ≤ bits v 0 5) && decide (bits v 0 5 ≤ 16) && decide (4 ≤ bits v 8 5) && decide (bits v 8 5 ≤ 16)

/-- The gain of slot `j` and local channel `c` in bank `b` (R112). -/
def chnGain (s : State) (b j c : Nat) : Nat :=
  sget 4096 s.chn.gains (b * 2 ^ 20 + j * chnQ s + (c - s.rf CHN_OUT_RANGE_FIRST) / 2 ^ s.rf CHN_GAIN_CFG_GROUP_LOG2)

/-- The bank that governs a spectrum whose sample-index start is `i`: the newest switch at or before it (R113). -/
def chnBankAt (s : State) (i : Nat) : Nat :=
  match s.chn.switches.find? (fun x => decide (x.1 ≤ i)) with
  | some x => x.2
  | none => 0

/-- Banks in use: the active one, and those named by GAIN waymarks held (R113). -/
def chnBankInUse (s : State) (b : Nat) : Bool :=
  s.rf CHN_GAIN_CFG_ACTIVE_BANK = b || (heldBy s uCHN).any (fun w => w.kind = wGAIN && w.arg % 2 = b)

/-! ### Capacity (Table 5.2) -/

/-- A common multiple of every decimation, so that stream rates are exact. -/
def rateUnit : Nat := (List.range 64).foldl (fun a i => Nat.lcm a (i + 1)) 1

/-- Words per sample of slot `j`'s decimated stream. -/
def chnWords (s : State) (j : Nat) : Nat := 1 + s.rf (DEC_STREAM_CFG_OUT_CI16 j)

/-- The five loads of Table 5.2 over slots `js`, each with its limit, in like units. -/
def chnLoads (s : State) (js : List Nat) : List (Nat × Nat) :=
  let rate (j : Nat) : Nat := s.reg MER_FS * rateUnit / s.rf (DEC_STREAM_CFG_DECIM j)
  let sum (f : Nat → Nat) : Nat := (js.map f).sum
  let p := chnP s
  [ (sum (fun j => rate j * chnWords s j), 102400000 * rateUnit)
  , (sum (fun j => rate j * chnT s), 819200000 * rateUnit)
  , (sum (fun j => rate j) * p, 102400000 * rateUnit * chnHop s)
  , (sum (fun j => (chnT s - 1) * p * chnWords s j), 4194304)
  , (js.length, 256) ]

/-- The first limit broken: its row, counted from 1, and its load per mille. -/
def chnBreach (s : State) (js : List Nat) : Option (Nat × Nat) :=
  match findIdx? (fun x => decide (x.2 < x.1)) (chnLoads s js) with
  | some i => let x := (chnLoads s js).getD i (0, 1); some (i + 1, x.1 * 1000 / x.2)
  | none => none

/-- `CHN_LOAD` (R120). -/
def chnLoad (s : State) : Nat :=
  ((chnLoads s (chnServed s)).take 4).foldl (fun a x => max a (x.1 * 1000 / x.2)) 0

/-! ### Register writes -/

def chnRefuse (off : Nat) (s : State) : WOut := refuse uCHN off (s.rf CHN_STATE_STATE) s
def chnStopped (s : State) : Bool := s.rf CHN_STATE_STATE = stSTOPPED

/-- `UNIT_BASIC` (R106). -/
def chnBasicWrite (v : Nat) (s : State) : WOut :=
  if !(chnStopped s) || !(chnCfgOk v) then chnRefuse 0x18 s
  else
    let s := chnSetCfg v (storeBits (UNIT_BASIC 4) 0x11F7F1F v s)
    let s := if bit v 24 then chnLoadBuiltin s else s
    acc { s with chn := { s.chn with gains := [] } }

/-- `CHN_CFG` (R116, R117). -/
def chnCfgWrite (v : Nat) (s : State) : WOut :=
  if !(chnStopped s) || !(chnCfgOk v) then chnRefuse 0x110 s else acc (chnSetCfg v s)

/-- `CHN_COEF_DATA` (R116, R117). -/
def chnCoefDataWrite (v : Nat) (s : State) : WOut :=
  if !(chnStopped s) then chnRefuse 0x12C s
  else
    let a := s.reg CHN_COEF_ADDR
    let s := { s with chn := { s.chn with coef := sset 0 s.chn.coef a (v % 2 ^ 18), coefSet := sset false s.chn.coefSet a true } }
    acc (s.setReg CHN_COEF_ADDR ((a + 1) % 2 ^ 20))

/-- `CHN_GAIN_DATA` (R112, R113). -/
def chnGainDataWrite (v : Nat) (s : State) : WOut :=
  let a := s.reg CHN_GAIN_ADDR
  if !(chnStopped s) && chnBankInUse s (a / 2 ^ 20) then chnRefuse 0x124 s
  else
    let s := { s with chn := { s.chn with gains := sset 4096 s.chn.gains a (v % 65536) } }
    acc (s.setReg CHN_GAIN_ADDR ((a + 1) % 2 ^ 21))

/-- Sample index up to which slot `j`'s decimated frames have left the decimators. -/
def streamPos (s : State) (j : Nat) : Nat := (s.slot j).outIdx

/-- The furthest index the served streams have reached. -/
def chnPos (s : State) : Nat := (chnServed s).foldl (fun a j => max a (streamPos s j)) 0

/-- START (R118): refused in its three cases; while RUNNING it changes nothing. -/
def chnStart (now : Bool) (s : State) : WOut :=
  let st := s.rf CHN_STATE_STATE
  if st = stSTARTING || st = stSTOPPING then chnRefuse 0x100 s
  else if st = stRUNNING then acc s
  else if chnCoefCount s ≠ chnP s * chnT s then
    ⟨false, raise EV_CHN_COEF_INCOMPLETE (chnCoefCount s) (chnP s * chnT s) s⟩
  else if !(chnRangeOk s) then chnRefuse 0x100 s
  else if 1048576 < 256 * chnQ s then ⟨false, raise EV_CHN_CAPACITY 0 (256 * chnQ s * 1000 / 1048576) s⟩
  else
    match chnBreach s (chnServed s) with
    | some (r, l) => ⟨false, raise EV_CHN_CAPACITY r l s⟩
    | none =>
      let a := if now then chnPos s else s.reg64 CHN_ANCHOR_LO CHN_ANCHOR_HI
      acc { (s.wf CHN_STATE_STATE stSTARTING) with
        chn := { s.chn with startAt := some a, stopAt := none, slots := [], inQ := [] } }

/-- The unit discards all history and is STOPPED (R119). -/
def chnHalt (s : State) : State :=
  let s := (s.wf CHN_STATE_STATE stSTOPPED).wf CHN_STATE_STOP_PENDING 0
  foldS (fun j t => t.wf (CHN_SLOT_STATUS_ACTIVE j) 0) (s.chn.slots.map (·.1))
    { s with chn := { s.chn with startAt := none, stopAt := none, slots := [], inQ := [] } }

/-- STOP (R119): cancels a start before any stream has begun; otherwise it is pending until its commit point. -/
def chnStop (now : Bool) (s : State) : State :=
  let st := s.rf CHN_STATE_STATE
  if st = stSTARTING then chnHalt s
  else if st = stRUNNING then
    let a := if now then chnPos s else s.reg64 CHN_ANCHOR_LO CHN_ANCHOR_HI
    { (s.wf CHN_STATE_STOP_PENDING 1) with chn := { s.chn with stopAt := some a } }
  else s

/-- `CHN_CTRL`: START before STOP. -/
def chnCtrlWrite (v : Nat) (s : State) : WOut :=
  let r := if bit v 0 then chnStart (bit v 2) s else acc s
  if r.ok && bit v 1 then acc (chnStop (bit v 2) r.st) else r

def chnCounters (j : Nat) : List Nat := [CHN_CNT_SAT j, CHN_CNT_VOID j]

/-- `CHN_CNT_CLEAR` (R86). -/
def chnCntClear (v : Nat) (s : State) : State :=
  if bit v 8 then foldS (fun j t => t.zero (chnCounters j)) (List.range 256) s else s.zero (chnCounters (v % 256))

/-- Writes of CHN registers that do more than store. -/
def chnWrite (off v : Nat) (s : State) : Option WOut :=
  match off with
  | 0x18 => some (chnBasicWrite v s)
  | 0x100 => some (chnCtrlWrite v s)
  | 0x110 => some (chnCfgWrite v s)
  | 0x114 => some (if chnStopped s then acc (s.setReg CHN_CHAN_BASE (v % 65536)) else chnRefuse off s)
  | 0x118 =>
    let t := s.setReg CHN_OUT_RANGE (v % 2 ^ 28)
    some (if chnStopped s && chnRangeOk t then acc t else chnRefuse off s)
  | 0x11C =>
    some (if chnStopped s && decide (v % 16 ≤ 8) then acc (s.wf CHN_GAIN_CFG_GROUP_LOG2 v) else chnRefuse off s)
  | 0x124 => some (chnGainDataWrite v s)
  | 0x12C => some (chnCoefDataWrite v s)
  | 0x140 => some (acc (chnCntClear v s))
  | _ => none

/-- Reads of CHN registers whose value is derived. -/
def chnRead (off : Nat) (s : State) : Option Nat :=
  match off with
  | 0x8 => some (if chnStopped s then 0 else (s.chn.slots.filter (fun x => x.2.begun)).length)
  | 0x11C => some (setBits (s.reg CHN_GAIN_CFG) 9 1 (b2n ((heldBy s uCHN).any (fun w => w.kind = wGAIN))))
  | 0x124 => some (sget 4096 s.chn.gains (s.reg CHN_GAIN_ADDR))
  | 0x12C => some (chnCoef s (s.reg CHN_COEF_ADDR))
  | 0x130 => some (chnCoefCount s)
  | 0x134 => some (chnCoefCrc s)
  | 0x13C => some (chnLoad s)
  | _ => none

/-! ### Waymarks at the channeliser -/

/-- Does the scope cover a stream that the channeliser serves? -/
def chnCovers (s : State) (scope : Nat) : Bool :=
  (chnServed s).any (fun j => scopeCoversStream s scope (s.reg (DEC_STREAM_ID j)))

/-- Apply a waymark from boundary `g`: GAIN switches the bank (R113); FLUSH makes queued input of the scope before its
anchor void (Table 2.10). A HALT needs nothing of its own (R111). -/
def chnApply (w : Waymark) (g : Nat) (s : State) : State :=
  if w.kind = wGAIN && chnCovers s w.scope then
    { (s.wf CHN_GAIN_CFG_ACTIVE_BANK (w.arg % 2)) with chn := { s.chn with switches := (g, w.arg % 2) :: s.chn.switches } }
  else if w.kind = wFLUSH then
    { s with chn := { s.chn with inQ := s.chn.inQ.map (fun t =>
        if decide (t.f.index < w.anchor) && scopeCoversStream s w.scope t.f.firstStream
        then { t with f := { t.f with flags := t.f.flags ||| 1, samples := [] } } else t) } }
  else s

/-! ### Spectra -/

/-- Does slot `j` begin, and where: the first spectrum boundary at or after the anchor that its stream has still to
reach (R118). -/
def chnBeginAt (s : State) (j a : Nat) : Nat :=
  let d := s.rf (DEC_STREAM_CFG_DECIM j)
  let p := match s.chn.inQ.find? (fun t => t.slot = j) with
    | some t => t.f.index
    | none => streamPos s j
  ceilTo (max a p) (chnHop s * d)

/-- Begin slot `j` at boundary `b` (R118). -/
def chnBegin (j b : Nat) (capped : Bool) (s : State) : State :=
  let d := s.rf (DEC_STREAM_CFG_DECIM j)
  let s := s.setCslot j { ChnSlot.blank with begun := true, capped := capped, d := d, start := b, next := b / (chnHop s * d), upto := b }
  (s.wf (CHN_SLOT_STATUS_ACTIVE j) 1).wf CHN_STATE_STATE
    (if s.rf CHN_STATE_STATE = stSTARTING then stRUNNING else s.rf CHN_STATE_STATE)

/-- A decimator slot enabled while the unit runs joins at its synchronising reset (R118). -/
def chnJoin (j i : Nat) (s : State) : State :=
  let b := ceilTo i (chnHop s * s.rf (DEC_STREAM_CFG_DECIM j))
  match chnBreach s (chnServed s) with
  | some (r, l) => raise EV_CHN_CAPACITY r l (chnBegin j b true s)
  | none => chnBegin j b false s

/-- Take a queued frame into its slot's history (R111): a fresh one discards the history before it. -/
def chnTake (t : TimeIn) (s : State) : State :=
  let j := t.slot
  let s := if !(s.cslot j).begun && t.fresh && s.rf CHN_STATE_STATE = stRUNNING then chnJoin j t.f.index s else s
  let x := s.cslot j
  if !x.begun || decide (t.f.index + 256 * t.d ≤ x.start) then s
  else
    let x := if t.fresh && decide (x.start < t.f.index) then
      { x with start := t.f.index, hist := [], d := t.d
               next := if t.d = x.d then x.next else ceilDiv t.f.index (chnHop s * t.d) } else x
    s.setCslot j { x with hist := x.hist ++ [t.f], upto := t.f.index + 256 * t.d }

/-- Is the window of slot `j`'s next spectrum complete? -/
def chnComplete (s : State) (j : Nat) : Bool :=
  let x := s.cslot j
  x.begun && decide (x.next * chnHop s * x.d + chnP s * x.d ≤ x.upto)

/-- Take frames of slot `j` from the queue until its next window is complete. -/
def chnFill (j : Nat) : Nat → State → State
  | 0, s => s
  | fuel + 1, s =>
    if chnComplete s j then s
    else
      match s.chn.inQ.find? (fun t => t.slot = j) with
      | some t => chnFill j fuel (chnTake t { s with chn := { s.chn with inQ := s.chn.inQ.erase t } })
      | none => s

/-- Sample `u` (a decimated sample number) of a history, promoted to 16 bits (R107). -/
def chnSample (hist : List Frame) (d u : Nat) : Int × Int :=
  match hist.find? (fun f => decide (f.index ≤ u * d) && decide (u * d < f.index + 256 * d)) with
  | some f =>
    if f.isVoid then (0, 0)
    else
      let (r, i) := elemOf f.format f.samples (u - f.index / d)
      if f.format = fC8 then (256 * r, 256 * i) else (r, i)
  | none => (0, 0)

/-- The FFT output of the spectrum whose newest frame begins at sample number `u0` (R107, R108). -/
def chnTransform (s : State) (x : ChnSlot) (u0 : Nat) : List (Int × Int) :=
  let p := chnP s
  let t := chnT s
  let h := chnWin s
  let xs := (List.range (t * p)).map (fun k => chnSample x.hist x.d (u0 + k - (t - 1) * p))
  let re := xs.map (·.1)
  let im := xs.map (·.2)
  let z := (List.range p).map (fun i => (rneShift (phaseSum h re p i t) 17, rneShift (phaseSum h im p i t) 17))
  fft false (s.rf CHN_CFG_FFT_LOG2) (rotateTo u0 p z)

/-- Requantise one part (R114): the output, whether it clamped, and the statistic's q (R115). -/
def requant (ch16 : Bool) (sh : Nat) (x : Int) (g : Nat) : Int × Bool × Int :=
  let z := x * g
  if ch16 then
    let (h, c) := roundH16 (flOver z (12 + sh))
    ((h : Int), c, satS 16 (rneShift z (12 + sh)))
  else
    let r := rneShift z (12 + sh)
    let o := satS 8 r
    (o, decide (o ≠ r), o)

/-- The emitted channels of a transform: parts, number clamped, and power (R109, R114, R115). -/
def chnChannels (s : State) (j start : Nat) (xf : List (Int × Int)) : List (Int × Int) × Nat × Nat :=
  let p := chnP s
  let b := chnBankAt s start
  let ch16 := decide (s.rf CHN_CFG_OUT_CH16 = 1)
  let sh := s.rf CHN_CFG_OUT_SHIFT
  let one (c : Nat) : (Int × Bool × Int) × (Int × Bool × Int) :=
    let v := xf.getD ((c + p / 2) % p) (0, 0)
    let g := chnGain s b j c
    (requant ch16 sh v.1 g, requant ch16 sh v.2 g)
  let os := (rangeFrom (s.rf CHN_OUT_RANGE_FIRST) (chnCount s)).map one
  (os.map (fun o => (o.1.1, o.2.1)), (os.map (fun o => b2n o.1.2.1 + b2n o.2.2.1)).sum,
   (os.map (fun o => (o.1.2.2 * o.1.2.2 + o.2.2.2 * o.2.2.2).toNat)).sum)

/-- Collect a spectrum into slot `j`'s statistics and latch them at the window's end (R115). -/
def chnStats (j sp : Nat) (valid : Bool) (sat pow : Nat) (s : State) : State :=
  let w := s.rf CHN_STAT_CFG_WINDOW
  if s.rf CHN_STAT_CFG_EN = 0 || w = 0 then s
  else
    let x := s.cslot j
    let win := sp / w * w
    let x := if x.statWin = win then x else { x with statWin := win, statN := 0, statSat := 0, statPow := 0 }
    let x := if valid then { x with statN := x.statN + 1, statSat := x.statSat + sat, statPow := x.statPow + pow } else x
    if (sp + 1) % w ≠ 0 then s.setCslot j x
    else
      let s := s.setCslot j { x with statWin := win + w, statN := 0, statSat := 0, statPow := 0 }
      let s := (((s.setReg (CHN_STAT_N j) x.statN).setReg (CHN_STAT_SAT j) x.statSat).setReg64
        (CHN_STAT_POW_LO j) (CHN_STAT_POW_HI j) x.statPow).wf (CHN_SLOT_STATUS_STATS_VALID j) 1
      let s := raise EV_CHN_STATS_READY win 0 s
      if 0 < x.statSat then raise EV_CHN_SATURATION j x.statSat s else s

/-- One spectrum of slot `j`, whose window is complete. -/
def chnSpectrum (j : Nat) (s : State) : State :=
  let x := s.cslot j
  let p := chnP s
  let t := chnT s
  let u0 := x.next * chnHop s
  let start := u0 * x.d
  let s := applyDue uCHN start (fun w u => chnApply w start u) s
  let w0 := u0 * x.d - (t - 1) * p * x.d
  let early := decide (u0 * x.d < x.start + (t - 1) * p * x.d)
  let voidIn := x.hist.any (fun f => f.isVoid && decide (w0 < f.index + 256 * x.d) && decide (f.index < (u0 + p) * x.d))
  let fore := x.hist.any (fun f => bit f.flags 3 && decide (w0 < f.index + 256 * x.d) && decide (f.index < (u0 + p) * x.d))
  let void := early || voidIn || x.capped
  let (vals, sat, pow) := if void then ([], 0, 0) else chnChannels s j start (chnTransform s x u0)
  let next0 := (u0 + chnHop s) * x.d - (t - 1) * p * x.d
  let s := s.setCslot j { (s.cslot j) with
    next := x.next + 1, hist := x.hist.filter (fun f => decide (next0 < f.index + 256 * x.d)) }
  let s := if void then s.inc (CHN_CNT_VOID j) 1 else s.inc (CHN_CNT_SAT j) sat
  let s := chnStats j x.next (!void) sat pow s
  let o : SpecIn := { slot := j, stream := s.reg (DEC_STREAM_ID j), s := x.next, start := start, void := void, fore := fore,
                      ch16 := decide (s.rf CHN_CFG_OUT_CH16 = 1), first := s.rf CHN_OUT_RANGE_FIRST, vals := vals }
  { s with grt := { s.grt with inQ := s.grt.inQ ++ [o] } }

/-- May slot `j` form its next spectrum under a stop that has committed? -/
def chnAllowed (s : State) (j : Nat) : Bool :=
  s.rf CHN_STATE_STATE ≠ stSTOPPING
    || decide ((s.cslot j).next * chnHop s * (s.cslot j).d < s.chn.stopAt.getD 0)

/-- Has every begun stream formed its last spectrum before the stop? -/
def chnAllDone (s : State) : Bool :=
  s.chn.slots.all (fun x => !x.2.begun || !(chnAllowed s x.1))

/-- Spectra of slot `j` begun before the stop, while their windows are complete. -/
def chnFinish (j : Nat) : Nat → State → State
  | 0, s => s
  | fuel + 1, s =>
    let s := chnFill j (s.chn.inQ.length + 1) s
    if chnComplete s j && chnAllowed s j then chnFinish j fuel (chnSpectrum j s) else s

/-! ### Meanings -/

/-- CHN_STREAM_BEGIN -/
def execChnStreamBegin (slot : Fin 256) (s : State) : Host.Outcome State Fault Refusal :=
  let j := slot.val
  let st := s.rf CHN_STATE_STATE
  match s.chn.startAt with
  | some a =>
    .next (if (st = stSTARTING || st = stRUNNING) && (chnServed s).contains j && !(s.cslot j).begun
      then chnBegin j (chnBeginAt s j a) false s else s)
  | none => .next s

/-- CHN_STOP_COMMIT -/
def execChnStopCommit (s : State) : Host.Outcome State Fault Refusal :=
  if s.rf CHN_STATE_STATE ≠ stRUNNING || s.chn.stopAt.isNone then .next s
  else
    let s := (s.wf CHN_STATE_STATE stSTOPPING).wf CHN_STATE_STOP_PENDING 0
    let s := foldS (fun j t => chnFinish j (t.chn.inQ.length + 1) t) (s.chn.slots.map (·.1)) s
    .next (if chnAllDone s then chnHalt s else s)

/-- CHN_SPECTRUM -/
def execChnSpectrum (slot : Fin 256) (s : State) : Host.Outcome State Fault Refusal :=
  let j := slot.val
  let s := if markBlocked s uCHN then s else chnFill j (s.chn.inQ.length + 1) s
  if chnComplete s j && chnAllowed s j then
    let s := chnSpectrum j s
    .next (if s.rf CHN_STATE_STATE = stSTOPPING && chnAllDone s then chnHalt s else s)
  else .next s

end Sys2Proof.Machine
end

