-- ==== Sys2Proof/Machine/Hbm.lean ====
section
/-!
DEFINITION. The HBM as the part's units access it: the address map (R337), retirement's remapping (R348), ECC marks and
the error log (R350, R351), and reads and writes of byte runs. Bytes are held by physical address; a byte that nothing
has written reads as 0 (log entry 3).
-/

namespace Sys2Proof.Machine

/-- Bytes of the address space (R337). -/
def hbmSize : Nat := 0x1000000000

/-- The spare area (R348). -/
def spareBase : Nat := 0xFC0000000

/-- Does the address exist: inside the space, and outside the spare area while a pseudo-channel is retired? -/
def hbmExists (s : State) (a : Nat) : Bool :=
  decide (a < hbmSize) && !(decide (spareBase ≤ a) && s.mem.retired.isSome)

/-- Pseudo-channel, bank and row of an address (Table 14.1). -/
def pcOf (a : Nat) : Nat := bits a 13 6 ^^^ bits a 22 6
def bankOf (a : Nat) : Nat := bits a 10 3 + 8 * (bits a 19 3 ^^^ bits a 28 3)
def rowOf (a : Nat) : Nat := bits a 22 14

/-- Stack of a pseudo-channel (R336). -/
def stackOf (pc : Nat) : Nat := pc / 32

/-- Where an 8 KiB granule of pseudo-channel `n` outside the spare area lies once `n` is retired: the granules of `n`, one
in each group of 64, map in ascending order onto the spare granules of the other pseudo-channels (R348). -/
def spareOf (n a : Nat) : Nat :=
  let k := a / 2 ^ 19
  let g := 129024 + k / 63
  let skip := n ^^^ (g / 8 % 64)
  let r := k % 63
  g * 2 ^ 19 + (if r < skip then r else r + 1) * 8192 + a % 8192

/-- The physical address that serves a presented one. -/
def hbmPhys (s : State) (a : Nat) : Nat :=
  match s.mem.retired with
  | some n => if pcOf a = n && decide (a < spareBase) then spareOf n a else a
  | none => a

/-- The canonical form of the memory: strictly rising addresses, no entry equal to what an unlisted address reads as. -/
def Memory.wf (m : List Host.Cell) : Bool := smapWf (fun _ => 0#8) m

/-- One byte, without any effect. -/
def hbmByte (s : State) (a : Nat) : Byte := sget 0#8 s.hbm (hbmPhys s a)

/-- Set one byte. -/
def setHbmByte (a : Nat) (b : Byte) (s : State) : State := { s with hbm := sset 0#8 s.hbm (hbmPhys s a) b }

/-- `n` bytes from `a`, without any effect. -/
def hbmBytes (s : State) (a n : Nat) : List Byte := (List.range n).map (fun i => hbmByte s (a + i))

/-- Store a run of bytes, without any check. -/
def pokeBytes : Nat → List Byte → State → State
  | _, [], s => s
  | a, b :: t, s => pokeBytes (a + 1) t (setHbmByte a b s)

def eccOf (s : State) (a : Nat) : Nat := sget 0 s.mem.ecc (hbmPhys s a / 64)
def setEcc (a m : Nat) (s : State) : State := { s with mem := { s.mem with ecc := sset 0 s.mem.ecc (hbmPhys s a / 64) m } }

/-- Is the pseudo-channel DEAD (R345)? A retired one serves nothing, its units being remapped. -/
def pcDead (s : State) (a : Nat) : Bool := decide (s.rf (MEM_PC_STATUS_STATE (pcOf (hbmPhys s a))) = 2)

/-- Put an entry into the error log of 16 (R351): a full log takes only a fenced entry, which displaces the newest one that
is not fenced, and sets OVERFLOW otherwise. -/
def logUe (e : UeEnt) (s : State) : State :=
  if s.mem.log.length < 16 then { s with mem := { s.mem with log := s.mem.log ++ [e] } }
  else if e.source = 4 then
    match findIdx? (fun x => decide (x.source ≠ 4)) s.mem.log.reverse with
    | some i => { s with mem := { s.mem with log := (s.mem.log.reverse.eraseIdx i).reverse ++ [e] } }
    | none => s.wf MEM_UE_INFO_OVERFLOW 1
  else s.wf MEM_UE_INFO_OVERFLOW 1

/-- An uncorrectable error at `a`, met by `port`: counted, logged, and UE raised (R351). -/
def countUe (port source a : Nat) (s : State) : State :=
  let pc := pcOf (hbmPhys s a)
  let s := (s.inc (MEM_PC_CNT_UE pc) 1).inc MEM_UE_COUNT 1
  raise EV_MEM_UE (a / 64) (port + 256 * pc) (logUe { unit := a / 64, port := port, source := source, pc := pc } s)

/-- A corrected error at `a`: counted, and the unit written back (R350). -/
def countCe (a : Nat) (s : State) : State :=
  let pc := pcOf (hbmPhys s a)
  let s := setEcc a 0 (s.inc (MEM_PC_CNT_CE pc) 1)
  { s with mem := { s.mem with ceSec := sset 0 s.mem.ceSec pc (sget 0 s.mem.ceSec pc + 1) } }

/-- A request reaches the stack of `a` (R343, R344): an entry before its commit point is abandoned; a stack in
self-refresh leaves it, and the request waits through the exit. -/
def touchStack (port a : Nat) (s : State) : State :=
  let k := stackOf (pcOf (hbmPhys s a))
  let f : Field := if k = 0 then MEM_STATE_STACK0 else MEM_STATE_STACK1
  match s.rf f with
  | 1 => raise EV_MEM_SR_ABANDONED k port ((s.wf f 0).inc MEM_CNT_SR_ABANDON 1)
  | 2 =>
    let w := (Config.srWait (s.reg MEM_CNT_SR_WAIT)).toNat % 1601
    let s := (s.wf f 0).inc MEM_CNT_SR_WAIT 1
    if s.reg MEM_SR_WAIT_MAX < w then s.setReg MEM_SR_WAIT_MAX w else s
  | _ => s

/-- Read `n` bytes of the 64-byte unit that holds `a`: none for an error response (R350, R351, R345) or a decode error
(R337). -/
def readUnit (port a n : Nat) (s : State) : Option (List Byte) × State :=
  if !(hbmExists s a) then (none, s)
  else
    let s := touchStack port a s
    if pcDead s a then (none, s)
    else
      match eccOf s a with
      | 0 => (some (hbmBytes s a n), s)
      | 1 => let s := countCe a s; (some (hbmBytes s a n), s)
      | 2 => (none, countUe port 0 a s)
      | _ => (none, countUe port 4 a s)

/-- Write bytes inside the 64-byte unit that holds `a`: false for an error response or a decode error. A whole-unit write
clears the unit's marks; a partial write that meets an uncorrectable error is not performed (R351). -/
def writeUnit (port a : Nat) (bs : List Byte) (s : State) : Bool × State :=
  if !(hbmExists s a) then (false, s)
  else
    let s := touchStack port a s
    if pcDead s a then (false, s)
    else if bs.length = 64 then (true, setEcc a 0 (pokeBytes a bs s))
    else
      match eccOf s a with
      | 0 => (true, pokeBytes a bs s)
      | 1 => (true, pokeBytes a bs (countCe a s))
      | _ => (false, countUe port 2 a s)

/-- Read a run of bytes: none for each byte of a unit that answered with an error. -/
def hbmRead (port : Nat) : Nat → Nat → Nat → State → List (Option Byte) × State
  | 0, _, _, s => ([], s)
  | fuel + 1, a, n, s =>
    if n = 0 then ([], s)
    else
      let k := min n (64 - a % 64)
      let (r, s) := readUnit port a k s
      let here := match r with | some l => l.map some | none => List.replicate k none
      let (t, s) := hbmRead port fuel (a + k) (n - k) s
      (here ++ t, s)

/-- Read `n` bytes from `a`. -/
def hbmGet (port a n : Nat) (s : State) : List (Option Byte) × State := hbmRead port (n / 64 + 2) a n s

/-- Write a run of bytes; false if any unit answered with an error. -/
def hbmWrite (port : Nat) : Nat → Nat → List Byte → State → Bool × State
  | 0, _, _, s => (true, s)
  | fuel + 1, a, bs, s =>
    if bs.isEmpty then (true, s)
    else
      let k := 64 - a % 64
      let (ok, s) := writeUnit port a (bs.take k) s
      let (ok2, s) := hbmWrite port fuel (a + k) (bs.drop k) s
      (ok && ok2, s)

/-- Write bytes from `a`. -/
def hbmPut (port a : Nat) (bs : List Byte) (s : State) : Bool × State := hbmWrite port (bs.length / 64 + 2) a bs s

/-- Did every byte arrive? -/
def allBytes (l : List (Option Byte)) : Bool := l.all Option.isSome

/-- The bytes, 0 for those that did not arrive. -/
def bytesOf (l : List (Option Byte)) : List Byte := l.map (fun o => o.getD 0#8)

end Sys2Proof.Machine
end

