-- ==== Sys2Proof/Machine/Trp.lean ====
section
/-! DEFINITION. The trig point (TRP): R302 to R319. -/

namespace Sys2Proof.Machine

/-! ### Streams, beams and banks -/

/-! ### Blocks -/

/-- Spectra per block. -/
def stgB (s : State) : Nat := 2 ^ bits (s.reg STG_CFG) 0 4
/-- Sample-clock periods per spectrum, H × D of the part's channeliser and its lowest served slot (R42; log entry 32). -/
def stgHop (s : State) : Nat :=
  chnHop s * (match chnServed s with | j :: _ => s.rf (DEC_STREAM_CFG_DECIM j) | [] => 1)
/-- Sample-clock periods per block. -/
def stgSpan (s : State) : Nat := stgB s * stgHop s

/-- Decimator slots with EN and TO_TRP, in ascending order: stream j is the j-th (R303). -/
def trpSlots (s : State) : List Nat := (enabledSlots s).filter (fun j => s.rf (DEC_STREAM_CFG_TO_TRP j) = 1)

/-- The decimation of the trigger streams: that of the lowest slot. -/
def trpD (s : State) : Nat := match trpSlots s with | j :: _ => s.rf (DEC_STREAM_CFG_DECIM j) | [] => 1

/-- Does the trig point take the slot of stream `j`? It ignores one beyond the 128th, with ci16 output or with another D.
The numbers of the others stay as they are (DEDUCED, log entry 31). -/
def trpTakes (s : State) (j slot : Nat) : Bool :=
  decide (j < 128) && s.rf (DEC_STREAM_CFG_OUT_CI16 slot) = 0 && s.rf (DEC_STREAM_CFG_DECIM slot) = trpD s

/-- The trigger streams as (j, slot). -/
def trpStreams (s : State) : List (Nat × Nat) :=
  ((trpSlots s).zipIdx.map (fun x => (x.2, x.1))).filter (fun x => trpTakes s x.1 x.2)

/-- The mode whose beams run: this part's, or in SHADOW the active twin's (R303). -/
def trpMode (s : State) : Nat := if s.mode = mSHADOW then s.hlt.peerMode.getD mSHADOW else s.mode

/-- Beams running: 0 to BEAMS - 1 in TRIGGER, of which 0 to 15 in CORRELATE, BEAMFORM and HYBRID (R6, R303). -/
def trpBeams (s : State) : Nat :=
  if s.rf TRP_BASIC_EN = 0 then 0
  else if trpMode s = mTRIGGER then s.rf TRP_BASIC_BEAMS
  else if isDataMode (trpMode s) then min 16 (s.rf TRP_BASIC_BEAMS)
  else 0

def State.tbeam (s : State) (b : Nat) : BeamSt := sget BeamSt.blank s.trp.beams b
def State.setTbeam (s : State) (b : Nat) (x : BeamSt) : State :=
  let s := { s with trp := { s.trp with beams := sset BeamSt.blank s.trp.beams b x } }
  s.setReg64 (TRP_BEAM_LEVEL_LO b) (TRP_BEAM_LEVEL_HI b) x.l8

def State.trule (s : State) (r : Nat) : RuleSt := sget RuleSt.blank s.trp.rules r
def State.setTrule (s : State) (r : Nat) (x : RuleSt) : State :=
  { s with trp := { s.trp with rules := sset RuleSt.blank s.trp.rules r x } }
def State.cap (s : State) (e : Nat) : CapSt := sget CapSt.blank s.trp.caps e

/-- Set a capture entry and its registers. -/
def State.setCap (s : State) (e : Nat) (x : CapSt) : State :=
  let s := { s with trp := { s.trp with caps := sset CapSt.blank s.trp.caps e x } }
  let s := s.setReg64 (TRP_CAP_FIRST_LO e) (TRP_CAP_FIRST_HI e) (x.first * 256 * trpD s)
  s.setReg (TRP_CAP_INFO e) (if x.st = 0 then 0 else (x.last + 1 - x.first) % 65536 + 65536 * x.rule + 2 ^ 24 * x.st)

/-- Is a direction bank in use: the active one or one named by a held WSWAP, while the trig point runs (R194, R304)? -/
def trpBankInUse (s : State) (b : Nat) : Bool :=
  s.rf TRP_BASIC_EN = 1
    && (s.rf TRP_STATE_ACTIVE_BANK = b || (heldBy s uTRP).any (fun w => w.kind = wWSWAP && w.arg % 2 = b))

/-! ### Delays and weights (R305) -/

/-- A signed word of a table. -/
def sword (s : State) (a : Nat) : Int := sext 32 (s.reg a)

/-- Delay and weight of stream `j` for record `b` of bank `i`; none for the delay when it lies out of range. -/
def trpDerive1 (s : State) (i b j : Nat) : Option Nat × Int × Int :=
  let n (k : Nat) : Int := sword s (TRP_DIR i (4 * b + k))
  let p (k : Nat) : Int := sword s (TRP_POS (4 * j + k))
  let g := bits (s.reg (TRP_DIR i (4 * b + 3))) 0 16
  let t := n 0 * p 0 + n 1 * p 1 + n 2 * p 2
  let tau := sword s TRP_DLY_BASE + satS 32 (rneShift t 30) + p 3
  let d := rneDiv (tau * (s.reg TRP_FS * 1000 : Nat)) (trpD s * 2 ^ 40)
  let phi := toU 32 (rneShift (tau * (s.reg TRP_KF : Nat)) 8)
  let (c, sn) := trig (phi / 65536)
  if d < 0 || 1023 < d then (none, 0, 0)
  else if !(bit (s.reg (TRP_DIR i (4 * b + 3))) 31) then (some d.toNat, 0, 0)
  else (some d.toNat, satS 8 (rneShift (128 * (g : Int) * c) 30), satS 8 (rneShift (-128 * (g : Int) * sn) 30))

/-- Derive the delays and weights of beam `b` of bank `i`, counting and reporting the streams out of range. -/
def trpDerive (i b : Nat) (s : State) : State :=
  let all := (List.range 128).map (fun j => trpDerive1 s i b j)
  let bad := (trpStreams s).filter (fun x => (all.getD x.1 (some 0, 0, 0)).1.isNone)
  let dw := sset [] s.trp.derived (i * 64 + b) (all.map (fun x => (x.1.getD 0, x.2.1, x.2.2)))
  let s := { s with trp := { s.trp with derived := dw } }
  match bad with
  | [] => s
  | x :: _ => raise EV_TRP_DELAY_RANGE (b + 256 * i) x.1 (s.inc TRP_CNT_DLY_RANGE bad.length)

/-- A bearing core's direction record for the trig point: into the bank that is not active; entries 64 and above are
discarded (R174, R304). -/
def trpDirRecord (b : Nat) (ws : List Nat) (s : State) : State :=
  if 64 ≤ b then s
  else
    let i := 1 - s.rf TRP_STATE_ACTIVE_BANK
    trpDerive i b (foldS (fun x t => t.setReg (TRP_DIR i (4 * b + x.2)) x.1) ws.zipIdx s)

/-! ### Pins, rules -/

/-- Do the pins follow the program (R311)? -/
def trpPinsDriven (s : State) : Bool :=
  s.rf TRP_BASIC_EN = 1 && isDataMode s.mode && drivesPrivileged s

/-- Pin `n` becomes active or inactive. -/
def setPin (n : Nat) (on : Bool) (s : State) : State :=
  if sget false s.trp.pins n = on then s
  else State.emit { s with trp := { s.trp with pins := sset false s.trp.pins n on } } (.trig n on)

/-- Every pin rests inactive. -/
def pinsRest (s : State) : State := foldS (fun n t => setPin n false t) (List.range 8) s

/-! Fields of a rule record (Table 12.3). -/
def rWord (ws : List Nat) (i : Nat) : Nat := ws.getD i 0
def rOp (ws : List Nat) : Nat := bits (rWord ws 0) 0 4
def rA (ws : List Nat) : Nat := bits (rWord ws 0) 8 8
def rB (ws : List Nat) : Nat := bits (rWord ws 0) 16 8
def rK (ws : List Nat) : Nat := bits (rWord ws 0) 24 8
def rMask (ws : List Nat) : Nat := rWord ws 2 + 2 ^ 32 * rWord ws 3
def rSpan (ws : List Nat) : Nat := max 1 (bits (rWord ws 4) 0 16)

/-- The shadow record of rule `r`. -/
def trpShadowRule (s : State) (r : Nat) : List Nat := (List.range 8).map (fun w => s.reg (TRP_RULE r w))

/-- The checks of APPLY (R310). -/
def trpRuleOk (r : Nat) (ws : List Nat) : Bool :=
  match rOp ws with
  | 0 => true
  | 1 => decide (rA ws ≤ 63)
  | 2 => decide (1 ≤ rK ws) && decide (rK ws ≤ 64)
  | 3 => decide (rA ws < r) && decide (rB ws < r)
  | 4 => decide (rA ws < r) && decide (rB ws < r)
  | 5 => decide (rA ws < r) && decide (rB ws < r)
  | _ => false

/-- APPLY: the shadow becomes the program from the next window, or is refused with `off`. -/
def trpApply (off : Nat) (s : State) (old : State) : WOut :=
  let rs := (List.range 64).map (fun r => (r, trpShadowRule s r))
  if rs.all (fun x => trpRuleOk x.1 x.2) then acc { s with trp := { s.trp with pend := some rs } }
  else refuse uTRP off cRANGE old

/-- The pending program comes into force; an unchanged rule keeps its history (R310). -/
def trpCommit (s : State) : State :=
  match s.trp.pend with
  | none => s
  | some rs =>
    foldS (fun x t => if (t.trule x.1).words = x.2 then t else t.setTrule x.1 { RuleSt.blank with words := x.2 }) rs
      { s with trp := { s.trp with pend := none } }

/-- Count of set bits below 64. -/
def popcount64 (n : Nat) : Nat := (maskList 64 n).length

/-- The latest match of rule `r` within the span that ends at window `k`. -/
def matchedIn (s : State) (r k span : Nat) : Option Nat :=
  ((s.trule r).matched.find? (fun x => decide (k < x.1 + span) && decide (x.1 ≤ k))).map (·.2)

/-- Does rule `r` match at window `k`, with its reported beam (R309)? `hit` tells whether a beam hits against a threshold. -/
def ruleMatch (s : State) (r k : Nat) (hit : Nat → Nat → Bool) : Option Nat :=
  let x := s.trule r
  let ws := x.words
  let sp := rSpan ws
  match rOp ws with
  | 1 => if hit (rA ws) (rWord ws 1) then some (rA ws) else none
  | 2 =>
    let m := (x.hits.filter (fun h => decide (k < h.1 + sp))).foldl (fun a h => a ||| h.2) 0
    if rK ws ≤ popcount64 m then (maskList 64 m).head? else none
  | 3 =>
    match matchedIn s (rA ws) k sp, matchedIn s (rB ws) k sp with
    | some a, some _ => some a
    | _, _ => none
  | 4 =>
    match matchedIn s (rA ws) k sp with
    | some a => some a
    | none => matchedIn s (rB ws) k sp
  | 5 =>
    match matchedIn s (rA ws) k 1 with
    | some a => if (matchedIn s (rB ws) k sp).isSome then none else some a
    | none => none
  | _ => none

/-! ### Ring capture (R316, R317) -/

/-- The positions of the streams that the ring records. -/
def ringSetOf (s : State) : List (Nat × Nat) :=
  if trpMode s = mTRIGGER then trpStreams s
  else ((trpStreams s).filter (fun x => bit (s.reg (TRP_RING_SEL (x.1 / 32))) (x.1 % 32))).take 32

def ringRecord (ns : Nat) : Nat := 64 + ns * 512

/-- Whole records in the ring. -/
def ringNF (s : State) : Nat := s.reg TRP_RING_SIZE * 2 ^ 20 / ringRecord (ringSetOf s).length

/-- Does the ring record? -/
def ringOn (s : State) : Bool := decide (0 < trpBeams s) && decide (0 < ringNF s) && !(ringSetOf s).isEmpty

/-- Frame times that held entries cover. -/
def heldFrames (s : State) : List Nat :=
  ((s.trp.caps.filter (fun x => x.2.st = 1 || x.2.st = 2)).flatMap (fun x =>
    rangeFrom x.2.first (x.2.last + 1 - x.2.first))).eraseDups

/-- A firing of rule `r` with CAPTURE takes a free entry for the frame time of `e`; 0x1F where none is free. -/
def trpCapture (r e : Nat) (ws : List Nat) (s : State) : Nat × State :=
  match (List.range 16).find? (fun i => (s.cap i).st = 0) with
  | none => (0x1F, s)
  | some i =>
    let f := e / (256 * trpD s)
    let first := f - bits (rWord ws 6) 0 16
    let last := f + bits (rWord ws 6) 16 16
    let newest := s.trp.ringNext.getD 0
    let nf := ringNF s
    let t := s.setCap i { st := 1, first := first, last := last, rule := r }
    let lost := decide (first < s.trp.ringStart) || decide (first + nf < newest) || !(ringOn s)
    if lost || nf < 2 * (heldFrames t).length then
      (i, raise EV_TRP_CAPTURE_NOT_HELD i r (s.setCap i { st := 3, first := first, last := last, rule := r }))
    else if last < newest then (i, s.setCap i { st := 2, first := first, last := last, rule := r })
    else (i, t)

/-! ### Windows (R306, R307) -/

/-- The frames of a slot that the trig point holds. -/
def trpHist (s : State) (slot : Nat) : List TimeIn := sget [] s.trp.hist slot

/-- Move the queued frames into the histories; a fresh frame of an ignored slot raises INPUT_MISMATCH (R303). -/
def trpDrain (s : State) : State :=
  foldS (fun t u =>
    match findIdx? (fun x => decide (x = t.slot)) (trpSlots u) with
    | none => u
    | some j =>
      if trpTakes u j t.slot then
        { u with trp := { u.trp with hist := sset [] u.trp.hist t.slot (trpHist u t.slot ++ [t]) } }
      else if t.fresh then raise EV_TRP_INPUT_MISMATCH t.slot (Config.openCause 0x1106 (if 128 ≤ j then 1 else 2)).toNat u
      else u) s.trp.inQ { s with trp := { s.trp with inQ := [] } }

/-- Sample of a stream at index `i`, for a window that ends at `e`: none when it is void, precedes the start, or precedes
a synchronising reset at or before `e`. -/
def trpSample (s : State) (h : List TimeIn) (i e : Nat) : Option (Int × Int) :=
  if i < s.trp.from_ || h.any (fun t => t.fresh && decide (i < t.f.index) && decide (t.f.index ≤ e)) then none
  else
    match h.find? (fun t => decide (t.f.index ≤ i) && decide (i < t.f.index + 256 * t.d)) with
    | some t => if t.f.isVoid then none else some (elemOf t.f.format t.f.samples ((i - t.f.index) / t.d))
    | none => none

/-- The beam sum at label `i` (R306), and whether a sample it uses is void. A stream of zero weight is not used. -/
def beamSum (s : State) (hs : List (Nat × List TimeIn)) (dw : List (Nat × Int × Int)) (d i e : Nat) : (Int × Int) × Bool :=
  hs.foldl (fun a x =>
    let (dl, wr, wi) := dw.getD x.1 (0, 0, 0)
    if wr = 0 && wi = 0 then a
    else
      match (if i < dl * d then none else trpSample s x.2 (i - dl * d) e) with
      | some (xr, xi) => ((a.1.1 + (wr * xr - wi * xi), a.1.2 + (wr * xi + wi * xr)), a.2)
      | none => (a.1, true)) ((0, 0), false)

/-- Window power of beam `b` over labels `i0`, `i0 + d`, …, `w` of them, and whether the window is void. -/
def windowPower (s : State) (b i0 w d : Nat) : Nat × Bool :=
  let dw := sget [] s.trp.derived (s.rf TRP_STATE_ACTIVE_BANK * 64 + b)
  let hs := (trpStreams s).map (fun x => (x.1, trpHist s x.2))
  let e := i0 + (w - 1) * d
  (List.range w).foldl (fun a k =>
    let (y, v) := beamSum s hs dw d (i0 + k * d) e
    (a.1 + (y.1 * y.1 + y.2 * y.2).toNat, a.2 || v)) (0, false)

/-- The ratio of a window (R307). -/
def trpRatio (p l8 : Nat) : Nat := if l8 = 0 then 0 else min (p * 65536 / l8) 0xFFFFFFFF

/-- Update beam `b`'s level with a valid window of power `p` that ends at `e` (R307). -/
def levelUpdate (b p e : Nat) (s : State) : State :=
  let x := s.tbeam b
  if s.rf TRP_CFG_LEVEL_CAP ≤ trpRatio p x.l8 then s
  else if x.n < 64 then
    let sum := x.sum + p
    let n := x.n + 1
    let s := s.setTbeam b { n := n, sum := sum, l8 := sum * 256 / n % 2 ^ 64 }
    if n = 64 then raise EV_TRP_LEVEL_READY b (e % 2 ^ 32) s else s
  else
    let l : Int := x.l8 + ((p * 256 : Nat) - (x.l8 : Int)) / (2 ^ s.rf TRP_CFG_ALPHA_LOG2 : Nat)
    s.setTbeam b { x with l8 := l.toNat % 2 ^ 64 }

/-- A firing of rule `r` at window `k` that ends at `e`: pins, capture, and the report that waits for its checks. -/
def trpFire (r beam ratio e : Nat) (s : State) : State :=
  let ws := (s.trule r).words
  let s := s.inc TRP_CNT_FIRE 1
  let pm := bits (rWord ws 5) 0 8 &&& s.rf TRP_PIN_CFG_EN
  let s := if trpPinsDriven s then foldS (fun n t => setPin n true t) (maskList 8 pm) s else s
  let (cap, s) := if bit (rWord ws 5) 9 then trpCapture r e ws s else (0x1F, s)
  { s with trp := { s.trp with fires := s.trp.fires ++
      [({ anchor := e, rule := r, beam := beam, ratio := ratio, cap := cap, suspect := false }, bit (rWord ws 5) 8)] } }

/-- Evaluate rule `r` at window `k` (R309). -/
def trpRule (k e : Nat) (hit : Nat → Nat → Bool) (ratio : Nat → Nat) (r : Nat) (s : State) : State :=
  let x := s.trule r
  if rOp x.words = 0 then s
  else
    let mask := (maskList 64 (rMask x.words)).foldl (fun a b => if hit b (rWord x.words 1) then a ||| 2 ^ b else a) 0
    let x := if rOp x.words = 2 then { x with hits := ((k, mask) :: x.hits).filter (fun h => decide (k < h.1 + rSpan x.words)) } else x
    let s := s.setTrule r x
    match ruleMatch s r k hit with
    | none => s
    | some beam =>
      let x := { x with matched := ((k, beam) :: x.matched).filter (fun h => decide (k < h.1 + 65536)) }
      let eligible := match x.fired with | some w => decide (w + bits (rWord x.words 4) 16 16 < k) | none => true
      if !eligible then s.setTrule r x
      else if x.presc + 1 < max 1 (bits (rWord x.words 5) 16 16) then s.setTrule r { x with presc := x.presc + 1 }
      else trpFire r beam (ratio beam) e (s.setTrule r { x with presc := 0, fired := some k })

/-- Apply a waymark at the trig point from window boundary `g`: WSWAP switches the bank (R304); FLUSH makes the samples of
the scope before its anchor void (Table 2.10). -/
def trpMark (w : Waymark) (s : State) : State :=
  let covers (t : TimeIn) : Bool := scopeCoversStream s w.scope t.f.firstStream
  let flush (t : TimeIn) : TimeIn :=
    if decide (t.f.index < w.anchor) && covers t then { t with f := { t.f with flags := t.f.flags ||| 1, samples := [] } } else t
  if w.kind = wWSWAP && (trpStreams s).any (fun x => scopeCoversStream s w.scope (s.reg (DEC_STREAM_ID x.2))) then
    s.wf TRP_STATE_ACTIVE_BANK (w.arg % 2)
  else if w.kind = wFLUSH then
    { s with trp := { s.trp with inQ := s.trp.inQ.map flush, hist := s.trp.hist.map (fun h => (h.1, h.2.map flush)) } }
  else s

/-- The index up to which every trigger stream has arrived. -/
def trpUpto (s : State) : Nat :=
  match (trpStreams s).map (fun x => match (trpHist s x.2).getLast? with | some t => t.f.index + 256 * t.d | none => 0) with
  | [] => 0
  | a :: l => l.foldl min a

/-- Drop the frames that neither a later window nor the ring needs. -/
def trpTrim (lo : Nat) (s : State) : State :=
  let d := trpD s
  let keep := min (lo - 1023 * d) (match s.trp.ringNext with | some f => f * 256 * d | none => lo)
  { s with trp := { s.trp with hist := (s.trp.hist.map (fun h =>
      (h.1, h.2.filter (fun t => decide (keep < t.f.index + 256 * t.d))))).filter (fun h => !h.2.isEmpty) } }

/-- One window of every running beam, if its samples have arrived (R306 to R309). -/
def trpWindow (s : State) : State :=
  let s := trpDrain s
  let n := trpBeams s
  let d := trpD s
  let w := 2 ^ s.rf TRP_CFG_WIN_LOG2
  if n = 0 || (trpStreams s).isEmpty then s
  else
    let k := s.trp.win.getD (ceilDiv s.trp.from_ (w * d))
    let i0 := k * w * d
    let e := i0 + (w - 1) * d
    if trpUpto s ≤ e then s
    else
      let s := applyDue uTRP i0 trpMark s
      let s := trpCommit s
      let res := (List.range n).map (fun b => (windowPower s b i0 w d, s.tbeam b))
      let get (b : Nat) : (Nat × Bool) × BeamSt := res.getD b ((0, true), BeamSt.blank)
      let hit (b thr : Nat) : Bool :=
        let (pv, x) := get b
        decide (b < n) && !pv.2 && x.n = 64 && decide (0 < x.l8) && decide (thr * x.l8 ≤ pv.1 * 65536)
      let ratio (b : Nat) : Nat := trpRatio (get b).1.1 (get b).2.l8
      let s := foldS (fun b t =>
        if (get b).1.2 then t.inc TRP_CNT_VOID_WIN 1
        else levelUpdate b (get b).1.1 e (t.setReg (TRP_BEAM_LAST b) (ratio b))) (List.range n) s
      let s := foldS (trpRule k e hit ratio) (List.range 64) s
      trpTrim (i0 + w * d) { s with trp := { s.trp with win := some (k + 1) } }

/-- Beams that have stopped running lose their level estimate (R303, R416). -/
def trpModeChanged (s : State) : State :=
  let n := trpBeams s
  let s := foldS (fun b t => if (t.tbeam b) = BeamSt.blank then t else t.setTbeam b BeamSt.blank) (rangeFrom n (64 - n)) s
  let s := if trpPinsDriven s then s else pinsRest s
  if n = 0 then { s with trp := { s.trp with win := none, hist := [], inQ := [] } } else s

/-! ### Register writes -/

def trpRefuse (off cause : Nat) (s : State) : WOut := refuse uTRP off cause s

/-- `UNIT_BASIC` (R302). -/
def trpBasicWrite (v : Nat) (s : State) : WOut :=
  let b := bits v 8 7
  if b < 1 || 64 < b then trpRefuse 0x18 cRANGE s
  else
    let was := s.rf TRP_BASIC_EN
    let t := storeBits (UNIT_BASIC 17) 0xFFFF7F07 v s
    if bit v 0 && was = 0 then
      let cap := bit v 1
      let pin := bit v 2
      let t := foldS (fun r u =>
        foldS (fun x y => y.setReg (TRP_RULE r x.2) x.1)
          (if r < b then [1 + 256 * r, bits v 16 16, 0, 0, 1, b2n pin + 256 + 512 * b2n cap,
                          if cap then 64 + 65536 * 64 else 0, 0]
           else [0, 0, 0, 0, 0, 0, 0, 0]).zipIdx u) (List.range 64) t
      let t := t.wf TRP_PIN_CFG_EN (setBits (t.rf TRP_PIN_CFG_EN) 0 1 (b2n pin))
      let r := trpApply 0x18 t s
      let pos := (trpSlots t).foldl (fun a j => max a (streamPos t j)) 0
      if r.ok then acc { r.st with trp := { r.st.trp with from_ := pos, win := none, hist := [], inQ := [], ringNext := none } }
      else r
    else if !(bit v 0) && was = 1 then
      acc (trpModeChanged t)
    else acc t

/-- Release a capture entry (R317). -/
def trpRelease (e : Nat) (s : State) : State := s.setCap e CapSt.blank

/-- `TRP_CTRL`. -/
def trpCtrlWrite (v : Nat) (s : State) : WOut :=
  let r := if bit v 0 then trpApply 0x100 s s else acc s
  if !r.ok then r
  else
    let s := r.st
    let s := if bit v 1 then foldS (fun b t => t.setTbeam b BeamSt.blank) (List.range (trpBeams s)) s else s
    acc (if bit v 2 then
      let q := s.trp.reps.drop 1
      { s with trp := { s.trp with reps := q, overflowed := s.trp.overflowed && !q.isEmpty } } else s)

/-- A host write into a direction bank (R304, R305): the write of a record's last word starts its derivation. -/
def trpDirWrite (off v : Nat) (s : State) : WOut :=
  let i := (off - 0x100000) / 0x400
  let b := (off - 0x100000) % 0x400 / 16
  if trpBankInUse s i then trpRefuse off cINUSE s
  else
    let s := s.setReg (0x11000000 + off) v
    acc (if off % 16 = 12 then trpDerive i b s else s)

def trpCntClear (v : Nat) (s : State) : State :=
  if bit v 0 then s.zero [TRP_CNT_FIRE, TRP_CNT_SUSPECT, TRP_CNT_REP_LOST, TRP_CNT_RING_SKIP, TRP_CNT_DLY_RANGE, TRP_CNT_VOID_WIN]
  else s

/-- Registers writable only while EN is 0 (R319), with their ranges. -/
def trpHeldWrite (off mask v : Nat) (ok : Bool) (s : State) : WOut :=
  if !ok then trpRefuse off cRANGE s
  else if s.rf TRP_BASIC_EN = 1 then trpRefuse off cSTATE s
  else acc (storeBits (0x11000000 + off) mask v s)

/-- Writes of TRP registers and tables that do more than store. -/
def trpWrite (off v : Nat) (s : State) : Option WOut :=
  match off with
  | 0x18 => some (trpBasicWrite v s)
  | 0x100 => some (trpCtrlWrite v s)
  | 0x108 => some (trpHeldWrite off 0xFFFF00FF v
      (decide (2 ≤ bits v 0 4) && decide (bits v 0 4 ≤ 10) && decide (4 ≤ bits v 4 4)) s)
  | 0x10C => some (trpHeldWrite off 0xFFFFFFFF v true s)
  | 0x110 => some (trpHeldWrite off 0xFFFFFFFF v true s)
  | 0x114 => some (trpHeldWrite off 0xFFFFFFFF v true s)
  | 0x118 => some (if bits v 16 8 = 0 then trpRefuse off cRANGE s else acc (storeBits TRP_PIN_CFG 0xFFFFFF v s))
  | 0x120 => some (trpHeldWrite off 0xFFFFFFFF v (v % 2 ^ 20 = 0) s)
  | 0x124 => some (trpHeldWrite off 0xF v true s)
  | 0x128 => some (trpHeldWrite off 0xFFFF v true s)
  | 0x130 => some (trpHeldWrite off 0xFFFFFFFF v true s)
  | 0x134 => some (trpHeldWrite off 0xFFFFFFFF v true s)
  | 0x138 => some (trpHeldWrite off 0xFFFFFFFF v true s)
  | 0x13C => some (trpHeldWrite off 0xFFFFFFFF v true s)
  | 0x15C => some (acc (if bit v 4 then foldS trpRelease (List.range 16) s else trpRelease (v % 16) s))
  | 0x160 => some (acc (trpCntClear v s))
  | _ =>
    if 0x100000 ≤ off && off < 0x100800 then some (trpDirWrite off v s)
    else if 0x200000 ≤ off then some (trpHeldWrite off 0xFFFFFFFF v true s)
    else none

/-- Reads of TRP registers whose value is derived. -/
def trpRead (off : Nat) (s : State) : Option Nat :=
  let rep := s.trp.reps.head?
  match off with
  | 0x8 => some (b2n (decide (0 < trpBeams s))
      + 2 * b2n (decide (0 < trpBeams s) && (List.range (trpBeams s)).all (fun b => (s.tbeam b).n = 64)))
  | 0x104 => some (trpBeams s + 256 * s.rf TRP_STATE_ACTIVE_BANK
      + 512 * b2n ((heldBy s uTRP).any (fun w => w.kind = wWSWAP)) + 1024 * b2n s.trp.pend.isSome
      + 2048 * b2n (trpPinsDriven s) + 4096 * b2n (ringOn s))
  | 0x12C => some (ringNF s)
  | 0x148 => some (match rep with | some r => r.anchor % 2 ^ 32 | none => 0)
  | 0x14C => some (match rep with | some r => r.anchor / 2 ^ 32 % 2 ^ 32 | none => 0)
  | 0x150 => some (match rep with
      | some r => r.rule + 64 * b2n r.suspect + 256 * r.beam + 65536 * r.cap + 2 ^ 31
      | none => 0)
  | 0x154 => some (match rep with | some r => r.ratio | none => 0)
  | 0x158 => some s.trp.reps.length
  | _ =>
    if 0x1000 ≤ off && off < 0x1400 && off % 16 = 0 then
      let b := (off - 0x1000) / 16
      let n := (s.tbeam b).n
      some (n + 256 * b2n (decide (n = 64)) + 512 * b2n (decide (b < trpBeams s)))
    else none

/-! ### Reports and the ring -/

/-- The TRIG waymark of a report (R312). -/
def trigMark (r : TrpRep) : Waymark :=
  { kind := wTRIG, flags := 0, scope := 0, anchor := r.anchor
    arg := r.rule + 64 * b2n r.suspect + 256 * r.beam + 65536 * min (r.ratio / 256) 65535 }

/-- The TRIG waymark waits on every port of `TRP_OUT_CFG.PORTS` (R313). -/
def rideTrig (w : Waymark) (s : State) : State :=
  { s with frm := { s.frm with ride := s.frm.ride ++ (maskList 8 (bits (s.reg TRP_OUT_CFG) 0 8)).map (fun p => (p, w)) } }

/-- The checks of the oldest firing's frames end (R312). -/
def trpReport (suspect : Bool) (s : State) : State :=
  match s.trp.fires with
  | [] => s
  | (r, mark) :: rest =>
    let r := { r with suspect := suspect }
    let s := { s with trp := { s.trp with fires := rest } }
    let s := if suspect then raise EV_TRP_SUSPECT_TRIGGER r.rule (r.anchor % 2 ^ 32) (s.inc TRP_CNT_SUSPECT 1) else s
    let s :=
      if s.trp.reps.length < 256 then { s with trp := { s.trp with reps := s.trp.reps ++ [r] } }
      else
        let s := s.inc TRP_CNT_REP_LOST 1
        if s.trp.overflowed then s
        else raise EV_TRP_REP_OVERFLOW (s.reg TRP_CNT_REP_LOST) 0 { s with trp := { s.trp with overflowed := true } }
    if !mark then s
    else rideTrig (trigMark r) (sigAdd (r.anchor / stgSpan s) 4095 0 3 (trigMark r).bytes suspect s)

/-- One recorded stream's share of a ring record: its 256 words, and whether any sample is void. -/
def ringStream (s : State) (slot f d : Nat) : List Byte × Bool :=
  match (trpHist s slot).find? (fun t => t.f.index = f * 256 * d) with
  | some t => if t.f.isVoid then (List.replicate 512 0#8, true) else (t.f.samples.flatMap (fun h => leBytes 2 h.toNat), false)
  | none => (List.replicate 512 0#8, true)

/-- Write, or skip, the next frame time of the ring (R316, R317). -/
def ringWrite (s : State) : State :=
  let s := trpDrain s
  let d := trpD s
  let set := ringSetOf s
  if !(ringOn s) then s
  else
    let f := s.trp.ringNext.getD (ceilDiv s.trp.from_ (256 * d))
    if trpUpto s < (f + 1) * 256 * d then s
    else
      let ids := set.map (·.2)
      let s := if s.trp.ringSet = ids && s.trp.ringNext.isSome then s
        else
          foldS (fun e t => if (t.cap e).st = 1 || (t.cap e).st = 2 then t.setCap e { (t.cap e) with st := 4 } else t)
            (List.range 16) { s with trp := { s.trp with ringSet := ids, ringStart := f } }
      let nf := ringNF s
      let s := { s with trp := { s.trp with ringNext := some (f + 1) } }
      if (heldFrames s).any (fun g => decide (g < f) && decide (g % nf = f % nf)) then s.inc TRP_CNT_RING_SKIP 1
      else
        let parts := ids.map (fun j => ringStream s j f d)
        let vbits := bitsToBytes 16 (parts.map (·.2))
        let rec_ := leBytes 8 (f * 256 * d) ++ vbits ++ List.replicate 40 0#8 ++ parts.flatMap (·.1)
        let base := s.reg64 TRP_RING_BASE_LO TRP_RING_BASE_HI
        let (_, s) := hbmPut 4 (base + (f % nf) * ringRecord ids.length) rec_ s
        let s := s.setReg64 TRP_RING_POS_LO TRP_RING_POS_HI (f * 256 * d)
        foldS (fun e t => if (t.cap e).st = 1 && (t.cap e).last = f then t.setCap e { (t.cap e) with st := 2 } else t)
          (List.range 16) s

/-! ### Meanings -/

/-- TRP_WINDOW -/
def execTrpWindow (s : State) : Host.Outcome State Fault Refusal :=
  .next (if markBlocked s uTRP then s else trpWindow s)

/-- PIN_PULSE_END -/
def execPinPulseEnd (pin : Fin 8) (s : State) : Host.Outcome State Fault Refusal := .next (setPin pin.val false s)

/-- TRP_REPORT -/
def execTrpReport (suspect : Bool) (s : State) : Host.Outcome State Fault Refusal := .next (trpReport suspect s)

/-- TRIG_MARK_TIMEOUT: the TRIG waymark leaves the port in a MARK frame of its own (R313). -/
def execTrigMarkTimeout (port : Fin 8) (s : State) : Host.Outcome State Fault Refusal :=
  let p := port.val
  match s.frm.ride.find? (fun x => x.1 = p && x.2.kind = wTRIG) with
  | none => .next s
  | some x =>
    let s := { s with frm := { s.frm with ride := s.frm.ride.erase x } }
    .next (sendPort p { Frame.blank kMARK with
      protoGen := s.rf TRU_ARITH_PROTO_GEN, srcChip := ownChip s, twinGen := s.rf HLT_TWIN_STATUS_TWIN_GEN
      index := s.mer.idx, arithGen := s.rf TRU_ARITH_IN_FORCE, waymarks := [x.2] } s)

/-- RING_FRAME_WRITE -/
def execRingFrameWrite (s : State) : Host.Outcome State Fault Refusal := .next (ringWrite s)

end Sys2Proof.Machine
end

