-- ==== Sys2Proof/Machine/Brg.lean ====
section
/-! DEFINITION. The bearing cores (BRG): R157 to R179. -/

namespace Sys2Proof.Machine

def State.core (s : State) (c : Nat) : CoreSt := sget CoreSt.blank s.brg.cores c
def State.setCore (s : State) (c : Nat) (k : CoreSt) : State :=
  { s with brg := { s.brg with cores := sset CoreSt.blank s.brg.cores c k } }

/-- The bank in force. -/
def CoreSt.bank (k : CoreSt) : BankSt := if k.shadow then k.shad else k.main
def CoreSt.setBank (k : CoreSt) (x : BankSt) : CoreSt := if k.shadow then { k with shad := x } else { k with main := x }

/-- Register `r` as the next instruction sees it; b0 reads as zero (R159). -/
def CoreSt.rd (k : CoreSt) (r : Nat) : Nat := if r = 0 then 0 else sget 0 k.bank.b r

/-- Register `r` as a signed number. -/
def CoreSt.rdS (k : CoreSt) (r : Nat) : Int := sext 32 (k.rd r)

/-- A register write; writes to b0 are ignored (R159). -/
def BankSt.wr (x : BankSt) (r v : Nat) : BankSt := if r = 0 then x else { x with b := sset 0 x.b r (v % 2 ^ 32) }

/-! Fields of an instruction (R168). -/
def iOp (w : Nat) : Nat := bits w 26 6
def iD (w : Nat) : Nat := bits w 21 5
def iS (w : Nat) : Nat := bits w 16 5
def iT (w : Nat) : Nat := bits w 11 5
def iImm (w : Nat) : Nat := bits w 0 16

/-- Is the instruction word legal: a listed opcode, zero in every field that Table 7.4 and R167 do not name, and no operand
outside its table? -/
def brgLegal (w : Nat) : Bool :=
  match iOp w with
  | 0x00 => bits w 0 26 = 0
  | 0x01 => bits w 0 11 = 0
  | 0x02 => bits w 0 11 = 0
  | 0x03 => bits w 0 11 = 0
  | 0x04 => bits w 0 11 = 0
  | 0x05 => bits w 0 11 = 0
  | 0x06 => bits w 0 11 = 0
  | 0x07 => bits w 0 11 = 0
  | 0x08 => bits w 0 11 = 0
  | 0x09 => bits w 0 11 = 0
  | 0x0A => true
  | 0x0B => true
  | 0x0C => bits w 16 5 = 0
  | 0x10 => bits w 0 16 = 0
  | 0x11 => bits w 0 17 = 0 && decide (bits w 18 3 < 6)
  | 0x12 => bits w 21 1 = 0
  | 0x13 => bits w 16 7 = 0
  | 0x14 => bits w 4 17 = 0 && decide (bits w 0 4 < 8)
  | 0x18 => bits w 0 7 = 0 && decide (bits w 10 2 ≠ 3) && (bit w 25 || bits w 22 3 = 0) && (bit w 19 || bits w 15 4 = 0)
  | 0x19 => bits w 0 7 = 0 && decide (bits w 10 2 ≠ 3) && (bit w 25 || bits w 22 3 = 0) && (bit w 19 || bits w 15 4 = 0)
  | 0x1A => bits w 0 7 = 0 && decide (bits w 10 2 ≠ 3) && (bit w 25 || bits w 22 3 = 0) && (bit w 19 || bits w 15 4 = 0)
  | 0x1B => bits w 0 12 = 0
  | 0x1C => bits w 6 10 = 0 && bits w 21 3 = 0
  | 0x20 => true
  | 0x21 => true
  | 0x22 => true
  | 0x23 => true
  | 0x24 => bits w 12 14 = 0
  | 0x25 => bits w 12 14 = 0
  | 0x26 => bits w 0 26 = 0
  | 0x27 => if bit w 25 then bits w 22 3 = 0 else bits w 6 14 = 0
  | 0x28 => bits w 0 16 = 0
  | 0x29 => bits w 0 15 = 0
  | 0x2A => bits w 2 19 = 0
  | 0x2B => bits w 0 26 = 0
  | 0x30 => bits w 0 26 = 0
  | 0x31 => bits w 0 26 = 0
  | 0x32 => bits w 0 26 = 0
  | 0x33 => bits w 0 26 = 0
  | 0x3F => bits w 0 26 = 0
  | _ => false

/-- The registers that an instruction reads. -/
def brgReads (w : Nat) : List Nat :=
  match iOp w with
  | 0x01 => [iS w, iT w] | 0x02 => [iS w, iT w] | 0x03 => [iS w, iT w] | 0x04 => [iS w, iT w] | 0x05 => [iS w, iT w]
  | 0x06 => [iS w] | 0x07 => [iS w] | 0x08 => [iS w]
  | 0x09 => [iS w, iT w]
  | 0x0A => [iS w] | 0x0B => [iS w]
  | 0x11 => [iD w]
  | 0x12 => if bit w 22 then [iS w] else []
  | 0x18 => (if bit w 25 then [bits w 20 5] else []) ++ (if bit w 19 then [bits w 14 5] else [])
  | 0x19 => (if bit w 25 then [bits w 20 5] else []) ++ (if bit w 19 then [bits w 14 5] else [])
  | 0x1A => (if bit w 25 then [bits w 20 5] else []) ++ (if bit w 19 then [bits w 14 5] else [])
  | 0x1C => [iS w]
  | 0x20 => [iD w, iS w] | 0x21 => [iD w, iS w] | 0x22 => [iD w, iS w] | 0x23 => [iD w, iS w]
  | 0x26 => [31]
  | 0x27 => if bit w 25 then [] else [bits w 20 5]
  | 0x28 => [iD w, iD w + 1, iD w + 2, iD w + 3, iS w]
  | 0x29 => [iD w, iD w + 1, iD w + 2, iD w + 3, iS w]
  | 0x2A => [iD w]
  | _ => []

/-- The pointers through which an instruction reads X or Y memory. -/
def brgMemPtrs (w : Nat) : List Nat :=
  match iOp w with
  | 0x10 => [bits w 18 3]
  | 0x18 => (if bit w 25 then [] else [bits w 20 2]) ++ (if bit w 19 then [] else [4 + bits w 14 1])
  | 0x19 => (if bit w 25 then [] else [bits w 20 2]) ++ (if bit w 19 then [] else [4 + bits w 14 1])
  | 0x1A => (if bit w 25 then [] else [bits w 20 2]) ++ (if bit w 19 then [] else [4 + bits w 14 1])
  | _ => []

/-! ### Memories (R159, R160) -/

def CoreSt.ptr (k : CoreSt) (p : Nat) : Nat := sget 0 k.bank.p p
def CoreSt.mod (k : CoreSt) (p : Nat) : Int := sget 0 k.bank.m p

/-- The control address of the word that pointer `p` addresses in core `c`: X for p0 to p3, Y for p4 and p5, word `hi` of a
coefficient pair for p6 and p7. Addresses wrap. -/
def brgAddr (c : Nat) (k : CoreSt) (p hi : Nat) : Nat :=
  if p < 4 then BRG_X c (k.ptr p % 16384)
  else if p < 6 then BRG_Y c (k.ptr p % 16384)
  else BRG_COEF c (2 * (k.ptr p % 4096) + hi)

/-- The word that the next instruction reads at a control address: the old word at distance 1 behind an `ST` (R161). -/
def brgMem (k : CoreSt) (s : State) (a : Nat) : Nat :=
  match k.memOld with
  | some (x, old) => if x = a then old else s.reg a
  | none => s.reg a

/-- Post-modify the pointers `ps`. -/
def BankSt.postMod (x : BankSt) (ps : List Nat) : BankSt :=
  foldS (fun p y => { y with p := sset 0 y.p p (toU 14 ((sget 0 x.p p : Nat) + sget 0 x.m p)) }) ps x

/-! ### Flow -/

def inBody (x : BankSt) (t : Nat) : Bool := decide (0 < x.loopCount) && decide (x.loopStart ≤ t) && decide (t ≤ x.loopEnd)

/-- The address after the instruction at `pc` in sequence, and the bank with its loop count advanced (R163). -/
def seqNext (pc : Nat) (x : BankSt) : Nat × BankSt :=
  if 0 < x.loopCount && pc = x.loopEnd then
    if 1 < x.loopCount then (x.loopStart, { x with loopCount := x.loopCount - 1 })
    else ((pc + 1) % 4096, { x with loopCount := 0 })
  else ((pc + 1) % 4096, x)

/-- Move past the instruction; `br` is `some` for a branch, with its target if it is taken (R162). -/
def brgAdvance (br : Option (Option Nat)) (k : CoreSt) : CoreSt :=
  match k.slot with
  | some (some t) =>
    let x := k.bank
    ({ k with pc := t % 4096, slot := none }).setBank (if inBody x (t % 4096) then x else { x with loopCount := 0 })
  | _ =>
    let (pc, x) := seqNext k.pc k.bank
    ({ k with pc := pc, slot := br }).setBank x

/-- Make the pending late register write visible, and the accumulators as they stand to `EXT`. -/
def CoreSt.settle (k : CoreSt) : CoreSt :=
  let x := match k.late with | some (r, v) => k.bank.wr r v | none => k.bank
  ({ k with late := none }).setBank { x with aPrev := x.a }

/-- What an instruction does to its core beside its own reads: register writes visible at once, the one visible at distance
2, the word that an `ST` replaced, and the flow. -/
structure BrgEff where
  fast : List (Nat × Nat)
  late : Option (Nat × Nat)
  mem : Option (Nat × Nat)
  br : Option (Option Nat)
  deriving DecidableEq, Repr

def BrgEff.none_ : BrgEff := ⟨[], none, none, none⟩

/-- Retire an instruction of core `c`: `upd` changes the bank after the pending write of the instruction before has become
visible (R161). -/
def retire (c : Nat) (upd : BankSt → BankSt) (e : BrgEff) (s : State) : State :=
  let k := (s.core c).settle
  let x := foldS (fun y z => z.wr y.1 y.2) e.fast (upd k.bank)
  let k := { k.setBank x with late := e.late, memOld := e.mem }
  s.setCore c (brgAdvance e.br k)

/-- A fault halts the core (R166). -/
def brgFault (c cause : Nat) (s : State) : State :=
  let k := s.core c
  raise EV_BRG_CORE_FAULT c (cause + 65536 * k.pc) (s.setCore c { k with st := 3, cause := cause, wait := 0 })

/-- The word at the core's next instruction. -/
def brgFetch (c : Nat) (s : State) : Nat := s.reg (BRG_PROG c (s.core c).pc)

/-- The causes pending (Table 7.5). -/
def brgCauses (c : Nat) (s : State) : Nat := b2n (s.core c).tickCause + 2 * (s.reg (BRG_CORE_DOORBELL c) % 2)

/-- Is an enabled source pending? -/
def brgIrq (c : Nat) (s : State) : Bool := decide (brgCauses c s &&& (s.reg (BRG_CORE_IEN c) % 4) ≠ 0)

/-- Does the next instruction read a location whose write is still outside its visibility distance? -/
def brgReadsLate (c : Nat) (s : State) : Bool :=
  let k := s.core c
  let w := brgFetch c s
  (match k.late with | some (r, _) => (brgReads w).contains r && decide (r ≠ 0) | none => false)
    || (decide (iOp w = 0x1B) && decide (sget 0 k.bank.a (bits w 19 2) ≠ sget 0 k.bank.aPrev (bits w 19 2)))
    || (match k.memOld with
        | some (a, _) => (brgMemPtrs w).any (fun p => brgAddr c k p 0 = a)
        | none => false)

/-- May the core accept an interrupt at this boundary (R164)? -/
def brgMayAccept (c : Nat) (s : State) : Bool :=
  let k := s.core c
  k.st = 1 && !k.shadow && k.ei && k.slot.isNone && brgIrq c s && !(brgReadsLate c s)

/-- A running core that reaches an illegal instruction faults (R168). -/
def brgReach (c : Nat) (s : State) : State :=
  if (s.core c).st = 1 && !(brgLegal (brgFetch c s)) && !(brgMayAccept c s) then brgFault c 1 s else s

/-! ### Ticks (R169 to R173) -/

/-- The cores whose POST closes a tick. -/
def brgPostMask (s : State) : List Nat := maskList 16 (s.reg BRG_POST_MASK)

/-- Send the waymarks of a closed tick (R173). -/
def tickClosed (t : TickSt) (s : State) : State :=
  let a := t.target * bits (s.reg BRG_HOP) 0 24 % 2 ^ 64
  let model : Waymark := { kind := wMODEL, flags := 0, scope := 0, anchor := a, arg := t.n % 64 }
  let sw (b : Nat) : Waymark := { kind := wWSWAP, flags := 0, scope := 0, anchor := a, arg := b }
  let ws := (uSTG, model) :: t.wswaps.flatMap (fun b => [(uSTG, sw b), (uTRP, sw b)])
  { s with wm := { s.wm with transit := s.wm.transit ++ ws } }

/-- Close every tick that waits on no core. -/
def brgClose (s : State) : State :=
  let done (t : TickSt) : Bool := (brgPostMask s).all (fun c => t.posted.contains c)
  let l := s.brg.open_
  foldS tickClosed (l.filter done) { s with brg := { s.brg with open_ := l.filter (fun t => !done t) } }

/-- Core `c` has posted tick `n`. -/
def brgPosted (c n : Nat) (s : State) : State :=
  let s := s.setReg (BRG_CORE_POSTED c) n
  let l := s.brg.open_.map (fun t => if t.n = n && !(t.posted.contains c) then { t with posted := t.posted ++ [c] } else t)
  brgClose { s with brg := { s.brg with open_ := l } }

/-- The postings at the head of the core's queue take effect. -/
def brgFlushPosts (c : Nat) : Nat → State → State
  | 0, s => s
  | fuel + 1, s =>
    match (s.core c).q with
    | .post n :: rest => brgFlushPosts c fuel (brgPosted c n (s.setCore c { s.core c with q := rest }))
    | _ => s

/-- The oldest record of core `c` reaches HBM on port P6 (R172, R173). -/
def brgWritten (c : Nat) (s : State) : State :=
  match (s.core c).q with
  | .put a ws :: rest =>
    let s := (hbmPut 6 a (ws.flatMap (leBytes 4)) (s.setCore c { s.core c with q := rest })).2
    brgFlushPosts c ((s.core c).q.length) s
  | _ => s

/-- Spectra per tick. -/
def brgPeriod (s : State) : Nat := 2 ^ s.rf BRG_TICK_CFG_PERIOD_LOG2

/-- The sample index at which tick `n` fires. -/
def tickIndex (s : State) (n : Nat) : Int :=
  ((n * brgPeriod s : Nat) - (s.rf BRG_TICK_CFG_LEAD : Int)) * (bits (s.reg BRG_HOP) 0 24 : Nat)

/-- The first tick that fires at or after the present index (R169). -/
def brgRenumber (s : State) : State :=
  let hop := bits (s.reg BRG_HOP) 0 24
  let n := if s.rf MER_STATE_IDX_VALID = 1 then some (ceilDiv (ceilDiv s.mer.idx hop + s.rf BRG_TICK_CFG_LEAD) (brgPeriod s)) else none
  { s with brg := { s.brg with nextTick := n } }

/-- Tick `n` fires or is skipped (R169 to R171). -/
def brgFire (n : Nat) (s : State) : State :=
  let s := { s with brg := { s.brg with nextTick := some (n + 1) } }
  match s.brg.open_ with
  | _ :: _ :: _ => raise EV_BRG_TICK_OVERRUN n s.brg.open_.length (s.inc BRG_CNT_OVERRUN 1)
  | prior =>
    let mask := brgPostMask s
    let s := foldS (fun t u =>
      raise EV_BRG_POST_STALL t.n ((mask.filter (fun c => !(t.posted.contains c))).foldl (fun a c => a + 2 ^ c) 0)
        (u.inc BRG_CNT_STALL 1)) prior s
    let s := match s.brg.armed with
      | some (h, t) => if t ≤ n then
          ({ s with brg := { s.brg with armed := none } }).wf BRG_DIR_CTRL_ACTIVE_HALF h else s
      | none => s
    let target := n * brgPeriod s
    let half := s.rf BRG_DIR_CTRL_ACTIVE_HALF
    let s := foldS (fun c u =>
      let k := u.core c
      u.setCore c { k with ticks := k.ticks ++ [(n, target, half)], tickCause := k.tickCause || bit (u.reg (BRG_CORE_IEN c)) 0 })
      mask s
    brgClose { s with brg := { s.brg with open_ := s.brg.open_ ++ [{ n := n, target := target, posted := [], wswaps := [] }] } }

/-- The tick step: the ingress index has reached the next tick's firing index (R169). -/
def brgTick (s : State) : State :=
  match s.brg.nextTick with
  | some n =>
    if s.rf BRG_BASIC_RUN = 1 && s.rf MER_STATE_IDX_VALID = 1 && decide (tickIndex s n ≤ s.mer.idx) then brgFire n s else s
  | none => s

/-- A write of `BRG_DIR_CTRL` arms a switch to HALF (R171). -/
def brgDirArm (v : Nat) (s : State) : State :=
  let s := storeBits BRG_DIR_CTRL 1 v s
  let t := s.reg BRG_DIR_TICK
  let next := s.brg.nextTick.getD 0
  let ahead := toU 32 ((t : Int) - (next : Int))
  if ahead < 2 ^ 31 then { s with brg := { s.brg with armed := some (v % 2, next + ahead) } }
  else raise EV_BRG_DIR_LATE t next { s with brg := { s.brg with armed := some (v % 2, next) } }

/-! ### Instructions (Tables 7.3 and 7.4) -/

/-- A register result visible at distance 1. -/
def brgAlu (c d v : Nat) (s : State) : State := retire c id { BrgEff.none_ with fast := [(d, v)] } s

/-- A register result visible at distance 2. -/
def brgLate (c d v : Nat) (upd : BankSt → BankSt) (s : State) : State :=
  retire c upd { BrgEff.none_ with late := some (d, v % 2 ^ 32) } s

def iNop (c : Nat) (s : State) : State := retire c id BrgEff.none_ s
def iAdd (c w : Nat) (s : State) : State := brgAlu c (iD w) ((s.core c).rd (iS w) + (s.core c).rd (iT w)) s
def iSub (c w : Nat) (s : State) : State :=
  brgAlu c (iD w) ((s.core c).rd (iS w) + 2 ^ 32 - (s.core c).rd (iT w)) s
def iAnd (c w : Nat) (s : State) : State := brgAlu c (iD w) ((s.core c).rd (iS w) &&& (s.core c).rd (iT w)) s
def iOr (c w : Nat) (s : State) : State := brgAlu c (iD w) ((s.core c).rd (iS w) ||| (s.core c).rd (iT w)) s
def iXor (c w : Nat) (s : State) : State := brgAlu c (iD w) ((s.core c).rd (iS w) ^^^ (s.core c).rd (iT w)) s
def iShl (c w : Nat) (s : State) : State := brgAlu c (iD w) ((s.core c).rd (iS w) * 2 ^ iT w) s
def iShr (c w : Nat) (s : State) : State := brgAlu c (iD w) ((s.core c).rd (iS w) / 2 ^ iT w) s
def iSra (c w : Nat) (s : State) : State := brgAlu c (iD w) (toU 32 ((s.core c).rdS (iS w) / (2 ^ iT w : Nat))) s
def iMul (c w : Nat) (s : State) : State := brgAlu c (iD w) ((s.core c).rd (iS w) * (s.core c).rd (iT w)) s
def iAddi (c w : Nat) (s : State) : State :=
  brgAlu c (iD w) (toU 32 ((s.core c).rdS (iS w) + sext 16 (iImm w))) s
def iOri (c w : Nat) (s : State) : State := brgAlu c (iD w) ((s.core c).rd (iS w) ||| iImm w) s
def iLui (c w : Nat) (s : State) : State := brgAlu c (iD w) (iImm w * 2 ^ 16) s

def iLd (c w : Nat) (s : State) : State :=
  let k := s.core c
  let p := bits w 18 3
  brgLate c (iD w) (brgMem k s (brgAddr c k p (bits w 16 1))) (fun x => if bit w 17 then x.postMod [p] else x) s

def iSt (c w : Nat) (s : State) : State :=
  let k := s.core c
  let p := bits w 18 3
  let a := brgAddr c k p 0
  retire c (fun x => if bit w 17 then x.postMod [p] else x) { BrgEff.none_ with mem := some (a, s.reg a) }
    (s.setReg a (k.rd (iD w)))

def iSetp (c w : Nat) (s : State) : State :=
  let v := if bit w 22 then (s.core c).rd (iS w) else iImm w
  retire c (fun x => { x with p := sset 0 x.p (bits w 23 3) (v % 2 ^ 14) }) BrgEff.none_ s

def iSetm (c w : Nat) (s : State) : State :=
  retire c (fun x => { x with m := sset 0 x.m (bits w 23 3) (wrapS 14 (sext 16 (iImm w))) }) BrgEff.none_ s

/-- A special register (Table 7.5). -/
def brgSpecial (c code : Nat) (s : State) : Nat :=
  let t := (s.core c).tick.getD (0, 0, 0)
  match code with
  | 0 => c
  | 1 => t.1 % 2 ^ 32
  | 2 => t.2.1 % 2 ^ 32
  | 3 => t.2.1 / 2 ^ 32 % 2 ^ 32
  | 4 => t.1 % 64
  | 5 => t.2.2
  | 6 => brgCauses c s
  | _ => s.reg (BRG_CORE_MBOX c)

def iMfs (c w : Nat) (s : State) : State := brgLate c (iD w) (brgSpecial c (bits w 0 4) s) id s

/-- Operands x, y, c0, c1 of a multiply-accumulate (R167). -/
def macOperands (c w : Nat) (s : State) : Int × Int × Int × Int :=
  let k := s.core c
  let x := if bit w 25 then k.rdS (bits w 20 5) else sext 32 (brgMem k s (brgAddr c k (bits w 20 2) 0))
  let y := if bit w 19 then k.rdS (bits w 14 5) else sext 32 (brgMem k s (brgAddr c k (4 + bits w 14 1) 0))
  let coef (h : Nat) : Int :=
    let v := s.reg (brgAddr c k (6 + bits w 13 1) h)
    if bit w 9 then (v : Int) else sext 32 v
  (x, y, coef 0, coef 1)

/-- Retire a multiply-accumulate that gives `prods` as (accumulator, product). -/
def brgMac (c w : Nat) (prods : List (Nat × Int)) (s : State) : State :=
  let ptrs := brgMemPtrs w ++ [6 + bits w 13 1]
  retire c (fun x =>
    let x := foldS (fun ap y =>
      let old := sget 0 y.a ap.1
      let v := match bits w 10 2 with | 0 => ap.2 | 1 => old + ap.2 | _ => old - ap.2
      { y with a := sset 0 y.a ap.1 (wrapS 72 v) }) prods x
    if bit w 12 then x.postMod ptrs else x) BrgEff.none_ s

def iOmac (c w : Nat) (s : State) : State :=
  let (x, y, c0, c1) := macOperands c w s
  brgMac c w [(0, x * c0), (1, x * c1), (2, y * c0), (3, y * c1)] s

def iCmac (c w : Nat) (s : State) : State :=
  let (x, y, c0, c1) := macOperands c w s
  let k := 2 * bits w 7 1
  brgMac c w [(k, x * c0 - y * c1), (k + 1, x * c1 + y * c0)] s

def iDmac (c w : Nat) (s : State) : State :=
  let (x, y, c0, c1) := macOperands c w s
  brgMac c w [(bits w 7 2, x * c0 + y * c1)] s

def iExt (c w : Nat) (s : State) : State :=
  let k := s.core c
  let v := rneShift (sget 0 k.bank.aPrev (bits w 19 2)) (bits w 13 6)
  let clamped := satS 32 v
  if bit w 12 && clamped ≠ v then
    brgLate c (iD w) (toU 32 clamped) id (s.setCore c { k with sat := true })
  else brgLate c (iD w) (toU 32 v) id s

def iMova (c w : Nat) (s : State) : State :=
  let v := wrapS 72 ((s.core c).rdS (iS w) * (2 ^ bits w 0 6 : Nat))
  retire c (fun x => { x with a := sset 0 x.a (bits w 24 2) v }) BrgEff.none_ s

/-- A branch: a fault in a delay slot, otherwise to `t` after one delay slot if `taken` (R162). -/
def brgBranch (c : Nat) (taken : Bool) (t : Nat) (fast : List (Nat × Nat)) (s : State) : State :=
  if (s.core c).slot.isSome then brgFault c 3 s
  else retire c id { BrgEff.none_ with fast := fast, br := some (if taken then some (t % 4096) else none) } s

/-- The target of a conditional branch. -/
def brgTarget (c w : Nat) (s : State) : Nat := toU 12 (((s.core c).pc : Int) + sext 16 (iImm w))

def iBeq (c w : Nat) (s : State) : State :=
  brgBranch c (decide ((s.core c).rdS (iD w) = (s.core c).rdS (iS w))) (brgTarget c w s) [] s
def iBne (c w : Nat) (s : State) : State :=
  brgBranch c (decide ((s.core c).rdS (iD w) ≠ (s.core c).rdS (iS w))) (brgTarget c w s) [] s
def iBlt (c w : Nat) (s : State) : State :=
  brgBranch c (decide ((s.core c).rdS (iD w) < (s.core c).rdS (iS w))) (brgTarget c w s) [] s
def iBge (c w : Nat) (s : State) : State :=
  brgBranch c (decide ((s.core c).rdS (iS w) ≤ (s.core c).rdS (iD w))) (brgTarget c w s) [] s
def iJmp (c w : Nat) (s : State) : State := brgBranch c true (bits w 0 12) [] s
def iCall (c w : Nat) (s : State) : State := brgBranch c true (bits w 0 12) [(31, ((s.core c).pc + 2) % 4096)] s
def iRet (c : Nat) (s : State) : State := brgBranch c true ((s.core c).rd 31) [] s

/-- `LOOP` (R163). -/
def iLoop (c w : Nat) (s : State) : State :=
  let k := s.core c
  if 0 < k.bank.loopCount then brgFault c 2 s
  else
    let r := k.rd (bits w 20 5)
    let n := if bit w 25 then bits w 6 16 + 1 else if r ≤ 65536 then r else (Config.brgLoopCount r).toNat
    let l := bits w 0 6 + 1
    let pc := k.pc
    if n = 0 then
      let s := retire c id BrgEff.none_ s
      if k.slot.isSome then s else s.setCore c { s.core c with pc := (pc + 1 + l) % 4096 }
    else
      let s := retire c id BrgEff.none_ s
      let k := s.core c
      let x := { k.bank with loopCount := n, loopStart := pc + 1, loopEnd := pc + l }
      s.setCore c (k.setBank x)

def iPut (c w : Nat) (s : State) : State :=
  let k := s.core c
  let r := k.rd (iS w)
  if iD w % 4 ≠ 0 then brgFault c 4 s
  else
    let a := s.reg64 STG_MODEL_BASE_LO STG_MODEL_BASE_HI + bits r 16 6 * 65536 + bits r 0 12 * 16
    let ws := (List.range 4).map (fun i => k.rd (iD w + i))
    retire c id BrgEff.none_ (s.setCore c { k with q := k.q ++ [.put a ws] })

/-- Is a bank of the X-arrays' direction and weight tables in use (R194)? -/
def xarBankInUse (s : State) (b : Nat) : Bool :=
  s.rf XAR_WG_STATE_ACTIVE_BANK = b || (heldBy s uXAR).any (fun w => w.kind = wWSWAP && w.arg % 2 = b)

/-- Must a `DIR` of this target wait (R194, R304)? -/
def dirWaits (target : Nat) (s : State) : Bool :=
  if target = 0 then xarBankInUse s 0 && xarBankInUse s 1 else trpBankInUse s 0 && trpBankInUse s 1

def iDir (c w : Nat) (s : State) : State :=
  let k := s.core c
  let e := bits (k.rd (iS w)) 0 11
  if iD w % 4 ≠ 0 then brgFault c 4 s
  else if dirWaits (bits w 15 1) s then (if k.st = 1 then s.setCore c { k with st := 2, wait := 3 } else s)
  else
    let ws := (List.range 4).map (fun i => k.rd (iD w + i))
    let s := if bits w 15 1 = 0 then
        foldS (fun x t => t.setReg (XAR_DIR (1 - s.rf XAR_WG_STATE_ACTIVE_BANK) (4 * e + x.2)) x.1) ws.zipIdx s
      else trpDirRecord e ws s
    retire c id BrgEff.none_ s

def iPost (c w : Nat) (s : State) : State :=
  let k := s.core c
  match k.tick with
  | none => retire c id BrgEff.none_ s
  | some t =>
    let s := if bit w 1 then
        let l := s.brg.open_.map (fun x => if x.n = t.1 then { x with wswaps := x.wswaps ++ [k.rd (iD w) % 2] } else x)
        { s with brg := { s.brg with open_ := l } }
      else s
    let s := if bit w 0 then s.setCore c { k with q := k.q ++ [.post t.1] } else s
    brgFlushPosts c ((s.core c).q.length) (retire c id BrgEff.none_ s)

/-- `WAITT`: consume the oldest pending tick, or wait. -/
def iWaitt (c : Nat) (s : State) : State :=
  let k := s.core c
  match k.ticks with
  | t :: rest => retire c id BrgEff.none_ (s.setCore c { k with ticks := rest, tick := some t })
  | [] => if k.st = 1 then s.setCore c { k with st := 2, wait := 1 } else s

/-- `WAITI`: go on when an enabled interrupt source is pending, or wait. -/
def iWaiti (c : Nat) (s : State) : State :=
  if brgIrq c s then retire c id BrgEff.none_ s
  else
    let k := s.core c
    if k.st = 1 then s.setCore c { k with st := 2, wait := 2 } else s

/-- `RETI` (R164, R165). -/
def iReti (c : Nat) (s : State) : State :=
  let k := s.core c
  if !k.shadow then brgFault c 5 s
  else
    let s := if bit k.entryCause 1 then s.setReg (BRG_CORE_DOORBELL c) 0 else s
    let k := k.settle
    s.setCore c { k with shadow := false, ei := true, pc := k.savedPc, slot := none, memOld := none, entryCause := 0
                         tickCause := k.tickCause && !(bit k.entryCause 0) }

def iEi (c : Nat) (s : State) : State := retire c id BrgEff.none_ (s.setCore c { s.core c with ei := true })
def iDi (c : Nat) (s : State) : State := retire c id BrgEff.none_ (s.setCore c { s.core c with ei := false })

def iHalt (c : Nat) (s : State) : State :=
  let s := retire c id BrgEff.none_ s
  raise EV_BRG_CORE_HALTED c (s.core c).pc (s.setCore c { s.core c with st := 0 })

/-- One instruction of core `c`, by its word. -/
def brgInstr (c w : Nat) (s : State) : State :=
  if !(brgLegal w) then brgFault c 1 s
  else
    match iOp w with
    | 0x00 => iNop c s
    | 0x01 => iAdd c w s
    | 0x02 => iSub c w s
    | 0x03 => iAnd c w s
    | 0x04 => iOr c w s
    | 0x05 => iXor c w s
    | 0x06 => iShl c w s
    | 0x07 => iShr c w s
    | 0x08 => iSra c w s
    | 0x09 => iMul c w s
    | 0x0A => iAddi c w s
    | 0x0B => iOri c w s
    | 0x0C => iLui c w s
    | 0x10 => iLd c w s
    | 0x11 => iSt c w s
    | 0x12 => iSetp c w s
    | 0x13 => iSetm c w s
    | 0x14 => iMfs c w s
    | 0x18 => iOmac c w s
    | 0x19 => iCmac c w s
    | 0x1A => iDmac c w s
    | 0x1B => iExt c w s
    | 0x1C => iMova c w s
    | 0x20 => iBeq c w s
    | 0x21 => iBne c w s
    | 0x22 => iBlt c w s
    | 0x23 => iBge c w s
    | 0x24 => iJmp c w s
    | 0x25 => iCall c w s
    | 0x26 => iRet c s
    | 0x27 => iLoop c w s
    | 0x28 => iPut c w s
    | 0x29 => iDir c w s
    | 0x2A => iPost c w s
    | 0x2B => iWaitt c s
    | 0x30 => iWaiti c s
    | 0x31 => iReti c s
    | 0x32 => iEi c s
    | 0x33 => iDi c s
    | _ => iHalt c s

/-- Core `c` executes its next instruction with `run`, if it is running and that instruction has opcode `op`. -/
def brgExec (op c : Nat) (run : State → State) (s : State) : State :=
  let w := brgFetch c s
  if (s.core c).st = 1 && brgLegal w && iOp w = op then brgReach c (run s) else s

/-- A waiting core resumes (R165). -/
def brgWaitEnd (c : Nat) (s : State) : State :=
  let k := s.core c
  let w := brgFetch c s
  let go := match k.wait with
    | 1 => !k.ticks.isEmpty
    | 2 => brgIrq c s
    | 3 => !(dirWaits (bits w 15 1) s)
    | _ => false
  if k.st = 2 && go then brgReach c (brgInstr c w (s.setCore c { k with st := 1, wait := 0 })) else s

/-- The core switches to the shadow bank at its vector (R164). -/
def brgAccept (c : Nat) (s : State) : State :=
  if brgMayAccept c s then
    let k := (s.core c).settle
    brgReach c (s.setCore c { k with savedPc := k.pc, shadow := true, ei := false, entryCause := brgCauses c s
                                     pc := bits (s.reg (BRG_CORE_VEC c)) 0 12 })
  else s

/-! ### Host control (R157, R166, R179) -/

/-- Words of the built-in program (R176), from address 0. -/
def builtinProgram : List Nat :=
  let op (o : Nat) : Nat := o * 2 ^ 26
  let r3 (o d s t : Nat) : Nat := op o + d * 2 ^ 21 + s * 2 ^ 16 + t * 2 ^ 11
  let setpI (p v : Nat) : Nat := op 0x12 + p * 2 ^ 23 + v
  let setm1 (p : Nat) : Nat := op 0x13 + p * 2 ^ 23 + 1
  let ld (d p : Nat) : Nat := op 0x10 + d * 2 ^ 21 + p * 2 ^ 18
  let mfs (d c : Nat) : Nat := op 0x14 + d * 2 ^ 21 + c
  let omacM (o : Nat) : Nat := op 0x18 + 2 ^ 12 + o * 2 ^ 10
  let omacR (x y : Nat) : Nat := op 0x18 + 2 ^ 25 + x * 2 ^ 20 + 2 ^ 19 + y * 2 ^ 14 + 2 ^ 9
  let ext (d a sh sat : Nat) : Nat := op 0x1B + d * 2 ^ 21 + a * 2 ^ 19 + sh * 2 ^ 13 + sat * 2 ^ 12
  let put (d r : Nat) : Nat := op 0x28 + d * 2 ^ 21 + r * 2 ^ 16
  let addi (d s v : Nat) : Nat := op 0x0A + d * 2 ^ 21 + s * 2 ^ 16 + v
  [setpI 0 0, setpI 1 1, ld 21 0, ld 20 1, setm1 0, setm1 4, setm1 6]
  ++ [op 0x2B, mfs 2 2, mfs 3 4, mfs 22 5, r3 6 1 3 16, r3 4 1 1 21, r3 6 23 22 3, setpI 0 16, setpI 4 16,
      op 0x27 + 20 * 2 ^ 20 + 24]
  ++ [op 0x12 + 6 * 2 ^ 23 + 2 ^ 22 + 23 * 2 ^ 16, omacM 0, omacM 1, omacM 1, omacM 1, 0,
      ext 4 0 30 1, ext 5 1 26 1, ext 6 2 30 1, ext 7 3 26 1]
  ++ [omacR 4 5, 0, ext 8 0 8 0, ext 9 1 8 0, ext 10 2 32 0, omacR 6 7, r3 4 11 2 0, put 8 1]
  ++ [ext 12 0 8 0, ext 13 1 8 0, ext 14 2 32 0, r3 4 15 2 0, addi 1 1 1, put 12 1, addi 1 1 1]
  ++ [op 0x2A + 1, op 0x24 + 7, 0]

/-- Load the built-in program into core `c`. -/
def brgLoadBuiltin (c : Nat) (s : State) : State :=
  foldS (fun x t => t.setReg (BRG_PROG c x.2) x.1) builtinProgram.zipIdx s

/-- Start core `c` at its entry address, both banks clear (R166). -/
def brgStart (c : Nat) (s : State) : State :=
  let k := s.core c
  brgReach c (s.setCore c { CoreSt.blank with
    st := 1, pc := bits (s.reg (BRG_CORE_ENTRY c)) 0 12, tickCause := k.tickCause, ticks := k.ticks, tick := k.tick, q := k.q })

/-- Halt core `c` after its in-flight instructions. -/
def brgHaltCore (c : Nat) (s : State) : State :=
  let k := s.core c
  if k.st = 1 || k.st = 2 then s.setCore c { k.settle with st := 0, wait := 0, memOld := none } else s

def brgHalted (c : Nat) (s : State) : Bool := (s.core c).st = 0 || (s.core c).st = 3

/-- One instruction of a halted core. -/
def brgStep (c : Nat) (s : State) : State :=
  if (s.core c).st = 0 then brgInstr c (brgFetch c s) s else s

def brgRefuse (off c : Nat) (s : State) : WOut := refuse uBRG off c s

/-- `UNIT_BASIC` (R157). -/
def brgBasicWrite (v : Nat) (s : State) : WOut :=
  if bits v 8 4 < 8 then brgRefuse 0x18 0 s
  else
    let s := (storeBits (UNIT_BASIC 8) 0xFFFF0F03 v s).wf BRG_TICK_CFG_PERIOD_LOG2 (bits v 8 4)
    let s := foldS brgHaltCore (List.range 16) s
    if bit v 0 then
      let cs := maskList 16 (bits v 16 16)
      let s := if bit v 1 then foldS brgLoadBuiltin cs s else s
      let s := brgClose (s.setReg BRG_POST_MASK (bits v 16 16))
      acc (foldS brgStart cs (brgRenumber s))
    else acc s

/-- `BRG_CORE_CTRL`: LOADBI first, then RUN, HALT and STEP. -/
def brgCtrlWrite (off c v : Nat) (s : State) : WOut :=
  if bit v 3 && !(brgHalted c s) then brgRefuse off c s
  else
    let s := if bit v 3 then brgLoadBuiltin c s else s
    let s := if bit v 0 then brgStart c s else s
    let s := if bit v 1 then brgHaltCore c s else s
    acc (if bit v 2 then brgStep c s else s)

def brgCntClear (v : Nat) (s : State) : State := if bit v 0 then s.zero [BRG_CNT_OVERRUN, BRG_CNT_STALL] else s

/-- Writes of BRG registers and memories that do more than store. -/
def brgWrite (off v : Nat) (s : State) : Option WOut :=
  match off with
  | 0x18 => some (brgBasicWrite v s)
  | 0x100 => some (
      if s.rf BRG_BASIC_RUN = 1 || bits v 0 4 < 8 then brgRefuse off 0 s else acc (storeBits BRG_TICK_CFG 0xFFFF000F v s))
  | 0x104 => some (if s.rf BRG_BASIC_RUN = 1 then brgRefuse off 0 s else acc (storeBits BRG_HOP 0xFFFFFF v s))
  | 0x110 => some (acc (brgClose (storeBits BRG_POST_MASK 0xFFFF v s)))
  | 0x11C => some (acc (brgDirArm v s))
  | 0x120 => some (acc (brgCntClear v s))
  | _ =>
    if 0x1000 ≤ off && off < 0x1400 then
      let c := (off - 0x1000) / 0x40
      match off % 0x40 with
      | 0 => some (brgCtrlWrite off c v s)
      | 0x14 => some (acc (if bit v 0 then s.setReg (BRG_CORE_DOORBELL c) 1 else s))
      | _ => none
    else if 0x100000 ≤ off then
      let c := (off - 0x100000) / 0x40000
      if 0x30000 ≤ (off - 0x100000) % 0x40000 && !(brgHalted c s) then some (brgRefuse off c s)
      else some (acc (s.setReg (0x8000000 + off) v))
    else none

/-- Reads of BRG registers whose value is derived. -/
def brgRead (off : Nat) (s : State) : Option Nat :=
  let target := s.brg.nextTick.getD 0 * brgPeriod s
  match off with
  | 0x8 => some ((List.range 16).foldl (fun a c => if (s.core c).st = 1 || (s.core c).st = 2 then a + 2 ^ c else a) 0)
  | 0x108 => some (target % 2 ^ 32)
  | 0x10C => some (target / 2 ^ 32 % 2 ^ 32)
  | 0x114 => some (match s.brg.open_ with
      | t :: _ => t.posted.foldl (fun a c => a + 2 ^ c) 0 + 65536 * s.brg.open_.length
      | [] => 0)
  | 0x11C => some (s.rf BRG_DIR_CTRL_HALF + 256 * b2n s.brg.armed.isSome + 512 * s.rf BRG_DIR_CTRL_ACTIVE_HALF)
  | _ =>
    if 0x1000 ≤ off && off < 0x1400 && off % 0x40 = 4 then
      let k := s.core ((off - 0x1000) / 0x40)
      some (k.st + 4 * b2n k.shadow + 8 * b2n k.sat + 16 * k.cause + 65536 * k.pc)
    else none

/-! ### Meanings -/

/-- BRG_TICK_FIRE -/
def execBrgTickFire (s : State) : Host.Outcome State Fault Refusal := .next (brgTick s)
/-- BRG_INTERRUPT_ACCEPT -/
def execBrgInterruptAccept (core : Fin 16) (s : State) : Host.Outcome State Fault Refusal := .next (brgAccept core.val s)
/-- BRG_WAIT_END -/
def execBrgWaitEnd (core : Fin 16) (s : State) : Host.Outcome State Fault Refusal := .next (brgWaitEnd core.val s)
/-- BRG_PUT_WRITTEN -/
def execBrgPutWritten (core : Fin 16) (s : State) : Host.Outcome State Fault Refusal := .next (brgWritten core.val s)
/-- BRG_NOP -/
def execBrgNop (core : Fin 16) (s : State) : Host.Outcome State Fault Refusal :=
  .next (brgExec 0x0 core.val (fun t => iNop core.val t) s)
/-- BRG_ADD -/
def execBrgAdd (core : Fin 16) (s : State) : Host.Outcome State Fault Refusal :=
  .next (brgExec 0x1 core.val (fun t => iAdd core.val (brgFetch core.val t) t) s)
/-- BRG_SUB -/
def execBrgSub (core : Fin 16) (s : State) : Host.Outcome State Fault Refusal :=
  .next (brgExec 0x2 core.val (fun t => iSub core.val (brgFetch core.val t) t) s)
/-- BRG_AND -/
def execBrgAnd (core : Fin 16) (s : State) : Host.Outcome State Fault Refusal :=
  .next (brgExec 0x3 core.val (fun t => iAnd core.val (brgFetch core.val t) t) s)
/-- BRG_OR -/
def execBrgOr (core : Fin 16) (s : State) : Host.Outcome State Fault Refusal :=
  .next (brgExec 0x4 core.val (fun t => iOr core.val (brgFetch core.val t) t) s)
/-- BRG_XOR -/
def execBrgXor (core : Fin 16) (s : State) : Host.Outcome State Fault Refusal :=
  .next (brgExec 0x5 core.val (fun t => iXor core.val (brgFetch core.val t) t) s)
/-- BRG_SHL -/
def execBrgShl (core : Fin 16) (s : State) : Host.Outcome State Fault Refusal :=
  .next (brgExec 0x6 core.val (fun t => iShl core.val (brgFetch core.val t) t) s)
/-- BRG_SHR -/
def execBrgShr (core : Fin 16) (s : State) : Host.Outcome State Fault Refusal :=
  .next (brgExec 0x7 core.val (fun t => iShr core.val (brgFetch core.val t) t) s)
/-- BRG_SRA -/
def execBrgSra (core : Fin 16) (s : State) : Host.Outcome State Fault Refusal :=
  .next (brgExec 0x8 core.val (fun t => iSra core.val (brgFetch core.val t) t) s)
/-- BRG_MUL -/
def execBrgMul (core : Fin 16) (s : State) : Host.Outcome State Fault Refusal :=
  .next (brgExec 0x9 core.val (fun t => iMul core.val (brgFetch core.val t) t) s)
/-- BRG_ADDI -/
def execBrgAddi (core : Fin 16) (s : State) : Host.Outcome State Fault Refusal :=
  .next (brgExec 0xa core.val (fun t => iAddi core.val (brgFetch core.val t) t) s)
/-- BRG_ORI -/
def execBrgOri (core : Fin 16) (s : State) : Host.Outcome State Fault Refusal :=
  .next (brgExec 0xb core.val (fun t => iOri core.val (brgFetch core.val t) t) s)
/-- BRG_LUI -/
def execBrgLui (core : Fin 16) (s : State) : Host.Outcome State Fault Refusal :=
  .next (brgExec 0xc core.val (fun t => iLui core.val (brgFetch core.val t) t) s)
/-- BRG_LD -/
def execBrgLd (core : Fin 16) (s : State) : Host.Outcome State Fault Refusal :=
  .next (brgExec 0x10 core.val (fun t => iLd core.val (brgFetch core.val t) t) s)
/-- BRG_ST -/
def execBrgSt (core : Fin 16) (s : State) : Host.Outcome State Fault Refusal :=
  .next (brgExec 0x11 core.val (fun t => iSt core.val (brgFetch core.val t) t) s)
/-- BRG_SETP -/
def execBrgSetp (core : Fin 16) (s : State) : Host.Outcome State Fault Refusal :=
  .next (brgExec 0x12 core.val (fun t => iSetp core.val (brgFetch core.val t) t) s)
/-- BRG_SETM -/
def execBrgSetm (core : Fin 16) (s : State) : Host.Outcome State Fault Refusal :=
  .next (brgExec 0x13 core.val (fun t => iSetm core.val (brgFetch core.val t) t) s)
/-- BRG_MFS -/
def execBrgMfs (core : Fin 16) (s : State) : Host.Outcome State Fault Refusal :=
  .next (brgExec 0x14 core.val (fun t => iMfs core.val (brgFetch core.val t) t) s)
/-- BRG_OMAC -/
def execBrgOmac (core : Fin 16) (s : State) : Host.Outcome State Fault Refusal :=
  .next (brgExec 0x18 core.val (fun t => iOmac core.val (brgFetch core.val t) t) s)
/-- BRG_CMAC -/
def execBrgCmac (core : Fin 16) (s : State) : Host.Outcome State Fault Refusal :=
  .next (brgExec 0x19 core.val (fun t => iCmac core.val (brgFetch core.val t) t) s)
/-- BRG_DMAC -/
def execBrgDmac (core : Fin 16) (s : State) : Host.Outcome State Fault Refusal :=
  .next (brgExec 0x1a core.val (fun t => iDmac core.val (brgFetch core.val t) t) s)
/-- BRG_EXT -/
def execBrgExt (core : Fin 16) (s : State) : Host.Outcome State Fault Refusal :=
  .next (brgExec 0x1b core.val (fun t => iExt core.val (brgFetch core.val t) t) s)
/-- BRG_MOVA -/
def execBrgMova (core : Fin 16) (s : State) : Host.Outcome State Fault Refusal :=
  .next (brgExec 0x1c core.val (fun t => iMova core.val (brgFetch core.val t) t) s)
/-- BRG_BEQ -/
def execBrgBeq (core : Fin 16) (s : State) : Host.Outcome State Fault Refusal :=
  .next (brgExec 0x20 core.val (fun t => iBeq core.val (brgFetch core.val t) t) s)
/-- BRG_BNE -/
def execBrgBne (core : Fin 16) (s : State) : Host.Outcome State Fault Refusal :=
  .next (brgExec 0x21 core.val (fun t => iBne core.val (brgFetch core.val t) t) s)
/-- BRG_BLT -/
def execBrgBlt (core : Fin 16) (s : State) : Host.Outcome State Fault Refusal :=
  .next (brgExec 0x22 core.val (fun t => iBlt core.val (brgFetch core.val t) t) s)
/-- BRG_BGE -/
def execBrgBge (core : Fin 16) (s : State) : Host.Outcome State Fault Refusal :=
  .next (brgExec 0x23 core.val (fun t => iBge core.val (brgFetch core.val t) t) s)
/-- BRG_JMP -/
def execBrgJmp (core : Fin 16) (s : State) : Host.Outcome State Fault Refusal :=
  .next (brgExec 0x24 core.val (fun t => iJmp core.val (brgFetch core.val t) t) s)
/-- BRG_CALL -/
def execBrgCall (core : Fin 16) (s : State) : Host.Outcome State Fault Refusal :=
  .next (brgExec 0x25 core.val (fun t => iCall core.val (brgFetch core.val t) t) s)
/-- BRG_RET -/
def execBrgRet (core : Fin 16) (s : State) : Host.Outcome State Fault Refusal :=
  .next (brgExec 0x26 core.val (fun t => iRet core.val t) s)
/-- BRG_LOOP -/
def execBrgLoop (core : Fin 16) (s : State) : Host.Outcome State Fault Refusal :=
  .next (brgExec 0x27 core.val (fun t => iLoop core.val (brgFetch core.val t) t) s)
/-- BRG_PUT -/
def execBrgPut (core : Fin 16) (s : State) : Host.Outcome State Fault Refusal :=
  .next (brgExec 0x28 core.val (fun t => iPut core.val (brgFetch core.val t) t) s)
/-- BRG_DIR -/
def execBrgDir (core : Fin 16) (s : State) : Host.Outcome State Fault Refusal :=
  .next (brgExec 0x29 core.val (fun t => iDir core.val (brgFetch core.val t) t) s)
/-- BRG_POST -/
def execBrgPost (core : Fin 16) (s : State) : Host.Outcome State Fault Refusal :=
  .next (brgExec 0x2a core.val (fun t => iPost core.val (brgFetch core.val t) t) s)
/-- BRG_WAITT -/
def execBrgWaitt (core : Fin 16) (s : State) : Host.Outcome State Fault Refusal :=
  .next (brgExec 0x2b core.val (fun t => iWaitt core.val t) s)
/-- BRG_WAITI -/
def execBrgWaiti (core : Fin 16) (s : State) : Host.Outcome State Fault Refusal :=
  .next (brgExec 0x30 core.val (fun t => iWaiti core.val t) s)
/-- BRG_RETI -/
def execBrgReti (core : Fin 16) (s : State) : Host.Outcome State Fault Refusal :=
  .next (brgExec 0x31 core.val (fun t => iReti core.val t) s)
/-- BRG_EI -/
def execBrgEi (core : Fin 16) (s : State) : Host.Outcome State Fault Refusal :=
  .next (brgExec 0x32 core.val (fun t => iEi core.val t) s)
/-- BRG_DI -/
def execBrgDi (core : Fin 16) (s : State) : Host.Outcome State Fault Refusal :=
  .next (brgExec 0x33 core.val (fun t => iDi core.val t) s)
/-- BRG_HALT -/
def execBrgHalt (core : Fin 16) (s : State) : Host.Outcome State Fault Refusal :=
  .next (brgExec 0x3f core.val (fun t => iHalt core.val t) s)

end Sys2Proof.Machine
end

