-- ==== Sys2Proof/Machine/Grt.lean ====
section
/-! DEFINITION. The graticule (GRT): routing tables, links, sending and receiving frames (R131, R133 to R142, R155). -/

namespace Sys2Proof.Machine

/-! ### Tables -/

/-- The shadow tables as the registers hold them (R134, R137). -/
def grtShadow (s : State) : RouteTab :=
  { entries := ((List.range 64).filter (fun e => bit (s.reg (GRT_ROUTE_OWNER e)) 31)).map (fun e =>
      let c := s.reg (GRT_ROUTE_CHAN e)
      let o := s.reg (GRT_ROUTE_OWNER e)
      { first := bits c 0 16, count := bits c 16 16, owner := bits o 0 6
        twin := if bit o 14 then some (bits o 8 6) else none })
    hops := ((List.range 64).filter (fun d => bits (s.reg (GRT_HOP d)) 8 8 ≠ 0)).map (fun d =>
      (d, bits (s.reg (GRT_HOP d)) 0 6, bits (s.reg (GRT_HOP d)) 8 8))
    lanes := ((List.range 80).filter (fun n => bit (s.reg (GRT_LANE_CFG n)) 8)).map (fun n =>
      (n, bits (s.reg (GRT_LANE_CFG n)) 0 6)) }

/-- The table that governs spectrum index `i` (R134). -/
def grtTab (s : State) (i : Nat) : RouteTab :=
  if i < s.grt.since then s.grt.prev.getD s.grt.tab else s.grt.tab

/-- The entry that covers channel `c`. -/
def RouteTab.ofChan (t : RouteTab) (c : Nat) : Option RouteEnt :=
  t.entries.find? (fun e => decide (e.first ≤ c) && decide (c < e.first + e.count))

/-- The channels that a chip owns, as (first, count), in ascending order. -/
def RouteTab.owned (t : RouteTab) (chip : Nat) : List (Nat × Nat) :=
  ((t.entries.filter (fun e => e.owner = chip)).map (fun e => (e.first, e.count))).mergeSort (fun a b => decide (a.1 ≤ b.1))

/-- The relay of a destination and its mask. -/
def RouteTab.hop (t : RouteTab) (d : Nat) : Option (Nat × Nat) := (t.hops.find? (fun h => h.1 = d)).map (·.2)

/-- The lanes of the link to a chip. -/
def RouteTab.link (t : RouteTab) (chip : Nat) : List Nat := (t.lanes.filter (fun l => l.2 = chip)).map (·.1)

/-- The lanes of a route to destination `d`: 0 direct, 1 by the relay. -/
def RouteTab.route (t : RouteTab) (d r : Nat) : List Nat :=
  if r = 0 then t.link d else match t.hop d with | some (c, _) => t.link c | none => []

/-- The route that R137 gives a frame to `d` with INDEX `i`. -/
def RouteTab.pick (t : RouteTab) (d i : Nat) : Nat :=
  match t.hop d with | some (_, m) => b2n (bit m (i % 8)) | none => 0

/-- Chips named as owner or twin, other than `me`, in ascending order (R141). -/
def RouteTab.chips (t : RouteTab) (me : Nat) : List Nat :=
  (List.range 64).filter (fun c => c ≠ me && t.entries.any (fun e => e.owner = c || e.twin = some c))

/-- Do two enabled entries overlap? -/
def RouteTab.overlaps (t : RouteTab) : Bool :=
  t.entries.zipIdx.any (fun a => t.entries.zipIdx.any (fun b =>
    decide (a.2 < b.2) && decide (a.1.first < b.1.first + b.1.count) && decide (b.1.first < a.1.first + a.1.count)))

/-- Has every owner and twin a link or a relay? -/
def RouteTab.reachable (t : RouteTab) (me : Nat) : Bool :=
  (t.chips me).all (fun c => !(t.link c).isEmpty || (t.hop c).isSome)

/-- `GRT_ROUTE_CRC` over the enabled entries of the table in force (R134). -/
def grtCrc (s : State) : Nat :=
  crc crc32C (s.grt.tab.entries.flatMap (fun e =>
    leBytes 4 (e.first + 65536 * e.count)
      ++ leBytes 4 (e.owner + 256 * e.twin.getD 0 + 2 ^ 14 * b2n e.twin.isSome + 2 ^ 31)))

/-! ### Lanes and routes -/

/-- May lane `n` carry graticule frames: a GRATICULE lane, its transmit side ACTIVE or held only by auto-idle? -/
def grtLaneUp (s : State) (n : Nat) : Bool :=
  octetRole s (n / 8) = roGRATICULE
    && ((s.lane n).tx = lACTIVE || ((s.lane n).tx = lIDLE && (s.lane n).autoHeld && s.rf (LNS_LANE_CTRL_IDLE n) = 0))

/-- The active lanes of a route (R136, R140). -/
def routeUp (s : State) (t : RouteTab) (d r : Nat) : List Nat := (t.route d r).filter (grtLaneUp s)

/-- Do routes exist: direct unless the mask is full, by relay unless it is empty? -/
def routesOf (t : RouteTab) (d : Nat) : List Nat :=
  match t.hop d with
  | some (_, m) => if m = 0xFF then [1] else [0, 1]
  | none => [0]

/-- `LINKS_UP` (R155): every link and relay of the table in force has an active lane. -/
def grtLinksUp (s : State) : Bool :=
  (s.grt.tab.chips (ownChip s)).all (fun d => (routesOf s.grt.tab d).all (fun r => !(routeUp s s.grt.tab d r).isEmpty))

/-- Move destination `d` to its other route, or back, as R140 gives with REROUTE armed. -/
def grtReview (d : Nat) (s : State) : State :=
  let t := s.grt.tab
  let up (r : Nat) : Bool := !(routeUp s t d r).isEmpty
  match sget 0 s.grt.moved d with
  | 0 =>
    if s.rf GRT_ARM_REROUTE = 0 then s
    else
      match (routesOf t d).find? (fun r => !(up r) && up (1 - r)) with
      | some r => raise EV_GRT_REROUTED d (1 - r) { s with grt := { s.grt with moved := sset 0 s.grt.moved d (2 - r) } }
      | none => s
  | m + 1 => if up (1 - m) then raise EV_GRT_REROUTED d (1 - m) { s with grt := { s.grt with moved := sset 0 s.grt.moved d 0 } } else s

/-- Review every destination of the table in force, after a lane came up or went down. -/
def grtReviewAll (s : State) : State := foldS grtReview (s.grt.tab.chips (ownChip s)) s

/-- Send a frame on route `r` of destination `d`, or discard it with LINK_DOWN once per outage (R140). A part that does
not drive `TWIN_ACT` drives no graticule lane (R429). -/
def grtOnRoute (t : RouteTab) (d r : Nat) (f : Frame) (s : State) : State :=
  match routeUp s t d r with
  | [] =>
    let s := s.inc GRT_CNT_NOLINK 1
    if sget false s.grt.down (2 * d + r) then s
    else raise EV_GRT_LINK_DOWN d r { s with grt := { s.grt with down := sset false s.grt.down (2 * d + r) true } }
  | ls =>
    let s := { s with grt := { s.grt with down := sset false s.grt.down (2 * d + r) false } }
    let (q, s) := nextSeq (32 + 2 * d + r) (frameClass f) s
    if drivesPrivileged s then sendLanes ls { f with seq := q } s else s

/-- Send a frame to destination `d` under table `t` (R137, R140). -/
def grtSend (t : RouteTab) (d : Nat) (f : Frame) (s : State) : State :=
  let s := grtReview d s
  let r := match sget 0 s.grt.moved d with | 0 => t.pick d f.index | m + 1 => m
  grtOnRoute t d r f s

/-- Hand a frame to staging inside the part. -/
def toStaging (octet : Option Nat) (link : Nat) (f : Frame) (s : State) : State :=
  { s with stg := { s.stg with inQ := s.stg.inQ ++ [{ octet := octet, link := link, f := f }] } }

/-! ### Waymarks with FLAGS.ARRAY (R141) -/

/-- The internal mark of a waymark that arrived over the graticule and is not forwarded again (above the eight FLAGS
bits of Table 2.7). -/
def farMark : Nat := 0x100

/-- Send a waymark to every chip of the table in force in ascending order, in a MARK or CTRL frame. -/
def arrayForward (w : Waymark) (s : State) : State :=
  if !(bit w.flags 0) || bit w.flags 8 then s
  else
    let t := s.grt.tab
    foldS (fun d u =>
      let low := ((t.entries.filter (fun e => e.owner = d || e.twin = some d)).map (·.first)).foldl min 65535
      grtSend t d (Frame.sealed { Frame.blank (if waymarkControl w.kind then kCTRL else kMARK) with
        protoGen := u.rf TRU_ARITH_PROTO_GEN, srcChip := ownChip u, twinGen := u.rf HLT_TWIN_STATUS_TWIN_GEN
        firstChan := low, index := u.mer.idx, arithGen := u.rf TRU_ARITH_IN_FORCE
        waymarks := [{ w with flags := w.flags % 256 }] }) u) (t.chips (ownChip s)) s

/-- A waymark reaches the graticule: it goes on to staging unless it came from another part, and with FLAGS.ARRAY to every
part of the group. -/
def grtMark (w : Waymark) (s : State) : State :=
  if bit w.flags 8 then s else arrayForward w (passMark uGRT w s)

/-! ### Register writes -/

def grtRefuse (off cause : Nat) (s : State) : WOut := refuse uGRT off cause s

/-- APPLY (R134) of the shadow in `t`, from anchor `a`, refused with `off`. -/
def grtApply (off : Nat) (now : Bool) (t : State) (s : State) : WOut :=
  let sh := grtShadow t
  let base := match s.grt.pend with | some (p, _) => p | none => s.grt.tab
  let me := ownChip s
  if sh.owned me ≠ base.owned me && s.rf ⟨STG_STATE, 0, 2⟩ ≠ stSTOPPED then grtRefuse off cSTATE s
  else if sh.overlaps || !(sh.reachable me) then grtRefuse off cCONFLICT s
  else
    let a := if now then t.grt.seen else t.reg64 GRT_ANCHOR_LO GRT_ANCHOR_HI
    acc (State.wf { t with grt := { t.grt with pend := some (sh, a) } } ⟨GRT_STATE, 0, 1⟩ 1)

/-- Transmit offsets of the reference wiring (R142): lane LN(40 + i) of part k goes to part k + dᵢ. -/
def refOffset (i : Nat) : Nat :=
  if i < 31 then i + 1 else [1, 3, 7, 12, 16, 20, 25, 29, 31].getD (i - 31) 0

/-- Relay offsets of Table 6.1: (d, e₁). -/
def refRelays : List (Nat × Nat) :=
  [(2, 1), (4, 3), (5, 12), (6, 3), (8, 1), (9, 16), (10, 3), (11, 12), (13, 16), (14, 7), (15, 3), (17, 16), (18, 25),
   (19, 7), (21, 20), (22, 29), (23, 20), (24, 31), (26, 29), (27, 7), (28, 29), (30, 31)]

/-- The shadow tables as a preset fills them (R131). -/
def grtPreset (preset parts chans : Nat) (s : State) : State :=
  let me := ownChip s
  let s := s.zero ((List.range 64).map GRT_ROUTE_CHAN ++ (List.range 64).map GRT_ROUTE_OWNER ++ (List.range 64).map GRT_HOP
    ++ (List.range 80).map GRT_LANE_CFG)
  let s := foldS (fun k t => (t.setReg (GRT_ROUTE_CHAN k) (chans * k + 65536 * chans)).setReg (GRT_ROUTE_OWNER k) (k + 2 ^ 31))
    (List.range parts) s
  if preset = 1 then
    foldS (fun n t => if octetRole t (n / 8) = roGRATICULE && bit (t.reg (GRT_LANE_FAR n)) 8
      then t.setReg (GRT_LANE_CFG n) (bits (t.reg (GRT_LANE_FAR n)) 0 6 + 256) else t) (List.range 80) s
  else
    let s := foldS (fun i t => t.setReg (GRT_LANE_CFG (40 + i)) ((me + refOffset i) % 32 + 256)) (List.range 40) s
    foldS (fun x t => t.setReg (GRT_HOP ((me + x.1) % 32)) ((me + x.2) % 32 + 0x8000)) refRelays s

/-- `UNIT_BASIC` (R131). -/
def grtBasicWrite (v : Nat) (s : State) : WOut :=
  let preset := bits v 0 2
  let parts := bits v 8 7
  let chans := bits v 16 16
  if preset = 3 || parts < 1 || 64 < parts || (preset ≠ 0 && 65536 < chans * parts) then grtRefuse 0x18 cRANGE s
  else if preset = 2 && (parts ≠ 32 || !((rangeFrom 5 5).all (fun k => octetRole s k = roGRATICULE))) then
    grtRefuse 0x18 cCONFLICT s
  else
    let t := storeBits (UNIT_BASIC 6) 0xFFFF7F03 v s
    grtApply 0x18 true (if preset = 0 then t else grtPreset preset parts chans t) s

/-- `GRT_CHIP` (R133). -/
def grtChipWrite (v : Nat) (s : State) : WOut :=
  let busy := (List.range 80).any (fun n => octetRole s (n / 8) = roGRATICULE
    && laneCode (s.lane n) ≠ lDISABLED && laneCode (s.lane n) ≠ lIDLE)
  if busy then grtRefuse 0x100 cSTATE s else acc (s.setReg GRT_CHIP (v % 64))

/-- `GRT_CNT_CLEAR` (R86). -/
def grtCntClear (v : Nat) (s : State) : State :=
  if bit v 0 then s.zero [GRT_CNT_UNROUTED, GRT_CNT_MISROUTE, GRT_CNT_NOLINK, GRT_CNT_RELAYED] else s

/-- Writes of GRT registers that do more than store. -/
def grtWrite (off v : Nat) (s : State) : Option WOut :=
  match off with
  | 0x18 => some (grtBasicWrite v s)
  | 0x100 => some (grtChipWrite v s)
  | 0x104 => some (if bit v 0 then grtApply 0x104 (bit v 1) s s else acc s)
  | 0x118 => some (acc (grtCntClear v s))
  | _ => none

/-- Reads of GRT registers whose value is derived. -/
def grtRead (off : Nat) (s : State) : Option Nat :=
  match off with
  | 0x8 => some (b2n (grtLinksUp s))
  | 0x110 => some (b2n s.grt.pend.isSome + 2 * b2n s.grt.prev.isSome)
  | 0x114 => some (grtCrc s)
  | _ => none

/-! ### Applying, sending -/

/-- The pending table comes into force from its anchor (R134). -/
def grtCommit (s : State) : State :=
  match s.grt.pend with
  | some (t, a) =>
    State.wf { s with grt := { s.grt with prev := some s.grt.tab, tab := t, since := a, pend := none, moved := [] } } ⟨GRT_STATE, 0, 2⟩ 2
  | none => s

/-- Commit a pending table that spectrum index `i` has reached. -/
def grtCommitAt (i : Nat) (s : State) : State :=
  let s := { s with grt := { s.grt with seen := max s.grt.seen (i + 1) } }
  match s.grt.pend with
  | some (_, a) => if a ≤ i then grtCommit s else s
  | none => s

/-- Insert a spectrum in order of stream identity. -/
def specInsert (x : SpecIn) : List SpecIn → List SpecIn
  | [] => [x]
  | a :: t => if x.stream < a.stream then x :: a :: t else a :: specInsert x t

/-- Runs of spectra of consecutive stream identities and like arithmetic and format. -/
def specRuns : List SpecIn → List (List SpecIn)
  | [] => []
  | x :: t =>
    match specRuns t with
    | (y :: r) :: rs =>
      if y.stream = x.stream + 1 && y.fore = x.fore && y.ch16 = x.ch16 then (x :: y :: r) :: rs else [x] :: (y :: r) :: rs
    | rs => [x] :: rs

/-- The SPEC frame of a run for channels `c` to `c + n - 1` (identities), local channel 0 having identity `base`. -/
def specFrame (s : State) (run : List SpecIn) (base c n : Nat) : Frame :=
  let h := run.headD { slot := 0, stream := 0, s := 0, start := 0, void := false, fore := false, ch16 := false, first := 0, vals := [] }
  let fmt := if h.ch16 then fCH16 else fC8
  let all := run.all (fun x => x.void)
  let any := run.any (fun x => x.void)
  let part (x : SpecIn) : List (Int × Int) :=
    if x.void then List.replicate n (0, 0) else (x.vals.drop (c - base - x.first)).take n
  Frame.sealed { Frame.blank kSPEC with
    protoGen := s.rf TRU_ARITH_PROTO_GEN, srcChip := ownChip s, format := fmt, twinGen := s.rf HLT_TWIN_STATUS_TWIN_GEN
    flags := b2n all + 2 * b2n (any && !all) + 8 * b2n h.fore
    firstStream := h.stream, streamCount := run.length, firstChan := c, chanCount := n, index := h.s
    arithGen := s.rf TRU_ARITH_IN_FORCE
    voidMap := if any && !all then run.map (·.void) else []
    samples := if all then [] else run.flatMap (fun x => packElems fmt (part x)) }

/-- Channel ranges of at most `cc` channels from `c`, `n` channels in all; with `half`, each in two halves (R135). -/
def chanCuts (cc : Nat) (half : Bool) : Nat → Nat → Nat → List (Nat × Nat)
  | 0, _, _ => []
  | fuel + 1, c, n =>
    if n = 0 then []
    else
      let k := min cc n
      let here := if half && decide (2 ≤ k) then [(c, k / 2), (c + k / 2, k - k / 2)] else [(c, k)]
      here ++ chanCuts cc half fuel (c + k) (n - k)

/-- Send one run of spectra: cut at entry boundaries and routed (R135, R137, R139). -/
def grtSendRun (run : List SpecIn) (s : State) : State :=
  match run with
  | [] => s
  | h :: _ =>
    let t := grtTab s h.s
    let w := if h.ch16 then 2 else 1
    let cc := max 1 (8192 / (run.length * 2 * w) / 2 * 2)
    let half := run.any (fun x => x.void) && !(run.all (fun x => x.void))
    let base := s.reg CHN_CHAN_BASE
    let c0 := base + h.first
    let n0 := chnCount s
    let covered := t.entries.flatMap (fun e =>
      let lo := max c0 e.first
      let hi := min (c0 + n0) (e.first + e.count)
      (chanCuts cc half n0 lo (hi - lo)).map (fun x => (x, e)))
    let s := foldS (fun x u =>
      let f := specFrame u run base x.1.1 x.1.2
      let u := if x.2.owner = ownChip u then toStaging none (ownChip u) f u else grtSend t x.2.owner f u
      match x.2.twin with
      | some d => if d = ownChip u then u else grtOnRoute t d 0 f u
      | none => u) covered s
    let un := (rangeFrom c0 n0).filter (fun c => (t.ofChan c).isNone)
    s.inc GRT_CNT_UNROUTED (ceilDiv un.length cc)

/-! ### Receiving -/

/-- The far chip that lane `n` has learned (R136). -/
def laneFar (s : State) (n : Nat) : Option Nat :=
  if bit (s.reg (GRT_LANE_FAR n)) 8 then some (bits (s.reg (GRT_LANE_FAR n)) 0 6) else none

/-- The destination of a frame: the owner of its FIRST_CHAN under the table for its INDEX. MARK and CTRL frames carry a
sample index and are routed by the table in force. -/
def frameDest (s : State) (f : Frame) : Option Nat :=
  let t := if f.kind = kMARK || f.kind = kCTRL then s.grt.tab else grtTab s f.index
  match t.ofChan f.firstChan with
  | some e => some (if e.twin = some (ownChip s) && e.owner ≠ ownChip s then ownChip s else e.owner)
  | none => none

/-- A frame in SEQ order for this part: into the receive buffer and to staging; a MARK or CTRL frame's waymarks reach the
units of this part without being forwarded again (R141). -/
def grtTake (n link : Nat) (f : Frame) (s : State) : State :=
  if f.kind = kMARK || f.kind = kCTRL then
    let ws := f.waymarks.map (fun w => { w with flags := w.flags % 256 + farMark })
    { s with wm := { s.wm with transit := s.wm.transit ++ ws.flatMap (fun w => [(uDEC, w), (uSTG, w)]) } }
  else if f.kind ≠ kSPEC then s.inc (FRM_CNT_DISCARD n) 1
  else if rxFits s (n / 8) f then
    toStaging (some (n / 8)) link f (setRxBytes (n / 8) (rxBytesOf s (n / 8) + frameBytes f) s)
  else raise EV_FRM_RX_OVERRUN n f.streamCount (s.inc (FRM_CNT_OVERRUN n) 1)

/-- A frame to be relayed goes on unchanged on the owner's link (R138). -/
def grtRelay (d : Nat) (f : Frame) (s : State) : State :=
  let t := if f.kind = kMARK || f.kind = kCTRL then s.grt.tab else grtTab s f.index
  match routeUp s t d 0 with
  | [] => s.inc GRT_CNT_NOLINK 1
  | ls =>
    let s := s.inc GRT_CNT_RELAYED 1
    if drivesPrivileged s then sendLanes ls f s else s

/-- One frame of a flow in SEQ order: counted gaps for this part only (R136), then taken or relayed. -/
def grtDeliver (n link dest key : Nat) (f : Frame) (s : State) : State :=
  let fl := s.flow key
  let gap := if fl.seen && !fl.fresh then (f.seq + 65536 - fl.seq) % 65536 else 0
  let s := s.setFlow key { fl with seen := true, fresh := false, seq := (f.seq + 1) % 65536, lane := n }
  if dest = ownChip s then grtTake n link f (seqGap (n / 8) f.srcChip gap s) else grtRelay dest f s

/-- Frames of a graticule flow's reorder window that are in order, delivered. -/
def grtDrain (link dest key : Nat) : Nat → State → State
  | 0, s => s
  | fuel + 1, s =>
    let fl := s.flow key
    match fl.held.find? (fun f => f.seq = fl.seq) with
    | some f =>
      grtDrain link dest key fuel (grtDeliver fl.lane link dest key f (s.setFlow key { fl with held := fl.held.erase f }))
    | none => s

/-- A frame arrives whole on a graticule lane (R69, R136, R138). -/
def grtRx (n : Nat) (f : Frame) (chk : Nat) (s : State) : State :=
  match rxLane n f chk s with
  | (.lost, s) => s
  | (.old, s) => s
  | (.discard, s) => s
  | (.good, s) =>
    let link := (laneFar s n).getD f.srcChip
    match frameDest s f with
    | none => raise EV_GRT_MISROUTE n f.srcChip (s.inc GRT_CNT_MISROUTE 1)
    | some d =>
      if d ≠ ownChip s && laneFar s n ≠ some f.srcChip then
        raise EV_GRT_MISROUTE n f.srcChip (s.inc GRT_CNT_MISROUTE 1)
      else
        let key := flowKey (16 + link) d (frameClass f) f.srcChip
        let fl := s.flow key
        let ahead := (f.seq + 65536 - fl.seq) % 65536
        if fl.seen && !fl.fresh && ahead ≠ 0 then
          if ahead < 32768 then s.setFlow key { fl with held := fl.held ++ [f], lane := n } else s.inc (FRM_CNT_DISCARD n) 1
        else
          let s := grtDeliver n link d key f s
          grtDrain link d key (s.flow key).held.length s

/-- The reorder window of a graticule flow closes (R69). -/
def grtReorderClose (link dest key : Nat) : Nat → State → State
  | 0, s => s
  | fuel + 1, s =>
    let fl := s.flow key
    match nearestHeld fl with
    | some f =>
      grtReorderClose link dest key fuel
        (grtDeliver fl.lane link dest key f (s.setFlow key { fl with held := fl.held.erase f }))
    | none => s

/-! ### Meanings -/

/-- REORDER_TIMEOUT: paths 0 to 11 are ingress octets, 16 and above the graticule link from chip `path - 16`. -/
def execReorderTimeout (path : Fin 80) (dest : Fin 64) (control : Bool) (chip : Fin 64) (s : State) :
    Host.Outcome State Fault Refusal :=
  let k := path.val
  if k < 16 then
    let key := flowKey k 0 (b2n control) chip.val
    .next (reorderClose k (8 * k) key (s.flow key).held.length s)
  else
    let key := flowKey k dest.val (b2n control) chip.val
    .next (grtReorderClose (k - 16) dest.val key (s.flow key).held.length s)

/-- LANE_TRAIN_COMPLETE -/
def execLaneTrainComplete (lane : Fin 96) (lock : Bool) (height width : BitVec 8) (s : State) :
    Host.Outcome State Fault Refusal :=
  let n := lane.val
  if (s.lane n).rx ≠ lTRAIN then .next s
  else
    let s := (s.wf (LNS_EYE_HEIGHT n) height.toNat).wf (LNS_EYE_WIDTH n) width.toNat
    if lock then .next (grtReviewAll (checkEye n (enterActive n s)))
    else .next (raise EV_LNS_RETRAIN_FAILED n 0 (s.setLane n { (s.lane n) with tx := lFAULT, rx := lFAULT }))

/-- LANE_DOWN -/
def execLaneDown (lane : Fin 96) (s : State) : Host.Outcome State Fault Refusal :=
  let n := lane.val
  let s := raise EV_LNS_LANE_DOWN n (s.rf (LNS_EYE_HEIGHT n)) (s.wf (LNS_LANE_STATUS_RX_LOCK n) 0)
  let s := if s.rf LNS_ARM_RETRAIN = 1 && !(s.lane n).retrainUsed then
      startTraining n (s.setLane n { (s.lane n) with retrainUsed := true })
    else s.setLane n { (s.lane n) with tx := lFAULT, rx := lFAULT, gen := none }
  .next (grtReviewAll s)

/-- LINKINFO_RX: the receiver counts the block and learns the far chip; a receive side in IDLE returns to ACTIVE (R73);
the generation in use is fixed on entry to ACTIVE (R464); a graticule lane compares the chip with its configuration. -/
def execLinkinfoRx (lane : Fin 96) (offer : Fin 16) (chip : Fin 64) (s : State) : Host.Outcome State Fault Refusal :=
  let n := lane.val
  let l := s.lane n
  let first := l.farOffer.isNone || l.rx = lIDLE
  let s := s.setLane n { l with
    liRx := (l.liRx + 1) % 2 ^ 32, farChip := some chip.val
    farOffer := if first then some offer.val else l.farOffer
    rx := if l.rx = lIDLE then lACTIVE else l.rx }
  let s := if first && (s.lane n).rx = lACTIVE then fixGen n s else s
  if n < 80 && octetRole s (n / 8) = roGRATICULE then
    let cfg := (s.grt.tab.lanes.find? (fun x => x.1 = n)).map (·.2)
    let mis := match cfg with | some c => decide (c ≠ chip.val) | none => false
    let old := s.reg (GRT_LANE_FAR n)
    let new := chip.val + 256 + 512 * b2n mis
    let s := s.setReg (GRT_LANE_FAR n) new
    .next (if mis && old ≠ new then raise EV_GRT_LINK_MISMATCH n chip.val s else s)
  else .next s

/-- GRATICULE_FRAME_RX -/
def execGraticuleFrameRx (lane : Fin 96) (f : Frame) (check : Nat) (s : State) : Host.Outcome State Fault Refusal :=
  .next (if octetRole s (lane.val / 8) = roGRATICULE then grtRx lane.val f check s else s)

/-- GRT_APPLY_COMMIT -/
def execGrtApplyCommit (s : State) : Host.Outcome State Fault Refusal := .next (grtCommit s)

/-- GRT_SPECTRUM_SEND: the spectra of the oldest spectrum index that waits. -/
def execGrtSpectrumSend (s : State) : Host.Outcome State Fault Refusal :=
  match s.grt.inQ with
  | [] => .next s
  | h :: _ =>
    let mine := (s.grt.inQ.filter (fun x => x.s = h.s)).foldl (fun l x => specInsert x l) []
    let s := grtCommitAt h.s { s with grt := { s.grt with inQ := s.grt.inQ.filter (fun x => x.s ≠ h.s) } }
    .next (foldS grtSendRun (specRuns mine) s)

end Sys2Proof.Machine
end

