-- ==== Sys2Proof/Machine/Stg.lean ====
section
/-! DEFINITION. Staging (STG): R132 and R143 to R156. -/

namespace Sys2Proof.Machine

/-! ### Configuration (R143) -/

def stgState (s : State) : Nat := s.reg STG_STATE % 4
def setStgState (n : Nat) (s : State) : State := s.setReg STG_STATE n
def stgStopped (s : State) : Bool := stgState s = stSTOPPED

/-- Spectra per sub-block. -/
def stgQ (s : State) : Nat := 2 ^ (bits (s.reg STG_CFG) 4 4 + 8)
/-- Output format: 0 c8, 1 c4, 2 ch16. -/
def stgFmt (s : State) : Nat := bits (s.reg STG_CFG) 8 2
/-- Words per input element: 1 for c8, 2 for ch16, from the part's channeliser output (DEDUCED, log entry 32). -/
def stgW (s : State) : Nat := 1 + s.rf CHN_CFG_OUT_CH16
def srcFirst (s : State) (k : Nat) : Nat := bits (s.reg (STG_SRC k)) 0 16
def srcCount (s : State) (k : Nat) : Nat := bits (s.reg (STG_SRC k)) 16 12
/-- The source chips. -/
def stgSources (s : State) : List Nat := (List.range 64).filter (fun k => decide (0 < srcCount s k))
/-- Staging streams S. -/
def stgS (s : State) : Nat := (stgSources s).foldl (fun a k => a + srcCount s k) 0
/-- Local channels L of the unit in operation. -/
def stgL (s : State) : Nat := s.stg.chans.length
/-- The part's own channels in the table in force, in ascending F channel order. -/
def ownChannels (s : State) : List Nat := (s.grt.tab.owned (ownChip s)).flatMap (fun x => rangeFrom x.1 x.2)
/-- The first spectrum that starts at or after a sample index (R54). -/
def specOf (s : State) (a : Nat) : Nat := ceilDiv a (stgHop s)
/-- The first spectrum not yet staged in local channel 0: the next grain boundary that staging reaches. -/
def stgPos (s : State) : Nat :=
  if s.stg.rChan = 0 then s.stg.rBlk * stgB s + s.stg.rSub * stgQ s else (s.stg.rBlk + 1) * stgB s

/-! ### Voids (R152) -/

/-- All ones in the low `n` bits. -/
def ones (n : Nat) : Nat := 2 ^ n - 1

/-- The bits of `[lo, hi)` within a window of `len` from `base`. -/
def rangeBits (base len lo hi : Nat) : Nat :=
  let a := max lo base - base
  let b := min (hi - base) len
  if a < b then ones b - ones a else 0

/-- The void ranges of slot `j`. -/
def voidsOf (s : State) (j : Nat) : List (Nat × Option Nat) := sget [] s.stg.voids j

/-- Spectra of block `n` for which slot `j` is missing: not received in every local channel. -/
def missingOf (s : State) (n j : Nat) : Nat :=
  (List.range (stgB s)).foldl (fun a t =>
    if sget 0 s.stg.recv ((n * stgB s + t) * 4096 + j) < stgL s then a + 2 ^ t else a) 0

/-- The void row of slot `j` in block `n`: bit `t` for spectrum `t`. -/
def maskOf (s : State) (n j : Nat) : Nat :=
  let b := stgB s
  let ranges := (voidsOf s j).foldl (fun a r => a ||| rangeBits (n * b) b r.1 (r.2.getD (n * b + b))) 0
  missingOf s n j ||| sget 0 s.stg.bad (n * 4096 + j) ||| ranges

/-- The void rows of block `n`, by slot. -/
def blockMasks (s : State) (n : Nat) : List Nat := (List.range (stgS s)).map (maskOf s n)

/-- The slots that have a void in sub-block `k` of a block whose rows are given (the summary in SRAM). -/
def summary (s : State) (rows : List Nat) (k : Nat) : List Nat :=
  (rows.zipIdx.filter (fun x => decide (bits x.1 (k * stgQ s) (stgQ s) ≠ 0))).map (·.2)

/-- HBM address of the mask area of block `n`. -/
def maskAddr (s : State) (n : Nat) : Nat :=
  s.reg64 STG_MASK_BASE_LO STG_MASK_BASE_HI + n % 2 * (stgB s * stgS s / 8)

/-- Write the mask of block `n` to HBM. -/
def writeMask (n : Nat) (s : State) : State :=
  let rows := blockMasks s n
  let vs := (List.range (stgB s)).flatMap (fun t => rows.map (fun m => bit m t))
  (hbmPut 0 (maskAddr s n) (bitsToBytes (stgB s * stgS s / 8) vs) s).2

def popcount (w n : Nat) : Nat := (maskList w n).length

/-- Void stream-spectra of block `n`. -/
def voidCount (s : State) (n : Nat) : Nat := ((blockMasks s n).map (popcount (stgB s))).foldl (· + ·) 0

/-- Is block `n` closed and not yet wholly read? -/
def blockHeld (s : State) (n : Nat) : Bool := decide (s.stg.rBlk ≤ n) && decide (n < s.stg.nclose)

/-- Change the void state by `f` and bring the masks of the closed blocks, and `STG_CNT_VOID`, up to date. -/
def withRemask (f : State → State) (s : State) : State :=
  let ns := rangeFrom s.stg.rBlk (s.stg.nclose - s.stg.rBlk)
  let was := ns.map (voidCount s)
  let t := f s
  let now := ns.map (voidCount t)
  if was = now then t
  else foldS writeMask ns (t.inc STG_CNT_VOID (now.foldl (· + ·) 0 - was.foldl (· + ·) 0))

/-! ### Model slots (R149, R150) -/

/-- The slot used at sample index `i`: the valid one with the greatest anchor at or below it, the latest set among equals. -/
def modelAt (s : State) (i : Nat) : Option Nat :=
  (s.stg.models.foldl (fun (a : Option (Nat × Nat)) m =>
    if m.2 ≤ i then (match a with | some b => if b.2 < m.2 then some m else a | none => some m) else a) none).map (·.1)

/-- Is slot `q` in use: does any spectrum of the two ring blocks select it? -/
def modelInUse (s : State) (q : Nat) : Bool :=
  !(stgStopped s) &&
    (match s.stg.models.find? (fun m => m.1 = q) with
     | none => false
     | some (_, a) =>
       let lo := s.stg.rBlk * stgSpan s
       let hi := (s.stg.rBlk + 2) * stgSpan s - stgHop s
       let x := max lo (ceilTo a (stgHop s))
       decide (x ≤ hi) && modelAt s x = some q)

/-- A MODEL waymark (R149, R150): refused for a slot in use. -/
def stgModel (w : Waymark) (s : State) : State :=
  let q := w.arg % 64
  if modelInUse s q then raise EV_STG_CFG_REFUSED (0x1000 + 0x10 * q) (s.reg STG_STATE) s
  else
    let s := s.setReg64 (STG_MODEL_ANCHOR_LO q) (STG_MODEL_ANCHOR_HI q) w.anchor
    { s with stg := { s.stg with models := (q, w.anchor) :: s.stg.models.filter (fun m => decide (m.1 ≠ q)) } }

/-! ### Gain banks (R148) -/

/-- The bank used at a spectrum. -/
def stgBankAt (s : State) (sp : Nat) : Nat :=
  match s.stg.gainSw.find? (fun x => decide (x.1 ≤ sp)) with
  | some x => x.2
  | none => 0

/-- Is a gain bank active, or named by a pending GAIN? -/
def stgBankInUse (s : State) (b : Nat) : Bool :=
  !(stgStopped s) &&
    (stgBankAt s (stgPos s) = b || (heldBy s uSTG).any (fun w => w.kind = wGAIN && w.arg % 2 = b)
      || s.stg.gainSw.any (fun x => decide (stgPos s < x.1) && x.2 = b))

def gainBase (s : State) (b : Nat) : Nat :=
  if b = 0 then s.reg64 STG_GAIN_BASE0_LO STG_GAIN_BASE0_HI else s.reg64 STG_GAIN_BASE1_LO STG_GAIN_BASE1_HI

/-- Does an HBM byte run touch a gain bank in use (R148)? -/
def gainRegionHit (s : State) (a n : Nat) : Bool :=
  [0, 1].any (fun b => stgBankInUse s b && decide (a < gainBase s b + 2 * stgL s * stgS s) && decide (gainBase s b < a + n))

/-! ### Waymarks at staging -/

/-- Slots that a scope covers (R489). -/
def stgSlots (s : State) (scope : Nat) : List Nat :=
  (List.range (stgS s)).filter (fun j => scopeCoversStream s scope (s.reg STG_STREAM_BASE + j))

/-- Add a void range to the slots `js`. -/
def addVoids (js : List Nat) (lo : Nat) (hi : Option Nat) (s : State) : State :=
  foldS (fun j t => { t with stg := { t.stg with voids := sset [] t.stg.voids j (voidsOf t j ++ [(lo, hi)]) } }) js s

/-- End the open void ranges of the slots `js` at spectrum `sp`. -/
def endVoids (js : List Nat) (sp : Nat) (s : State) : State :=
  foldS (fun j t =>
    let l := (voidsOf t j).map (fun r => match r.2 with | none => (r.1, some sp) | some _ => r)
    { t with stg := { t.stg with voids := sset [] t.stg.voids j l } }) js s

/-- Apply a waymark of a kind on which staging acts, at spectrum `sp` (R148, R152, Table 2.10). -/
def stgApply (w : Waymark) (s : State) : State :=
  let sp := specOf s w.anchor
  let js := stgSlots s w.scope
  if js.isEmpty && w.kind ≠ wGEN then s
  else if w.kind = wGAIN then { s with stg := { s.stg with gainSw := (sp, w.arg % 2) :: s.stg.gainSw } }
  else if w.kind = wHALT then withRemask (addVoids js sp none) s
  else if w.kind = wRESUME then withRemask (endVoids js sp) s
  else if w.kind = wFLUSH then withRemask (addVoids js (stgPos s) (some sp)) s
  else if w.kind = wVOIDRUN then withRemask (addVoids js sp (some (sp + w.arg))) s
  else if w.kind = wCAL then { s with stg := { s.stg with cals := (sp, sp + w.arg) :: s.stg.cals } }
  else if w.kind = wGEN then genApply w s
  else s

/-- Does staging apply this kind from its store? -/
def stgActs (kind : Nat) : Bool :=
  kind = wGAIN || kind = wHALT || kind = wRESUME || kind = wFLUSH || kind = wVOIDRUN || kind = wCAL || kind = wGEN

/-- Put a data-class waymark on its way to the arrays with the sub-block that holds its spectrum. -/
def stgForward (w : Waymark) (s : State) : State :=
  { s with stg := { s.stg with outMarks := s.stg.outMarks ++ [(specOf s w.anchor, w)] } }

/-- Apply the held waymarks whose spectrum lies in a closed block, in the order of R56. -/
def stgDue (s : State) : State :=
  let (ws, s) := takeDue uSTG (s.stg.nclose * stgSpan s - stgHop s) s
  foldS (fun w t =>
    let t := noteApplied uSTG w (stgApply w t)
    if waymarkControl w.kind then t else stgForward w t) ws s

/-! ### Start and stop (R147) -/

def stgRefuse (off : Nat) (s : State) : WOut := refuse uSTG off (s.reg STG_STATE) s

/-- START. -/
def stgStart (now : Bool) (s : State) : WOut :=
  let chans := ownChannels s
  let st := stgState s
  let l := chans.length
  let n := stgS s
  if st = stRUNNING then acc s
  else if st ≠ stSTOPPED || n = 0 || n % 32 ≠ 0 || 4096 < n || 4096 < l || 524288 < l * n
      || 8388608 < stgQ s * n * 2 * stgW s || (stgFmt s = 1 && stgW s = 2) then stgRefuse 0x100 s
  else
    let a := if now then s.mer.idx else s.reg64 STG_ANCHOR_LO STG_ANCHOR_HI
    let n0 := ceilDiv a (stgSpan s)
    acc (setStgState stSTARTING { s with stg := { s.stg with
      chans := chans, startAt := some n0, stopAt := none, blk0 := n0, nclose := n0, rBlk := n0, rChan := 0, rSub := 0, recv := [], bad := []
      flagsB := [], srcMax := [], maskErr := [], inQ := [], held := false, bufs := [], holdEv := [] } })

/-- The unit discards its history and is STOPPED; waymarks on their way go on. -/
def stgHalt (s : State) : State :=
  let out := s.stg.outMarks.map (fun x => (uXAR, x.2))
  foldS (fun (x : StgIn) t => match x.octet with | some k => rxRelease k x.f t | none => t) s.stg.inQ
    (setStgState stSTOPPED { s with
      wm := { s.wm with transit := s.wm.transit ++ out }
      stg := { s.stg with startAt := none, stopAt := none, recv := [], bad := [], flagsB := [], srcMax := [], maskErr := []
                          inQ := [], held := false, outMarks := [], holdEv := [] } })

/-- STOP: cancels a start before its boundary, otherwise pending until its block boundary. -/
def stgStop (now : Bool) (s : State) : State :=
  if stgState s = stSTARTING then stgHalt s
  else if stgState s = stRUNNING then
    let a := if now then s.mer.idx else s.reg64 STG_ANCHOR_LO STG_ANCHOR_HI
    let n := max (ceilDiv a (stgSpan s)) s.stg.nclose
    s.setReg STG_STATE (stRUNNING + 4) |> fun s => { s with stg := { s.stg with stopAt := some n } }
  else s

def stgCtrlWrite (v : Nat) (s : State) : WOut :=
  let r := if bit v 0 then stgStart (bit v 2) s else acc s
  if r.ok && bit v 1 then acc (stgStop (bit v 2) r.st) else r

/-- Has block boundary `n` been reached, by the ingress index or by a frame? -/
def stgReached (s : State) (n : Nat) : Bool :=
  decide (n * stgSpan s ≤ s.mer.idx) || s.stg.srcMax.any (fun x => decide (n * stgB s < x.2))

/-- A stopping unit whose blocks are all read is STOPPED. -/
def stgFinish (s : State) : State :=
  match s.stg.stopAt with
  | some n => if stgState s = stSTOPPING && decide (n ≤ s.stg.rBlk) then stgHalt s else s
  | none => s

/-- The boundary of a pending start or stop (R119, R147). -/
def stgBoundary (s : State) : State :=
  match s.stg.startAt, s.stg.stopAt with
  | some n, _ =>
    if stgState s = stSTARTING && stgReached s n then
      setStgState stRUNNING { s with stg := { s.stg with startAt := none } }
    else s
  | none, some n =>
    if stgState s = stRUNNING && stgReached s n then stgFinish (setStgState stSTOPPING s) else stgFinish s
  | none, none => s

/-! ### The ring (R144 to R146) -/

/-- May block `m` be written into local channel `c`: has staging finished reading channel `c` of block `m - 2`? -/
def ringFree (s : State) (m c : Nat) : Bool :=
  decide (m < s.stg.rBlk + 2) || (m = s.stg.rBlk + 2 && decide (c < s.stg.rChan))

/-- The local channels of a frame, as (local channel, channel within the frame). -/
def frameChans (s : State) (f : Frame) : List (Nat × Nat) :=
  s.stg.chans.zipIdx.filterMap (fun x =>
    if f.firstChan ≤ x.1 && x.1 < f.firstChan + f.chanCount then some (x.2, x.1 - f.firstChan) else none)

/-- HBM address of spectrum `t` of block `n`, slot `j`, local channel `c` (R144). -/
def ringAddr (s : State) (n c t j : Nat) : Nat :=
  let w := stgW s
  s.reg64 STG_RING_BASE_LO STG_RING_BASE_HI + (n % 2 * stgL s + c) * stgB s * stgS s * 2 * w + t * stgS s * 2 * w + j * 2 * w

/-- Note that a source has sent spectrum `i` over a link. -/
def noteSource (f : Frame) (link : Nat) (s : State) : State :=
  let k := f.srcChip * 4096 + link
  { s with stg := { s.stg with srcMax := sset 0 s.stg.srcMax k (max (sget 0 s.stg.srcMax k) (f.index + 1)) } }

/-- Write a frame into the ring, and mark what it carries (R144, R152). -/
def ringStore (f : Frame) (s : State) : State :=
  let b := stgB s
  let n := f.index / b
  let t := f.index % b
  let w := stgW s
  let cs := frameChans s f
  let base := s.reg STG_STREAM_BASE
  let js := (List.range f.streamCount).filterMap (fun i =>
    let id := f.firstStream + i
    if base ≤ id && id < base + stgS s then some (i, id - base) else none)
  let s := foldS (fun x u =>
    let ws := js.flatMap (fun y =>
      if f.voidAt y.1 then List.replicate (2 * w) 0#8
      else (List.range w).flatMap (fun h => leBytes 2 (f.samples.getD ((y.1 * f.chanCount + x.2) * w + h) 0#16).toNat))
    match js with
    | [] => u
    | y :: _ => (hbmPut 0 (ringAddr u n x.1 t y.2) ws u).2) cs s
  let s := foldS (fun y u =>
    let k := f.index * 4096 + y.2
    let u := { u with stg := { u.stg with recv := sset 0 u.stg.recv k (sget 0 u.stg.recv k + cs.length) } }
    if f.voidAt y.1 then
      let m := n * 4096 + y.2
      { u with stg := { u.stg with bad := sset 0 u.stg.bad m (sget 0 u.stg.bad m ||| 2 ^ t) } }
    else u) js s
  { s with stg := { s.stg with flagsB := sset 0 s.stg.flagsB n (sget 0 s.stg.flagsB n ||| (f.flags &&& 0x28)) } }

/-- Raise RING_HOLD once for each channel and block that a frame waits for. -/
def ringHold (n : Nat) (cs : List Nat) (s : State) : State :=
  let s := if s.stg.held then s else ({ s with stg := { s.stg with held := true } }).inc STG_CNT_HOLD 1
  foldS (fun c t =>
    if t.stg.holdEv.contains (c, n) then t
    else raise EV_STG_RING_HOLD c n { t with stg := { t.stg with holdEv := (c, n) :: t.stg.holdEv } }) cs s

/-- Take the frame at the head of staging's input (R144 to R147). -/
def stgTake (s : State) : State :=
  if markBlocked s uSTG then s
  else
  match s.stg.inQ with
  | [] => s
  | x :: rest =>
    let f := x.f
    let n := f.index / stgB s
    let drop (t : State) : State :=
      let t := { t with stg := { t.stg with inQ := rest, held := false } }
      match x.octet with | some k => rxRelease k f t | none => t
    if stgStopped s || f.kind ≠ kSPEC || f.format ≠ (if stgW s = 2 then fCH16 else fC8) then drop s
    else
      let s := stgBoundary (noteSource f x.link s)
      if stgState s = stSTARTING || stgStopped s || (match s.stg.stopAt with | some m => decide (m ≤ n) | none => false) then drop s
      else if n < s.stg.blk0 then drop s
      else if n < s.stg.nclose then
        drop (raise EV_STG_LATE_FRAME f.srcChip f.index (s.inc STG_CNT_LATE 1))
      else
        let held := (frameChans s f).filter (fun c => !(ringFree s n c.1))
        if held.isEmpty then drop (ringStore f s) else ringHold n (held.map (·.1)) s

/-! ### Closing (R145) -/

/-- The newest spectra plus one of a source, by route. -/
def srcRoutes (s : State) (k : Nat) : List Nat := (s.stg.srcMax.filter (fun x => x.1 / 4096 = k)).map (·.2)

/-- Has source `k` sent a frame of block `n + 1` or later on every route by which its frames have come? -/
def srcPast (s : State) (k n : Nat) : Bool :=
  !(srcRoutes s k).isEmpty && (srcRoutes s k).all (fun x => decide ((n + 1) * stgB s < x))

/-- Close block `nclose`. -/
def closeBlock (s : State) : State :=
  let n := s.stg.nclose
  let s := stgDue { s with stg := { s.stg with nclose := n + 1 } }
  writeMask n (s.inc STG_CNT_VOID (voidCount s n))

def stgClosing (s : State) : Bool :=
  (stgState s = stRUNNING || stgState s = stSTOPPING)
    && (match s.stg.stopAt with | some m => decide (s.stg.nclose < m) | none => true)

/-- Every source has sent a frame of the next block. -/
def blockClose (s : State) : State :=
  if stgClosing s && (stgSources s).all (fun k => srcPast s k s.stg.nclose) then closeBlock s else s

/-- The close wait has passed since the first frame of the next block. -/
def closeTimeout (s : State) : State :=
  let n := s.stg.nclose
  if stgClosing s && s.stg.srcMax.any (fun x => decide ((n + 1) * stgB s < x.2)) then
    let missing := ((stgSources s).filter (fun k => !(srcPast s k n))).length
    closeBlock (raise EV_STG_CLOSE_TIMEOUT n missing s)
  else s

/-! ### Reading a sub-block (R146, R150 to R153) -/

/-- A binary16 value times 2^24; what an infinity or a NaN gives is free. -/
def halfFix (h : Nat) : Int :=
  let e := bits h 10 5
  let f := bits h 0 10
  let m : Nat := if e = 0 then f else (1024 + f) * 2 ^ (e - 1)
  if e = 31 then (Config.nonFinite h).toInt else if bit h 15 then -(m : Int) else m

/-- One part after phasor and gain (R151): `pr` scaled by `2^sc`, and whether it clamped. -/
def stgConvert (fmt c4s sc : Nat) (pr : Int) (g : Nat) : Int × Bool :=
  let z := pr * g
  match fmt with
  | 0 => let r := rneShift z (29 + sc); (satS 8 r, decide (satS 8 r ≠ r))
  | 1 => let r := rneShift z (29 + c4s + sc); (satS 4 r, decide (satS 4 r ≠ r))
  | _ => let (h, c) := roundH16 (flOver z (29 + sc)); ((h : Int), c)

/-- R151 for one stream-spectrum: the output word and the number of parts clamped. -/
def stgPhasor (fmt c4s w : Nat) (x : Int × Int) (phi g : Nat) : (Int × Int) × Nat :=
  let (c, sn) := trig (phi / 65536)
  let sc := if w = 2 then 24 else 0
  let (xr, xi) := if w = 2 then (halfFix x.1.toNat, halfFix x.2.toNat) else x
  let (yr, cr) := stgConvert fmt c4s sc (xr * c + xi * sn) g
  let (yi, ci) := stgConvert fmt c4s sc (xi * c - xr * sn) g
  ((yr, yi), b2n cr + b2n ci)

/-- The phase of a record at F channel `c` and spectrum `sp`. -/
def stgPhi (s : State) (rec_ : List Nat) (c sp : Nat) : Nat :=
  let sl := sext 32 (rec_.getD 1 0)
  let rt := sext 32 (rec_.getD 2 0)
  toU 32 ((rec_.getD 0 0 : Int) + sl * ((c : Int) - (s.reg STG_CHAN_REF : Int)) + rt * (toU 32 ((sp : Int) - (rec_.getD 3 0 : Int)) : Nat))

/-- The element of the sample run at position `i`: none if a byte did not arrive. -/
def runElem (w : Nat) (bs : List (Option Byte)) (i : Nat) : Option (Int × Int) :=
  let l := (bs.drop (i * 2 * w)).take (2 * w)
  if allBytes l && l.length = 2 * w then
    let b := bytesOf l
    if w = 2 then some ((ofLe (b.take 2) : Int), (ofLe (b.drop 2) : Int))
    else some (sext 8 (ofLe (b.take 1)), sext 8 (ofLe (b.drop 1)))
  else none

/-- Read model records of slot `q` for every stream slot: words, or none after an error response. -/
def readModels (q : Nat) (s : State) : List (Option (List Nat)) × State :=
  let (bs, s) := hbmGet 1 (s.reg64 STG_MODEL_BASE_LO STG_MODEL_BASE_HI + q * 65536) (16 * stgS s) s
  ((List.range (stgS s)).map (fun j =>
    let l := (bs.drop (16 * j)).take 16
    if allBytes l then some ((List.range 4).map (fun i => ofLe (bytesOf ((l.drop (4 * i)).take 4)))) else none), s)

/-- Read the gains of local channel `c` in bank `b`. -/
def readGains (b c : Nat) (s : State) : List (Option Nat) × State :=
  let (bs, s) := hbmGet 1 (gainBase s b + 2 * c * stgS s) (2 * stgS s) s
  ((List.range (stgS s)).map (fun j =>
    let l := (bs.drop (2 * j)).take 2
    if allBytes l then some (ofLe (bytesOf l)) else none), s)

/-- Run a read for each of a list of keys. -/
def readEach {α : Type} (f : Nat → State → α × State) : List Nat → State → List (Nat × α) × State
  | [], s => ([], s)
  | k :: t, s =>
    let (a, s) := f k s
    let (l, s) := readEach f t s
    ((k, a) :: l, s)

/-- Void the spectra of sub-block `k` of block `n` that no model slot covers, in every slot (R150). -/
def voidUncovered (n k : Nat) (s : State) : State :=
  if bit (s.reg STG_CFG) 12 then
    let lo := n * stgB s + k * stgQ s
    let bad := (rangeFrom lo (stgQ s)).filter (fun sp => (modelAt s (sp * stgHop s)).isNone)
    match bad.getLast? with
    | none => s
    | some last =>
      raise EV_STG_MODEL_MISSING 0 lo (withRemask (addVoids (List.range (stgS s)) lo (some (last + 1))) s)
  else s

/-- The void bits of a sub-block as read from HBM, by slot, with the slots that an error response covers. -/
def readMask (n k : Nat) (s : State) : List (Nat × Nat) × List Nat × State :=
  let q := stgQ s
  let sn := stgS s
  let sum := summary s (blockMasks s n) k
  if sum.isEmpty then ([], [], s)
  else
    let (bs, s) := hbmGet 1 (maskAddr s n + k * q * sn / 8) (q * sn / 8) s
    let lost := (bs.zipIdx.filter (fun x => x.1.isNone)).flatMap (fun x => (List.range 8).map (fun i => (8 * x.2 + i) % sn))
    let v := ofLe (bytesOf bs)
    (sum.map (fun j => (j, (List.range q).foldl (fun a t => if bit v (t * sn + j) then a + 2 ^ t else a) 0)), lost.eraseDups, s)

/-- Read, phase, gain and mask the sub-block at the read position. -/
def stageData (s : State) : SubBuf × State :=
  let n := s.stg.rBlk
  let c := s.stg.rChan
  let k := s.stg.rSub
  let q := stgQ s
  let sn := stgS s
  let w := stgW s
  let fmt := stgFmt s
  let c4s := bits (s.reg STG_CFG) 16 4
  let lo := n * stgB s + k * q
  let fch := s.stg.chans.getD c 0
  let s := if c = 0 then voidUncovered n k s else s
  let (mask, lost, s) := readMask n k s
  let s := { s with stg := { s.stg with maskErr := sset [] s.stg.maskErr n ((sget [] s.stg.maskErr n ++ lost).eraseDups) } }
  let (run, s) := hbmGet 1 (ringAddr s n c (k * q) 0) (q * sn * 2 * w) s
  let phase := bit (s.reg STG_CFG) 12
  let specs := rangeFrom lo q
  let slotAt := specs.map (fun sp => modelAt s (sp * stgHop s))
  let (models, s) := readEach readModels (if phase then (slotAt.filterMap id).eraseDups else []) s
  let cal := bit (s.reg STG_CFG) 13
  let banks := specs.map (stgBankAt s)
  let (gains, s) := readEach (fun b t => readGains b c t) (if cal then banks.eraseDups else []) s
  let out := (List.range q).flatMap (fun t =>
    let sp := lo + t
    let recs : List (Option (List Nat)) := match slotAt.getD t none with
      | some m => ((models.find? (fun x : Nat × List (Option (List Nat)) => x.1 = m)).map (·.2)).getD []
      | none => []
    let gs := ((gains.find? (fun x => x.1 = banks.getD t 0)).map (·.2)).getD []
    (List.range sn).map (fun j =>
      if bit (sget 0 mask j) t then (((0, 0), 0), false)
      else
        let m := if phase then recs.getD j (some [0, 0, 0, 0]) else some [0, 0, 0, 0]
        let g := if cal then gs.getD j (some 4096) else some 4096
        match runElem w run (t * sn + j), m, g with
        | some x, some m, some g => (stgPhasor fmt c4s w x (if phase then stgPhi s m fch sp else 0) g, false)
        | _, _, _ => (((0, 0), 0), true)))
  let clamped := out.foldl (fun a o => a + o.1.2) 0
  let first := match findIdx? (fun o => decide (0 < o.1.2)) out with | some i => lo + i / sn | none => lo
  let s := if 0 < clamped then
      let t := s.inc STG_CNT_SAT clamped
      if s.reg STG_CNT_SAT = 0 then raise EV_STG_SATURATION c first t else t
    else s
  let errs := (out.zipIdx.filter (fun o => o.1.2)).map (fun o => o.2 % sn)
  let calFlag := s.stg.cals.any (fun x => decide (x.1 < lo + q) && decide (lo < x.2))
  ({ n := n, c := c, k := k, vals := out.map (·.1.1), mask := mask.filter (fun m => decide (m.2 ≠ 0)), fmt := fmt
     flags := sget 0 s.stg.flagsB n + 16 * b2n calFlag, badSlots := (errs ++ sget [] s.stg.maskErr n).eraseDups }, s)

/-- Move the read position past the sub-block just staged; at the end of a block its records are dropped. -/
def stgAdvance (s : State) : State :=
  let g := s.stg
  if g.rSub + 1 < stgB s / stgQ s then { s with stg := { g with rSub := g.rSub + 1 } }
  else if g.rChan + 1 < stgL s then { s with stg := { g with rSub := 0, rChan := g.rChan + 1 } }
  else
    let n := g.rBlk
    let b := stgB s
    stgFinish { s with stg := { g with
      rSub := 0, rChan := 0, rBlk := n + 1
      recv := g.recv.filter (fun x => decide ((n + 1) * b ≤ x.1 / 4096))
      bad := g.bad.filter (fun x => decide (n < x.1 / 4096))
      flagsB := g.flagsB.filter (fun x => decide (n < x.1)), maskErr := g.maskErr.filter (fun x => decide (n < x.1)) } }

/-- May staging stage a sub-block now: a closed block unread, and one of its two buffers free? -/
def stgCanStage (s : State) : Bool :=
  (stgState s = stRUNNING || stgState s = stSTOPPING) && decide (s.stg.rBlk < s.stg.nclose) && decide (s.stg.bufs.length < 2)

/-! ### Registers (R132, R156) -/

/-- A legal configuration word (Table 6.6). -/
def stgCfgOk (v : Nat) : Bool :=
  decide (10 ≤ bits v 0 4) && decide (bits v 4 4 ≤ 4) && decide (bits v 8 2 ≠ 3) && decide (bits v 4 4 + 8 ≤ bits v 0 4)

def stgCfgMask : Nat := 0x1F0F33FF

/-- `UNIT_BASIC` (R132). -/
def stgBasicWrite (v : Nat) (s : State) : WOut :=
  if !(stgStopped s) || !(stgCfgOk v) then stgRefuse 0x18 s
  else
    let n := 32 * bits v 24 5
    let parts := s.rf GRT_BASIC_PARTS
    let s := storeBits STG_CFG stgCfgMask v (storeBits (UNIT_BASIC 7) stgCfgMask v s)
    let s := foldS (fun k t => t.setReg (STG_SRC k) (if k < parts then n * k % 65536 + 65536 * n else 0)) (List.range 64) s
    acc (foldS (fun (x : Nat × Nat) (t : State) => t.setReg x.1 x.2)
      [(STG_RING_BASE_LO, 0), (STG_RING_BASE_HI, 0), (STG_MASK_BASE_LO, 0), (STG_MASK_BASE_HI, 8),
       (STG_MODEL_BASE_LO, 0x1000000), (STG_MODEL_BASE_HI, 8), (STG_GAIN_BASE0_LO, 0x1400000), (STG_GAIN_BASE0_HI, 8),
       (STG_GAIN_BASE1_LO, 0x1500000), (STG_GAIN_BASE1_HI, 8)] s)

def stgCntClear (v : Nat) (s : State) : State :=
  if bit v 0 then s.zero [STG_CNT_LATE, STG_CNT_SAT, STG_CNT_VOID, STG_CNT_HOLD] else s

/-- Registers writable only while STOPPED (R147). -/
def stgHeldWrite (off mask v : Nat) (ok : Bool) (s : State) : WOut :=
  if stgStopped s && ok then acc (storeBits (0x7000000 + off) mask v s) else stgRefuse off s

/-- Writes of STG registers that do more than store. -/
def stgWrite (off v : Nat) (s : State) : Option WOut :=
  match off with
  | 0x18 => some (stgBasicWrite v s)
  | 0x100 => some (stgCtrlWrite v s)
  | 0x110 => some (stgHeldWrite off stgCfgMask v (stgCfgOk v) s)
  | 0x114 => some (stgHeldWrite off 0xFFFF v true s)
  | 0x118 => some (stgHeldWrite off 0xFFFF v true s)
  | 0x11C => some (stgHeldWrite off 0xFFFFFFFF v true s)
  | 0x154 => some (acc (stgCntClear v s))
  | _ =>
    if 0x120 ≤ off && off < 0x148 then some (stgHeldWrite off 0xFFFFFFFF v (off % 8 ≠ 0 || v % 2 ^ 20 = 0) s)
    else if 0x2000 ≤ off then some (stgHeldWrite off 0x0FFFFFFF v true s)
    else none

/-- Free model slots as a 64-bit mask. -/
def modelFree (s : State) : Nat := (List.range 64).foldl (fun a q => if modelInUse s q then a else a + 2 ^ q) 0

/-- Reads of STG registers whose value is derived. -/
def stgRead (off : Nat) (s : State) : Option Nat :=
  match off with
  | 0x8 => some (b2n (!(stgStopped s) && decide (s.stg.rBlk < s.stg.nclose)))
  | 0x148 => some (modelFree s % 2 ^ 32)
  | 0x14C => some (modelFree s / 2 ^ 32)
  | 0x150 => some (s.stg.rChan % 4096 + 4096 * (s.stg.rSub % 128) + 2 ^ 19 * (s.stg.rBlk % 8192))
  | _ =>
    if 0x1000 ≤ off && off < 0x1400 && off % 16 = 8 then
      let q := (off - 0x1000) / 16
      some (b2n (s.stg.models.any (fun m => m.1 = q)) + 2 * b2n (modelInUse s q))
    else none

/-! ### Meanings -/

/-- STG_BLOCK_BOUNDARY -/
def execStgBlockBoundary (s : State) : Host.Outcome State Fault Refusal := .next (stgBoundary s)
/-- STG_FRAME_WRITE -/
def execStgFrameWrite (s : State) : Host.Outcome State Fault Refusal := .next (stgTake s)
/-- RING_HOLD_RELEASE: the held write at the head of staging's input proceeds if its channels are free. -/
def execRingHoldRelease (s : State) : Host.Outcome State Fault Refusal :=
  .next (if s.stg.held then stgTake s else s)

end Sys2Proof.Machine
end

