-- ==== Sys2Proof/Machine/Atl.lean ====
section
/-! DEFINITION. The atlas (ATL): tile descriptors, regions, ownership, paging, quarantine and host operations (R234 to R258). -/

namespace Sys2Proof.Machine

/-! ### Descriptors (R234 to R239) -/

/-! State codes (Table 10.3). -/
def dABSENT : Nat := 0
def dZERO : Nat := 1
def dRESIDENT : Nat := 2
def dPAGED : Nat := 3
def dPAGINGIN : Nat := 4
def dPAGINGOUT : Nat := 5
def dQUEUED : Nat := 6
def dFILLING : Nat := 7
def dCOMPLETE : Nat := 8
def dMERGING : Nat := 9
def dMOVING : Nat := 10

def State.desc (s : State) (i : Nat) : Desc := sget Desc.blank s.atl.desc i
def State.setDesc (i : Nat) (d : Desc) (s : State) : State :=
  { s with atl := { s.atl with desc := sset Desc.blank s.atl.desc i d } }
def State.modDesc (i : Nat) (f : Desc → Desc) (s : State) : State := s.setDesc i (f (s.desc i))

/-- LOCATION of a slot and of a page (R236). -/
def locSlot (n : Nat) : Nat := 2 ^ 24 + n
def locPage (n : Nat) : Nat := 2 ^ 25 + n
def locKind (l : Nat) : Nat := bits l 24 2
def locNum (l : Nat) : Nat := bits l 0 24

/-- A tile key (Table 10.1). -/
def tileKey (p c u v : Nat) : Nat := p * 2 ^ 26 + c * 2 ^ 14 + u * 2 ^ 7 + v
def keyPlan (k : Nat) : Nat := bits k 26 4
def keyChan (k : Nat) : Nat := bits k 14 12
def keyRow (k : Nat) : Nat := bits k 7 7
def keyCol (k : Nat) : Nat := bits k 0 7

/-- The 64 bits of a descriptor (Table 10.2). -/
def Desc.word (d : Desc) : Nat := d.key + d.loc * 2 ^ 30 + d.st * 2 ^ 56 + d.owner * 2 ^ 60

/-- The shape of a region (R237). -/
structure Region where
  base : Nat
  rows : Nat
  cols : Nat
  beam : Bool
  chans : Nat
  deriving DecidableEq, Repr

def regionOf (base shape : Nat) : Region :=
  ⟨bits base 0 22, bits shape 0 8, bits shape 8 8, bit shape 16, bits shape 20 12 + 1⟩
def planRegion (s : State) (p : Nat) : Region := regionOf (s.reg (ATL_PLAN_BASE p)) (s.reg (ATL_PLAN_SHAPE p))

/-- Tiles of one channel. -/
def Region.tiles (r : Region) : Nat := if r.beam then r.rows * r.cols else r.rows * (r.rows + 1) / 2
def Region.size (r : Region) : Nat := r.chans * r.tiles

/-- Does the region hold tile (u, v) of channel c? -/
def Region.holds (r : Region) (c u v : Nat) : Bool :=
  decide (c < r.chans) && decide (u < r.rows) && decide (v < r.cols) && (r.beam || decide (u ≤ v))

/-- The place of tile (u, v) in a triangle of `nb` rows. -/
def triIndex (nb u v : Nat) : Nat := u * nb - u * (u - 1) / 2 + (v - u)

/-- The descriptor index of a tile (R237). -/
def Region.index (r : Region) (c u v : Nat) : Nat :=
  r.base + c * r.tiles + (if r.beam then u * r.cols + v else triIndex r.rows u v)

/-- The tile positions (u, v) of one channel, in order. -/
def Region.positions (r : Region) : List (Nat × Nat) :=
  (List.range r.rows).flatMap (fun u => ((List.range r.cols).filter (fun v => r.beam || decide (u ≤ v))).map (fun v => (u, v)))

/-- The descriptor index that a key names, if its plan's region holds it. -/
def indexOfKey (s : State) (k : Nat) : Option Nat :=
  let r := planRegion s (keyPlan k)
  if r.holds (keyChan k) (keyRow k) (keyCol k) then some (r.index (keyChan k) (keyRow k) (keyCol k)) else none

/-- Declared descriptors of a plan, as (index, descriptor). -/
def planDescs (s : State) (p : Nat) : List (Nat × Desc) :=
  s.atl.desc.filter (fun x => decide (x.2.st ≠ dABSENT) && keyPlan x.2.key = p)

/-! ### Slots and pages (R246, R247) -/

def nSlots : Nat := 17408

/-- Slots that hold a tile or are reserved. -/
def usedSlots (s : State) : List Nat :=
  s.atl.desc.flatMap (fun x =>
    (if locKind x.2.loc = 1 then [locNum x.2.loc] else []) ++ (if x.2.st = dPAGINGIN then [x.2.resv] else []))

/-- The lowest-numbered free slot. -/
def freeSlot (s : State) : Option Nat :=
  let u := usedSlots s
  (List.range nSlots).find? (fun n => !(u.contains n))

def freeSlots (s : State) : Nat := nSlots - (usedSlots s).length

/-- Note the highest slot use. -/
def notePeak (s : State) : State :=
  let n := (usedSlots s).length
  if s.reg ATL_SLOTS_PEAK < n then s.setReg ATL_SLOTS_PEAK n else s

/-- The cells of a slot. -/
def slotCells (s : State) (n : Nat) : List (Nat × Nat) :=
  match sget [] s.atl.tiles n with
  | [] => List.replicate 1024 (0, 0)
  | l => l
def setSlot (n : Nat) (l : List (Nat × Nat)) (s : State) : State :=
  { s with atl := { s.atl with tiles := sset [] s.atl.tiles n l } }

/-- Cells as bytes, and back (R182). -/
def cellBytes (l : List (Nat × Nat)) : List Byte := l.flatMap (fun x => leBytes 4 x.1 ++ leBytes 4 x.2)
def bytesCells (bs : List Byte) : List (Nat × Nat) :=
  (chunksN 8 1024 bs).map (fun b => (ofLe (b.take 4), ofLe (b.drop 4)))

def pageBase (s : State) : Nat := s.reg64 ATL_PAGE_BASE_LO ATL_PAGE_BASE_HI
def pageAddr (s : State) (n : Nat) : Nat := pageBase s + 8192 * n
def pagePc (s : State) (n : Nat) : Nat := pcOf (pageAddr s n)

/-- Pages that hold a tile or are reserved for one, as (page, descriptor index). -/
def usedPages (s : State) : List (Nat × Nat) :=
  s.atl.desc.flatMap (fun x =>
    (if locKind x.2.loc = 2 then [(locNum x.2.loc, x.1)] else [])
      ++ (if x.2.st = dPAGINGOUT || x.2.st = dMOVING then [(x.2.resv, x.1)] else []))

def pcExcluded (s : State) (n : Nat) : Bool :=
  bit (s.reg (if n < 32 then ATL_PC_EXCL_LO else ATL_PC_EXCL_HI)) (n % 32)
def setExcl (n : Nat) (b : Bool) (s : State) : State :=
  let a := if n < 32 then ATL_PC_EXCL_LO else ATL_PC_EXCL_HI
  s.setReg a (setBits (s.reg a) (n % 32) 1 (b2n b))

/-- May a page be allocated on pseudo-channel `n`: neither excluded nor DEAD (R247)? -/
def pcPermitted (s : State) (n : Nat) : Bool := !(pcExcluded s n) && decide (s.rf (MEM_PC_STATUS_STATE n) ≠ 2)

/-- The lowest free page on pseudo-channel `n`. -/
def freePageOn (s : State) (n : Nat) : Option Nat :=
  let used := usedPages s
  (List.range (bits (s.reg ATL_PAGE_COUNT) 0 24)).find? (fun q =>
    pagePc s q = n && !(s.atl.gone.contains q) && !(used.any (fun x => x.1 = q)))

/-- Has plan `p` statistics (R249)? -/
def hasStats (s : State) (p : Nat) : Bool := s.atl.stats.contains p

/-- Allocate a page for a tile of plan `p`: by the round robin, or with statistics on the pseudo-channel measured fastest and, where that
has none free, on the lowest permitted one. -/
def allocPage (p fast : Nat) (s : State) : Option (Nat × State) :=
  let order := if hasStats s p then fast :: List.range 64 else (List.range 64).map (fun i => (s.atl.rr + i) % 64)
  match order.findSome? (fun n => if pcPermitted s n then (freePageOn s n).map (fun q => (n, q)) else none) with
  | none => none
  | some (n, q) => some (q, if hasStats s p then s else { s with atl := { s.atl with rr := (n + 1) % 64 } })

/-! ### Poison (R252) -/

/-- Mark the block result of a tile as poisoned. -/
def poisonTile (i cause : Nat) (s : State) : State :=
  let d := s.desc i
  if d.poison then s
  else raise EV_ATL_TILE_POISONED d.key cause ((s.setDesc i { d with poison := true }).inc ATL_CNT_POISON 1)

/-- The tile enters ZERO: its slot or page is freed and its mark clears. -/
def toZero (i : Nat) (s : State) : State :=
  let d := s.desc i
  let s := if locKind d.loc = 1 then setSlot (locNum d.loc) [] s else s
  s.setDesc i { d with st := dZERO, loc := 0, poison := false, undo := false, resv := 0, src := 0 }

/-- The tile is released by its operation. -/
def unown (i : Nat) (s : State) : State := s.modDesc i (fun d => { d with owner := 0, op := 0 })

/-! ### Regions and declaration (R237, R240, R275) -/

/-- Would region `r` of plan `p` overlap another plan's? -/
def regionOverlaps (s : State) (p : Nat) (r : Region) : Bool :=
  (List.range 16).any (fun q => q ≠ p &&
    (let o := planRegion s q
     decide (r.base < o.base + o.size) && decide (o.base < r.base + r.size)))

/-- The cause for which R237 refuses a region, if any. -/
def regionRefused (s : State) (p base shape : Nat) (shapeWritten : Bool) : Option Nat :=
  let r := regionOf base shape
  if 4194304 < r.base + r.size || (shapeWritten && (r.rows = 0 || 128 < r.rows || r.cols = 0 || 128 < r.cols))
      || (!r.beam && r.cols ≠ r.rows) then some cRANGE
  else if (planDescs s p).any (fun x => decide (x.2.st ≠ dZERO)) then some cSTATE
  else if regionOverlaps s p r then some cCONFLICT
  else none

/-- Every tile of the plan returns to ABSENT. -/
def dropTiles (p : Nat) (s : State) : State :=
  { s with atl := { s.atl with desc := s.atl.desc.filter (fun x => decide (keyPlan x.2.key ≠ p)) } }

/-- The plan's placement statistics begin afresh. -/
def statsReset (p : Nat) (s : State) : State :=
  { s with atl := { s.atl with
      stats := s.atl.stats.erase p, closed := s.atl.closed.erase p
      desc := s.atl.desc.map (fun x => if keyPlan x.2.key = p then (x.1, { x.2 with seen := false }) else x) } }

/-- Set plan `p`'s region. Tiles declared in a region that changes are no longer declared (log entry 33). -/
def setRegion (p base shape : Nat) (s : State) : State :=
  let same := decide (planRegion s p = regionOf base shape)
  let s := (s.setReg (ATL_PLAN_BASE p) base).setReg (ATL_PLAN_SHAPE p) shape
  if same then s else statsReset p (dropTiles p s)

/-- Declare tiles at the given (channel, u, v), in order; one already declared keeps its place. -/
def declare (p : Nat) (ts : List (Nat × Nat × Nat)) (s : State) : State :=
  let r := planRegion s p
  foldS (fun t s =>
    let i := r.index t.1 t.2.1 t.2.2
    if (s.desc i).st ≠ dABSENT then s
    else
      let s := s.setDesc i { Desc.blank with key := tileKey p t.1 t.2.1 t.2.2, st := dZERO, order := s.atl.order }
      { s with atl := { s.atl with order := s.atl.order + 1 } }) ts s

/-- Every tile of a region, in order of descriptor index. -/
def Region.all (r : Region) : List (Nat × Nat × Nat) :=
  (List.range r.chans).flatMap (fun c => r.positions.map (fun x => (c, x)))

/-- UNLOAD: the plan's tiles to ABSENT, refused while any is owned or outside ZERO (R239). -/
def planUnloadable (s : State) (p : Nat) : Bool := (planDescs s p).all (fun x => x.2.st = dZERO && x.2.op = 0)

/-! ### Ownership (R241 to R243) -/

/-- The descriptors that an operation names. -/
def opTiles (s : State) (o : TileOp) : List Nat :=
  match o.one with
  | some i => [i]
  | none =>
    let r := planRegion s o.plan
    (rangeFrom o.lo o.n).flatMap (fun c =>
      if o.beam then (rangeFrom o.row o.rows).flatMap (fun u => (List.range (stgQ s / 32)).map (fun v => r.index c u v))
      else r.positions.map (fun x => r.index c x.1 x.2))

/-- The first tile of an operation that another operation owns. -/
def opBlocker (s : State) (o : TileOp) : Option Nat := (opTiles s o).find? (fun i => decide ((s.desc i).op ≠ 0))

/-- Take ownership of every tile of an operation. -/
def opTake (o : TileOp) (s : State) : State :=
  let s := foldS (fun i t => t.modDesc i (fun d => { d with owner := o.cls, op := o.id + 1 })) (opTiles s o) s
  { s with atl := { s.atl with ops := s.atl.ops ++ [o] } }

/-- The head of a class's issue queue. -/
def queueHead (s : State) (k : Nat) : Option TileOp := s.atl.queue.find? (fun o => o.cls = k)

/-- The answer to an issue: 0 issued, 1 waiting, 2 refused with TILE_BUSY (R242). -/
def opIssue (o : TileOp) (s : State) : Nat × State :=
  match opBlocker s o with
  | some i =>
    if classRt s o.cls then
      (2, raise EV_ATL_TILE_BUSY o.cls (s.desc i).key (s.inc ATL_CNT_BUSY 1))
    else (1, { s with atl := { s.atl with queue := s.atl.queue ++ [o] } })
  | none =>
    if (queueHead s o.cls).isSome then (1, { s with atl := { s.atl with queue := s.atl.queue ++ [o] } })
    else (0, opTake o s)

/-- The identity of host operations. -/
def hostOpId : Nat := 8 * 65536

/-- Take the operation with identity `id` out of the issue queue. -/
def opWithdraw (id : Nat) (s : State) : State :=
  { s with atl := { s.atl with queue := s.atl.queue.filter (fun o => decide (o.id ≠ id)) } }

/-- Release every tile that the operation still holds, and forget it. -/
def opRetire (id : Nat) (s : State) : State :=
  let l := (s.atl.desc.filter (fun x => x.2.op = id + 1)).map (·.1)
  let s := foldS unown l s
  { s with atl := { s.atl with ops := s.atl.ops.filter (fun o => decide (o.id ≠ id)) } }

/-- Undo an operation on the tile side (R244). -/
def opUndo (id : Nat) (s : State) : State :=
  let s := { s with atl := { s.atl with
    passes := s.atl.passes.filter (fun p => decide (p.op ≠ id)) } }
  let mine := s.atl.desc.filter (fun x => x.2.op = id + 1 || x.2.src = id + 1)
  let s := foldS (fun (x : Nat × Desc) t =>
    let d := x.2
    let beam := (planRegion t (keyPlan d.key)).beam
    if d.op = id + 1 && (d.st = dRESIDENT || d.st = dPAGED) then toZero x.1 t
    else if d.st = dCOMPLETE && beam then toZero x.1 t
    else if d.st = dZERO || d.st = dABSENT then t
    else t.setDesc x.1 { d with undo := true }) mine s
  opRetire id s

/-! ### Host operations (R245, Table 10.5) -/

def hostOpOf (s : State) : Option TileOp := s.atl.ops.find? (fun o => o.id = hostOpId)
def setHost (n : Nat) (s : State) : State := { s with atl := { s.atl with hostSt := n } }
def hostResult (r : Nat) (s : State) : State := s.wf ATL_OP_STATUS_RESULT r

/-- Start the host operation once it holds its tile and the tile is in a permitted state; an EVICT of a tile that is not
RESIDENT ends. -/
def hostStart (fast : Nat) (s : State) : State :=
  match hostOpOf s with
  | some o =>
    match o.one with
    | none => s
    | some i =>
      let d := s.desc i
      if s.atl.hostSt ≠ 1 then s
      else if o.evict then
        if d.st ≠ dRESIDENT then setHost 0 (hostResult 5 (opRetire hostOpId s))
        else if s.rf ATL_BASIC_PAGING = 0 then s
        else
          match allocPage (keyPlan d.key) fast s with
          | none => s
          | some (q, s) => setHost 2 (s.setDesc i { d with st := dPAGINGOUT, resv := q })
      else if d.st = dZERO || d.st = dRESIDENT || d.st = dPAGED || d.st = dCOMPLETE then setHost 2 s
      else s
  | none => s

/-- Take ownership at the head of class `k`'s issue queue if every tile it names is free (R242). -/
def ownershipGrant (k fast : Nat) (s : State) : State :=
  match queueHead s k with
  | none => s
  | some o =>
    if (opBlocker s o).isSome then s
    else
      let s := opTake o (opWithdraw o.id s)
      if o.id = hostOpId then hostStart fast s else s

/-- The bytes of a tile's value: 64-byte units that answer with an error read as zero; true where one did. -/
def tileValue (port i : Nat) (s : State) : List Byte × Bool × State :=
  let d := s.desc i
  if locKind d.loc = 1 then (cellBytes (slotCells s (locNum d.loc)), false, s)
  else if locKind d.loc = 2 then
    let (bs, s) := hbmGet port (pageAddr s (locNum d.loc)) 8192 s
    (bytesOf bs, !(allBytes bs), s)
  else (List.replicate 8192 0#8, false, s)

/-- A page write completes (R239). -/
def pageOutDone (i : Nat) (s : State) : State :=
  let d := s.desc i
  if d.st ≠ dPAGINGOUT then s
  else
    let s := s.inc ATL_CNT_PAGE_OUT 1
    if d.undo then toZero i s
    else
      let (_, s) := hbmPut 2 (pageAddr s d.resv) (cellBytes (slotCells s (locNum d.loc))) s
      setSlot (locNum d.loc) [] (s.setDesc i { d with st := dPAGED, loc := locPage d.resv, resv := 0 })

/-- The host operation's copy or page-out ends. An ABORT that came after the commit point stays as its result. -/
def hostComplete (fast : Nat) (s : State) : State :=
  let s := hostStart fast s
  match hostOpOf s with
  | some o =>
    match o.one with
    | none => s
    | some i =>
      if s.atl.hostSt ≠ 2 then s
      else
        let res (r : Nat) (t : State) : State := if t.rf ATL_OP_STATUS_RESULT = 2 then t else hostResult r t
        let s :=
          if o.evict then res 0 (pageOutDone i s)
          else
            let (bs, bad, s) := tileValue 2 i s
            let (_, s) := hbmPut 5 (s.reg64 ATL_OP_ADDR_LO ATL_OP_ADDR_HI) bs s
            let s := if bad then poisonTile i 6 s else s
            res (if (s.desc i).poison then 4 else 0) s
        setHost 0 (opRetire hostOpId s)
  | none => s

/-- `ATL_OP_CTRL` (R245). -/
def atlOpWrite (v fast : Nat) (s : State) : WOut :=
  let cmd := bits v 0 2
  let cls := bits v 4 4
  let ref (c : Nat) : WOut := refuse uATL 0x148 c s
  let go : WOut :=
    if !(bit v 8) then acc s
    else if cmd = 0 || cmd = 3 || cls = 0 then ref cRANGE
    else if s.atl.hostSt ≠ 0 then ref cINUSE
    else if classRt s cls then ref cCONFLICT
    else
      match indexOfKey s (bits (s.reg ATL_OP_KEY) 0 30) with
      | none => acc (hostResult 3 s)
      | some i =>
        if (s.desc i).st = dABSENT then acc (hostResult 3 s)
        else
          let o : TileOp := { id := hostOpId, plan := keyPlan (s.desc i).key, cls := cls, beam := false, lo := 0, n := 0, row := 0, rows := 0
                              first := 0, nsub := 0, base := 0, step := 0, one := some i, evict := decide (cmd = 2), done := 0, fed := false }
          let (r, s) := opIssue o (setHost 1 (hostResult 0 s))
          acc (if r = 0 then hostStart fast s else s)
  if go.ok && bit v 9 then
    let s := go.st
    match s.atl.hostSt with
    | 1 => acc (setHost 0 (hostResult 1 (opWithdraw hostOpId (opRetire hostOpId s))))
    | 2 => acc (hostResult 2 s)
    | _ => go
  else go

/-! ### Paging (R248, R249) -/

/-- The page-in lead of plan `p` in passes. -/
def pageLead (s : State) (p : Nat) : Nat :=
  if hasStats s p then (Config.atlLead p (s.reg ATL_CNT_DISPATCH)).toNat + 8 else s.rf ATL_BASIC_PREFETCH

/-- Passes due within the lead of their plan. -/
def passesDue (s : State) : List Pass :=
  s.atl.passes.zipIdx.filterMap (fun x => if x.2 < pageLead s (keyPlan (s.desc x.1.idx).key) then some x.1 else none)

/-- Slots that the passes due need. -/
def slotDemand (s : State) : Nat :=
  ((passesDue s).filter (fun p => (s.desc p.idx).st = dZERO || (s.desc p.idx).st = dPAGED)).length

/-- How far ahead the tile's next pass lies: its place in the list, or past it in declared order. -/
def nextPassAt (s : State) (i : Nat) : Nat :=
  match findIdx? (fun p : Pass => p.idx = i) s.atl.passes with
  | some k => k
  | none => s.atl.passes.length + (s.desc i).order

/-- The tile to evict: RESIDENT, its next pass furthest ahead, of equals the lowest index. -/
def victim (s : State) : Option Nat :=
  (s.atl.desc.filter (fun x => x.2.st = dRESIDENT)).foldl (fun a x =>
    match a with
    | none => some x.1
    | some b => if nextPassAt s b < nextPassAt s x.1 then some x.1 else a) none

/-- Evict a tile (R248), with `fast` the pseudo-channel measured fastest. -/
def pageOutStart (fast : Nat) (s : State) : State :=
  if s.rf ATL_BASIC_PAGING = 0 || slotDemand s ≤ freeSlots s then s
  else
    match victim s with
    | none => s
    | some i =>
      let d := s.desc i
      let p := keyPlan d.key
      match allocPage p fast s with
      | some (q, s) => s.setDesc i { d with st := dPAGINGOUT, resv := q }
      | none =>
        let b := (p, s.stg.rBlk)
        if s.atl.full.contains b then s
        else raise EV_ATL_PAGE_AREA_FULL p s.stg.rBlk { s with atl := { s.atl with full := b :: s.atl.full } }

/-- Start paging in the first PAGED tile due within the lead. -/
def pageInStart (s : State) : State :=
  match (passesDue s).find? (fun p => (s.desc p.idx).st = dPAGED), freeSlot s with
  | some p, some n => notePeak (s.modDesc p.idx (fun d => { d with st := dPAGINGIN, resv := n }))
  | _, _ => s

/-- A page-in completes (R239, R253). -/
def pageInDone (i : Nat) (s : State) : State :=
  let d := s.desc i
  if d.st ≠ dPAGINGIN then s
  else
    let s := s.inc ATL_CNT_PAGE_IN 1
    if d.undo then toZero i s
    else
      let (bs, bad, s) := tileValue 2 i s
      let s := setSlot d.resv (bytesCells bs) (s.setDesc i { d with st := dRESIDENT, loc := locSlot d.resv, resv := 0 })
      if bad then poisonTile i 4 (raise EV_ATL_PAGE_UE d.key (locNum d.loc) s) else s

/-! ### Quarantine (R254 to R256) -/

/-- Pages of tiles on pseudo-channel `n`. -/
def pagesOn (s : State) (n : Nat) : List (Nat × Nat) := (usedPages s).filter (fun x => pagePc s x.1 = n)

/-- End the migration of the first quarantined pseudo-channel once it holds no page. -/
def quarCheck : Nat → State → State
  | 0, s => s
  | k + 1, s =>
    match s.atl.quar with
    | [] => s
    | n :: rest =>
      if (pagesOn s n).isEmpty then
        let m := s.atl.moved
        quarCheck k (raise EV_ATL_QUARANTINE_DONE n m
          ({ s with atl := { s.atl with quar := rest, moved := 0 } }.wf ATL_QUAR_STATUS_STALLED 0))
      else s

/-- Quarantine a pseudo-channel. -/
def quarantine (n : Nat) (host : Bool) (s : State) : State :=
  if pcExcluded s n then s
  else
    let s := raise EV_ATL_QUARANTINE_BEGIN n (b2n host) (setExcl n true s)
    quarCheck 64 { s with atl := { s.atl with quar := s.atl.quar ++ [n] } }

/-- The memory unit reports a pseudo-channel DEGRADED (R254). -/
def atlDegraded (n : Nat) (s : State) : State := if s.rf ATL_ARM_QUARANTINE = 1 then quarantine n false s else s

/-- Clear a pseudo-channel's exclusion (R256). -/
def quarRelease (n : Nat) (s : State) : State :=
  let head := s.atl.quar.head? = some n
  let s := setExcl n false s
  let s := { s with atl := { s.atl with quar := s.atl.quar.erase n, moved := if head then 0 else s.atl.moved } }
  if head then s.wf ATL_QUAR_STATUS_STALLED 0 else s

def quarCtrlWrite (v : Nat) (s : State) : State :=
  let n := bits v 0 6
  let s := if bit v 8 then quarantine n true s else s
  if bit v 9 then quarRelease n s else s

/-- Start one move, if a permitted pseudo-channel has a free page. -/
def moveStart (fast i : Nat) (s : State) : Option State :=
  let d := s.desc i
  match allocPage (keyPlan d.key) fast s with
  | some (q, s) => some (s.setDesc i { d with st := dMOVING, resv := q })
  | none => none

/-- Start moves of the tiles in order until one finds no free page; true where one did not. -/
def movesStart (fast : Nat) : List Nat → State → Bool × State
  | [], s => (false, s)
  | i :: t, s =>
    match moveStart fast i s with
    | some s => movesStart fast t s
    | none => (true, s)

/-- A step of at most 64 page moves, one per budget period (R255). -/
def quarStep (fast : Nat) (s : State) : State :=
  match s.atl.quar with
  | [] => s
  | n :: _ =>
    if s.atl.stepped then s
    else
      let l := (((pagesOn s n).filter (fun x => (s.desc x.2).st = dPAGED)).map (·.2)).take 64
      let (stall, s) := movesStart fast l { s with atl := { s.atl with stepped := true } }
      if stall then
        if s.rf ATL_QUAR_STATUS_STALLED = 1 then s
        else raise EV_ATL_QUARANTINE_STALLED n (pagesOn s n).length (s.wf ATL_QUAR_STATUS_STALLED 1)
      else s.wf ATL_QUAR_STATUS_STALLED 0

/-- A moved page's write completes (R255). -/
def moveCommit (i : Nat) (s : State) : State :=
  let d := s.desc i
  if d.st ≠ dMOVING then s
  else
    let old := locNum d.loc
    let n := pagePc s old
    let s := { s with atl := { s.atl with gone := old :: s.atl.gone } }
    let s :=
      if d.undo then toZero i s
      else
        let (bs, bad, s) := tileValue 6 i s
        let (_, s) := hbmPut 6 (pageAddr s d.resv) bs s
        let s := (s.setDesc i { d with st := dPAGED, loc := locPage d.resv, resv := 0 }).inc ATL_CNT_MOVED 1
        if bad then poisonTile i 4 (raise EV_ATL_PAGE_UE d.key old s) else s
    let s := if s.atl.quar.head? = some n then { s with atl := { s.atl with moved := s.atl.moved + 1 } } else s
    quarCheck 64 s

/-! ### Statistics (R249) -/

/-- Raise STATS_READY for the plans whose statistics now exist. -/
def statsCheck (s : State) : State :=
  foldS (fun p t =>
    if !(hasStats t p) && t.atl.closed.contains p && !(planDescs t p).isEmpty && (planDescs t p).all (fun x => x.2.seen) then
      let t := { t with atl := { t.atl with stats := p :: t.atl.stats } }
      raise EV_ATL_STATS_READY p (pageLead t p) t
    else t) (List.range 16) s

/-- A block of staging has closed: it counts for the plans with an operation over it. -/
def statsBlock (n : Nat) (s : State) : State :=
  let b := stgB s
  let ps := (s.atl.ops.filter (fun o => o.one.isNone && decide (o.first < (n + 1) * b)
    && decide (n * b < o.first + o.nsub * stgQ s))).map (·.plan)
  statsCheck { s with atl := { s.atl with closed := (s.atl.closed ++ ps).eraseDups } }

/-! ### Registers (R240, R258) -/

def atlBasicMask : Nat := 0xFF07

/-- `UNIT_BASIC` (R240). -/
def atlBasicWrite (v : Nat) (s : State) : WOut :=
  if !(bit v 1) then acc (storeBits (UNIT_BASIC 11) atlBasicMask v s)
  else
    let nb := stgS s / 32
    let l := (ownChannels s).length
    let shape := nb + 256 * nb + 2 ^ 20 * (l - 1)
    if nb = 0 || l = 0 then refuse uATL 0x18 cRANGE s
    else
      match regionRefused s 0 0 shape true with
      | some c => refuse uATL 0x18 c s
      | none =>
        let s := setRegion 0 0 shape (storeBits (UNIT_BASIC 11) atlBasicMask v s)
        acc (declare 0 (planRegion s 0).all s)

def atlRegionWrite (p off : Nat) (isShape : Bool) (v : Nat) (s : State) : WOut :=
  let base := if isShape then s.reg (ATL_PLAN_BASE p) else v % 2 ^ 22
  let shape := if isShape then v &&& 0xFFF1FFFF else s.reg (ATL_PLAN_SHAPE p)
  match regionRefused s p base shape isShape with
  | some c => refuse uATL off c s
  | none => acc (setRegion p base shape s)

/-- `ATL_CTRL` (R239, R249). -/
def atlCtrlWrite (v : Nat) (s : State) : WOut :=
  let p := v % 16
  let s1 := if bit v 4 then statsReset p s else s
  if bit v 5 then if planUnloadable s p then acc (dropTiles p s1) else refuse uATL 0x100 cSTATE s
  else acc s1

/-- Latch a descriptor snapshot: `err` 0 none, 1 corrected, 2 uncorrectable (R253, R258). -/
def descError (i err : Nat) (s : State) : State :=
  let d := s.desc i
  match err with
  | 1 => s.inc ATL_CNT_DESC_CORR 1
  | 2 =>
    if d.st = dABSENT then s
    else if locKind d.loc = 1 then raise EV_ATL_DESC_UE i 0 s
    else
      let s := (toZero i s).modDesc i (fun d => { d with owner := 0, op := 0 })
      raise EV_ATL_DESC_UE i 1 (poisonTile i 5 s)
  | _ => s

def descSnapshot (i err : Nat) (s : State) : State :=
  let s := s.setReg ATL_DESC_INDEX i
  let s := descError i err s
  let d := s.desc i
  (s.setReg64 ATL_DESC_LO ATL_DESC_HI d.word).setReg ATL_DESC_AUX (b2n d.poison + 2 * b2n (err = 1))

/-- Does any tile lie in a page or a page transfer (R258)? -/
def pagesBusy (s : State) : Bool :=
  s.atl.desc.any (fun x => x.2.st = dPAGED || x.2.st = dPAGINGIN || x.2.st = dPAGINGOUT || x.2.st = dMOVING)

def atlPageWrite (off mask v : Nat) (ok : Bool) (s : State) : WOut :=
  if !ok then refuse uATL off cRANGE s
  else if pagesBusy s then refuse uATL off cSTATE s
  else acc (storeBits (0xB000000 + off) mask v s)

def atlCntClear (v : Nat) (s : State) : State :=
  if bit v 0 then
    (s.zero [ATL_CNT_DISPATCH, ATL_CNT_PAGE_IN, ATL_CNT_PAGE_OUT, ATL_CNT_SLOT_WAIT, ATL_CNT_BUSY, ATL_CNT_POISON, ATL_CNT_DESC_CORR,
      ATL_CNT_MOVED]).setReg ATL_SLOTS_PEAK (usedSlots s).length
  else s

/-- Writes of ATL registers that do more than store, with `fast` and `err` the measured and physical facts of the moment. -/
def atlWriteWith (fast err off v : Nat) (s : State) : Option WOut :=
  match off with
  | 0x18 => some (atlBasicWrite v s)
  | 0x100 => some (atlCtrlWrite v s)
  | 0x110 => some (atlPageWrite off 0xFFFFFFFF v (v % 2 ^ 20 = 0) s)
  | 0x114 => some (atlPageWrite off 0xFFFFFFFF v true s)
  | 0x118 => some (atlPageWrite off 0xFFFFFF v true s)
  | 0x124 => some (acc (quarCtrlWrite v s))
  | 0x12C => some ⟨decide (err ≠ 2), descSnapshot (v % 2 ^ 22) err s⟩
  | 0x140 => some (if v % 64 = 0 then acc (s.setReg ATL_OP_ADDR_LO v) else refuse uATL off cRANGE s)
  | 0x148 => some (atlOpWrite v fast s)
  | 0x150 => some (acc (atlCntClear v s))
  | _ =>
    if 0x1000 ≤ off && off < 0x1100 && off % 16 = 0 then some (atlRegionWrite ((off - 0x1000) / 16) off false v s)
    else if 0x1000 ≤ off && off < 0x1100 && off % 16 = 4 then some (atlRegionWrite ((off - 0x1000) / 16) off true v s)
    else none

def atlWrite (off v : Nat) (s : State) : Option WOut := atlWriteWith 0 0 off v s

/-- Does a pass wait for a slot, or for its tile's page? -/
def passWaits (s : State) : Bool :=
  s.atl.passes.any (fun p =>
    let d := s.desc p.idx
    d.op = p.op + 1 && ((d.st = dZERO && (freeSlot s).isNone) || d.st = dPAGED || d.st = dPAGINGIN))

/-- Reads of ATL registers whose value is derived. -/
def atlRead (off : Nat) (s : State) : Option Nat :=
  let has (l : List Nat) : Bool := s.atl.desc.any (fun x => l.contains x.2.st)
  match off with
  | 0x8 => some (b2n (has [dQUEUED, dFILLING]) + 2 * b2n (has [dPAGINGIN, dPAGINGOUT, dMOVING])
      + 4 * b2n (!s.atl.quar.isEmpty) + 8 * b2n (passWaits s))
  | 0x104 => some ((usedSlots s).length
      + 65536 * (s.atl.desc.filter (fun x => x.2.st = dCOMPLETE || x.2.st = dMERGING)).length)
  | 0x10C => some (s.atl.desc.filter (fun x => locKind x.2.loc = 2)).length
  | 0x128 => some (match s.atl.quar with
      | [] => 0
      | n :: _ => n + 64 + 128 * s.rf ATL_QUAR_STATUS_STALLED + 256 * ((pagesOn s n).length % 2 ^ 24))
  | 0x14C => some (s.atl.hostSt + 16 * s.rf ATL_OP_STATUS_RESULT)
  | _ =>
    if 0x1000 ≤ off && off < 0x1100 && off % 16 = 8 then
      let p := (off - 0x1000) / 16
      let ds := planDescs s p
      some (b2n (!ds.isEmpty) + 2 * b2n (hasStats s p) + 4 * b2n (ds.any (fun x => decide (x.2.op ≠ 0)))
        + 256 * (pageLead s p % 256))
    else if 0x1000 ≤ off && off < 0x1100 && off % 16 = 12 then
      some ((planDescs s ((off - 0x1000) / 16)).filter (fun x => locKind x.2.loc = 2)).length
    else if 0x2000 ≤ off && off < 0x2100 && off % 16 = 0 then
      let k := (off - 0x2000) / 16
      some (min 255 (s.atl.queue.filter (fun o => o.cls = k)).length + 256 * b2n (queueHead s k).isSome)
    else if 0x2000 ≤ off && off < 0x2100 && off % 16 = 4 then
      some (match (queueHead s ((off - 0x2000) / 16)).bind (opBlocker s) with
        | some i => (s.desc i).key + 2 ^ 31
        | none => 0)
    else if 0x3000 ≤ off && off < 0x3100 then
      let n := (off - 0x3000) / 4
      let st := s.rf (MEM_PC_STATUS_STATE n)
      some ((pagesOn s n).length + 2 ^ 24 * b2n (pcExcluded s n) + 2 ^ 25 * b2n (s.atl.quar.head? = some n)
        + 2 ^ 26 * b2n (decide (st ≠ 0)) + 2 ^ 27 * b2n (st = 2))
    else none

/-! ### Meanings -/

/-- OWNERSHIP_GRANT -/
def execOwnershipGrant (cls : Fin 16) (fast : Fin 64) (s : State) : Host.Outcome State Fault Refusal :=
  .next (ownershipGrant cls.val fast.val s)
/-- PAGE_OUT_START -/
def execPageOutStart (fast : Fin 64) (s : State) : Host.Outcome State Fault Refusal := .next (pageOutStart fast.val s)
/-- PAGE_OUT_COMPLETE -/
def execPageOutComplete (index : Fin 4194304) (s : State) : Host.Outcome State Fault Refusal :=
  .next (pageOutDone index.val s)
/-- PAGE_IN_START -/
def execPageInStart (s : State) : Host.Outcome State Fault Refusal := .next (pageInStart s)
/-- PAGE_IN_COMPLETE -/
def execPageInComplete (index : Fin 4194304) (s : State) : Host.Outcome State Fault Refusal :=
  .next (pageInDone index.val s)
/-- QUARANTINE_MOVE_STEP -/
def execQuarantineMoveStep (fast : Fin 64) (s : State) : Host.Outcome State Fault Refusal := .next (quarStep fast.val s)
/-- MOVE_COMMIT -/
def execMoveCommit (index : Fin 4194304) (s : State) : Host.Outcome State Fault Refusal := .next (moveCommit index.val s)
/-- HOST_OP_COMPLETE -/
def execHostOpComplete (fast : Fin 64) (s : State) : Host.Outcome State Fault Refusal := .next (hostComplete fast.val s)

end Sys2Proof.Machine
end

