-- ==== Sys2Proof/Machine/Xar.lean ====
section
/-! DEFINITION. The X-arrays (XAR): cell arithmetic, beam weights, tile passes, dispatch, checks and registers (R180 to R203, R250, R251). -/

namespace Sys2Proof.Machine

/-! ### Arrays -/

def State.arr (s : State) (a : Nat) : ArrSt := sget ArrSt.blank s.atl.arrays a
def State.setArr (a : Nat) (x : ArrSt) (s : State) : State :=
  { s with atl := { s.atl with arrays := sset ArrSt.blank s.atl.arrays a x } }

def xarEnableReg (a : Nat) : Nat := XAR_ENABLE_0 + 4 * (a / 32)
def xarIsolatedReg (a : Nat) : Nat := XAR_ISOLATED_0 + 4 * (a / 32)
def arrEnabled (s : State) (a : Nat) : Bool := bit (s.reg (xarEnableReg a)) (a % 32)
def arrIsolated (s : State) (a : Nat) : Bool := bit (s.reg (xarIsolatedReg a)) (a % 32)

/-- Nothing fills, exchanges or waits in the array. -/
def ArrSt.empty (x : ArrSt) : Bool := x.next.isNone && x.fill.isNone && x.drain.isNone

def isBeamWork (w : Option Work) : Bool := match w with | some w => w.pass.beam | none => false

/-- A beam tile is dispatched or filling (R201). -/
def beamBusy (s : State) : Bool := s.atl.arrays.any (fun x => isBeamWork x.2.next || isBeamWork x.2.fill)

/-- The staged sub-block that a pass reads. -/
def passBuf (s : State) (p : Pass) : Option SubBuf := s.stg.bufs.find? (fun b => b.n = p.n && b.c = p.c && b.k = p.k)

/-- Is the staged sub-block wanted by a pass that is listed, waits in an array or fills? -/
def bufWanted (s : State) (b : SubBuf) : Bool :=
  let is (p : Pass) : Bool := p.n = b.n && p.c = b.c && p.k = b.k
  let isW (w : Option Work) : Bool := match w with | some w => is w.pass | none => false
  s.atl.passes.any is || s.atl.arrays.any (fun x => isW x.2.next || isW x.2.fill)

/-- Staged sub-blocks that nothing wants any more are released. -/
def freeBufs (s : State) : State := { s with stg := { s.stg with bufs := s.stg.bufs.filter (bufWanted s) } }

/-! ### Visibility arithmetic (R182 to R185) -/

/-- A complex product with the second operand conjugated, exact. -/
def mulConj (a b : Int × Int) : Int × Int := (a.1 * b.1 + a.2 * b.2, a.2 * b.1 - a.1 * b.2)
/-- A complex product, exact. -/
def mulC (a b : Int × Int) : Int × Int := (a.1 * b.1 - a.2 * b.2, a.1 * b.2 + a.2 * b.1)
def addC (a b : Int × Int) : Int × Int := (a.1 + b.1, a.2 + b.2)
def sumC (l : List (Int × Int)) : Int × Int := l.foldl addC (0, 0)

/-- Add to a ci32 cell, two's complement (R183). -/
def cellAddInt (w : Nat × Nat) (z : Int × Int) : Nat × Nat := (toU 32 (sext 32 w.1 + z.1), toU 32 (sext 32 w.2 + z.2))

/-- One spectrum of a ch16 visibility cell (R184); operands as binary16 encodings. -/
def cellVis16 (w : Nat × Nat) (a b : Int × Int) : Nat × Nat :=
  let h (z : Int) : Fl := decodeFl fmt16 z.toNat
  let sr := encodeFl fmt32 (((h a.1).mul (h b.1)).add ((h a.2).mul (h b.2)))
  let si := encodeFl fmt32 (((h a.2).mul (h b.1)).add (((h a.1).mul (h b.2)).neg))
  (fAdd fmt32 w.1 sr, fAdd fmt32 w.2 si)

/-- One stream of a ch16 beam cell (R191); `w` the weight. -/
def cellBeam16 (acc : Nat × Nat) (w x : Int × Int) : Nat × Nat :=
  let h (z : Int) : Fl := decodeFl fmt16 z.toNat
  let sr := encodeFl fmt32 (((h w.1).mul (h x.1)).add (((h w.2).mul (h x.2)).neg))
  let si := encodeFl fmt32 (((h w.1).mul (h x.2)).add ((h w.2).mul (h x.1)))
  (fAdd fmt32 acc.1 sr, fAdd fmt32 acc.2 si)

/-- Fill the cells of a visibility tile over `q` spectra; `x t j` is the word of slot `j` at spectrum `t`, `row` and `col` the first
slots of the row and column block. -/
def fillVis (fmt q row col : Nat) (x : Nat → Nat → Int × Int) (cells : List (Nat × Nat)) : List (Nat × Nat) :=
  cells.zipIdx.map (fun y =>
    let r := row + y.2 / 32
    let c := col + y.2 % 32
    if fmt = 2 then (List.range q).foldl (fun w t => cellVis16 w (x t r) (x t c)) y.1
    else cellAddInt y.1 (sumC ((List.range q).map (fun t => mulConj (x t r) (x t c)))))

/-- The check value of a visibility pass (R198). -/
def checkVis (q row col : Nat) (x : Nat → Nat → Int × Int) : Int × Int :=
  sumC ((List.range q).map (fun t =>
    mulConj (sumC ((List.range 32).map (fun r => x t (row + r)))) (sumC ((List.range 32).map (fun c => x t (col + c))))))

/-! ### Beam weights (R192 to R194) -/

/-- The bank in force at a spectrum. -/
def xarBankAt (s : State) (sp : Nat) : Nat :=
  match s.xar.switches.find? (fun x => decide (x.1 ≤ sp)) with
  | some x => x.2
  | none => 0

/-- The generated weight of beam `b` for slot `j` in channel identity `c`, from bank `bank`. -/
def genWeight (s : State) (bank b j c : Nat) (ch16 : Bool) : Int × Int :=
  let d (w : Nat) : Nat := s.reg (XAR_DIR bank (4 * b + w))
  let p (w : Nat) : Int := sext 32 (s.reg (XAR_POS (4 * j + w)))
  if !(bit (d 3) 31) then (0, 0)
  else
    let t := sext 32 (d 0) * p 0 + sext 32 (d 1) * p 1 + sext 32 (d 2) * p 2
    let tt := satS 32 (rneShift t 30)
    let f : Int := (s.reg XAR_WG_KF : Int) + (s.reg XAR_WG_KS : Int) * ((c : Int) - (s.reg STG_CHAN_REF : Int))
    let phi := toU 32 (rneShift (tt * f) 8)
    let (cc, sn) := trig (phi / 65536)
    let a : Nat := if s.rf XAR_BASIC_TAPER_EN = 1 then bits (s.reg (XAR_TAPER (bits (d 3) 16 8) (j / 4))) (8 * (j % 4)) 8 else 128
    let g := bits (d 3) 0 16
    let ag : Int := a * g
    if ch16 then ((encodeFl fmt16 (flOver (ag * cc) 36) : Int), (encodeFl fmt16 (flOver (-(ag * sn)) 36) : Int))
    else (satS 8 (rneShift (ag * cc) 30), satS 8 (rneShift (-(ag * sn)) 30))

/-- The weight table's weight of beam `b` for slot `j`. -/
def tabWeight (s : State) (bank b j : Nat) (ch16 : Bool) : Int × Int :=
  let h := bits (s.reg (XAR_WEIGHT bank ((b * 4096 + j) / 2))) (16 * (j % 2)) 16
  let r := sext 8 (bits h 0 8)
  let i := sext 8 (bits h 8 8)
  if ch16 then ((fOfInt fmt16 r : Int), (fOfInt fmt16 i : Int)) else (r, i)

def beamWeight (s : State) (bank b j c : Nat) (ch16 : Bool) : Int × Int :=
  if s.rf XAR_BASIC_WSRC = 1 then tabWeight s bank b j ch16 else genWeight s bank b j c ch16

/-- Fill a beam tile: row `r` is beam 32u + r, column `c'` spectrum `t0 + c'` of the sub-block, each column with the weights of its own bank
(R191, R195); `w bank r j` the weight, `bankOf c'` the column's bank. -/
def fillBeam (fmt sN t0 : Nat) (w : Nat → Nat → Nat → Int × Int) (bankAt : Nat → Nat) (x : Nat → Nat → Int × Int) :
    List (Nat × Nat) :=
  (List.range 1024).map (fun y =>
    let r := y / 32
    let t := t0 + y % 32
    let bank := bankAt (y % 32)
    if fmt = 2 then (List.range sN).foldl (fun a j => cellBeam16 a (w bank r j) (x t j)) (0, 0)
    else cellAddInt (0, 0) (sumC ((List.range sN).map (fun j => mulC (w bank r j) (x t j)))))

/-- The check value of a beam pass, run by run. -/
def checkBeam (sN t0 : Nat) (w : Nat → Nat → Nat → Int × Int) (bankAt : Nat → Nat) (x : Nat → Nat → Int × Int) : Int × Int :=
  sumC ([0, 1].flatMap (fun bank => (List.range sN).map (fun j =>
    mulC (sumC ((List.range 32).map (fun r => w bank r j)))
      (sumC (((List.range 32).filter (fun c => bankAt c = bank)).map (fun c => x (t0 + c) j))))))

/-! ### Passes (R188 to R190, R250, R251) -/

/-- May the array take the pass without a drain or load between (the keep rule of R189)? -/
def passKeeps (x : ArrSt) (p : Pass) : Bool :=
  match x.fill with
  | some w => !p.beam && w.pass.idx = p.idx && w.pass.n = p.n && w.pass.k + 1 = p.k
  | none => false

/-- Is the pass dispatchable to the array (R250)? -/
def passReady (s : State) (x : ArrSt) (p : Pass) : Bool :=
  let d := s.desc p.idx
  d.op = p.op + 1 && (passBuf s p).isSome &&
    (passKeeps x p
      || (if p.beam || p.k = 0 then d.st = dZERO && (freeSlot s).isSome else d.st = dRESIDENT))

/-- Can the array take the pass now: enabled, no pass waiting in it, and a beam tile alone in its array (R181, R191)? -/
def arrTakes (s : State) (a : Nat) (p : Pass) : Bool :=
  let x := s.arr a
  arrEnabled s a && !x.isolate && x.next.isNone &&
    (if p.beam then x.fill.isNone && x.drain.isNone else !(isBeamWork x.fill) && !(isBeamWork x.drain))

/-- Arrays other than `a` that hold work of class `c`. -/
def arrUsed (s : State) (a c : Nat) : Nat :=
  (s.atl.arrays.filter (fun y => decide (y.1 ≠ a) && [y.2.next, y.2.fill].any (fun w =>
    match w with | some w => w.pass.cls = c | none => false))).length

/-- The pass that array `a` takes: of the class that the cadastre gives it, the head of the list under the keep rule, else the first dispatchable
one (R251). -/
def arrPick (s : State) (a : Nat) : Option Pass :=
  let x := s.arr a
  let ready := s.atl.passes.filter (fun p => arrTakes s a p && passReady s x p)
  match classOrder s ((ready.map (·.cls)).eraseDups) (arrUsed s a) (arrFloor s) (arrCeil s) with
  | [] => none
  | c :: _ =>
    match s.atl.passes.find? (fun p => p.cls = c) with
    | some h => if ready.contains h && passKeeps x h then some h else ready.find? (fun p => p.cls = c)
    | none => none

/-- The lowest-numbered array that can take a pass, and the pass. -/
def arrChoose (s : State) : Option (Nat × Pass) :=
  (List.range 80).findSome? (fun a => (arrPick s a).map (fun p => (a, p)))

/-- Count once each pass that waits for a slot or for its tile's page (R246, R248). -/
def countWaits (s : State) : State :=
  let waits (p : Pass) : Bool :=
    let d := s.desc p.idx
    !p.waited && d.op = p.op + 1 && ((d.st = dZERO && (freeSlot s).isNone) || d.st = dPAGED || d.st = dPAGINGIN)
  let n := (s.atl.passes.filter waits).length
  if n = 0 then s
  else { s with atl := { s.atl with passes := s.atl.passes.map (fun p => if waits p then { p with waited := true } else p) } }.inc
    ATL_CNT_SLOT_WAIT n

/-- Sum of a tile's integer cells. -/
def cellSum (l : List (Nat × Nat)) : Int × Int := sumC (l.map (fun w => (sext 32 w.1, sext 32 w.2)))

/-- Give a pass to array `a`, with the cells of its start value that read uncorrectable. -/
def givePass (a : Nat) (p : Pass) (corr : Nat) (ue : List Nat) (s : State) : State :=
  let x := s.arr a
  let s := { s with atl := { s.atl with passes := s.atl.passes.erase p } }
  let s := (s.modDesc p.idx (fun d => { d with seen := true, src := p.op + 1 })).inc ATL_CNT_DISPATCH 1
  let key := (s.desc p.idx).key
  let x := { x with key := key }
  let fmt := match passBuf s p with | some b => b.fmt | none => 0
  if passKeeps x p then
    match x.fill with
    | some w => statsCheck (s.setArr a { x with keep := true, next := some { w with pass := p, fmt := fmt } })
    | none => s
  else
    let zero := p.beam || p.k = 0
    let slot := if zero then (freeSlot s).getD 0 else locNum (s.desc p.idx).loc
    let s := if zero then s else s.inc XAR_CNT_CORR corr
    let cells := if zero then List.replicate 1024 (0, 0)
      else (slotCells s slot).zipIdx.map (fun c => if ue.contains c.2 then (0, 0) else c.1)
    let bad := !zero && !ue.isEmpty
    let s := if bad then raise EV_XAR_TILE_LOAD_UE a key (s.inc (XAR_ARR_CNT_UE a) 1) else s
    let w : Work := { pass := p, fmt := fmt, slot := slot, cells := cells, start := if fmt = 2 then (0, 0) else cellSum cells, chk := (0, 0)
                      npass := 0, bad := if bad then 2 else 0 }
    let now := x.fill.isNone && x.drain.isNone
    let s := s.modDesc p.idx (fun d => { d with st := if now then dFILLING else dQUEUED, loc := locSlot slot })
    statsCheck (notePeak (s.setArr a (if now then { x with fill := some w } else { x with next := some w })))

/-- PASS_DISPATCH: the next pass to the lowest-numbered array that can take one. `desc` is what the descriptor's check found, `corr` and
`ue` the start value's corrected and uncorrectable cells. -/
def passDispatch (desc corr : Nat) (ue : List Nat) (s : State) : State :=
  if s.rf ATL_BASIC_EN = 0 then s
  else
    let s := countWaits s
    match arrChoose s with
    | none => s
    | some (a, p) =>
      let lost := desc = 2 && locKind (s.desc p.idx).loc ≠ 1
      let s := descError p.idx desc s
      if lost then s else givePass a p corr ue s

/-- What a pass makes of the tile: cells and check value. -/
def passFill (s : State) (b : SubBuf) (w : Work) (parity : Option (Nat × Nat)) : List (Nat × Nat) × (Int × Int) :=
  let sN := stgS s
  let q := stgQ s
  let v := b.vals.toArray
  let hit (t j : Nat) : Bool :=
    match parity with
    | some (pt, pj) => j = pj && (t = pt || (b.fmt = 1 && t / 2 = pt / 2))
    | none => false
  let x (t j : Nat) : Int × Int := if hit t j || sN ≤ j then (0, 0) else v.getD (t * sN + j) (0, 0)
  let p := w.pass
  if p.beam then
    let t0 := 32 * p.v
    let lo := p.n * stgB s + p.k * q + t0
    let bankAt (c : Nat) : Nat := xarBankAt s (lo + c)
    let ch := s.stg.chans.getD p.c 0
    let wt (bank r j : Nat) : Int × Int := beamWeight s bank (32 * p.u + r) j ch (b.fmt = 2)
    (fillBeam b.fmt sN t0 wt bankAt x, if b.fmt = 2 then (0, 0) else checkBeam sN t0 wt bankAt x)
  else
    let row := p.base + 32 * p.u
    let col := p.base + 32 * p.v
    (fillVis b.fmt q row col x w.cells, if b.fmt = 2 then (0, 0) else addC w.chk (checkVis q row col x))

/-- Did the pass read the word of slot `j` at spectrum `t`? -/
def passReads (p : Pass) (sN t j : Nat) : Bool :=
  if p.beam then decide (32 * p.v ≤ t) && decide (t < 32 * p.v + 32) && decide (j < sN)
  else (decide (p.base + 32 * p.u ≤ j) && decide (j < p.base + 32 * p.u + 32))
    || (decide (p.base + 32 * p.v ≤ j) && decide (j < p.base + 32 * p.v + 32))

/-- Report the operand errors of a pass: `parity` from the staging SRAM and the sub-block's slots that met an error response. -/
def operandErr (a : Nat) (b : SubBuf) (p : Pass) (parity : Option (Nat × Nat)) (s : State) : Bool × State :=
  let sN := stgS s
  let lo := p.n * stgB s + p.k * stgQ s
  let par := match parity with | some (t, j) => passReads p sN t j | none => false
  let bad := b.badSlots.any (fun j => p.beam || passReads p sN 0 j)
  if par || bad then
    let t := match parity with | some (t, _) => if par then lo + t else lo | none => lo
    (true, raise EV_XAR_OPERAND_ERR a t (s.inc (XAR_ARR_CNT_UE a) 1))
  else (false, s)

/-- Report a beam tile that two banks filled (R195). -/
def splitNote (p : Pass) (s : State) : State :=
  let lo := p.n * stgB s + p.k * stgQ s + 32 * p.v
  match (List.range 31).find? (fun c => decide (xarBankAt s (lo + c) ≠ xarBankAt s (lo + c + 1))) with
  | some c =>
    if p.beam then raise EV_XAR_WSWAP_SPLIT (p.u + 65536 * p.v) ((lo + c + 1) * stgHop s) (s.inc XAR_CNT_SPLIT 1) else s
  | none => s

/-- Array `a` has taken its last operand of the tile it fills (R189, R197). -/
def passFillEnd (a : Nat) (parity : Option (Nat × Nat)) (s : State) : State :=
  let x := s.arr a
  match x.fill with
  | none => s
  | some w =>
    if x.drain.isSome && !x.keep then
      if x.stalled then s else (s.setArr a { x with stalled := true }).inc (XAR_ARR_CNT_STALL a) 1
    else
      match passBuf s w.pass with
      | none => s
      | some b =>
        let (cells, chk) := passFill s b w parity
        let (err, s) := operandErr a b w.pass parity s
        let s := splitNote w.pass s
        let w := { w with cells := cells, chk := chk, npass := w.npass + 1, bad := if w.bad ≠ 0 then w.bad else if err then 3 else 0 }
        let s := match x.next with
          | some nx =>
            if x.keep then s.setArr a { x with keep := false, next := none, fill := some { w with pass := nx.pass, fmt := nx.fmt } }
            else
              (s.modDesc nx.pass.idx (fun d => { d with st := dFILLING })).setArr a
                { x with next := none, fill := some nx, drain := some w, stalled := false }
          | none => s.setArr a { x with fill := none, drain := some w, stalled := false }
        freeBufs s

/-- The last spectrum plus one of an operation. -/
def TileOp.endSpec (s : State) (o : TileOp) : Nat := o.first + o.nsub * stgQ s

/-- Has the operation a pass of the tile after this one? -/
def lastOfOp (s : State) (p : Pass) : Bool :=
  match s.atl.ops.find? (fun o => o.id = p.op) with
  | some o =>
    if p.beam then decide (o.endSpec s ≤ p.n * stgB s + (p.k + 1) * stgQ s) else decide (o.endSpec s ≤ (p.n + 1) * stgB s)
  | none => true

/-- An array that is to be isolated and is empty leaves service (R200). -/
def isolateIfEmpty (a : Nat) (s : State) : State :=
  let x := s.arr a
  if x.isolate && x.empty then
    let s := s.setReg (xarEnableReg a) (setBits (s.reg (xarEnableReg a)) (a % 32) 1 0)
    let s := s.setReg (xarIsolatedReg a) (setBits (s.reg (xarIsolatedReg a)) (a % 32) 1 1)
    raise EV_XAR_ISOLATED a x.key (s.setArr a { x with isolate := false })
  else s

/-- A tile's drain reaches the tile store (R189, R198, R239); `upset` is a cell that the array computed wrongly. -/
def exchangeEnd (a : Nat) (upset : Option (Nat × Nat × Nat)) (s : State) : State :=
  let x := s.arr a
  match x.drain with
  | none => s
  | some w =>
    let cells := match upset with
      | some (i, mr, mi) => w.cells.zipIdx.map (fun c => if c.2 = i then (c.1.1 ^^^ mr, c.1.2 ^^^ mi) else c.1)
      | none => w.cells
    let i := w.pass.idx
    let key := (s.desc i).key
    let s := (setSlot w.slot cells s).inc (XAR_ARR_CNT_PASS a) w.npass
    let miss := s.rf XAR_BASIC_CHECK_EN = 1 && w.fmt < 2
      && decide (cellSum cells ≠ addC w.start w.chk)
    let s := if miss then raise EV_XAR_ARRAY_CHECK a key (s.inc (XAR_ARR_CNT_CHECK a) 1) else s
    let s := if w.bad ≠ 0 then poisonTile i w.bad s else s
    let s := if miss then poisonTile i 1 s else s
    let iso := x.isolate || (miss && s.rf XAR_ARM_ISOLATE = 1)
    let s := match x.next with
      | some nx =>
        if x.fill.isNone then
          (s.modDesc nx.pass.idx (fun d => { d with st := dFILLING })).setArr a { x with drain := none, next := none, fill := some nx, isolate := iso }
        else s.setArr a { x with drain := none, isolate := iso }
      | none => s.setArr a { x with drain := none, isolate := iso }
    let d := s.desc i
    let s :=
      if d.undo && (w.pass.beam || !w.pass.last) then toZero i s
      else if w.pass.last then
        let s := if lastOfOp s w.pass then unown i s else s
        s.modDesc i (fun d => { d with st := dCOMPLETE, resv := w.pass.n * 256 + w.pass.k })
      else s.modDesc i (fun d => { d with st := dRESIDENT })
    isolateIfEmpty a s

/-! ### Waymarks (R187, R194) -/

/-- Apply a waymark at the arrays. -/
def xarApply (w : Waymark) (s : State) : State :=
  if w.kind = wWSWAP then
    let sp := specOf s w.anchor
    let b := w.arg % 2
    let s := if bit w.flags 3 then { s with xar := { s.xar with lates := sp :: s.xar.lates } } else s
    let s := if xarBankAt s sp = b then s else { s with xar := { s.xar with switches := (sp, b) :: s.xar.switches } }
    s.wf XAR_WG_STATE_ACTIVE_BANK b
  else if w.kind = wPROBE then
    (s.setReg XAR_PROBE_TAG w.arg).setReg64 XAR_PROBE_IDX_LO XAR_PROBE_IDX_HI w.anchor
  else s

/-! ### Registers (R180, R181, R194, R201, R203) -/

def xarBasicMask : Nat := 0x131

/-- A write of `XAR_ENABLE_n` (R181, R200). -/
def xarEnableWrite (n v : Nat) (s : State) : State :=
  let v := if n = 2 then v % 65536 else v
  let s := s.setReg (XAR_ENABLE_0 + 4 * n) v
  s.setReg (XAR_ISOLATED_0 + 4 * n) (s.reg (XAR_ISOLATED_0 + 4 * n) - (s.reg (XAR_ISOLATED_0 + 4 * n) &&& v))

/-- `UNIT_BASIC` (R180, R201). -/
def xarBasicWrite (v : Nat) (s : State) : WOut :=
  let old := s.reg (UNIT_BASIC 9)
  if beamBusy s && decide ((old ^^^ v) &&& 0x30 ≠ 0) then refuse uXAR 0x18 cSTATE s
  else
    let s := storeBits (UNIT_BASIC 9) xarBasicMask v s
    let f := if bit v 0 then 0xFFFFFFFF else 0
    acc (foldS (fun n t => xarEnableWrite n f t) [0, 1, 2] s)

/-- Table writes: directions and weights refused in a bank in use, positions and tapers while BEAM_BUSY. -/
def xarTableWrite (off v : Nat) (s : State) : WOut :=
  let put : WOut := acc (s.setReg (0x9000000 + off) v)
  let bank (b : Nat) : WOut := if xarBankInUse s b then refuse uXAR off cINUSE s else put
  if off < 0x108000 then bank 0
  else if off < 0x200000 then bank 1
  else if off < 0x400000 then if beamBusy s then refuse uXAR off cSTATE s else put
  else if off < 0x800000 then bank 0
  else bank 1

def xarArrCounters (a : Nat) : List Nat := [XAR_ARR_CNT_PASS a, XAR_ARR_CNT_STALL a, XAR_ARR_CNT_CHECK a, XAR_ARR_CNT_UE a]

def xarCntClear (v : Nat) (s : State) : State :=
  if bit v 7 then (s.zero ((List.range 80).flatMap xarArrCounters)).zero [XAR_CNT_SPLIT, XAR_CNT_CORR]
  else if v % 128 < 80 then s.zero (xarArrCounters (v % 128)) else s

/-- Writes of XAR registers and tables that do more than store. -/
def xarWrite (off v : Nat) (s : State) : Option WOut :=
  match off with
  | 0x18 => some (xarBasicWrite v s)
  | 0x100 => some (acc (xarEnableWrite 0 v s))
  | 0x104 => some (acc (xarEnableWrite 1 v s))
  | 0x108 => some (acc (xarEnableWrite 2 v s))
  | 0x128 => if beamBusy s then some (refuse uXAR off cSTATE s) else none
  | 0x12C => if beamBusy s then some (refuse uXAR off cSTATE s) else none
  | 0x130 => some (acc (xarCntClear v s))
  | _ => if 0x100000 ≤ off then some (xarTableWrite off v s) else none

/-- `XAR_ARR_STATUS` as it reads. -/
def arrStatus (s : State) (a : Nat) : Nat :=
  let x := s.arr a
  let st := match x.fill with
    | some w => if x.stalled then 4 else if w.pass.beam then 3 else 2
    | none => if x.next.isSome then 4 else if arrIsolated s a then 5 else if !(arrEnabled s a) && x.drain.isNone then 0 else 1
  st + 8 * b2n (x.drain.isSome || x.next.isSome && !x.keep) + 32 * (match x.fill with | some w => w.fmt | none => 0)

/-- Reads of XAR registers whose value is derived. -/
def xarRead (off : Nat) (s : State) : Option Nat :=
  let busy (a : Nat) : Bool := !(s.arr a).empty
  let word (n : Nat) : Nat := (List.range 32).foldl (fun v i => v + b2n (busy (32 * n + i)) * 2 ^ i) 0
  match off with
  | 0x8 => some (((List.range 80).filter busy).length + 256 * ((List.range 80).filter (arrEnabled s)).length)
  | 0x10C => some (word 0)
  | 0x110 => some (word 1)
  | 0x114 => some (word 2)
  | 0x124 => some (s.rf XAR_WG_STATE_ACTIVE_BANK + 2 * b2n ((heldBy s uXAR).any (fun w => w.kind = wWSWAP)) + 4 * b2n (beamBusy s))
  | _ =>
    if 0x1000 ≤ off && off < 0x1A00 && off % 0x20 = 0 then some (arrStatus s ((off - 0x1000) / 0x20))
    else if 0x1000 ≤ off && off < 0x1A00 && off % 0x20 = 4 then
      some (match (s.arr ((off - 0x1000) / 0x20)).fill with | some w => (s.desc w.pass.idx).key + 2 ^ 31 | none => 0)
    else none

/-! ### Meanings -/

/-- EXCHANGE_END -/
def execExchangeEnd (array : Fin 80) (upset : Option (Fin 1024 × Word × Word)) (s : State) : Host.Outcome State Fault Refusal :=
  .next (exchangeEnd array.val (upset.map (fun x => (x.1.val, x.2.1.toNat, x.2.2.toNat))) s)

end Sys2Proof.Machine
end

