-- ==== Sys2Proof/Machine/Acc.lean ====
section
/-! DEFINITION. Accumulation (ACC): merge, planes, reductions, integrations, fused output, legends and beams (R204 to R233, R293 to R300). -/

namespace Sys2Proof.Machine

/-! ### Plans and layout (R209) -/

def State.aplan (s : State) (p : Nat) : AccPlan := sget AccPlan.blank s.acc.plans p
def State.setAplan (p : Nat) (x : AccPlan) (s : State) : State :=
  { s with acc := { s.acc with plans := sset AccPlan.blank s.acc.plans p x } }

def planEn (s : State) (p : Nat) : Bool := s.rf (ACC_PLAN_CFG_EN p) = 1
def planBeam (s : State) (p : Nat) : Bool := s.rf (ACC_PLAN_CFG_BEAM p) = 1
def enPlans (s : State) : List Nat := (List.range 16).filter (planEn s)

/-- Staging slot of the plan's first declared stream, and its stream count. -/
def planBase (s : State) (p : Nat) : Nat :=
  match planStreams s p with | some (f, _) => f - s.reg STG_STREAM_BASE | none => 0
def planCount (s : State) (p : Nat) : Nat :=
  match planStreams s p with | some (_, c) => c | none => stgS s

def setBase (s : State) (p k : Nat) : Nat :=
  if k = 0 then s.reg64 (ACC_SET0_BASE_LO p) (ACC_SET0_BASE_HI p) else s.reg64 (ACC_SET1_BASE_LO p) (ACC_SET1_BASE_HI p)

/-- Tiles of one channel of a set. -/
def accT (s : State) : Nat := let nb := stgS s / 32; nb * (nb + 1) / 2
/-- Address of a tile in set `k`. -/
def tileAddr (s : State) (p k c u v : Nat) : Nat := setBase s p k + (c * accT s + triIndex (stgS s / 32) u v) * 8192
/-- Address of plane `i` of set `k`. -/
def planeAddr (s : State) (p k i : Nat) : Nat := setBase s p k + ceilTo (stgL s * accT s * 8192) (2 ^ 20) + i * 2048
def planeCap (s : State) (p : Nat) : Nat := bits (s.reg (ACC_PLANE_CAP p)) 0 20

/-- A plan is busy: its integrating set holds a block, or the other set drains (R233). -/
def planBusy (s : State) (p : Nat) : Bool := !(s.aplan p).blocks.isEmpty || !(s.aplan p).drains.isEmpty

def tkey (c u v : Nat) : Nat := (c * 128 + u) * 128 + v

/-! ### Binary32 with saturation (R208, R219) -/

/-- Round to binary32; a magnitude beyond the range becomes the greatest finite one. The second part counts it. -/
def rnSat (x : Fl) : Nat × Nat :=
  let n := encodeFl fmt32 x
  if n % 2 ^ 31 = 0x7F800000 then (n - 1, 1) else (n, 0)

def f32 (n : Nat) : Fl := decodeFl fmt32 n

/-- Count saturated parts; SATURATION as the count leaves zero. -/
def countSat (p num n : Nat) (s : State) : State :=
  if n = 0 then s
  else
    let t := s.inc ACC_CNT_SAT n
    if s.reg ACC_CNT_SAT = 0 then raise EV_ACC_SATURATION p num t else t

/-- The number of the integration in progress: that of the DUMP held for it, else one past the last (R205). -/
def curNum (s : State) (p : Nat) : Nat :=
  match (s.aplan p).dumps with | w :: _ => w.arg | [] => (s.reg (ACC_PLAN_INTEG p) + 1) % 2 ^ 32

/-! ### Blocks, voids and planes (R212, R214) -/

/-- The block boundary at which a DUMP closes (R205). -/
def dumpBoundary (s : State) (w : Waymark) : Nat := ceilDiv w.anchor (stgSpan s)

/-- The first block of the integration that block `n` falls into, as far as held DUMPs show. -/
def segStart (s : State) (p n : Nat) : Nat :=
  ((s.aplan p).dumps.map (dumpBoundary s)).foldl (fun a m => if m ≤ n then max a m else a) 0

/-- Timing voids of a slot in a block: the spectra that never arrived (R24). -/
def timingOf (s : State) (n j : Nat) : Nat := popcount (stgB s) (missingOf s n j)

/-- The voids of block `n` as staging has them. -/
def blockRow (s : State) (n : Nat) : BlockRow :=
  { n := n
    masks := ((List.range (stgS s)).map (fun j => (j, maskOf s n j))).filter (fun x => decide (x.2 ≠ 0))
    timing := ((List.range (stgS s)).map (fun j => (j, timingOf s n j))).filter (fun x => decide (x.2 ≠ 0)) }

def rowMask (r : BlockRow) (j : Nat) : Nat := sget 0 r.masks j
def findRow (rs : List BlockRow) (n : Nat) : Option BlockRow := rs.find? (fun r => r.n = n)

/-- Does a position of a plan need a plane: has a slot of row block u or column block v a void? -/
def needsPlane (base : Nat) (r : BlockRow) (u v : Nat) : Bool :=
  r.masks.any (fun x => decide (base ≤ x.1) && ((x.1 - base) / 32 = u || (x.1 - base) / 32 = v))

/-- Note block `n` for plan `p`: its voids, and a plane for each position that needs one and has none yet. -/
def noteBlock (p : Nat) (row : BlockRow) (s : State) : State :=
  let a := s.aplan p
  let n := row.n
  let a := { a with rows := a.rows.filter (fun r => decide (r.n ≠ n)) ++ [row] }
  if planBeam s p then s.setAplan p a
  else
    let seg := segStart s p n
    let base := planBase s p
    let need := (planRegion s p).positions.filter (fun x => needsPlane base row x.1 x.2
      && !(a.planes.any (fun y => y.n = n && y.u = x.1 && y.v = x.2)))
    let held := (a.planes.filter (fun y => y.ok && decide (seg ≤ y.n))).length
    let room := planeCap s p - held
    let new := need.zipIdx.map (fun x => (⟨n, x.1.1, x.1.2, decide (x.2 < room)⟩ : PlanePos))
    let full := new.any (fun y => !y.ok)
    let first := full && !(a.fullBlk.contains n)
    let a := { a with planes := a.planes ++ new, fullBlk := if first then n :: a.fullBlk else a.fullBlk }
    let s := s.setAplan p a
    if first then raise EV_ACC_PLANE_FULL p n (s.inc ACC_CNT_PLANE_FULL 1) else s

/-- ACC_BLOCK_CLOSE: the newest closed block's summaries. -/
def accBlockClose (s : State) : State :=
  if s.stg.nclose ≤ s.stg.blk0 then s
  else
    let row := blockRow s (s.stg.nclose - 1)
    foldS (fun p t => noteBlock p row t) (enPlans s) s

/-! ### Reduction (R215 to R218) -/

/-- Plans, with operations of the given kind, that cover sub-block `k` of channel `c` of block `n`. -/
def opCovers (s : State) (o : TileOp) (n c k : Nat) : Bool :=
  let lo := n * stgB s + k * stgQ s
  o.one.isNone && decide (o.lo ≤ c) && decide (c < o.lo + o.n) && decide (o.first ≤ lo) && decide (lo < o.endSpec s)

/-- |x|² exactly. -/
def pow2 (x : Int × Int) : Nat := (x.1 * x.1 + x.2 * x.2).toNat

/-- The valid words of slot `j` of a staged sub-block. -/
def validWords (b : SubBuf) (sN q j : Nat) : List (Int × Int) :=
  let v := b.vals.toArray
  let m := sget 0 b.mask j
  (List.range q).filterMap (fun t => if bit m t then none else some (v.getD (t * sN + j) (0, 0)))

def addSums (a b : List (Nat × Nat × Nat)) : List (Nat × Nat × Nat) :=
  b.zipIdx.map (fun x => let y := a.getD x.2 (0, 0, 0); (x.1.1 + y.1, x.1.2.1 + y.2.1, x.1.2.2 + y.2.2))
def addMoments (a b : List (Nat × Int × Int × Nat)) : List (Nat × Int × Int × Nat) :=
  b.zipIdx.map (fun x => let y := a.getD x.2 (0, 0, 0, 0)
    ((x.1.1 + y.1) % 2 ^ 64, wrapS 64 (x.1.2.1 + y.2.1), wrapS 64 (x.1.2.2.1 + y.2.2.1), (x.1.2.2.2 + y.2.2.2) % 2 ^ 128))

/-- Flag of a block whose sub-blocks are ch16. -/
def mCH16 : Nat := 256

/-- The reduction tap of plan `p` on a staged sub-block; `vis` where a visibility operation reads it. -/
def accReduce (p : Nat) (vis : Bool) (b : SubBuf) (s : State) : State :=
  let a := s.aplan p
  let old := (a.moments.find? (fun m => m.n = b.n)).getD ⟨b.n, 0, []⟩
  let old := { old with flags := old.flags ||| b.flags ||| (if b.fmt = 2 then mCH16 else 0) }
  let red := vis && decide (b.fmt ≠ 2)
  let sN := stgS s
  let words := (List.range sN).map (validWords b sN (stgQ s))
  let m := if red && s.rf (ACC_PLAN_CFG_REDUCE_EN p) = 1 then
      { old with sums := addMoments old.sums (words.map (fun l =>
          (l.length, (l.map (·.1)).foldl (· + ·) 0, (l.map (·.2)).foldl (· + ·) 0, (l.map pow2).foldl (· + ·) 0))) }
    else old
  let a := { a with moments := a.moments.filter (fun x => decide (x.n ≠ b.n)) ++ [m] }
  let a := if red && s.rf (ACC_PLAN_CFG_SK_EN p) = 1 then
      let w := b.k / max 1 (s.rf (ACC_PLAN_CFG_SK_WINDOW p))
      let is (x : SkWin) : Bool := x.n = b.n && x.c = b.c && x.w = w
      let was := match a.wins.find? is with | some x => x.sums | none => []
      let sums := addSums was (words.map (fun l =>
        (l.length, (l.map pow2).foldl (· + ·) 0, (l.map (fun x => pow2 x * pow2 x)).foldl (· + ·) 0)))
      { a with wins := a.wins.filter (fun x => !(is x)) ++ [⟨b.n, b.c, w, sums⟩] }
    else a
  s.setAplan p a

/-- The kurtosis estimator in binary64 (R216): none for a window without one. -/
def skEst (x : Nat × Nat × Nat) : Option Nat :=
  let (n, s1, s2) := x
  if n < 2 || s1 = 0 then none
  else
    let f (k : Nat) : Nat := fOfInt fmt64 k
    let t1 := fMul fmt64 (f s2) (f n)
    let t2 := fMul fmt64 (f s1) (f s1)
    some (fMul fmt64 (fSub fmt64 (fDiv fmt64 t1 t2) (f 1)) (fDiv fmt64 (f (n + 1)) (f (n - 1))))

/-- Is the window flagged against a baseline: |sk - base| above the deviation, as binary64? -/
def skFlag (base dev sk : Nat) : Bool :=
  let d := fSub fmt64 sk base % 2 ^ 63
  (decodeFl fmt64 (encodeFl fmt64 (f32 dev))).lt (decodeFl fmt64 d)

/-- Bits of a list of flags, as one number. -/
def bitsOf (l : List Bool) : Nat := l.zipIdx.foldl (fun a x => a + b2n x.1 * 2 ^ x.2) 0

/-- Windows whose flags fit the work area of 16 MiB, a bit per stream slot (log entry 34). -/
def skRoom (s : State) : Nat := 2 ^ 27 / max 1 (stgS s)

/-! ### Merge (R208, R211, R214, R229, R230) -/

/-- The exact value of a block result part. -/
def partFl (fmt x : Nat) : Fl := if fmt = 2 then f32 x else Fl.ofInt (sext 32 x)

/-- Merge the cells of a block result into the set: encodings, and parts saturated. -/
def mergeCells (fmt : Nat) (first : Bool) : List (Nat × Nat) → List (Nat × Nat) → List (Nat × Nat) × Nat
  | x :: xs, o :: os =>
    let (r, n) := rnSat (if first then partFl fmt x.1 else (f32 o.1).add (partFl fmt x.1))
    let (i, m) := rnSat (if first then partFl fmt x.2 else (f32 o.2).add (partFl fmt x.2))
    let (t, k) := mergeCells fmt first xs os
    ((r, i) :: t, n + m + k)
  | _, _ => ([], 0)

/-- Did any input of tile (u, v) have a timing void in block `n`? -/
def tileTiming (base : Nat) (rows : List BlockRow) (n u v : Nat) : Bool :=
  match findRow rows n with
  | some r => r.timing.any (fun x => decide (base ≤ x.1) && ((x.1 - base) / 32 = u || (x.1 - base) / 32 = v))
  | none => false

/-- Does a late anchor of the plan lie in block `n`? -/
def blockLate (s : State) (p n : Nat) : Bool :=
  ((s.aplan p).lates ++ s.xar.lates).any (fun sp => decide (n * stgB s ≤ sp) && decide (sp < (n + 1) * stgB s))

/-- The header flags that a block's input carried. -/
def blockFlags (a : AccPlan) (n : Nat) : Nat := match a.moments.find? (fun m => m.n = n) with | some m => m.flags | none => 0

/-- Is the first block of an integration held because its set still drains (R211)? -/
def setDraining (a : AccPlan) : Bool := a.drains.any (fun d => d.set = a.set)

/-- The operation `id` has fed an integration. -/
def markFed (id : Nat) (s : State) : State :=
  { s with atl := { s.atl with ops := s.atl.ops.map (fun o => if o.id = id then { o with fed := true } else o) } }

/-- Take the block result of descriptor `i` into the integrating set, or leave it out. -/
def takeResult (i p n : Nat) (s : State) : State :=
  let d := s.desc i
  let a := s.aplan p
  let c := keyChan d.key
  let u := keyRow d.key
  let v := keyCol d.key
  let fmt := if bit (blockFlags a n) 8 then 2 else 0
  let cells := slotCells s (locNum d.loc)
  let key := tkey c u v
  let t := sget AccTile.blank a.tiles key
  let fl := blockFlags a n
  let t := { t with flags := t.flags ||| (if bit fl 3 then 16 else 0) ||| (if bit fl 4 then 32 else 0) }
  let a := { a with blocks := if a.blocks.contains n then a.blocks else a.blocks ++ [n], lateSet := false }
  let put (t : AccTile) (s : State) : State := s.setAplan p { a with tiles := sset AccTile.blank a.tiles key t }
  let out := a.planes.any (fun y => y.n = n && y.u = u && y.v = v && !y.ok)
  let sigx := d.poison || tileTiming (planBase s p) a.rows n u v || blockLate s p n
  let s := sigAdd n c p 0 (leBytes 4 d.key ++ cellBytes cells) sigx s
  let s := if d.src = 0 then s else markFed (d.src - 1) s
  let s :=
    if d.poison then
      let was := decide (t.flags % 4 ≠ 0)
      let s := put { t with flags := t.flags ||| 2, excl := t.excl + stgB s } s
      raise EV_ACC_POISONED p d.key (if was then s else s.inc ACC_CNT_POISON 1)
    else if out then put { t with flags := t.flags ||| 4, excl := t.excl + stgB s } s
    else
      let addr := tileAddr s p a.set c u v
      let (old, s) := if t.merged then hbmGet 2 addr 8192 s else (List.replicate 8192 (some 0#8), s)
      let bad := !(allBytes old)
      let (new, sat) := mergeCells fmt (!t.merged) cells (bytesCells (bytesOf old))
      let (_, s) := hbmPut 2 addr (cellBytes new) s
      let was := decide (t.flags % 4 ≠ 0)
      let s := put { t with merged := true, flags := t.flags ||| b2n bad } s
      let s := countSat p (curNum s p) sat s
      if bad then raise EV_ACC_MERGE_UE p d.key (if was then s else s.inc ACC_CNT_POISON 1) else s
  unown i (toZero i s)

/-- BLOCK_RESULT_MERGE of descriptor `i`: merged, left out, discarded with an undone operation or a plan not served, or held
(R208, R211, R229, R231). -/
def blockResult (i : Nat) (s : State) : State :=
  let d := s.desc i
  let p := keyPlan d.key
  let n := d.resv / 256
  let a := s.aplan p
  if d.st ≠ dCOMPLETE || (planRegion s p).beam then s
  else if d.undo || !(planEn s p) then toZero i s
  else if a.dumps.any (fun w => decide (dumpBoundary s w ≤ n)) then s
  else if a.blocks.isEmpty && setDraining a then
    if a.lateSet then s
    else raise EV_ACC_DRAIN_LATE p (curNum s p) ((s.setAplan p { a with lateSet := true }).inc ACC_CNT_DRAIN_LATE 1)
  else takeResult i p n s

/-! ### Closing an integration (R205, R207, R217, R231) -/

/-- Is anything of plan `p` before block `m` still on its way: unread by staging, in a pass, in an array, or complete and not merged? -/
def planQuiet (s : State) (p m : Nat) : Bool :=
  let mine (x : Pass) : Bool := keyPlan (s.desc x.idx).key = p && decide (x.n < m)
  let mineW (w : Option Work) : Bool := match w with | some w => mine w.pass | none => false
  (decide (m ≤ s.stg.rBlk) || stgStopped s)
    && !(s.atl.passes.any mine)
    && !(s.atl.arrays.any (fun x => mineW x.2.next || mineW x.2.fill || mineW x.2.drain))
    && !(s.atl.desc.any (fun x => x.2.st = dCOMPLETE && keyPlan x.2.key = p && !x.2.undo && decide (x.2.resv / 256 < m)))

/-- The handles of the MERGEs bound to the open integration of plan `p` end. -/
def endMerges (p status : Nat) (s : State) : State :=
  let b := (s.aplan p).began
  { s with svy := { s.svy with handles := s.svy.handles.map (fun h =>
      if h.kind = 3 && h.plan = p && h.bound = b && h.status.isNone then
        { h with committed := decide (status = 0), status := some status }
      else h) } }

/-- MERGEs of plan `p` bound to anchor `a` are bound to `b`. -/
def rebind (p : Nat) (a b : Option Nat) (s : State) : State :=
  let ld := match a, b with
    | some x, some y => s.svy.lastDump.map (fun l => if l.1 = p && l.2 = x then (p, y) else l)
    | _, _ => s.svy.lastDump
  { s with svy := { s.svy with
      lastDump := ld
      handles := s.svy.handles.map (fun h => if h.kind = 3 && h.plan = p && h.bound = a && h.status.isNone then { h with bound := b } else h) } }

/-- Discard what the integrating set of plan `p` holds (R231, R488). -/
def emptySet (p : Nat) (s : State) : State :=
  let a := s.aplan p
  let gone := a.blocks
  s.setAplan p { a with
    blocks := [], tiles := [], lateSet := false
    planes := a.planes.filter (fun y => !(gone.contains y.n)), wins := a.wins.filter (fun w => !(gone.contains w.n))
    moments := a.moments.filter (fun m => !(gone.contains m.n)) }

/-- Write a plane's counts to HBM (R212). -/
def planeCells (s : State) (base : Nat) (r : BlockRow) (u v : Nat) : List Nat :=
  (List.range 1024).map (fun i =>
    popcount (stgB s) (rowMask r (base + 32 * u + i / 32) ||| rowMask r (base + 32 * v + i % 32)))

def writePlanes (p set : Nat) (rows : List BlockRow) (ps : List PlanePos) (s : State) : State :=
  foldS (fun (x : PlanePos × Nat) t =>
    match findRow rows x.1.n with
    | some r => (hbmPut 2 (planeAddr t p set x.2) ((planeCells t (planBase t p) r x.1.u x.1.v).flatMap (leBytes 2)) t).2
    | none => t) ps.zipIdx s

/-- Kurtosis windows per block and channel. -/
def skPerBlock (s : State) (p : Nat) : Nat := stgB s / stgQ s / max 1 (s.rf (ACC_PLAN_CFG_SK_WINDOW p))

/-- Mean of estimators in binary64, in order (R217): none without any. -/
def skMean (l : List Nat) : Option Nat :=
  match l with
  | [] => none
  | _ => some (fDiv fmt64 (l.foldl (fAdd fmt64) 0) (fOfInt fmt64 l.length))

/-- Close the integration of plan `p` by the DUMP `w` at boundary `m`. -/
def closeInteg (p : Nat) (w : Waymark) (m : Nat) (s : State) : State :=
  let a := s.aplan p
  let blocks := a.blocks.mergeSort (fun x y => decide (x ≤ y))
  let inn (n : Nat) : Bool := blocks.contains n
  let rows := a.rows.filter (fun r => inn r.n)
  let planes := (a.planes.filter (fun y => inn y.n && y.ok)).mergeSort (fun x y =>
    decide (x.n < y.n) || (x.n = y.n && decide (tkey 0 x.u x.v ≤ tkey 0 y.u y.v)))
  let wins := (a.wins.filter (fun x => inn x.n)).mergeSort (fun x y =>
    decide (x.c < y.c) || (x.c = y.c && (decide (x.n < y.n) || (x.n = y.n && decide (x.w ≤ y.w)))))
  let moms := a.moments.filter (fun x => inn x.n)
  let flags := moms.foldl (fun f x => f ||| x.flags) 0
  let ch16 := bit flags 8
  let skOn := s.rf (ACC_PLAN_CFG_SK_EN p) = 1 && !ch16
  let kept := wins.take (skRoom s)
  let trunc := skOn && decide (kept.length < wins.length)
  let per := skPerBlock s p
  let dev := s.reg (ACC_SK_DEV p)
  let kurt := if skOn && a.based then
      (kept.map (fun x =>
        let b := (a.base.find? (fun y => y.1 = x.c)).map (·.2)
        let fl := bitsOf (x.sums.map (fun y => match skEst y, b with | some k, some b => skFlag b dev k | _, _ => false))
        (x.c, ((findIdx? (· = x.n) blocks).getD 0) * per + x.w, fl))).filter (fun x => decide (x.2.2 ≠ 0))
    else []
  let nbase := (List.range (stgL s)).filterMap (fun c =>
    let mine := wins.filter (fun x => x.c = c)
    let est := (List.range (stgS s)).flatMap (fun j => mine.filterMap (fun x => (x.sums[j]?).bind skEst))
    match skMean est with
    | some v => some (c, v)
    | none => a.base.find? (fun y => y.1 = c))
  let first := blocks.headD 0 * stgB s
  let last := (blocks.getLastD 0 + 1) * stgB s
  let inSpan (sp : Nat) : Bool := decide (first ≤ sp) && decide (sp < last)
  let late := (a.lates ++ s.xar.lates).any inSpan || bit w.flags 3
  let cal := bit flags 4 || s.acc.cals.any (fun x => decide (x.1 < last) && decide (first < x.2))
  let gen := s.tru.gens.any (fun g => decide (first * stgHop s < g.1) && decide (g.1 < last * stgHop s))
  let excl := a.tiles.any (fun t => decide (0 < t.2.excl))
  let pois := a.tiles.any (fun t => decide (t.2.flags % 4 ≠ 0))
  let red := s.rf (ACC_PLAN_CFG_REDUCE_EN p) = 1 && !ch16
  let lf := b2n (bit flags 3) + 2 * b2n cal + 4 * b2n (rows.any (fun r => !r.timing.isEmpty)) + 8 * b2n late
    + 16 * b2n (skOn && !a.based) + 32 * s.rf (ACC_PLAN_CFG_NORM p) + 64 * b2n excl + 128 * b2n pois + 256 * b2n (bit flags 5)
    + 512 * b2n gen + 1024 * b2n trunc + 2048 * b2n red + 4096 * b2n (decide (2 ^ 24 < blocks.length))
  let g : AccInteg := { set := a.set, num := w.arg, blocks := blocks, tiles := a.tiles, rows := rows, planes := planes, flags := lf, kurt := kurt
                        moments := if red then moms.foldl (fun l x => addMoments l x.sums) [] else [], late := late, sent := false }
  let s := writePlanes p a.set rows planes s
  let s := endMerges p 0 s
  let after (n : Nat) : Bool := decide (m ≤ n)
  let s := s.setAplan p { a with
    set := 1 - a.set, blocks := [], tiles := [], lateSet := false, drains := a.drains ++ [g], dumps := a.dumps.erase w, began := some w.anchor
    rows := a.rows.filter (fun r => after r.n), planes := a.planes.filter (fun y => after y.n), wins := a.wins.filter (fun x => after x.n)
    moments := a.moments.filter (fun x => after x.n), fullBlk := a.fullBlk.filter after
    base := if skOn then nbase else a.base, based := a.based || (skOn && !nbase.isEmpty)
    lates := a.lates.filter (fun sp => decide (last ≤ sp)) }
  let s := (s.wf (ACC_PLAN_STATUS_SK_BASE p) (b2n (s.aplan p).based)).setReg (ACC_PLAN_INTEG p) w.arg
  let s := if trunc then raise EV_ACC_SK_TRUNC p ((wins.drop kept.length).headD ⟨0, 0, 0, []⟩).c s else s
  raise EV_ACC_INTEG_CLOSED p w.arg s

/-- The waymark leaves the store of ACC once no plan waits for it. -/
def dumpDone (w : Waymark) (s : State) : State :=
  if (heldBy s uACC).contains w && !(s.acc.plans.any (fun x => x.2.dumps.contains w)) then
    noteApplied uACC w (setHeld uACC ((heldBy s uACC).erase w) s)
  else s

/-- Apply the oldest held DUMP of plan `p` if everything before its boundary has been merged (R205, R207). -/
def applyDump (p : Nat) (s : State) : State :=
  match (s.aplan p).dumps.mergeSort (fun x y => decide (x.anchor ≤ y.anchor)) with
  | [] => s
  | w :: _ =>
    let m := dumpBoundary s w
    if !(planQuiet s p m) then s
    else
      let a := s.aplan p
      let s :=
        if a.blocks.isEmpty then
          let after (n : Nat) : Bool := decide (m ≤ n)
          let s := rebind p (some w.anchor) a.began s
          raise EV_ACC_DUMP_EMPTY p w.arg (s.setAplan p { a with dumps := a.dumps.erase w, rows := a.rows.filter (fun r => after r.n)
                                                                 planes := a.planes.filter (fun y => after y.n)
                                                                 wins := a.wins.filter (fun x => after x.n), moments := a.moments.filter (fun x => after x.n) })
        else closeInteg p w m s
      dumpDone w s

/-- An ABORT reaches the open integration of plan `p` before its close (R231). -/
def abortInteg (p status : Nat) (s : State) : State := emptySet p (endMerges p status s)

/-! ### Waymarks at accumulation -/

/-- Plans served that a scope covers (R207, R489). -/
def scopePlans (s : State) (scope : Nat) : List Nat := (enPlans s).filter (scopeCoversPlan s scope)

/-- Ports on which the waymarks that accumulation carries onward ride. -/
def carryPorts (s : State) (scope : Nat) : List Nat :=
  (List.range 8).filter (fun q => (scopePlans s scope).any (fun p => bit (s.rf (ACC_OUT_CFG_PORTS p)) q))

/-- Accumulation carries a waymark onward to the next output frame on each port (R223). -/
def accCarry (w : Waymark) (s : State) : State :=
  { s with frm := { s.frm with ride := s.frm.ride ++ (carryPorts s w.scope).map (fun q => (q, w)) } }

/-- The next block boundary that accumulation reaches for plan `p`. -/
def accNextBlock (s : State) (p : Nat) : Nat :=
  match (s.aplan p).blocks with
  | [] => 0
  | l => l.foldl max 0 + 1

/-- A DUMP reaches accumulation: held for its boundary by every plan it covers; one whose boundary has passed, or anchored now, is
rewritten to the next boundary (R55, R57). -/
def dumpArrive (w : Waymark) (s : State) : State :=
  let ps := (scopePlans s w.scope).filter (fun p => !(planBeam s p))
  let span := stgSpan s
  let next := (ps.map (accNextBlock s)).foldl max 0
  let now := w.anchor = nowAnchor
  let late := !now && decide (dumpBoundary s w < next)
  let w2 := if now then { w with anchor := max (s.stg.rBlk + b2n (decide (stgPos s ≠ s.stg.rBlk * stgB s))) next * span }
    else if late then { w with anchor := next * span, flags := w.flags ||| 8 } else w
  let s := if late then logOpen uACC 0 .warn (w2.anchor % 2 ^ 32) (w2.anchor / 2 ^ 32) s else s
  let s := if w2.anchor = w.anchor then s else foldS (fun p t => rebind p (some w.anchor) (some w2.anchor) t) ps s
  let s := setHeld uACC (heldBy s uACC ++ [w2]) s
  let s := foldS (fun p t =>
    let a := t.aplan p
    t.setAplan p { a with dumps := a.dumps ++ [w2], lates := if late then next * stgB t :: a.lates else a.lates }) ps s
  dumpDone w2 s

/-! ### Fused output (R219 to R221) -/

/-- Bytes of a cell in an output format (Table 9.2). -/
def outBytes (fmt : Nat) : Nat := match fmt with | 7 => 8 | 2 => 2 | 4 => 2 | _ => 4

/-- The settings of the stages. -/
structure OutCfg where
  fmt : Nat
  act : Nat
  scale : Nat
  biasRe : Nat
  biasIm : Nat
  lo : Nat
  hi : Nat
  deriving DecidableEq, Repr

def outCfg (s : State) (p : Nat) : OutCfg :=
  { fmt := s.rf (ACC_PLAN_CFG_OUT_FMT p), act := s.rf (ACC_PLAN_CFG_ACT p), scale := s.reg (ACC_OUT_SCALE p)
    biasRe := s.reg (ACC_OUT_BIAS_RE p), biasIm := s.reg (ACC_OUT_BIAS_IM p), lo := s.reg (ACC_ACT_LO p), hi := s.reg (ACC_ACT_HI p) }

/-- RELU and CLAMP on an encoding. -/
def actPart (c : OutCfg) (v : Nat) : Nat :=
  match c.act with
  | 1 => if 2 ^ 31 ≤ v then 0 else v
  | 2 =>
    let v := if (f32 v).lt (f32 c.lo) then c.lo else v
    if (f32 c.hi).lt (f32 v) then c.hi else v
  | _ => v

/-- Stages 1 to 4 on a cell: `w` the weight for stage 1, none where it does not apply. The result's second part is unused after MAGSQ. -/
def stages (c : OutCfg) (w : Option Nat) (x : Nat × Nat) : (Nat × Nat) × Nat :=
  let norm (v : Nat) : Nat × Nat :=
    match w with
    | none => (v, 0)
    | some 0 => (0, 0)
    | some n => rnSat ((f32 v).div (Fl.ofInt n))
  let (r, n1) := norm x.1
  let (i, n2) := norm x.2
  let (r, n3) := rnSat ((f32 r).mul (f32 c.scale))
  let (i, n4) := rnSat ((f32 i).mul (f32 c.scale))
  let (r, n5) := rnSat ((f32 r).add (f32 c.biasRe))
  let (i, n6) := rnSat ((f32 i).add (f32 c.biasIm))
  let n := n1 + n2 + n3 + n4 + n5 + n6
  if c.act = 3 then
    let (q, k) := rnSat (((f32 r).mul (f32 r)).add ((f32 i).mul (f32 i)))
    ((q, 0), n + k)
  else ((actPart c r, actPart c i), n)

/-- Stage 5 on one part: an integer or encoding, and whether it clamped (Table 9.2). -/
def convPart (fmt v : Nat) : Int × Nat :=
  let int (k : Nat) : Int × Nat :=
    let (z, d) := (f32 v).frac
    let r := match f32 v with | .nan => (Config.nonFinite v).toInt | _ => rneDiv z d
    (satS k r, b2n (decide (satS k r ≠ r)))
  match fmt with
  | 5 => let (h, b) := roundH16 (f32 v); ((h : Int), b2n b)
  | 4 => let (h, b) := roundH16 (f32 v); ((h : Int), b2n b)
  | 6 => int 16
  | 2 => int 8
  | _ => ((v : Int), 0)

def convCell (fmt : Nat) (x : Nat × Nat) : (Int × Int) × Nat :=
  let (r, n) := convPart fmt x.1
  if fmt = 4 || fmt = 9 then ((r, 0), n)
  else let (i, m) := convPart fmt x.2; ((r, i), n + m)

/-- All stages on one cell. -/
def outCell (c : OutCfg) (w : Option Nat) (x : Nat × Nat) : (Int × Int) × Nat :=
  let (y, n) := stages c w x
  let (z, m) := convCell c.fmt y
  (z, n + m)

/-! ### Sending on output ports (R83, R223) -/

/-- Payload bytes that the next frame of plan `p` on port `q` has beside its waymark area. -/
def frameRoom (s : State) (p q : Nat) : Nat :=
  let k := if portCanSend s q then min 32 (s.frm.ride.filter (ridesOn (p + 1) q)).length else 0
  min 8192 (s.rf (FRM_PORT_CFG_MAX_FRAME q) - ethLength s q 0) - 16 * k

/-- Send a frame of plan `p`; a port that cannot send counts it, and PORT_DROP is left to the caller. -/
def sendPlan (p q : Nat) (f : Frame) (s : State) : State :=
  if portCanSend s q then sendPortFor (p + 1) q f s else s.inc (FRM_PORT_CNT_DROP q) 1

/-- Raise PORT_DROP for `n` frames that a port could not send. -/
def dropNote (q n : Nat) (s : State) : State :=
  if portCanSend s q || n = 0 then s else raise EV_FRM_PORT_DROP q n s

/-- A frame with the fields that every output frame of the part has. -/
def outFrame (s : State) (kind sp : Nat) : Frame :=
  { Frame.blank kind with
    protoGen := s.rf TRU_ARITH_PROTO_GEN, srcChip := ownChip s, twinGen := s.rf HLT_TWIN_STATUS_TWIN_GEN
    index := sp, arithGen := genAt s (sp * stgHop s) }

/-- A legend record before it is cut (Table 9.3): type, key, block, element size, what FIRST counts per element, index of the first element
left, and the elements left. -/
structure LegRec where
  ty : Nat
  key : Nat
  block : Nat
  elem : Nat
  step : Nat
  first : Nat
  els : List (List Byte)
  deriving DecidableEq, Repr

def LegRec.bytes (p : Nat) (r : LegRec) (n : Nat) : List Byte :=
  leBytes 1 r.ty ++ leBytes 1 p ++ leBytes 2 n ++ leBytes 4 (r.first * r.step) ++ leBytes 4 r.key ++ leBytes 2 r.block
    ++ leBytes 2 r.elem ++ (r.els.take n).flatten

/-- Fill a frame with as much of the records as `room` bytes take: its bytes and the records left (R224). -/
def legFill (p : Nat) : Nat → List LegRec → List Byte × List LegRec
  | _, [] => ([], [])
  | room, r :: t =>
    if r.els.isEmpty then legFill p room t
    else if room < 16 + r.elem then ([], r :: t)
    else
      let n := min r.els.length ((room - 16) / r.elem)
      let bs := r.bytes p n
      if n = r.els.length then
        let (more, left) := legFill p (room - 16 - n * r.elem) t
        (bs ++ more, left)
      else (bs, { r with first := r.first + n, els := r.els.drop n } :: t)

/-- Send records as LEGEND frames: the bytes sent, the number of frames, and the state. -/
def sendLegend (p q : Nat) (hdr : Frame) : Nat → List LegRec → State → List Byte × Nat × State
  | 0, _, s => ([], 0, s)
  | fuel + 1, rs, s =>
    if rs.all (fun r => r.els.isEmpty) then ([], 0, s)
    else
      let (bs, left) := legFill p (frameRoom s p q) rs
      let s := sendPlan p q { hdr with body := bs } s
      let (more, n, s) := sendLegend p q hdr fuel left s
      (bs ++ more, n + 1, s)

def legFuel (rs : List LegRec) : Nat := rs.foldl (fun a r => a + r.els.length) 0 + 1

/-- The header of the plan's LEGEND frames. -/
def legendHdr (s : State) (p sp : Nat) : Frame :=
  { outFrame s kLEGEND sp with format := s.rf (ACC_PLAN_CFG_OUT_FMT p), firstStream := s.reg STG_STREAM_BASE, firstChan := s.stg.chans.headD 0 }

/-- HEAD (Table 9.5). -/
def headRec (s : State) (p num nblk sp lf tiles flagged planes frames : Nat) : LegRec :=
  { ty := 1, key := 0, block := 0, elem := 64, step := 1, first := 0
    els := [leBytes 4 num ++ leBytes 4 nblk ++ leBytes 8 sp ++ leBytes 4 (s.reg (TRU_SLOT_VER (s.rf TRU_STATE_RUNNING)))
      ++ leBytes 1 (genAt s (sp * stgHop s)) ++ leBytes 1 (p + 16 * s.rf (ACC_PLAN_CFG_OUT_FMT p)) ++ leBytes 2 lf
      ++ leBytes 2 (s.reg STG_STREAM_BASE) ++ leBytes 2 (stgS s) ++ leBytes 2 (s.stg.chans.headD 0) ++ leBytes 2 (stgL s)
      ++ leBytes 1 (Nat.log2 (stgB s)) ++ leBytes 1 (Nat.log2 (stgQ s)) ++ leBytes 1 (s.rf (ACC_PLAN_CFG_ACT p))
      ++ leBytes 1 (s.rf (ACC_PLAN_CFG_SK_WINDOW p)) ++ leBytes 4 (s.reg (ACC_OUT_SCALE p)) ++ leBytes 4 (s.reg (ACC_OUT_BIAS_RE p))
      ++ leBytes 4 (s.reg (ACC_OUT_BIAS_IM p)) ++ leBytes 4 tiles ++ leBytes 4 flagged ++ leBytes 4 planes ++ leBytes 4 frames] }

/-- STREAMVOID over the given block rows. -/
def voidRec (s : State) (rows : List BlockRow) : LegRec :=
  { ty := 2, key := 0, block := 0, elem := 8, step := 1, first := 0
    els := (List.range (stgS s)).map (fun j =>
      leBytes 4 ((rows.map (fun r => popcount (stgB s) (rowMask r j))).foldl (· + ·) 0)
        ++ leBytes 4 ((rows.map (fun r => sget 0 r.timing j)).foldl (· + ·) 0)) }

/-- A TILEFLAGS element (Table 9.6): `fl` its flags as (POISON, TIMING_VOID, LATE, EXCL_POISON, EXCL_PLANE, DRAIN_POISON). -/
def flagElem (key : Nat) (poison timing late exPoison exPlane drain : Bool) (np excl : Nat) : List Byte :=
  leBytes 4 (key + 2 ^ 30 * b2n poison + 2 ^ 31 * b2n timing)
    ++ leBytes 4 (b2n late + 2 * b2n exPoison + 4 * b2n exPlane + 8 * b2n drain + 65536 * np) ++ leBytes 4 excl ++ leBytes 4 0

def flagRec (els : List (List Byte)) : LegRec := { ty := 3, key := 0, block := 0, elem := 16, step := 1, first := 0, els := els }

/-- TAIL (Table 9.4): its legend-frame count includes the frame that holds it. -/
def tailRec (vis leg drain crcv : Nat) : LegRec :=
  { ty := 7, key := 0, block := 0, elem := 32, step := 1, first := 0
    els := [leBytes 4 vis ++ leBytes 4 leg ++ leBytes 4 drain ++ leBytes 4 0 ++ leBytes 8 crcv ++ leBytes 8 0] }

/-! ### Draining a set (R222, R223, R228, R230) -/

/-- A tile ready to send: channel, u, v, its cells converted, header flags, and whether its read failed. -/
structure OutTile where
  c : Nat
  u : Nat
  v : Nat
  cells : List (Int × Int)
  flags : Nat
  bad : Bool
  deriving DecidableEq, Repr

/-- Weights of a tile's cells (R213). -/
def tileWeights (s : State) (p : Nat) (g : AccInteg) (u v excl : Nat) : List Nat :=
  let base := planBase s p
  let mine := g.planes.filter (fun y => y.u = u && y.v = v)
  let cells := mine.filterMap (fun y => (findRow g.rows y.n).map (fun r => planeCells s base r u v))
  (List.range 1024).map (fun i =>
    stgB s * g.blocks.length - excl - (cells.map (fun l => l.getD i 0)).foldl (· + ·) 0)

/-- Read, scale and convert one tile of a closed set. -/
def drainTile (p : Nat) (g : AccInteg) (x : Nat × Nat × Nat) (s : State) : OutTile × State :=
  let (c, u, v) := x
  let t := sget AccTile.blank g.tiles (tkey c u v)
  let addr := tileAddr s p g.set c u v
  let (bs, s) := if t.merged then hbmGet 2 addr 8192 s else ([], s)
  let bad := t.merged && !(allBytes bs)
  let cells := if t.merged then
      (chunksN 8 1024 bs).map (fun l => if allBytes l then (ofLe (bytesOf (l.take 4)), ofLe (bytesOf (l.drop 4))) else (0, 0))
    else (List.range 1024).map (fun i =>
      ((Config.accUnmerged s.acc.ndrain (addr + 8 * i) 0).toNat, (Config.accUnmerged s.acc.ndrain (addr + 8 * i) 1).toNat))
  let lost := if t.merged then (chunksN 8 1024 bs).map (fun l => !(allBytes l)) else []
  let cfg := outCfg s p
  let ws := if s.rf (ACC_PLAN_CFG_NORM p) = 1 then (tileWeights s p g u v t.excl).map some else List.replicate 1024 none
  let out := (cells.zip ws).zipIdx.map (fun y =>
    if lost.getD y.2 false then (((0 : Int), (0 : Int)), 0) else outCell cfg y.1.2 y.1.1)
  let s := countSat p g.num (out.foldl (fun a o => a + o.2) 0) s
  let key := tileKey p c u v
  let s := if bad then raise EV_ACC_MERGE_UE p key (if t.flags % 4 ≠ 0 then s else s.inc ACC_CNT_POISON 1) else s
  let fl := (if t.flags % 4 ≠ 0 || bad then 4 else 0) + (if bit t.flags 4 then 8 else 0) + (if bit t.flags 5 then 16 else 0)
  ({ c := c, u := u, v := v, cells := out.map (·.1), flags := fl, bad := bad }, s)

def drainTiles (p : Nat) (g : AccInteg) : List (Nat × Nat × Nat) → State → List OutTile × State
  | [], s => ([], s)
  | x :: t, s =>
    let (o, s) := drainTile p g x s
    let (l, s) := drainTiles p g t s
    (o :: l, s)

/-- Rows that a VIS frame takes: the most of 32, 16, 8, 4, 2 and 1 that fit. -/
def visRows (room e : Nat) : Nat := ([32, 16, 8, 4, 2, 1].find? (fun r => decide (r * 32 * e ≤ room))).getD 1

/-- Send rows `r` onwards of a tile on port `q`: frames sent. -/
def sendTile (p q sp : Nat) (t : OutTile) : Nat → Nat → State → Nat × State
  | 0, _, s => (0, s)
  | fuel + 1, r, s =>
    if 32 ≤ r then (0, s)
    else
      let fmt := s.rf (ACC_PLAN_CFG_OUT_FMT p)
      let n := min (32 - r) (visRows (frameRoom s p q) (outBytes fmt))
      let base := s.reg STG_STREAM_BASE + planBase s p
      let f := { outFrame s kVIS sp with
        format := fmt, flags := t.flags, firstStream := base + 32 * t.u + r, streamCount := n, aux := base + 32 * t.v
        firstChan := s.stg.chans.getD t.c 0, chanCount := 1, samples := packElems fmt ((t.cells.drop (32 * r)).take (32 * n)) }
      let s := (sendPlan p q f s).inc (ACC_PLAN_CNT_FRAMES p) (b2n (portCanSend s q))
      let (k, s) := sendTile p q sp t fuel (r + n) s
      (k + 1, s)

def sendTiles (p q sp : Nat) : List OutTile → State → Nat × State
  | [], s => (0, s)
  | t :: l, s =>
    let (n, s) := sendTile p q sp t 33 0 s
    let (m, s) := sendTiles p q sp l s
    (n + m, s)

/-- The output ports of a plan, in ascending order. -/
def planPorts (s : State) (p : Nat) : List Nat := maskList 8 (s.rf (ACC_OUT_CFG_PORTS p))

/-- The records of a legend before its VIS frames (R228). -/
def integRecs (s : State) (p : Nat) (g : AccInteg) (tiles : List (Nat × Nat × Nat)) (frames : Nat) : List LegRec :=
  let base := planBase s p
  let first := g.blocks.headD 0 * stgB s
  let np (u v : Nat) : Nat := (g.planes.filter (fun y => y.u = u && y.v = v)).length
  let flagged := tiles.filterMap (fun x =>
    let (c, u, v) := x
    let t := sget AccTile.blank g.tiles (tkey c u v)
    let timing := g.rows.any (fun r => r.timing.any (fun y => decide (base ≤ y.1) && ((y.1 - base) / 32 = u || (y.1 - base) / 32 = v)))
    if t.flags % 8 ≠ 0 || timing || g.late || np u v ≠ 0 then
      some (flagElem (tileKey p c u v) (bit t.flags 0) timing g.late (bit t.flags 1) (bit t.flags 2) false (np u v) t.excl)
    else none)
  let planes := tiles.flatMap (fun x =>
    let (c, u, v) := x
    if c ≠ 0 then []
    else (g.planes.filter (fun y => y.u = u && y.v = v)).filterMap (fun y => (findRow g.rows y.n).map (fun r =>
      { ty := 4, key := tileKey p 0 u v, block := (findIdx? (· = y.n) g.blocks).getD 0, elem := 64, step := 1, first := 0
        els := (chunksN 32 32 (planeCells s base r u v)).map (fun l => l.flatMap (leBytes 2)) : LegRec })))
  let kurt := g.kurt.map (fun k =>
    { ty := 5, key := k.1, block := k.2.1, elem := 8, step := 64, first := 0
      els := (List.range (ceilDiv (stgS s) 64)).map (fun i => leBytes 8 (bits k.2.2 (64 * i) 64)) : LegRec })
  let mom (x : Nat × Int × Int × Nat) : List Byte :=
    let (n, a, b, sp) := x
    let f (num : Int) (den : Nat) : Nat := if n = 0 then 0 else encodeFl fmt64 ((Fl.ofInt num).div (Fl.ofInt den))
    leBytes 8 n ++ leBytes 8 (toU 64 a) ++ leBytes 8 (toU 64 b) ++ leBytes 16 sp
      ++ leBytes 8 (f a n) ++ leBytes 8 (f b n) ++ leBytes 8 (f (n * sp - a * a - b * b) (n * n))
  let moments : LegRec := { ty := 6, key := 0, block := 0, elem := 64, step := 1, first := 0
                            els := if bit g.flags 11 then g.moments.map mom else [] }
  [headRec s p g.num g.blocks.length first g.flags (stgL s * accT s) flagged.length planes.length frames, voidRec s g.rows, flagRec flagged]
    ++ planes ++ kurt ++ [moments]

/-- Send a closed integration on port `q`: legend, VIS frames, TAIL. The first part of the result is the number of VIS frames. -/
def drainPort (p q : Nat) (g : AccInteg) (tiles : List (Nat × Nat × Nat)) (mine : List OutTile) (bad : List OutTile) (frames : Nat) (s : State) :
    Nat × State :=
  let sp := g.blocks.headD 0 * stgB s
  let recs := integRecs s p g tiles frames
  let hdr := legendHdr s p sp
  let (b1, n1, s) := sendLegend p q hdr (legFuel recs) recs s
  let (vis, s) := sendTiles p q sp mine s
  let late := [flagRec (bad.map (fun t => flagElem (tileKey p t.c t.u t.v) false false false false false true 0 0))]
  let end_ (leg crcv : Nat) : List LegRec := late ++ [tailRec vis leg bad.length crcv]
  let cut := sendLegend p q hdr (legFuel (end_ 0 0)) (end_ 0 0) s
  let tail := end_ (n1 + cut.2.1) (crc crc64XZ (b1 ++ cut.1.take (cut.1.length - 48)))
  let (_, n2, s) := sendLegend p q hdr (legFuel tail) tail s
  (vis, dropNote q (n1 + vis + n2) s)

/-- SET_DRAIN of plan `p`: the oldest closed integration leaves on every port of the plan (R228). -/
def setDrain (p : Nat) (s : State) : State :=
  let a := s.aplan p
  match a.drains with
  | [] => s
  | g :: rest =>
    if g.sent then s
    else
      let nb := stgS s / 32
      let tiles := (List.range (stgL s)).flatMap (fun c => (List.range nb).flatMap (fun u =>
        (rangeFrom u (nb - u)).map (fun v => (c, u, v))))
      let (out, s) := drainTiles p g tiles s
      let bad := out.filter (·.bad)
      let ports := planPorts s p
      let s := foldS (fun (x : Nat × Nat) t =>
        let mine := out.filter (fun o => o.c % ports.length = x.2)
        let n := (drainPort p x.1 g tiles mine bad 0 t).1
        (drainPort p x.1 g tiles mine bad n t).2) ports.zipIdx s
      let s := { s with acc := { s.acc with ndrain := s.acc.ndrain + 1 } }
      s.setAplan p { s.aplan p with drains := { g with sent := true } :: rest }

/-- DRAIN_END of plan `p`: the set that has been sent is free again (R211). -/
def drainEnd (p : Nat) (s : State) : State :=
  let a := s.aplan p
  match a.drains with
  | g :: rest => if g.sent then s.setAplan p { a with drains := rest } else s
  | [] => s

/-! ### Beams (R293 to R300) -/

/-- The plan that forms beam `b`: the first beam plan with a declared tile in its row. -/
def beamPlan (s : State) (b : Nat) : Option Nat :=
  (List.range 16).find? (fun p => planBeam s p
    && (planDescs s p).any (fun x => keyRow x.2.key = b / 32))

/-- Beams that enabled resynthesiser slices name, in ascending identity. -/
def sliceBeams (s : State) : List Nat :=
  (((List.range 1024).filter (fun i => s.rf (RSY_SLICE_BEAM_EN i) = 1)).map (fun i => s.rf (RSY_SLICE_BEAM_BEAM i))).eraseDups.mergeSort
    (fun a b => decide (a ≤ b))

/-- Slice beams of a plan. -/
def planSlices (s : State) (p : Nat) : List Nat := (sliceBeams s).filter (fun b => beamPlan s b = some p)

/-- Is every stream of the plan void at spectrum `t` of block `n` (R296)? -/
def beamVoid (s : State) (p n t : Nat) : Bool :=
  match findRow (s.aplan p).rows n with
  | some r => decide (0 < planCount s p) && (rangeFrom (planBase s p) (planCount s p)).all (fun j => bit (rowMask r j) t)
  | none => false

/-- Address of element (i, c, t) of a resynthesis half (R298). -/
def sliceAddr (s : State) (p n nb i c t : Nat) : Nat :=
  setBase s p (n % 2) + ((t / 16 * nb + i) * stgL s + c) * 64 + t % 16 * 4

/-- One output element of a beam: value, whether void, and whether from a poisoned tile. -/
structure BeamEl where
  b : Nat
  v : Int × Int
  poison : Bool
  deriving DecidableEq, Repr

/-- Send the elements of one spectrum (or column group) as BEAM frames, as many beams as fit (R294). -/
def sendBeams (p q c sp : Nat) (void : Bool) (fl : Nat) : Nat → List BeamEl → State → Nat × State
  | 0, _, s => (0, s)
  | fuel + 1, els, s =>
    match els with
    | [] => (0, s)
    | e :: _ =>
      let fmt := s.rf (ACC_PLAN_CFG_OUT_FMT p)
      let run := (els.zipIdx.takeWhile (fun x => x.1.b = e.b + x.2)).map (·.1)
      let room := frameRoom s p q
      let n := if void then run.length else max 1 (min run.length (room / outBytes fmt))
      let here := run.take n
      let f := { outFrame s kBEAM sp with
        format := fmt, flags := fl + b2n void + (if here.any (·.poison) then 4 else 0), firstStream := e.b, streamCount := n
        firstChan := s.stg.chans.getD c 0, chanCount := 1, samples := if void then [] else packElems fmt (here.map (·.v)) }
      let s := sendPlan p q f s
      let (k, s) := sendBeams p q c sp void fl fuel (els.drop n) s
      (k + 1, s)

/-- Sum of powers of the spectra that are not void, rounded at each addition (R295, R296). -/
def powerSum : List (Nat × Bool) → Nat × Nat
  | l => (l.filter (fun x => !x.2)).foldl (fun (a : Nat × Nat) x =>
      let (q, k) := rnSat ((f32 a.1).add (f32 x.1)); (q, a.2 + k)) (0, 0)

/-- Note an element of a beam tile for the block's legend. -/
def noteBeamTile (p n key k fl excl : Nat) (s : State) : State :=
  if fl = 0 && excl = 0 then s
  else
    let a := s.aplan p
    s.setAplan p { a with beamTiles := a.beamTiles ++ [⟨n, key, k, fl, excl⟩] }

/-- Commit a beam step (R293): its tiles pass the stages, its frames leave and its slots are freed. -/
def beamCommit (o : TileOp) (st : BeamStep) (s : State) : State :=
  let p := o.plan
  let r := planRegion s p
  let q := stgQ s
  let n := st.n
  let lo := n * stgB s + st.k * q
  let cfg := outCfg s p
  let us := rangeFrom o.row o.rows
  let tiles := us.flatMap (fun u => (List.range (q / 32)).map (fun v => (u, v, r.index st.c u v)))
  let got := tiles.filter (fun x => (s.desc x.2.2).st = dCOMPLETE)
  let slices := planSlices s p
  let fl := (blockFlags (s.aplan p) n) &&& 0x38
  let power := cfg.act = 3
  let cellsOf (u v : Nat) : Option (Array (Nat × Nat) × Bool) :=
    let d := s.desc (r.index st.c u v)
    if d.st = dCOMPLETE then some ((slotCells s (locNum d.loc)).toArray, d.poison) else none
  let ports := planPorts s p
  let port := if ports.isEmpty then none else ports[st.c % ports.length]?
  -- one group of 32 spectra
  let s := foldS (fun v (s : State) =>
    let cols := us.filterMap (fun u => (cellsOf u v).map (fun x => (u, x)))
    let el (t : Nat) : List (BeamEl × Nat) := cols.flatMap (fun x => (List.range 32).map (fun r =>
      let (y, k) := outCell cfg none (x.2.1.getD (r * 32 + t) (0, 0))
      ({ b := 32 * x.1 + r, v := y, poison := x.2.2 }, k)))
    let voids := (List.range 32).map (fun t => beamVoid s p n (st.k * q + 32 * v + t))
    let emit (sp : Nat) (void : Bool) (els : List (BeamEl × Nat)) (s : State) : State :=
      let s := countSat p (n % 2 ^ 32) (els.foldl (fun a e => a + e.2) 0) s
      let all := els.map (·.1)
      let s := foldS (fun (b : Nat × Nat) t =>
        match all.find? (fun e => e.b = b.1) with
        | some e => (hbmPut 3 (sliceAddr t p n slices.length b.2 st.c (sp - n * stgB t))
            ((packElems cfg.fmt [if void then (0, 0) else e.v]).flatMap (fun h => leBytes 2 h.toNat)) t).2
        | none => t) slices.zipIdx s
      let rest := all.filter (fun e => !(slices.contains e.b))
      match port with
      | none => s
      | some q =>
        let (k, s) := sendBeams p q st.c sp void fl (rest.length + 1) rest s
        let a := s.aplan p
        dropNote q k (s.setAplan p { a with beamOut := sset 0 a.beamOut (n * 8 + q) (sget 0 a.beamOut (n * 8 + q) + k) })
    if power then
      let els := cols.flatMap (fun x => (List.range 32).map (fun r =>
        let ps := (List.range 32).map (fun t => stages cfg none (x.2.1.getD (r * 32 + t) (0, 0)))
        let (sum, k) := powerSum ((ps.map (fun y => y.1.1)).zip voids)
        let (y, m) := convCell cfg.fmt (sum, 0)
        ({ b := 32 * x.1 + r, v := y, poison := x.2.2 : BeamEl }, k + m + ps.foldl (fun a y => a + y.2) 0)))
      emit (lo + 32 * v) (voids.all id) els s
    else foldS (fun t s => emit (lo + 32 * v + t) (voids.getD t false) (el t) s) (List.range 32) s) (List.range (q / 32)) s
  let base := planBase s p
  let timing := match findRow (s.aplan p).rows n with
    | some r => r.timing.any (fun x => decide (base ≤ x.1) && decide (x.1 < base + planCount s p))
    | none => false
  let s := foldS (fun (x : Nat × Nat × Nat) s =>
    let d := s.desc x.2.2
    let a0 := lo + 32 * x.2.1
    let late := (s.xar.lates ++ (s.aplan p).lates).any (fun sp => decide (a0 ≤ sp) && decide (sp < a0 + 32))
    let s := noteBeamTile p n d.key st.k (b2n d.poison + 2 * b2n timing + 4 * b2n late) 0 s
    let s := sigAdd n st.c p 1 (leBytes 4 d.key ++ cellBytes (slotCells s (locNum d.loc))) (d.poison || timing || late) s
    toZero x.2.2 s) got s
  let s := if slices.isEmpty then s
    else { s with acc := { s.acc with halves := (s.acc.halves ++ [p * 2 ^ 40 + n]).eraseDups } }
  { s with atl := { s.atl with steps := s.atl.steps.map (fun x => if x = st then { x with decided := true } else x) } }

/-- The tiles of a beam step that was undone, left out in the block's legend (R297). -/
def beamUndone (p row rows : Nat) (st : BeamStep) (s : State) : State :=
  let s := foldS (fun u s => foldS (fun v s => noteBeamTile p st.n (tileKey p st.c u v) st.k 0 32 s) (List.range (stgQ s / 32)) s)
    (rangeFrom row rows) s
  { s with atl := { s.atl with steps := s.atl.steps.map (fun x => if x = st then { x with decided := true, undone := true } else x) } }

/-- A half of the resynthesis buffer in use holds the steps of the block after next (R300). -/
def halfHeld (s : State) (p n : Nat) : Bool :=
  s.acc.halves.any (fun h => h / 2 ^ 40 = p && decide (h % 2 ^ 40 < n) && h % 2 = n % 2)

/-- The steps of plan `p` in block `n`. -/
def planSteps (s : State) (p n : Nat) : List BeamStep :=
  s.atl.steps.filter (fun x => x.n = n && (s.atl.ops.any (fun o => o.id = x.op && o.plan = p)
    || (s.svy.handles.any (fun h => h.id = x.op && h.plan = p))))

/-- The legend of block `n` of a beam plan, to one of its ports. -/
def beamLegendTo (p n lf : Nat) (els : List (List Byte)) (a : AccPlan) (q : Nat) (s : State) : State :=
  let sp := n * stgB s
  let r := planRegion s p
  let vis := sget 0 a.beamOut (n * 8 + q)
  let recs := [headRec s p (n % 2 ^ 32) 1 sp lf (stgL s * r.rows * r.cols) els.length 0 vis, voidRec s (a.rows.filter (fun x => x.n = n)), flagRec els]
  let hdr := legendHdr s p sp
  let (b1, n1, s) := sendLegend p q hdr (legFuel recs) recs s
  let (_, n2, s) := sendLegend p q hdr 2 [tailRec vis (n1 + 1) 0 (crc crc64XZ b1)] s
  dropNote q (n1 + n2) s

/-- What a beam plan keeps of block `n` once its legend is sent. -/
def beamLegendEnd (p n : Nat) (s : State) : State :=
  let a := s.aplan p
  let none? := (planSlices s p).isEmpty
  let steps := planSteps s p n
  let s := s.setAplan p { a with
    legends := n :: a.legends.take 8, beamOut := a.beamOut.filter (fun x => decide (x.1 / 8 ≠ n))
    beamTiles := if none? then a.beamTiles.filter (fun x => decide (x.n ≠ n)) else a.beamTiles
    rows := if none? then a.rows.filter (fun r => decide (n < r.n)) else a.rows
    moments := a.moments.filter (fun m => decide (n < m.n)), lates := a.lates.filter (fun x => decide (n * stgB s + stgB s ≤ x)) }
  if none? then { s with atl := { s.atl with steps := s.atl.steps.filter (fun x => !(steps.contains x)) } } else s

/-- The beam legend of block `n` on every port, once its last step is decided (R297). -/
def beamLegend (p n : Nat) (s : State) : State :=
  let a := s.aplan p
  if a.legends.contains n || s.stg.rBlk ≤ n || (planSteps s p n).isEmpty || (planSteps s p n).any (fun x => !x.decided) then s
  else
    let sp := n * stgB s
    let keys := ((a.beamTiles.filter (fun x => x.n = n)).map (·.key)).eraseDups.mergeSort (fun x y => decide (x ≤ y))
    let els := keys.map (fun k =>
      let l := a.beamTiles.filter (fun x => x.n = n && x.key = k)
      let fl := l.foldl (fun f x => f ||| x.flags) 0
      flagElem k (bit fl 0) (bit fl 1) (bit fl 2) false false false 0 (l.foldl (fun e x => e + x.excl) 0))
    let any (b : Nat) : Bool := a.beamTiles.any (fun x => x.n = n && bit x.flags b)
    let bf := blockFlags a n
    let lf := b2n (bit bf 3) + 2 * b2n (bit bf 4) + 4 * b2n (any 1) + 8 * b2n (any 2) + 64 * b2n (a.beamTiles.any (fun x => x.n = n && decide (0 < x.excl)))
      + 128 * b2n (any 0) + 256 * b2n (bit bf 5)
      + 512 * b2n (s.tru.gens.any (fun g => decide (sp * stgHop s < g.1) && decide (g.1 < (sp + stgB s) * stgHop s)))
    beamLegendEnd p n (foldS (beamLegendTo p n lf els a) (planPorts s p) s)

/-! ### Registers (R204, R216, R220, R223, R233) -/

def accBasicMask : Nat := 0xFF3F7F

/-- Is a binary32 finite? -/
def isFin32 (v : Nat) : Bool := decide (v / 2 ^ 23 % 256 ≠ 255)

/-- Format and activation (R220): 0 accepted, else a cause. -/
def fmtActCause (fmt act : Nat) : Nat :=
  if 4 ≤ act || !([7, 5, 6, 2, 9, 4].contains fmt) then cRANGE
  else if (act = 3) ≠ (fmt = 9 || fmt = 4) then cCONFLICT
  else 0

/-- The check of a kurtosis window: it divides B/Q (R216). -/
def skWindowOk (s : State) (w : Nat) : Bool := decide (1 ≤ w) && decide (w ≤ 32) && (stgB s / stgQ s) % w = 0

/-- The check of PORTS (R223). -/
def portsOk (s : State) (m : Nat) : Bool :=
  (maskList 8 m).all (fun q => s.rf (FRM_PORT_CFG_EN q) = 1 && !(portLanes s q).isEmpty && octetRole s (10 + q / 4) = roOUTPUT)

def accRefuse (off p : Nat) (s : State) : WOut := refuse uACC off p s

/-- `UNIT_BASIC` (R204). -/
def accBasicWrite (v : Nat) (s : State) : WOut :=
  let idle := (List.range 16).filter (fun p => !(planBusy s p))
  let fmt := bits v 0 4
  let bad (p : Nat) : Bool := decide (fmtActCause fmt (s.rf (ACC_PLAN_CFG_ACT p)) ≠ 0)
  if !(skWindowOk s (bits v 8 6)) || !([7, 5, 6, 2, 9, 4].contains fmt) || !(portsOk s (bits v 16 8)) then accRefuse 0x18 0 s
  else
    match idle.find? bad with
    | some p => accRefuse 0x18 p s
    | none =>
      acc (foldS (fun p t =>
        let c := t.reg (ACC_PLAN_CFG p)
        let c := setBits (setBits (setBits (setBits (setBits c 4 4 fmt) 1 1 (bits v 4 1)) 2 1 (bits v 5 1)) 3 1 (bits v 6 1)) 16 6 (bits v 8 6)
        (t.setReg (ACC_PLAN_CFG p) c).wf (ACC_OUT_CFG_PORTS p) (bits v 16 8)) idle (storeBits (UNIT_BASIC 10) accBasicMask v s))

/-- A host DUMP of plan `p` (R206). -/
def hostDump (s : State) (p : Nat) : Waymark :=
  { kind := wDUMP, flags := 4, scope := 0x1000 + p, anchor := stgPos s * stgHop s, arg := s.reg ACC_DRAIN_ARG }

/-- `ACC_CTRL` (R206, R217). -/
def accCtrlWrite (v : Nat) (s : State) : State :=
  let p := v % 16
  let s := if bit v 4 then { s with wm := { s.wm with transit := s.wm.transit ++ [(uSTG, hostDump s p)] } } else s
  if bit v 5 then (s.setAplan p { s.aplan p with base := [], based := false }).wf (ACC_PLAN_STATUS_SK_BASE p) 0 else s

/-- A write of a plan's register at row offset `d` (R233). -/
def accPlanWrite (p d off v : Nat) (s : State) : WOut :=
  let put (m : Nat) : WOut := acc (storeBits (0xA000000 + off) m v s)
  if d = 0x34 then
    if portsOk s (bits v 0 8) then put 0xFFFF00FF else accRefuse off p s
  else if planBusy s p then accRefuse off p s
  else
    match d with
    | 0x00 =>
      if fmtActCause (bits v 4 4) (bits v 8 3) ≠ 0 || !(skWindowOk s (bits v 16 6)) then accRefuse off p s else put 0x013F07FF
    | 0x20 => if v % 2 ^ 20 = 0 then put 0xFFFFFFFF else accRefuse off p s
    | 0x28 => if v % 2 ^ 20 = 0 then put 0xFFFFFFFF else accRefuse off p s
    | 0x24 => put 0xFFFFFFFF
    | 0x2C => put 0xFFFFFFFF
    | 0x30 => put 0xFFFFF
    | _ => if isFin32 v then put 0xFFFFFFFF else accRefuse off p s

def accCntClear (v : Nat) (s : State) : State :=
  if bit v 0 then
    s.zero ([ACC_CNT_SAT, ACC_CNT_POISON, ACC_CNT_PLANE_FULL, ACC_CNT_DRAIN_LATE] ++ (List.range 16).map ACC_PLAN_CNT_FRAMES)
  else s

/-- Writes of ACC registers that do more than store. -/
def accWrite (off v : Nat) (s : State) : Option WOut :=
  match off with
  | 0x18 => some (accBasicWrite v s)
  | 0x100 => some (acc (accCtrlWrite v s))
  | 0x10C => some (acc (accCntClear v s))
  | _ =>
    if 0x1000 ≤ off && off < 0x1800 then
      let d := off % 0x80
      if d = 0x04 || 0x38 ≤ d then none else some (accPlanWrite ((off - 0x1000) / 0x80) d off v s)
    else none

/-- Reads of ACC registers whose value is derived. -/
def accRead (off : Nat) (s : State) : Option Nat :=
  if off = 0x8 then some ((List.range 16).foldl (fun a p => a + b2n (planBusy s p) * 2 ^ p) 0)
  else if 0x1000 ≤ off && off < 0x1800 then
    let p := (off - 0x1000) / 0x80
    let a := s.aplan p
    let first := match a.blocks with | [] => 0 | l => l.foldl min (l.headD 0) * stgB s
    match off % 0x80 with
    | 0x04 => some (b2n (planBusy s p) + 2 * a.set + 4 * b2n (!a.drains.isEmpty) + 8 * b2n a.lateSet + 16 * b2n a.based
        + 32 * b2n (!a.dumps.isEmpty))
    | 0x3C => some a.blocks.length
    | 0x40 => some (first % 2 ^ 32)
    | 0x44 => some (first / 2 ^ 32)
    | 0x4C => some (a.planes.filter (fun y => y.ok && !(a.dumps.any (fun w => decide (dumpBoundary s w ≤ y.n))))).length
    | _ => none
  else none

/-! ### Meanings -/

/-- ACC_BLOCK_CLOSE -/
def execAccBlockClose (s : State) : Host.Outcome State Fault Refusal := .next (accBlockClose s)
/-- BLOCK_RESULT_MERGE -/
def execBlockResultMerge (index : Fin 4194304) (s : State) : Host.Outcome State Fault Refusal := .next (blockResult index.val s)
/-- SET_DRAIN -/
def execSetDrain (plan : Fin 16) (s : State) : Host.Outcome State Fault Refusal := .next (setDrain plan.val s)
/-- DRAIN_END -/
def execDrainEnd (plan : Fin 16) (s : State) : Host.Outcome State Fault Refusal := .next (drainEnd plan.val s)

end Sys2Proof.Machine
end

