-- ==== Sys2Proof/Machine/Svy.lean ====
section
/-! DEFINITION. The surveyor cores (SVY): plan images, the plan instructions, operations, host requests (R259 to R290). -/

namespace Sys2Proof.Machine

/-! ### Cores -/

def State.score (s : State) (c : Nat) : SvyCore := sget SvyCore.blank s.svy.cores c
def State.setScore (c : Nat) (k : SvyCore) (s : State) : State :=
  { s with svy := { s.svy with cores := sset SvyCore.blank s.svy.cores c k } }

/-! State codes (Table 11.1). -/
def sEMPTY : Nat := 0
def sLOADED : Nat := 1
def sRUNNING : Nat := 2
def sWAITING : Nat := 3
def sSUSPENDED : Nat := 4
def sSTOPPING : Nat := 5
def sHALTED : Nat := 6
def sFAULT : Nat := 7

/-- RUNNING, WAITING, SUSPENDED or STOPPING. -/
def SvyCore.active (k : SvyCore) : Bool := decide (2 ≤ k.st) && decide (k.st ≤ 5)

def hdrWord (s : State) (c w : Nat) : Nat := s.reg (SVY_CORE_HDR c w)
/-- Header fields of core `c` (Table 11.2). -/
def coreTag (s : State) (c : Nat) : Nat := bits (hdrWord s c 2) 0 4
def coreClass (s : State) (c : Nat) : Nat := bits (hdrWord s c 2) 4 4
def coreFore (s : State) (c : Nat) : Bool := bit (hdrWord s c 2) 8
def coreGen (s : State) (c : Nat) : Nat := bits (hdrWord s c 2) 16 8
def coreCode (s : State) (c : Nat) : Nat := hdrWord s c 3
def coreEntry (s : State) (c : Nat) : Nat := bits (hdrWord s c 6) 0 15
def coreVer (s : State) (c : Nat) : Nat := hdrWord s c 9

/-- The 64-bit word of plan memory at word `i`. -/
def planWord (s : State) (c i : Nat) : Nat := s.reg (SVY_MEM c (2 * i)) + 2 ^ 32 * s.reg (SVY_MEM c (2 * i + 1))

/-- Register `r` (R260). -/
def SvyCore.rd (k : SvyCore) (r : Nat) : Nat := if r = 0 then 0 else sget 0 k.regs r
def SvyCore.wr (k : SvyCore) (r v : Nat) : SvyCore := if r = 0 then k else { k with regs := sset 0 k.regs r (v % 2 ^ 64) }

/-! Instruction fields (Table 11.4). -/
def pOP (w : Nat) : Nat := bits w 56 8
def pD (w : Nat) : Nat := bits w 52 4
def pA (w : Nat) : Nat := bits w 48 4
def pB (w : Nat) : Nat := bits w 44 4
def pM (w : Nat) : Nat := bits w 40 4
def pE (w : Nat) : Nat := bits w 32 8
def pIMM (w : Nat) : Nat := bits w 0 32
/-- Sign-extended IMM as a 64-bit word. -/
def pSX (w : Nat) : Nat := toU 64 (sext 32 w)

/-- Is the instruction legal: a listed opcode, every field that it does not use zero, and a listed modifier (R267, R270)? -/
def planLegal (w : Nat) : Bool :=
  let z (l : List Nat) : Bool := l.all (· = 0)
  match pOP w with
  | 0x00 => w = 0
  | 0x01 => z [pA w, pB w, pM w, pE w]
  | 0x02 => z [pA w, pB w, pM w, pE w]
  | 0x10 => z [pD w, pE w, pIMM w / 2 ^ 15] && decide (pM w ≤ 6)
  | 0x11 => z [pD w, pB w] && decide (1 ≤ pE w) && ((pM w = 0 && pIMM w = 0) || (pM w = 1 && pA w = 0))
  | 0x12 => z [pD w, pA w, pB w, pM w, pE w, pIMM w / 2 ^ 15]
  | 0x13 => w = 0x13 * 2 ^ 56
  | 0x18 => z [pB w, pE w] && decide (pM w ≤ 1)
  | 0x19 => z [pD w, pE w] && decide (pM w ≤ 1)
  | 0x20 => z [pB w, pM w, pE w, pIMM w / 65536]
  | 0x21 => z [pB w, pM w, pE w, pIMM w / 65536]
  | 0x22 => z [pM w, pE w] && pIMM w &&& 0x80808080 = 0
  | 0x23 => z [pA w, pB w]
  | 0x28 => z [pM w, pE w, pIMM w]
  | 0x29 => z [pM w, pE w] && pIMM w &&& 0xFFFF8080 = 0
  | 0x2A => z [pA w, pB w, pM w, pE w, pIMM w]
  | 0x2B => z [pE w, pIMM w] && decide (pM w ≤ 1)
  | 0x30 => decide (pM w < 8) && decide (pIMM w < 2 ^ 24)
  | 0x31 => z [pB w, pIMM w] && decide (pM w ≤ 3)
  | 0x32 => z [pB w, pM w, pE w, pIMM w]
  | 0x38 => z [pD w, pA w, pB w, pM w, pE w, pIMM w / 65536]
  | 0x39 => z [pD w, pA w, pB w, pE w, pIMM w] && decide (pM w ≤ 2)
  | 0x3A => z [pB w, pM w, pE w, pIMM w]
  | 0x3B => z [pB w, pM w, pE w, pIMM w]
  | 0x3F => z [pD w, pA w, pB w, pE w, pIMM w] && decide (pM w ≤ 1)
  | op => decide (3 ≤ op) && decide (op ≤ 9) && pE w = 0 && ((pM w = 0 && pIMM w = 0) || (pM w = 1 && pB w = 0))

/-! ### Handles (R268, R269) -/

/-! Status codes (Table 11.5). -/
def stOK : Nat := 0
def stABORTED : Nat := 1
def stALREADY : Nat := 2
def stBUSY : Nat := 3
def stREFUSED : Nat := 4
def stUNKNOWN : Nat := 5
def stCONFLICT : Nat := 6
def stBUDGET : Nat := 7
def stPASSED : Nat := 8
def stKILLED : Nat := 9

/-- Handles of core `c`, oldest first. -/
def coreHandles (s : State) (c : Nat) : List Handle := s.svy.handles.filter (fun h => h.id / 65536 = c)

/-- An operation that waits at issue has taken nothing and is not in flight (R283). -/
def atIssue (s : State) (id : Nat) : Bool := s.atl.queue.any (fun o => o.id = id)

/-- Operations of core `c` in flight, oldest first (R269). -/
def inFlight (s : State) (c : Nat) : List Handle :=
  (coreHandles s c).filter (fun h => h.status.isNone && !(atIssue s h.id))

/-- The operation that handle `h` of core `c` names: unretired, or among the last 256 handles. -/
def findHandle (s : State) (c h : Nat) : Option Handle :=
  let l := coreHandles s c
  (l.zipIdx.filter (fun x => x.1.id % 65536 = h && (x.1.status.isNone || decide (l.length ≤ x.2 + 256)))).getLast?.map (·.1)

/-- The next handle of a core: in rising order, past any in flight. -/
def nextHandle (s : State) (c : Nat) : Nat :=
  let k := (s.score c).next
  let used := (coreHandles s c).filter (fun h => h.status.isNone)
  ((List.range 66).map (fun i => (k + i - 1) % 65535 + 1)).find? (fun h => !(used.any (fun x => x.id % 65536 = h))) |>.getD k

/-- Keep the last 256 retired handles of each core, and those in flight. -/
def trimHandles (c : Nat) (s : State) : State :=
  let l := coreHandles s c
  let keep := (l.zipIdx.filter (fun x => x.1.status.isNone || decide (l.length ≤ x.2 + 256))).map (·.1)
  { s with svy := { s.svy with handles := s.svy.handles.filter (fun h => decide (h.id / 65536 ≠ c)) ++ keep } }

/-- Take a handle for an operation. -/
def newHandle (c kind plan : Nat) (bound : Option Nat) (status : Option Nat) (s : State) : Nat × State :=
  let h := nextHandle s c
  let s := s.setScore c { s.score c with next := h % 65535 + 1 }
  let x : Handle := ⟨c * 65536 + h, kind, plan, bound, true, status.isSome, 0, status⟩
  (h, trimHandles c { s with svy := { s.svy with handles := s.svy.handles ++ [x] } })

/-- An operation retires with its final status. -/
def endHandle (id status stood : Nat) (s : State) : State :=
  { s with svy := { s.svy with handles := s.svy.handles.map (fun h =>
      if h.id = id && h.status.isNone then { h with status := some status, committed := decide (status = stOK), stood := stood } else h) } }

/-! ### Faults, results and the next instruction -/

/-- A fault halts the core at the faulting instruction (R286, Table 11.9). -/
def svyFault (c cause : Nat) (s : State) : State :=
  let k := s.score c
  raise EV_SVY_CORE_FAULT c (cause + 65536 * k.pc) (s.setScore c { k with st := sFAULT, cause := cause, wait := 0, waitH := 0, reqs := [] })

/-- Fault on reaching an illegal instruction, or the end of the code. -/
def svyReach (c : Nat) (s : State) : State :=
  let k := s.score c
  if k.st ≠ sRUNNING then s
  else if coreCode s c ≤ k.pc then svyFault c 6 s
  else if planLegal (planWord s c k.pc) then s
  else svyFault c 1 s

/-- Write a result word to register `d` (R268). -/
def svyResult (c d st h stood : Nat) (s : State) : State :=
  let k := s.score c
  let s := s.setScore c (k.wr d (st + 65536 * h + 2 ^ 32 * stood))
  let s := if st = stOK || st = stALREADY || st = stABORTED then s else s.inc (SVY_CORE_CNT_REFUSED c) 1
  if st = stREFUSED || st = stPASSED || st = stBUDGET then raise EV_SVY_OP_REFUSED c (k.pc + 65536 * st) s else s

/-- The instruction after the one at `pc`, with the loops after it: the end of a body goes back to its start until its passes are used. -/
def loopNext (pc : Nat) : List (Nat × Nat × Nat) → Nat × List (Nat × Nat × Nat)
  | [] => (pc + 1, [])
  | (a, b, n) :: t => if b ≠ pc then (pc + 1, (a, b, n) :: t) else if 1 < n then (a, (a, b, n - 1) :: t) else loopNext pc t

/-- Loops that a taken branch to `target` leaves running (R271). -/
def loopsKept (target : Nat) : List (Nat × Nat × Nat) → List (Nat × Nat × Nat)
  | [] => []
  | (a, b, n) :: t => if a ≤ target && target ≤ b then (a, b, n) :: t else loopsKept target t

/-! ### Undoing operations (R283) -/

/-- Abort an operation of core `c`: the reply's status, the steps that stand, and the state; `killed` where a KILL asks. -/
def svyAbort (c h : Nat) (killed : Bool) (s : State) : Nat × Nat × State :=
  match findHandle s c h with
  | none => (stUNKNOWN, 0, s)
  | some x =>
    let st := if killed then stKILLED else stABORTED
    match x.status with
    | some f => (if x.committed then stALREADY else f, x.stood, s)
    | none =>
      if atIssue s x.id then (st, 0, endHandle x.id st 0 (opWithdraw x.id s))
      else
        let note (stood : Nat) (t : State) : State := raise EV_SVY_OP_UNDONE c (h + 65536 * st) (endHandle x.id st stood t)
        if x.kind = 3 then
          let s := if (s.aplan x.plan).began = x.bound then abortInteg x.plan st s else s
          (st, 0, note 0 s)
        else
          match s.atl.ops.find? (fun o => o.id = x.id) with
          | none => (st, 0, note 0 s)
          | some o =>
            let s := opUndo x.id s
            let s := if o.beam then
                let open_ := s.atl.steps.filter (fun y => y.op = o.id && !y.decided)
                let s := foldS (beamUndone o.plan o.row o.rows) open_ s
                foldS (fun n t => beamLegend o.plan n t) ((open_.map (·.n)).eraseDups) s
              else if o.fed then abortInteg o.plan stABORTED s
              else s
            (st, o.done, note o.done s)

/-- KILL: every operation in flight is aborted in issue order (R286). -/
def svyKillAll (c : Nat) (s : State) : State :=
  foldS (fun (h : Handle) t => (svyAbort c (h.id % 65536) true t).2.2) (inFlight s c) s

/-- The core issues nothing more (R286); an operation waiting at issue is withdrawn. -/
def svyStopping (c how : Nat) (s : State) : State :=
  let k := s.score c
  let id := c * 65536 + k.waitH
  let s := if k.wait = 1 && atIssue s id then endHandle id stABORTED 0 (opWithdraw id s) else s
  s.setScore c { k with st := sSTOPPING, wait := 0, waitH := 0, how := how }

/-! ### Step points (R285) -/

/-- Apply one host request. -/
def svyRequest (c : Nat) (r : SvyReq) (s : State) : State :=
  let k := s.score c
  match r with
  | .abort h =>
    let (st, _, s) := if h = 0 then (stOK, 0, s) else svyAbort c h false s
    s.setReg (SVY_CORE_ABORT_RESULT c) (st + 65536 * h)
  | .reg r v => s.setScore c (k.wr r v)
  | .stop => if k.st = sSTOPPING then s else svyStopping c 0 s
  | .kill => svyStopping c 1 (svyKillAll c s)
  | .suspend => if k.st = sSTOPPING then s else s.setScore c { k with st := sSUSPENDED }

/-- A step point of core `c`: its host requests take effect. -/
def svyStepPoint (c : Nat) (s : State) : State :=
  let k := s.score c
  foldS (svyRequest c) k.reqs (s.setScore c { k with since := 0, reqs := [] })

/-- The core goes on to instruction `pc`; the 1,024th instruction without a step point is an implicit step. -/
def svyGo (c pc : Nat) (loops : List (Nat × Nat × Nat)) (s : State) : State :=
  let k := s.score c
  let at_ := k.pc
  let s := s.setScore c { k with st := sRUNNING, wait := 0, waitH := 0, pc := pc, loops := loops, since := k.since + 1 }
  let s :=
    if k.since + 1 < 1024 then s
    else
      let s := s.inc (SVY_CORE_CNT_IMPLICIT c) 1
      let k := s.score c
      let s := if k.implicit then s else raise EV_SVY_STEP_IMPLICIT c at_ (s.setScore c { k with implicit := true })
      svyStepPoint c s
  svyReach c s

/-- The core goes on to the next instruction. -/
def svyNext (c : Nat) (s : State) : State :=
  let k := s.score c
  let (pc, loops) := loopNext k.pc k.loops
  svyGo c pc loops s

/-- The core waits in its instruction: a step point. -/
def svyWait (c kind h : Nat) (s : State) : State :=
  svyStepPoint c (s.setScore c { s.score c with st := sWAITING, wait := kind, waitH := h })

/-- Finish an instruction that writes a result. -/
def svyDone (c w st h stood : Nat) (s : State) : State := svyNext c (svyResult c (pD w) st h stood s)

/-! ### Arithmetic and flow (R270, R271) -/

/-- op2. -/
def pOp2 (k : SvyCore) (w : Nat) : Nat := if pM w = 1 then pSX w else k.rd (pB w)

/-- An instruction that only writes register D. -/
def svyAlu (f : SvyCore → Nat → Nat) (c w : Nat) (s : State) : State :=
  let k := s.score c
  svyNext c (s.setScore c (k.wr (pD w) (f k w)))

/-- A branch condition. -/
def pCond (m a b : Nat) : Bool :=
  match m with
  | 0 => true
  | 1 => a = b
  | 2 => decide (a ≠ b)
  | 3 => decide (sext 64 a < sext 64 b)
  | 4 => decide (sext 64 b ≤ sext 64 a)
  | 5 => decide (a < b)
  | _ => decide (b ≤ a)

def piBranch (c w : Nat) (s : State) : State :=
  let k := s.score c
  let t := bits w 0 15
  if !(pCond (pM w) (k.rd (pA w)) (k.rd (pB w))) then svyNext c s
  else if coreCode s c ≤ t then svyFault c 6 s
  else svyGo c t (loopsKept t k.loops) s

def piLoop (c w : Nat) (s : State) : State :=
  let k := s.score c
  let n := if pM w = 1 then pIMM w else k.rd (pA w) % 2 ^ 32
  let last := k.pc + pE w
  if coreCode s c ≤ last then svyFault c 6 s
  else if n = 0 then
    let (pc, loops) := loopNext last k.loops
    svyGo c pc loops s
  else if 4 ≤ k.loops.length then svyFault c 4 s
  else svyGo c (k.pc + 1) ((k.pc + 1, last, n) :: k.loops) s

def piCall (c w : Nat) (s : State) : State :=
  let k := s.score c
  let t := bits w 0 15
  if 8 ≤ k.calls.length then svyFault c 5 s
  else if coreCode s c ≤ t then svyFault c 6 s
  else
    let (ret, loops) := loopNext k.pc k.loops
    svyGo c t loops (s.setScore c { k with calls := ret :: k.calls })

def piRet (c : Nat) (s : State) : State :=
  let k := s.score c
  match k.calls with
  | [] => svyFault c 5 s
  | a :: t => svyGo c a k.loops (s.setScore c { k with calls := t })

/-! ### Declarations (R273 to R276, R287, R288) -/

/-- The first stream identity of `f, n` whose decimator slot another running plan of the opposite attribute declared. -/
def slotConflict (s : State) (c f n : Nat) : Option Nat :=
  let slots := ((enabledSlots s).map (fun j => s.reg (DEC_STREAM_ID j))).filter (fun id => decide (f ≤ id) && decide (id < f + n))
  let others := (List.range 8).filter (fun d => d ≠ c && (s.score d).active && coreFore s d ≠ coreFore s c)
  (slots.mergeSort (fun a b => decide (a ≤ b))).find? (fun id => others.any (fun d =>
    match planStreams s (coreTag s d) with
    | some (g, m) => decide (g ≤ id) && decide (id < g + m)
    | none => false))

def piStream (c w : Nat) (s : State) : State :=
  let a := (s.score c).rd (pA w)
  let n := bits w 0 16
  let base := s.reg STG_STREAM_BASE
  if a < base || (a - base) % 32 ≠ 0 || n % 32 ≠ 0 || stgS s < a - base + n then svyDone c w stREFUSED 0 0 s
  else
    match slotConflict s c a n with
    | some id => svyDone c w stCONFLICT 0 0 (raise EV_SVY_SLOT_CONFLICT c id s)
    | none =>
      let tag := coreTag s c
      let s := { s with svy := { s.svy with decl := (tag, a, n) :: s.svy.decl.filter (fun x => decide (x.1 ≠ tag)) } }
      let s := foldS (fun j t =>
        let id := t.reg (DEC_STREAM_ID j)
        if a ≤ id && id < a + n then t.wf (DEC_STREAM_CFG_FORE j) (b2n (coreFore t c)) else t) (enabledSlots s) s
      svyDone c w stOK 0 0 s

def piSpectra (c w : Nat) (s : State) : State :=
  let k := s.score c
  let a := k.rd (pA w)
  let n := bits w 0 16
  if n = 0 || a % stgQ s ≠ 0 then svyDone c w stREFUSED 0 0 s
  else svyDone c w stOK 0 0 (s.setScore c { k with win := some (a, n) })

def piTileset (c w : Nat) (s : State) : State :=
  let k := s.score c
  let a := k.rd (pA w)
  let n := k.rd (pB w)
  let r0 := bits w 0 7
  let r1 := bits w 8 7
  let c0 := bits w 16 7
  let c1 := bits w 24 7
  let tag := coreTag s c
  let r := planRegion s tag
  if r.chans < a + n || r.rows ≤ r1 || r.cols ≤ c1 then svyDone c w stREFUSED 0 0 s
  else
    let ts := (rangeFrom a n).flatMap (fun ch => (rangeFrom r0 (r1 + 1 - r0)).flatMap (fun u =>
      ((rangeFrom c0 (c1 + 1 - c0)).filter (fun v => r.beam || decide (u ≤ v))).map (fun v => (ch, u, v))))
    svyDone c w stOK 0 0 (declare tag ts s)

def piBudget (c w : Nat) (s : State) : State :=
  let cls := pE w
  let m := pM w
  let f := bits w 0 16
  let ce := bits w 16 16
  if cls = 0 || 16 ≤ cls || (0xC ≤ m && m ≤ 0xE) then svyDone c w stREFUSED 0 0 s
  else if m = 0xF then svyDone c w stOK 0 0 (s.setScore c { s.score c with cls := cls })
  else if ce < f || 1024 < ce then svyDone c w stREFUSED 0 0 s
  else
    let (ok, s) := cadBudget cls m f ce s
    svyDone c w (if ok then stOK else stBUDGET) 0 0 s

/-! ### Operations (R277 to R280) -/

/-- Does the operation's first sub-block lie before the staging read position? -/
def opPassed (s : State) (first lo : Nat) : Bool :=
  let b := stgB s
  let n := first / b
  let k := first % b / stgQ s
  decide (n < s.stg.rBlk) || (n = s.stg.rBlk && (decide (lo < s.stg.rChan) || (lo = s.stg.rChan && decide (k < s.stg.rSub))))

/-- Issue a tile operation: refused for want of a handle's room, in progress, or waiting for its tiles. -/
def piIssue (c w kind : Nat) (o : TileOp) (s : State) : State :=
  let (res, t) := opIssue o s
  if res = 2 then svyDone c w stBUSY 0 0 t
  else
    let (h, t) := newHandle c kind o.plan none none t
    let t := t.inc (SVY_CORE_CNT_OPS c) 1
    if res = 0 then svyDone c w stOK h 0 t else svyWait c 1 h t

/-- Issue CORR or BEAM over beam groups `row` to `row + rows - 1` (R277, R278). -/
def piOperation (c w : Nat) (beam : Bool) (row rows : Nat) (s : State) : State :=
  let k := s.score c
  let tag := coreTag s c
  let r := planRegion s tag
  let lo := k.rd (pA w)
  let n := k.rd (pB w)
  let ref (st : Nat) : State := svyDone c w st 0 0 s
  match k.win with
  | none => ref stREFUSED
  | some (first, nsub) =>
    let b := stgB s
    let q := stgQ s
    if n = 0 || r.chans < lo + n || r.beam ≠ beam
        || (!beam && (first % b ≠ 0 || nsub % (b / q) ≠ 0))
        || (beam && (rows = 0 || r.rows < row + rows || r.cols < q / 32)) then ref stREFUSED
    else if 64 ≤ (inFlight s c).length then svyWait c 6 0 s
    else
      let o : TileOp := { id := 0, plan := tag, cls := k.cls, beam := beam, lo := lo, n := n, row := row, rows := rows, first := first
                          nsub := nsub, base := planBase s tag, step := k.steps % 65536, one := none, evict := false, done := 0, fed := false }
      if (opTiles s o).any (fun i => (s.desc i).st = dABSENT) then ref stREFUSED
      else if opPassed s first lo then ref stPASSED
      else piIssue c w (if beam then 2 else 1) { o with id := c * 65536 + nextHandle s c } s

def piCorr (c w : Nat) (s : State) : State := piOperation c w false 0 0 s
def piBeam (c w : Nat) (s : State) : State := piOperation c w true (bits w 0 7) (bits w 8 7 + 1 - bits w 0 7) s

/-- The anchor at which the integration of the plan's next MERGE begins (R279). -/
def mergeBound (s : State) (tag : Nat) : Option Nat :=
  match s.svy.lastDump.find? (fun x => x.1 = tag) with
  | some x => some x.2
  | none => none

def piMerge (c w : Nat) (s : State) : State :=
  let tag := coreTag s c
  let b := mergeBound s tag
  match s.svy.handles.find? (fun h => h.kind = 3 && h.plan = tag && h.bound = b && h.status.isNone) with
  | some h => svyDone c w stOK (h.id % 65536) 0 s
  | none =>
    if 64 ≤ (inFlight s c).length then svyWait c 6 0 s
    else
      let (h, s) := newHandle c 3 tag b none s
      svyDone c w stOK h 0 (s.inc (SVY_CORE_CNT_OPS c) 1)

/-- Kinds on which a unit at or downstream of an insertion point acts (Table 2.8, R280): 0 ingress, 1 staging input, 2 accumulation
input, 3 output. -/
def markActs (point kind : Nat) : Bool :=
  match point with
  | 0 => decide (2 ≤ kind)
  | 1 => decide (2 ≤ kind)
  | 2 => [wDUMP, wFLUSH, wHALT, wRESUME, wTRIG, wGEN, wCAL, wSTEP, wPROBE].contains kind
  | _ => [wHALT, wRESUME, wTRIG, wPROBE].contains kind

/-- Put a waymark into the data path at an insertion point (R280): a control-class one at the head of the control queue. -/
def insertMark (point plan : Nat) (w : Waymark) (s : State) : State :=
  match point with
  | 3 => { s with frm := { s.frm with ride := s.frm.ride ++ (planPorts s plan).map (fun q => (q + 8 * (plan + 1), w)) } }
  | _ =>
    let u := match point with | 0 => uDEC | 1 => uSTG | _ => uACC
    { s with wm := { s.wm with transit := if waymarkControl w.kind then (u, w) :: s.wm.transit else s.wm.transit ++ [(u, w)] } }

/-- Note the anchor of a plan's DUMP (R279). -/
def noteDump (tag anchor : Nat) (s : State) : State :=
  { s with svy := { s.svy with lastDump := (tag, anchor) :: s.svy.lastDump.filter (fun x => decide (x.1 ≠ tag)) } }

/-- Insert a waymark as an operation that retires at issue. -/
def svyMark (c wd point : Nat) (m : Waymark) (s : State) : State :=
  if 64 ≤ (inFlight s c).length then svyWait c 6 0 s
  else
    let tag := coreTag s c
    let (h, s) := newHandle c 4 tag none (some stOK) s
    let s := insertMark point tag m (s.inc (SVY_CORE_CNT_OPS c) 1)
    svyDone c wd stOK h 0 (if m.kind = wDUMP then noteDump tag m.anchor s else s)

def piDump (c w : Nat) (s : State) : State :=
  let k := s.score c
  svyMark c w 1 { kind := wDUMP, flags := 0, scope := 0x1000 + coreTag s c
                  anchor := if pM w = 1 then nowAnchor else k.rd (pA w), arg := k.rd (pB w) % 2 ^ 32 } s

def piMark (c w : Nat) (s : State) : State :=
  let k := s.score c
  let point := bits (pM w) 0 2
  let now := bit (pM w) 2
  let kind := pE w
  let sc := bits w 0 16
  if kind = wEPOCH || kind = wTWIN || kind = 0 || 15 < kind || (kind = wGEN && now) || !(markActs point kind) then
    svyDone c w stREFUSED 0 0 s
  else
    svyMark c w point { kind := kind, flags := bits w 16 8, scope := if sc = 0 then 0x1000 + coreTag s c else sc
                        anchor := if now then nowAnchor else k.rd (pA w), arg := k.rd (pB w) % 2 ^ 32 } s

/-! ### Waiting (R281, R282) -/

def piWaitmark (c w : Nat) (s : State) : State :=
  let k := s.score c
  let u := match pM w with | 0 => uDEC | 1 => uSTG | 2 => uXAR | _ => uACC
  let a := k.rd (pA w)
  match s.wm.applied.reverse.find? (fun x => x.1 = u && x.2.kind = pE w && decide (a ≤ x.2.anchor)
      && (x.2.scope = 0 || x.2.scope = 0x1000 + coreTag s c)) with
  | some x => svyNext c (s.setScore c (k.wr (pD w) x.2.anchor))
  | none => svyWait c 4 0 s

def piWaitidx (c w : Nat) (s : State) : State :=
  let k := s.score c
  if k.rd (pA w) ≤ s.mer.idx then svyNext c (s.setScore c (k.wr (pD w) s.mer.idx)) else svyWait c 5 0 s

/-- Is the operation committed or undone? -/
def Handle.decided (h : Handle) : Bool := h.committed || h.status.isSome

def piFence (c w : Nat) (s : State) : State :=
  let l := coreHandles s c
  let ok := match pM w with
    | 0 => l.all (fun h => !(atIssue s h.id))
    | 1 => l.all Handle.decided
    | _ => l.all (fun h => h.status.isSome)
  if ok then svyNext c s else svyWait c 3 0 s

def piCommit (c w : Nat) (s : State) : State :=
  let h := bits ((s.score c).rd (pA w)) 16 16
  if h = 0 then svyDone c w stOK 0 0 s
  else
    match findHandle s c h with
    | none => svyDone c w stUNKNOWN h 0 s
    | some x =>
      match x.status with
      | some st => svyDone c w st h x.stood s
      | none => svyWait c 2 h s

def piAbort (c w : Nat) (s : State) : State :=
  let h := bits ((s.score c).rd (pA w)) 16 16
  if h = 0 then svyDone c w stOK 0 0 s
  else
    let (st, stood, s) := svyAbort c h false s
    svyDone c w st h stood s

def piStep (c w : Nat) (s : State) : State :=
  let k := s.score c
  let imm := bits w 0 16
  let s := s.setScore c { k with steps := (k.steps + 1) % 2 ^ 32, stepImm := imm }
  let tag := coreTag s c
  let s := insertMark 1 tag { kind := wSTEP, flags := 0, scope := 0x1000 + tag, anchor := nowAnchor, arg := 65536 * imm } s
  -- the step point lies after the instruction
  let k := s.score c
  let (pc, loops) := loopNext k.pc k.loops
  svyReach c (svyStepPoint c (s.setScore c { k with pc := pc, loops := loops }))

def piHalt (c w : Nat) (s : State) : State := svyStopping c 2 (if pM w = 1 then svyKillAll c s else s)

/-! ### Running an instruction -/

/-- Run core `c`'s next instruction if the core is RUNNING and the instruction has opcode `op`. -/
def svyExec (op : Nat) (f : Nat → Nat → State → State) (c : Nat) (s : State) : State :=
  let k := s.score c
  let w := planWord s c k.pc
  if k.st = sRUNNING && decide (k.pc < coreCode s c) && pOP w = op && planLegal w then f c w s else s

/-- The instructions that wait, by opcode. -/
def svyRetry (c w : Nat) (s : State) : State :=
  match pOP w with
  | 0x28 => piCorr c w s | 0x29 => piBeam c w s | 0x2A => piMerge c w s | 0x2B => piDump c w s | 0x30 => piMark c w s
  | 0x31 => piWaitmark c w s | 0x32 => piWaitidx c w s | 0x39 => piFence c w s | 0x3A => piCommit c w s
  | _ => s

/-- The condition of a waiting core is met (R282): it resumes; otherwise it goes on waiting. -/
def svyWaitEnd (c : Nat) (s : State) : State :=
  let k := s.score c
  let w := planWord s c k.pc
  if k.st ≠ sWAITING then s
  else if k.wait = 1 then
    if atIssue s (c * 65536 + k.waitH) then s
    else
      match findHandle s c k.waitH with
      | some x =>
        match x.status with
        | some st => svyDone c w (if st = stOK then stOK else st) k.waitH 0 s
        | none => svyDone c w stOK k.waitH 0 s
      | none => svyDone c w stABORTED k.waitH 0 s
  else svyRetry c w s

/-! ### Completion (R284) -/

/-- Has the operation a pass listed, waiting, filling or draining, or a tile complete and not yet taken? -/
def opProducts (s : State) (o : TileOp) : Bool :=
  let isW (w : Option Work) : Bool := match w with | some w => w.pass.op = o.id | none => false
  s.atl.passes.any (fun p => p.op = o.id)
    || s.atl.arrays.any (fun x => isW x.2.next || isW x.2.fill || isW x.2.drain)
    || s.atl.desc.any (fun x => x.2.src = o.id + 1 && x.2.st = dCOMPLETE)

/-- Has the beam step a pass that has not reached the tile store? -/
def stepProducts (s : State) (o : TileOp) (st : BeamStep) : Bool :=
  let is (p : Pass) : Bool := p.op = o.id && p.n = st.n && p.c = st.c && p.k = st.k
  let isW (w : Option Work) : Bool := match w with | some w => is w.pass | none => false
  s.atl.passes.any is || s.atl.arrays.any (fun x => isW x.2.next || isW x.2.fill || isW x.2.drain)

/-- The STEP waymark at the head of accumulation's store: as a completion waymark it commits a CORR, or the next step of a BEAM, once every
product before it has arrived (R59, R283, R284). -/
def accStep (s : State) : State :=
  match (heldBy s uACC).find? (fun w => w.kind = wSTEP) with
  | none => s
  | some w =>
    let h := w.arg % 65536
    let done (t : State) : State := noteApplied uACC w (setHeld uACC ((heldBy t uACC).erase w) t)
    match s.atl.ops.find? (fun o => decide (h ≠ 0) && o.one.isNone && o.plan = scopeValue w.scope && o.id % 65536 = h) with
    | none => done s
    | some o =>
      if o.beam then
        match s.atl.steps.find? (fun y => y.op = o.id && !y.decided) with
        | none => done s
        | some st =>
          if stepProducts s o st then s
          else if halfHeld s o.plan st.n && !(planSlices s o.plan).isEmpty then
            let a := s.aplan o.plan
            if a.lateSet then s
            else raise EV_ACC_DRAIN_LATE o.plan st.n ((s.setAplan o.plan { a with lateSet := true }).inc ACC_CNT_DRAIN_LATE 1)
          else
            let s := beamCommit o st (s.setAplan o.plan { s.aplan o.plan with lateSet := false })
            let s := { s with atl := { s.atl with ops := s.atl.ops.map (fun y => if y.id = o.id then { y with done := o.done + 1 } else y) } }
            let s := beamLegend o.plan st.n s
            let s := if o.done + 1 = o.nsub * o.n then opRetire o.id (endHandle o.id stOK (o.done + 1) s) else s
            done s
      else if opProducts s o then s
      else done (opRetire o.id (endHandle o.id stOK 0 s))

/-! ### Images (R264 to R266) -/

/-- A little-endian field of a byte list. -/
def fieldAt (bs : List Byte) (off n : Nat) : Nat := ofLe ((bs.drop off).take n)

def hdrBytes (s : State) (c : Nat) : List Byte := (List.range 64).flatMap (fun w => leBytes 4 (hdrWord s c w))
def memBytes (s : State) (c off n : Nat) : List Byte :=
  (List.range n).map (fun i => BitVec.ofNat 8 (s.reg (SVY_MEM c ((off + i) / 4)) / 2 ^ (8 * ((off + i) % 4))))

/-- Does the trust unit accept the plan (R461)? -/
def planTrusted (s : State) (digest : List Byte) (tag ver : Nat) : Bool :=
  !s.tru.ticketOnly || s.tru.tickets.any (fun t => t.digest = digest && t.tag = tag && t.version = ver)

/-- Checks 0x2 to 0x4 on a header (Table 11.3): 0 passed. -/
def hdrCause (h : List Byte) : Nat :=
  let f := fieldAt h
  let code := f 0x0C 4
  if f 0 4 ≠ 0x4E4C5058 || f 4 2 ≠ 1 || f 9 1 / 2 ≠ 0 || f 0x0B 1 ≠ 0 || ((h.drop 0x68).take 0x90).any (fun b => decide (b ≠ 0#8)) then 2
  else if f 0xF8 8 ≠ crc crc64XZ (h.take 0xF8) then 3
  else if code = 0 || 32768 < code || f 0x14 4 % 8 ≠ 0 || f 0x14 4 < 8 * code || 262144 < f 0x14 4 + f 0x10 4 || code ≤ f 0x18 4 % 2 ^ 15 then 4
  else 0

/-- Checks 0x5 to 0xA. -/
def bodyCause (c : Nat) (h body : List Byte) (ok builtin : Bool) (s : State) : Nat :=
  let f := fieldAt h
  let tag := f 8 1 % 16
  let digest := (h.drop 0x28).take 64
  if !ok || (!builtin && sha512 body ≠ digest) then 5
  else if !builtin && !(planTrusted s digest tag (f 0x24 4)) then 6
  else if (List.range 8).any (fun d => d ≠ c && (s.score d).st ≠ sEMPTY && coreTag s d = tag) then 7
  else if f 8 1 / 16 = 0 then 8
  else if s.rf TRU_ARITH_MAX < f 0x0A 1 then 9
  else if (regionRefused s tag (f 0x1C 4) (f 0x20 4) true).isSome then 10
  else 0

/-- Words of a byte list. -/
def wordsOf : List Byte → List Nat
  | a :: b :: c :: d :: t => ofLe [a, b, c, d] :: wordsOf t
  | [] => []
  | l => [ofLe l]

/-- Put an accepted image into core `c` (R265). -/
def loadImage (c : Nat) (h code data : List Byte) (s : State) : State :=
  let f := fieldAt h
  let tag := f 8 1 % 16
  let put (base : Nat) (l : List Nat) (s : State) : State := foldS (fun (x : Nat × Nat) t => t.setReg (SVY_MEM c (base + x.2)) x.1) l.zipIdx s
  let s := put (f 0x14 4 / 4) (wordsOf data) (put 0 (wordsOf code) s)
  let s := foldS (fun (x : Nat × Nat) t => t.setReg (SVY_CORE_HDR c x.2) x.1) (wordsOf h).zipIdx s
  let s := setRegion tag (f 0x1C 4) (f 0x20 4) s
  let s := { s with svy := { s.svy with decl := s.svy.decl.filter (fun x => decide (x.1 ≠ tag)), lastDump := s.svy.lastDump.filter (fun x => decide (x.1 ≠ tag)) } }
  s.setScore c { s.score c with st := sLOADED, cause := 0, loading := none }

def loadRefused (c cause : Nat) (s : State) : State :=
  raise EV_SVY_LOAD_REFUSED c cause s

/-- PLAN_LOAD_DONE of core `c`: the checks in order, then the copy (R265, Table 11.3). -/
def loadDone (c : Nat) (s : State) : State :=
  let k := s.score c
  match k.loading with
  | none => s
  | some addr =>
    let window := decide (2 ^ 63 ≤ addr)
    let (hb, s) := if window then ((hdrBytes s c).map some, s) else hbmGet 5 addr 256 s
    let h := bytesOf hb
    let c1 := if allBytes hb then hdrCause h else 2
    let codeLen := 8 * fieldAt h 0x0C 4
    let dataLen := fieldAt h 0x10 4
    let (body, s) := if c1 ≠ 0 then ([], s)
      else if window then ((memBytes s c 0 codeLen ++ memBytes s c (fieldAt h 0x14 4) dataLen).map some, s)
      else hbmGet 5 (addr + 256) (codeLen + dataLen) s
    let bs := bytesOf body
    let cause := if c1 ≠ 0 then c1 else bodyCause c h bs (allBytes body) false s
    let s := (s.setScore c { s.score c with loading := none }).setReg (SVY_CORE_LOAD_RESULT c) cause
    if cause = 0 then loadImage c h (bs.take codeLen) (bs.drop codeLen) s
    else
      let s := if cause = 6 then raise EV_TRU_PLAN_REFUSED (fieldAt h 8 1 % 16) (fieldAt h 0x24 4) s else s
      loadRefused c cause s

/-- `SVY_CORE_CTRL.LOAD`. -/
def loadStart (c : Nat) (s : State) : WOut :=
  let k := s.score c
  let window := s.reg (SVY_CORE_IMG_HI c) = 0xFFFFFFFF
  let ok := (k.st = sEMPTY || (!window && (k.st = sHALTED || k.st = sFAULT))) && k.loading.isNone
  if !ok then ⟨false, loadRefused c 1 (s.wf (SVY_CORE_LOAD_RESULT_CAUSE c) 1)⟩
  else
    acc ((s.setScore c { k with loading := some (if window then 2 ^ 63 else s.reg64 (SVY_CORE_IMG_LO c) (SVY_CORE_IMG_HI c)) }).setReg
      (SVY_CORE_LOAD_RESULT c) 0x100)

/-! ### Host control (R262, R263, R266, R285, R286) -/

/-- CALIBRATE, CORRELATE, BEAMFORM, HYBRID, TRIGGER or SHADOW. -/
def planMode (m : Nat) : Bool := decide (mCALIBRATE ≤ m) && decide (m ≤ mSHADOW)

/-- START (R262). -/
def svyStart (c : Nat) (s : State) : WOut :=
  let k := s.score c
  if !(planMode s.mode) || !(k.st = sLOADED || k.st = sHALTED) || k.loading.isSome then ⟨false, loadRefused c 0x10 s⟩
  else if s.rf TRU_ARITH_IN_FORCE < coreGen s c then ⟨false, loadRefused c 0x11 s⟩
  else
    let k : SvyCore := { SvyCore.blank with st := sRUNNING, pc := coreEntry s c, cls := coreClass s c, next := k.next }
    let s := raise EV_SVY_PLAN_STARTED c (coreTag s c + 256 * (coreVer s c % 2 ^ 24)) (s.setScore c k)
    acc (svyReach c s)

/-- A host request waits for the core's next step point; a core that runs nothing takes none. -/
def svyAsk (c : Nat) (r : SvyReq) (s : State) : State :=
  let k := s.score c
  if k.active then s.setScore c { k with reqs := k.reqs ++ [r] } else s

/-- RESUME: a suspended core goes on from its step point. -/
def svyResume (c : Nat) (s : State) : State :=
  let k := s.score c
  if k.st = sSUSPENDED then s.setScore c { k with st := if k.wait = 0 then sRUNNING else sWAITING } else s

/-- UNLOAD (R266). -/
def svyUnload (c : Nat) (s : State) : WOut :=
  let k := s.score c
  let tag := coreTag s c
  if !(k.st = sHALTED || k.st = sFAULT) || !(planUnloadable s tag) then ⟨false, loadRefused c 0x10 s⟩
  else
    let s := dropTiles tag s
    let s := { s with svy := { s.svy with decl := s.svy.decl.filter (fun x => decide (x.1 ≠ tag)), lastDump := s.svy.lastDump.filter (fun x => decide (x.1 ≠ tag)) } }
    acc (s.setScore c { SvyCore.blank with next := k.next })

/-- `SVY_CORE_CTRL`: its bits in ascending order, the first refusal ending the write's effect. -/
def svyCtrlWrite (c v : Nat) (s : State) : WOut :=
  let step (i : Nat) (f : State → WOut) (r : WOut) : WOut := if r.ok && bit v i then f r.st else r
  let req (q : SvyReq) (t : State) : WOut := acc (svyAsk c q t)
  step 6 (svyUnload c) (step 5 (fun t => acc (svyResume c t)) (step 4 (req .suspend) (step 3 (req .kill) (step 2 (req .stop)
    (step 1 (svyStart c) (step 0 (loadStart c) (acc s)))))))

/-- A core whose operations in flight have all retired enters HALTED (R286). -/
def svyStopDone (c : Nat) (s : State) : State :=
  let k := s.score c
  if k.st = sSTOPPING && (inFlight s c).isEmpty then raise EV_SVY_PLAN_HALTED c k.how (s.setScore c { k with st := sHALTED, reqs := [] }) else s

/-- Every running core is stopped as STOP does (R262). -/
def svyStopAll (s : State) : State :=
  foldS (fun c t => if (t.score c).active then svyAsk c .stop t else t) (List.range 8) s

/-- The reference plan's words (R263). -/
def builtinCode : List Nat :=
  [0x183001000D000018, 0x0933010000000008, 0x06330100000000FF, 0x18A0010007000114, 0x0190000000000080, 0x0180000000004000,
   0x2370000104000400, 0x2370030102000088, 0x207A000000001000, 0x227090007F007F00, 0x3240000000000000, 0x094401000000001A,
   0x0344010000000002, 0x081401000000000E, 0x0120000000000000, 0x01C0000000000000, 0x2A50000000000000, 0x1103000600000000,
   0x2171000000000010, 0x2860900000000000, 0x06760100000000FF, 0x1007020000000020, 0x0311800000000000, 0x3800000000000001,
   0x08B101000000000C, 0x2B7B200000000000, 0x3A7C000000000000, 0x06770100000000FF, 0x1007020000000020, 0x07C5000000000000,
   0x0322010000000001, 0x1000000000000010, 0x3F00010000000000]

/-- The built-in plan's header. -/
def builtinHdr : List Byte :=
  let code := builtinCode.flatMap (leBytes 8)
  let h := leBytes 4 0x4E4C5058 ++ leBytes 2 1 ++ leBytes 2 Config.builtinToolVer.toNat ++ leBytes 1 0x10 ++ leBytes 1 0 ++ leBytes 1 1
    ++ leBytes 1 0 ++ leBytes 4 33 ++ leBytes 4 0 ++ leBytes 4 264 ++ leBytes 4 0 ++ leBytes 4 0 ++ leBytes 4 0x07F08080
    ++ leBytes 4 Config.builtinPlanVer.toNat ++ sha512 code ++ List.replicate 0x90 0#8
  h ++ leBytes 8 (crc crc64XZ h)

def svyBasicMask : Nat := 0xFF01

/-- `UNIT_BASIC` (R263). -/
def svyBasicWrite (v : Nat) (s : State) : WOut :=
  let k := s.score 0
  if bits v 8 8 = 0 then ⟨false, s⟩
  else
    let t := storeBits (UNIT_BASIC 13) svyBasicMask v s
    if bit v 0 then
      if !(k.st = sEMPTY || ((k.st = sLOADED || k.st = sHALTED) && coreTag s 0 = 0)) then ⟨false, loadRefused 0 0x10 s⟩
      else if k.st = sEMPTY then
        let cause := bodyCause 0 builtinHdr [] true true s
        if cause ≠ 0 then ⟨false, loadRefused 0 cause (s.wf (SVY_CORE_LOAD_RESULT_CAUSE 0) cause)⟩
        else
          let r := svyStart 0 (loadImage 0 builtinHdr (builtinCode.flatMap (leBytes 8)) [] t)
          if r.ok then r else ⟨false, loadRefused 0 (if planMode s.mode then 0x11 else 0x10) s⟩
      else
        let r := svyStart 0 t
        if r.ok then r else ⟨false, loadRefused 0 (if planMode s.mode then 0x11 else 0x10) s⟩
    else acc (svyAsk 0 .stop t)

def svyCounters (c : Nat) : List Nat := [SVY_CORE_CNT_OPS c, SVY_CORE_CNT_REFUSED c, SVY_CORE_CNT_IMPLICIT c]

def svyCntClear (v : Nat) (s : State) : State :=
  if bit v 3 then s.zero ((List.range 8).flatMap svyCounters) else s.zero (svyCounters (v % 8))

/-- A write of `SVY_CORE_ABORT` (R285). -/
def svyHostAbort (c v : Nat) (s : State) : State :=
  let h := v % 65536
  if (s.score c).active then (svyAsk c (.abort h) s).setReg (SVY_CORE_ABORT_RESULT c) (0x100 + 65536 * h)
  else
    let (st, _, s) := if h = 0 then (stOK, 0, s) else svyAbort c h false s
    s.setReg (SVY_CORE_ABORT_RESULT c) (st + 65536 * h)

/-- A write of `SVY_CORE_REG_LO`: both halves take effect at the next step point (R285). -/
def svyRegWrite (c v : Nat) (s : State) : State :=
  svyAsk c (.reg (s.reg (SVY_CORE_REG_SEL c) % 16) (v + 2 ^ 32 * s.reg (SVY_CORE_REG_HI c))) s

/-- Writes of SVY registers and memory that do more than store. -/
def svyWrite (off v : Nat) (s : State) : Option WOut :=
  if off = 0x18 then some (svyBasicWrite v s)
  else if off = 0x100 then some (acc (svyCntClear v s))
  else if 0x1000 ≤ off && off < 0x1400 then
    let c := (off - 0x1000) / 0x80
    match off % 0x80 with
    | 0x00 => some (svyCtrlWrite c v s)
    | 0x14 => some (acc (svyHostAbort c v s))
    | 0x20 => some (acc (svyRegWrite c v s))
    | _ => none
  else if 0x2000 ≤ off && off < 0x2800 then
    some (if (s.score ((off - 0x2000) / 0x100)).st = sEMPTY then acc (s.setReg (0xD000000 + off) v) else ⟨false, s⟩)
  else if 0x100000 ≤ off then
    some (if (s.score ((off - 0x100000) / 0x40000)).st = sEMPTY then acc (s.setReg (0xD000000 + off) v) else ⟨false, s⟩)
  else none

/-- Reads of SVY registers whose value is derived. -/
def svyRead (off : Nat) (s : State) : Option Nat :=
  let cores := List.range 8
  if off = 0x8 then
    some (cores.foldl (fun a c =>
      let st := (s.score c).st
      a + b2n (st = sRUNNING || st = sWAITING || st = sSTOPPING) * 2 ^ c) 0)
  else if off = 0x104 then
    some (cores.foldl (fun a c => if (s.score c).st = sEMPTY then a else a ||| 2 ^ coreTag s c) 0)
  else if 0x1000 ≤ off && off < 0x1400 then
    let c := (off - 0x1000) / 0x80
    let k := s.score c
    let r := k.rd (s.reg (SVY_CORE_REG_SEL c) % 16)
    match off % 0x80 with
    | 0x04 => some (k.st + (if k.st = sEMPTY then 0 else 16 * coreTag s c + 256 * b2n (coreFore s c)) + 512 * b2n (!k.reqs.isEmpty)
        + 4096 * k.cause + 65536 * k.pc)
    | 0x20 => some (r % 2 ^ 32)
    | 0x24 => some (r / 2 ^ 32)
    | 0x28 =>
      let l := inFlight s c
      some (min 64 l.length + 65536 * (match l with | h :: _ => h.id % 65536 | [] => 0))
    | 0x2C => some (k.stepImm + 65536 * (k.steps % 65536))
    | 0x30 => some ((if k.st = sSTOPPING then 7 else k.wait) + 65536 * k.waitH)
    | _ => none
  else none

/-! ### Meanings -/

/-- PLAN_LOAD_DONE -/
def execPlanLoadDone (core : Fin 8) (s : State) : Host.Outcome State Fault Refusal := .next (loadDone core.val s)
/-- STEP_POINT: of a core that waits, is suspended or is stopping; a running core reaches its step points in its instructions. -/
def execStepPoint (core : Fin 8) (s : State) : Host.Outcome State Fault Refusal :=
  .next (if (s.score core.val).active && decide ((s.score core.val).st ≠ sRUNNING) then svyStepPoint core.val s else s)
/-- PLAN_WAIT_END -/
def execPlanWaitEnd (core : Fin 8) (s : State) : Host.Outcome State Fault Refusal := .next (svyWaitEnd core.val s)
/-- STEP_WAYMARK -/
def execStepWaymark (s : State) : Host.Outcome State Fault Refusal := .next (accStep s)
/-- PLAN_NOP -/
def execPlanNop (core : Fin 8) (s : State) : Host.Outcome State Fault Refusal := .next (svyExec 0x00 (fun c _ t => svyNext c t) core.val s)
/-- PLAN_SET -/
def execPlanSet (core : Fin 8) (s : State) : Host.Outcome State Fault Refusal := .next (svyExec 0x01 (svyAlu (fun _ w => pSX w)) core.val s)
/-- PLAN_SETHI -/
def execPlanSethi (core : Fin 8) (s : State) : Host.Outcome State Fault Refusal :=
  .next (svyExec 0x02 (svyAlu (fun k w => k.rd (pD w) % 2 ^ 32 + 2 ^ 32 * pIMM w)) core.val s)
/-- PLAN_ADD -/
def execPlanAdd (core : Fin 8) (s : State) : Host.Outcome State Fault Refusal :=
  .next (svyExec 0x03 (svyAlu (fun k w => k.rd (pA w) + pOp2 k w)) core.val s)
/-- PLAN_SUB -/
def execPlanSub (core : Fin 8) (s : State) : Host.Outcome State Fault Refusal :=
  .next (svyExec 0x04 (svyAlu (fun k w => k.rd (pA w) + 2 ^ 64 - pOp2 k w)) core.val s)
/-- PLAN_MUL -/
def execPlanMul (core : Fin 8) (s : State) : Host.Outcome State Fault Refusal :=
  .next (svyExec 0x05 (svyAlu (fun k w => k.rd (pA w) * pOp2 k w)) core.val s)
/-- PLAN_AND -/
def execPlanAnd (core : Fin 8) (s : State) : Host.Outcome State Fault Refusal :=
  .next (svyExec 0x06 (svyAlu (fun k w => k.rd (pA w) &&& pOp2 k w)) core.val s)
/-- PLAN_OR -/
def execPlanOr (core : Fin 8) (s : State) : Host.Outcome State Fault Refusal :=
  .next (svyExec 0x07 (svyAlu (fun k w => k.rd (pA w) ||| pOp2 k w)) core.val s)
/-- PLAN_SHL -/
def execPlanShl (core : Fin 8) (s : State) : Host.Outcome State Fault Refusal :=
  .next (svyExec 0x08 (svyAlu (fun k w => k.rd (pA w) * 2 ^ (pOp2 k w % 64))) core.val s)
/-- PLAN_SHR -/
def execPlanShr (core : Fin 8) (s : State) : Host.Outcome State Fault Refusal :=
  .next (svyExec 0x09 (svyAlu (fun k w => k.rd (pA w) / 2 ^ (pOp2 k w % 64))) core.val s)
/-- PLAN_BRANCH -/
def execPlanBranch (core : Fin 8) (s : State) : Host.Outcome State Fault Refusal := .next (svyExec 0x10 piBranch core.val s)
/-- PLAN_LOOP -/
def execPlanLoop (core : Fin 8) (s : State) : Host.Outcome State Fault Refusal := .next (svyExec 0x11 piLoop core.val s)
/-- PLAN_CALL -/
def execPlanCall (core : Fin 8) (s : State) : Host.Outcome State Fault Refusal := .next (svyExec 0x12 piCall core.val s)
/-- PLAN_RET -/
def execPlanRet (core : Fin 8) (s : State) : Host.Outcome State Fault Refusal := .next (svyExec 0x13 (fun c _ t => piRet c t) core.val s)
/-- PLAN_STREAM -/
def execPlanStream (core : Fin 8) (s : State) : Host.Outcome State Fault Refusal := .next (svyExec 0x20 piStream core.val s)
/-- PLAN_SPECTRA -/
def execPlanSpectra (core : Fin 8) (s : State) : Host.Outcome State Fault Refusal := .next (svyExec 0x21 piSpectra core.val s)
/-- PLAN_TILESET -/
def execPlanTileset (core : Fin 8) (s : State) : Host.Outcome State Fault Refusal := .next (svyExec 0x22 piTileset core.val s)
/-- PLAN_BUDGET -/
def execPlanBudget (core : Fin 8) (s : State) : Host.Outcome State Fault Refusal := .next (svyExec 0x23 piBudget core.val s)
/-- PLAN_CORR -/
def execPlanCorr (core : Fin 8) (s : State) : Host.Outcome State Fault Refusal := .next (svyExec 0x28 piCorr core.val s)
/-- PLAN_BEAM -/
def execPlanBeam (core : Fin 8) (s : State) : Host.Outcome State Fault Refusal := .next (svyExec 0x29 piBeam core.val s)
/-- PLAN_MERGE -/
def execPlanMerge (core : Fin 8) (s : State) : Host.Outcome State Fault Refusal := .next (svyExec 0x2A piMerge core.val s)
/-- PLAN_DUMP -/
def execPlanDump (core : Fin 8) (s : State) : Host.Outcome State Fault Refusal := .next (svyExec 0x2B piDump core.val s)
/-- PLAN_MARK -/
def execPlanMark (core : Fin 8) (s : State) : Host.Outcome State Fault Refusal := .next (svyExec 0x30 piMark core.val s)
/-- PLAN_WAITMARK -/
def execPlanWaitmark (core : Fin 8) (s : State) : Host.Outcome State Fault Refusal := .next (svyExec 0x31 piWaitmark core.val s)
/-- PLAN_WAITIDX -/
def execPlanWaitidx (core : Fin 8) (s : State) : Host.Outcome State Fault Refusal := .next (svyExec 0x32 piWaitidx core.val s)
/-- PLAN_STEP -/
def execPlanStep (core : Fin 8) (s : State) : Host.Outcome State Fault Refusal := .next (svyExec 0x38 piStep core.val s)
/-- PLAN_FENCE -/
def execPlanFence (core : Fin 8) (s : State) : Host.Outcome State Fault Refusal := .next (svyExec 0x39 piFence core.val s)
/-- PLAN_COMMIT -/
def execPlanCommit (core : Fin 8) (s : State) : Host.Outcome State Fault Refusal := .next (svyExec 0x3A piCommit core.val s)
/-- PLAN_ABORT -/
def execPlanAbort (core : Fin 8) (s : State) : Host.Outcome State Fault Refusal := .next (svyExec 0x3B piAbort core.val s)
/-- PLAN_HALT -/
def execPlanHalt (core : Fin 8) (s : State) : Host.Outcome State Fault Refusal := .next (svyExec 0x3F piHalt core.val s)

end Sys2Proof.Machine
end

