-- ==== Sys2Proof/Machine/Flow.lean ====
section
/-!
DEFINITION. What binds the data path from staging to accumulation: the passes of a staged sub-block, the waymarks that travel with it, and the
block close (R145, R146, R215, R249 to R251, R284, R297).
-/

namespace Sys2Proof.Machine

/-! ### Waymarks between staging and accumulation (R59, R194) -/

/-- Does XAR store the waymark until it acts on it? -/
def xarStores (kind : Nat) : Bool := kind = wWSWAP || kind = wPROBE

/-- A waymark comes to the arrays ahead of the data of spectrum `pos`: stored if the arrays act on it, late if its spectrum has passed
(R57), otherwise handed on. -/
def xarArrive (pos : Nat) (w : Waymark) (s : State) : State :=
  if !(xarStores w.kind) then passMark uXAR w s
  else
    let now := w.anchor = nowAnchor
    let late := !now && decide (specOf s w.anchor < pos)
    let w := if now then { w with anchor := pos * stgHop s }
      else if late then { w with anchor := pos * stgHop s, flags := w.flags ||| 8 } else w
    let s := if late then logOpen uXAR 0 .warn (w.anchor % 2 ^ 32) (w.anchor / 2 ^ 32) s else s
    setHeld uXAR (heldBy s uXAR ++ [w]) s

/-- Apply the waymarks held at the arrays whose spectrum lies before `pos` and hand them on (R56). -/
def xarDue (pos : Nat) (s : State) : State :=
  if pos = 0 then s else applyDue uXAR ((pos - 1) * stgHop s) xarApply s

/-- Waymarks that leave staging with the data of the spectra before `pos`. -/
def marksLeaving (s : State) (pos : Nat) : List Waymark := (s.stg.outMarks.filter (fun x => decide (x.1 < pos))).map (·.2)

/-! ### Passes of a sub-block (R188, R191, R193, R250, R251) -/

/-- May a beam tile of row block `u` be formed: the format and the weight source permit it? -/
def beamTileOk (s : State) (b : SubBuf) (u : Nat) : Bool := b.fmt ≠ 1 && (s.rf XAR_BASIC_WSRC = 0 || decide (u < 16))

/-- The passes of operation `o` on a staged sub-block. -/
def opPasses (s : State) (b : SubBuf) (o : TileOp) : List Pass :=
  let r := planRegion s o.plan
  let mk (u v : Nat) (beam last : Bool) : Pass :=
    { op := o.id, cls := o.cls, idx := r.index b.c u v, n := b.n, c := b.c, k := b.k, u := u, v := v, base := o.base, beam := beam
      last := last, waited := false }
  if o.beam then
    (rangeFrom o.row o.rows).flatMap (fun u =>
      if beamTileOk s b u then (List.range (stgQ s / 32)).map (fun v => mk u v true true) else [])
  else r.positions.map (fun x => mk x.1 x.2 false (decide (b.k + 1 = stgB s / stgQ s)))

/-- Does operation `o` name a beam tile that the arrays refuse on this sub-block? -/
def opRefused (s : State) (b : SubBuf) (o : TileOp) : Bool :=
  o.beam && (rangeFrom o.row o.rows).any (fun u => !(beamTileOk s b u))

/-- The issued operations that cover a sub-block. -/
def opsOver (s : State) (b : SubBuf) : List TileOp := s.atl.ops.filter (fun o => opCovers s o b.n b.c b.k)

/-- List the passes of a staged sub-block in declared order, and the beam steps it begins. -/
def addPasses (b : SubBuf) (s : State) : State :=
  let ops := opsOver s b
  let new := (ops.flatMap (opPasses s b)).mergeSort (fun x y => decide ((s.desc x.idx).order ≤ (s.desc y.idx).order))
  let steps := (ops.filter (·.beam)).map (fun o => (⟨o.id, b.n, b.c, b.k, false, false⟩ : BeamStep))
  let s := { s with atl := { s.atl with passes := s.atl.passes ++ new, steps := s.atl.steps ++ steps } }
  foldS (fun o t => if opRefused t b o then raise EV_XAR_CFG_REFUSED 0x18 cCONFLICT t else t) ops s

/-- Is the sub-block the last of operation `o`, or of a step of it? -/
def opLast (s : State) (b : SubBuf) (o : TileOp) : Bool :=
  o.beam || (b.c + 1 = o.lo + o.n && (b.n * stgB s + (b.k + 1) * stgQ s = o.endSpec s))

/-- The completion waymarks that leave with a sub-block (R284). -/
def completionMarks (b : SubBuf) (s : State) : State :=
  foldS (fun (o : TileOp) t => passMark uXAR
    { kind := wSTEP, flags := 0, scope := 0x1000 + o.plan, anchor := (b.n * stgB t + b.k * stgQ t) * stgHop t
      arg := o.id % 65536 + 65536 * o.step } t)
    ((opsOver s b).filter (opLast s b)) s

/-- The reduction taps of the plans whose operations read a sub-block (R215). -/
def reduceAll (b : SubBuf) (s : State) : State :=
  let ops := opsOver s b
  foldS (fun p t => accReduce p (ops.any (fun o => o.plan = p && !o.beam)) b t)
    ((ops.map (·.plan)).eraseDups.filter (planEn s)) s

/-- The voids of the block being read, as its summaries have them now (R212). -/
def notesOf (n : Nat) (s : State) : State :=
  let row := blockRow s n
  foldS (fun p t => noteBlock p row t) (enPlans s) s

/-- Legends of beam blocks that may now be due (R297). -/
def legendsDue (n : Nat) (s : State) : State := foldS (fun p t => beamLegend p n t) ((enPlans s).filter (planBeam s)) s

/-- SUB_BLOCK_STAGE: staging reads the next sub-block and hands it to the arrays; a full store of waymarks at the arrays holds it (R58). -/
def subBlockStage (s : State) : State :=
  let first := s.stg.rChan = 0
  let pos := s.stg.rBlk * stgB s + s.stg.rSub * stgQ s
  let next := pos + stgQ s
  let ws := if first then marksLeaving s next else []
  if !(stgCanStage s) || markBlocked s uXAR || decide (64 < (heldBy s uXAR).length + (ws.filter (fun w => xarStores w.kind)).length) then s
  else
    let s := if first then { s with stg := { s.stg with outMarks := s.stg.outMarks.filter (fun x => decide (next ≤ x.1)) } } else s
    let s := foldS (fun w t => xarArrive pos w t) ws s
    let (b, s) := stageData s
    let s := if first then notesOf b.n s else s
    let s := addPasses b { s with stg := { s.stg with bufs := s.stg.bufs ++ [b] } }
    let s := completionMarks b (reduceAll b s)
    let s := stgAdvance (freeBufs s)
    if s.stg.rBlk = b.n then s else legendsDue b.n s

/-- A fill that ends applies the WSWAPs before its last column first, so that each column has its own bank (R194, R195). -/
def fillEnd (a : Nat) (parity : Option (Nat × Nat)) (s : State) : State :=
  match (s.arr a).fill with
  | none => s
  | some w => passFillEnd a parity (xarDue (w.pass.n * stgB s + w.pass.k * stgQ s + (if w.pass.beam then 32 * (w.pass.v + 1) else 0)) s)

/-- Close a block by `f`, counting it for placement statistics (R249). -/
def closing (f : State → State) (s : State) : State :=
  let n := s.stg.nclose
  let t := f s
  if t.stg.nclose = n then t else statsBlock n t

/-! ### Meanings -/

/-- SUB_BLOCK_STAGE -/
def execSubBlockStage (s : State) : Host.Outcome State Fault Refusal := .next (subBlockStage s)
/-- BLOCK_CLOSE -/
def execBlockClose (s : State) : Host.Outcome State Fault Refusal := .next (closing blockClose s)
/-- CLOSE_TIMEOUT -/
def execCloseTimeout (s : State) : Host.Outcome State Fault Refusal := .next (closing closeTimeout s)
/-- PASS_DISPATCH -/
def execPassDispatch (desc : Fin 3) (corr : Nat) (ue : List (Fin 1024)) (s : State) : Host.Outcome State Fault Refusal :=
  .next (passDispatch desc.val corr (ue.map (·.val)) s)
/-- PASS_FILL_END -/
def execPassFillEnd (array : Fin 80) (parity : Option (Fin 4096 × Fin 4096)) (s : State) : Host.Outcome State Fault Refusal :=
  .next (fillEnd array.val (parity.map (fun x => (x.1.val, x.2.val))) s)

end Sys2Proof.Machine
end

