-- ==== Sys2Proof/Machine/Mem.lean ====
section
/-! DEFINITION. The memory stacks (MEM): scheduling, refresh, self-refresh, training, retirement, errors and scrub (R336 to R355). -/

namespace Sys2Proof.Machine

/-! ### Stacks -/

def stackField (k : Nat) : Field := if k = 0 then MEM_STATE_STACK0 else MEM_STATE_STACK1
/-- State code of a stack (Table 14.7). -/
def stackSt (s : State) (k : Nat) : Nat := s.rf (stackField k)
def setStack (k n : Nat) (s : State) : State := s.wf (stackField k) n
def smACTIVE : Nat := 0
def smENTERING : Nat := 1
def smSELF : Nat := 2
def smEXITING : Nat := 3
def smTRAINING : Nat := 4

/-- Stack of a presented address. -/
def stackAt (s : State) (a : Nat) : Nat := stackOf (pcOf (hbmPhys s a))

def hostEntry (s : State) (k : Nat) : Bool := sget false s.mem.hostSr k
def setHostEntry (k : Nat) (b : Bool) (s : State) : State := { s with mem := { s.mem with hostSr := sset false s.mem.hostSr k b } }

/-! ### Requests (R338 to R340) -/

/-- Bank queues of a pseudo-channel, by bank. -/
def bankKey (pc b : Nat) : Nat := pc * 64 + b
def bankQueue (s : State) (pc b : Nat) : List HbmQ := sget [] s.mem.queues (bankKey pc b)
def setBankQueue (pc b : Nat) (l : List HbmQ) (s : State) : State :=
  { s with mem := { s.mem with queues := sset [] s.mem.queues (bankKey pc b) l } }

/-- Give the answers of port `p` that are next in its order (R340). -/
def giveAnswers (p : Nat) : Nat → State → State
  | 0, s => s
  | fuel + 1, s =>
    match sget [] s.mem.order p with
    | [] => s
    | t :: rest =>
      match s.mem.ready.find? (fun x => x.1 = t) with
      | none => s
      | some (_, r) =>
        giveAnswers p fuel { s with mem := { s.mem with
          order := sset [] s.mem.order p rest, ready := s.mem.ready.filter (fun x => decide (x.1 ≠ t)), resp := (t, r) :: s.mem.resp } }

/-- A request reaches a stack (R343): an entry before its commit point is abandoned, and self-refresh is left. -/
def wakeStack (port k : Nat) (s : State) : State :=
  match stackSt s k with
  | 1 => raise EV_MEM_SR_ABANDONED k port ((setStack k smACTIVE s).inc MEM_CNT_SR_ABANDON 1)
  | 2 => setStack k smEXITING s
  | _ => s

/-- Requests come to the inputs: a decode error is answered at once (R337), and one that finds its stack away waits through the exit (R344). -/
def present (r : HbmReq) (s : State) : State :=
  let p := r.port.val
  let t := s.mem.nextTag
  let s := { s with mem := { s.mem with nextTag := t + 1 } }
  if !(hbmExists s r.addr) then { s with mem := { s.mem with resp := (t, none) :: s.mem.resp } }
  else
    let k := stackAt s r.addr
    let s := wakeStack p k s
    let s := if stackSt s k = smEXITING then s.inc MEM_CNT_SR_WAIT 1 else s
    { s with mem := { s.mem with waiting := s.mem.waiting ++ [r] } }

/-- The oldest request waiting at the input of port `p`. -/
def inputHead (s : State) (p : Nat) : Option HbmReq := s.mem.waiting.find? (fun r => r.port.val = p)

/-- May pseudo-channel `pc` accept the head of port `p`: it is for the pseudo-channel, its stack is active and its bank queue has room? -/
def acceptable (s : State) (pc p : Nat) : Bool :=
  match inputHead s p with
  | some r =>
    let a := hbmPhys s r.addr
    pcOf a = pc && stackSt s (stackOf pc) = smACTIVE && decide ((bankQueue s pc (bankOf a)).length < 8)
  | none => false

/-- Accept a request: accesses to a unit take effect in the order of acceptance (R340). -/
def acceptReq (r : HbmReq) (s : State) : State :=
  let p := r.port.val
  let a := hbmPhys s r.addr
  let t := s.mem.nextTag
  let s := { s with mem := { s.mem with nextTag := t + 1, waiting := s.mem.waiting.erase r, portPtr := sset 0 s.mem.portPtr (pcOf a) ((p + 1) % 8) } }
  let q (d : Option (List Byte)) (s : State) : State :=
    setBankQueue (pcOf a) (bankOf a) (bankQueue s (pcOf a) (bankOf a)
      ++ [{ port := p, write := r.write, unit := r.addr / 64, row := rowOf a, tag := t, data := d }]) s
  if r.write then
    let (ok, s) := writeUnit p r.addr r.data s
    q (some []) { s with mem := { s.mem with resp := (t, if ok then some [] else none) :: s.mem.resp } }
  else
    let (d, s) := readUnit p r.addr r.len s
    q d { s with mem := { s.mem with order := sset [] s.mem.order p (sget [] s.mem.order p ++ [t]) } }

/-- HBM_REQUEST: the pseudo-channel takes the first port at or after its pointer that presents a request it can accept (R338). -/
def hbmRequest (pc : Nat) (presented : List HbmReq) (s : State) : State :=
  let s := foldS present presented s
  let ptr := sget 0 s.mem.portPtr pc
  match ((List.range 8).map (fun i => (ptr + i) % 8)).find? (acceptable s pc) with
  | some p => (match inputHead s p with | some r => acceptReq r s | none => s)
  | none => s

/-! ### Command slots and refresh (R339, R341) -/

def refreshOwed (s : State) (pc b : Nat) : Nat := sget 0 s.mem.refDue (bankKey pc b)

/-- Issue the head of a bank. -/
def issueHead (pc b : Nat) (s : State) : State :=
  match bankQueue s pc b with
  | [] => s
  | q :: rest =>
    let was := sget 0 s.mem.dir pc
    let d := b2n q.write
    let n := if was % 2 = d then was / 2 + 1 else 1
    let s := setBankQueue pc b rest s
    let s := { s with mem := { s.mem with
      dir := sset 0 s.mem.dir pc (2 * n + d), bankPtr := sset 0 s.mem.bankPtr pc ((b + 1) % 64)
      openRow := sset 0 s.mem.openRow (bankKey pc b) (q.row + 1) } }
    if q.write then s
    else
      let s := { s with mem := { s.mem with ready := s.mem.ready ++ [(q.tag, q.data)] } }
      giveAnswers q.port (s.mem.ready.length + 1) s

/-- HBM_COMMAND_SLOT: `open_` are the banks whose head can issue under the stack's timing. -/
def commandSlot (pc : Nat) (open_ : List Nat) (s : State) : State :=
  if stackSt s (stackOf pc) ≠ smACTIVE then s
  else
    match (List.range 64).find? (fun b => decide (0 < refreshOwed s pc b)) with
    | some b =>
      { s with mem := { s.mem with
          refDue := sset 0 s.mem.refDue (bankKey pc b) (refreshOwed s pc b - 1), openRow := sset 0 s.mem.openRow (bankKey pc b) 0 } }
    | none =>
      let was := sget 0 s.mem.dir pc
      let ptr := sget 0 s.mem.bankPtr pc
      let order := (List.range 64).map (fun i => (ptr + i) % 64)
      let pick (d : Nat) : Option Nat := order.find? (fun b => open_.contains b &&
        (match bankQueue s pc b with | q :: _ => decide (b2n q.write = d) | [] => false))
      let d := was % 2
      let (x, y) := if 64 ≤ was / 2 then (pick (1 - d), pick d) else (pick d, pick (1 - d))
      match x, y with
      | some b, _ => issueHead pc b s
      | none, some b => issueHead pc b s
      | none, none => s

/-- REFRESH_DUE: the next bank's refresh; none is postponed by more than 4 intervals, and a stack in self-refresh refreshes itself. -/
def refreshDue (pc : Nat) (s : State) : State :=
  let b := sget 0 s.mem.refNext pc
  if stackSt s (stackOf pc) = smSELF || decide (4 ≤ refreshOwed s pc b) then s
  else
    { s with mem := { s.mem with
        refDue := sset 0 s.mem.refDue (bankKey pc b) (refreshOwed s pc b + 1), refNext := sset 0 s.mem.refNext pc ((b + 1) % 64) } }

/-- STACK_TEMP_REPORT (R341): STACK_HOT as the report reaches 95 °C. -/
def stackTemp (k t : Nat) (s : State) : State :=
  let was := s.rf (MEM_STACK_STATUS_TEMP k)
  let s := (s.wf (MEM_STACK_STATUS_TEMP k) t).wf (MEM_STACK_STATUS_REFRESH_X2 k) (b2n (decide (85 ≤ t)))
  if 95 ≤ t && was < 95 then raise EV_MEM_STACK_HOT k t s else s

/-! ### Self-refresh (R342 to R344) -/

/-- Has the stack nothing queued or waiting? -/
def stackIdle (s : State) (k : Nat) : Bool :=
  s.mem.queues.all (fun x => decide (stackOf (x.1 / 64) ≠ k)) && !(s.mem.waiting.any (fun r => stackAt s r.addr = k))

/-- A host entry of stack `k`: at once, or once an exit or a training has ended. -/
def srEnter (k : Nat) (s : State) : State :=
  let s := setHostEntry k true s
  if stackSt s k = smACTIVE then setStack k smENTERING s else s

/-- A host exit of stack `k`, which cancels a host entry that has not committed. -/
def srExit (k : Nat) (s : State) : State :=
  let host := hostEntry s k
  let s := setHostEntry k false s
  match stackSt s k with
  | 1 => if host then setStack k smACTIVE s else s
  | 2 => setStack k smEXITING s
  | _ => s

/-- SR_IDLE_TIMEOUT: the stack has had no request for its idle time (R342, R343). -/
def srIdle (k : Nat) (s : State) : State :=
  if stackSt s k = smACTIVE && stackIdle s k && (s.rf MEM_BASIC_AUTO_SR = 1 || hostEntry s k || s.mode = mSTANDBY) then setStack k smENTERING s
  else s

/-- The entry completes once the queues are empty (Table 14.2). -/
def srEntered (k : Nat) (s : State) : State :=
  if stackSt s k = smENTERING && stackIdle s k then setHostEntry k false (setStack k smSELF s) else s

/-- The exit completes; `wait` is what it added to the requests that waited, at most 1,600 ns (R344). -/
def srExited (k wait : Nat) (s : State) : State :=
  if stackSt s k ≠ smEXITING then s
  else
    let waited := s.mem.waiting.any (fun r => stackAt s r.addr = k)
    let s := if waited && decide (s.reg MEM_SR_WAIT_MAX < wait) then s.setReg MEM_SR_WAIT_MAX wait else s
    let s := setStack k smACTIVE s
    if hostEntry s k && !waited then setStack k smENTERING s else s

/-! ### Training (R345 to R347, R349) -/

def pcState (s : State) (n : Nat) : Nat := s.rf (MEM_PC_STATUS_STATE n)

/-- Does a margin, time in [7:0] and voltage in [15:8], meet `MEM_TRAIN_MIN`? -/
def marginMeets (s : State) (m : Nat) : Bool :=
  decide (s.rf MEM_TRAIN_MIN_TIME ≤ bits m 0 8) && decide (s.rf MEM_TRAIN_MIN_VOLT ≤ bits m 8 8)

def noteTemp (n : Nat) (s : State) : State :=
  { s with mem := { s.mem with lastTemp := sset 0 s.mem.lastTemp n (s.rf (MEM_STACK_STATUS_TEMP (stackOf n))) } }

/-- Take margin `m` as pseudo-channel `n`'s benchmark setting. -/
def setBench (n m : Nat) (s : State) : State :=
  ({ s with mem := { s.mem with bench := sins s.mem.bench n m } }.setReg (MEM_PC_MARGIN n) (m % 65536)).wf (MEM_PC_STATUS_BENCHMARK n) 1

/-- The outcome of a full training of pseudo-channel `n` with best margin `m` (R345). -/
def trainPc (n m : Nat) (s : State) : State :=
  let s := noteTemp n s
  if marginMeets s m then (setBench n m s).wf (MEM_PC_STATUS_STATE n) 0
  else
    match s.mem.bench.find? (fun x => x.1 = n) with
    | some (_, b) => atlDegraded n ((s.wf (MEM_PC_STATUS_STATE n) 1).setReg (MEM_PC_MARGIN n) (b % 65536))
    | none => raise EV_MEM_TRAIN_FAILED n 0 (atlDegraded n (s.wf (MEM_PC_STATUS_STATE n) 2))

/-- The pseudo-channels that a full training takes: all but a retired one, and that one where its restoration waits for training (R345, R348). -/
def trainSet (s : State) : List Nat :=
  (List.range 64).filter (fun n => s.mem.retired ≠ some n || s.mem.restore = some n)

/-- TRAIN: full training of every pseudo-channel begins. -/
def trainStart (s : State) : State :=
  setStack 1 smTRAINING (setStack 0 smTRAINING { s with mem := { s.mem with training := trainSet s } })

/-- A full training of pseudo-channel `n` ends; the stack is active again once its last one has. -/
def trainDone (n m : Nat) (s : State) : State :=
  if !(s.mem.training.contains n) then s
  else
    let s := trainPc n m { s with mem := { s.mem with training := s.mem.training.erase n } }
    let k := stackOf n
    let s := if s.mem.training.any (fun x => stackOf x = k) then s else setStack k (if hostEntry s k then smENTERING else smACTIVE) s
    if s.mem.restore = some n && marginMeets s m && s.mode = mCALIBRATE then
      { s with mem := { s.mem with restore := none, copy := some (n, true) } }
    else s

/-- RETRAIN_DUE of pseudo-channel `n` (R346). -/
def retrainDue (n : Nat) (s : State) : State :=
  if s.rf MEM_BASIC_RETRAIN_EN = 0 || pcState s n = 2 || s.mem.retired = some n || s.rf (MEM_PC_STATUS_RETRAINING n) = 1 then s
  else (s.wf (MEM_PC_STATUS_RETRAINING n) 1).wf (MEM_PC_STATUS_STEP n) 0

/-- RETRAIN_STEP of pseudo-channel `n`: reads the stack's error-check count; the 16th step decides on the best margin found. -/
def retrainStep (n count m : Nat) (s : State) : State :=
  if s.rf (MEM_PC_STATUS_RETRAINING n) = 0 || stackSt s (stackOf n) = smSELF then s
  else
    let k := s.rf (MEM_PC_STATUS_STEP n)
    let s := s.setReg (MEM_PC_ODECC n) count
    if k < 15 then s.wf (MEM_PC_STATUS_STEP n) (k + 1)
    else
      let s := noteTemp n (((s.wf (MEM_PC_STATUS_RETRAINING n) 0).wf (MEM_PC_STATUS_STEP n) 0).inc (MEM_PC_CNT_RETRAIN n) 1)
      if marginMeets s m then
        let was := pcState s n
        let s := (setBench n m s).wf (MEM_PC_STATUS_STATE n) 0
        if was = 1 then raise EV_MEM_TRAIN_RESTORED n (m % 65536) s else s
      else atlDegraded n (raise EV_MEM_RETRAIN_FAILED n (m % 65536) (s.wf (MEM_PC_STATUS_STATE n) 1))

/-! ### Retirement (R348) -/

/-- The first cause for which GO is refused. -/
def retireCause (n : Nat) (s : State) : Option Nat :=
  if s.mode ≠ mREADY && s.mode ≠ mCALIBRATE then some cMODE
  else if s.mem.retired.isSome || s.mem.copy.isSome then some cSTATE
  else if !(pagesOn s n).isEmpty then some cINUSE
  else if decide (0 < bits (s.reg ATL_PAGE_COUNT) 0 24) && decide (spareBase < pageBase s + 8192 * bits (s.reg ATL_PAGE_COUNT) 0 24) then some cCONFLICT
  else none

/-- `MEM_RETIRE`. -/
def retireWrite (v : Nat) (s : State) : WOut :=
  let n := bits v 0 6
  let s0 := s
  let go (s : State) : WOut :=
    if !(bit v 8) then acc s
    else
      match retireCause n s with
      | some c => refuse uMEM 0x148 c s0
      | none => acc { s with mem := { s.mem with copy := some (n, false) } }
  let ab (s : State) : State := if bit v 9 then { s with mem := { s.mem with copy := none, restore := none } } else s
  let rs (s : State) : WOut :=
    if !(bit v 10) then acc s
    else if s.mode ≠ mREADY && s.mode ≠ mCALIBRATE then refuse uMEM 0x148 cMODE s0
    else if s.mem.retired ≠ some n || s.mem.copy.isSome then refuse uMEM 0x148 cSTATE s0
    else acc { s with mem := { s.mem with restore := some n } }
  let r := go (s.wf MEM_RETIRE_PC n)
  if r.ok then rs (ab r.st) else r

/-- Rebuild a sparse map from its entries. -/
def rebuild {α : Type} [DecidableEq α] (d : α) (l : List (Nat × α)) : List (Nat × α) := foldS (fun (x : Nat × α) m => sset d m x.1 x.2) l []

/-- The physical address in `n` of the granule that a spare address holds while `n` is retired, if it holds one. -/
def granuleOf (n a : Nat) : Option Nat :=
  let g := a / 2 ^ 19
  let j := a / 8192 % 64
  let skip := n ^^^ (g / 8 % 64)
  if g < 129024 || j = skip then none
  else
    let k := (g - 129024) * 63 + (if j < skip then j else j - 1)
    some (k * 2 ^ 19 + (n ^^^ (k / 8 % 64)) * 8192 + a % 8192)

/-- Move the granules of `n` to the spare area: bytes and check marks; those of a DEAD pseudo-channel become zero with valid check bits. -/
def fillSpare (n : Nat) (s : State) : State :=
  let spare (a : Nat) : Bool := decide (spareBase ≤ a) && decide (pcOf a ≠ n)
  let mine (a : Nat) : Bool := decide (a < spareBase) && pcOf a = n
  let dead := pcState s n = 2
  let cells := s.hbm.filter (fun c => !(spare c.1))
  let new := if dead then [] else (s.hbm.filter (fun c => mine c.1)).map (fun c => (spareOf n c.1, c.2))
  let marks := s.mem.ecc.filter (fun e => !(spare (64 * e.1)))
  let bad := if dead then [] else (s.mem.ecc.filter (fun e => mine (64 * e.1) && decide (2 ≤ e.2))).map (fun e => (spareOf n (64 * e.1) / 64, 2))
  { s with hbm := rebuild 0#8 (cells ++ new), mem := { s.mem with ecc := rebuild 0 (marks ++ bad) } }

/-- Move the spare granules back to `n`. -/
def emptySpare (n : Nat) (s : State) : State :=
  let mine (a : Nat) : Bool := decide (a < spareBase) && pcOf a = n
  let cells := s.hbm.filter (fun c => !(mine c.1))
  let new := s.hbm.filterMap (fun c => (granuleOf n c.1).map (fun a => (a, c.2)))
  let marks := s.mem.ecc.filter (fun e => !(mine (64 * e.1)))
  let bad := s.mem.ecc.filterMap (fun e => if 2 ≤ e.2 then (granuleOf n (64 * e.1)).map (fun a => (a / 64, 2)) else none)
  { s with hbm := rebuild 0#8 (cells ++ new), mem := { s.mem with ecc := rebuild 0 (marks ++ bad) } }

/-- RETIRE_COMMIT: the last copy has ended and the mapping switches. -/
def retireCommit (s : State) : State :=
  match s.mem.copy with
  | none => s
  | some (n, false) =>
    let s := fillSpare n s
    raise EV_MEM_PC_RETIRED n 0 (setExcl n true { s with mem := { s.mem with copy := none, retired := some n } })
  | some (n, true) =>
    let s := emptySpare n s
    raise EV_MEM_PC_RETIRED n 1 (setExcl n false { s with mem := { s.mem with copy := none, retired := none } })

/-! ### Errors and scrub (R347, R350 to R353) -/

/-- CE_RATE_SECOND. -/
def ceSecond (s : State) : State :=
  let t := foldS (fun n t =>
    let k := sget 0 t.mem.ceSec n
    let t := t.setReg (MEM_PC_CE_RATE n) k
    if s.reg MEM_CE_THR % 65536 < k then raise EV_MEM_CE_RATE n k t else t) (List.range 64) s
  { t with mem := { t.mem with ceSec := [] } }

/-- Units that patrol scrub reads. -/
def scrubUnits (s : State) : Nat := if s.mem.retired.isSome then spareBase / 64 else hbmSize / 64

/-- The scrub position moves on; at the end of a pass it starts again. -/
def scrubNext (pos : Nat) (s : State) : State :=
  if pos + 1 < scrubUnits s then s.setReg MEM_SCRUB_POS (pos + 1)
  else
    let s := raise EV_MEM_SCRUB_DONE s.mem.scrubFix s.mem.scrubBad (s.setReg MEM_SCRUB_POS 0)
    { s with mem := { s.mem with scrubFix := 0, scrubBad := 0 } }

/-- PATROL_SCRUB: the next unit is read on P7. -/
def scrub (s : State) : State :=
  let pos := s.reg MEM_SCRUB_POS % 2 ^ 30
  let a := 64 * pos
  if s.rf MEM_BASIC_SCRUB_EN = 0 || stackSt s (stackAt s a) ≠ smACTIVE then s
  else if pcDead s a then scrubNext pos s
  else
    match eccOf s a with
    | 0 => scrubNext pos s
    | 1 => let s := countCe a s; scrubNext pos { s with mem := { s.mem with scrubFix := s.mem.scrubFix + 1 } }
    | m =>
      let s := countUe 7 (if m = 3 then 4 else 1) a s
      let s := raise EV_MEM_SCRUB_UE pos (pcOf (hbmPhys s a)) s
      scrubNext pos { s with mem := { s.mem with scrubBad := s.mem.scrubBad + 1 } }

/-- One failed command (R352). -/
def cmdFailed (f : CmdFail) (s : State) : State :=
  let p := f.port.val
  let lose (w : Bool) (s : State) : State :=
    { s with mem := { s.mem with queues := s.mem.queues.map (fun x =>
        (x.1, x.2.map (fun q => if q.unit = f.addr / 64 && q.port = p && q.write = w then { q with data := none } else q))) } }
  if !f.write then countUe p 3 f.addr (lose false s)
  else
    let s := lose true s
    if f.fence then
      let s := setEcc f.addr 3 s
      logUe { unit := f.addr / 64, port := p, source := 4, pc := pcOf (hbmPhys s f.addr) } s
    else setEcc f.addr 2 s

/-- CMD_PARITY_ERROR on pseudo-channel `pc`: `n` reissues, and the commands that failed them all. -/
def cmdParity (pc n : Nat) (fs : List CmdFail) (s : State) : State :=
  let s := foldS cmdFailed (fs.filter (fun f => hbmExists s f.addr)) (s.inc MEM_CNT_CMD_RETRY n)
  raise EV_MEM_CMD_ERR pc fs.length s

/-- UE_NEXT (R351, R355). -/
def ueNext (s : State) : State :=
  let s := { s with mem := { s.mem with log := s.mem.log.drop 1 } }
  if s.mem.log.isEmpty then s.wf MEM_UE_INFO_OVERFLOW 0 else s

/-! ### Registers (R355) -/

/-- `MEM_CTRL`. -/
def memCtrlWrite (v : Nat) (s : State) : WOut :=
  if bit v 0 && decide (s.mode ≠ mCALIBRATE) then refuse uMEM 0x100 cMODE s
  else if decide (bits v 1 2 ≠ 0) && !(s.mode = mREADY || s.mode = mCALIBRATE || s.mode = mSTANDBY) then refuse uMEM 0x100 cMODE s
  else
    let s := if bit v 0 then trainStart s else s
    let s := foldS (fun k t => if bit v (1 + k) then srEnter k t else t) [0, 1] s
    let s := foldS (fun k t => if bit v (3 + k) then srExit k t else t) [0, 1] s
    acc (if bit v 8 then ueNext s else s)

def memCounters (n : Nat) : List Nat := [MEM_PC_CNT_CE n, MEM_PC_CNT_UE n, MEM_PC_CNT_RETRAIN n]

def memCntClear (v : Nat) (s : State) : State :=
  if bit v 0 then
    s.zero ([MEM_UE_COUNT, MEM_CNT_SR_ABANDON, MEM_CNT_SR_WAIT, MEM_SR_WAIT_MAX, MEM_CNT_CMD_RETRY] ++ (List.range 64).flatMap memCounters)
  else s

/-- Writes of MEM registers that do more than store. -/
def memWrite (off v : Nat) (s : State) : Option WOut :=
  match off with
  | 0x100 => some (memCtrlWrite v s)
  | 0x10C => if bits v 0 16 < 60 then some (refuse uMEM off cRANGE s) else none
  | 0x114 => if v % 65536 = 0 then some (refuse uMEM off cRANGE s) else none
  | 0x134 => some (acc (memCntClear v s))
  | 0x148 => some (retireWrite v s)
  | _ => none

/-- Pseudo-channels that are DEGRADED or DEAD, from `lo` on, as a mask. -/
def degradedMask (s : State) (lo : Nat) : Nat := (List.range 32).foldl (fun a i => a + b2n (decide (pcState s (lo + i) ≠ 0)) * 2 ^ i) 0

/-- Reads of MEM registers whose value is derived. -/
def memRead (off : Nat) (s : State) : Option Nat :=
  match off with
  | 0x8 => some (b2n (stackSt s 0 = smSELF) + 2 * b2n (stackSt s 1 = smSELF) + 4 * b2n (decide (degradedMask s 0 + degradedMask s 32 ≠ 0)))
  | 0x120 => some (degradedMask s 0)
  | 0x124 => some (degradedMask s 32)
  | 0x12C => some (match s.mem.log with | e :: _ => e.unit | [] => 0)
  | 0x130 =>
    let e := match s.mem.log with | e :: _ => e.port + 8 * e.source + 256 * e.pc + 2 ^ 31 | [] => 0
    some (e + 2 ^ 30 * s.rf MEM_UE_INFO_OVERFLOW)
  | 0x148 => some ((match s.mem.retired with | some n => n + 65536 | none => s.rf MEM_RETIRE_PC) + 2 ^ 17 * b2n s.mem.copy.isSome)
  | _ => none

/-! ### Meanings -/

/-- HBM_REQUEST -/
def execHbmRequest (pc : Fin 64) (presented : List HbmReq) (s : State) : Host.Outcome State Fault Refusal := .next (hbmRequest pc.val presented s)
/-- HBM_COMMAND_SLOT -/
def execHbmCommandSlot (pc : Fin 64) (banks : List (Fin 64)) (s : State) : Host.Outcome State Fault Refusal :=
  .next (commandSlot pc.val (banks.map (·.val)) s)
/-- REFRESH_DUE -/
def execRefreshDue (pc : Fin 64) (s : State) : Host.Outcome State Fault Refusal := .next (refreshDue pc.val s)
/-- STACK_TEMP_REPORT -/
def execStackTempReport (stack : Fin 2) (temp : BitVec 8) (s : State) : Host.Outcome State Fault Refusal :=
  .next (stackTemp stack.val temp.toNat s)
/-- SR_IDLE_TIMEOUT -/
def execSrIdleTimeout (stack : Fin 2) (s : State) : Host.Outcome State Fault Refusal := .next (srIdle stack.val s)
/-- RETRAIN_DUE -/
def execRetrainDue (pc : Fin 64) (s : State) : Host.Outcome State Fault Refusal := .next (retrainDue pc.val s)
/-- RETRAIN_STEP -/
def execRetrainStep (pc : Fin 64) (count : Word) (margin : BitVec 16) (s : State) : Host.Outcome State Fault Refusal :=
  .next (retrainStep pc.val count.toNat margin.toNat s)
/-- CE_RATE_SECOND -/
def execCeRateSecond (s : State) : Host.Outcome State Fault Refusal := .next (ceSecond s)
/-- PATROL_SCRUB -/
def execPatrolScrub (s : State) : Host.Outcome State Fault Refusal := .next (scrub s)
/-- CMD_PARITY_ERROR -/
def execCmdParityError (pc : Fin 64) (reissues : Nat) (failed : List CmdFail) (s : State) : Host.Outcome State Fault Refusal :=
  .next (cmdParity pc.val reissues failed s)
/-- RETIRE_COMMIT -/
def execRetireCommit (s : State) : Host.Outcome State Fault Refusal := .next (retireCommit s)

end Sys2Proof.Machine
end

