-- ==== Sys2Proof/Machine/Mer.lean ====
section
/-! DEFINITION. The meridian (MER): references, selection, the loop, holdover and the output offsets (R356 to R371, R381). -/

namespace Sys2Proof.Machine

/-! ### Entries (R357 to R359) -/

def State.ref (s : State) (e : Nat) : RefSt := sget RefSt.blank s.mer.refs e
def State.setRef (e : Nat) (x : RefSt) (s : State) : State :=
  { s with mer := { s.mer with refs := sset RefSt.blank s.mer.refs e x } }
def refState (s : State) (e : Nat) : Nat := s.rf (MER_REF_STATUS_STATE e)
def selected (s : State) : Nat := s.rf MER_STATE_SELECTED
def loopSt (s : State) : Nat := s.rf MER_STATE_LOOP

/-! Loop states (Table 15.6). -/
def loFREERUN : Nat := 0
def loACQUIRE : Nat := 1
def loLOCKED : Nat := 2
def loHOLDOVER : Nat := 3

/-- Signed 32-bit value of a register. -/
def signedReg (s : State) (a : Nat) : Int := sext 32 (s.reg a)
def hoQual (s : State) : Bool := s.rf MER_STATUS_HO_QUALIFIED = 1
/-- The learned frequency y_L. -/
def yL (s : State) : Int := signedReg s MER_HO_FREQ
def prio (s : State) (e : Nat) : Nat := s.reg (MER_REF_PRIO e) % 16

/-- The frequency by which an entry is compared (R364, R365): OSC counts with y_L. -/
def freqOf (s : State) (e : Nat) : Int := if e = 5 then yL s else (s.ref e).mean

/-- Do two entries agree within `MER_AGREE`? -/
def entriesAgree (s : State) (a b : Nat) : Bool := decide ((freqOf s a - freqOf s b).natAbs ≤ s.reg MER_AGREE)

/-- The loop's state, also shown in `UNIT_STATUS`. -/
def setLoop (l : Nat) (s : State) : State := (s.wf MER_STATE_LOOP l).wf MER_STATUS_LOCKED (b2n (l = loLOCKED))

/-- The loop's bandwidth in use, kept in units of 2^-16 of 0.01 Hz. -/
def setBw (b : Nat) (s : State) : State := ({ s with mer := { s.mer with bw := b } }).setReg MER_BW (b / 65536)
def trackBw (s : State) : Nat := (s.reg MER_LOOP_CFG % 4096) * 65536

/-- An entry is disqualified at once (R359); a switch to it that has not committed is abandoned (R363). -/
def dqEntry (e cause : Nat) (s : State) : State :=
  let st := refState s e
  if st = 1 || st = 2 || st = 4 then
    let s := ((s.wf (MER_REF_STATUS_STATE e) 3).wf (MER_REF_STATUS_DQ_CAUSE e) cause).wf (MER_REF_STATUS_WTR_LEFT e) 0
    let s := s.setRef e { s.ref e with good := 0, wasDq := true }
    let s := match s.mer.switch with
      | some (a, _) => if a = e then { s with mer := { s.mer with switch := none } } else s
      | none => s
    raise EV_MER_REF_DISQUALIFIED e cause s
  else s

/-- The effective quality level of an entry (R358). -/
def effectiveQl (s : State) (e : Nat) : Nat :=
  if s.rf (MER_REF_CFG_QL_SRC e) = 0 then s.rf (MER_REF_CFG_QL_HOST e) else (s.ref e).qlIn

/-- Report a change of effective QL; one above MIN_QL disqualifies (R358, R359). -/
def updateQl (e : Nat) (s : State) : State :=
  let q := effectiveQl s e
  let s := if s.rf (MER_REF_STATUS_QL e) = q then s
    else raise EV_MER_QL_CHANGED e q (s.wf (MER_REF_STATUS_QL e) q)
  if e < 5 && decide (s.rf MER_SEL_CFG_MIN_QL < q) then dqEntry e 4 s else s

/-! ### The loop (R366, R367) -/

/-- The loop holds on the oscillator in HOLDOVER. -/
def enterHoldover (s : State) : State :=
  if loopSt s = loHOLDOVER then s
  else
    let s := setLoop loHOLDOVER (s.setReg MER_HO_TIME (s.reg MER_HO_TIME % 65536))
    raise EV_MER_HOLDOVER_ENTERED (selected s) (b2n (hoQual s)) s

/-- The loop holds on OSC: HOLDOVER once holdover is QUALIFIED, FREERUN before (R360). -/
def holdOnOsc (s : State) : State := if hoQual s then enterHoldover s else setLoop loFREERUN s

/-- Show `e` as the selected entry. -/
def setSelected (e : Nat) (s : State) : State :=
  let s := s.wf MER_STATE_SELECTED e
  foldS (fun i t => t.wf (MER_REF_STATUS_SELECTED i) (b2n (i = e))) (List.range 6) s

/-- Ask for a build-out offset before entry `e` drives the loop; `cause` 0 for an acquisition or a return, which reports no switch. -/
def askBuildout (e cause : Nat) (s : State) : State := { s with mer := { s.mer with switch := some (e, cause) } }

/-- Acquisition from FREERUN: 400 Hz (R366); once an EPOCH has set the index it latches a build-out offset. -/
def acquire (e : Nat) (s : State) : State :=
  let s := setBw (40000 * 65536) (setLoop loACQUIRE s)
  if s.rf MER_STATE_IDX_VALID = 1 then askBuildout e 0 s else s

/-- A return from HOLDOVER runs at the tracking bandwidth with build-out (R366). -/
def resume (e : Nat) (s : State) : State := askBuildout e 0 (setBw (trackBw s) (setLoop loACQUIRE s))

/-- The first selection (R361): it replaces no source. -/
def firstSelect (e : Nat) (s : State) : State :=
  let s := setSelected e { s with mer := { s.mer with waitAgree := false } }
  if e = 5 then holdOnOsc s else acquire e s

/-- Begin a switch to `e`; one to OSC needs no build-out. The causes are the rows of the table of R362. -/
def switchTo (e cause : Nat) (s : State) : State :=
  if e = 5 then
    let old := selected s
    let s := setSelected 5 { s with mer := { s.mer with switch := none } }
    raise EV_MER_REF_SWITCHED old (5 + 16 * (Config.openCause 0x0F03 cause).toNat) (if cause = 5 then holdOnOsc s else enterHoldover s)
  else askBuildout e cause s

/-! ### Selection (R360 to R362) -/

/-- Is an entry eligible for automatic selection (R360)? -/
def eligible (s : State) (e : Nat) : Bool :=
  decide (prio s e ≠ 0) && (e = 5 || (refState s e = 2 && s.rf (MER_REF_STATUS_DRIFT_HARD e) = 0))

/-- What a pick among the eligible entries gives: none, one entry, or two of the best rank that disagree. -/
inductive Pick where
  | none
  | one (e : Nat)
  | disagree (a b : Nat)
  deriving DecidableEq, Repr

/-- The best eligible entry among `es` (R361); of several that agree, the one of lowest code (log entry 37). -/
def pick (s : State) (es : List Nat) : Pick :=
  let el := es.filter (eligible s)
  let best := el.foldl (fun a e => min a (prio s e)) 16
  let top := el.filter (fun e => prio s e = best)
  match (top.flatMap (fun a => top.map (fun b => (a, b)))).find? (fun (x : Nat × Nat) => decide (x.1 < x.2) && !entriesAgree s x.1 x.2) with
  | some (a, b) => .disagree a b
  | none => match top with | e :: _ => .one e | [] => .none

def allEntries : List Nat := [0, 1, 2, 3, 4, 5]
def freqDiff (s : State) (a b : Nat) : Nat := (freqOf s a - freqOf s b).natAbs

/-- An automatic switch under `cause` to the best of `es`; where its best rank disagrees, HOLDOVER (R362). -/
def autoSwitch (cause : Nat) (es : List Nat) (hold : Bool) (s : State) : State :=
  match pick s es with
  | .one e => switchTo e cause s
  | .none => if hold then enterHoldover s else s
  | .disagree a b =>
    if loopSt s = loHOLDOVER then s
    else raise EV_MER_DISAGREE (a + 16 * b) (freqDiff s a b) (enterHoldover s)

/-- Is an entry in a state in which it can drive the loop? -/
def usable (s : State) (e : Nat) : Bool := e = 5 || refState s e = 2 || refState s e = 4

/-- Rank of an entry: its priority, 16 for priority 0. -/
def rank (s : State) (e : Nat) : Nat := if prio s e = 0 then 16 else prio s e

/-- Apply R361 and R362 to the state of the entries. -/
def evalSelection (s : State) : State :=
  let sel := selected s
  let armed := s.rf MER_ARM_SWITCH = 1
  if sel = 7 then
    match pick s allEntries with
    | .one e => firstSelect e s
    | .none => s
    | .disagree a b =>
      if s.mer.waitAgree then s
      else raise EV_MER_DISAGREE (a + 16 * b) (freqDiff s a b) { s with mer := { s.mer with waitAgree := true } }
  else if s.mer.switch.isSome then s
  else if !(usable s sel) then
    if armed then autoSwitch 1 allEntries true s else enterHoldover s
  else
    let s := if sel < 5 && (loopSt s = loHOLDOVER || loopSt s = loFREERUN) then resume sel s else s
    if armed && sel < 5 && s.rf (MER_REF_STATUS_DRIFT_HARD sel) = 1 then
      autoSwitch 2 (allEntries.filter (fun e => decide (e ≠ sel))) false s
    else if armed && s.rf MER_SEL_CFG_REVERTIVE = 1 then
      autoSwitch 3 (allEntries.filter (fun e => decide (rank s e < rank s sel))) false s
    else s

/-- `MER_CTRL.SELECT` (R362): an entry that is QUALIFIED, in WTR or OSC. -/
def merSelect (e : Nat) (s : State) : WOut :=
  if 6 ≤ e then refuse uMER 0x100 cRANGE s
  else if !(usable s e) then refuse uMER 0x100 cSTATE s
  else if selected s = 7 then acc (firstSelect e s)
  else if selected s = e then acc { s with mer := { s.mer with switch := s.mer.switch.filter (fun x => x.1 = e) } }
  else acc (switchTo e 5 s)

/-- The commit point of a switch (R363): the build-out offset, in 2 ps steps, is latched. -/
def buildoutLatch (steps : Int) (s : State) : State :=
  match s.mer.switch with
  | none => s
  | some (e, cause) =>
    let s := { s with mer := { s.mer with switch := none, build := 2 * steps } }
    let s := (s.setReg64 MER_BUILDOUT_LO MER_BUILDOUT_HI (toU 40 steps)).wf MER_STATE_SLEWING 0
    if cause = 0 then s
    else
      let old := selected s
      let was := loopSt s
      let s := raise EV_MER_REF_SWITCHED old (e + 16 * (Config.openCause 0x0F03 cause).toNat) (setSelected e s)
      if was = loFREERUN then setBw (40000 * 65536) (setLoop loACQUIRE s)
      else if was = loHOLDOVER then setBw (trackBw s) (setLoop loACQUIRE s)
      else s

/-! ### Each second (R359, R364, R365, R367) -/

/-- Do the conditions of R359 hold for an entry over the second measured? -/
def companionOk (s : State) (e : Nat) (m : RefMeas) : Bool := e = 4 || s.rf (MER_REF_CFG_COMPANION e) = 0 || m.companion
def freqOk (s : State) (m : RefMeas) : Bool :=
  decide ((m.freq - (if hoQual s then yL s else 0)).natAbs ≤ (s.reg MER_QUAL_CFG % 256) * 1000000)

/-- Count a good second of an entry on its way to QUALIFIED. -/
def goodSecond (e : Nat) (s : State) : State :=
  let r := s.ref e
  let st := refState s e
  if st = 4 then
    let left := s.rf (MER_REF_STATUS_WTR_LEFT e) - 1
    let s := s.wf (MER_REF_STATUS_WTR_LEFT e) left
    if left = 0 then
      raise EV_MER_REF_QUALIFIED e (effectiveQl s e) ((s.wf (MER_REF_STATUS_STATE e) 2).setRef e { r with wasDq := false })
    else s
  else if st = 2 then s
  else
    let n := r.good + 1
    let s := (s.setRef e { r with good := n }).wf (MER_REF_STATUS_STATE e) 1
    if n < bits (s.reg MER_QUAL_CFG) 16 8 then s
    else
      let s := s.wf (MER_REF_STATUS_DQ_CAUSE e) 0
      if r.wasDq && decide (selected s ≠ e) && decide (s.rf MER_SEL_CFG_WTR ≠ 0) then
        (s.wf (MER_REF_STATUS_STATE e) 4).wf (MER_REF_STATUS_WTR_LEFT e) (s.rf MER_SEL_CFG_WTR)
      else
        raise EV_MER_REF_QUALIFIED e (effectiveQl s e) ((s.wf (MER_REF_STATUS_STATE e) 2).setRef e { s.ref e with wasDq := false })

/-- An entry that fails a condition: disqualified, unless it has shown nothing yet. -/
def badSecond (e cause : Nat) (s : State) : State :=
  if refState s e = 0 && cause = 1 then s
  else if refState s e = 0 then dqEntry e cause (s.wf (MER_REF_STATUS_STATE e) 1)
  else dqEntry e cause s

/-- One entry's second. -/
def refSecond (e : Nat) (m : RefMeas) (s : State) : State :=
  let s := updateQl e (s.setRef e { s.ref e with mean := m.mean })
  if !m.edges then badSecond e 1 s
  else if !(freqOk s m) then badSecond e 2 s
  else if !(companionOk s e m) then badSecond e 3 s
  else if s.rf MER_SEL_CFG_MIN_QL < effectiveQl s e then badSecond e 4 s
  else goodSecond e s

/-- One drift flag (R364): set above the limit, cleared below half of it, raised when set. -/
def driftFlag (f : Field) (ev : Ev) (e limit : Nat) (d : Int) (s : State) : State :=
  if s.rf f = 0 then
    if limit < d.natAbs then raise ev e (toU 32 d) (s.wf f 1) else s
  else if 2 * d.natAbs < limit then s.wf f 0 else s

/-- Frequency and drift of a QUALIFIED entry. -/
def refDrift (e : Nat) (s : State) : State :=
  if refState s e ≠ 2 then s
  else
    let y := (s.ref e).mean
    let s := s.setReg (MER_REF_FREQ e) (toU 32 (satS 32 y))
    if !(hoQual s) then s
    else
      let d := y - yL s
      let s := s.setReg (MER_REF_DRIFT e) (toU 32 (satS 32 d))
      driftFlag (MER_REF_STATUS_DRIFT_HARD e) EV_MER_DRIFT_HARD e (s.reg MER_DRIFT_HARD) d
        (driftFlag (MER_REF_STATUS_DRIFT_SOFT e) EV_MER_DRIFT_SOFT e (s.reg MER_DRIFT_SOFT) d s)

/-- Third sources that side with `a` against `b` (R365). -/
def sides (s : State) (a b : Nat) : Bool :=
  allEntries.any (fun c => decide (c ≠ a) && decide (c ≠ b) && ((c = 5 && hoQual s) || (decide (c < 5) && refState s c = 2))
    && entriesAgree s c a && !entriesAgree s c b)

/-- Two QUALIFIED entries of equal rank (R365): an episode of disagreement is reported once; an odd entry is disqualified where armed. -/
def disagreePair (a b : Nat) (s : State) : State :=
  let k := a * 8 + b
  let set (v : Bool) (t : State) : State := { t with mer := { t.mer with pairs := sset false t.mer.pairs k v } }
  if !(refState s a = 2 && refState s b = 2 && prio s a = prio s b) || entriesAgree s a b then set false s
  else
    let s := if sget false s.mer.pairs k then s else raise EV_MER_DISAGREE (a + 16 * b) (freqDiff s a b) (set true s)
    let odd := if sides s a b && !sides s b a then some (b, a) else if sides s b a && !sides s a b then some (a, b) else none
    match odd with
    | some (o, other) =>
      if s.rf MER_ARM_DISQ_ODD = 1 then
        let was := selected s = o
        let s := dqEntry o 5 s
        if was then switchTo other 4 s else s
      else s
    | none => s

def pairList : List (Nat × Nat) := (List.range 5).flatMap (fun a => ((List.range 5).filter (fun b => decide (a < b))).map (fun b => (a, b)))

/-- Every pair, and the DISAGREE flag of each entry. -/
def disagreements (s : State) : State :=
  let s := foldS (fun (x : Nat × Nat) t => disagreePair x.1 x.2 t) pairList s
  foldS (fun e t => t.wf (MER_REF_STATUS_DISAGREE e)
    (b2n (t.mer.pairs.any (fun x => x.1 / 8 = e || x.1 % 8 = e)))) (List.range 5) s

/-- The loop's second: learning while LOCKED, elapsed time in HOLDOVER, and the phase error (R367). -/
def loopSecond (y phase : Int) (s : State) : State :=
  let s := s.setReg MER_PHASE_ERR (toU 32 (satS 32 phase))
  let s := if loopSt s = loHOLDOVER then s else { s with mer := { s.mer with last := (y :: s.mer.last).take 10 } }
  if loopSt s = loHOLDOVER then
    let el := bits (s.reg MER_HO_TIME) 16 16
    s.setReg MER_HO_TIME (setBits (s.reg MER_HO_TIME) 16 16 (min 0xFFFF (el + 1)))
  else if loopSt s = loLOCKED && s.rf (MER_REF_STATUS_DRIFT_SOFT (selected s)) = 0 then
    let s := s.setReg MER_HO_TIME (setBits (s.reg MER_HO_TIME) 0 16 (min 0xFFFF (s.reg MER_HO_TIME % 65536 + 1)))
    let n := s.mer.learnN + 1
    let sum := s.mer.learnSum + y
    if n < 1200 then { s with mer := { s.mer with learnN := n, learnSum := sum } }
    else
      let m := rneDiv sum 1200
      let s := ({ s with mer := { s.mer with learnN := 0, learnSum := 0 } }).setReg MER_HO_FREQ (toU 32 (satS 32 m))
      if hoQual s then s else raise EV_MER_HO_QUALIFIED (toU 32 (satS 32 m)) 0 (s.wf MER_STATUS_HO_QUALIFIED 1)
  else s

/-- One second of a slew of the build-out offset to zero (R363). -/
def slewSecond (s : State) : State :=
  if s.rf MER_STATE_SLEWING = 0 then s
  else
    let step : Int := (s.reg MER_SLEW % 16384 : Nat)
    let b := if s.mer.build.natAbs ≤ step.natAbs then 0 else if 0 < s.mer.build then s.mer.build - step else s.mer.build + step
    let s := ({ s with mer := { s.mer with build := b } }).setReg64 MER_BUILDOUT_LO MER_BUILDOUT_HI (toU 40 (b / 2))
    if b = 0 then s.wf MER_STATE_SLEWING 0 else s

/-- `REF_SECOND`. -/
def refSeconds (ms : List (Nat × RefMeas)) (y phase : Int) (s : State) : State :=
  let s := foldS (fun (x : Nat × RefMeas) t => refSecond x.1 x.2 t) ms s
  let s := foldS refDrift (List.range 5) (updateQl 5 s)
  evalSelection (disagreements (slewSecond (loopSecond y phase s)))

/-- An entry shows no edge for 1 µs, or its companion's edge is absent or misplaced (R359). -/
def edgeLoss (e : Nat) (companion : Bool) (s : State) : State :=
  if companion && (e = 4 || s.rf (MER_REF_CFG_COMPANION e) = 0) then s
  else evalSelection (dqEntry e (if companion then 3 else 1) s)

/-- A step of the loop's bandwidth (R366), with the phase error in picoseconds. -/
def bwStep (phase : Int) (s : State) : State :=
  let b := s.mer.bw
  let t := trackBw s
  let next := if t < b then max t (b / 2) else min t (2 * b)
  match loopSt s with
  | 1 =>
    if b = t then
      if phase.natAbs < 1000 then raise EV_MER_LOCKED (selected s) (t / 65536) (setLoop loLOCKED s) else s
    else if b = 40000 * 65536 && decide (100000 ≤ phase.natAbs) then s
    else setBw next s
  | 2 => setBw next s
  | _ => s

/-! ### Registers -/

/-- Control address of offset `off` of unit `u` (R8). -/
def ctlAddr (u off : Nat) : Nat := u * 0x1000000 + off

/-- Divider of `SCLKn` from its DIV field. -/
def sclkDiv (d : Nat) : Nat := 2 ^ (d % 4)
/-- Do all enabled sample clock outputs lie between 100 MHz and 6.4 GHz (R368)? -/
def sclkOk (fs cfg : Nat) : Bool :=
  (List.range 4).all (fun n =>
    let b := bits cfg (8 * n) 8
    !(bit b 7) || (decide (100000 * sclkDiv b ≤ fs) && decide (fs ≤ 6400000 * sclkDiv b)))

/-- Is a REF_CFG value one that R358 and Table 15.6 permit for entry `e`? The cause of refusal otherwise. -/
def refCfgCause (e v : Nat) : Option Nat :=
  let comp := bits v 2 2
  let src := bits v 4 2
  if comp = 3 || src = 3 || decide (24 < bits v 16 5) then some cRANGE
  else if src = 1 && (decide (4 ≤ e) || decide (comp ≠ 2)) then some cCONFLICT
  else if src = 2 && decide (e ≠ 4) then some cCONFLICT
  else none

def refCfgMask : Nat := 0x1F073F

/-- `UNIT_BASIC` (R381). -/
def merBasicWrite (v : Nat) (s : State) : WOut :=
  let newCfg (e : Nat) : Nat := setBits (s.reg (MER_REF_CFG e)) 0 4 (v % 16)
  if bits v 2 2 = 3 then refuse uMER 0x18 cRANGE s
  else if (List.range 4).any (fun e => (refCfgCause e (newCfg e)).isSome) then refuse uMER 0x18 cCONFLICT s
  else
    let t := foldS (fun e u => u.setReg (MER_REF_CFG e) (newCfg e)) (List.range 4) (storeBits (UNIT_BASIC 15) 0xF1F v s)
    let t := t.wf MER_SEL_CFG_REVERTIVE (bits v 4 1)
    acc (foldS (fun n u =>
      if bit v (8 + n) then
        (u.setReg MER_SCLK_CFG (setBits (u.reg MER_SCLK_CFG) (8 * n) 8 0x80)).setReg MER_OUT_EN (u.reg MER_OUT_EN ||| (0x11 * 2 ^ n))
      else u) (List.range 4) t)

/-- `MER_FS` (R368). -/
def merFsWrite (v : Nat) (s : State) : WOut :=
  if v < 100000 || 6400000 < v then refuse uMER 0x140 cRANGE s
  else if s.mode ≠ mREADY && s.mode ≠ mCALIBRATE then refuse uMER 0x140 cMODE s
  else if s.mer.pend.isSome then refuse uMER 0x140 cSTATE s
  else if !(sclkOk v (s.reg MER_SCLK_CFG)) then refuse uMER 0x140 cCONFLICT s
  else acc ((s.setReg MER_FS v).wf MER_STATE_IDX_VALID 0)

/-- Offset in force of an output, in 2 ps steps (PPS 0 to 3, FRAME 4 to 7). -/
def offsetOf (s : State) (k : Nat) : Int := sget 0 s.mer.offs k

/-- A write of an output offset (R370): checked on the merged 40 bits, in force from the first edge at least 1 s later. -/
def offsetWrite (off v : Nat) (s : State) : WOut :=
  let k := (off - 0x200) / 8
  let a := ctlAddr uMER (off - off % 8)
  let lo := if off % 8 = 0 then v else s.reg a
  let hi := if off % 8 = 0 then s.reg (a + 4) else v % 256
  let z := sext 40 (lo + 2 ^ 32 * hi)
  if 250000000000 < z.natAbs then refuse uMER off cRANGE s
  else
    let s := (s.setReg a lo).setReg (a + 4) hi
    acc { s with mer := { s.mer with newOffs := (s.mer.newOffs.filter (fun x => decide (x.1 ≠ k))) ++ [(k, z, 2)] } }

/-- Is an activity of R488 under way that forbids an epoch? -/
def epochBusy (s : State) : Bool :=
  decide (s.rf CHN_STATE_STATE ≠ 0) || decide (s.reg STG_STATE % 4 ≠ 0) || decide (s.reg RSY_STATE % 4 ≠ 0)
    || s.svy.cores.any (fun x => decide (2 ≤ x.2.st) && decide (x.2.st ≤ 5))

/-- The label now. -/
def timSec (s : State) : Nat := s.reg64 TIM_SEC_LO TIM_SEC_HI

/-- The cause for which an epoch request at `label` is refused, `ns` nanoseconds before the next internal edge (R369, Table 15.9). -/
def epochCause (label ns : Nat) (s : State) : Option Nat :=
  if s.mode ≠ mREADY && s.mode ≠ mCALIBRATE then some 1
  else if s.rf TIM_STATE_NAMED = 0 then some 2
  else if label ≤ timSec s || (label - timSec s - 1) * 1000000000 + ns < 100000000 then some 3
  else if epochBusy s then some 4
  else none

/-- `MER_CTRL.EPOCH` (R369). -/
def merEpoch (ns : Nat) (s : State) : WOut :=
  let label := s.reg64 MER_EPOCH_SEC_LO MER_EPOCH_SEC_HI
  match epochCause label ns s with
  | some c => ⟨false, raise EV_MER_EPOCH_REFUSED c label s⟩
  | none => acc ({ s with mer := { s.mer with pend := some label } }.wf MER_STATE_EPOCH_PENDING 1)

/-- `MER_CTRL` (R362, R363, R369), `ns` nanoseconds before the next internal edge. -/
def merCtrlWrite (ns v : Nat) (s : State) : WOut :=
  let sel (s : State) : WOut := if bit v 0 then merSelect (bits v 4 3) s else acc s
  let a := sel s
  let s := if bit v 1 && decide (a.st.mer.build ≠ 0) then a.st.wf MER_STATE_SLEWING 1 else a.st
  let b := if bit v 2 then merEpoch ns s else acc s
  ⟨a.ok && b.ok, b.st⟩

/-- A write that stores where the register then holds a good value. -/
def merStore (off wmask : Nat) (good : Nat → Bool) (v : Nat) (s : State) : WOut :=
  if good (merged s (ctlAddr uMER off) wmask v) then acc (storeBits (ctlAddr uMER off) wmask v s) else refuse uMER off cRANGE s

/-- `MER_SCLK_CFG`: the clocks divide evenly. -/
def sclkWrite (v : Nat) (s : State) : WOut :=
  if sclkOk (s.reg MER_FS) (v &&& 0x83838383) then acc (storeBits MER_SCLK_CFG 0x83838383 v s) else refuse uMER 0x144 cCONFLICT s

/-- `MER_REF_CFG` of entry `e`. -/
def refCfgWrite (e v : Nat) (s : State) : WOut :=
  match refCfgCause e (merged s (MER_REF_CFG e) refCfgMask v) with
  | some c => refuse uMER (0x1000 + 0x20 * e) c s
  | none => acc (evalSelection (updateQl e (storeBits (MER_REF_CFG e) refCfgMask v s)))

/-- Writes of MER registers that do more than store, `ns` nanoseconds before the next internal edge. -/
def merWriteWith (ns off v : Nat) (s : State) : Option WOut :=
  if off = 0x18 then some (merBasicWrite v s)
  else if off = 0x100 then some (merCtrlWrite ns v s)
  else if off = 0x10C then some (merStore off 0xFFF (fun m => decide (1 ≤ m) && decide (m ≤ 4000)) v s)
  else if off = 0x114 then
    some (merStore off 0xFF00FF (fun m => decide (1 ≤ m % 256) && decide (m % 256 ≤ 100) && decide (1 ≤ bits m 16 8)) v s)
  else if off = 0x124 then some (merStore off 0x3FFF (fun m => decide (10 ≤ m) && decide (m ≤ 10000)) v s)
  else if off = 0x134 then some (merStore off 0x3FFF (fun m => decide (1 ≤ m) && decide (m ≤ 10000)) v s)
  else if off = 0x140 then some (merFsWrite v s)
  else if off = 0x144 then
    some (sclkWrite v s)
  else if off = 0x158 then some (merStore off 0xFFFFFFFF (fun m => decide (1 ≤ m)) v s)
  else if 0x200 ≤ off && off < 0x240 then some (offsetWrite off v s)
  else if 0x1000 ≤ off && off < 0x10C0 && off % 0x20 = 0 then
    some (refCfgWrite ((off - 0x1000) / 0x20) v s)
  else none

/-- Reads of MER registers whose value is derived. -/
def merRead (off : Nat) (s : State) : Option Nat :=
  if off = 0x150 then some (s.mer.idx % 2 ^ 32)
  else if off = 0x154 then some (s.mer.idx / 2 ^ 32 % 2 ^ 32)
  else none

/-! ### Commands -/

def execLoopBwStep (phase : Int) (s : State) : Host.Outcome State Fault Refusal := .next (bwStep phase s)

end Sys2Proof.Machine
end

