-- ==== Sys2Proof/Machine/Rsy.lean ====
section
/-! DEFINITION. The resynthesiser (RSY): R122 to R128, R130, R298 to R301. -/

namespace Sys2Proof.Machine

def rsyPr (s : State) : Nat := 2 ^ s.rf RSY_CFG_PR_LOG2
def rsyT (s : State) : Nat := s.rf RSY_CFG_TAPS
def rsyState (s : State) : Nat := s.reg RSY_STATE % 4
def setRsyState (n : Nat) (s : State) : State := s.setReg RSY_STATE n
def rsyStopped (s : State) : Bool := rsyState s = stSTOPPED

/-! ### Coefficients (R117, R126) -/

def rsyWin (s : State) : List Int := (List.range (rsyPr s * rsyT s)).map (fun n => sext 18 (sget 0 s.rsy.coef n))

def rsyCoefCount (s : State) : Nat :=
  if s.rsy.coefAll then rsyPr s * rsyT s
  else (s.rsy.coefSet.filter (fun x => decide (x.1 < rsyPr s * rsyT s))).length

def rsyCoefCrc (s : State) : Nat := crc crc32C ((rsyWin s).flatMap (fun h => leBytes 4 (toU 32 h)))

def rsyLoadBuiltin (s : State) : State :=
  let n := rsyPr s * rsyT s
  let w := (List.range n).map (fun i => (i, (Config.rsyWindow (rsyPr s) (rsyT s) i).toNat))
  { s with rsy := { s.rsy with coef := foldS (fun (e : Nat × Nat) m => sset 0 m e.1 e.2) w s.rsy.coef, coefAll := true } }

def rsyCfgMask : Nat := 0x1F3F7F0F

def rsySetCfg (v : Nat) (s : State) : State :=
  let s := s.setReg RSY_CFG (v &&& rsyCfgMask)
  { s with rsy := { s.rsy with coefSet := [], coefAll := false } }

/-- The limits of R122 on a configuration word. -/
def rsyCfgOk (s : State) (v : Nat) : Bool :=
  let pr := bits v 0 4
  let t := bits v 8 5
  decide (4 ≤ pr) && decide (pr ≤ 10) && decide (4 ≤ t) && decide (t ≤ 16) && decide (bits v 13 2 ≠ 3)
    && decide (t * 2 ^ pr ≤ 16384) && decide (2 ^ pr ≤ chnP s)

/-! ### Slices and limits (R122, R298) -/

def enSlices (s : State) : List Nat := (List.range 1024).filter (fun n => s.rf (RSY_SLICE_BEAM_EN n) = 1)
def sliceBeam (s : State) (n : Nat) : Nat := s.rf (RSY_SLICE_BEAM_BEAM n)
def sliceFirst (s : State) (n : Nat) : Nat := s.reg (RSY_SLICE_CHAN n) % 65536

/-- The two loads of R122 for `n` slices, each with its limit, in like units. -/
def rsyLoads (s : State) (n : Nat) : List (Nat × Nat) :=
  [(n * rsyT s * rsyPr s, 1048576), (n * s.reg MER_FS * rsyPr s, 24576000 * s.reg RSY_HOP)]

/-- The first limit broken: 0 history, 1 output, and its load per mille. -/
def rsyBreach (s : State) (n : Nat) : Option (Nat × Nat) :=
  match findIdx? (fun x => decide (x.2 < x.1)) (rsyLoads s n) with
  | some i => let x := (rsyLoads s n).getD i (0, 1); some (i, x.1 * 1000 / x.2)
  | none => none

/-- Local channel of a channel identity. -/
def localChan (s : State) (id : Nat) : Option Nat := findIdx? (fun c => decide (c = id)) s.stg.chans

/-- May a slice of beam `b` from channel `f` be enabled: a voltage plan in ci16 or ch16 forms the beam, in channels of the part? -/
def sliceOk (s : State) (b f : Nat) : Bool :=
  match beamPlan s b with
  | none => false
  | some p =>
    decide (s.rf (ACC_PLAN_CFG_ACT p) ≠ 3) && (s.rf (ACC_PLAN_CFG_OUT_FMT p) = 6 || s.rf (ACC_PLAN_CFG_OUT_FMT p) = 5)
      && (rangeFrom f (rsyPr s)).all (fun c => (localChan s c).isSome)

/-! ### Register writes -/

def rsyRefuse (off : Nat) (s : State) : WOut := refuse uRSY off (rsyState s) s

/-- `UNIT_BASIC` (R106, R130). -/
def rsyBasicWrite (v : Nat) (s : State) : WOut :=
  let c := setBits (s.reg RSY_CFG) 8 7 (bits v 8 7)
  if !(rsyStopped s) || !(rsyCfgOk s c) then rsyRefuse 0x18 s
  else
    let s := rsySetCfg c (storeBits (UNIT_BASIC 5) 0x1007F00 v s)
    acc (if bit v 24 then rsyLoadBuiltin s else s)

def rsyCfgWrite (v : Nat) (s : State) : WOut :=
  if !(rsyStopped s) || !(rsyCfgOk s v) then rsyRefuse 0x110 s else acc (rsySetCfg v s)

def rsyCoefDataWrite (v : Nat) (s : State) : WOut :=
  if !(rsyStopped s) then rsyRefuse 0x11C s
  else
    let a := s.reg RSY_COEF_ADDR
    let s := { s with rsy := { s.rsy with coef := sset 0 s.rsy.coef a (v % 2 ^ 18), coefSet := sset false s.rsy.coefSet a true } }
    acc (s.setReg RSY_COEF_ADDR ((a + 1) % 2 ^ 14))

/-- The next spectrum that the resynthesiser takes: the furthest one read, else that of the oldest half waiting, else staging's position. -/
def rsyPos (s : State) : Nat :=
  match s.rsy.reading with
  | [] => (s.acc.halves.map (fun h => h % 2 ^ 40 * stgB s)).foldl min (stgPos s)
  | l => (l.map (fun r => r.2.1 * stgB s + r.2.2)).foldl max 0

/-- The spectrum of a start or stop: at or after the anchor, or the next one. -/
def rsyAnchor (now : Bool) (s : State) : Nat := if now then rsyPos s else specOf s (s.reg64 RSY_ANCHOR_LO RSY_ANCHOR_HI)

/-- START (R118, R122, R126). -/
def rsyStart (now : Bool) (s : State) : WOut :=
  let st := rsyState s
  if st = stSTARTING || st = stSTOPPING then rsyRefuse 0x100 s
  else if st = stRUNNING then acc s
  else if rsyCoefCount s ≠ rsyPr s * rsyT s then
    ⟨false, raise EV_RSY_COEF_INCOMPLETE (rsyCoefCount s) (rsyPr s * rsyT s) s⟩
  else
    match rsyBreach s (enSlices s).length with
    | some (r, l) => ⟨false, raise EV_RSY_CAPACITY r l s⟩
    | none => acc { (setRsyState stSTARTING s) with rsy := { s.rsy with startAt := some (rsyAnchor now s), stopAt := none, slices := [] } }

/-- The unit discards its history and is STOPPED (R119). -/
def rsyHalt (s : State) : State :=
  { (setRsyState stSTOPPED s) with rsy := { s.rsy with startAt := none, stopAt := none, slices := [] } }

/-- STOP (R119). -/
def rsyStop (now : Bool) (s : State) : State :=
  if rsyState s = stSTARTING then rsyHalt s
  else if rsyState s = stRUNNING then
    { (s.setReg RSY_STATE (stRUNNING + 4)) with rsy := { s.rsy with stopAt := some (rsyAnchor now s) } }
  else s

def rsyCtrlWrite (v : Nat) (s : State) : WOut :=
  let r := if bit v 0 then rsyStart (bit v 2) s else acc s
  if r.ok && bit v 1 then acc (rsyStop (bit v 2) r.st) else r

/-- A write of `RSY_SLICE_BEAM` (R122, R126, R298): a slice enabled while the unit runs may only be disabled. -/
def rsySliceWrite (n v : Nat) (s : State) : WOut :=
  let off := 0x1000 + 8 * n
  let on := s.rf (RSY_SLICE_BEAM_EN n) = 1
  let put : State := s.setReg (RSY_SLICE_BEAM n) (v &&& 0x8000FFFF)
  let drop (t : State) : State := { t with rsy := { t.rsy with slices := t.rsy.slices.filter (fun x => decide (x.1 ≠ n)) } }
  if on && !(rsyStopped s) && (bit v 31 || decide (v % 65536 ≠ sliceBeam s n)) then rsyRefuse off s
  else if !(bit v 31) then acc (drop put)
  else
    match rsyBreach s ((enSlices s).length + (if on then 0 else 1)) with
    | some (r, l) => ⟨false, raise EV_RSY_CAPACITY r l s⟩
    | none => if sliceOk s (v % 65536) (sliceFirst s n) then acc (drop put) else rsyRefuse off s

/-- A write of `RSY_SLICE_CHAN`. -/
def rsyChanWrite (n v : Nat) (s : State) : WOut :=
  let off := 0x1004 + 8 * n
  let on := s.rf (RSY_SLICE_BEAM_EN n) = 1
  if on && (!(rsyStopped s) || !(sliceOk s (sliceBeam s n) (v % 65536))) then rsyRefuse off s
  else acc (s.setReg (RSY_SLICE_CHAN n) (v % 65536))

def rsyCntClear (v : Nat) (s : State) : State := if bit v 0 then s.zero [RSY_CNT_SAT, RSY_CNT_VOID] else s

/-- Writes of RSY registers that do more than store. -/
def rsyWrite (off v : Nat) (s : State) : Option WOut :=
  match off with
  | 0x18 => some (rsyBasicWrite v s)
  | 0x100 => some (rsyCtrlWrite v s)
  | 0x110 => some (rsyCfgWrite v s)
  | 0x114 => if rsyStopped s then none else some (rsyRefuse off s)
  | 0x11C => some (rsyCoefDataWrite v s)
  | 0x128 => some (acc (rsyCntClear v s))
  | _ =>
    if 0x1000 ≤ off && off < 0x3000 then
      some (if off % 8 = 0 then rsySliceWrite ((off - 0x1000) / 8) v s else rsyChanWrite ((off - 0x1000) / 8) v s)
    else none

/-- Reads of RSY registers whose value is derived. -/
def rsyRead (off : Nat) (s : State) : Option Nat :=
  match off with
  | 0x8 => some (enSlices s).length
  | 0x11C => some (sget 0 s.rsy.coef (s.reg RSY_COEF_ADDR))
  | 0x120 => some (rsyCoefCount s)
  | 0x124 => some (rsyCoefCrc s)
  | 0x134 => some (min 1023 ((rsyLoads s (enSlices s).length).foldl (fun a x => max a (x.1 * 1000 / x.2)) 0))
  | _ => none

/-! ### Taking beam spectra (R123, R124, R299) -/

/-- Is a half ready to be read: its block wholly staged, and every step of it decided? -/
def halfReady (s : State) (p n : Nat) : Bool := decide (n < s.stg.rBlk) && (planSteps s p n).all (·.decided)

/-- RSY_HALF_READ of plan `p`: begin on the oldest half in use. -/
def rsyHalfRead (p : Nat) (s : State) : State :=
  if s.rsy.reading.any (fun r => r.1 = p) then s
  else
    match ((s.acc.halves.filter (fun h => h / 2 ^ 40 = p)).map (· % 2 ^ 40)).mergeSort (fun a b => decide (a ≤ b)) with
    | n :: _ => if halfReady s p n then { s with rsy := { s.rsy with reading := s.rsy.reading ++ [(p, n, 0)] } } else s
    | [] => s

/-- One part of a beam element as a 24-bit integer, and whether it clamped (R123). -/
def rsyIn (fmt : Nat) (e : Int) (h : Int) : Int × Bool :=
  if fmt = 6 then (h * 256, false)
  else
    let x := decodeFl (if fmt = 5 then fmt16 else fmt32) h.toNat
    let (z, d) := x.frac
    let r := match x with
      | .inf s => if s then -(2 ^ 24 : Int) else (2 ^ 24 : Int)
      | .nan => (Config.nonFinite h.toNat).toInt
      | _ => if 0 ≤ e then rneDiv (z * 2 ^ e.toNat) d else rneDiv z (d * 2 ^ (-e).toNat)
    (satS 24 r, decide (satS 24 r ≠ r))

/-- Read element (i, c, t) of a half: none for an error response. -/
def readElem (p n nb i c t : Nat) (s : State) : Option (Int × Int) × State :=
  let (bs, s) := hbmGet 3 (sliceAddr s p n nb i c t) 4 s
  if allBytes bs then
    let v := ofLe (bytesOf bs)
    if s.rf (ACC_PLAN_CFG_OUT_FMT p) = 6 then (some (sext 16 (bits v 0 16), sext 16 (bits v 16 16)), s)
    else (some ((bits v 0 16 : Int), (bits v 16 16 : Int)), s)
  else (none, s)

def readElems (p n nb i t : Nat) : List Nat → State → List (Option (Int × Int)) × State
  | [], s => ([], s)
  | c :: l, s =>
    let (x, s) := readElem p n nb i c t s
    let (y, s) := readElems p n nb i t l s
    (x :: y, s)

/-- The beam tiles with something to report that hold beam `b` at spectrum `t` of block `n` in one of the channels `cs`. -/
def tilesAt (s : State) (p n b t : Nat) (cs : List Nat) : List BeamTile :=
  (s.aplan p).beamTiles.filter (fun x => x.n = n && keyRow x.key = b / 32 && cs.contains (keyChan x.key)
    && x.k = t / stgQ s && keyCol x.key = t % stgQ s / 32)

/-- One output part (R124). -/
def rsyOut (fmt sh : Nat) (z : Int) : Int × Bool :=
  match fmt with
  | 2 => let (h, c) := roundH16 (flOver z (17 + sh)); ((h : Int), c)
  | f =>
    let r := rneShift z (17 + sh)
    let w := if f = 0 then 8 else 16
    (satS w r, decide (satS w r ≠ r))

/-- The output samples of one step from the latest `T` transforms: parts, and the number clamped. -/
def rsySynth (s : State) (hist : List (List (Int × Int))) : List (Int × Int) × Nat :=
  let pr := rsyPr s
  let g := (rsyWin s).toArray
  let fmt := s.rf RSY_CFG_OUT_FMT
  let sh := s.rf RSY_CFG_OUT_SHIFT
  let ys := (hist.map List.toArray).zipIdx
  let os := (List.range pr).map (fun p =>
    let a := ys.foldl (fun (a : Int × Int) y =>
      let h := g.getD (y.2 * pr + p) 0
      let v := y.1.getD p (0, 0)
      (a.1 + h * v.1, a.2 + h * v.2)) (0, 0)
    let (r, cr) := rsyOut fmt sh a.1
    let (i, ci) := rsyOut fmt sh a.2
    ((r, i), b2n cr + b2n ci))
  (os.map (·.1), (os.map (·.2)).foldl (· + ·) 0)

/-- Count clamped parts of slice `n` at index `i`. -/
def rsySat (n i k : Nat) (s : State) : State :=
  if k = 0 then s
  else
    let t := s.inc RSY_CNT_SAT k
    if s.reg RSY_CNT_SAT = 0 then raise EV_RSY_SATURATION n i t else t

/-- Frame format code of the output. -/
def rsyFmt (s : State) : Nat := match s.rf RSY_CFG_OUT_FMT with | 0 => fC8 | 1 => fCI16 | _ => fCH16

/-- A grain that one slice has finished: slice, number of its first output sample, samples, void, poison. -/
structure Grain where
  n : Nat
  at_ : Int
  vals : List (Int × Int)
  void : Bool
  poison : Bool
  deriving DecidableEq, Repr

/-- Put the samples of a step into a slice's frame; each frame of 256 that fills leaves as a grain (R125, R126). A frame that the slice entered part
way is void. -/
def sliceFill (n : Nat) (void poison : Bool) : List (Int × Int) → Int → SliceSt → SliceSt × List Grain
  | [], _, x => (x, [])
  | v :: l, at_, x =>
    let fresh := at_ % 256 = 0
    let x := if fresh then { x with outAt := at_, out := [v], void := void, poison := poison }
      else { x with out := x.out ++ [v], void := x.void || void, poison := x.poison || poison }
    if at_ % 256 = 255 then
      let g : Grain := ⟨n, at_ - 255, x.out, x.void || decide (x.out.length ≠ 256), x.poison⟩
      let (y, gs) := sliceFill n void poison l (at_ + 1) { x with out := [], void := false, poison := false }
      (y, g :: gs)
    else sliceFill n void poison l (at_ + 1) x

/-- Does a FLUSH or a HALT void spectrum `sp` of plan `p` (Table 2.10, R489)? -/
def rsyVoided (s : State) (p sp : Nat) : Bool :=
  s.rsy.voids.any (fun v => scopeCoversPlan s v.1 p && decide (v.2.1 ≤ sp) && (match v.2.2 with | none => true | some e => decide (sp < e)))

/-- One spectrum of one slice: its transform is taken and its step's output samples made. -/
def sliceStep (p blk t nb : Nat) (ok : Bool) (n : Nat) (s : State) : List Grain × State :=
  let b := sliceBeam s n
  let sp := blk * stgB s + t
  let tr := rsyT s
  let pr := rsyPr s
  let cs := (rangeFrom (sliceFirst s n) pr).filterMap (localChan s)
  let i := (findIdx? (fun x => decide (x = b)) (planSlices s p)).getD 0
  let (els, s) := if ok then readElems p blk nb i t cs s else ([], s)
  let tiles := tilesAt s p blk b t cs
  let void := !ok || rsyVoided s p sp || els.any Option.isNone || decide (cs.length < pr) || beamVoid s p blk t || tiles.any (fun x => decide (0 < x.excl))
  let poison := !void && tiles.any (fun x => bit x.flags 0)
  let fmt := s.rf (ACC_PLAN_CFG_OUT_FMT p)
  let e := sext 6 (s.rf RSY_CFG_IN_EXP)
  let qs := if void then [] else els.map (fun o => (rsyIn fmt e (o.getD (0, 0)).1, rsyIn fmt e (o.getD (0, 0)).2))
  let s := rsySat n (sp * stgHop s) ((qs.map (fun q => b2n q.1.2 + b2n q.2.2)).foldl (· + ·) 0) s
  let y := if void then [] else fft true (s.rf RSY_CFG_PR_LOG2) (rotateTo (pr / 2) pr (qs.map (fun q => (q.1.1, q.2.1))))
  let x := sget ⟨sp, [], 0, [], false, false⟩ s.rsy.slices n
  let hist := ((void, poison, y) :: x.hist).take tr
  let bad := decide (sp < x.began + tr - 1) || decide (hist.length < tr) || hist.any (·.1)
  let (vals, k) := if bad then (List.replicate pr (0, 0), 0) else rsySynth s (hist.map (·.2.2))
  let s := rsySat n (sp * stgHop s) k s
  let at_ : Int := ((sp : Int) - tr + 1) * pr
  let (x, gs) := sliceFill n bad (!bad && hist.any (·.2.1)) vals at_ { x with hist := hist }
  (gs, { s with rsy := { s.rsy with slices := sins s.rsy.slices n x } })

def sliceSteps (p blk t nb : Nat) (ok : Bool) : List Nat → State → List Grain × State
  | [], s => ([], s)
  | n :: l, s =>
    let (g, s) := sliceStep p blk t nb ok n s
    let (h, s) := sliceSteps p blk t nb ok l s
    (g ++ h, s)

/-! ### SERIES frames (R125, R301) -/

/-- The sample index of output sample `m`. -/
def rsyLabel (s : State) (m : Int) : Nat := (m * s.reg RSY_HOP / (rsyPr s : Int)).toNat

/-- Send grains of equal first sample and first channel, in ascending consecutive beams, as SERIES frames of plan `p`. -/
def sendSeries (p blk : Nat) : Nat → List Grain → State → State
  | 0, _, s => s
  | fuel + 1, gs, s =>
    match gs with
    | [] => s
    | g :: _ =>
      let b := sliceBeam s g.n
      let first := sliceFirst s g.n
      let w := fmtWords (rsyFmt s)
      let cap := 8192 / (512 * w)
      let ports := planPorts s p
      let q := ports.getD (b / cap % max 1 ports.length) 0
      let room := frameRoom s p q
      let run := (gs.zipIdx.takeWhile (fun x => sliceBeam s x.1.n = b + x.2)).map (·.1)
      let plain := run.take (min cap (max 1 (room / (512 * w))))
      let mixed := plain.any (·.void) && !(plain.all (·.void))
      let run := if mixed then run.take (min cap (max 1 ((room - 8) / (512 * w)))) else plain
      let mixed := run.any (·.void) && !(run.all (·.void))
      let idx := rsyLabel s g.at_
      let f := { Frame.blank kSERIES with
        protoGen := s.rf TRU_ARITH_PROTO_GEN, srcChip := ownChip s, twinGen := s.rf HLT_TWIN_STATUS_TWIN_GEN
        format := rsyFmt s, flags := (if run.all (·.void) then 1 else 0) + (if mixed then 2 else 0) + (if run.any (·.poison) then 4 else 0)
        firstStream := b, streamCount := run.length, firstChan := first, chanCount := rsyPr s, index := idx, arithGen := genAt s idx
        voidMap := if mixed then run.map (·.void) else []
        samples := if run.all (·.void) then [] else run.flatMap (fun g => packElems (rsyFmt s) (if g.void then List.replicate 256 (0, 0) else g.vals)) }
      let s := if ports.isEmpty then s else dropNote q 1 (sendPlan p q f s)
      let sig := (f.sealed.header.drop 8).take 16 ++ f.samples.flatMap (fun h => leBytes 2 h.toNat)
      let timing := match findRow (s.aplan p).rows blk with | some r => !r.timing.isEmpty | none => false
      let s := sigAdd blk 4095 p 2 sig (run.any (·.poison) || timing) s
      sendSeries p blk fuel (gs.drop run.length) s

/-- Send the grains that the slices of a plan finished: by first sample, then first channel, then beam. Output samples before index 0 have no
label and are not sent (log entry 35). -/
def sendGrains (p blk : Nat) (gs : List Grain) (s : State) : State :=
  let gs := gs.filter (fun g => decide (0 ≤ g.at_))
  let s := s.inc RSY_CNT_VOID (gs.filter (·.void)).length
  let key (g : Grain) : Int × Nat × Nat := (g.at_, sliceFirst s g.n, sliceBeam s g.n)
  let le (a b : Grain) : Bool :=
    let (x, y, z) := key a
    let (u, v, w) := key b
    decide (x < u) || (decide (x = u) && (decide (y < v) || (decide (y = v) && decide (z ≤ w))))
  let gs := gs.mergeSort le
  let groups := (gs.map (fun g => ((key g).1, (key g).2.1))).eraseDups
  foldS (fun k t => sendSeries p blk (gs.length + 1) (gs.filter (fun g => (key g).1 = k.1 && (key g).2.1 = k.2)) t) groups s

/-! ### The step of a plan's slices -/

/-- The half has been read (R300): it is free, and what was kept for it is forgotten. -/
def halfDone (p n : Nat) (s : State) : State :=
  let gone := planSteps s p n
  let a := s.aplan p
  let s := s.setAplan p { a with beamTiles := a.beamTiles.filter (fun x => decide (x.n ≠ n)), rows := a.rows.filter (fun r => decide (n < r.n)) }
  { s with
    atl := { s.atl with steps := s.atl.steps.filter (fun x => !(gone.contains x)) }
    acc := { s.acc with halves := s.acc.halves.filter (fun h => decide (h ≠ p * 2 ^ 40 + n)) }
    rsy := { s.rsy with reading := s.rsy.reading.filter (fun r => decide (r.1 ≠ p)) } }

/-- Report the frames of 16 beams that the unit does not accept (R123, R299). -/
def mismatchNotes (p : Nat) (s : State) : State :=
  let bs := planSlices s p
  foldS (fun i t => raise EV_RSY_INPUT_MISMATCH (bs.getD (16 * i) 0) (t.rf (ACC_PLAN_CFG_OUT_FMT p)) t) (List.range (ceilDiv bs.length 16)) s

/-- Does a spectrum lie within the unit's run? -/
def rsyTakes (s : State) (sp : Nat) : Bool :=
  match rsyState s with
  | 1 => (match s.rsy.startAt with | some a => decide (a ≤ sp) | none => false)
  | 2 => true
  | 3 => (match s.rsy.stopAt with | some a => decide (sp < a) | none => false)
  | _ => false

/-- A stopping unit that has taken its last spectrum is STOPPED. -/
def rsyFinish (sp : Nat) (s : State) : State :=
  match s.rsy.stopAt with
  | some a => if rsyState s = stSTOPPING && decide (a ≤ sp) then rsyHalt s else s
  | none => s

/-- RSY_SYNTH_STEP of plan `p`: the next spectrum of the half being read. -/
def rsySynthStep (p : Nat) (s : State) : State :=
  match s.rsy.reading.find? (fun r => r.1 = p) with
  | none => s
  | some (_, n, t) =>
    let sp := n * stgB s + t
    let mine := (enSlices s).filter (fun i => beamPlan s (sliceBeam s i) = some p)
    let nb := (planSlices s p).length
    let fmt := s.rf (ACC_PLAN_CFG_OUT_FMT p)
    let ok := (fmt = 6 || fmt = 5) && s.reg RSY_HOP = stgHop s
    let s :=
      if rsyTakes s sp then
        let s := if rsyState s = stSTARTING then { (setRsyState stRUNNING s) with rsy := { s.rsy with startAt := none } } else s
        let s := if ok then s else mismatchNotes p s
        let (gs, s) := sliceSteps p n t nb ok mine s
        sendGrains p n gs s
      else s
    let s := { s with rsy := { s.rsy with reading := s.rsy.reading.map (fun r => if r.1 = p then (p, n, t + 1) else r) } }
    let s := rsyFinish (sp + 1) s
    if t + 1 < stgB s then s else halfDone p n s

/-- RSY_STOP_COMMIT: the stop's boundary is reached; spectra before it that are still to be taken are finished first. -/
def rsyStopCommit (s : State) : State :=
  match s.rsy.stopAt with
  | some _ => if rsyState s = stRUNNING then rsyFinish (rsyPos s) (setRsyState stSTOPPING s) else s
  | none => s

/-! ### Meanings -/

/-- RSY_STOP_COMMIT -/
def execRsyStopCommit (s : State) : Host.Outcome State Fault Refusal := .next (rsyStopCommit s)
/-- RSY_HALF_READ -/
def execRsyHalfRead (plan : Fin 16) (s : State) : Host.Outcome State Fault Refusal := .next (rsyHalfRead plan.val s)
/-- RSY_SYNTH_STEP -/
def execRsySynthStep (plan : Fin 16) (s : State) : Host.Outcome State Fault Refusal := .next (rsySynthStep plan.val s)

end Sys2Proof.Machine
end

