-- ==== Sys2Proof/Machine/Reply.lean ====
section
/-! DEFINITION. The mailbox channels: starting a command and answering it (R398 to R403). -/

namespace Sys2Proof.Machine

/-! The status codes of Table 16.6. -/
def mbOK : Nat := 0
def mbABORTED : Nat := 1
def mbALREADY : Nat := 2
def mbBUSY : Nat := 3
def mbBADARG : Nat := 4
def mbWRONGMODE : Nat := 5
def mbUNKNOWN : Nat := 6
def mbDENIED : Nat := 7
def mbRESET : Nat := 8
def mbFAILED : Nat := 9
def mbEMPTY : Nat := 10

def mboxBusy (s : State) (c : Nat) : Bool := s.rf (CMX_MBOX_STATUS_BUSY c) = 1

/-- The 40 bytes of a reply (R402). -/
def replyBytes (seq cmd status : Nat) (res : List Nat) : List Byte :=
  leBytes 2 seq ++ leBytes 2 cmd ++ leBytes 2 status ++ leBytes 2 0 ++ (List.range 8).flatMap (fun k => leBytes 4 (res.getD k 0))

/-- Send the reply of channel 1, or keep that of channel 2 for its Block Read. -/
def sendReply (c seq cmd status : Nat) (res : List Nat) (s : State) : State :=
  let b := replyBytes seq cmd status res
  if c = 1 then ({ s with cmx := { s.cmx with lastReply := b } }).emit (.mgt 0 b)
  else if c = 2 then { s with cmx := { s.cmx with smbReply := b } }
  else s

/-- The command in flight on channel `c` ends with `status` and result words (R399): it stays unread until the channel's next GO. One whose abort came after
its commit point ends ALREADY_DONE (R400). -/
def mboxDone (c status : Nat) (res : List Nat) (s : State) : State :=
  let cmd := s.rf (CMX_MBOX_CMD_CMD c)
  let status := if status = mbOK && s.cmx.late.contains c then mbALREADY else status
  let s := { s with cmx := { s.cmx with steps := s.cmx.steps.filter (fun x => decide (x.1 ≠ c)), late := s.cmx.late.erase c } }
  let n := (s.rf (CMX_MBOX_STATUS_DONE c) + 1) % 65536
  let s := s.setReg (CMX_MBOX_STATUS c) (status + 65536 * n)
  let s := foldS (fun k t => t.setReg (CMX_MBOX_RES c k) (res.getD k 0)) (List.range 8) s
  if c = 0 then withIrq 0 (fun t => { t with cmx := { t.cmx with mboxUnread := true } }) s
  else sendReply c (if c = 1 then s.cmx.lastSeq.getD 0 else s.cmx.smbSeq) cmd status res s

/-- A command starts on channel `c`: its registers hold it, BUSY is set, and the last completion is read no more. -/
def mboxStart (c cmd : Nat) (args : List Nat) (s : State) : State :=
  let s := s.setReg (CMX_MBOX_CMD c) cmd
  let s := foldS (fun k t => t.setReg (CMX_MBOX_ARG c k) (args.getD k 0)) (List.range 8) s
  let s := s.wf (CMX_MBOX_STATUS_BUSY c) 1
  if c = 0 then { s with cmx := { s.cmx with mboxUnread := false } } else s

/-- A stepped command has yielded: its channel shows STEPPING, and the command with its argument is kept (R399). -/
def mboxStep (c code arg : Nat) (s : State) : State :=
  { (s.wf (CMX_MBOX_STATUS_STEPPING c) 1) with cmx := { s.cmx with steps := s.cmx.steps ++ [(c, code, arg)] } }

/-- The channel on which a command of this code steps. -/
def stepOf (s : State) (code : Nat) : Option (Nat × Nat) := (s.cmx.steps.find? (fun x => x.2.1 = code)).map (fun x => (x.1, x.2.2))

/-- The stepped command of this code ends. -/
def stepEnds (code status : Nat) (res : List Nat) (s : State) : State :=
  match stepOf s code with
  | some (c, _) => mboxDone c status res s
  | none => s

end Sys2Proof.Machine
end

