-- ==== Sys2Proof/Machine/Log.lean ====
section
/-! DEFINITION. The event log: the writer, the ring of 131,072 slots and the read index (R439, R440). -/

namespace Sys2Proof.Machine

def logSlots : Nat := 131072

/-- The record in a slot of the ring. -/
def logAt (s : State) (n : Nat) : LogRec := sget LogRec.blank s.hlt.logRing n
def logRead (s : State) : Nat := s.reg HLT_LOG_READ % logSlots
/-- Is no record unread (R440)? -/
def logEmpty (s : State) : Bool := decide (logRead s = s.hlt.logHead % logSlots)

/-- The 32 bytes of a record (Table 18.4). -/
def LogRec.bytes (r : LogRec) : List Byte :=
  leBytes 2 r.code ++ leBytes 2 (r.sev + 4 * b2n r.idxValid + 8 * b2n r.todValid) ++ leBytes 4 r.recno ++ leBytes 8 r.index ++ leBytes 8 r.tod
    ++ leBytes 4 r.arg0 ++ leBytes 4 r.arg1

/-- Word `w` of a record. -/
def LogRec.wordAt (r : LogRec) (w : Nat) : Nat := ofLe ((r.bytes.drop (4 * w)).take 4)

/-- LOG_LOST is raised once per episode, when space next frees (R439). -/
def logLoss (s : State) : State :=
  if s.hlt.logLossOpen then raise EV_HLT_LOG_LOST (s.rf HLT_LOG_LOST_DROPPED) 0 { s with hlt := { s.hlt with logLossOpen := false } } else s

/-- The writer stores the oldest queued record in the next slot; a record that becomes unreachable unread is counted, and the read index moves on. -/
def logWrite (s : State) : State :=
  match s.hlt.logQ with
  | [] => s
  | r :: q =>
    let n := s.hlt.logHead
    let r := { r with recno := n % 2 ^ 32 }
    let full := !(logEmpty s) && decide (logRead s = (n + 1) % logSlots)
    let s := { s with hlt := { s.hlt with logQ := q, logHead := n + 1, logRing := sset LogRec.blank s.hlt.logRing (n % logSlots) r } }
    let s := s.setReg HLT_LOG_HEAD (n + 1)
    let s := if full then
        (s.setReg HLT_LOG_READ ((n + 2) % logSlots)).wf HLT_LOG_LOST_OVERWRITTEN (min 0xFFFF (s.rf HLT_LOG_LOST_OVERWRITTEN + 1))
      else s
    logLoss (if s.reg CMX_MGT_LOG_DEST = 0 then s else s.emit (.logSent r))

/-- Write `n` records. -/
def logFlush : Nat → State → State
  | 0, s => s
  | n + 1, s => logFlush n (logWrite s)

/-- READ_LOG on channel `c` (R440). -/
def readLog (c : Nat) (s : State) : State :=
  if logEmpty s then mboxDone c mbEMPTY [] s
  else
    let r := logAt s (logRead s)
    mboxDone c mbOK ((List.range 8).map r.wordAt) (s.setReg HLT_LOG_READ ((logRead s + 1) % logSlots))

/-- `HLT_LOG_READ`: refused for a slot never written (R440). -/
def logReadWrite (v : Nat) (s : State) : WOut :=
  let n := v % logSlots
  if s.hlt.logHead ≤ n then refuse uHLT 0x404 cRANGE s else acc (s.setReg HLT_LOG_READ n)

end Sys2Proof.Machine
end

