-- ==== Sys2Proof/Machine/Survey.lean ====
section
/-! DEFINITION. The closing survey and the start tests: steps, records and results (R418, R423 to R427). -/

namespace Sys2Proof.Machine

/-- The time of a step in tenths of a millisecond (Table 17.7). -/
def stepTime (k : Nat) : Nat :=
  if k ≤ 16 then 25 else if k ≤ 24 then 50 else if k ≤ 30 then 600 else if k ≤ 42 then 400 else if k ≤ 106 then 50 else if k ≤ 138 then 125 else 130

def stepsTime (l : List Nat) : Nat := l.foldl (fun a k => a + stepTime k) 0

/-- Steps `lo` to `hi`. -/
def stepRange (lo hi : Nat) : List Nat := rangeFrom lo (hi + 1 - lo)

/-- SIGNATURE over result words in ascending step order (R424). -/
def wordsCrc (ws : List Nat) : Nat := crc crc64XZ (ws.flatMap (leBytes 8))

/-- The first completed step whose word differs; 0 where none does. -/
def firstDiffer (ws : List (Nat × Nat × Nat)) : Nat := match ws.find? (fun x => decide (x.2.1 ≠ x.2.2)) with | some x => x.1 | none => 0

/-- The record of a run in progress: RESULT reads PARTIAL, or FAIL once a word differs, and CUT reads 1 (R425). -/
def runRecord (r : SurveyRun) : SurveyRec :=
  let did := r.words.map (·.1)
  let f := firstDiffer r.words
  let all := stepsTime did + stepsTime r.todo
  { r.record with
    result := if f = 0 then 1 else 2, cut := 1, done := did.length, failStep := f
    coverage := if all = 0 then 1000 else stepsTime did * 1000 / all
    signature := wordsCrc (r.words.map (·.2.1))
    steps := did.foldl (fun a k => a ||| 2 ^ (k - 1)) 0 }

/-- The record of a run that has ended (R424). -/
def endRecord (r : SurveyRun) (cut : Nat) : SurveyRec :=
  let x := runRecord r
  let same := decide (x.signature = wordsCrc (r.words.map (·.2.2)))
  { x with
    result := if !same then 2 else if x.done = x.planned then 0 else 1
    failStep := if same then 0 else x.failStep
    cut := cut }

/-- Keep the record of the run: the newest CLOSING record, or the newest START record. -/
def keepRecord (x : SurveyRec) (s : State) : State :=
  if x.kind = 0 then { s with hlt := { s.hlt with closing1 := some x } } else { s with hlt := { s.hlt with start := some x } }

/-- `HLT_SURVEY_STATUS`. -/
def surveyShow (s : State) : State :=
  match s.hlt.survey with
  | none => s.setReg HLT_SURVEY_STATUS 0
  | some r =>
    let bad := (r.words.filter (fun x => decide (x.2.1 ≠ x.2.2))).length
    s.setReg HLT_SURVEY_STATUS ((match r.todo with | k :: _ => k | [] => 0) + 256 + 512 * r.record.kind + 65536 * min 255 bad)

/-- A run of steps begins and its record is written (R425). -/
def surveyBegin (kind fw : Nat) (todo : List Nat) (s : State) : State :=
  let r : SurveyRun := { todo := todo, words := [], cut := false
                         record := { kind := kind, result := 1, planned := todo.length, done := 0, coverage := 0, signature := 0
                                     tod := s.tim.tod, fw := fw, cut := 1, failStep := 0, steps := 0 } }
  let s := if kind = 0 then { s with hlt := { s.hlt with closing2 := s.hlt.closing1 } } else s
  surveyShow (keepRecord (runRecord r) { s with hlt := { s.hlt with survey := some r } })

/-- The event of a result. -/
def surveyEvent (x : SurveyRec) (s : State) : State :=
  match x.result with
  | 0 => raise EV_HLT_SURVEY_PASS x.kind (x.signature % 2 ^ 32) s
  | 1 => raise EV_HLT_SURVEY_PARTIAL x.kind (x.done + 65536 * x.coverage) s
  | _ => raise EV_HLT_SURVEY_FAIL x.kind x.failStep s

/-- The run ends: its record carries the final result. -/
def surveyEnd (cut : Nat) (s : State) : State :=
  match s.hlt.survey with
  | none => s
  | some r =>
    let x := endRecord r cut
    surveyEvent x (surveyShow (keepRecord x { s with hlt := { s.hlt with survey := none } }))

/-- The start tests that the newest CLOSING record asks for (Table 17.5), `fw` the firmware now starting. -/
def startSteps (fw : Nat) (s : State) : List Nat :=
  match s.hlt.closing1 with
  | none => stepRange 1 158
  | some r =>
    if r.result = 0 && r.fw = fw then []
    else if r.result = 1 then stepRange 1 106 ++ (stepRange 107 158).filter (fun k => !(bit r.steps (k - 1)))
    else stepRange 1 158

/-- The 64 bytes of a record (Table 17.8). -/
def SurveyRec.bytes (x : SurveyRec) : List Byte :=
  let b := leBytes 1 1 ++ leBytes 1 (x.kind + 16 * x.result) ++ leBytes 2 x.planned ++ leBytes 2 x.done ++ leBytes 2 x.coverage ++ leBytes 8 x.signature
    ++ leBytes 8 x.tod ++ leBytes 4 x.fw ++ leBytes 1 x.cut ++ leBytes 1 0 ++ leBytes 2 x.failStep ++ leBytes 20 x.steps ++ leBytes 4 0
  b ++ leBytes 8 (crc crc64XZ b)

/-- Word `w` of `HLT_SURVEY_REC`: the newest CLOSING record, the one before it, the newest START record (R427). -/
def surveyWord (w : Nat) (s : State) : Nat :=
  let r := match w / 16 with | 0 => s.hlt.closing1 | 1 => s.hlt.closing2 | _ => s.hlt.start
  match r with | some x => ofLe ((x.bytes.drop (4 * (w % 16))).take 4) | none => 0

end Sys2Proof.Machine
end

