-- ==== Sys2Proof/Machine/Tim.lean ====
section
/-! DEFINITION. The time service (TIM): the naming of the second, PTP, IRIG-B, the time of day and the event pulses (R372 to R380, R382). -/

namespace Sys2Proof.Machine

/-! ### PTP domains (R374 to R376) -/

def State.dom (s : State) (d : Nat) : DomSt := sget DomSt.blank s.tim.doms d
def State.setDom (d : Nat) (x : DomSt) (s : State) : State :=
  { s with tim := { s.tim with doms := sset DomSt.blank s.tim.doms d x } }
def ptpSt (s : State) (d : Nat) : Nat := s.rf (TIM_PTP_STATUS_STATE d)

/-! States (Table 15.8). -/
def ptDISABLED : Nat := 0
def ptLISTENING : Nat := 1
def ptUNCAL : Nat := 2
def ptSLAVE : Nat := 3
def ptHELD : Nat := 4
def ptFAULTY : Nat := 5

def timSource (s : State) : Nat := s.rf TIM_STATE_SOURCE

/-- Offset from the master, in nanoseconds. -/
def ptpOfs (s : State) (d : Nat) : Int := sext 64 (s.reg64 (TIM_PTP_OFS_LO d) (TIM_PTP_OFS_HI d))

/-- Do the domains agree (R376)? -/
def domsAgree (s : State) : Bool :=
  ptpSt s 0 = ptSLAVE && ptpSt s 1 = ptSLAVE && decide ((ptpOfs s 0 - ptpOfs s 1).natAbs ≤ s.reg TIM_DOM_TOL)

/-- Show agreement, and report a disagreement once per episode. -/
def noteAgree (s : State) : State :=
  let a := domsAgree s
  let before := s.rf (TIM_PTP_STATUS_AGREE 0) = 1
  let s := (s.wf (TIM_PTP_STATUS_AGREE 0) (b2n a)).wf (TIM_PTP_STATUS_AGREE 1) (b2n a)
  let both := ptpSt s 0 = ptSLAVE && ptpSt s 1 = ptSLAVE
  if a then { s with tim := { s.tim with disagreed := false } }
  else if s.tim.disagreed || !(before || both) then s
  else
    raise EV_TIM_DOMAIN_DISAGREE ((ptpOfs s 0 - ptpOfs s 1).natAbs) 0 { s with tim := { s.tim with disagreed := true } }

/-- A domain changes state; the domain in use that leaves SLAVE is dealt with at the next edge (R376). -/
def setPtp (d n : Nat) (s : State) : State :=
  let old := ptpSt s d
  let s := s.wf (TIM_PTP_STATUS_STATE d) n
  let s := if old = ptSLAVE && decide (n ≠ ptSLAVE) && timSource s = d then
      { s with tim := { s.tim with lost := some (d, n, s.tim.agree) } }
    else s
  noteAgree s

/-- Enable or disable a domain. -/
def domEnable (d : Nat) (en : Bool) (s : State) : State :=
  if en then (if ptpSt s d = ptDISABLED then setPtp d ptLISTENING s else s)
  else if ptpSt s d = ptDISABLED then s else setPtp d ptDISABLED (s.setDom d DomSt.blank)

/-- Insert into a rising list. -/
def insertI (x : Int) : List Int → List Int
  | [] => [x]
  | a :: t => if x ≤ a then x :: a :: t else a :: insertI x t

/-- The median of a list; of an even count, the mean of the middle two (log entry 38). -/
def medianI (l : List Int) : Int :=
  let m := l.foldl (fun a x => insertI x a) []
  let n := m.length
  if n % 2 = 1 then (m[n / 2]?).getD 0 else ((m[n / 2 - 1]?).getD 0 + (m[n / 2]?).getD 0) / 2

/-- Accept a mean path delay. -/
def acceptDelay (d : Nat) (z : Int) (s : State) : State :=
  (s.setDom d { s.dom d with accepted := some z }).setReg (TIM_PTP_DELAY d) (toU 32 z)

/-- An exchange of a delay request (R375). -/
def ptpExchange (d : Nat) (z : Int) (s : State) : State :=
  let x := s.dom d
  let l := (z :: x.delays).take 16
  let m := medianI l
  let s := (s.setDom d { x with delays := l }).setReg (TIM_PTP_DELAY_NEW d) (toU 32 m)
  match x.accepted with
  | none => acceptDelay d m s
  | some a =>
    if ptpSt s d = ptHELD then s
    else if s.reg TIM_PTP_STEP < (m - a).natAbs then raise EV_TIM_PATH_STEP d (toU 32 (m - a)) (setPtp d ptHELD s)
    else acceptDelay d m s

/-- An Announce: the best master clock algorithm keeps the better of its master and the sender (R374). -/
def ptpAnnounce (d : Nat) (rank : List Nat) (gm : Nat) (s : State) : State :=
  let x := s.dom d
  let better := match x.master with
    | none => true
    | some (r, _) => decide (rank ≤ r)
  if !better then s
  else
    let same := match x.master with | some (r, g) => r = rank && g = gm | none => false
    if same then s
    else
      let old := s.reg64 (TIM_PTP_GM_LO d) (TIM_PTP_GM_HI d)
      let s := (s.setDom d { DomSt.blank with master := some (rank, gm) }).setReg64 (TIM_PTP_GM_LO d) (TIM_PTP_GM_HI d) gm
      let s := setPtp d ptUNCAL s
      if old = gm then s else raise EV_TIM_GM_CHANGE d gm s

/-- One PTP message of domain `d` (R374 to R376). -/
def ptpMessage (d : Nat) (m : PtpMsg) (s : State) : State :=
  let st := ptpSt s d
  if st = ptDISABLED then s
  else
    match m with
    | .fault => setPtp d ptFAULTY (s.setDom d DomSt.blank)
    | .faultCleared => if st = ptFAULTY then setPtp d ptLISTENING s else s
    | .announce rank gm => if st = ptFAULTY then s else ptpAnnounce d rank gm.toNat s
    | .announceTimeout => if st = ptFAULTY then s else setPtp d ptLISTENING (s.setDom d DomSt.blank)
    | .sync origin arrival =>
      match (s.dom d).accepted with
      | some dl =>
        if st = ptUNCAL || st = ptSLAVE then
          let s := s.setReg64 (TIM_PTP_OFS_LO d) (TIM_PTP_OFS_HI d) (toU 64 ((arrival : Int) - origin - dl))
          setPtp d ptSLAVE (s.inc (TIM_PTP_CNT_SYNC d) 1)
        else s
      | none => s
    | .exchange t1 t2 t3 t4 =>
      if st = ptUNCAL || st = ptSLAVE || st = ptHELD then
        ptpExchange d ((((t2 : Int) - t1) + ((t4 : Int) - t3)) / 2) s
      else s

/-! ### IRIG-B (R377) -/

/-- A BCD number of two digits, if both digits are valid. -/
def bcd2 (n : Nat) : Option Nat := if n % 16 < 10 && n / 16 < 10 then some (n / 16 * 10 + n % 16) else none
/-- A BCD number of three digits. -/
def bcd3 (n : Nat) : Option Nat :=
  if n % 16 < 10 && n / 16 % 16 < 10 && n / 256 < 10 then some (n / 256 * 100 + n / 16 % 16 * 10 + n % 16) else none

/-- Days from 1970-01-01 to 1 January of a year from 1970. -/
def yearDays (y : Nat) : Nat := 365 * (y - 1970) + (y - 1969) / 4 - (y - 1901) / 100 + (y - 1601) / 400
/-- The year of a day counted from 1970-01-01. -/
def dayYear (d : Nat) : Nat :=
  let y := 1970 + d * 400 / 146097
  if yearDays (y + 1) ≤ d then y + 1 else if d < yearDays y then y - 1 else y

/-- TAI − UTC. -/
def utcOfs (s : State) : Int := sext 16 (s.reg TIM_UTC_OFS)

/-- The TAI second that a frame states; none where a digit is invalid. -/
def irigTai (f : Irig) (s : State) : Option Int :=
  let year : Option Nat := match f.year with
    | some y => (bcd2 y.toNat).map (· + 2000)
    | none => some (dayYear (((timSec s : Int) - utcOfs s).toNat / 86400))
  match bcd2 f.sec.toNat, bcd2 f.min.toNat, bcd2 f.hour.toNat, bcd3 f.day.toNat, year with
  | some sc, some mi, some h, some d, some y =>
    let day := match f.sbs with | some b => b.toNat | none => h * 3600 + mi * 60 + sc
    some (((yearDays y : Int) + d - 1) * 86400 + day + utcOfs s)
  | _, _, _, _, _ => none

/-- A frame that fails to decode: counted and reported; the second in a row disqualifies (R359, R377). -/
def irigBad (e cause : Nat) (s : State) : State :=
  let s := raise EV_TIM_IRIG_ERROR e (Config.openCause 0x1009 cause).toNat (s.inc TIM_CNT_IRIG_ERR 1)
  let n := (s.ref e).irigFails + 1
  let s := s.setRef e { s.ref e with irigFails := n }
  if 2 ≤ n then evalSelection (dqEntry e 3 s) else s

/-- An IRIG-B frame of entry `e` (R358, R359, R377). -/
def irigFrame (e : Nat) (f : Irig) (s : State) : State :=
  if s.rf (MER_REF_CFG_COMPANION e) ≠ 2 then s
  else if !f.markers then irigBad e 1 s
  else
    match irigTai f s with
    | none => irigBad e 2 s
    | some t =>
      let s := if bits (s.reg TIM_SRC_CFG) 4 3 = e then { s with tim := { s.tim with irig := some t } } else s
      let s := s.setRef e { s.ref e with irigFails := 0 }
      if s.rf (MER_REF_CFG_QL_SRC e) = 1 then
        let s := s.setRef e { s.ref e with qlIn := bits f.control.toNat (s.rf (MER_REF_CFG_CF_POS e)) 3 }
        evalSelection (updateQl e s)
      else s

/-! ### At the internal PPS edge (R372, R373, R376, R378) -/

/-- Change the source in use. -/
def setSource (n : Nat) (s : State) : State :=
  { (s.wf TIM_STATE_SOURCE n) with tim := { s.tim with source := none, lost := none, cand := none, run := 0 } }

/-- The source for this edge: a requested one, or the armed switch of R376. -/
def edgeSource (s : State) : State :=
  let s := match s.tim.source with
    | some n => if n = timSource s then { s with tim := { s.tim with source := none } } else setSource n s
    | none => s
  match s.tim.lost with
  | none => s
  | some (d, st, run) =>
    let s := { s with tim := { s.tim with lost := none } }
    if timSource s ≠ d then s
    else if s.rf TIM_ARM_DOMAIN_SWITCH = 1 && ptpSt s (1 - d) = ptSLAVE && decide (16 ≤ run) then
      raise EV_TIM_SOURCE_SWITCHED d (1 - d) (setSource (1 - d) s)
    else raise EV_TIM_DOMAIN_LOST d st s

/-- The estimate of TAI at this edge, in nanoseconds (R372). -/
def estimate (s : State) : Option Int :=
  match timSource s with
  | 2 => s.tim.irig.map (fun t => (t + 1) * 1000000000)
  | 3 => none
  | d => if ptpSt s d = ptSLAVE || ptpSt s d = ptHELD then some ((s.reg64 TIM_PPS_TOD_LO TIM_PPS_TOD_HI : Int) - ptpOfs s d) else none

/-- Set the label. -/
def setLabel (n : Nat) (s : State) : State := s.setReg64 TIM_SEC_LO TIM_SEC_HI (n % 2 ^ 48)

/-- The second becomes named (R373); `src` is the source that SEC_NAMED gives. -/
def nameSecond (n src : Nat) (s : State) : State :=
  let was := s.tim.named
  let s := ((setLabel n s).wf TIM_STATE_NAMED 1).wf TIM_STATUS_NAMED 1
  if was then s else raise EV_TIM_SEC_NAMED n src { s with tim := { s.tim with named := true } }

/-- Judge the candidate of this edge (R373). -/
def judgeCandidate (c : Nat) (s : State) : State :=
  let run := match s.tim.cand with | some p => if c = p + 1 then s.tim.run + 1 else 1 | none => 1
  let s := { s with tim := { s.tim with cand := some c, run := run } }
  if s.rf TIM_STATE_NAMED = 0 then
    if 3 ≤ run then nameSecond c (timSource s) s else s
  else if c = timSec s then { (s.wf TIM_STATE_MISMATCH 0) with tim := { s.tim with misses := 0 } }
  else
    let n := s.tim.misses + 1
    let s := { s with tim := { s.tim with misses := n } }
    if 3 ≤ n && s.rf TIM_STATE_MISMATCH = 0 then
      raise EV_TIM_SEC_MISMATCH (timSec s) c (s.wf TIM_STATE_MISMATCH 1)
    else s

/-- No candidate at this edge. -/
def noCandidate (s : State) : State := { s with tim := { s.tim with cand := none, run := 0, misses := 0 } }

/-- Form and judge the candidate (R373): an estimate more than 0.25 s from a whole second forms none. -/
def edgeCandidate (s : State) : State :=
  match estimate s with
  | none => noCandidate s
  | some e =>
    let r := (e % 1000000000).toNat
    if 250000000 < r && r < 750000000 then raise EV_TIM_SEC_AMBIGUOUS (timSource s) (r / 1000) (noCandidate s)
    else judgeCandidate ((e + 500000000) / 1000000000).toNat s

/-- The label at this edge: SEC_SET loads it, or it rises by 1. -/
def edgeLabel (s : State) : State :=
  if s.tim.secSet then
    let s := nameSecond (s.reg64 TIM_SEC_SET_LO TIM_SEC_SET_HI) 3 s
    { (s.wf TIM_STATE_MISMATCH 0) with tim := { s.tim with secSet := false, misses := 0 } }
  else if s.rf TIM_STATE_NAMED = 1 then setLabel (timSec s + 1) s
  else s

/-- The increment, a stepped counter, and the latch of the counter (R378). -/
def edgeTod (s : State) : State :=
  let s := match s.tim.incrPend with
    | some n => { (s.wf TIM_STATE_INCR_PENDING 0) with tim := { s.tim with incr := n, incrPend := none } }
    | none => s
  let s := if s.tim.todSet then
      { s with tim := { s.tim with todSet := false, tod := s.reg64 TIM_TOD_SET_LO TIM_TOD_SET_HI, todFrac := 0 } }
    else s
  s.setReg64 TIM_PPS_TOD_LO TIM_PPS_TOD_HI s.tim.tod

/-- The time service at an internal PPS edge. -/
def timEdge (s : State) : State :=
  let s := edgeSource (edgeTod s)
  let s := { s with tim := { s.tim with agree := if domsAgree s then min 16 (s.tim.agree + 1) else 0 } }
  edgeCandidate (edgeLabel s)

/-! ### The meridian tick (R370, R371, R378, R379) -/

/-- Does the part drive its sample clock, PPS and frame outputs, and its event outputs, in this mode (R371)? -/
def drivesClocks (s : State) : Bool := decide (mSTANDBY ≤ s.mode) && decide (s.mode ≤ mTRIGGER) && drivesPrivileged s
def drivesEvents (s : State) : Bool := decide (mSTANDBY ≤ s.mode) && decide (s.mode ≤ mSHADOW)

/-- Pulses of output `k` at indices up to `i`. -/
def evtTick (i k : Nat) (s : State) : State :=
  if s.rf (TIM_EVT_CFG_EN k) = 0 || !(drivesEvents s) then s
  else
    match sget none s.tim.evtNext k with
    | none => s
    | some n =>
      if i < n then s
      else
        let p := s.reg (TIM_EVT_PERIOD k)
        let cnt := if p = 0 then 1 else (i - n) / p + 1
        let next := if p = 0 then none else some (n + cnt * p)
        let s := { s with tim := { s.tim with evtNext := sset none s.tim.evtNext k next } }
        (s.inc (TIM_EVT_COUNT k) cnt).emit (.evt k n cnt)

/-- Frame edges at multiples of `MER_FRAME_PERIOD` after `old` and up to `new`. -/
def frameTick (old new n : Nat) (s : State) : State :=
  let p := max 1 (s.reg MER_FRAME_PERIOD)
  let cnt := new / p - old / p
  if cnt = 0 || !(drivesClocks s) || !(bit (s.reg MER_OUT_EN) (4 + n)) then s
  else
    let skip := sget false s.mer.skip (4 + n)
    let s := { s with mer := { s.mer with skip := sset false s.mer.skip (4 + n) false } }
    let first := (old / p + 1) * p
    if skip then (if cnt = 1 then s else s.emit (.frameOut n (first + p) (cnt - 1) (offsetOf s (4 + n))))
    else s.emit (.frameOut n first cnt (offsetOf s (4 + n)))

/-- One meridian tick of 10 ns. -/
def meridianTick (s : State) : State :=
  if s.mode = mOFF then s
  else
    let f := s.tim.todFrac + s.tim.incr
    let s := { s with tim := { s.tim with tod := u64 (s.tim.tod + f / 2 ^ 32), todFrac := f % 2 ^ 32 } }
    let g := s.mer.frac + s.reg MER_FS
    let d := g / 100000
    let valid := s.rf MER_STATE_IDX_VALID = 1
    let old := if valid then s.mer.idx else s.mer.since
    let s := { s with mer := { s.mer with frac := g % 100000, since := s.mer.since + d, idx := if valid then u64 (s.mer.idx + d) else s.mer.idx } }
    let s := foldS (frameTick old (old + d)) (List.range 4) s
    if valid then foldS (evtTick s.mer.idx) (List.range 4) s else s

/-! ### Registers -/

/-- `UNIT_BASIC` (R382). -/
def timBasicWrite (v : Nat) (s : State) : WOut :=
  if 3 < bits v 4 3 then refuse uTIM 0x18 cRANGE s
  else
    let s := storeBits (UNIT_BASIC 16) 0x7F v s
    let s := s.setReg TIM_SRC_CFG (v % 4 + 16 * bits v 4 3)
    let s := { s with tim := { s.tim with source := some (v % 4) } }
    let s := (s.wf (TIM_PTP_CFG_EN 0) (bits v 2 1)).wf (TIM_PTP_CFG_EN 1) (bits v 3 1)
    acc (domEnable 1 (bit v 3) (domEnable 0 (bit v 2) s))

/-- Adopt the new median of a held domain (R375). -/
def ptpAccept (d : Nat) (s : State) : State :=
  if ptpSt s d ≠ ptHELD then s
  else setPtp d ptSLAVE (acceptDelay d (sext 32 (s.reg (TIM_PTP_DELAY_NEW d))) s)

/-- Return a domain to LISTENING (R375). -/
def ptpReset (d : Nat) (s : State) : State :=
  if ptpSt s d = ptDISABLED then s else setPtp d ptLISTENING (s.setDom d DomSt.blank)

/-- `TIM_CTRL`. -/
def timCtrlWrite (v : Nat) (s : State) : State :=
  let d := bits v 4 1
  let s := if bit v 0 then { s with tim := { s.tim with secSet := true } } else s
  let s := if bit v 1 then { s with tim := { s.tim with todSet := true } } else s
  let s := if bit v 2 then ptpAccept d s else s
  let s := if bit v 3 then ptpReset d s else s
  if bit v 5 then { s with tim := { s.tim with source := some (bits v 8 2) } } else s

/-- `TIM_INCR_LO` (R378): commits the pair or discards the held half. -/
def incrCommit (v : Nat) (s : State) : WOut :=
  let hi := s.tim.incrHeld.getD (s.reg TIM_INCR_HI)
  let n := hi * 2 ^ 32 + v
  let s := { s with tim := { s.tim with incrHeld := none } }
  if 100 * n < 999 * 2 ^ 32 || 1001 * 2 ^ 32 < 100 * n then refuse uTIM 0x120 cRANGE s
  else
    let s := (s.setReg TIM_INCR_LO v).setReg TIM_INCR_HI hi
    acc ({ s with tim := { s.tim with incrPend := some n } }.wf TIM_STATE_INCR_PENDING 1)

/-- `TIM_EVT_CFG` of output `k` (R379). -/
def evtCfgWrite (k v : Nat) (s : State) : WOut :=
  let off := 0x30C + 0x20 * k
  let m := merged s (TIM_EVT_CFG k) 0xFFFF03 v
  let st := storeBits (TIM_EVT_CFG k) 0xFFFF03 v s
  if bits m 8 16 = 0 then refuse uTIM off cRANGE s
  else if !(bit m 0) then acc { st with tim := { st.tim with evtNext := sset none st.tim.evtNext k none } }
  else if s.rf (TIM_EVT_CFG_EN k) = 1 then acc st
  else if s.rf MER_STATE_IDX_VALID = 0 then refuse uTIM off cSTATE s
  else
    let start := s.reg64 (TIM_EVT_START_LO k) (TIM_EVT_START_HI k)
    let p := s.reg (TIM_EVT_PERIOD k)
    if s.mer.idx ≤ start then acc { st with tim := { st.tim with evtNext := sset none st.tim.evtNext k (some start) } }
    else if p = 0 then ⟨false, raise EV_TIM_EVT_LATE k start s⟩
    else
      acc { st with tim := { st.tim with evtNext := sset none st.tim.evtNext k (some (start + ceilTo (s.mer.idx - start) p)) } }

/-- Counters of TIM (R86). -/
def timCntClear (v : Nat) (s : State) : State :=
  if bit v 0 then s.zero ([TIM_CNT_IRIG_ERR, TIM_PTP_CNT_SYNC 0, TIM_PTP_CNT_SYNC 1] ++ (List.range 4).map TIM_EVT_COUNT) else s

/-- Writes of TIM registers that do more than store. -/
def timWrite (off v : Nat) (s : State) : Option WOut :=
  if off = 0x18 then some (timBasicWrite v s)
  else if off = 0x100 then some (acc (timCtrlWrite v s))
  else if off = 0x108 then
    some (if 3 < bits v 4 3 then refuse uTIM off cRANGE s
      else acc { (storeBits TIM_SRC_CFG 0x73 v s) with tim := { s.tim with source := some (v % 4) } })
  else if off = 0x120 then some (incrCommit v s)
  else if off = 0x124 then some (acc { s with tim := { s.tim with incrHeld := some (v % 256) } })
  else if off = 0x148 then some (acc (timCntClear v s))
  else if off = 0x200 || off = 0x240 then
    let d := (off - 0x200) / 0x40
    some (acc (domEnable d (bit (merged s (TIM_PTP_CFG d) 0x3FF v) 8) (storeBits (TIM_PTP_CFG d) 0x3FF v s)))
  else if 0x300 ≤ off && off < 0x380 then
    let k := (off - 0x300) / 0x20
    let r := (off - 0x300) % 0x20
    if r = 0xC then some (evtCfgWrite k v s)
    else if r ≤ 8 && s.rf (TIM_EVT_CFG_EN k) = 1 then some (refuse uTIM off cSTATE s)
    else none
  else none

/-- Reads of TIM registers whose value is derived. -/
def timRead (off : Nat) (s : State) : Option Nat :=
  if off = 0x128 then some (s.tim.tod % 2 ^ 32)
  else if off = 0x12C then some (s.tim.tod / 2 ^ 32 % 2 ^ 32)
  else none

def execPtpMessageRx (domain : Fin 2) (msg : PtpMsg) (s : State) : Host.Outcome State Fault Refusal :=
  .next (ptpMessage domain.val msg s)

def execIrigFrame (entry : Fin 4) (f : Irig) (s : State) : Host.Outcome State Fault Refusal := .next (irigFrame entry.val f s)

end Sys2Proof.Machine
end

