-- ==== Sys2Proof/Machine/Sign.lean ====
section
/-! DEFINITION. Ed25519 signatures in the pure form of RFC 8032, as the trust unit checks them (chapter 19). -/

namespace Sys2Proof.Machine

/-- The field's prime, 2^255 - 19. -/
def edP : Nat := 2 ^ 255 - 19
/-- The order of the base point. -/
def edL : Nat := 2 ^ 252 + 27742317777372353535851937790883648493

/-- `b ^ e mod m` over the low `n` bits of `e`. -/
def powMod (m : Nat) : Nat → Nat → Nat → Nat → Nat
  | 0, _, _, r => r
  | n + 1, b, e, r => powMod m n (b * b % m) (e / 2) (if e % 2 = 1 then r * b % m else r)

def fpow (b e : Nat) : Nat := powMod edP 256 (b % edP) e 1
def fsub (a b : Nat) : Nat := (a + edP - b % edP) % edP
def finv (a : Nat) : Nat := fpow a (edP - 2)

/-- The curve constant -121665/121666. -/
def edD : Nat := fsub 0 (121665 * finv 121666)
/-- A square root of -1. -/
def edI : Nat := fpow 2 ((edP - 1) / 4)

/-- A point in extended coordinates. -/
structure EdPt where
  x : Nat
  y : Nat
  z : Nat
  t : Nat
  deriving DecidableEq, Repr

def EdPt.zero : EdPt := ⟨0, 1, 1, 0⟩

/-- The group law. -/
def EdPt.add (p q : EdPt) : EdPt :=
  let a := fsub p.y p.x * fsub q.y q.x % edP
  let b := (p.y + p.x) * (q.y + q.x) % edP
  let c := p.t * 2 * edD % edP * q.t % edP
  let d := p.z * 2 * q.z % edP
  let e := fsub b a
  let f := fsub d c
  let g := (d + c) % edP
  let h := (b + a) % edP
  ⟨e * f % edP, g * h % edP, f * g % edP, e * h % edP⟩

/-- A multiple over the low `n` bits of `k`. -/
def EdPt.mul : Nat → Nat → EdPt → EdPt → EdPt
  | 0, _, _, r => r
  | n + 1, k, p, r => EdPt.mul n (k / 2) (p.add p) (if k % 2 = 1 then r.add p else r)

def EdPt.same (p q : EdPt) : Bool := decide (p.x * q.z % edP = q.x * p.z % edP) && decide (p.y * q.z % edP = q.y * p.z % edP)

/-- The point that 32 bytes encode. -/
def EdPt.decode (bs : List Byte) : Option EdPt :=
  let n := ofLe bs
  let y := n % 2 ^ 255
  let sign := n / 2 ^ 255 % 2
  if edP ≤ y || bs.length ≠ 32 then none
  else
    let u := fsub (y * y) 1
    let v := (edD * (y * y % edP) + 1) % edP
    let v3 := v * v % edP * v % edP
    let r := u * v3 % edP * fpow (u * (v3 * v3 % edP * v % edP)) ((edP - 5) / 8) % edP
    let c := v * (r * r % edP) % edP
    let x := if c = u then some r else if c = fsub 0 u then some (r * edI % edP) else none
    match x with
    | none => none
    | some x =>
      if x = 0 && sign = 1 then none
      else
        let x := if x % 2 = sign then x else fsub 0 x
        some ⟨x, y, 1, x * y % edP⟩

/-- The base point: y = 4/5 with x even. -/
def edB : List Byte := leBytes 32 (4 * finv 5 % edP)

/-- Does the signature (R, S) of `msg` verify under the public key `key` (RFC 8032, 5.1.7)? -/
def edVerify (key msg sig : List Byte) : Bool :=
  let r := sig.take 32
  let sN := ofLe (sig.drop 32)
  match EdPt.decode key, EdPt.decode r, EdPt.decode edB with
  | some a, some rp, some b =>
    let k := ofLe (sha512 (r ++ key ++ msg)) % edL
    decide (sig.length = 64) && decide (sN < edL)
      && (EdPt.mul 4 8 (EdPt.mul 256 sN b EdPt.zero) EdPt.zero).same (EdPt.mul 4 8 (rp.add (EdPt.mul 256 k a EdPt.zero)) EdPt.zero)
  | _, _, _ => false

end Sys2Proof.Machine
end

