-- ==== Sys2Proof/Machine/Trust.lean ====
section
/-! DEFINITION. The trust unit (TRU): manifests, flash, slots, boot selection, settings areas, packages, tickets and the debug token (R448 to R467). -/

namespace Sys2Proof.Machine

/-! ### Flash (R404, R451) -/

/-- A flash byte; an erased one reads all ones. -/
def flashByte (s : State) (a : Nat) : Byte := sget 0xFF#8 s.tru.flash a
def flashBytes (s : State) (a n : Nat) : List Byte := (List.range n).map (fun i => flashByte s (a + i))
/-- Program bytes from `a`. -/
def flashPut (a : Nat) (bs : List Byte) (s : State) : State :=
  { s with tru := { s.tru with flash := foldS (fun (x : Byte × Nat) m => sset 0xFF#8 m (a + x.2) x.1) bs.zipIdx s.tru.flash } }
/-- Erase `n` bytes from `a`. -/
def flashErase (a n : Nat) (s : State) : State :=
  { s with tru := { s.tru with flash := s.tru.flash.filter (fun x => decide (x.1 < a) || decide (a + n ≤ x.1)) } }

/-- First byte and size of slot A (0), slot B (1) and the SAFE region (2) (Table 19.2). -/
def slotBase (k : Nat) : Nat := match k with | 0 => 0x1000000 | 1 => 0x2000000 | _ => 0
def slotSize (k : Nat) : Nat := if k = 2 then 0x400000 else 0x1000000
/-- The staging area for packages and recovery. -/
def stagingBase : Nat := 0x400000
def stagingSize : Nat := 0xC00000

/-! Slot states (Table 19.4). -/
def slEMPTY : Nat := 0
def slWRITING : Nat := 1
def slVALID : Nat := 2
def slTRIAL : Nat := 3
def slCONFIRMED : Nat := 4
def slSUPERSEDED : Nat := 5
def slREJECTED : Nat := 6

def slot (s : State) (k : Nat) : Nat × Nat := s.tru.slots.getD k (0, 0)
def setSlotSt (k st tries : Nat) (s : State) : State := { s with tru := { s.tru with slots := setAt s.tru.slots k (st, tries) } }
/-- The slot in a state, of A and B. -/
def slotIn (s : State) (st : Nat) : Option Nat := [0, 1].find? (fun k => (slot s k).1 = st)
/-- The manifest of slot `k`. -/
def slotMan (s : State) (k : Nat) : List Byte := flashBytes s (slotBase k) 512
/-- Does slot `k` hold an image? -/
def slotFull (s : State) (k : Nat) : Bool := decide (2 ≤ (slot s k).1)
def slotVer (s : State) (k : Nat) : Nat := if slotFull s k then fieldAt (slotMan s k) 8 4 else 0
/-- FW_VERSION of the running image; 0 where none runs. -/
def fwVersion (s : State) : Nat := if s.tru.running < 3 then fieldAt (slotMan s s.tru.running) 8 4 else 0

/-! ### Certificates and manifests (R448 to R450) -/

/-- Is the certificate accepted for `role`? -/
def certOk (cert : List Byte) (role : Nat) (s : State) : Bool :=
  let root := fieldAt cert 0x21 1 % 4
  !(bit s.tru.revoke root) && fieldAt cert 0x20 1 = role && decide (s.tru.keyFloor.getD (role - 1) 0 ≤ fieldAt cert 0x24 4)
    && edVerify (s.tru.roots.getD root []) (sha512 (cert.take 0x40)) (cert.drop 0x40)

/-- A field of bytes of the manifest. -/
def manPart (m : List Byte) (off n : Nat) : List Byte := (m.drop off).take n
def manSafe (m : List Byte) : Bool := bit (fieldAt m 6 2) 1
def manDelta (m : List Byte) : Bool := bit (fieldAt m 6 2) 0

/-- Is the manifest valid (R450)? -/
def manOk (m : List Byte) (s : State) : Bool :=
  m.length = 512 && fieldAt m 0 4 = 0x4D574658 && fieldAt m 4 2 = 1
    && [(0x11, 3), (0xE0, 0x20), (0x122, 2), (0x128, 0x18), (0x1C0, 0x40)].all (fun x => (manPart m x.1 x.2).all (· = 0#8))
    && certOk (manPart m 0x100 0x80) (if manSafe m then 2 else 1) s
    && edVerify (manPart m 0x100 32) (sha512 (m.take 0x180)) (manPart m 0x180 64)

/-- The floor of a manifest's kind (R453). -/
def manFloor (m : List Byte) (s : State) : Nat := if manSafe m then s.tru.safeFloor else s.tru.fwFloor

/-- The check that slot `k`'s image fails: 1 manifest, 2 digest, 3 floor; 0 it verifies (R452). -/
def slotFails (s : State) (k : Nat) : Nat :=
  let m := slotMan s k
  let len := fieldAt m 0x14 4
  if !(manOk m s) || slotSize k < 512 + len then 1
  else if sha512 (flashBytes s (slotBase k + 512) len) ≠ manPart m 0x20 64 then 2
  else if fieldAt m 8 4 < manFloor m s then 3
  else 0

/-- Report an image below its floor. -/
def rollback (ver floor : Nat) (s : State) : State := raise EV_TRU_ROLLBACK_REFUSED ver floor s

/-- An image fails to verify: VERIFY_FAILED names it, and a slot is REJECTED (R452). -/
def verifyFailed (k check : Nat) (s : State) : State :=
  let s := if check = 3 then rollback (fieldAt (slotMan s k) 8 4) (manFloor (slotMan s k) s) s else s
  let s := if k < 2 then setSlotSt k slREJECTED 0 s else s
  raise EV_TRU_VERIFY_FAILED k (Config.openCause 0x1301 check).toNat s

/-! ### Settings areas (R459, R460) -/

def area (s : State) (i : Nat) : SetArea := if i = 0 then s.tru.area0 else s.tru.area1
def setArea (i : Nat) (x : SetArea) (s : State) : State :=
  if i = 0 then { s with tru := { s.tru with area0 := x } } else { s with tru := { s.tru with area1 := x } }
def areaIn (s : State) (st : Nat) : Option Nat := [0, 1].find? (fun i => (area s i).st = st)
/-- The area that is not CURRENT. -/
def otherArea (s : State) : Nat := 1 - (areaIn s 1).getD 0

/-- Bits of a setting that the firmware does not restore: octet enables, and the bits that set a unit running (log entry 40). -/
def restoreMask (a : Nat) : Nat :=
  if a = UNIT_BASIC 1 then 0x1000
  else if a = UNIT_BASIC 8 || a = UNIT_BASIC 13 || a = UNIT_BASIC 17 then 0xFFFFFFFE
  else if a / 0x1000000 = 3 && 0x1000 ≤ a % 0x1000000 && a % 0x1000000 < 0x5000 && a % 0x40 = 0 then 0x7FFFFFFF
  else 0xFFFFFFFF

/-- Is the register at `a` a setting that is kept: a host-written register that is neither a table or memory word, nor a mailbox, log or
recovery register, nor a unit that R487 leaves alone? -/
def isSetting (a : Nat) : Bool :=
  match regDesc? a with
  | some d => d.acc = .rw && decide (d.wmask ≠ 0) && d.inner = 1 && !(CMX_MBOX_CMD 0 ≤ a && a < CMX_INT_ROUTE 0 + 0x400)
      && a ≠ HLT_LOG_READ && a ≠ TRU_REC_CTRL && a ≠ ATL_DESC_INDEX
  | none => false

/-- The settings as the registers hold them. -/
def settingsNow (s : State) : List (Nat × Word) := s.regs.filter (fun x => isSetting x.1)

/-- Keep the settings after a change: in the CURRENT area, or under trial in the other, whose change count rises (R460). -/
def saveSettings (s : State) : State :=
  let items := settingsNow s
  let put (i st : Nat) : State :=
    let x := area s i
    if x.items = items && x.st = st then s
    else
      let m := slotMan s s.tru.running
      setArea i { fmt := fieldAt m 0xF 1, fw := fieldAt m 8 4, st := st, changes := if st = 2 then x.changes + 1 else x.changes, good := true, items := items } s
  if s.mode = mOFF || s.mode = mBOOT then s
  else if s.tru.running < 2 && (slot s s.tru.running).1 = slTRIAL then put (otherArea s) 2
  else if s.tru.running < 2 then put ((areaIn s 1).getD 0) 1
  else s

/-- Registers as an area's items give them. -/
def restoreItems (items : List (Nat × Word)) (keep : Nat → Bool) (s : State) : State :=
  foldS (fun (x : Nat × Word) t => if keep x.1 then t else t.setReg x.1 (x.2.toNat &&& restoreMask x.1 ||| (t.reg x.1 - (t.reg x.1 &&& restoreMask x.1)))) items s

/-- Step 7: the running firmware reads its settings, or starts on defaults; `keep` names the registers that are not restored (R460, R487). -/
def restoreSettings (keep : Nat → Bool) (s : State) : State :=
  let m := slotMan s s.tru.running
  let fmt := fieldAt m 0xF 1
  let trial := decide (s.tru.running < 2) && (slot s s.tru.running).1 = slTRIAL
  let s := { s with tru := { s.tru with unreadable := false } }
  let s := match areaIn s 1 with
    | none => s
    | some i =>
      let x := area s i
      if x.good && fieldAt m 0x10 1 ≤ x.fmt && x.fmt ≤ fmt then restoreItems x.items keep s
      else raise EV_TRU_SETTINGS_UNREADABLE x.fmt (fieldAt m 0x10 1) { s with tru := { s.tru with unreadable := true } }
  if trial then
    let i := otherArea s
    let x := area s i
    setArea i { fmt := fmt, fw := fieldAt m 8 4, st := 2, changes := if x.st = 2 then x.changes else 0, good := true, items := settingsNow s } s
  else if s.tru.running < 2 then
    match areaIn s 2 with
    | none => s
    | some i =>
      let x := area s i
      let s := if 0 < x.changes then raise EV_TRU_SETTINGS_LOST x.changes x.fw s else s
      setArea i { x with st := 0, changes := 0 } s
  else s

/-! ### Boot selection (R452, R455, R456) -/

/-- The writes of a confirmation after the floor, in order (R456). -/
def confirmRest (k : Nat) (s : State) : State :=
  let s := match slotIn s slCONFIRMED with | some c => setSlotSt c slSUPERSEDED 0 s | none => s
  let s := setSlotSt k slCONFIRMED 0 s
  let s := match areaIn s 2 with
    | some i =>
      let s := match areaIn s 1 with | some c => setArea c { area s c with st := 0 } s | none => s
      setArea i { area s i with st := 1, changes := 0 } s
    | none => s
  raise EV_TRU_CONFIRMED k (slotVer s k) s

/-- Image `k` runs: `TRU_ARITH` shows its generations, and R465 gives the arithmetic generation in force. -/
def runImage (k : Nat) (s : State) : State :=
  let m := slotMan s k
  let lo := fieldAt m 0xC 1
  let hi := fieldAt m 0xD 1
  let ok := decide (lo ≤ s.tru.stored) && decide (s.tru.stored ≤ hi)
  let g := if ok then s.tru.stored else lo
  let s := s.setReg TRU_ARITH (g + 256 * lo + 65536 * hi + 2 ^ 24 * (fieldAt m 0xE 1 % 16))
  let s := { s with tru := { s.tru with running := k, genBoot := g, gens := [] } }
  if ok then s else raise EV_TRU_ARITH_DEFAULTED s.tru.stored lo s

/-- Try the slot in CONFIRMED, then the SAFE region. -/
def bootConfirmed (s : State) : State :=
  let safe (s : State) : State :=
    match slotFails s 2 with
    | 0 => runImage 2 s
    | c => raise EV_TRU_NO_FIRMWARE 0 0 (verifyFailed 2 c { s with tru := { s.tru with running := 3 } })
  if s.tru.safeReq then safe { s with tru := { s.tru with safeReq := false } }
  else
    match slotIn s slCONFIRMED with
    | none => safe s
    | some k =>
      match slotFails s k with
      | 0 => runImage k s
      | c => safe (verifyFailed k c s)

/-- Step 6 of Table 17.4: the ROM tries the slot in TRIAL, the slot in CONFIRMED and the SAFE region, and boots the first that verifies. -/
def bootSelect (s : State) : State :=
  if s.tru.safeReq then bootConfirmed s
  else
    match slotIn s slTRIAL with
    | none => bootConfirmed s
    | some k =>
      let v := slotVer s k
      if v = s.tru.fwFloor then bootConfirmed (confirmRest k s)
      else if (slot s k).2 = 0 then
        let s := bootConfirmed (setSlotSt k slREJECTED 0 s)
        raise EV_TRU_FALLBACK k (fwVersion s) s
      else
        match slotFails s k with
        | 0 => raise EV_TRU_TRIAL_STARTED k v (runImage k (setSlotSt k slTRIAL ((slot s k).2 - 1) s))
        | c => bootConfirmed (verifyFailed k c s)

/-! ### Packages and deltas (R457, R458) -/

/-- The records of a delta: COPY of the base, DATA, END; the number of records, the base, and what has been written. -/
def deltaRun (base : List Byte) : Nat → Nat → List Byte → List Byte → Option (List Byte)
  | 0, _, _, _ => none
  | fuel + 1, n, p, out =>
    if n = 0 then none
    else
      match fieldAt p 0 4 with
      | 1 =>
        let o := fieldAt p 4 4
        let l := fieldAt p 8 4
        if p.length < 16 || base.length < o + l then none else deltaRun base fuel (n - 1) (p.drop 16) (out ++ (base.drop o).take l)
      | 2 =>
        let l := fieldAt p 4 4
        if p.length < 8 + ceilTo l 8 then none else deltaRun base fuel (n - 1) (p.drop (8 + ceilTo l 8)) (out ++ (p.drop 8).take l)
      | 3 => if n = 1 && p.length = 8 then some out else none
      | _ => none

/-- The image that a delta payload gives over `base`, of length `len`. -/
def deltaImage (base payload : List Byte) (len : Nat) : Option (List Byte) :=
  if fieldAt payload 0 4 ≠ 0x544C4458 then none
  else
    match deltaRun base (payload.length + 1) (fieldAt payload 4 4) (payload.drop 8) [] with
    | some out => if out.length = len then some out else none
    | none => none

/-- The check that a package fails, in the order of R457: 1 manifest, 2 floor, 3 digest, 4 base of a delta; 0 it passes. `k` is the slot to be written. -/
def packageFails (k : Nat) (pkg : List Byte) (readOk : Bool) (s : State) : Nat :=
  let m := pkg.take 512
  let len := fieldAt m 0x14 4
  if !(manOk m s) || 16776704 < len || slotSize k < 512 + len || (k = 2 && !(manSafe m)) then 1
  else if fieldAt m 8 4 < (if k = 2 then s.tru.safeFloor else s.tru.fwFloor) then 2
  else if !readOk || pkg.length ≠ 512 + fieldAt m 0x18 4 || sha512 (pkg.drop 512) ≠ manPart m 0xA0 64 then 3
  else if manDelta m && (s.tru.running = 3 || fieldAt m 0x1C 4 ≠ fwVersion s || manPart m 0x60 64 ≠ manPart (slotMan s s.tru.running) 0x20 64) then 4
  else 0

/-- The image of a package: the payload, or what a delta makes of the running image; none where the delta fails. -/
def packageImage (pkg : List Byte) (s : State) : Option (List Byte) :=
  let m := pkg.take 512
  if !(manDelta m) then some (pkg.drop 512)
  else
    let r := s.tru.running
    deltaImage (flashBytes s (slotBase r + 512) (fieldAt (slotMan s r) 0x14 4)) (pkg.drop 512) (fieldAt m 0x14 4)

/-- The slot that WRITE and TRIAL take: the one not running; while SAFE runs, one that is not CONFIRMED. -/
def inactiveSlot (s : State) : Nat :=
  if s.tru.running = 0 then 1 else if s.tru.running = 1 then 0 else if (slot s 0).1 = slCONFIRMED then 1 else 0

/-- The flash is busy or free (R404). -/
def flashBusy (b : Bool) (s : State) : State := s.wf CMX_FLASH_STATUS_BUSY (b2n b)

/-- An image write of slot `k` ends without its commit: the slot is EMPTY. -/
def writeFails (k : Nat) (s : State) : State :=
  setSlotSt k slEMPTY 0 (flashErase (slotBase k) (slotSize k) { (flashBusy false s) with tru := { s.tru with update := none } })

/-- WRITE (`sub` 1) or SAFE_WRITE (`sub` 7) on channel `c`, of the package at HBM address `a`. -/
def updateWrite (c sub a len : Nat) (s : State) : State :=
  let k := if sub = 7 then 2 else inactiveSlot s
  if s.tru.update.isSome then mboxDone c mbBUSY [] s
  else if !(s.mode = mREADY || (sub = 1 && s.mode = mSAFE)) then mboxDone c mbWRONGMODE [] s
  else if a % 64 ≠ 0 || len < 512 then mboxDone c mbBADARG [] s
  else if s.tru.sfdpBad then mboxDone c mbFAILED [EV_TRU_FLASH_UNSAFE.code] (raise EV_TRU_FLASH_UNSAFE sub 0 s)
  else if sub = 1 && (slotIn s slTRIAL).isSome then mboxDone c mbFAILED [] s
  else
    let (r, s) := hbmGet 6 a len s
    let pkg := bytesOf r
    match packageFails k pkg (allBytes r) s with
    | 0 =>
      let body := match packageImage pkg s with | some i => pkg.take 512 ++ i | none => []
      let s := setSlotSt k slWRITING 0 (flashErase (slotBase k) (slotSize k) s)
      let s := { (flashBusy true s) with tru := { s.tru with update := some { ch := c, sub := sub, slot := k, bytes := body } } }
      mboxStep c 0xF sub s
    | 2 =>
      let fl := if k = 2 then s.tru.safeFloor else s.tru.fwFloor
      mboxDone c mbFAILED [EV_TRU_ROLLBACK_REFUSED.code, 2] (rollback (fieldAt pkg 8 4) fl s)
    | n => mboxDone c mbFAILED [0, n] s

/-- FLASH_PROGRAM_END: the slot is read back; `good` says whether the flash holds what was programmed (R457). -/
def programEnd (good : Bool) (s : State) : State :=
  match s.tru.update with
  | none => flashBusy false s
  | some u =>
    let m := u.bytes.take 512
    if !good || u.bytes.isEmpty || sha512 (u.bytes.drop 512) ≠ manPart m 0x20 64 then
      stepEnds 0xF mbFAILED [0, if u.bytes.isEmpty then 5 else 6] (writeFails u.slot s)
    else
      let s := flashPut (slotBase u.slot) u.bytes { (flashBusy false s) with tru := { s.tru with update := none } }
      let s := setSlotSt u.slot slVALID 0 s
      let s := if u.slot = 2 then { s with tru := { s.tru with safeFloor := max s.tru.safeFloor (fieldAt m 8 4) } } else s
      stepEnds 0xF mbOK [] s

/-- CONFIRM (R456). -/
def updateConfirm (c : Nat) (force : Bool) (s : State) : State :=
  let k := s.tru.running
  let v := fwVersion s
  if !(k < 2 && (slot s k).1 = slTRIAL) then mboxDone c mbFAILED [] s
  else if s.tru.unreadable && !force then mboxDone c mbBADARG [] s
  else if v < s.tru.fwFloor then mboxDone c mbFAILED [EV_TRU_ROLLBACK_REFUSED.code] (rollback v s.tru.fwFloor s)
  else mboxDone c mbOK [] (confirmRest k { s with tru := { s.tru with fwFloor := v, unreadable := false } })

/-! ### Registers (R467) -/

def slotStatus (s : State) (k : Nat) : Nat :=
  (slot s k).1 + 16 * (slot s k).2 + 256 * (if slotFull s k then fieldAt (slotMan s k) 0xF 1 else 0)
def truState (s : State) : Nat := s.tru.running + 256 * (slotIn s slCONFIRMED).getD 3

/-- STATUS. -/
def updateStatus (c : Nat) (s : State) : State :=
  mboxDone c mbOK [truState s, slotStatus s 0, slotStatus s 1, slotStatus s 2, slotVer s 0, slotVer s 1] s

/-- Reads of TRU registers. -/
def truRead (off : Nat) (s : State) : Option Nat :=
  match off with
  | 0x8 => some (b2n (decide (s.tru.running < 2) && (slot s s.tru.running).1 = slTRIAL) + 2 * b2n (s.tru.running = 2))
  | 0x100 => some (truState s)
  | 0x120 => some s.tru.fwFloor
  | 0x124 => some s.tru.safeFloor
  | 0x128 => some (s.tru.keyFloor.getD 0 0)
  | 0x12C => some (s.tru.keyFloor.getD 1 0)
  | 0x130 => some (s.tru.keyFloor.getD 2 0)
  | 0x134 => some s.tru.revoke
  | 0x138 => some (s.tru.dieId % 2 ^ 32)
  | 0x13C => some (s.tru.dieId / 2 ^ 32 % 2 ^ 32)
  | 0x144 => some (b2n s.tru.ticketOnly + 256 * s.tru.tickets.length + 2 ^ 15 * b2n s.tru.owner.isSome)
  | 0x14C =>
    let cur := (areaIn s 1).getD 0
    let ch := match areaIn s 2 with | some i => (area s i).changes | none => 0
    some (cur + 256 * ((area s cur).fmt % 256) + 2 ^ 16 * b2n s.tru.unreadable + 2 ^ 20 * min ch 0xFFF)
  | _ =>
    if 0x104 ≤ off && off < 0x11C then
      let k := (off - 0x104) / 8
      some (if (off - 0x104) % 8 = 0 then slotStatus s k else slotVer s k)
    else none

/-! ### Tickets, keys and the debug token (R448, R461 to R463) -/

/-- Install a ticket: a 65th replaces the oldest of its tag, or the oldest. -/
def installTicket (t : Ticket) (s : State) : State :=
  let ts := s.tru.tickets
  let ts := if ts.length < 64 then ts
    else match findIdx? (fun (x : Ticket) => x.tag = t.tag) ts with | some i => ts.eraseIdx i | none => ts.drop 1
  { s with tru := { s.tru with tickets := ts ++ [t] } }

/-- TICKET: 32 bytes are the first owner key, 96 a new key signed by the old, 136 a ticket; TAG 0xF moves the policy (R461, R462). -/
def updateTicket (c a len : Nat) (s : State) : State :=
  if !(len = 32 || len = 96 || len = 136) then mboxDone c mbBADARG [] s
  else
    let (r, s) := hbmGet 6 a len s
    let b := bytesOf r
    let fail (s : State) : State := mboxDone c mbFAILED [] s
    if !(allBytes r) then fail s
    else
      match s.tru.owner with
      | none => if len = 32 then mboxDone c mbOK [] { s with tru := { s.tru with owner := some b } } else fail s
      | some key =>
        if len = 32 then fail s
        else if len = 96 then
          if edVerify key (sha512 (b.take 32)) (b.drop 32) then mboxDone c mbOK [] { s with tru := { s.tru with owner := some (b.take 32) } } else fail s
        else if !(edVerify key (sha512 (b.take 0x48)) (b.drop 0x48)) then fail s
        else
          let d := b.take 64
          let tag := fieldAt b 0x40 1 % 16
          if tag = 15 then mboxDone c mbOK [] { s with tru := { s.tru with ticketOnly := !(d.all (· = 0#8)) } }
          else mboxDone c mbOK [] (installTicket { digest := d, tag := tag, version := fieldAt b 0x44 4 } s)

/-- KEYFLOOR or REVOKE: accepted only when signed by a root that is not revoked, and for a revocation by another than the one revoked. -/
def updateKeys (c : Nat) (q : KeyReq) (s : State) : State :=
  if !q.good || bit s.tru.revoke q.root.val then mboxDone c mbFAILED [] s
  else
    match q.revoke with
    | some r =>
      if r = q.root then mboxDone c mbFAILED [] s
      else mboxDone c mbOK [] { s with tru := { s.tru with revoke := s.tru.revoke ||| 2 ^ r.val } }
    | none =>
      let f := s.tru.keyFloor
      mboxDone c mbOK [] { s with tru := { s.tru with keyFloor := setAt f q.role.val (max (f.getD q.role.val 0) q.serial.toNat) } }

/-- Does the token open debug on this die? -/
def tokenOk (t : List Byte) (s : State) : Bool :=
  let cert := (t.drop 16).take 128
  s.mode = mSAFE && fieldAt t 0 8 = s.tru.dieId && decide (s.hlt.hours < fieldAt t 8 4) && certOk cert 3 s
    && edVerify (cert.take 32) (sha512 (t.take 144)) (t.drop 144)

/-- A word of the debug token; the last one is followed by the check (R463). -/
def tokenWrite (i v : Nat) (s : State) : State :=
  let s := { s with tru := { s.tru with token := sset 0#32 s.tru.token i (BitVec.ofNat 32 v) } }
  if i ≠ 51 then s
  else
    let t := (List.range 52).flatMap (fun j => leBytes 4 (sget 0#32 s.tru.token j).toNat)
    let s := { s with tru := { s.tru with token := [] } }
    if tokenOk t s then raise EV_TRU_DEBUG_OPENED (fieldAt t 8 4) (fieldAt t (16 + 0x24) 4) (s.setReg TRU_DEBUG 3) else s

/-! ### Recovery (R452) -/

/-- Is the part held in BOOT with no verifiable firmware? -/
def noFirmware (s : State) : Bool := s.mode = mBOOT && s.tru.running = 3

/-- A word of a recovery package goes to the staging area. -/
def recData (v : Nat) (s : State) : WOut :=
  if !(noFirmware s) then refuse uTRU 0x304 cSTATE s
  else if s.tru.sfdpBad then ⟨false, raise EV_TRU_FLASH_UNSAFE 0 0 s⟩
  else if stagingSize ≤ 4 * s.tru.recWords then refuse uTRU 0x304 cCAPACITY s
  else acc (flashPut (stagingBase + 4 * s.tru.recWords) (leBytes 4 v) { s with tru := { s.tru with recWords := s.tru.recWords + 1 } })

/-- The package in the staging area. -/
def recPackage (s : State) : List Byte := flashBytes s stagingBase (4 * s.tru.recWords)

/-- The check that the recovery package fails; 0 it verifies. -/
def recFails (s : State) : Nat :=
  let p := recPackage s
  let m := p.take 512
  let n := fieldAt m 0x18 4
  let q := p.take (512 + n)
  if !(manSafe m) || manDelta m then 1
  else
    match packageFails 2 q (decide (512 + n ≤ p.length)) s with
    | 0 => if sha512 (q.drop 512) ≠ manPart m 0x20 64 then 2 else 0
    | c => c

/-- The verified package is copied to the SAFE region. -/
def recCopy (s : State) : State :=
  let p := recPackage s
  let n := fieldAt p 0x18 4
  let s := flashPut (slotBase 2) (p.take (512 + n)) (flashErase (slotBase 2) (slotSize 2) s)
  setSlotSt 2 slVALID 0 { s with tru := { s.tru with recWords := 0 } }

end Sys2Proof.Machine
end

