-- ==== Sys2Proof/Machine/Waymarks.lean ====
section
/-!
DEFINITION. Waymarks at the acting units: arrival, the store of 64, lateness, application by kind (R49 to R62, R489), and the epoch with the internal
PPS edge that begins it (R40, R369, R488).
-/

namespace Sys2Proof.Machine

/-! ### Grains and positions (R54, R55) -/

/-- The first grain boundary of unit `u` at or after sample index `a`. -/
def markBoundary (s : State) (u a : Nat) : Nat :=
  match u with
  | 3 => ceilTo a 256
  | 4 => ceilTo a (chnHop s)
  | 17 => ceilTo a (2 ^ s.rf TRP_CFG_WIN_LOG2 * trpD s)
  | 5 | 7 | 9 | 10 => ceilTo a (stgHop s)
  | _ => a

/-- The next grain boundary that unit `u` reaches. -/
def markPos (s : State) (u : Nat) : Nat :=
  match u with
  | 3 => decPos s
  | 4 => s.chn.slots.foldl (fun a x => if x.2.begun then max a (x.2.next * chnHop s * x.2.d) else a) 0
  | 17 => match s.trp.win with | some k => k * 2 ^ s.rf TRP_CFG_WIN_LOG2 * trpD s | none => 0
  | 5 => rsyPos s * stgHop s
  | 7 | 9 | 10 => stgPos s * stgHop s
  | _ => 0

/-! ### What each unit acts on (Table 2.8) -/

/-- Does unit `u` act on this kind from its store? -/
def unitActs (u kind : Nat) : Bool :=
  match u with
  | 3 => [wFLUSH, wHALT, wRESUME, wVOIDRUN, wGEN, wPROBE].contains kind
  | 4 => [wFLUSH, wGAIN, wGEN, wPROBE].contains kind
  | 17 => [wFLUSH, wWSWAP, wGEN, wPROBE].contains kind
  | 5 => [wFLUSH, wHALT, wRESUME, wGEN].contains kind
  | 7 => stgActs kind || kind = wPROBE
  | 9 => [wWSWAP, wGEN, wPROBE].contains kind
  | 10 => [wDUMP, wSTEP, wCAL, wGEN, wPROBE].contains kind
  | _ => false

/-- Does the scope cover anything that unit `u` serves (R489)? GEN and PROBE concern the unit itself. -/
def unitCovers (s : State) (u : Nat) (w : Waymark) : Bool :=
  w.kind = wGEN || w.kind = wPROBE || w.kind = wSTEP ||
  match u with
  | 3 => !(slotsInScope s w.scope).isEmpty
  | 4 => chnCovers s w.scope
  | 17 => (trpStreams s).any (fun x => scopeCoversStream s w.scope (s.reg (DEC_STREAM_ID x.2)))
  | 5 => (enSlices s).any (fun n => (beamPlan s (sliceBeam s n)).any (scopeCoversPlan s w.scope))
  | 7 => !(stgSlots s w.scope).isEmpty
  | 9 => (List.range 16).any (scopeCoversPlan s w.scope)
  | 10 => !(scopePlans s w.scope).isEmpty
  | _ => false

/-- A FLUSH, HALT or RESUME at the resynthesiser, in spectra (Table 2.10). -/
def rsyApply (w : Waymark) (s : State) : State :=
  let sp := specOf s w.anchor
  if w.kind = wGEN then genApply w s
  else
    let vs :=
      if w.kind = wFLUSH then s.rsy.voids ++ [(w.scope, 0, some sp)]
      else if w.kind = wHALT then s.rsy.voids ++ [(w.scope, sp, none)]
      else s.rsy.voids.map (fun v => if v.1 = w.scope && v.2.2.isNone then (v.1, v.2.1, some sp) else v)
    { s with rsy := { s.rsy with voids := vs } }

/-- A calibration window at accumulation (R52). -/
def calWindow (w : Waymark) (s : State) : State :=
  let sp := specOf s w.anchor
  { s with acc := { s.acc with cals := (sp, sp + w.arg) :: s.acc.cals } }

/-- A generation at accumulation (R465); a calibration window stands since its arrival. -/
def accApply (w : Waymark) (s : State) : State := if w.kind = wGEN then genApply w s else s

/-- The effect of waymark `w` at unit `u`. -/
def unitApply (u : Nat) (w : Waymark) (s : State) : State :=
  match u with
  | 3 => if w.kind = wGEN then genApply w s else decApply w (ceilTo w.anchor 256) s
  | 4 => if w.kind = wGEN then genApply w s else chnApply w w.anchor s
  | 17 => if w.kind = wGEN then genApply w s else trpMark w s
  | 5 => rsyApply w s
  | 7 => stgApply w s
  | 9 => if w.kind = wGEN then genApply w s else xarApply w s
  | 10 => accApply w s
  | _ => s

/-- Hand a waymark on from unit `u` unchanged: from staging with its sub-block, from accumulation onto its ports. -/
def handOn (u : Nat) (w : Waymark) (s : State) : State :=
  if u = uGRT then grtMark w s
  else if u = uSTG && !(waymarkControl w.kind) && !(stgStopped s) then stgForward w s
  else if u = uACC then
    let s := accCarry w s
    if waymarkControl w.kind then passMark uACC w s else s
  else passMark u w s

/-- Apply `w` at unit `u`: recorded, acknowledged and, if of data class, handed on. -/
def applyAt (u : Nat) (w : Waymark) (s : State) : State :=
  let s := noteApplied u w (unitApply u w s)
  if waymarkControl w.kind then s else handOn u w s

/-- The held waymarks of unit `u` that are due, in order of application. -/
def dueMarks (s : State) (u : Nat) : List Waymark :=
  ((heldBy s u).filter (fun w => decide (markBoundary s u w.anchor ≤ markPos s u))).foldl (fun l w => markInsert w l) []

/-- Unit `u` applies the first held waymark due, if it is of this kind. -/
def applyKind (u kind : Nat) (s : State) : State :=
  match dueMarks s u with
  | w :: _ => if w.kind = kind && unitActs u kind then applyAt u w (setHeld u ((heldBy s u).erase w) s) else s
  | [] => s

/-! ### Epoch (R40, R97, R488) -/

/-- The units that discard what the old index anchored. -/
def epochUnits : List Nat := [uDEC, uCHN, uRSY, uGRT, uSTG, uBRG, uXAR, uACC, uTRP]

/-- A pending START ends STOPPED and a pending STOP is forgotten, at a unit whose state field is given. -/
def dropStartStop (f : Field) (s : State) : State :=
  if s.rf f = stSTARTING then s.wf f stSTOPPED else if s.rf f = stSTOPPING then s.wf f stRUNNING else s

/-- The discards of R488 at unit `u`. -/
def epochDiscard (u : Nat) (s : State) : State :=
  let s := setHeld u [] { s with wm := { s.wm with waiting := s.wm.waiting.filter (fun x => decide (x.1 ≠ u)) } }
  let reopen (v : List (Nat × Option Nat)) : List (Nat × Option Nat) := (v.filter (·.2.isNone)).map (fun _ => (0, none))
  match u with
  | 3 => { s with dec := { s.dec with slots := s.dec.slots.map (fun x =>
      (x.1, { x.2 with pendReset := none, voidRuns := [], flushBelow := 0, halts := reopen x.2.halts })) } }
  | 4 =>
    let s := dropStartStop CHN_STATE_STATE s
    { s with chn := { s.chn with startAt := none, stopAt := none, switches := [(0, s.rf CHN_GAIN_CFG_ACTIVE_BANK)] } }
  | 5 =>
    let s := dropStartStop ⟨RSY_STATE, 0, 2⟩ s
    { s with rsy := { s.rsy with startAt := none, stopAt := none, voids := (s.rsy.voids.filter (·.2.2.isNone)).map (fun v => (v.1, 0, none)) } }
  | 6 => { s with grt := { s.grt with pend := none, prev := none, since := 0, seen := 0 } }
  | 7 =>
    let s := dropStartStop ⟨STG_STATE, 0, 2⟩ s
    let b := stgBankAt s (stgPos s)
    { s with stg := { s.stg with
        startAt := none, stopAt := none, models := [], outMarks := [], cals := [], gainSw := if b = 0 then [] else [(0, b)]
        voids := (s.stg.voids.map (fun x => (x.1, reopen x.2))).filter (fun x => !x.2.isEmpty) } }
  | 8 => { s with brg := { s.brg with armed := none } }
  | 9 => { s with xar := { s.xar with switches := [(0, s.rf XAR_WG_STATE_ACTIVE_BANK)], lates := [] } }
  | 10 =>
    let s := foldS (fun p t =>
      let t := abortInteg p stABORTED t
      t.setAplan p { t.aplan p with dumps := [], lates := [], rows := [], began := none }) (List.range 16) s
    { s with acc := { s.acc with cals := [] } }
  | 17 => { s with trp := { s.trp with
      beams := [], hist := [], inQ := [], from_ := 0, win := none, caps := [], ringNext := none, ringStart := 0 } }
  | _ => s

/-- The EPOCH waymark's own effect at unit `u`: the decimators see it and reset every enabled slot at index 0 (R40, R97). -/
def epochApply (u : Nat) (s : State) : State :=
  if u = uDEC then
    let s := { s with mer := { s.mer with epochSeen := true } }
    let s := { s with frm := { s.frm with flows := s.frm.flows.map (fun x => (x.1, { x.2 with fresh := true })) } }
    foldS (fun j t => syncReset j 0 t) (enabledSlots s) s
  else if u = uBRG then brgRenumber s
  else s

/-- An EPOCH waymark reaches unit `u`: refused outside READY and CALIBRATE, or when late; otherwise the unit makes its discards, unless the
meridian's edge has made them, and applies it. -/
def epochMark (u : Nat) (w : Waymark) (s : State) : State :=
  if (s.mode ≠ mREADY && s.mode ≠ mCALIBRATE) || (!(s.mer.epochDone.contains u) && decide (markBoundary s u w.anchor < markPos s u)) then
    logOpen u 4 .fault (w.anchor % 2 ^ 32) w.arg s
  else
    let s := if s.mer.epochDone.contains u then { s with mer := { s.mer with epochDone := s.mer.epochDone.erase u } } else epochDiscard u s
    handOn u w (noteApplied u w (epochApply u s))

/-- The sample index of the last internal PPS edge. -/
def edgeIndex (s : State) : Nat := u64 (s.mer.edges * 1000 * s.reg MER_FS)

/-- The sample index restarts at zero and the event outputs stop. -/
def epochZero (s : State) : State :=
  let s := { s with mer := { s.mer with pend := none, idx := 0, frac := 0, edges := 0, epochDone := epochUnits } }
  let s := (s.wf MER_STATE_IDX_VALID 1).wf MER_STATE_EPOCH_PENDING 0
  foldS (fun k t => t.wf (TIM_EVT_CFG_EN k) 0) (List.range 4) { s with tim := { s.tim with evtNext := [] } }

/-- The EPOCH waymark sets out, and what hung on the old indices ends. -/
def epochSend (label : Nat) (s : State) : State :=
  let s := { s with tru := { s.tru with gens := [], genBoot := s.rf TRU_ARITH_IN_FORCE } }
  let w : Waymark := { kind := wEPOCH, flags := 0, scope := 0, anchor := 0, arg := label % 2 ^ 32 }
  { s with wm := { s.wm with applied := [], transit := s.wm.transit ++ [(uDEC, w), (uRSY, w), (uBRG, w)] } }

/-- The edge that begins the named second (R369): index 0, event outputs disabled, every unit's discards, and the waymark. -/
def epochBegin (label : Nat) (s : State) : State :=
  raise EV_MER_EPOCH_SET label 0 (epochSend label (foldS epochDiscard epochUnits (epochZero s)))

/-- Drop the pending epoch with a cause of Table 15.9. -/
def epochDrop (c label : Nat) (s : State) : State :=
  raise EV_MER_EPOCH_REFUSED c label ({ s with mer := { s.mer with pend := none } }.wf MER_STATE_EPOCH_PENDING 0)

/-- The checks of a pending epoch at an internal edge (R369). -/
def epochEdge (s : State) : State :=
  match s.mer.pend with
  | none => s
  | some l =>
    if s.mode ≠ mREADY && s.mode ≠ mCALIBRATE then epochDrop 5 l s
    else if epochBusy s then epochDrop 4 l s
    else if l < timSec s then epochDrop 6 l s
    else if timSec s = l then epochBegin l s
    else s

/-- New offsets that take effect at this edge; an edge that would come less than half a period after the one before is omitted (R370). -/
def offsetEdge (s : State) : State :=
  let due := s.mer.newOffs.filter (fun x => decide (x.2.2 ≤ 1))
  let s := { s with mer := { s.mer with newOffs := (s.mer.newOffs.filter (fun x => decide (1 < x.2.2))).map (fun x => (x.1, x.2.1, x.2.2 - 1)) } }
  foldS (fun (x : Nat × Int × Nat) t =>
    let old := offsetOf t x.1
    -- half of the output's period in 2 ps steps, doubled: 1 s, or MER_FRAME_PERIOD samples of MER_FS kHz
    let period : Int := if x.1 < 4 then 500000000000 else ((t.reg MER_FRAME_PERIOD * 500000000 / max 1 (t.reg MER_FS) : Nat) : Int)
    let t := { t with mer := { t.mer with offs := sset 0 t.mer.offs x.1 x.2.1 } }
    if 2 * (period + x.2.1 - old) < period then { t with mer := { t.mer with skip := sset false t.mer.skip x.1 true } } else t) due s

/-- The PPS outputs' edges (R370, R371). -/
def ppsEdge (s : State) : State :=
  foldS (fun n t =>
    if !(drivesClocks t) || !(bit (t.reg MER_OUT_EN) n) then t
    else if sget false t.mer.skip n then { t with mer := { t.mer with skip := sset false t.mer.skip n false } }
    else t.emit (.pps n (offsetOf t n))) (List.range 4) s

/-- INTERNAL_PPS_EDGE (R369, R370, R373, R378). -/
def internalEdge (s : State) : State :=
  if s.mode = mOFF then s
  else
    let s := timEdge s
    let s := { s with mer := { s.mer with edges := s.mer.edges + 1, since := 0 } }
    let s := if s.rf MER_STATE_IDX_VALID = 1 then { s with mer := { s.mer with idx := edgeIndex s, frac := 0 } } else s
    epochEdge (ppsEdge (offsetEdge s))

/-! ### Arrival (R50, R52, R57, R58) -/

/-- Is the waymark one that every unit discards: a reserved kind or scope (R50, R52)? -/
def markReserved (w : Waymark) : Bool :=
  w.kind = 0 || decide (15 < w.kind) || decide (2 < scopeType w.scope) || (scopeType w.scope = 0 && decide (scopeValue w.scope ≠ 0))

/-- Results whose span holds the late boundary carry a flag (R57). -/
def noteLate (w : Waymark) (s : State) : State :=
  foldS (fun p t => t.setAplan p { t.aplan p with lates := specOf t w.anchor :: (t.aplan p).lates }) (scopePlans s w.scope) s

/-- Store a waymark at unit `u`, late ones rewritten to the next boundary (R55, R57); a control-class one goes on at once. -/
def storeMark (u : Nat) (w : Waymark) (s : State) : State :=
  let pos := markPos s u
  let now := w.anchor = nowAnchor
  let late := !now && decide (markBoundary s u w.anchor < pos)
  if late && w.kind = wGEN then logOpen u 4 .fault (w.anchor % 2 ^ 32) w.arg s
  else
    let w := if now then { w with anchor := pos } else if late then { w with anchor := pos, flags := w.flags ||| 8 } else w
    let s := if late then noteLate w (logOpen u 0 .warn (markArgs w).1 (markArgs w).2 s) else s
    let s := if waymarkControl w.kind then handOn u w s else s
    -- a calibration window is known at accumulation before its first spectrum comes
    let s := if u = uACC && w.kind = wCAL then calWindow w s else s
    setHeld u (heldBy s u ++ [w]) s

/-- A waymark with room in the store, or that needs none, is taken by unit `u`. -/
def takeMark (u : Nat) (w : Waymark) (s : State) : State :=
  if u = uSTG && w.kind = wMODEL then handOn u w (noteApplied u w (stgModel w s))
  else if u = uXAR && unitActs u w.kind && !(waymarkControl w.kind) then xarArrive (stgPos s) w s
  else if u = uACC && w.kind = wDUMP then dumpArrive w s
  else if (u = uSTG && stgStopped s) || !(unitActs u w.kind) || !(unitCovers s u w) then handOn u w s
  else storeMark u w s

/-- Does the waymark need a place in the store of unit `u`? -/
def needsPlace (s : State) (u : Nat) (w : Waymark) : Bool :=
  unitActs u w.kind && unitCovers s u w && !(u = uSTG && stgStopped s)

/-- Unit `u` meets waymark `w` (R58). -/
def meetMark (u : Nat) (w : Waymark) (s : State) : State :=
  if markReserved w then logOpen u 2 .warn w.kind w.scope s
  else if w.kind = wEPOCH then epochMark u w s
  else if needsPlace s u w && decide (64 ≤ (heldBy s u).length) then
    if waymarkControl w.kind then logOpen u 1 .fault (markArgs w).1 (markArgs w).2 s
    else { s with wm := { s.wm with waiting := s.wm.waiting ++ [(u, w)] } }
  else takeMark u w s

/-- WAYMARK_ARRIVE at unit `u`: one that waits and now has room, otherwise the next on its way, control-class ones first (R60). -/
def markArrive (u : Nat) (s : State) : State :=
  let mine := s.wm.transit.filter (fun x => x.1 = u)
  let next := match mine.find? (fun x => waymarkControl x.2.kind) with | some x => some x | none => mine.head?
  match s.wm.waiting.find? (fun x => x.1 = u) with
  | some x =>
    if (heldBy s u).length < 64 then takeMark u x.2 { s with wm := { s.wm with waiting := s.wm.waiting.erase x } }
    else
      match next with
      | some y => if waymarkControl y.2.kind then meetMark u y.2 { s with wm := { s.wm with transit := s.wm.transit.erase y } } else s
      | none => s
  | none =>
    match next with
    | some y => meetMark u y.2 { s with wm := { s.wm with transit := s.wm.transit.erase y } }
    | none => s

/-- The next waymark of one kind on its way to unit `u` is met. -/
def meetKind (u kind : Nat) (s : State) : State :=
  match s.wm.transit.find? (fun x => x.1 = u && x.2.kind = kind) with
  | some y => meetMark u y.2 { s with wm := { s.wm with transit := s.wm.transit.erase y } }
  | none => s

/-- A PROBE due at unit `u`, at the arrays with their tag and index (R187). -/
def probeMark (u : Nat) (s : State) : State := applyKind u wPROBE s

/-! ### Meanings -/

/-- EPOCH_WAYMARK -/
def execEpochWaymark (unit : Fin 21) (s : State) : Host.Outcome State Fault Refusal := .next (meetKind unit.val wEPOCH s)
/-- DUMP_WAYMARK -/
def execDumpWaymark (plan : Fin 16) (s : State) : Host.Outcome State Fault Refusal := .next (applyDump plan.val s)
/-- FLUSH_WAYMARK -/
def execFlushWaymark (unit : Fin 21) (s : State) : Host.Outcome State Fault Refusal := .next (applyKind unit.val wFLUSH s)
/-- GAIN_WAYMARK -/
def execGainWaymark (unit : Fin 21) (s : State) : Host.Outcome State Fault Refusal := .next (applyKind unit.val wGAIN s)
/-- WSWAP_WAYMARK -/
def execWswapWaymark (unit : Fin 21) (s : State) : Host.Outcome State Fault Refusal := .next (applyKind unit.val wWSWAP s)
/-- HALT_WAYMARK -/
def execHaltWaymark (unit : Fin 21) (s : State) : Host.Outcome State Fault Refusal := .next (applyKind unit.val wHALT s)
/-- RESUME_WAYMARK -/
def execResumeWaymark (unit : Fin 21) (s : State) : Host.Outcome State Fault Refusal := .next (applyKind unit.val wRESUME s)
/-- VOIDRUN_WAYMARK -/
def execVoidrunWaymark (unit : Fin 21) (s : State) : Host.Outcome State Fault Refusal := .next (applyKind unit.val wVOIDRUN s)
/-- TRIG_WAYMARK -/
def execTrigWaymark (s : State) : Host.Outcome State Fault Refusal := .next (meetKind uACC wTRIG s)
/-- GEN_WAYMARK -/
def execGenWaymark (unit : Fin 21) (s : State) : Host.Outcome State Fault Refusal := .next (applyKind unit.val wGEN s)
/-- MODEL_WAYMARK -/
def execModelWaymark (s : State) : Host.Outcome State Fault Refusal := .next (meetKind uSTG wMODEL s)
/-- CAL_WAYMARK -/
def execCalWaymark (unit : Fin 21) (s : State) : Host.Outcome State Fault Refusal := .next (applyKind unit.val wCAL s)
/-- PROBE_WAYMARK -/
def execProbeWaymark (unit : Fin 21) (s : State) : Host.Outcome State Fault Refusal := .next (probeMark unit.val s)
/-- WAYMARK_ARRIVE -/
def execWaymarkArrive (unit : Fin 21) (s : State) : Host.Outcome State Fault Refusal := .next (markArrive unit.val s)
end Sys2Proof.Machine
end

