-- ==== Sys2Proof/Machine/Modes.lean ====
section
/-! DEFINITION. Modes: requests, transitions, power-up, warm boot, STANDBY, the way out of a data mode, and OFF (R411 to R426, R472 to R475, R487). -/

namespace Sys2Proof.Machine

/-! ### OFF and reset (R29, R30, R473, R474, R487) -/

/-- The trust unit's fixed parts and the trust region, which a reset keeps. -/
def truKept (t : TruSt) : TruSt :=
  { t with gens := [], genBoot := 0, running := 3, unreadable := false, recWords := 0, token := [], update := none, sfdpBad := false, safeReq := t.safeReq }

/-- What OFF keeps of a state. -/
def offState (s : State) : State :=
  let r := State.reset
  let t : State := { r with
    regs := s.regs.filter (fun x => x.1 = HLT_LOG_HEAD || x.1 = HLT_LOG_READ)
    hlt := { r.hlt with logRing := s.hlt.logRing, logHead := s.hlt.logHead, closing1 := s.hlt.closing1, closing2 := s.hlt.closing2, start := s.hlt.start
                        cause30 := s.hlt.cause30, thermal := s.hlt.thermal, supplyFault := s.hlt.supplyFault
                        hours := s.hlt.hours, tj := s.hlt.tjStored, tjStored := s.hlt.tjStored }
    mem := { r.mem with bench := s.mem.bench, retired := s.mem.retired }
    tru := truKept s.tru
    out := s.out, pending := s.pending }
  t.setReg HLT_MODE 0

/-- Enter OFF: every unit is reset and every output rests; the settings store, the flash and the die stay. -/
def enterOff (s : State) : State :=
  let s := pinsRest s
  offState (if s.rf HLT_STATUS_ACT = 1 then s.emit (.twinAct false) else s)

/-- Is a register kept by a warm boot: of the meridian and the time service, the mode and log registers, and the link's? -/
def warmKeeps (a : Nat) : Bool :=
  a / 0x1000000 = 15 || a / 0x1000000 = 16 || [HLT_MODE, HLT_LOG_HEAD, HLT_LOG_READ, CMX_PCIE_STATUS, CMX_FLASH_STATUS].contains a

/-- The reset of a warm boot (R487). -/
def warmReset (s : State) : State :=
  let s := pinsRest s
  let r := State.reset
  let t : State := { r with
    regs := s.regs.filter (fun x => warmKeeps x.1)
    mer := s.mer, tim := s.tim
    hlt := { r.hlt with logQ := s.hlt.logQ, logLossOpen := s.hlt.logLossOpen, logRing := s.hlt.logRing, logHead := s.hlt.logHead
                        closing1 := s.hlt.closing1, closing2 := s.hlt.closing2, start := s.hlt.start
                        cause30 := s.hlt.cause30, hours := s.hlt.hours, tj := s.hlt.tj, tjStored := s.hlt.tjStored }
    mem := { r.mem with bench := s.mem.bench, retired := s.mem.retired }
    tru := { (truKept s.tru) with sfdpBad := s.tru.sfdpBad }
    cmx := { r.cmx with bars := s.cmx.bars, cfgReady := s.cmx.cfgReady, lastSeq := s.cmx.lastSeq, lastReply := s.cmx.lastReply, smbSeq := s.cmx.smbSeq
                        smbReply := s.cmx.smbReply, tap := s.cmx.tap, voutExp := s.cmx.voutExp }
    out := s.out, pending := s.pending }
  let t := (t.wf CMX_STATUS_LINK_UP (s.rf CMX_STATUS_LINK_UP)).wf HLT_STATUS_PEER_ACT (s.rf HLT_STATUS_PEER_ACT)
  t.setReg GRT_CHIP s.tru.chipId

/-! ### Commits (R411) -/

/-- `HLT_TWIN_STATUS.ROLE`: active while `TWIN_ACT` is high, standby in SHADOW. -/
def roleShow (s : State) : State :=
  s.wf HLT_TWIN_STATUS_ROLE (if s.rf HLT_BASIC_TWIN_EN = 0 then 0 else if s.rf HLT_STATUS_ACT = 1 then 1 else if s.mode = mSHADOW then 2 else 0)

/-- Drive `TWIN_ACT`. -/
def driveAct (high : Bool) (s : State) : State :=
  if s.rf HLT_STATUS_ACT = b2n high then s
  else roleShow ((({ s with hlt := { s.hlt with ownAge := 0 } }).wf HLT_STATUS_ACT (b2n high)).emit (.twinAct high))

/-- MODE becomes `m`: debug closes, MODE_CHANGED is raised with its cause, and the trig point follows (R411, R416, R463). -/
def commitMode (m cause : Nat) (s : State) : State :=
  let old := s.mode
  let s := ((s.wf HLT_MODE_MODE m).wf HLT_MODE_PREVIOUS old).setReg TRU_DEBUG 0
  roleShow (trpModeChanged (raise EV_HLT_MODE_CHANGED (m + 4096 * old) cause s))

/-! ### Replies (R412, R413) -/

/-- Answer a request from `src` (0 the register path, c + 1 mailbox channel c; an armed action and the part itself get none). -/
def modeReply (src m status cause : Nat) (res : List Nat) (s : State) : State :=
  if 4 ≤ src then s
  else
    let held := match s.hlt.trans with | some t => t.src = 0 | none => false
    let s := s.setReg HLT_MODE_RESULT (status + 256 * b2n held + 4096 * m + 65536 * cause)
    if src = 0 then s else mboxDone (src - 1) status res s

/-- The status that Table 17.3 gives for a cause. -/
def causeStatus (c : Nat) : Nat := match c with | 1 => mbWRONGMODE | 2 => mbBUSY | 6 => mbBADARG | _ => mbFAILED

/-- A refused request (R412). -/
def modeRefuse (src m cause : Nat) (s : State) : State :=
  let st := causeStatus cause
  modeReply src m st cause (if st = mbFAILED then [EV_HLT_MODE_REFUSED.code, cause] else []) (raise EV_HLT_MODE_REFUSED m cause s)

/-- The cause that MODE_CHANGED gives for a requester: 0 the host, 4 the armed-action table. -/
def srcCause (src : Nat) : Nat := if src = 4 then 4 else 0

/-- A transition begins and is not yet over. -/
def transBegin (t : Trans) (s : State) : State :=
  let s := ({ s with hlt := { s.hlt with trans := some t } }.wf HLT_MODE_TRANSITION 1).wf HLT_MODE_TARGET t.target
  if t.src = 0 then s.setReg HLT_MODE_RESULT (256 + 4096 * t.target)
  else if t.src ≤ 3 then mboxStep (t.src - 1) 2 t.target s
  else s

/-- The transition in progress is over, with `status` to its requester. -/
def transEnd (status cause : Nat) (res : List Nat) (s : State) : State :=
  match s.hlt.trans with
  | none => s
  | some t =>
    let s := ({ s with hlt := { s.hlt with trans := none } }.wf HLT_MODE_TRANSITION 0).wf HLT_MODE_TARGET 0
    modeReply t.src t.target status cause res s

/-! ### STANDBY (R420 to R422) -/

/-- Idle every ACTIVE lane, and note which (R420). -/
def idleLanes (inProgress : Bool) (s : State) : State :=
  let ls := (List.range 96).filter (fun n => (s.lane n).tx = lACTIVE)
  let s := { s with lns := { s.lns with stbyIdled := ls } }
  foldS (fun n t => idleEnter n inProgress false (t.wf (LNS_LANE_CTRL_IDLE n) 1)) ls s

/-- The lanes that the entry idled leave idle. -/
def wakeLanes (sleepSent : Bool) (s : State) : State :=
  foldS (fun n t => idleExitRequest n sleepSent (t.wf (LNS_LANE_CTRL_IDLE n) 0)) s.lns.stbyIdled s

def bothStacks (s : State) (st : Nat) : Bool := stackSt s 0 = st && stackSt s 1 = st

/-- Are the data-path units stopped and the arrays not busy (R420)? -/
def dataStopped (s : State) : Bool :=
  s.rf CHN_STATE_STATE = 0 && stgStopped s && rsyStopped s && s.atl.arrays.all (fun x => x.2.empty)

/-! ### The closing survey (R423) -/

/-- The survey begins: every lane driver is squelched, the outputs of R371 rest, and the steps run in order. -/
def closingBegin (s : State) : State :=
  let s := foldS disableLane (List.range 96) (pinsRest (driveAct false s))
  surveyBegin 0 (fwVersion s) (stepRange 1 158) s

/-! ### Out of a data mode (R415) -/

/-- A host drain of plan `p` (R206). -/
def drainPlan (p : Nat) (s : State) : State := { s with wm := { s.wm with transit := s.wm.transit ++ [(uSTG, hostDump s p)] } }

/-- Step 1 and 2: drains of the busy plans, and every surveyor core is stopped. -/
def exitStart (s : State) : State := svyStopAll (foldS drainPlan ((List.range 16).filter (planBusy s)) s)

/-- The transition is over: a part that goes on to CLOSING runs its survey. -/
def exitFinish (s : State) : State :=
  match s.hlt.trans with
  | none => s
  | some t => (if t.target = mCLOSING then closingBegin else driveAct false) (transEnd mbOK 0 [] s)

/-- READY_EXIT_PROGRESS: with every operation retired and every core halted, further drains and NOW stops; with every TAIL sent, the end. -/
def exitAdvance (s : State) : State :=
  match s.hlt.trans with
  | none => s
  | some t =>
    if !t.committed then s
    else if t.step = 1 then
      if s.svy.cores.any (fun x => x.2.active) || !(s.atl.queue.isEmpty) || !(s.atl.ops.isEmpty) then s
      else
        let s := foldS drainPlan ((List.range 16).filter (fun p => !((s.aplan p).blocks.isEmpty))) s
        let s := rsyStop true (stgStop true (chnStop true s))
        { s with hlt := { s.hlt with trans := some { t with step := 2 } } }
    else if t.step = 2 then
      if (List.range 16).any (planBusy s) then s else exitFinish s
    else s

/-- Transitions that wait on the memory stacks or on trainings commit as soon as they may (R413, R420, R422, R423). -/
def modeSettle (s : State) : State :=
  match s.hlt.trans with
  | none => s
  | some t =>
    if t.committed then if t.step = 9 && bothStacks s smACTIVE then exitFinish s else s
    else if t.target = mSTANDBY then
      if bothStacks s smSELF then transEnd mbOK 0 [] (commitMode mSTANDBY t.cause s) else s
    else if t.target = mREADY && s.mode = mSTANDBY then
      if bothStacks s smACTIVE then transEnd mbOK 0 [] (commitMode mREADY t.cause s) else s
    else if t.target = mREADY && s.mode = mCALIBRATE then
      if s.mem.training.isEmpty && s.cmx.train.isNone then transEnd mbOK 0 [] (commitMode mREADY t.cause s) else s
    else s

/-! ### Power-up and warm boot (R417 to R419, R487) -/

/-- Step 7's report of the causes of R30. -/
def report30 (s : State) : State :=
  match s.hlt.cause30 with
  | none => s
  | some (k, n) =>
    raise (if k = 1 then EV_HLT_THERMAL_SHUTDOWN else EV_HLT_SUPPLY_FAULT_RESET) n 0 { s with hlt := { s.hlt with cause30 := none } }

/-- Enabled decimator slots start with their restored setting at the first synchronising reset. -/
def restoreSlots (s : State) : State := s

/-- Full training of every pseudo-channel (step 8), with the best margins found. -/
def bootTrain (margins : List (BitVec 16)) (s : State) : State := foldS (fun n t => trainPc n (margins.getD n 0#16).toNat t) (trainSet s) s

/-- The end of boot: BOOT becomes READY. -/
def bootReady (s : State) : State := commitMode mREADY 6 s

/-- Step 9: the start tests; a boot that runs none still writes its START record (R418). -/
def bootTests (s : State) : State :=
  let todo := startSteps (fwVersion s) s
  let s := surveyBegin 1 (fwVersion s) todo s
  if todo.isEmpty then bootReady (surveyEnd 0 s) else s

/-- Steps 6 to 10: `cold` for a boot from OFF, whose record of OFF to BOOT is logged once firmware runs; `keep` names the registers not restored. -/
def bootRun (cold : Bool) (margins : List (BitVec 16)) (keep : Nat → Bool) (s : State) : State :=
  let s := bootSelect s
  if s.tru.running = 3 then s
  else
    let s := if cold then raise EV_HLT_MODE_CHANGED mBOOT 6 s else s
    let s := bootTrain margins (restoreSlots (report30 (restoreSettings keep s)))
    if s.tru.running = 2 then commitMode mSAFE 6 s else bootTests s

/-- The mailbox channel whose command started the warm boot stays in flight (R487). -/
def keepChannel (src : Nat) (old s : State) : State :=
  if src = 0 || 4 ≤ src then s
  else foldS (fun a t => t.setReg a (old.reg a)) (rangeFrom 0 19 |>.map (fun k => CMX_MBOX_CMD (src - 1) + 4 * k)) s

/-- A warm boot, whose commit is the release of the management core; its command completes once the new firmware has started. -/
def warmBoot (src : Nat) (margins : List (BitVec 16)) (s : State) : State :=
  let s := commitMode mBOOT (srcCause src) s
  let s := keepChannel src s (warmReset s)
  let s := bootRun false margins (fun a => a / 0x1000000 = 15 || a / 0x1000000 = 16) s
  if s.tru.running = 3 then s else modeReply src mBOOT mbOK 0 [] s

/-- What the flash controller finds (R404). -/
def flashFind (e : StartEnv) (s : State) : State :=
  match e.flashMode with
  | none => raise EV_CMX_FLASH_SFDP (Config.openCause 0x1208 1).toNat e.density { s with tru := { s.tru with sfdpBad := true } }
  | some m =>
    if e.density < 512 then raise EV_CMX_FLASH_SFDP (Config.openCause 0x1208 2).toNat e.density { s with tru := { s.tru with sfdpBad := true } }
    else s.wf CMX_FLASH_STATUS_MODE m.val

/-- The PCI Express link as it stands: rate code and width (R392). -/
def setLink (rate width : Nat) (s : State) : State :=
  let s := ((s.wf CMX_STATUS_LINK_UP (b2n (decide (rate ≠ 0)))).wf CMX_PCIE_STATUS_RATE rate).wf CMX_PCIE_STATUS_WIDTH width
  if rate = 5 && width = 8 then s else raise EV_CMX_PCIE_LINK rate width s

/-- VOUT_MODE read at start: only the linear format is accepted (R405). -/
def readVoutMode (e : Option Int) (s : State) : State :=
  match e with
  | some n => { s with cmx := { s.cmx with voutExp := some n } }
  | none => raise EV_CMX_PMBUS_FAULT 0x20 (Config.openCause 0x1209 1).toNat { s with cmx := { s.cmx with voutExp := none } }

/-- May the part leave OFF, or start its first boot? -/
def mayStart (s : State) : Bool :=
  !s.hlt.thermal && !s.hlt.supplyFault && (s.mode = mOFF || (s.mode = mBOOT && s.tru.running = 3 && s.hlt.survey.isNone))

/-- The start of Table 17.4, with what the straps, the flash, the link and the regulator show. -/
def powerUp (e : StartEnv) (margins : List (BitVec 16)) (s : State) : State :=
  if !(mayStart s) || !e.supplies then s
  else
    let s := enterOff s
    let s := s.setReg HLT_MODE 1
    let s := { s with tru := { s.tru with chipId := e.chipId.val } }.setReg GRT_CHIP e.chipId.val
    let s := flashFind e s
    let s := match e.link with | some (r, w) => setLink r.val w.val s | none => s
    let s := { s with cmx := { s.cmx with cfgReady := true } }
    let s := readVoutMode e.voutMode s
    let s := domEnable 1 (s.rf (TIM_PTP_CFG_EN 1) = 1) (domEnable 0 (s.rf (TIM_PTP_CFG_EN 0) = 1) s)
    bootRun true margins (fun _ => false) s

/-! ### Requests (R412, R413) -/

/-- Is the transition one that Table 17.1 lists for a host request? -/
def transListed (a b : Nat) : Bool :=
  match a with
  | 2 => [1, 11].contains b
  | 3 => [4, 11].contains b
  | 4 => [1, 2, 3, 5, 6, 7, 8, 9, 10, 11].contains b
  | 5 => [4, 11].contains b
  | 10 => [4, 11].contains b
  | _ => isDataMode a && (isDataMode b || b = 4 || b = 10 || b = 11)

/-- The lanes of the octets in the TWIN role. -/
def twinLanes (s : State) : List Nat := (List.range 96).filter (fun n => octetRole s (n / 8) = roTWIN)

/-- The conditions of R430. -/
def pairingOk (s : State) : Bool :=
  match s.hlt.beacon with
  | none => false
  | some b =>
    s.rf HLT_BASIC_TWIN_EN = 1 && !(twinLanes s).isEmpty && (twinLanes s).all (fun n => laneCode (s.lane n) = lACTIVE)
      && decide (3 ≤ s.hlt.beaconRun)
      && b.role = 1 && isDataMode b.mode && b.fw = fwVersion s && b.gen = s.rf TRU_ARITH_IN_FORCE
      && b.src = ownChip s && s.rf HLT_STATUS_PEER_ACT = 1
      && s.rf MER_STATE_IDX_VALID = 1 && edgeIndex s = b.ppsIdx

/-- Entry into SHADOW: the hold of R438 starts afresh. -/
def shadowEntered (s : State) : State :=
  let s := { s with hlt := { s.hlt with revertReq := false, revertAge := 0, sigOwn := [], sigPeer := [], sigFirst := [] } }
  s.wf HLT_TWIN_STATUS_HOLD_LEFT (s.reg HLT_TWIN_HOLD)

/-- Leave the mode for CLOSING (R423). -/
def enterClosing (src : Nat) (env : Env) (s : State) : State :=
  let old := s.mode
  let t (st : Nat) : Trans := { target := mCLOSING, src := src, cause := srcCause src, step := st, committed := true }
  let s1 := commitMode mCLOSING (srcCause src) s
  if isDataMode old || old = mSHADOW then exitStart (transBegin (t 1) s1)
  else if old = mSTANDBY then modeSettle (wakeLanes env.sleepSent (srExit 1 (srExit 0 (transBegin (t 9) s1))))
  else closingBegin (modeReply src mCLOSING mbOK 0 [] s1)

/-- A mode request by `src` (R412): refused by the first cause that applies, or begun. -/
def requestMode (src m : Nat) (env : Env) (s : State) : State :=
  let cur := s.mode
  let cause := srcCause src
  let t : Trans := { target := m, src := src, cause := cause, step := 0, committed := false }
  let atOnce (s : State) : State := modeReply src m mbOK 0 [] (commitMode m cause s)
  if m = 0 || 12 ≤ m then modeRefuse src m 6 s
  else if s.hlt.trans.isSome then modeRefuse src m 2 s
  else if m = cur then modeReply src m mbOK 0 [] s
  else if !(transListed cur m) then modeRefuse src m 1 s
  else if m = mBOOT then warmBoot src env.margins s
  else if m = mSAFE then warmBoot src env.margins { s with tru := { s.tru with safeReq := true } }
  else if m = mSTANDBY then
    if !(dataStopped s) then modeRefuse src m 4 s
    else modeSettle (srEnter 1 (srEnter 0 (idleLanes env.inProgress (transBegin t s))))
  else if m = mCALIBRATE then atOnce s
  else if m = mCLOSING then enterClosing src env s
  else if m = mREADY then
    if cur = mSTANDBY then modeSettle (wakeLanes env.sleepSent (srExit 1 (srExit 0 (transBegin t s))))
    else if cur = mCALIBRATE then modeSettle (transBegin t s)
    else exitStart (transBegin { t with step := 1, committed := true } (commitMode mREADY cause s))
  else if m = mSHADOW then
    if cur = mREADY then
      if pairingOk s then
        raise EV_HLT_TWIN_PAIRED (match s.hlt.beacon with | some b => b.fw | none => 0) (s.rf HLT_TWIN_STATUS_TWIN_GEN) (shadowEntered (atOnce s))
      else modeRefuse src m 5 s
    else if s.rf HLT_BASIC_TWIN_EN = 0 || s.rf HLT_STATUS_ACT = 0 then modeRefuse src m 5 s
    else { (transBegin t s) with hlt := { (transBegin t s).hlt with handover := true } }
  else if cur = mREADY then
    if s.rf MER_STATE_IDX_VALID = 0 then modeRefuse src m 3 s
    else if s.rf HLT_BASIC_TWIN_EN = 1 && s.rf HLT_STATUS_PEER_ACT = 1 then modeRefuse src m 5 s
    else if s.rf HLT_BASIC_TWIN_EN = 1 then driveAct true (atOnce s)
    else atOnce s
  else transBegin t s

/-- Undo a transition that has not committed (R413, R420, R422). -/
def transUndo (env : Env) (s : State) : State :=
  match s.hlt.trans with
  | none => s
  | some t =>
    let s := if t.target = mSTANDBY then srExit 1 (srExit 0 (wakeLanes env.sleepSent s))
      else if t.target = mREADY && s.mode = mSTANDBY then foldS (fun n u => idleEnter n env.inProgress false (u.wf (LNS_LANE_CTRL_IDLE n) 1)) s.lns.stbyIdled s
      else if t.target = mSHADOW then { s with hlt := { s.hlt with handover := false } }
      else s
    transEnd mbABORTED 0 [] s

/-- Is there a transition that an abort can still undo? -/
def transOpen (s : State) : Bool := match s.hlt.trans with | some t => !t.committed | none => false

/-- `HLT_MODE_CTRL.ABORT`: ABORTED before the commit point, ALREADY_DONE after it. -/
def modeAbort (env : Env) (s : State) : State :=
  if transOpen s then (transUndo env s).wf HLT_MODE_RESULT_STATUS mbABORTED else s.wf HLT_MODE_RESULT_STATUS mbALREADY

/-- `HLT_MODE_CTRL` (R412, R413). -/
def modeCtrlWrite (v : Nat) (env : Env) (s : State) : State :=
  let s := if bit v 8 then requestMode 0 (v % 16) env s else s
  if bit v 9 then modeAbort env s else s

/-- A data-mode change commits at a budget-period boundary (R416). -/
def periodCommit (s : State) : State :=
  match s.hlt.trans with
  | some t => if !t.committed && isDataMode t.target && isDataMode s.mode then transEnd mbOK 0 [] (commitMode t.target t.cause s) else s
  | none => s

/-! ### Survey steps and cuts (R425, R426) -/

/-- The on-chip memories that steps 107 to 158 overwrite hold no tile state. -/
def surveyWipes (k : Nat) (s : State) : State :=
  if k < 107 then s
  else
    let r := State.reset
    { s with atl := r.atl, stg := { s.stg with bufs := [] }, chn := { s.chn with coef := [], coefSet := [], coefAll := false, gains := [] }
             rsy := { s.rsy with coef := [], coefSet := [], coefAll := false, slices := [] }
             regs := s.regs.filter (fun x => match regDesc? x.1 with | some d => decide (d.inner < 64) | none => true) }

/-- The run has ended: start tests go on to READY; the survey ends in OFF, with MODE_CHANGED of cause 3 and the log written. -/
def surveyOver (cut : Nat) (s : State) : State :=
  match s.hlt.survey with
  | none => s
  | some r =>
    let s := surveyEnd cut s
    if r.record.kind = 1 then bootReady s
    else
      let s := commitMode mOFF 3 s
      enterOff (logFlush (s.hlt.logQ.length + 1) s)

/-- A step ends with its result word; `expected` is its benchmark signature. -/
def surveyStep (word expected : Nat) (s : State) : State :=
  match s.hlt.survey with
  | none => s
  | some r =>
    match r.todo with
    | [] => surveyOver 0 s
    | k :: rest =>
      let r := { r with todo := rest, words := r.words ++ [(k, word, expected)] }
      let s := { s with hlt := { s.hlt with survey := some r } }
      let s := if r.record.kind = 0 then surveyWipes k s else s
      if rest.isEmpty then surveyOver 0 s
      else if r.cut then surveyOver 3 s
      else surveyShow (keepRecord (runRecord r) s)

/-- `HLT_SURVEY_CTRL.CUT`: the run ends at the end of the step in progress. -/
def surveyCut (s : State) : State :=
  match s.hlt.survey with
  | some r => { s with hlt := { s.hlt with survey := some { r with cut := true } } }
  | none => s

/-! ### Protective actions and reset pins (R29, R30, R472 to R475) -/

/-- Thermal shutdown: the cause is recorded, a survey in progress is cut, and the part holds itself in OFF. -/
def thermal (sensor : Nat) (s : State) : State :=
  if s.mode = mOFF then { s with hlt := { s.hlt with thermal := true, cause30 := some (1, sensor) } }
  else
    let s := match s.hlt.survey with
      | some r => keepRecord (endRecord r 2) s
      | none => s
    enterOff { s with hlt := { s.hlt with thermal := true, cause30 := some (1, sensor) } }

/-- Supply-fault reset: the cause is recorded and the part is held in reset; a survey record stands as last written. -/
def supplyFault (v : Nat) (s : State) : State :=
  let c := some (2, v)
  if s.mode = mOFF then s else enterOff { s with hlt := { s.hlt with supplyFault := true, cause30 := c } }

/-- The supply fault clears: a boot as at power-up, unless thermal shutdown governs. -/
def supplyCleared (e : StartEnv) (margins : List (BitVec 16)) (s : State) : State :=
  if !s.hlt.supplyFault then s
  else powerUp e margins { s with hlt := { s.hlt with supplyFault := false } }

/-- `HLT_POR_L` falls for `ns` nanoseconds: ignored below 100 ns, a reset from 1 µs on, and in between either (`taken`). -/
def porFall (ns : Nat) (taken : Bool) (s : State) : State :=
  if ns < 100 || (ns < 1000 && !taken) then s
  else enterOff { s with hlt := { s.hlt with thermal := false } }

end Sys2Proof.Machine
end

