-- ==== Sys2Proof/Machine/Health.lean ====
section
/-! DEFINITION. Health (HLT): monitors, the armed-action table, beacons, signatures and their comparison, takeover and yield (R429 to R447). -/

namespace Sys2Proof.Machine

/-- Does the part run its units: neither OFF nor held in reset? -/
def powered (s : State) : Bool := s.mode ≠ mOFF

/-! ### Monitors (R443 to R445) -/

/-- The hottest sensor and its reading. -/
def hottest (ts : List Int) : Nat × Int :=
  ts.zipIdx.foldl (fun (b : Nat × Int) x => if b.2 < x.1 then (x.2, x.1) else b) (0, ts.headD 0)

/-- An event of a temperature threshold, re-armed 5 °C below it: whether it is in force afterwards, and the state. -/
def tempLevel (e : Ev) (thr : Nat) (was : Bool) (hot : Nat × Int) (s : State) : Bool × State :=
  if was then (!(decide (hot.2 ≤ (thr : Int) - 5)), s)
  else if (thr : Int) ≤ hot.2 then (true, raise e hot.1 (toU 32 hot.2) s)
  else (false, s)

/-- The sensors as read every 1 ms, in °C. -/
def tempSample (ts : List Int) (s : State) : State :=
  let s := foldS (fun (x : Int × Nat) t => t.setReg (HLT_TEMP x.2) (toU 8 x.1)) ts.zipIdx s
  let hot := hottest ts
  let (h, s) := tempLevel EV_HLT_TEMP_HIGH (s.rf HLT_TEMP_CFG_WARN) s.hlt.tempHigh hot s
  let (f, s) := tempLevel EV_HLT_TEMP_FAULT (s.rf HLT_TEMP_CFG_FAULT) s.hlt.tempFault hot s
  { s with hlt := { s.hlt with tempHigh := h, tempFault := f, tj := (s.hlt.tj.1 + hot.2, s.hlt.tj.2 + 1) } }

/-- `HLT_TJ_MEAN` in 0.1 °C. -/
def tjMean (s : State) : Nat := if s.hlt.tj.2 = 0 then 0 else toU 16 (rneDiv (s.hlt.tj.1 * 10) s.hlt.tj.2)

/-- The hourly store (R443). -/
def lifeStore (s : State) : State := { s with hlt := { s.hlt with hours := s.hlt.hours + 1, tjStored := s.hlt.tj } }

/-- Nominal millivolts of supply `v` (Table 20.2). -/
def supplyNominal (v : Nat) (s : State) : Nat :=
  if v = 0 then bits (s.reg CMX_PMB_VOUT) 0 10 else [720, 800, 750, 1200, 1100, 400, 1800, 1800, 1800, 850].getD v 0

/-- The absolute maximum of supply `v` in millivolts (Table 20.1). -/
def supplyMax (v : Nat) : Int := [950, 950, 950, 1400, 1400, 550, 2100, 2100, 2100, 950].getD v 0

/-- The fault window of supply `v` in millivolts (Table 20.2). -/
def faultWindow (v : Nat) : Int × Int :=
  [(600, 860), (720, 880), (690, 810), (1100, 1300), (1010, 1190), (360, 440), (1660, 1940), (1660, 1940), (1660, 1940), (780, 920)].getD v (0, 0)

/-- Is a reading within the absolute maximum ratings (R468)? -/
def supplyRated (v : Nat) (mv : Int) : Bool := decide (-300 ≤ mv) && decide (mv ≤ supplyMax v)

/-- One supply as read: SUPPLY_WARN more than 3 % from nominal, again after a return within 2 %, and on VDD_CORE not within 1 ms of a VOUT_COMMAND
(R444, R471). -/
def supplyRead (v : Nat) (mv : Int) (s : State) : State :=
  let s := s.setReg (HLT_SUPPLY v) (toU 16 mv)
  let nom : Int := supplyNominal v s
  let dev := if mv < nom then nom - mv else mv - nom
  let put (b : Bool) (t : State) : State := { t with hlt := { t.hlt with supplyLow := sset false t.hlt.supplyLow v b } }
  if sget false s.hlt.supplyLow v then (if dev * 100 ≤ nom * 2 then put false s else s)
  else if nom * 3 < dev * 100 && !(v = 0 && s.hlt.voutQuiet) then put true (raise EV_HLT_SUPPLY_WARN v (toU 32 mv) s)
  else s

def supplySample (mvs : List Int) (s : State) : State :=
  let s := foldS (fun (x : Int × Nat) t => supplyRead x.2 x.1 t) mvs.zipIdx s
  { s with hlt := { s.hlt with voutQuiet := false } }

/-- What a budget period adds to the second's fabric figures (R445). -/
def fabricPeriod (s : State) : State :=
  let c := s.rf CAD_HEADROOM_COUNT
  let u := bits (s.reg (CAD_UTIL 0)) 0 10
  { s with hlt := { s.hlt with fabMin := some (match s.hlt.fabMin with | some m => min m c | none => c), fabMax := max s.hlt.fabMax u } }

/-- The second's figures are latched, and a clean second of SHADOW counts (R438, R445). -/
def fabricSecond (s : State) : State :=
  let s := match s.hlt.fabMin with
    | some m => s.setReg HLT_FABRIC (m + 65536 * s.hlt.fabMax)
    | none => s
  let s := if s.mode = mSHADOW then s.wf HLT_TWIN_STATUS_HOLD_LEFT (s.rf HLT_TWIN_STATUS_HOLD_LEFT - 1) else s
  { s with hlt := { s.hlt with fabMin := none, fabMax := 0, mismatched := false } }

/-! ### Waymarks of host commands (R62, R431) -/

/-- Is the part the active one of a pair? -/
def twinActive (s : State) : Bool := s.rf HLT_BASIC_TWIN_EN = 1 && s.rf HLT_STATUS_ACT = 1

/-- A TWIN frame leaves on the twin link. -/
def sendTwin (index : Nat) (ws : List Waymark) (body : List Byte) (s : State) : State :=
  let ls := twinLanes s
  let (q, s) := nextSeq (ls.headD 0 / 8) 0 s
  let f := { Frame.blank kTWIN with
    protoGen := s.rf TRU_ARITH_PROTO_GEN, srcChip := ownChip s, twinGen := s.rf HLT_TWIN_STATUS_TWIN_GEN
    seq := q, index := index, arithGen := s.rf TRU_ARITH_IN_FORCE, waymarks := ws, body := body }
  if ls.isEmpty then s else sendLanes ls f.sealed s

/-- A waymark made from a host command enters the data path at an insertion point, its anchor fixed; the active part of a pair copies it to the standby. -/
def hostMark (point : Nat) (w : Waymark) (s : State) : State :=
  if twinActive s then
    let u := if point = 0 then uDEC else uSTG
    let w := { w with anchor := if w.anchor = nowAnchor then markPos s u else w.anchor }
    sendTwin (s.stg.rBlk * stgB s) [w] [] (insertMark point 0 w s)
  else insertMark point 0 w s

/-! ### Beacons (R430 to R432) -/

/-- CFG_CRC: the CRC-64/XZ over the DIGEST fields of the loaded plans in ascending tag order (R431). -/
def cfgCrc (s : State) : Nat :=
  let cs := (List.range 8).filter (fun c => 1 ≤ (s.score c).st)
  let ds := (List.range 16).flatMap (fun t => (cs.filter (fun c => coreTag s c = t)).flatMap (fun c => ((hdrBytes s c).drop 0x28).take 64))
  crc crc64XZ ds

/-- The HEALTH bits of Table 18.1. -/
def healthBits (s : State) : Nat :=
  b2n s.hlt.tempHigh + 2 * b2n (s.hlt.supplyLow.any (·.2)) + 4 * b2n s.cad.headLow + 8 * b2n ((List.range 64).any (fun n => pcState s n = 1))
    + 16 * b2n ((List.range 96).any (fun n => laneCode (s.lane n) = lFAULT)) + 32 * b2n s.hlt.mismatched

/-- The beacon that the part sends. -/
def ownBeacon (s : State) : Beacon :=
  { role := s.rf HLT_STATUS_ACT, handover := s.hlt.handover, revert := s.hlt.revertReq, mode := s.mode, health := healthBits s, seq := s.hlt.beaconSeq
    ppsIdx := edgeIndex s, fw := fwVersion s, gen := s.rf TRU_ARITH_IN_FORCE, twinGen := s.rf HLT_TWIN_STATUS_TWIN_GEN
    ql := effectiveQl s (selected s), cfgCrc := cfgCrc s, src := ownChip s }

/-- The 32 bytes of a beacon (Table 18.1). -/
def Beacon.bytes (b : Beacon) : List Byte :=
  leBytes 1 1 ++ leBytes 1 (b.role + 2 * b2n b.handover + 4 * b2n b.revert) ++ leBytes 1 b.mode ++ leBytes 1 b.health ++ leBytes 4 b.seq ++ leBytes 8 b.ppsIdx
    ++ leBytes 4 b.fw ++ leBytes 1 b.gen ++ leBytes 1 b.twinGen ++ leBytes 1 b.ql ++ leBytes 1 0 ++ leBytes 8 b.cfgCrc

/-- The beacon in 32 bytes from chip `src`. -/
def beaconOf (e : List Byte) (src : Nat) : Beacon :=
  let f (o n : Nat) : Nat := fieldAt e o n
  { role := f 1 1 % 2, handover := bit (f 1 1) 1, revert := bit (f 1 1) 2, mode := f 2 1 % 16, health := f 3 1, seq := f 4 4, ppsIdx := f 8 8, fw := f 0x10 4
    gen := f 0x14 1, twinGen := f 0x15 1 % 16, ql := f 0x16 1 % 8, cfgCrc := f 0x18 8, src := src }

/-! ### Signatures (R432 to R434) -/

def keySrc (k : Nat) : Nat := k % 4
def keyTag (k : Nat) : Nat := k / 4 % 16
def keyLocal (k : Nat) : Nat := k / 64 % 4096
def keyBlock (k : Nat) : Nat := k / 262144

/-- Plan, source and channel as in Table 18.2: the low byte is element byte 0x01, the upper half word CHAN. -/
def sigWord (k : Nat) (exempt : Bool) : Nat :=
  keyTag k + 16 * keySrc k + 128 * b2n exempt + 65536 * (if keyLocal k = 4095 then 0xFFFF else keyLocal k)

/-- The 16 bytes of a signature element. -/
def sigBytes (k : Nat) (x : SigSum) : List Byte :=
  leBytes 1 2 ++ leBytes 1 (sigWord k x.exempt % 256) ++ leBytes 2 (sigWord k x.exempt / 65536) ++ leBytes 4 x.count ++ leBytes 8 x.sum

/-- Key and value of a signature element in block `n`. -/
def sigOf (e : List Byte) (n : Nat) : Nat × SigSum :=
  let b := fieldAt e 1 1
  let c := fieldAt e 2 2
  (((n * 4096 + (if c = 0xFFFF then 4095 else c % 4096)) * 16 + b % 16) * 4 + bits b 4 3 % 4, ⟨fieldAt e 8 8, fieldAt e 4 4, bit b 7⟩)

/-- Are all units of a signature in? Trigger reports: the trig point is past the block and reports none of it any more; the others: nothing of the plan's
block is on its way. -/
def sigReady (s : State) (k : Nat) : Bool :=
  let n := keyBlock k
  if keySrc k = 3 then
    let past := match s.trp.win with | some w => decide ((n + 1) * stgSpan s ≤ w * 2 ^ s.rf TRP_CFG_WIN_LOG2 * trpD s) | none => true
    past && s.trp.fires.all (fun x => decide ((n + 1) * stgSpan s ≤ x.1.anchor))
  else decide (n < s.stg.rBlk) && planQuiet s (keyTag k) (n + 1)

/-- One comparison (R434). -/
def sigCompare (k : Nat) (a b : SigSum) (s : State) : State :=
  if a.exempt || b.exempt then s.inc HLT_CMP_SKIPPED 1
  else if a.sum = b.sum && a.count = b.count then s.inc HLT_CMP_COUNT 1
  else
    let s := raise EV_HLT_TWIN_MISMATCH (sigWord k false) (keyBlock k * stgB s % 2 ^ 32) (s.inc HLT_CMP_MISMATCH 1)
    { (s.wf HLT_TWIN_STATUS_HOLD_LEFT (s.reg HLT_TWIN_HOLD)) with hlt := { s.hlt with mismatched := true, revertReq := false } }

/-- Plan and source of a signature: comparison begins for each by itself. -/
def sigLine (k : Nat) : Nat := keyTag k * 4 + keySrc k

/-- The first common block of a plan and source, if this element makes it: earlier elements are discarded (R434). -/
def sigBegin (k : Nat) (other : List (Nat × SigSum)) (s : State) : State :=
  let l := sigLine k
  let n := keyBlock k
  if s.hlt.sigFirst.any (fun x => x.1 = l) || !(other.any (fun x => sigLine x.1 = l && keyBlock x.1 = n)) then s
  else
    let s := if s.hlt.sigFirst.isEmpty then s.setReg64 HLT_CMP_FIRST_LO HLT_CMP_FIRST_HI (n * stgB s) else s
    let keep (m : List (Nat × SigSum)) := m.filter (fun x => !(sigLine x.1 = l && decide (keyBlock x.1 < n)))
    { s with hlt := { s.hlt with sigFirst := sins s.hlt.sigFirst l n, sigOwn := keep s.hlt.sigOwn, sigPeer := keep s.hlt.sigPeer } }

/-- Is the element of a block before the first common one? -/
def sigEarly (s : State) (k : Nat) : Bool :=
  match s.hlt.sigFirst.find? (fun x => x.1 = sigLine k) with | some x => decide (keyBlock k < x.2) | none => false

/-- An element of this part (`own`) or of the peer arrives at the comparison. -/
def sigArrive (own : Bool) (k : Nat) (x : SigSum) (s : State) : State :=
  if sigEarly s k then s
  else
    let other := if own then s.hlt.sigPeer else s.hlt.sigOwn
    let s := sigBegin k other s
    match other.find? (fun y => y.1 = k) with
    | some y =>
      let s := sigCompare k x y.2 s
      if own then { s with hlt := { s.hlt with sigPeer := sdel s.hlt.sigPeer k } } else { s with hlt := { s.hlt with sigOwn := sdel s.hlt.sigOwn k } }
    | none =>
      if own then { s with hlt := { s.hlt with sigOwn := sins s.hlt.sigOwn k x } } else { s with hlt := { s.hlt with sigPeer := sins s.hlt.sigPeer k x } }

/-- The oldest element of one side has stood alone for 2 s (R434). -/
def sigMissing (own : Bool) (s : State) : State :=
  let m := if own then s.hlt.sigOwn else s.hlt.sigPeer
  match m with
  | [] => s
  | (k, _) :: rest =>
    let s := if own then { s with hlt := { s.hlt with sigOwn := rest } } else { s with hlt := { s.hlt with sigPeer := rest } }
    if !(s.hlt.sigFirst.any (fun x => x.1 = sigLine k)) then s
    else
      let s := raise EV_HLT_TWIN_SIG_MISSING (sigWord k false) (Config.openCause 0x140A (b2n own)).toNat (s.inc HLT_CMP_MISSING 1)
      { (s.wf HLT_TWIN_STATUS_HOLD_LEFT (s.reg HLT_TWIN_HOLD)) with hlt := { s.hlt with revertReq := false } }

/-- Elements of one block in TWIN frames of at most 8,192 payload bytes. -/
def sendSigs (n : Nat) : Nat → List (Nat × SigSum) → State → State
  | 0, _, s => s
  | fuel + 1, l, s =>
    match l with
    | [] => s
    | _ => sendSigs n fuel (l.drop 512) (sendTwin (n * stgB s) [] ((l.take 512).flatMap (fun x => sigBytes x.1 x.2)) s)

/-- The signatures that are complete go to the peer, or to the comparison of a standby. -/
def sigPeriod (s : State) : State :=
  let ready := s.acc.sigs.filter (fun x => sigReady s x.1)
  let s := { s with acc := { s.acc with sigs := s.acc.sigs.filter (fun x => !(ready.contains x)) } }
  if s.mode = mSHADOW then foldS (fun (x : Nat × SigSum) t => sigArrive true x.1 x.2 t) ready s
  else if s.rf HLT_STATUS_ACT = 1 then
    foldS (fun n t => let l := ready.filter (fun x => keyBlock x.1 = n); sendSigs n (l.length + 1) l t) ((ready.map (fun x => keyBlock x.1)).eraseDups) s
  else s

/-! ### The budget-period boundary (R432, R435, R437, R438) -/

/-- Beacons at a period boundary: whether one came in, the periods counted, the own beacon and the signatures. -/
def twinPeriod (peerAct : Bool) (s : State) : State :=
  let s := s.wf HLT_STATUS_PEER_ACT (b2n peerAct)
  if s.rf HLT_BASIC_TWIN_EN = 0 then s
  else
    let got := s.hlt.beaconIn
    let s := { s with hlt := { s.hlt with
      beaconIn := false, beaconRun := if got then s.hlt.beaconRun + 1 else 0, beaconMiss := if got then 0 else s.hlt.beaconMiss + 1
      ownAge := s.hlt.ownAge + 1, revertAge := if s.hlt.revertReq then s.hlt.revertAge + 1 else 0 } }
    let s := s.wf HLT_TWIN_STATUS_BEACON_OK (b2n got)
    let s := sendTwin (s.stg.rBlk * stgB s) [] (ownBeacon s).bytes s
    sigPeriod { s with hlt := { s.hlt with beaconSeq := (s.hlt.beaconSeq + 1) % 2 ^ 32 } }

/-! ### Takeover and yield (R435 to R438) -/

/-- The generation that a takeover begins: one more than the newer of its own and the peer's. -/
def nextTwinGen (s : State) : Nat :=
  let own := s.rf HLT_TWIN_STATUS_TWIN_GEN
  let g := match s.hlt.beacon with | some b => if twinNewer b.twinGen own then b.twinGen else own | none => own
  (g + 1) % 16

/-- A takeover of a standby in SHADOW, by cause 0 beacon loss, 1 host, 2 handover, 3 switch-back: `TWIN_ACT` rises, the mode becomes that of the last beacon, the
new generation begins with its waymark, and the transmit lanes start their burst (R436). -/
def takeover (cause : Nat) (s : State) : State :=
  match s.hlt.beacon with
  | none => s
  | some b =>
    if s.mode ≠ mSHADOW then s
    else
      let g := nextTwinGen s
      let s := commitMode b.mode (if cause = 3 then 2 else 1) (driveAct true s)
      let s := { s with hlt := { s.hlt with revertReq := false, sigOwn := [], sigPeer := [], sigFirst := [] } }
      let s := raise EV_HLT_TAKEOVER cause g (s.wf HLT_TWIN_STATUS_TWIN_GEN g)
      let s := insertMark 0 0 { kind := wTWIN, flags := 0, scope := 0, anchor := nowAnchor, arg := g } s
      foldS (fun n t => t.emit (.burst n))
        ((List.range 96).filter (fun n => (s.lane n).tx = lACTIVE && (octetRole s (n / 8) = roGRATICULE || octetRole s (n / 8) = roOUTPUT))) s

/-- BEACON_LOST at the end of the third period without a beacon, and the takeover that is armed (R435). -/
def beaconLost (peerAct : Bool) (s : State) : State :=
  if s.mode ≠ mSHADOW || s.hlt.beaconMiss < 3 || s.hlt.lostTold then s
  else
    let s := { s with hlt := { s.hlt with lostTold := true } }.wf HLT_STATUS_PEER_ACT (b2n peerAct)
    let s := raise EV_HLT_BEACON_LOST (match s.hlt.beacon with | some b => b.seq | none => 0) (b2n peerAct) (s.inc HLT_CNT_BEACON_LOST 1)
    if s.rf HLT_ARM_TAKEOVER = 1 && !peerAct then takeover 0 s else s

/-- The part yields: the privileged outputs stop, `TWIN_ACT` falls, and the part is a standby in SHADOW. -/
def yieldTwin (s : State) : State :=
  let b := s.hlt.beacon
  let revert := match b with | some x => x.revert | none => false
  let asked := s.hlt.handover
  let both := decide (s.hlt.ownAge < 3)
  let s := driveAct false (pinsRest { s with hlt := { s.hlt with handover := false } })
  let s := commitMode mSHADOW (if revert then 2 else if asked then (match s.hlt.trans with | some t => t.cause | none => 0) else 5) s
  let s := raise EV_HLT_DEMOTED (match b with | some x => x.twinGen | none => 0) (Config.openCause 0x140D (b2n both)).toNat (shadowEntered s)
  if asked then transEnd mbOK 0 [] s
  else if transOpen s then transEnd mbFAILED 0 [EV_HLT_DEMOTED.code] s
  else s

/-- `TWIN_PEER_ACT` rises: the part that raised its own more than 2 periods ago, or side B, yields (R437). -/
def peerRise (s : State) : State :=
  let s := s.wf HLT_STATUS_PEER_ACT 1
  if s.rf HLT_BASIC_TWIN_EN = 0 || s.rf HLT_STATUS_ACT = 0 then s
  else if 3 ≤ s.hlt.ownAge || s.rf HLT_BASIC_SIDE = 1 then yieldTwin s
  else s

/-- 100 ms of HANDOVER without the peer's rise (R437). -/
def handoverTimeout (s : State) : State :=
  if s.hlt.handover then transEnd mbFAILED 0 [] { s with hlt := { s.hlt with handover := false } } else s

/-- The hold of a side-A standby is over (R438). -/
def holdExpiry (s : State) : State :=
  if s.mode = mSHADOW && s.rf HLT_BASIC_SIDE = 0 && s.rf HLT_BASIC_REVERT = 1 && s.rf HLT_ARM_SWITCHBACK = 1 && s.rf HLT_TWIN_STATUS_HOLD_LEFT = 0
      && !s.hlt.revertReq then
    { s with hlt := { s.hlt with revertReq := true, revertAge := 0 } }
  else s

/-- Two further periods: the standby takes over. -/
def revertExpiry (s : State) : State := if s.hlt.revertReq && decide (2 ≤ s.hlt.revertAge) then takeover 3 s else s

/-- `HLT_TWIN_CTRL` (R435, R436, R490). -/
def twinCtrlWrite (v : Nat) (s : State) : WOut :=
  if bit v 0 && s.mode ≠ mSHADOW then refuse uHLT 0x300 cMODE s
  else
    let s := if bit v 0 then takeover 1 s else s
    acc (if bit v 1 && s.mode = mSHADOW then { s with hlt := { s.hlt with revertReq := false, revertAge := 0 } } else s)

/-! ### Arriving TWIN frames (R431, R432, R434, R48) -/

/-- A beacon comes in. -/
def beaconTake (b : Beacon) (s : State) : State :=
  let own := cfgCrc s
  let differ := decide (own ≠ b.cfgCrc)
  let s := if differ && !s.hlt.cfgDiffer then raise EV_HLT_TWIN_CFG_DIFFER (own % 2 ^ 32) (b.cfgCrc % 2 ^ 32) s else s
  let s := { s with hlt := { s.hlt with beacon := some b, beaconIn := true, beaconMiss := 0, lostTold := false, peerMode := some b.mode, cfgDiffer := differ } }
  let s := updateQl 4 (s.setRef 4 { s.ref 4 with qlIn := b.ql })
  if b.handover && s.mode = mSHADOW then takeover 2 s else s

/-- The elements of a TWIN frame in order; one of an unknown MSG ends the frame. -/
def twinElements (src n : Nat) : Nat → List Byte → State → State
  | 0, _, s => s
  | fuel + 1, b, s =>
    match fieldAt b 0 1 with
    | 1 => if b.length < 32 then s else twinElements src n fuel (b.drop 32) (beaconTake (beaconOf b src) s)
    | 2 =>
      if b.length < 16 then s
      else
        let (k, x) := sigOf b n
        twinElements src n fuel (b.drop 16) (if s.mode = mSHADOW then sigArrive false k x s else s)
    | _ => s

/-- A copy of the active part's waymark is inserted at its point (R431). -/
def copyMark (w : Waymark) (s : State) : State :=
  if s.mode = mSHADOW then insertMark (if w.kind = wDUMP then 1 else 0) 0 w s else s

/-- A frame arrives on lane `n` of a TWIN octet; `fits` says whether its receive buffer had room (R21, R330). -/
def twinRx (n : Nat) (f : Frame) (chk : Nat) (fits : Bool) (s : State) : State :=
  let (v, s) := rxLane n f chk s
  match v with
  | .good =>
    let key := flowKey (n / 8) 0 (frameClass f) f.srcChip
    let fl := s.flow key
    let gap := if fl.seen && !fl.fresh then (f.seq + 65536 - fl.seq) % 65536 else 0
    let s := s.setFlow key { fl with seen := true, fresh := false, seq := (f.seq + 1) % 65536, lane := n }
    let s := if gap < 32768 then seqGap (n / 8) f.srcChip gap s else s
    if !fits then raise EV_FRM_RX_OVERRUN n f.streamCount (s.inc (FRM_CNT_OVERRUN n) 1)
    else if f.kind ≠ kTWIN || s.rf HLT_BASIC_TWIN_EN = 0 then s
    else twinElements f.srcChip (f.index / stgB s) (f.body.length + 1) f.body (foldS copyMark f.waymarks s)
  | _ => s

/-- A TWIN waymark from chip `c` (R48): frames of an older generation from it are discarded from now on, and its twin follows. -/
def twinMark (c g : Nat) (s : State) : State :=
  let was := sget 0 s.frm.newestTwin c
  let s := if was = 0 || twinNewer g (was - 1) then { s with frm := { s.frm with newestTwin := sset 0 s.frm.newestTwin c (g + 1) } } else s
  if c = ownChip s && s.rf HLT_STATUS_ACT = 0 && twinNewer g (s.rf HLT_TWIN_STATUS_TWIN_GEN) then s.wf HLT_TWIN_STATUS_TWIN_GEN g else s

/-! ### Armed actions (R28, R442) -/

/-- May the entry act: no mode operation that it would meet is in progress (R28)? -/
def aatFree (s : State) (e : Nat) : Bool := !(s.rf (HLT_AAT_ACTION_ACTION e) = 1 && s.hlt.trans.isSome)

/-- The action of entry `e`. -/
def aatAct (e : Nat) (env : Env) (s : State) : State :=
  let arg := s.rf (HLT_AAT_ACTION_ARG e)
  match s.rf (HLT_AAT_ACTION_ACTION e) with
  | 1 => requestMode 4 arg env s
  | 2 => insertMark 0 0 { kind := wHALT, flags := 0, scope := arg, anchor := nowAnchor, arg := 3 } s
  | 3 => if arg < 8 then svyAsk arg .stop s else s
  | 4 => if arg < 8 then svyAsk arg .kill s else s
  | _ => s

/-- The first due entry that may act fires, once. -/
def aatFire (env : Env) (s : State) : State :=
  match s.hlt.aatDue.find? (aatFree s) with
  | none => s
  | some e =>
    let s := { s with hlt := { s.hlt with aatDue := s.hlt.aatDue.erase e, aatCount := sset 0 s.hlt.aatCount e 0 } }
    let s := (s.wf (HLT_AAT_MATCH_EN e) 0).wf (HLT_AAT_MATCH_FIRED e) 1
    aatAct e env (raise EV_HLT_ARMED_ACTION e (s.reg (HLT_AAT_ACTION e)) s)

/-- `HLT_AAT_MATCH` of entry `e`: refused where EN would stand with COUNT 0; the count starts when EN is set. -/
def aatMatchWrite (e v : Nat) (s : State) : WOut :=
  if bit v 31 && bits v 16 8 = 0 then refuse uHLT (0x1000 + 8 * e) cRANGE s
  else
    let was := s.rf (HLT_AAT_MATCH_EN e) = 1
    let s := storeBits (HLT_AAT_MATCH e) 0x80FFFFFF v s
    let s := if bit v 31 && !was then { s with hlt := { s.hlt with aatCount := sset 0 s.hlt.aatCount e 0 } } else s
    acc (if bit v 31 then s else { s with hlt := { s.hlt with aatDue := s.hlt.aatDue.erase e } })

/-! ### Registers (R447) -/

/-- `UNIT_BASIC`: refused whole outside READY where [2:0] would change. -/
def hltBasicWrite (v : Nat) (s : State) : WOut :=
  if s.mode ≠ mREADY && v % 8 ≠ s.reg (UNIT_BASIC 20) % 8 then refuse uHLT 0x18 cMODE s
  else
    let off := s.rf HLT_BASIC_TWIN_EN = 1 && !(bit v 0)
    let s := storeBits (UNIT_BASIC 20) 0x37 v s
    let s := if off then { (driveAct false s) with hlt := { (driveAct false s).hlt with beacon := none, beaconRun := 0, beaconMiss := 0, beaconIn := false } } else s
    acc (roleShow s)

def hltCntClear (v : Nat) (s : State) : State :=
  if bit v 0 then s.zero [HLT_CMP_COUNT, HLT_CMP_MISMATCH, HLT_CMP_SKIPPED, HLT_CMP_MISSING, HLT_CNT_BEACON_LOST, HLT_LOG_LOST] else s

/-- Writes of HLT registers that do more than store. -/
def hltWrite (off v : Nat) (env : Env) (s : State) : Option WOut :=
  match off with
  | 0x18 => some (hltBasicWrite v s)
  | 0x104 => some (acc (modeCtrlWrite v env s))
  | 0x10C => some (acc (if bit v 0 then surveyCut s else s))
  | 0x300 => some (twinCtrlWrite v s)
  | 0x328 => some (acc (hltCntClear v s))
  | 0x404 => some (logReadWrite v s)
  | 0x540 => some (if 119 < bits v 8 8 then refuse uHLT 0x540 cRANGE s else acc (storeBits HLT_TEMP_CFG 0xFFFF v s))
  | _ =>
    if 0x1000 ≤ off && off < 0x1100 then
      let e := (off - 0x1000) / 8
      some (if off % 8 = 0 then aatMatchWrite e v s
        else if 5 ≤ v % 16 then refuse uHLT off cRANGE s else acc (storeBits (HLT_AAT_ACTION e) 0xFFFF000F v s))
    else none

/-- Reads of HLT registers whose value is derived. -/
def hltRead (off : Nat) (s : State) : Option Nat :=
  if off = 0x544 then some (s.hlt.hours % 2 ^ 32)
  else if off = 0x548 then some (tjMean s)
  else if 0x200 ≤ off && off < 0x2C0 then some (surveyWord ((off - 0x200) / 4) s)
  else if 0x100000 ≤ off && off < 0x500000 then some ((logAt s ((off - 0x100000) / 32)).wordAt ((off % 32) / 4))
  else none

/-! ### Meanings -/

/-- Run `f` unless the part is in OFF, where nothing of it runs (R29, R473). -/
def unlessOff (f : State → State) (s : State) : State := if s.mode = mOFF then s else f s

/-- THERMAL_SHUTDOWN -/
def execThermalShutdown (sensor : Fin 16) (s : State) : Host.Outcome State Fault Refusal := .next (thermal sensor.val s)

/-- SUPPLY_FAULT_RESET: a supply at `mv` millivolts is outside its fault window; beyond its absolute maximum the behaviour is not defined (R468). -/
def execSupplyFaultReset (supply : Fin 10) (mv : Int) (s : State) : Host.Outcome State Fault Refusal :=
  let w := faultWindow supply.val
  if !(supplyRated supply.val mv) then .fault .beyondAbsoluteMaximum
  else .next (if mv < w.1 || w.2 < mv then supplyFault supply.val s else s)

/-- SUPPLY_FAULT_CLEARED -/
def execSupplyFaultCleared (e : StartEnv) (margins : List (BitVec 16)) (s : State) : Host.Outcome State Fault Refusal := .next (supplyCleared e margins s)

/-- RESET_RELEASE -/
def execResetRelease (e : StartEnv) (margins : List (BitVec 16)) (s : State) : Host.Outcome State Fault Refusal := .next (powerUp e margins s)

/-- POR_ASSERT -/
def execPorAssert (ns : Nat) (taken : Bool) (s : State) : Host.Outcome State Fault Refusal := .next (porFall ns taken s)

/-- TEMP_SAMPLE: beyond the absolute maximum junction temperatures the behaviour is not defined (R468). -/
def execTempSample (temps : List (BitVec 8)) (s : State) : Host.Outcome State Fault Refusal :=
  let ts := (List.range 16).map (fun i => (temps.getD i 0#8).toInt)
  if ts.any (fun t => decide (t < -40) || decide (125 < t)) then .fault .beyondAbsoluteMaximum
  else .next (unlessOff (tempSample ts) s)

/-- LIFE_HOURS_STORE -/
def execLifeHoursStore (s : State) : Host.Outcome State Fault Refusal := .next (unlessOff lifeStore s)

/-- SUPPLY_SAMPLE -/
def execSupplySample (mvs : List Int) (s : State) : Host.Outcome State Fault Refusal :=
  let vs := (List.range 10).map (fun v => mvs.getD v 0)
  if vs.zipIdx.any (fun x => !(supplyRated x.2 x.1)) then .fault .beyondAbsoluteMaximum
  else .next (unlessOff (supplySample vs) s)

/-- FABRIC_SECOND -/
def execFabricSecond (s : State) : Host.Outcome State Fault Refusal := .next (unlessOff fabricSecond s)

/-- TWIN_WAYMARK -/
def execTwinWaymark (chip : Fin 64) (gen : Fin 16) (s : State) : Host.Outcome State Fault Refusal := .next (twinMark chip.val gen.val s)

/-- TWIN_FRAME_RX -/
def execTwinFrameRx (lane : Fin 96) (f : Frame) (check : Nat) (fits : Bool) (s : State) : Host.Outcome State Fault Refusal :=
  .next (if octetRole s (lane.val / 8) = roTWIN then twinRx lane.val f check fits s else s)

/-- MARK_OUTPUT_TIMEOUT: a waymark of the output point leaves port `port` in a MARK frame of its own (R280). -/
def execMarkOutputTimeout (port : Fin 8) (s : State) : Host.Outcome State Fault Refusal :=
  let p := port.val
  match s.frm.ride.find? (fun x => x.1 % 8 = p && !(x.1 = p && x.2.kind = wTRIG)) with
  | none => .next s
  | some x =>
    let s := { s with frm := { s.frm with ride := s.frm.ride.erase x } }
    .next (sendPort p { Frame.blank kMARK with
      protoGen := s.rf TRU_ARITH_PROTO_GEN, srcChip := ownChip s, twinGen := s.rf HLT_TWIN_STATUS_TWIN_GEN
      index := s.mer.idx, arithGen := s.rf TRU_ARITH_IN_FORCE, waymarks := [x.2] } s)

/-- READY_EXIT_PROGRESS -/
def execReadyExitProgress (s : State) : Host.Outcome State Fault Refusal := .next (exitAdvance s)

/-- SURVEY_STEP_COMPLETE -/
def execSurveyStepComplete (word expected : BitVec 64) (s : State) : Host.Outcome State Fault Refusal :=
  .next (surveyStep word.toNat expected.toNat s)

/-- BEACON_LOST -/
def execBeaconLost (peerAct : Bool) (s : State) : Host.Outcome State Fault Refusal := .next (beaconLost peerAct s)

/-- PEER_ACT_RISE -/
def execPeerActRise (s : State) : Host.Outcome State Fault Refusal := .next (peerRise s)

/-- HANDOVER_TIMEOUT -/
def execHandoverTimeout (s : State) : Host.Outcome State Fault Refusal := .next (handoverTimeout s)

/-- SWITCHBACK_HOLD_EXPIRY -/
def execSwitchbackHoldExpiry (s : State) : Host.Outcome State Fault Refusal := .next (holdExpiry s)

/-- REVERT_DELAY_EXPIRY -/
def execRevertDelayExpiry (s : State) : Host.Outcome State Fault Refusal := .next (revertExpiry s)

/-- SIG_MISSING_TIMEOUT: `own` says which side's element stands alone. -/
def execSigMissingTimeout (own : Bool) (s : State) : Host.Outcome State Fault Refusal := .next (sigMissing own s)

/-- AAT_FIRE -/
def execAatFire (env : Env) (s : State) : Host.Outcome State Fault Refusal := .next (aatFire env s)

/-- LOG_RECORD_WRITE: nothing is written in OFF, or while no firmware runs. -/
def execLogRecordWrite (s : State) : Host.Outcome State Fault Refusal :=
  .next (if s.tru.running < 3 then unlessOff logWrite s else s)

/-- SR_ENTRY_COMPLETE -/
def execSrEntryComplete (stack : Fin 2) (s : State) : Host.Outcome State Fault Refusal := .next (modeSettle (srEntered stack.val s))

/-- SR_EXIT_COMPLETE -/
def execSrExitComplete (stack : Fin 2) (wait : Fin 1601) (s : State) : Host.Outcome State Fault Refusal :=
  .next (modeSettle (srExited stack.val wait.val s))

end Sys2Proof.Machine
end

