-- ==== Sys2Proof/Machine/Access.lean ====
section
/-!
DEFINITION. Access to control space: which target an address reaches, which master may reach it, and what a read or a write of one word does there (R8 to
R10, R383, R387, R391, R393, R397, R417).
-/

namespace Sys2Proof.Machine

/-! ### Units without a dispatch of their own -/

/-- Writes of LNS registers that do more than store. -/
def lnsWrite (off v : Nat) (env : Env) (s : State) : Option WOut :=
  if off = 0x18 then some (acc (lnsBasicWrite v s))
  else if 0x100 ≤ off && off < 0x130 then some (octetRoleWrite ((off - 0x100) / 4) v s)
  else if off = 0x144 then some (acc (lnsCntClear v s))
  else if 0x1000 ≤ off && off < 0x2800 then
    let n := (off - 0x1000) / 0x40
    match off % 0x40 with
    | 0x0 => some (laneCtrlWrite n v env.inProgress env.sleepSent (env.eyes.getD n []) s)
    | 0xC => some (txFirWrite n v s)
    | _ => none
  else none

/-- Writes of FRM registers that do more than store. -/
def frmWrite (off v : Nat) (s : State) : Option WOut :=
  if off = 0x18 then some (ckPresetWrite v s)
  else if off = 0x108 then some (acc (frmCntClear v s))
  else if 0x1000 ≤ off && off < 0x1C00 then some (ckShadowWrite ((off - 0x1000) / 0x20) (off % 0x20 / 4) v s)
  else if 0x5000 ≤ off && off < 0x5800 && off % 0x100 = 0 then some (portCfgWrite ((off - 0x5000) / 0x100) v s)
  else none

/-- Writes of DEC registers that do more than store; `wmask` is the register's. -/
def decWrite (off wmask v : Nat) (s : State) : Option WOut :=
  if off = 0x18 then some (decBasicWrite v s)
  else if off = 0x108 then some (acc (decSyncWrite v s))
  else if off = 0x110 then some (acc (decCntClear v s))
  else if 0x1000 ≤ off && off < 0x5000 then some (decShadowWrite (0x1000 + off % 0x40) ((off - 0x1000) / 0x40) v wmask s)
  else none

/-- Reads of DEC registers whose value is derived. -/
def decRead (off : Nat) (s : State) : Option Nat :=
  if off = 0x8 then some (decUnitStatus s)
  else if off = 0x10C then some (decLoad s)
  else if 0x1000 ≤ off && off < 0x5000 && off % 0x40 = 0x20 then some (decStatus s ((off - 0x1000) / 0x40))
  else none

/-! ### CMX (R393, R397, R398, R405, R406, R410) -/

def cmxCounters : List Nat := [CMX_CNT_DECERR, CMX_CNT_SLVERR, CMX_CNT_WR_ERR, CMX_CNT_BURST_RESET, CMX_CNT_BAR2_ERR]

/-- VOUT_COMMAND's value for `mv` millivolts and VOUT_MODE exponent `n` (R406). -/
def voutCode (mv : Nat) (n : Int) : Nat :=
  (if n < 0 then rneDiv ((mv * 2 ^ n.natAbs : Nat) : Int) 1000 else rneDiv (mv : Int) (1000 * 2 ^ n.natAbs)).toNat

/-- The core voltage is set: VOUT_COMMAND goes to a regulator of linear format, and SUPPLY_WARN on VDD_CORE is suppressed (R405, R406, R471). -/
def setVout (mv : Nat) (s : State) : State :=
  let s := s.setReg CMX_PMB_VOUT mv
  match s.cmx.voutExp with
  | none => s
  | some n => { (s.emit (.vout (voutCode mv n))) with hlt := { s.hlt with voutQuiet := true } }

/-- `CMX_PMB_VOUT`. -/
def voutWrite (v : Nat) (s : State) : WOut :=
  let mv := v % 1024
  if mv < 650 || 800 < mv then refuse uCMX 0x140 cRANGE s else acc (setVout mv s)

/-- `CMX_PMB_CFG`: VMIN and VMAX lie within 650 to 800 mV. -/
def pmbCfgWrite (v : Nat) (s : State) : WOut :=
  let lo := 610 + bits v 8 12
  let hi := 750 + bits v 20 12
  if lo < 650 || 800 < lo || 800 < hi then refuse uCMX 0x13C cRANGE s else acc (storeBits CMX_PMB_CFG 0xFFFFFFFF v s)

/-- Send the pending messages of vectors that are no longer masked. -/
def msixFlush (s : State) : State :=
  foldS (fun v t =>
    if bit (t.reg (CMX_MSIX_PBA (v / 32))) (v % 32) && !(vectorMasked t v) then
      (t.wf ⟨CMX_MSIX_PBA (v / 32), v % 32, 1⟩ 0).emit (.msix v)
    else t) (List.range 256) s

/-- A word of the MSI-X table: of the vector control only the mask bit is stored. -/
def msixWrite (w v : Nat) (s : State) : State :=
  if w % 4 = 3 then msixFlush (s.setReg (CMX_MSIX_TABLE w) (v % 2)) else s.setReg (CMX_MSIX_TABLE w) v

/-- Writes of CMX registers that do more than store. GO and ABORT of a mailbox channel act besides (R398). -/
def cmxWrite (m : Master) (off wmask v : Nat) (s : State) : Option WOut :=
  if off = 0x108 then some (acc (if bit v 0 then s.zero cmxCounters else s))
  else if off = 0x13C then some (pmbCfgWrite v s)
  else if off = 0x140 then some (voutWrite v s)
  else if 0x10000 ≤ off && off < 0x11000 then some (acc (msixWrite ((off - 0x10000) / 4) v s))
  else if 0x400 ≤ off && off < 0x580 then
    let c := (off - 0x400) / 0x80
    if m = .m0 && 1 ≤ c then some (acc s)
    else if off % 0x80 < 0x24 && mboxBusy s c then some ⟨false, s⟩
    else if off % 0x80 < 0x24 then some (acc (storeBits (0x12000000 + off) wmask v s))
    else some (acc s)
  else none

/-- Reads of CMX registers whose value is derived. -/
def cmxRead (off : Nat) (s : State) : Option Nat :=
  if off = 0x8 then some (s.rf CMX_STATUS_LINK_UP + 2 * b2n (mboxBusy s 0) + 4 * b2n (mboxBusy s 1) + 8 * b2n (mboxBusy s 2)) else none

/-! ### TRU (R452, R463, R467) -/

/-- `TRU_REC_CTRL.GO`: the ROM verifies the package, copies it to the SAFE region and boots it; [7:4] holds the check that failed. -/
def recGo (margins : List (BitVec 16)) (s : State) : WOut :=
  if !(noFirmware s) then refuse uTRU 0x300 cSTATE s
  else if s.tru.sfdpBad then ⟨false, raise EV_TRU_FLASH_UNSAFE 0 0 s⟩
  else
    match recFails s with
    | 0 => acc (bootRun false margins (fun _ => false) { ((recCopy s).setReg TRU_REC_CTRL 0) with tru := { (recCopy s).tru with safeReq := true } })
    | n => acc { (s.setReg TRU_REC_CTRL (16 * n)) with tru := { s.tru with recWords := 0 } }

/-- Writes of TRU registers that do more than store. -/
def truWrite (off v : Nat) (env : Env) (s : State) : Option WOut :=
  if off = 0x140 then
    some (if (slotIn s slTRIAL).isSome then refuse uTRU off cSTATE s
      else if v % 4 = 0 then refuse uTRU off cRANGE s else acc (s.setReg TRU_TRIAL_CFG (v % 4)))
  else if 0x200 ≤ off && off < 0x2D0 then some (acc (tokenWrite ((off - 0x200) / 4) v s))
  else if off = 0x300 then some (if bit v 0 then recGo env.margins s else acc s)
  else if off = 0x304 then some (recData v s)
  else none

/-! ### ACC (R206, R431) -/

/-- `ACC_CTRL`: a host drain is a waymark made from a host command. -/
def drainCtrl (v : Nat) (s : State) : State :=
  let s := if bit v 4 then hostMark 1 (hostDump s (v % 16)) s else s
  accCtrlWrite (setBits v 4 1 0) s

/-! ### One unit's registers -/

/-- A write to the unit's own rules; none where the register only stores. -/
def unitWrite (m : Master) (u off wmask v : Nat) (env : Env) (s : State) : Option WOut :=
  match u with
  | 1 => lnsWrite off v env s
  | 2 => frmWrite off v s
  | 3 => decWrite off wmask v s
  | 4 => chnWrite off v s
  | 5 => rsyWrite off v s
  | 6 => grtWrite off v s
  | 7 => stgWrite off v s
  | 8 => brgWrite off v s
  | 9 => xarWrite off v s
  | 10 => if off = 0x100 then some (acc (drainCtrl v s)) else accWrite off v s
  | 11 => atlWriteWith env.fast.val env.err.val off v s
  | 12 => memWrite off v s
  | 13 => svyWrite off v s
  | 14 => cadWrite off v s
  | 15 => merWriteWith env.ns off v s
  | 16 => timWrite off v s
  | 17 => trpWrite off v s
  | 18 => cmxWrite m off wmask v s
  | 19 => truWrite off v env s
  | _ => hltWrite off v env s

/-- A derived value; none where the register reads as stored. -/
def unitRead (u off : Nat) (s : State) : Option Nat :=
  match u with
  | 1 => if off = 0x8 then some (lnsStatus s) else none
  | 3 => decRead off s
  | 4 => chnRead off s
  | 5 => rsyRead off s
  | 6 => grtRead off s
  | 7 => stgRead off s
  | 8 => brgRead off s
  | 9 => xarRead off s
  | 10 => accRead off s
  | 11 => atlRead off s
  | 12 => memRead off s
  | 13 => svyRead off s
  | 15 => merRead off s
  | 16 => timRead off s
  | 17 => trpRead off s
  | 18 => cmxRead off s
  | 19 => truRead off s
  | 20 => hltRead off s
  | _ => none

/-- A write of `UNIT_EVENT` clears the bits written as 1; a source that stays pending sends its vector again once (R9, R397). -/
def eventClear (u v : Nat) (s : State) : State :=
  let s := s.setReg (UNIT_EVENT u) (s.reg (UNIT_EVENT u) - (s.reg (UNIT_EVENT u) &&& v))
  if intPending s u then sendVector u s else s

/-- A 32-bit write to a register or table word of unit `u` (R8 to R10, R487): none where the window holds nothing at the offset. A setting that changed is
kept in the settings store. -/
def regWrite (m : Master) (u off v : Nat) (env : Env) (s : State) : Option WOut :=
  match (unitRegs u).find? (fun d => d.covers off) with
  | none => none
  | some d =>
    let a := u * 0x1000000 + off
    some (match d.acc with
      | .ro => acc s
      | .wc => acc (eventClear u v s)
      | _ =>
        let r := if off = 0x10 then acc (withIrq u (storeBits a d.wmask v) s)
          else if off = 0x14 then acc (storeBits a d.wmask v s)
          else
            match unitWrite m u off d.wmask (v &&& d.vmask) env s with
            | some r => r
            | none => acc (storeBits a d.wmask v s)
        if r.ok && isSetting a then acc (saveSettings r.st) else r)

/-- What a 32-bit read of a register or table word of unit `u` returns (R9, R10, R387). -/
def regRead (u off : Nat) (s : State) : Option Nat :=
  match (unitRegs u).find? (fun d => d.covers off) with
  | none => none
  | some d => some (if d.acc = .wo then 0 else (match unitRead u off s with | some v => v | none => s.reg (u * 0x1000000 + off)) &&& d.vmask)

/-! ### Targets and masters (R383, R391, R417) -/

/-- The targets of Table 16.5. -/
inductive Target where
  | rom | sram | unit (u : Nat) | flash | default
  deriving DecidableEq, Repr

def targetOf (a : Nat) : Target :=
  if a < 0x10000 then .rom
  else if 0x100000 ≤ a && a < 0x200000 then .sram
  else if 0x1000000 ≤ a && a < 0x15000000 then .unit (a / 0x1000000)
  else if 0x18000000 ≤ a && a < 0x20000000 then .flash
  else .default

/-- Does the master reach the target (Table 16.1)? -/
def masterReaches (m : Master) (t : Target) : Bool :=
  match t with
  | .default => false
  | .sram => m = .m1
  | .unit u => !(m = .m2 && decide (18 ≤ u))
  | _ => !(m = .m2)

/-- Does the master issue accesses at all: M0 with its link up and its BARs configured, M3 once debug is open and its instruction is loaded,
M4 during BOOT and updates, and none in OFF (R29, R383, R392, R408)? -/
def masterLive (m : Master) (s : State) : Bool :=
  s.mode ≠ mOFF && (match m with
    | .m0 => s.cmx.bars && s.rf CMX_STATUS_LINK_UP = 1
    | .m3 => bit (s.reg TRU_DEBUG) 0 && s.cmx.tap = .debug
    | .m4 => s.mode = mBOOT || s.tru.update.isSome
    | _ => true)

/-- The answer that R417 gives a BAR0 access before the unit sees it. -/
def bar0Gate (m : Master) (t : Target) (s : State) : Resp :=
  if m ≠ .m0 then .okay
  else if noFirmware s then (if t = .unit 19 then .okay else .decerr)
  else if s.mode = mBOOT || s.mode = mSAFE then
    match t with
    | .unit u => if 18 ≤ u then .okay else .slverr
    | _ => .okay
  else .okay

/-- The answer before the target's own rules. -/
def routeResp (m : Master) (a : Nat) (s : State) : Resp :=
  let t := targetOf a
  if !(masterReaches m t) then .decerr else bar0Gate m t s

/-- An error response is counted, the first since the last read of `CMX_ERR_INFO` is latched, and its event raised; a posted write of M0 raises WRITE_ERR
besides (R387, R388, R393). `cause` is 1 DECERR, 2 SLVERR, 3 timeout. -/
def busError (m : Master) (a : Nat) (write : Bool) (cause : Nat) (s : State) : State :=
  let s := s.inc (if cause = 1 then CMX_CNT_DECERR else CMX_CNT_SLVERR) 1
  let s := if s.rf CMX_ERR_INFO_VALID = 1 then s
    else (s.setReg CMX_ERR_ADDR a).setReg CMX_ERR_INFO (m.num + 8 * cause + 32 * b2n write + 2 ^ 31)
  let s := raise (if cause = 1 then EV_CMX_DECODE_ERR else if cause = 2 then EV_CMX_SLAVE_ERR else EV_CMX_TARGET_TIMEOUT) a m.num s
  if write && m = .m0 then raise EV_CMX_WRITE_ERR a (min cause 2) (s.inc CMX_CNT_WR_ERR 1) else s

def respCause (r : Resp) : Nat := if r = .decerr then 1 else 2

/-- Count an error response. -/
def answered (m : Master) (a : Nat) (write : Bool) (r : Resp) (s : State) : State := if r = .okay then s else busError m a write (respCause r) s

/-- One aligned 32-bit write by a live master. -/
def busWrite (m : Master) (a v : Nat) (env : Env) (s : State) : Resp × State :=
  let done (r : Resp) (t : State) : Resp × State := (r, answered m a true r t)
  match routeResp m a s with
  | .okay =>
    if a % 4 ≠ 0 then done .slverr s
    else
      match targetOf a with
      | .unit u =>
        match regWrite m u (a % 0x1000000) v env s with
        | none => done .decerr s
        | some r => done (if r.ok then .okay else .slverr) r.st
      | .sram => done .okay (s.setReg a v)
      | _ => done .slverr s
  | r => done r s

/-- A word of the flash read window. -/
def flashWord (a : Nat) (s : State) : Nat := ofLe (flashBytes s (a - 0x18000000) 4)

/-- One aligned 32-bit read by a live master: the response, the data (zero with an error), and the state. -/
def busRead (m : Master) (a : Nat) (s : State) : Resp × Nat × State :=
  let done (r : Resp) (d : Nat) (t : State) : Resp × Nat × State := (r, d, answered m a false r t)
  match routeResp m a s with
  | .okay =>
    if a % 4 ≠ 0 then done .slverr 0 s
    else
      match targetOf a with
      | .unit u =>
        match regRead u (a % 0x1000000) s with
        | none => done .decerr 0 s
        | some d => done .okay d (if a = CMX_ERR_INFO then s.wf CMX_ERR_INFO_VALID 0 else s)
      | .sram => done .okay (s.reg a) s
      | .rom => done .okay (Config.romWord a).toNat s
      | .flash => if s.rf CMX_FLASH_STATUS_BUSY = 1 then done .slverr 0 s else done .okay (flashWord a s) s
      | .default => done .decerr 0 s
  | r => done r 0 s

end Sys2Proof.Machine
end

