-- ==== Sys2Proof/Machine/Mailbox.lean ====
section
/-! DEFINITION. The mailbox commands of Table 16.7 as the management core runs them, their aborts and their completion (R398 to R403, R490). -/

namespace Sys2Proof.Machine

/-- Does firmware run on the management core and serve the mailbox (R29, R452)? -/
def mboxServed (s : State) : Bool := s.mode ≠ mOFF && decide (s.tru.running < 3)

/-- A register write of the management core: whether it was accepted, and the state. -/
def coreWrite (a v : Nat) (env : Env) (s : State) : Bool × State :=
  let r := busWrite .m1 a v env s
  (r.1 = .okay, r.2)

/-- A command that is one register write: FAILED with event code `ev` where the unit refuses it (R399). -/
def viaWrite (c a v ev : Nat) (env : Env) (s : State) : State :=
  let r := coreWrite a v env s
  if r.1 then mboxDone c mbOK [] r.2 else mboxDone c mbFAILED [ev] r.2

/-- A command waits for its completion without being one of the stepped ones. -/
def mboxHold (c code arg : Nat) (s : State) : State := { s with cmx := { s.cmx with steps := s.cmx.steps ++ [(c, code, arg)] } }

/-! Command codes. -/
def cmSETMODE : Nat := 2
def cmEPOCH : Nat := 4
def cmSELECT : Nat := 5
def cmPLANSTOP : Nat := 7
def cmTRAIN : Nat := 13
def cmUPDATE : Nat := 15
def cmSURVEY : Nat := 16

/-! ### The commands -/

/-- GET_INFO. -/
def mbGetInfo (c : Nat) (s : State) : State :=
  mboxDone c mbOK [s.reg GRT_CHIP % 64 + 256 * 0xB1, fwVersion s, s.mode, s.rf TRU_ARITH_IN_FORCE] s

/-- What APPLY_REFERENCE writes to the `UNIT_BASIC` of unit `u`: its reset value, for GRT with PRESET 2. -/
def refBasic (u : Nat) : Nat := if u = 6 then setBits (resetNat (UNIT_BASIC u)) 0 2 2 else resetNat (UNIT_BASIC u)

/-- The event by which a unit refuses its `UNIT_BASIC`. -/
def basicRefusedEv (u : Nat) : Ev := if u = 13 then EV_SVY_LOAD_REFUSED else cfgRefusedEv u

/-- Write the `UNIT_BASIC` of the units in turn; the first that refuses ends it (R490). -/
def applyUnits (c : Nat) (env : Env) : List Nat → State → State
  | [], s => mboxDone c mbOK [] s
  | u :: us, s =>
    let r := coreWrite (UNIT_BASIC u) (refBasic u) env s
    if r.1 then applyUnits c env us r.2 else mboxDone c mbFAILED [(basicRefusedEv u).code, u] r.2

/-- APPLY_REFERENCE. -/
def mbApplyReference (c : Nat) (env : Env) (s : State) : State :=
  if s.mode ≠ mREADY then mboxDone c mbWRONGMODE [] s else applyUnits c env (rangeFrom 1 20) s

/-- SET_EPOCH: completes at the named edge (R369). -/
def mbSetEpoch (c : Nat) (args : List Nat) (env : Env) (s : State) : State :=
  if (stepOf s cmEPOCH).isSome then mboxDone c mbBUSY [] s
  else if s.mode ≠ mREADY && s.mode ≠ mCALIBRATE then mboxDone c mbWRONGMODE [] s
  else
    let lo := args.getD 0 0
    let hi := args.getD 1 0
    let s := (coreWrite MER_EPOCH_SEC_LO lo env s).2
    let s := (coreWrite MER_EPOCH_SEC_HI hi env s).2
    let r := coreWrite MER_CTRL 4 env s
    if r.1 then mboxHold c cmEPOCH (lo + 2 ^ 32 * hi) r.2 else mboxDone c mbFAILED [EV_MER_EPOCH_REFUSED.code] r.2

/-- SELECT_REF: completes when the switch commits (R362, R363). -/
def mbSelectRef (c e : Nat) (env : Env) (s : State) : State :=
  if 5 < e then mboxDone c mbBADARG [] s
  else if (stepOf s cmSELECT).isSome then mboxDone c mbBUSY [] s
  else
    let r := coreWrite MER_CTRL (1 + 16 * e) env s
    if !r.1 then mboxDone c mbFAILED [(cfgRefusedEv uMER).code] r.2
    else if r.2.mer.switch.isSome then mboxHold c cmSELECT e r.2
    else mboxDone c mbOK [] r.2

/-- PLAN_RUN (R263). -/
def mbPlanRun (c n : Nat) (env : Env) (s : State) : State :=
  if n = 0 || 255 < n then mboxDone c mbBADARG [] s
  else if (stepOf s cmPLANSTOP).isSome then mboxDone c mbBUSY [] s
  else viaWrite c (UNIT_BASIC uSVY) (256 * n + 1) EV_SVY_LOAD_REFUSED.code env s

/-- PLAN_STOP: stepped until core 0 is HALTED (R490). -/
def mbPlanStop (c : Nat) (env : Env) (s : State) : State :=
  if (stepOf s cmPLANSTOP).isSome then mboxDone c mbBUSY [] s
  else
    let r := coreWrite (UNIT_BASIC uSVY) (setBits (s.reg (UNIT_BASIC uSVY)) 0 1 0) env s
    if !r.1 then mboxDone c mbFAILED [EV_SVY_LOAD_REFUSED.code] r.2
    else if (r.2.score 0).active then mboxStep c cmPLANSTOP 0 r.2
    else mboxDone c mbOK [] r.2

/-- DRAIN (R206). -/
def mbDrain (c plan arg : Nat) (env : Env) (s : State) : State :=
  if 15 < plan then mboxDone c mbBADARG [] s
  else viaWrite c ACC_CTRL (plan + 16) (cfgRefusedEv uACC).code env (coreWrite ACC_DRAIN_ARG arg env s).2

/-- Is a scope one that R50 gives a meaning? -/
def scopeKnown (n : Nat) : Bool := decide (n < 0x3000) && !(decide (1 ≤ n) && decide (n < 0x1000))

/-- HALT_SCOPE and RESUME_SCOPE: a waymark with FLAGS.HOST at ingress (R62). -/
def mbScope (c kind : Nat) (args : List Nat) (s : State) : State :=
  let sc := args.getD 0 0
  if !(scopeKnown sc) then mboxDone c mbBADARG [] s
  else
    let w : Waymark := { kind := kind, flags := 4, scope := sc, anchor := args.getD 1 0 + 2 ^ 32 * args.getD 2 0, arg := if kind = wHALT then 1 else 0 }
    mboxDone c mbOK [] (hostMark 0 w s)

/-- ARM: a write of a unit's `UNIT_ARM`. -/
def mbArm (c u v : Nat) (env : Env) (s : State) : State :=
  if u = 0 || 20 < u then mboxDone c mbBADARG [] s else viaWrite c (UNIT_ARM u) v (cfgRefusedEv u).code env s

/-- SET_VCORE (R406); a value wider than the field is out of range as it stands. -/
def mbSetVcore (c mv : Nat) (env : Env) (s : State) : State :=
  if 1024 ≤ mv then mboxDone c mbFAILED [EV_CMX_CFG_REFUSED.code] (raise EV_CMX_CFG_REFUSED 0x140 cRANGE s)
  else viaWrite c CMX_PMB_VOUT mv EV_CMX_CFG_REFUSED.code env s

/-- The lanes of the enabled octets. -/
def trainLanes (s : State) : List Nat := (List.range 96).filter (fun n => octetEnabled s (n / 8))

/-- The next pseudo-channel of a TRAIN starts its training, or the command ends (R490). -/
def trainNext (s : State) : State :=
  match s.cmx.train with
  | none => s
  | some ([], _) => stepEnds cmTRAIN mbOK [] { s with cmx := { s.cmx with train := none } }
  | some (n :: _, _) => setStack (stackOf n) smTRAINING { s with mem := { s.mem with training := [n] } }

/-- TRAIN: peaking adaptation of every lane, then each pseudo-channel in turn. -/
def mbTrain (c : Nat) (env : Env) (s : State) : State :=
  if s.mode ≠ mCALIBRATE then mboxDone c mbWRONGMODE [] s
  else if s.cmx.train.isSome || !(s.mem.training.isEmpty) then mboxDone c mbBUSY [] s
  else
    let ls := trainLanes s
    let s := foldS (fun n t => adaptLane n (env.eyes.getD n []) t) ls s
    trainNext (mboxStep c cmTRAIN 0 { s with cmx := { s.cmx with train := some (trainSet s, ls.length) } })

/-- A training of pseudo-channel `n` with best margin `m` has ended: the next one of a TRAIN begins. -/
def trainGoesOn (n m : Nat) (s : State) : State :=
  let own := match s.cmx.train with | some (x :: _, _) => x = n && s.mem.training.contains n | _ => false
  let s := trainDone n m s
  if own then
    match s.cmx.train with
    | some (_ :: rest, k) => trainNext { s with cmx := { s.cmx with train := some (rest, k + 1) } }
    | _ => s
  else s

/-- TAKEOVER (R435, R436, R490). -/
def mbTakeover (c : Nat) (s : State) : State :=
  if s.mode ≠ mSHADOW then mboxDone c mbWRONGMODE [] s else mboxDone c mbOK [] (takeover 1 s)

/-! ### UPDATE (R455 to R457) -/

/-- TRIAL: the VALID inactive slot boots on trial (R455). -/
def updateTrial (c : Nat) (env : Env) (s : State) : State :=
  let k := inactiveSlot s
  if s.tru.update.isSome then mboxDone c mbBUSY [] s
  else if s.mode ≠ mREADY && s.mode ≠ mSAFE then mboxDone c mbWRONGMODE [] s
  else if (slot s k).1 ≠ slVALID || (slotIn s slTRIAL).isSome then mboxDone c mbFAILED [] s
  else warmBoot (c + 1) env.margins (setSlotSt k slTRIAL (s.reg TRU_TRIAL_CFG % 4) s)

/-- REJECT of the running TRIAL slot: the CONFIRMED slot boots (R455). -/
def updateReject (c : Nat) (env : Env) (s : State) : State :=
  let k := s.tru.running
  if s.tru.update.isSome then mboxDone c mbBUSY [] s
  else if !(k < 2 && (slot s k).1 = slTRIAL) then mboxDone c mbFAILED [] s
  else if s.mode ≠ mREADY && s.mode ≠ mSAFE then mboxDone c mbWRONGMODE [] s
  else warmBoot (c + 1) env.margins (setSlotSt k slREJECTED 0 s)

/-- The key-service request that stands in HBM at an address, as the trust unit reads it (R457). -/
def keyAt (args : List Nat) (s : State) : KeyReq :=
  let r := hbmBytes s (args.getD 1 0 + 2 ^ 32 * args.getD 2 0) (args.getD 3 0)
  Config.keyRequest r

/-- UPDATE by its sub-command. -/
def mbUpdate (c : Nat) (args : List Nat) (env : Env) (s : State) : State :=
  let a := args.getD 1 0 + 2 ^ 32 * args.getD 2 0
  let len := args.getD 3 0
  match args.getD 0 0 with
  | 1 => updateWrite c 1 a len s
  | 2 => updateTrial c env s
  | 3 => updateConfirm c (bit (args.getD 1 0) 0) s
  | 4 => updateReject c env s
  | 5 => updateStatus c s
  | 6 => updateTicket c a len s
  | 7 => updateWrite c 7 a len s
  | 8 => updateKeys c (keyAt args s) s
  | _ => mboxDone c mbBADARG [] s

/-! ### Dispatch (R399, R402, R403) -/

/-- May the channel give the command? -/
def mboxAllowed (c code : Nat) (s : State) : Bool :=
  match c with
  | 0 => true
  | 1 => s.rf CMX_BASIC_MGT_WRITE = 1 || [1, 11].contains code
  | _ => [1, 2, 11, 16].contains code

/-- Run the command that channel `c` holds. -/
def mboxRun (c code : Nat) (args : List Nat) (env : Env) (s : State) : State :=
  if !(mboxAllowed c code s) then mboxDone c mbDENIED [] s
  else
    match code with
    | 1 => mbGetInfo c s
    | 2 => requestMode (c + 1) (args.getD 0 0) env s
    | 3 => mbApplyReference c env s
    | 4 => mbSetEpoch c args env s
    | 5 => mbSelectRef c (args.getD 0 0) env s
    | 6 => mbPlanRun c (args.getD 0 0) env s
    | 7 => mbPlanStop c env s
    | 8 => mbDrain c (args.getD 0 0) (args.getD 1 0) env s
    | 9 => mbScope c wHALT args s
    | 10 => mbScope c wRESUME args s
    | 11 => readLog c s
    | 12 => mbArm c (args.getD 0 0) (args.getD 1 0) env s
    | 13 => mbTrain c env s
    | 14 => mbSetVcore c (args.getD 0 0) env s
    | 15 => mbUpdate c args env s
    | 16 => requestMode (c + 1) mCLOSING env s
    | 17 => mbTakeover c s
    | _ => mboxDone c mbUNKNOWN [] s

/-- GO arrives on channel `c` (R398, R399). -/
def mboxGo (c code : Nat) (args : List Nat) (env : Env) (s : State) : State :=
  if !(mboxServed s) || mboxBusy s c then s else mboxRun c code args env (mboxStart c code args s)

/-- The arguments that a channel's registers hold. -/
def mboxArgs (c : Nat) (s : State) : List Nat := (List.range 8).map (fun k => s.reg (CMX_MBOX_ARG c k))

/-- GO by a write of `CMX_MBOX_CMD`. -/
def mboxGoReg (c : Nat) (env : Env) (s : State) : State :=
  let args := mboxArgs c s
  mboxGo c (s.rf (CMX_MBOX_CMD_CMD c)) args env s

/-! ### Aborts (R400, R490) -/

/-- An abort that comes after the commit point: the command will end ALREADY_DONE. -/
def mboxLate (c : Nat) (s : State) : State :=
  if s.cmx.late.contains c then s else { s with cmx := { s.cmx with late := c :: s.cmx.late } }

/-- The abort of a TRAIN: the training in progress leaves its pseudo-channel as it was. -/
def trainAbort (c : Nat) (s : State) : State :=
  match s.cmx.train with
  | none => mboxLate c s
  | some (l, k) =>
    let s := match l with
      | n :: _ => setStack (stackOf n) smACTIVE { s with mem := { s.mem with training := s.mem.training.erase n } }
      | [] => s
    modeSettle (mboxDone c mbABORTED [k] { s with cmx := { s.cmx with train := none } })

/-- The abort of a PLAN_STOP whose STOP still awaits the core's step point. -/
def stopAbort (c : Nat) (s : State) : State :=
  let k := s.score 0
  if k.reqs.contains .stop && k.st ≠ sSTOPPING then
    mboxDone c mbABORTED [] ((s.setScore 0 { k with reqs := k.reqs.erase .stop }).wf SVY_BASIC_RUN 1)
  else mboxLate c s

/-- The stepped commands of Table 16.7. -/
def steppedCode (n : Nat) : Bool := [2, 7, 13, 15, 16].contains n

/-- An abort on channel `c`. -/
def mboxAbort (c : Nat) (env : Env) (s : State) : State :=
  if !(mboxServed s) then s
  else
    match s.cmx.steps.find? (fun x => x.1 = c) with
    | none =>
      if steppedCode (s.rf (CMX_MBOX_CMD_CMD c)) && s.rf (CMX_MBOX_STATUS_STATUS c) = mbOK && s.rf (CMX_MBOX_STATUS_DONE c) ≠ 0 then
        s.wf (CMX_MBOX_STATUS_STATUS c) mbALREADY
      else s
    | some (_, code, _) =>
      match code with
      | 2 => if transOpen s then transUndo env s else mboxLate c s
      | 7 => stopAbort c s
      | 13 => trainAbort c s
      | 15 =>
        match s.tru.update with
        | some u => mboxDone c mbABORTED [] (writeFails u.slot s)
        | none => mboxLate c s
      | _ => s

/-! ### Completion of the commands that wait -/

/-- SELECT_REF has its answer once no switch to its entry waits. -/
def pollSelect (s : State) : State :=
  match stepOf s cmSELECT with
  | some (c, e) =>
    if s.mer.switch.any (fun x => x.1 = e) then s
    else if selected s = e then mboxDone c mbOK [] s
    else mboxDone c mbFAILED [EV_MER_REF_DISQUALIFIED.code] s
  | none => s

/-- PLAN_STOP ends once core 0 has halted. -/
def pollStop (s : State) : State :=
  match stepOf s cmPLANSTOP with
  | some (c, _) => if (s.score 0).active then s else mboxDone c mbOK [] s
  | none => s

/-- SET_EPOCH has its answer once its epoch is no longer pending: `made` says that the epoch at its label has just taken effect. -/
def pollEpoch (made : Nat → Bool) (s : State) : State :=
  match stepOf s cmEPOCH with
  | some (c, l) =>
    if s.mer.pend = some l then s
    else if made l then mboxDone c mbOK [0] s
    else mboxDone c mbFAILED [EV_MER_EPOCH_REFUSED.code] s
  | none => s

/-- The management core looks at what its commands wait for. -/
def mboxPoll (s : State) : State := if mboxServed s then pollStop (pollSelect (pollEpoch (fun _ => false) s)) else s

/-- The same at an internal edge, where an epoch may just have begun. -/
def mboxPollEdge (s : State) : State :=
  if mboxServed s then pollStop (pollSelect (pollEpoch (fun l => s.mer.edges = 0 && timSec s = l) s)) else s

/-! ### Meanings of what a mailbox command may wait for -/

/-- INTERNAL_PPS_EDGE -/
def execInternalPpsEdge (s : State) : Host.Outcome State Fault Refusal := .next (mboxPollEdge (internalEdge s))

/-- BUILDOUT_LATCH -/
def execBuildoutLatch (steps : BitVec 40) (s : State) : Host.Outcome State Fault Refusal := .next (mboxPoll (buildoutLatch steps.toInt s))

/-- REF_SECOND -/
def execRefSecond (a b c d twin : RefMeas) (y phase : Int) (s : State) : Host.Outcome State Fault Refusal :=
  .next (mboxPoll (refSeconds [(0, a), (1, b), (2, c), (3, d), (4, twin)] y phase s))

/-- REF_EDGE_LOSS -/
def execRefEdgeLoss (entry : Fin 5) (companion : Bool) (s : State) : Host.Outcome State Fault Refusal :=
  .next (mboxPoll (edgeLoss entry.val companion s))

/-- CORE_STOP_COMPLETE -/
def execCoreStopComplete (core : Fin 8) (s : State) : Host.Outcome State Fault Refusal := .next (mboxPoll (svyStopDone core.val s))

/-- TRAIN_COMPLETE -/
def execTrainComplete (pc : Fin 64) (margin : BitVec 16) (s : State) : Host.Outcome State Fault Refusal :=
  .next (modeSettle (trainGoesOn pc.val margin.toNat s))

/-- FLASH_PROGRAM_END -/
def execFlashProgramEnd (good : Bool) (s : State) : Host.Outcome State Fault Refusal := .next (programEnd good s)

end Sys2Proof.Machine
end

