-- ==== Sys2Proof/Machine/Matrix.lean ====
section
/-! DEFINITION. The control matrix: ports and their picks, bursts, locked sequences, the reset of a master, and the writes of one word (R383 to R390). -/

namespace Sys2Proof.Machine

/-! ### Ports (Tables 16.2 and 16.5) -/

/-- The path to an address: a fast-layer target by itself, or the bridge that serves it. -/
def portOf (a : Nat) : Nat :=
  match targetOf a with
  | .unit u =>
    if [1, 2, 3, 4, 5, 6, 12, 14].contains u then 0x102 else if [15, 16, 18, 19, 20].contains u then 0x103 else u
  | .rom => 0x100
  | .sram => 0x101
  | .flash => 0x103
  | .default => 0x104

/-- Must a request of master `m` to address `a` wait: for a burst that holds the path, or for another master's locked sequence at the target? -/
def portBusy (m : Master) (a : Nat) (s : State) : Bool :=
  (match s.cmx.burst with | some b => portOf b.addr = portOf a | none => false)
    || (match s.cmx.lock with | some (o, x, false) => o ≠ m.num && targetOf x = targetOf a | _ => false)

/-! ### One word -/

/-- What GO and ABORT of a mailbox channel do besides the write; channels 1 and 2 take none from BAR0 (R398). -/
def mboxActs (m : Master) (a v : Nat) (env : Env) (s : State) : State :=
  match (List.range 3).find? (fun c => a = CMX_MBOX_CMD c || a = CMX_MBOX_ABORT c) with
  | none => s
  | some c =>
    if m = .m0 && c ≠ 0 then s
    else if a = CMX_MBOX_CMD c then (if bit v 31 then mboxGoReg c env s else s)
    else if bit v 0 then mboxAbort c env s
    else s

/-- The answer to a word with some strobes set (R384). -/
def partResp (m : Master) (a : Nat) (s : State) : Resp :=
  match routeResp m a s with
  | .okay =>
    match targetOf a with
    | .unit u => if (regRead u (a % 0x1000000) s).isSome then .slverr else .decerr
    | _ => .slverr
  | r => r

/-- One word of a request: its response and data, none where no strobe is set. -/
def wordAccess (q : MatrixReq) (a : Nat) (w : Strobe) (s : State) : Option (Resp × Nat) × State :=
  match w with
  | .skip => (none, s)
  | .part =>
    let r := partResp q.m a s
    let s := answered q.m a q.write r s
    (some (r, 0), if q.bar then s else s.emit (if q.write then .writeResp q.m a r else .readResp q.m a r 0))
  | .word v =>
    if q.write then
      let (r, s) := busWrite q.m a v.toNat q.env s
      let s := if q.bar then s else s.emit (.writeResp q.m a r)
      (some (r, 0), if r = .okay then mboxActs q.m a v.toNat q.env s else s)
    else
      let (r, d, s) := busRead q.m a s
      (some (r, d), if q.bar then s else s.emit (.readResp q.m a r d))

/-- The words of a request in ascending address order. -/
def wordsAccess (q : MatrixReq) : Nat → List Strobe → List (Resp × Nat) → State → List (Resp × Nat) × State
  | _, [], out, s => (out, s)
  | a, w :: ws, out, s =>
    let (r, s) := wordAccess q a w s
    wordsAccess q (a + 4) ws (match r with | some x => out ++ [x] | none => out) s

/-- The completion of a BAR0 read (R393). -/
def barComplete (q : MatrixReq) (out : List (Resp × Nat)) (s : State) : State :=
  if !q.bar || q.write then s
  else if out.any (fun x => x.1 = .decerr) then s.emit (.barDone 1 [] false)
  else if out.any (fun x => x.1 = .slverr) then s.emit (.barDone 2 [] false)
  else s.emit (.barDone 0 (out.flatMap (fun x => leBytes 4 x.2)) false)

/-! ### Bursts and locked sequences (R385, R390) -/

/-- A write that ends the locked sequence `lock`, or that comes after its lock has expired: then it is answered SLVERR. -/
def lockWrite (lock : Option (Nat × Nat × Bool)) (q : MatrixReq) (s : State) : State :=
  match lock with
  | some (o, x, expired) =>
    if q.write && o = q.m.num && x = q.addr then
      let s := { s with cmx := { s.cmx with lock := none } }
      if expired then (busError q.m q.addr true 2 s).emit (.writeResp q.m q.addr .slverr) else s
    else s
  | none => s

/-- The read of a locked sequence, which M1 and M4 alone may begin. -/
def lockRead (q : MatrixReq) (s : State) : State :=
  if q.lock && !q.write && (q.m = .m1 || q.m = .m4) then { s with cmx := { s.cmx with lock := some (q.m.num, q.addr, false) } } else s

/-- A granted request: its beats are delivered and answered; a burst whose master has not given every beat holds its path, and the pick moves past the
master served. -/
def serve (q : MatrixReq) (s : State) : State :=
  let p := portOf q.addr
  let s := { s with cmx := { s.cmx with picks := sset 0 s.cmx.picks p ((q.m.num + 1) % 5) } }
  let lock := s.cmx.lock
  let (out, s) := wordsAccess q q.addr q.beats.flatten [] s
  let s := lockRead q (lockWrite lock q (barComplete q out s))
  if q.beats.length < q.total then
    { s with cmx := { s.cmx with burst := some { m := q.m.num, addr := q.addr, write := q.write, total := q.total, done := q.beats.length } } }
  else s

/-- Is a waiting request the one that its port serves next: free, and first in the rotating order among those that wait there? -/
def servable (s : State) (q : MatrixReq) : Bool :=
  let p := portOf q.addr
  let key (x : MatrixReq) : Nat := (x.m.num + 5 - sget 0 s.cmx.picks p) % 5
  !(portBusy q.m q.addr s) && (s.cmx.waits.filter (fun x => portOf x.addr = p && !(portBusy x.m x.addr s))).all (fun x => decide (key q ≤ key x))

/-- Serve the requests that wait and need wait no longer. -/
def drainWaits : Nat → State → State
  | 0, s => s
  | fuel + 1, s =>
    match s.cmx.waits.find? (servable s) with
    | none => s
    | some q => drainWaits fuel (serve q { s with cmx := { s.cmx with waits := s.cmx.waits.erase q } })

/-- Serve what waits. -/
def drainPorts (s : State) : State := drainWaits (s.cmx.waits.length + 1) s

/-- A master presents a request. -/
def submit (q : MatrixReq) (s : State) : State :=
  if !(masterLive q.m s) then s
  else if portBusy q.m q.addr s then { s with cmx := { s.cmx with waits := s.cmx.waits ++ [q] } }
  else if s.cmx.waits.isEmpty then serve q s
  else drainPorts (serve q s)

/-- A write of one word by a master. -/
def hostWord (m : Master) (a v : Nat) (env : Env) (s : State) : State :=
  submit { m := m, addr := a, write := true, total := 1, lock := false, bar := false, beats := [[.word (BitVec.ofNat 32 v)]], env := env } s

/-- The open burst of master `m` goes on with further beats. -/
def burstGoesOn (b : Burst) (m : Master) (beats : List (List Strobe)) (env : Env) (s : State) : State :=
  let beats := beats.take (b.total - b.done)
  let q : MatrixReq := { m := m, addr := b.addr, write := b.write, total := b.total, lock := false, bar := false, beats := beats, env := env }
  let (_, s) := wordsAccess q (b.addr + 32 * b.done) beats.flatten [] s
  if b.done + beats.length < b.total then { s with cmx := { s.cmx with burst := some { b with done := b.done + beats.length } } }
  else drainPorts { s with cmx := { s.cmx with burst := none } }

/-- The open burst of a master. -/
def burstOf (m : Master) (s : State) : Option Burst := s.cmx.burst.filter (fun b => b.m = m.num)

/-! ### The reset of a master (R389) -/

/-- The matrix finishes a read burst on its master's behalf: the words are read, and their data go nowhere. -/
def finishReads (m : Master) : Nat → Nat → State → State
  | 0, _, s => s
  | n + 1, a, s => finishReads m n (a + 4) (busRead m a s).2.2

/-- Master `m` is reset: an open burst is finished and reported, and its lock and its waiting requests end. -/
def masterReset (m : Master) (s : State) : State :=
  let s := { s with cmx := { s.cmx with waits := s.cmx.waits.filter (fun q => decide (q.m ≠ m)) } }
  let s := match s.cmx.lock with
    | some (o, _, _) => if o = m.num then { s with cmx := { s.cmx with lock := none } } else s
    | none => s
  let s := match burstOf m s with
    | none => s
    | some b =>
      let s := if b.write then s else finishReads m (8 * (b.total - b.done)) (b.addr + 32 * b.done) s
      raise EV_CMX_BURST_RESET b.addr (b.m + 256 * b.done + 65536 * b.total)
        ({ s with cmx := { s.cmx with burst := none } }.inc CMX_CNT_BURST_RESET 1)
  let s := if m = .m3 then { s with cmx := { s.cmx with tap := .idcode } } else s
  drainPorts s

/-- A target has not answered master `m` within 10 µs (R388): SLVERR on its behalf, zero data, no effect, and the path is released. -/
def targetTimeout (m : Master) (a : Nat) (write : Bool) (s : State) : State :=
  if !(masterLive m s) then s
  else
    let s := busError m a write 3 s
    let s := s.emit (if write then .writeResp m a .slverr else if m = .m0 then .barDone 2 [] false else .readResp m a .slverr 0)
    let s := match burstOf m s with
      | some b => if portOf b.addr = portOf a then { s with cmx := { s.cmx with burst := none } } else s
      | none => s
    drainPorts s

/-- The lock of a locked sequence expires (R390). -/
def lockExpire (s : State) : State :=
  match s.cmx.lock with
  | some (o, a, false) => drainPorts { s with cmx := { s.cmx with lock := some (o, a, true) } }
  | _ => s

/-! ### Meanings -/

/-- REGISTER_WRITE: one 32-bit write to any register or table word (R8 to R10). -/
def execRegisterWrite (m : Master) (addr value : Word) (env : Env) (s : State) : Host.Outcome State Fault Refusal :=
  .next (hostWord m addr.toNat value.toNat env s)

/-- UNIT_EVENT_CLEAR -/
def execUnitEventClear (m : Master) (unit : Fin 21) (value : Word) (env : Env) (s : State) : Host.Outcome State Fault Refusal :=
  .next (hostWord m (UNIT_EVENT unit.val) value.toNat env s)

/-- MATRIX_BURST: a burst of `total` beats begins with the beats at hand, or master `m`'s open burst goes on with them (R384, R385). -/
def execMatrixBurst (m : Master) (addr : Word) (write lock : Bool) (total : Fin 17) (beats : List (List Strobe)) (env : Env) (s : State) :
    Host.Outcome State Fault Refusal :=
  .next (match burstOf m s with
    | some b => burstGoesOn b m beats env s
    | none => submit { m := m, addr := addr.toNat, write := write, total := total.val, lock := lock, bar := false, beats := beats, env := env } s)

/-- TARGET_TIMEOUT -/
def execTargetTimeout (m : Master) (addr : Word) (write : Bool) (s : State) : Host.Outcome State Fault Refusal :=
  .next (targetTimeout m addr.toNat write s)

/-- MASTER_RESET -/
def execMasterReset (m : Master) (s : State) : Host.Outcome State Fault Refusal := .next (masterReset m s)

/-- LOCK_EXPIRY -/
def execLockExpiry (s : State) : Host.Outcome State Fault Refusal := .next (lockExpire s)

/-- BAR0_READ: the words that a BAR0 read asks for, from control address `addr` (R393). -/
def execBar0Read (addr : Word) (words : List Strobe) (env : Env) (s : State) : Host.Outcome State Fault Refusal :=
  .next (submit { m := .m0, addr := addr.toNat, write := false, total := 1, lock := false, bar := true, beats := [words], env := env } s)

/-- BAR0_WRITE: a posted write of words from control address `addr` (R384, R393). -/
def execBar0Write (addr : Word) (words : List Strobe) (env : Env) (s : State) : Host.Outcome State Fault Refusal :=
  .next (submit { m := .m0, addr := addr.toNat, write := true, total := 1, lock := false, bar := true, beats := [words], env := env } s)

end Sys2Proof.Machine
end

