-- ==== Sys2Proof/Machine/Ports.lean ====
section
/-! DEFINITION. The host ports: PCI Express, BAR2, MSI-X, the three mailbox channels, SMBus, PMBus, the watchdog and the test access port (R392 to R408). -/

namespace Sys2Proof.Machine

/-! ### PCI Express (R392, R393, R397) -/

/-- The link comes up at a rate and width, or goes down: then M0 is reset, and the host must configure its BARs and enable MSI-X again. -/
def pcieLink (rate width : Nat) (s : State) : State :=
  if s.mode = mOFF then s
  else if rate = 0 then
    masterReset .m0 (({ (setLink 0 width s) with cmx := { (setLink 0 width s).cmx with bars := false } }).wf CMX_PCIE_STATUS_MSIX_EN 0)
  else setLink rate width s

/-- A configuration request: retry status until 100 ms after reset, then in full; it may place or remove the BARs and enable or disable MSI-X. -/
def pcieConfig (early : Bool) (bars msix : Option Bool) (s : State) : State :=
  if s.mode = mOFF || s.rf CMX_STATUS_LINK_UP = 0 then s
  else if early || !s.cmx.cfgReady then s.emit (.cfgDone true)
  else
    let s := match bars with | some b => { s with cmx := { s.cmx with bars := b } } | none => s
    let s := match msix with | some b => msixFlush (s.wf CMX_PCIE_STATUS_MSIX_EN (b2n b)) | none => s
    s.emit (.cfgDone false)

/-! ### BAR2 (R394, R395) -/

/-- First BAR2 offset of the tile-store window, and its readable bytes. -/
def tsBase : Nat := 0xFF0000000
def tsBytes : Nat := 17408 * 8192
def inTsWindow (s : State) (a : Nat) : Bool := bit (s.reg CMX_BAR2_CFG) 0 && decide (tsBase ≤ a)

/-- Does a BAR2 request reach the part? -/
def bar2Live (s : State) : Bool := s.mode ≠ mOFF && s.cmx.bars && s.rf CMX_STATUS_LINK_UP = 1

/-- A BAR2 access ends in error `cause`. -/
def bar2Error (a cause : Nat) (write : Bool) (s : State) : State :=
  raise EV_CMX_BAR2_ERR (a / 64) (cause + 256 * b2n write) (s.inc CMX_CNT_BAR2_ERR 1)

/-- Byte `b` of the tile store. -/
def tsByte (s : State) (b : Nat) : Byte := (cellBytes (slotCells s (b / 8192))).getD (b % 8192) 0#8

/-- Do all `n` bytes from `a` exist in HBM? -/
def hbmAll (s : State) (a n : Nat) : Bool := hbmExists s a && hbmExists s (a + (n - 1))

def bar2Read (a n : Nat) (s : State) : State :=
  if !(bar2Live s) then s
  else if inTsWindow s a then
    if a - tsBase + n ≤ tsBytes then s.emit (.barDone 0 ((List.range n).map (fun i => tsByte s (a - tsBase + i))) false)
    else (bar2Error a 2 false s).emit (.barDone 1 [] false)
  else if !(hbmAll s a n) then (bar2Error a 2 false s).emit (.barDone 1 [] false)
  else
    let (r, s) := hbmGet 5 a n s
    if allBytes r then s.emit (.barDone 0 (bytesOf r) false)
    else (bar2Error a 1 false s).emit (.barDone 0 (List.replicate n 0xFF#8) true)

/-- A BAR2 write; one that ends in error leaves memory as it was. -/
def bar2Write (a : Nat) (bs : List Byte) (s : State) : State :=
  if !(bar2Live s) then s
  else if inTsWindow s a then bar2Error a 3 true s
  else if !(hbmAll s a bs.length) then bar2Error a 2 true s
  else if gainRegionHit s a bs.length then bar2Error a 4 true s
  else
    let (ok, t) := hbmPut 5 a bs s
    if ok then t else bar2Error a 1 true { t with hbm := s.hbm, mem := { t.mem with ecc := s.mem.ecc } }

/-! ### The mailbox channels (R398 to R403) -/

/-- A command comes in on channel `c`: the host writes the arguments and GO through BAR0, or a request datagram or block write of the next sequence
number brings it. A busy channel 0 answers SLVERR; a busy channel 1 or 2 replies BUSY. -/
def command (c code : Nat) (args : List Nat) (env : Env) (s : State) : State :=
  if c = 0 then
    let s := foldS (fun k t => hostWord .m0 (CMX_MBOX_ARG 0 k) (args.getD k 0) env t) (List.range 8) s
    hostWord .m0 (CMX_MBOX_CMD 0) (code + 2 ^ 31) env s
  else if !(mboxServed s) then s
  else if c = 1 then
    let q := (s.cmx.lastSeq.getD 0 + 1) % 65536
    if mboxBusy s 1 then s.emit (.mgt 0 (replyBytes q code mbBUSY []))
    else mboxGo 1 code args env { s with cmx := { s.cmx with lastSeq := some q, lastReply := [] } }
  else
    let q := (s.cmx.smbSeq + 1) % 65536
    if mboxBusy s 2 then { s with cmx := { s.cmx with smbReply := replyBytes q code mbBUSY [] } }
    else mboxGo 2 code args env { s with cmx := { s.cmx with smbSeq := q, smbReply := [] } }

/-- The parts of a request of 36 bytes. -/
def reqSeq (b : List Byte) : Nat := fieldAt b 0 2
def reqCmd (b : List Byte) : Nat := fieldAt b 2 2
def reqArgs (b : List Byte) : List Nat := (List.range 8).map (fun k => fieldAt b (4 + 4 * k) 4)

/-- A datagram at the management port: a repeated sequence number receives the last reply again (R402). -/
def mgtRequest (port : Nat) (b : List Byte) (env : Env) (s : State) : State :=
  if !(mboxServed s) || port ≠ s.rf CMX_MGT_CFG_MBOX_PORT || b.length ≠ 36 then s
  else if s.cmx.lastSeq = some (reqSeq b) then (if s.cmx.lastReply.isEmpty then s else s.emit (.mgt 0 s.cmx.lastReply))
  else if mboxBusy s 1 then s.emit (.mgt 0 (replyBytes (reqSeq b) (reqCmd b) mbBUSY []))
  else mboxGo 1 (reqCmd b) (reqArgs b) env { s with cmx := { s.cmx with lastSeq := some (reqSeq b), lastReply := [] } }

/-- Any other packet (R401). -/
def mgtPacket (p : MgtPkt) (s : State) : State :=
  if !(mboxServed s) then s
  else
    match p with
    | .arp => s.emit (.mgt 2 [])
    | .neighbour => s.emit (.mgt 3 [])
    | .echo _ d => s.emit (.mgt 1 d)
    | .other => s

/-- Does the target answer an SMBus transfer to address `a`? -/
def smbMine (a : Nat) (s : State) : Bool := s.mode ≠ mOFF && a = s.rf CMX_BASIC_SMB_ADDR

/-- The highest sensor temperature. -/
def maxTemp (s : State) : Int := (hottest ((List.range 16).map (fun i => sext 8 (s.reg (HLT_TEMP i))))).2

def smbReadWord (a : Nat) (s : State) : State :=
  if smbMine a s then s.emit (.smb true [BitVec.ofNat 8 s.mode, BitVec.ofInt 8 (maxTemp s)]) else s

/-- A Block Write of a request: NACKed for a wrong packet error code or length, or with no firmware to serve it. -/
def smbBlockWrite (a : Nat) (b : List Byte) (pec : Option Byte) (env : Env) (s : State) : State :=
  if !(smbMine a s) then s
  else
    let good := match pec with
      | some x => x.toNat = crc crc8 ([BitVec.ofNat 8 (2 * a), 0x10#8, BitVec.ofNat 8 b.length] ++ b)
      | none => true
    if !good || b.length ≠ 36 || !(mboxServed s) then s.emit (.smb false [])
    else
      let s := s.emit (.smb true [])
      if mboxBusy s 2 then { s with cmx := { s.cmx with smbReply := replyBytes (reqSeq b) (reqCmd b) mbBUSY [] } }
      else mboxGo 2 (reqCmd b) (reqArgs b) env { s with cmx := { s.cmx with smbSeq := reqSeq b, smbReply := [] } }

/-- A Block Read of the reply; NACKed while there is none. -/
def smbBlockRead (a : Nat) (s : State) : State :=
  if !(smbMine a s) then s
  else if s.cmx.smbReply.isEmpty then s.emit (.smb false [])
  else s.emit (.smb true s.cmx.smbReply)

/-! ### PMBus and the core voltage (R405, R406) -/

/-- The armed AVS acts on the lowest headroom count of the second. -/
def avsStep (s : State) : State :=
  let n := s.hlt.fabMin.getD (s.rf HLT_FABRIC_COUNT)
  let thr := s.reg CAD_HEADROOM_THR % 65536
  let mv := s.reg CMX_PMB_VOUT % 1024
  let hi := 750 + s.rf CMX_PMB_CFG_VMAX
  let lo := 610 + s.rf CMX_PMB_CFG_VMIN
  if s.rf CMX_ARM_AVS = 0 || s.cmx.voutExp.isNone then s
  else if n < thr && mv < hi then setVout (min hi (mv + 5)) s
  else if 105 * thr < 100 * n && lo < mv then setVout (max lo (mv - 5)) s
  else s

/-- The second's poll: what the regulator answered (voltage, current, status), or the command code and occasion of the failure. -/
def pmbusPoll (fault : Option (BitVec 8 × Nat)) (v i st : Nat) (s : State) : State :=
  if s.mode = mOFF then s
  else
    match fault with
    | some (c, k) => raise EV_CMX_PMBUS_FAULT c.toNat (Config.openCause 0x1209 (k + 2)).toNat s
    | none => avsStep (((s.setReg CMX_PMB_READ_VOUT (v % 1024)).setReg CMX_PMB_READ_IOUT (i % 2 ^ 20)).setReg CMX_PMB_STATUS (st % 65536))

/-! ### The watchdog (R407) -/

/-- Every command in flight ends with status RESET, and what the firmware was doing for it goes on without an answer. -/
def endInFlight (s : State) : State :=
  let s := foldS (fun c t => if mboxBusy t c then mboxDone c mbRESET [] t else t) (List.range 3) s
  { s with cmx := { s.cmx with steps := [], late := [], train := none }
           hlt := { s.hlt with trans := s.hlt.trans.map (fun t => if 1 ≤ t.src && t.src ≤ 3 then { t with src := 5 } else t) } }

/-- The firmware restarts from the slot in use; a slot in TRIAL uses one try, or is REJECTED (R455). -/
def firmwareRestart (s : State) : State :=
  let k := s.tru.running
  if !(k < 2 && (slot s k).1 = slTRIAL) then s
  else if (slot s k).2 = 0 then
    let s := bootConfirmed (setSlotSt k slREJECTED 0 s)
    raise EV_TRU_FALLBACK k (fwVersion s) s
  else raise EV_TRU_TRIAL_STARTED k (slotVer s k) (setSlotSt k slTRIAL ((slot s k).2 - 1) s)

/-- The reset of the management core alone; in CLOSING it ends the survey (R389, R426). -/
def coreReset (s : State) : State :=
  let s := firmwareRestart (endInFlight (masterReset .m1 s))
  if s.mode = mCLOSING then surveyOver 4 s else s

/-- The watchdog times out at program counter `pc`. -/
def wdogExpired (pc : Nat) (s : State) : State :=
  if !(mboxServed s) then s
  else
    let armed := s.rf CMX_ARM_WDOG_RESET = 1
    let s := raise EV_CMX_WDOG_EXPIRED pc (b2n armed) s
    if armed then coreReset s else s

/-! ### The test access port (R408, R463) -/

/-- The instruction as the port takes it. -/
def tapTaken (i : TapInstr) (s : State) : TapInstr :=
  match i with
  | .extest | .clamp | .highz | .extestPulse | .extestTrain => if s.mode = mOFF || s.mode = mBOOT || s.mode = mSAFE then i else .bypass
  | .debug => if bit (s.reg TRU_DEBUG) 0 then i else .bypass
  | _ => i

def tapLoad (i : TapInstr) (s : State) : State :=
  let t := tapTaken i s
  ({ s with cmx := { s.cmx with tap := t } }).emit (.tap t)

/-! ### Meanings -/

/-- PCIE_CONFIG_REQUEST -/
def execPcieConfigRequest (early : Bool) (bars msix : Option Bool) (s : State) : Host.Outcome State Fault Refusal := .next (pcieConfig early bars msix s)

/-- PCIE_LINK -/
def execPcieLink (rate : Fin 6) (width : Fin 9) (s : State) : Host.Outcome State Fault Refusal := .next (pcieLink rate.val width.val s)

/-- BAR2_READ -/
def execBar2Read (addr : BitVec 36) (len : Fin 4097) (s : State) : Host.Outcome State Fault Refusal := .next (bar2Read addr.toNat len.val s)

/-- BAR2_WRITE -/
def execBar2Write (addr : BitVec 36) (data : List Byte) (s : State) : Host.Outcome State Fault Refusal := .next (bar2Write addr.toNat data s)

/-- MSIX_VECTOR_UNMASK: the host clears the mask bit of the vector (R397). -/
def execMsixVectorUnmask (vector : Fin 256) (env : Env) (s : State) : Host.Outcome State Fault Refusal :=
  .next (hostWord .m0 (CMX_MSIX_TABLE (4 * vector.val + 3)) 0 env s)

/-- GET_INFO -/
def execGetInfo (channel : Fin 3) (env : Env) (s : State) : Host.Outcome State Fault Refusal := .next (command channel.val 1 [] env s)

/-- SET_MODE -/
def execSetMode (channel : Fin 3) (mode : Word) (env : Env) (s : State) : Host.Outcome State Fault Refusal :=
  .next (command channel.val 2 [mode.toNat] env s)

/-- APPLY_REFERENCE -/
def execApplyReference (channel : Fin 3) (env : Env) (s : State) : Host.Outcome State Fault Refusal := .next (command channel.val 3 [] env s)

/-- SET_EPOCH -/
def execSetEpoch (channel : Fin 3) (label : BitVec 64) (env : Env) (s : State) : Host.Outcome State Fault Refusal :=
  .next (command channel.val 4 [label.toNat % 2 ^ 32, label.toNat / 2 ^ 32] env s)

/-- SELECT_REF -/
def execSelectRef (channel : Fin 3) (entry : Word) (env : Env) (s : State) : Host.Outcome State Fault Refusal :=
  .next (command channel.val 5 [entry.toNat] env s)

/-- PLAN_RUN -/
def execPlanRun (channel : Fin 3) (blocks : Word) (env : Env) (s : State) : Host.Outcome State Fault Refusal :=
  .next (command channel.val 6 [blocks.toNat] env s)

/-- PLAN_STOP -/
def execPlanStop (channel : Fin 3) (env : Env) (s : State) : Host.Outcome State Fault Refusal := .next (command channel.val 7 [] env s)

/-- DRAIN -/
def execDrain (channel : Fin 3) (plan arg : Word) (env : Env) (s : State) : Host.Outcome State Fault Refusal :=
  .next (command channel.val 8 [plan.toNat, arg.toNat] env s)

/-- HALT_SCOPE -/
def execHaltScope (channel : Fin 3) (scope : Word) (anchor : BitVec 64) (env : Env) (s : State) : Host.Outcome State Fault Refusal :=
  .next (command channel.val 9 [scope.toNat, anchor.toNat % 2 ^ 32, anchor.toNat / 2 ^ 32] env s)

/-- RESUME_SCOPE -/
def execResumeScope (channel : Fin 3) (scope : Word) (anchor : BitVec 64) (env : Env) (s : State) : Host.Outcome State Fault Refusal :=
  .next (command channel.val 10 [scope.toNat, anchor.toNat % 2 ^ 32, anchor.toNat / 2 ^ 32] env s)

/-- READ_LOG -/
def execReadLog (channel : Fin 3) (env : Env) (s : State) : Host.Outcome State Fault Refusal := .next (command channel.val 11 [] env s)

/-- ARM -/
def execArm (channel : Fin 3) (unit value : Word) (env : Env) (s : State) : Host.Outcome State Fault Refusal :=
  .next (command channel.val 12 [unit.toNat, value.toNat] env s)

/-- TRAIN -/
def execTrain (channel : Fin 3) (env : Env) (s : State) : Host.Outcome State Fault Refusal := .next (command channel.val 13 [] env s)

/-- SET_VCORE -/
def execSetVcore (channel : Fin 3) (mv : Word) (env : Env) (s : State) : Host.Outcome State Fault Refusal :=
  .next (command channel.val 14 [mv.toNat] env s)

/-- UPDATE_WRITE -/
def execUpdateWrite (channel : Fin 3) (addr : BitVec 64) (len : Word) (env : Env) (s : State) : Host.Outcome State Fault Refusal :=
  .next (command channel.val 15 [1, addr.toNat % 2 ^ 32, addr.toNat / 2 ^ 32, len.toNat] env s)

/-- UPDATE_TRIAL -/
def execUpdateTrial (channel : Fin 3) (env : Env) (s : State) : Host.Outcome State Fault Refusal := .next (command channel.val 15 [2] env s)

/-- UPDATE_CONFIRM -/
def execUpdateConfirm (channel : Fin 3) (force : Bool) (env : Env) (s : State) : Host.Outcome State Fault Refusal :=
  .next (command channel.val 15 [3, b2n force] env s)

/-- UPDATE_REJECT -/
def execUpdateReject (channel : Fin 3) (env : Env) (s : State) : Host.Outcome State Fault Refusal := .next (command channel.val 15 [4] env s)

/-- UPDATE_STATUS -/
def execUpdateStatus (channel : Fin 3) (env : Env) (s : State) : Host.Outcome State Fault Refusal := .next (command channel.val 15 [5] env s)

/-- UPDATE_TICKET -/
def execUpdateTicket (channel : Fin 3) (addr : BitVec 64) (len : Word) (env : Env) (s : State) : Host.Outcome State Fault Refusal :=
  .next (command channel.val 15 [6, addr.toNat % 2 ^ 32, addr.toNat / 2 ^ 32, len.toNat] env s)

/-- UPDATE_SAFE_WRITE -/
def execUpdateSafeWrite (channel : Fin 3) (addr : BitVec 64) (len : Word) (env : Env) (s : State) : Host.Outcome State Fault Refusal :=
  .next (command channel.val 15 [7, addr.toNat % 2 ^ 32, addr.toNat / 2 ^ 32, len.toNat] env s)

/-- UPDATE_KEYFLOOR_REVOKE -/
def execUpdateKeyfloorRevoke (channel : Fin 3) (addr : BitVec 64) (len : Word) (env : Env) (s : State) : Host.Outcome State Fault Refusal :=
  .next (command channel.val 15 [8, addr.toNat % 2 ^ 32, addr.toNat / 2 ^ 32, len.toNat] env s)

/-- SURVEY -/
def execSurvey (channel : Fin 3) (env : Env) (s : State) : Host.Outcome State Fault Refusal := .next (command channel.val 16 [] env s)

/-- TAKEOVER -/
def execTakeover (channel : Fin 3) (env : Env) (s : State) : Host.Outcome State Fault Refusal := .next (command channel.val 17 [] env s)

/-- MGT_MBOX_REQUEST -/
def execMgtMboxRequest (port : BitVec 16) (data : List Byte) (env : Env) (s : State) : Host.Outcome State Fault Refusal :=
  .next (mgtRequest port.toNat data env s)

/-- MGT_PACKET_RX -/
def execMgtPacketRx (pkt : MgtPkt) (s : State) : Host.Outcome State Fault Refusal := .next (mgtPacket pkt s)

/-- SMB_READ_WORD -/
def execSmbReadWord (addr : BitVec 7) (s : State) : Host.Outcome State Fault Refusal := .next (smbReadWord addr.toNat s)

/-- SMB_BLOCK_WRITE -/
def execSmbBlockWrite (addr : BitVec 7) (data : List Byte) (pec : Option Byte) (env : Env) (s : State) : Host.Outcome State Fault Refusal :=
  .next (smbBlockWrite addr.toNat data pec env s)

/-- SMB_BLOCK_READ -/
def execSmbBlockRead (addr : BitVec 7) (s : State) : Host.Outcome State Fault Refusal := .next (smbBlockRead addr.toNat s)

/-- PMBUS_POLL: what the regulator answered, or the code of the command that failed and whether by a PEC failure. -/
def execPmbusPoll (failed : Option (BitVec 8 × Bool)) (vout : BitVec 10) (iout : BitVec 20) (status : BitVec 16) (s : State) :
    Host.Outcome State Fault Refusal :=
  .next (pmbusPoll (failed.map (fun x => (x.1, b2n x.2))) vout.toNat iout.toNat status.toNat s)

/-- WDOG_EXPIRED -/
def execWdogExpired (pc : Word) (s : State) : Host.Outcome State Fault Refusal := .next (wdogExpired pc.toNat s)

/-- TAP_INSTRUCTION -/
def execTapInstruction (instruction : TapInstr) (s : State) : Host.Outcome State Fault Refusal := .next (tapLoad instruction s)

end Sys2Proof.Machine
end

