-- ==== Sys2Proof/Machine/Progress.lean ====
section
/-! DEFINITION. What happens at a budget period, and the surveyor cores' access to memory and to control space (R272, R320, R376, R379, R363). -/

namespace Sys2Proof.Machine

/-! ### The budget period (R320) -/

/-- A budget period ends: the cadastre's accounts, the fabric's figures, migration steps, mode changes that wait for the boundary, and the twins. -/
def budgetPeriod (count : Nat) (us : List Use) (peerAct : Bool) (s : State) : State :=
  let s := fabricPeriod (cadPeriod count us s)
  mboxPoll (twinPeriod peerAct (periodCommit { s with atl := { s.atl with stepped := false } }))

/-! ### LOAD and STORE (R272) -/

/-- Byte address of a LOAD or STORE. -/
def planAddr (k : SvyCore) (w : Nat) : Nat := (k.rd (pA w) + pIMM w) % 2 ^ 32

/-- A plan-memory address within its limits. -/
def planMemOk (a : Nat) : Bool := a % 8 = 0 && decide (a < 262144)

/-- May a core issue an access to this control address at all: not to the windows of CMX, TRU or HLT? -/
def planReach (a : Nat) : Bool := match targetOf a with | .unit u => decide (u < 18) | _ => true

/-- LOAD. -/
def piLoad (c w : Nat) (s : State) : State :=
  let k := s.score c
  let a := planAddr k w
  if pM w = 0 then
    if planMemOk a then svyNext c (s.setScore c (k.wr (pD w) (planWord s c (a / 8)))) else svyFault c 2 s
  else if !(planReach a) then svyFault c 3 s
  else if portBusy .m2 a s then s
  else
    let (r, d, s) := busRead .m2 a s
    if r = .okay then svyNext c (s.setScore c ((s.score c).wr (pD w) d)) else svyFault c 3 s

/-- STORE. -/
def piStore (c w : Nat) (env : Env) (s : State) : State :=
  let k := s.score c
  let a := planAddr k w
  let v := k.rd (pB w)
  if pM w = 0 then
    if planMemOk a then svyNext c ((s.setReg (SVY_MEM c (a / 4)) (v % 2 ^ 32)).setReg (SVY_MEM c (a / 4 + 1)) (v / 2 ^ 32)) else svyFault c 2 s
  else if !(planReach a) then svyFault c 3 s
  else if portBusy .m2 a s then s
  else
    let (r, s) := busWrite .m2 a (v % 2 ^ 32) env s
    if r ≠ .okay then svyFault c 3 s
    else if (s.score c).st = sRUNNING then svyNext c s
    else s

/-! ### Edges of the time service and the meridian -/

/-- The master of a domain in SLAVE falls silent: the domain goes back to LISTENING, and the next edge deals with the loss (R376). -/
def domainLeaves (d : Nat) (s : State) : State := if ptpSt s d = ptSLAVE then ptpMessage d .announceTimeout s else s

/-- The build-out offset being slewed has come to zero (R363). -/
def slewEnd (s : State) : State :=
  if s.rf MER_STATE_SLEWING = 0 then s
  else (({ s with mer := { s.mer with build := 0 } }).setReg64 MER_BUILDOUT_LO MER_BUILDOUT_HI 0).wf MER_STATE_SLEWING 0

/-! ### Meanings -/

/-- PLAN_LOAD -/
def execPlanLoad (core : Fin 8) (s : State) : Host.Outcome State Fault Refusal := .next (svyExec 0x18 piLoad core.val s)

/-- PLAN_STORE -/
def execPlanStore (core : Fin 8) (env : Env) (s : State) : Host.Outcome State Fault Refusal :=
  .next (svyExec 0x19 (fun c w t => piStore c w env t) core.val s)

/-- BUDGET_PERIOD: `count` handshakes were there, `uses` was granted, and the peer's active line stands at `peerAct`. -/
def execBudgetPeriod (count : Nat) (uses : List Use) (peerAct : Bool) (s : State) : Host.Outcome State Fault Refusal :=
  .next (unlessOff (budgetPeriod count uses peerAct) s)

/-- DOMAIN_LEAVES_SLAVE -/
def execDomainLeavesSlave (domain : Fin 2) (s : State) : Host.Outcome State Fault Refusal := .next (domainLeaves domain.val s)

/-- EVT_OUT_PULSE: the pulses of output `k` due at the sample index reached. -/
def execEvtOutPulse (output : Fin 4) (s : State) : Host.Outcome State Fault Refusal :=
  .next (if s.rf MER_STATE_IDX_VALID = 1 then evtTick s.mer.idx output.val s else s)

/-- SLEW_END -/
def execSlewEnd (s : State) : Host.Outcome State Fault Refusal := .next (slewEnd s)

end Sys2Proof.Machine
end

