-- ==== Sys2Proof/Machine/RegArray.lean ====
section
/-!
DEFINITION. Register writes of the graticule, staging, bearing cores, X-arrays, accumulation and atlas (GRT, STG, BRG, XAR, ACC, ATL), one meaning per row of the opcode table: the write of the register by a master through the control matrix, `value` being
the word written.
-/

namespace Sys2Proof.Machine

/-- GRT_BASIC_WRITE (R131). -/
def execGrtBasicWrite (m : Master) (value : Word) (env : Env) (s : State) : Host.Outcome State Fault Refusal :=
  .next (hostWord m (UNIT_BASIC uGRT) value.toNat env s)

/-- GRT_CHIP_WRITE (R133). -/
def execGrtChipWrite (m : Master) (value : Word) (env : Env) (s : State) : Host.Outcome State Fault Refusal :=
  .next (hostWord m GRT_CHIP value.toNat env s)

/-- GRT_APPLY (R134): a write with APPLY set. -/
def execGrtApply (m : Master) (value : Word) (env : Env) (s : State) : Host.Outcome State Fault Refusal :=
  .next (hostWord m GRT_CTRL (setBits value.toNat 0 1 1) env s)

/-- GRT_CNT_CLEAR (R86). -/
def execGrtCntClear (m : Master) (value : Word) (env : Env) (s : State) : Host.Outcome State Fault Refusal :=
  .next (hostWord m GRT_CNT_CLEAR value.toNat env s)

/-- STG_BASIC_WRITE (R132). -/
def execStgBasicWrite (m : Master) (value : Word) (env : Env) (s : State) : Host.Outcome State Fault Refusal :=
  .next (hostWord m (UNIT_BASIC uSTG) value.toNat env s)

/-- STG_START (R147): a write with START set. -/
def execStgStart (m : Master) (value : Word) (env : Env) (s : State) : Host.Outcome State Fault Refusal :=
  .next (hostWord m STG_CTRL (setBits value.toNat 0 1 1) env s)

/-- STG_STOP (R147): a write with STOP set. -/
def execStgStop (m : Master) (value : Word) (env : Env) (s : State) : Host.Outcome State Fault Refusal :=
  .next (hostWord m STG_CTRL (setBits value.toNat 1 1 1) env s)

/-- STG_CNT_CLEAR (R86). -/
def execStgCntClear (m : Master) (value : Word) (env : Env) (s : State) : Host.Outcome State Fault Refusal :=
  .next (hostWord m STG_CNT_CLEAR value.toNat env s)

/-- BRG_BASIC_WRITE (R157). -/
def execBrgBasicWrite (m : Master) (value : Word) (env : Env) (s : State) : Host.Outcome State Fault Refusal :=
  .next (hostWord m (UNIT_BASIC uBRG) value.toNat env s)

/-- BRG_CORE_RUN (R166): a write with RUN set. -/
def execBrgCoreRun (m : Master) (core : Fin 16) (value : Word) (env : Env) (s : State) : Host.Outcome State Fault Refusal :=
  .next (hostWord m (BRG_CORE_CTRL core.val) (setBits value.toNat 0 1 1) env s)

/-- BRG_CORE_HALT (R179): a write with HALT set. -/
def execBrgCoreHalt (m : Master) (core : Fin 16) (value : Word) (env : Env) (s : State) : Host.Outcome State Fault Refusal :=
  .next (hostWord m (BRG_CORE_CTRL core.val) (setBits value.toNat 1 1 1) env s)

/-- BRG_CORE_STEP (R179): a write with STEP set. -/
def execBrgCoreStep (m : Master) (core : Fin 16) (value : Word) (env : Env) (s : State) : Host.Outcome State Fault Refusal :=
  .next (hostWord m (BRG_CORE_CTRL core.val) (setBits value.toNat 2 1 1) env s)

/-- BRG_CORE_LOADBI (R179): a write with LOADBI set. -/
def execBrgCoreLoadbi (m : Master) (core : Fin 16) (value : Word) (env : Env) (s : State) : Host.Outcome State Fault Refusal :=
  .next (hostWord m (BRG_CORE_CTRL core.val) (setBits value.toNat 3 1 1) env s)

/-- BRG_DOORBELL (R164). -/
def execBrgDoorbell (m : Master) (core : Fin 16) (value : Word) (env : Env) (s : State) : Host.Outcome State Fault Refusal :=
  .next (hostWord m (BRG_CORE_DOORBELL core.val) value.toNat env s)

/-- BRG_DIR_SWITCH_ARM (R171). -/
def execBrgDirSwitchArm (m : Master) (value : Word) (env : Env) (s : State) : Host.Outcome State Fault Refusal :=
  .next (hostWord m BRG_DIR_CTRL value.toNat env s)

/-- BRG_CNT_CLEAR (R86). -/
def execBrgCntClear (m : Master) (value : Word) (env : Env) (s : State) : Host.Outcome State Fault Refusal :=
  .next (hostWord m BRG_CNT_CLEAR value.toNat env s)

/-- XAR_BASIC_WRITE (R180). -/
def execXarBasicWrite (m : Master) (value : Word) (env : Env) (s : State) : Host.Outcome State Fault Refusal :=
  .next (hostWord m (UNIT_BASIC uXAR) value.toNat env s)

/-- XAR_ENABLE_WRITE (R181). -/
def execXarEnableWrite (m : Master) (reg : Fin 3) (value : Word) (env : Env) (s : State) : Host.Outcome State Fault Refusal :=
  .next (hostWord m (XAR_ENABLE_0 + 4 * reg.val) value.toNat env s)

/-- XAR_TABLE_WRITE (R194). -/
def execXarTableWrite (m : Master) (off : BitVec 24) (value : Word) (env : Env) (s : State) : Host.Outcome State Fault Refusal :=
  .next (hostWord m (0x9000000 + off.toNat) value.toNat env s)

/-- XAR_CNT_CLEAR (R86). -/
def execXarCntClear (m : Master) (value : Word) (env : Env) (s : State) : Host.Outcome State Fault Refusal :=
  .next (hostWord m XAR_CNT_CLEAR value.toNat env s)

/-- ACC_BASIC_WRITE (R204). -/
def execAccBasicWrite (m : Master) (value : Word) (env : Env) (s : State) : Host.Outcome State Fault Refusal :=
  .next (hostWord m (UNIT_BASIC uACC) value.toNat env s)

/-- ACC_DRAIN (R206): a write with DRAIN set. -/
def execAccDrain (m : Master) (value : Word) (env : Env) (s : State) : Host.Outcome State Fault Refusal :=
  .next (hostWord m ACC_CTRL (setBits value.toNat 4 1 1) env s)

/-- SK_RESET (R217): a write with SK_RESET set. -/
def execSkReset (m : Master) (value : Word) (env : Env) (s : State) : Host.Outcome State Fault Refusal :=
  .next (hostWord m ACC_CTRL (setBits value.toNat 5 1 1) env s)

/-- ACC_CNT_CLEAR (R86). -/
def execAccCntClear (m : Master) (value : Word) (env : Env) (s : State) : Host.Outcome State Fault Refusal :=
  .next (hostWord m ACC_CNT_CLEAR value.toNat env s)

/-- ATL_BASIC_WRITE (R240). -/
def execAtlBasicWrite (m : Master) (value : Word) (env : Env) (s : State) : Host.Outcome State Fault Refusal :=
  .next (hostWord m (UNIT_BASIC uATL) value.toNat env s)

/-- ATL_REGION_WRITE (R237). -/
def execAtlRegionWrite (m : Master) (plan : Fin 16) (reg : Fin 2) (value : Word) (env : Env) (s : State) : Host.Outcome State Fault Refusal :=
  .next (hostWord m (ATL_PLAN_BASE plan.val + 4 * reg.val) value.toNat env s)

/-- STATS_RESET (R249): a write with STATS_RESET set. -/
def execStatsReset (m : Master) (value : Word) (env : Env) (s : State) : Host.Outcome State Fault Refusal :=
  .next (hostWord m ATL_CTRL (setBits value.toNat 4 1 1) env s)

/-- ATL_UNLOAD (R239): a write with UNLOAD set. -/
def execAtlUnload (m : Master) (value : Word) (env : Env) (s : State) : Host.Outcome State Fault Refusal :=
  .next (hostWord m ATL_CTRL (setBits value.toNat 5 1 1) env s)

/-- ATL_READ (R245): a write with CMD READ and GO. -/
def execAtlRead (m : Master) (value : Word) (env : Env) (s : State) : Host.Outcome State Fault Refusal :=
  .next (hostWord m ATL_OP_CTRL (setBits (setBits value.toNat 0 2 1) 8 1 1) env s)

/-- ATL_EVICT (R245): a write with CMD EVICT and GO. -/
def execAtlEvict (m : Master) (value : Word) (env : Env) (s : State) : Host.Outcome State Fault Refusal :=
  .next (hostWord m ATL_OP_CTRL (setBits (setBits value.toNat 0 2 2) 8 1 1) env s)

/-- ATL_OP_ABORT (R245): a write with ABORT set. -/
def execAtlOpAbort (m : Master) (value : Word) (env : Env) (s : State) : Host.Outcome State Fault Refusal :=
  .next (hostWord m ATL_OP_CTRL (setBits value.toNat 9 1 1) env s)

/-- DESC_SNAPSHOT (R258). -/
def execDescSnapshot (m : Master) (value : Word) (env : Env) (s : State) : Host.Outcome State Fault Refusal :=
  .next (hostWord m ATL_DESC_INDEX value.toNat env s)

/-- ATL_QUARANTINE (R255): a write with QUARANTINE set. -/
def execAtlQuarantine (m : Master) (value : Word) (env : Env) (s : State) : Host.Outcome State Fault Refusal :=
  .next (hostWord m ATL_QUAR_CTRL (setBits value.toNat 8 1 1) env s)

/-- ATL_RELEASE (R256): a write with RELEASE set. -/
def execAtlRelease (m : Master) (value : Word) (env : Env) (s : State) : Host.Outcome State Fault Refusal :=
  .next (hostWord m ATL_QUAR_CTRL (setBits value.toNat 9 1 1) env s)

/-- ATL_CNT_CLEAR (R258). -/
def execAtlCntClear (m : Master) (value : Word) (env : Env) (s : State) : Host.Outcome State Fault Refusal :=
  .next (hostWord m ATL_CNT_CLEAR value.toNat env s)

end Sys2Proof.Machine
end

