-- ==== Sys2Proof/Machine/RegHealth.lean ====
section
/-!
DEFINITION. Register writes of the health unit, the trust unit and the control matrix (HLT, TRU, CMX), one meaning per row of the opcode table: the write of the register by a master through the control matrix, `value` being
the word written.
-/

namespace Sys2Proof.Machine

/-- MBOX_ABORT (R400): a write with ABORT set. -/
def execMboxAbort (m : Master) (channel : Fin 3) (value : Word) (env : Env) (s : State) : Host.Outcome State Fault Refusal :=
  .next (hostWord m (CMX_MBOX_ABORT channel.val) (setBits value.toNat 0 1 1) env s)

/-- PMB_VOUT_WRITE (R406). -/
def execPmbVoutWrite (m : Master) (value : Word) (env : Env) (s : State) : Host.Outcome State Fault Refusal :=
  .next (hostWord m CMX_PMB_VOUT value.toNat env s)

/-- WDOG_KICK (R407): a write with KICK set. -/
def execWdogKick (m : Master) (value : Word) (env : Env) (s : State) : Host.Outcome State Fault Refusal :=
  .next (hostWord m CMX_WDOG (setBits value.toNat 31 1 1) env s)

/-- CMX_CNT_CLEAR (R86). -/
def execCmxCntClear (m : Master) (value : Word) (env : Env) (s : State) : Host.Outcome State Fault Refusal :=
  .next (hostWord m CMX_CNT_CLEAR value.toNat env s)

/-- MODE_CTRL_GO (R412): a write with GO set. -/
def execModeCtrlGo (m : Master) (value : Word) (env : Env) (s : State) : Host.Outcome State Fault Refusal :=
  .next (hostWord m HLT_MODE_CTRL (setBits value.toNat 8 1 1) env s)

/-- MODE_CTRL_ABORT (R413): a write with ABORT set. -/
def execModeCtrlAbort (m : Master) (value : Word) (env : Env) (s : State) : Host.Outcome State Fault Refusal :=
  .next (hostWord m HLT_MODE_CTRL (setBits value.toNat 9 1 1) env s)

/-- SURVEY_CUT (R426): a write with CUT set. -/
def execSurveyCut (m : Master) (value : Word) (env : Env) (s : State) : Host.Outcome State Fault Refusal :=
  .next (hostWord m HLT_SURVEY_CTRL (setBits value.toNat 0 1 1) env s)

/-- TWIN_CTRL_TAKEOVER (R436): a write with TAKEOVER set. -/
def execTwinCtrlTakeover (m : Master) (value : Word) (env : Env) (s : State) : Host.Outcome State Fault Refusal :=
  .next (hostWord m HLT_TWIN_CTRL (setBits value.toNat 0 1 1) env s)

/-- TWIN_CTRL_ABORT (R436): a write with ABORT set. -/
def execTwinCtrlAbort (m : Master) (value : Word) (env : Env) (s : State) : Host.Outcome State Fault Refusal :=
  .next (hostWord m HLT_TWIN_CTRL (setBits value.toNat 1 1 1) env s)

/-- LOG_READ_WRITE (R440). -/
def execLogReadWrite (m : Master) (value : Word) (env : Env) (s : State) : Host.Outcome State Fault Refusal :=
  .next (hostWord m HLT_LOG_READ value.toNat env s)

/-- HLT_BASIC_WRITE (R447). -/
def execHltBasicWrite (m : Master) (value : Word) (env : Env) (s : State) : Host.Outcome State Fault Refusal :=
  .next (hostWord m (UNIT_BASIC uHLT) value.toNat env s)

/-- HLT_CNT_CLEAR (R447). -/
def execHltCntClear (m : Master) (value : Word) (env : Env) (s : State) : Host.Outcome State Fault Refusal :=
  .next (hostWord m HLT_CNT_CLEAR value.toNat env s)

/-- DEBUG_TOKEN_WRITE (R463). -/
def execDebugTokenWrite (m : Master) (word : Fin 52) (value : Word) (env : Env) (s : State) : Host.Outcome State Fault Refusal :=
  .next (hostWord m (TRU_DEBUG_TOKEN word.val) value.toNat env s)

/-- REC_DATA_WRITE (R452). -/
def execRecDataWrite (m : Master) (value : Word) (env : Env) (s : State) : Host.Outcome State Fault Refusal :=
  .next (hostWord m TRU_REC_DATA value.toNat env s)

/-- REC_GO (R452): a write with GO set. -/
def execRecGo (m : Master) (value : Word) (env : Env) (s : State) : Host.Outcome State Fault Refusal :=
  .next (hostWord m TRU_REC_CTRL (setBits value.toNat 0 1 1) env s)

end Sys2Proof.Machine
end

