-- ==== Sys2Proof/Machine/RegLanes.lean ====
section
/-!
DEFINITION. Register writes of the lanes, framing, decimators, channeliser and resynthesiser (LNS, FRM, DEC, CHN, RSY), one meaning per row of the opcode table: the write of the register by a master through the control matrix, `value` being
the word written.
-/

namespace Sys2Proof.Machine

/-- OCTET_ROLE_WRITE (R63). -/
def execOctetRoleWrite (m : Master) (octet : Fin 12) (value : Word) (env : Env) (s : State) : Host.Outcome State Fault Refusal :=
  .next (hostWord m (LNS_OCTET_ROLE octet.val) value.toNat env s)

/-- LNS_BASIC_WRITE (R63). -/
def execLnsBasicWrite (m : Master) (value : Word) (env : Env) (s : State) : Host.Outcome State Fault Refusal :=
  .next (hostWord m (UNIT_BASIC uLNS) value.toNat env s)

/-- TX_FIR_WRITE (R65). -/
def execTxFirWrite (m : Master) (lane : Fin 96) (value : Word) (env : Env) (s : State) : Host.Outcome State Fault Refusal :=
  .next (hostWord m (LNS_TX_FIR lane.val) value.toNat env s)

/-- LANE_IDLE_SET (R73): a write with IDLE set. -/
def execLaneIdleSet (m : Master) (lane : Fin 96) (value : Word) (env : Env) (s : State) : Host.Outcome State Fault Refusal :=
  .next (hostWord m (LNS_LANE_CTRL lane.val) (setBits value.toNat 0 1 1) env s)

/-- LANE_IDLE_CLEAR (R74): a write with IDLE clear. -/
def execLaneIdleClear (m : Master) (lane : Fin 96) (value : Word) (env : Env) (s : State) : Host.Outcome State Fault Refusal :=
  .next (hostWord m (LNS_LANE_CTRL lane.val) (setBits value.toNat 0 1 0) env s)

/-- LANE_RETRAIN (R85): a write with RETRAIN set. -/
def execLaneRetrain (m : Master) (lane : Fin 96) (value : Word) (env : Env) (s : State) : Host.Outcome State Fault Refusal :=
  .next (hostWord m (LNS_LANE_CTRL lane.val) (setBits value.toNat 1 1 1) env s)

/-- LANE_ADAPT (R66): a write with ADAPT set. -/
def execLaneAdapt (m : Master) (lane : Fin 96) (value : Word) (env : Env) (s : State) : Host.Outcome State Fault Refusal :=
  .next (hostWord m (LNS_LANE_CTRL lane.val) (setBits value.toNat 2 1 1) env s)

/-- CK_SHADOW_WRITE (R78). -/
def execCkShadowWrite (m : Master) (lane : Fin 96) (word : Fin 8) (value : Word) (env : Env) (s : State) : Host.Outcome State Fault Refusal :=
  .next (hostWord m (FRM_CK_CFG lane.val + 4 * word.val) value.toNat env s)

/-- CK_PRESET_WRITE (R80). -/
def execCkPresetWrite (m : Master) (value : Word) (env : Env) (s : State) : Host.Outcome State Fault Refusal :=
  .next (hostWord m (UNIT_BASIC uFRM) value.toNat env s)

/-- PORT_CFG_WRITE (R83). -/
def execPortCfgWrite (m : Master) (port : Fin 8) (value : Word) (env : Env) (s : State) : Host.Outcome State Fault Refusal :=
  .next (hostWord m (FRM_PORT_CFG port.val) value.toNat env s)

/-- LNS_CNT_CLEAR (R86). -/
def execLnsCntClear (m : Master) (value : Word) (env : Env) (s : State) : Host.Outcome State Fault Refusal :=
  .next (hostWord m LNS_CNT_CLEAR value.toNat env s)

/-- FRM_CNT_CLEAR (R86). -/
def execFrmCntClear (m : Master) (value : Word) (env : Env) (s : State) : Host.Outcome State Fault Refusal :=
  .next (hostWord m FRM_CNT_CLEAR value.toNat env s)

/-- DEC_BASIC_WRITE (R90). -/
def execDecBasicWrite (m : Master) (value : Word) (env : Env) (s : State) : Host.Outcome State Fault Refusal :=
  .next (hostWord m (UNIT_BASIC uDEC) value.toNat env s)

/-- DEC_SHADOW_WRITE (R97). -/
def execDecShadowWrite (m : Master) (slot : Fin 256) (word : Fin 16) (value : Word) (env : Env) (s : State) : Host.Outcome State Fault Refusal :=
  .next (hostWord m (DEC_STREAM_CFG slot.val + 4 * word.val) value.toNat env s)

/-- DEC_SYNC_GO (R97): a write with GO set. -/
def execDecSyncGo (m : Master) (value : Word) (env : Env) (s : State) : Host.Outcome State Fault Refusal :=
  .next (hostWord m DEC_SYNC_CTRL (setBits value.toNat 0 1 1) env s)

/-- DEC_CNT_CLEAR (R86). -/
def execDecCntClear (m : Master) (value : Word) (env : Env) (s : State) : Host.Outcome State Fault Refusal :=
  .next (hostWord m DEC_CNT_CLEAR value.toNat env s)

/-- CHN_BASIC_WRITE (R106). -/
def execChnBasicWrite (m : Master) (value : Word) (env : Env) (s : State) : Host.Outcome State Fault Refusal :=
  .next (hostWord m (UNIT_BASIC uCHN) value.toNat env s)

/-- CHN_CFG_WRITE (R117). -/
def execChnCfgWrite (m : Master) (value : Word) (env : Env) (s : State) : Host.Outcome State Fault Refusal :=
  .next (hostWord m CHN_CFG value.toNat env s)

/-- CHN_COEF_DATA_WRITE (R117). -/
def execChnCoefDataWrite (m : Master) (value : Word) (env : Env) (s : State) : Host.Outcome State Fault Refusal :=
  .next (hostWord m CHN_COEF_DATA value.toNat env s)

/-- CHN_GAIN_DATA_WRITE (R113). -/
def execChnGainDataWrite (m : Master) (value : Word) (env : Env) (s : State) : Host.Outcome State Fault Refusal :=
  .next (hostWord m CHN_GAIN_DATA value.toNat env s)

/-- CHN_START (R118): a write with START set. -/
def execChnStart (m : Master) (value : Word) (env : Env) (s : State) : Host.Outcome State Fault Refusal :=
  .next (hostWord m CHN_CTRL (setBits value.toNat 0 1 1) env s)

/-- CHN_STOP (R119): a write with STOP set. -/
def execChnStop (m : Master) (value : Word) (env : Env) (s : State) : Host.Outcome State Fault Refusal :=
  .next (hostWord m CHN_CTRL (setBits value.toNat 1 1 1) env s)

/-- CHN_CNT_CLEAR (R86). -/
def execChnCntClear (m : Master) (value : Word) (env : Env) (s : State) : Host.Outcome State Fault Refusal :=
  .next (hostWord m CHN_CNT_CLEAR value.toNat env s)

/-- RSY_BASIC_WRITE (R130). -/
def execRsyBasicWrite (m : Master) (value : Word) (env : Env) (s : State) : Host.Outcome State Fault Refusal :=
  .next (hostWord m (UNIT_BASIC uRSY) value.toNat env s)

/-- RSY_COEF_DATA_WRITE (R126). -/
def execRsyCoefDataWrite (m : Master) (value : Word) (env : Env) (s : State) : Host.Outcome State Fault Refusal :=
  .next (hostWord m RSY_COEF_DATA value.toNat env s)

/-- RSY_START (R126): a write with START set. -/
def execRsyStart (m : Master) (value : Word) (env : Env) (s : State) : Host.Outcome State Fault Refusal :=
  .next (hostWord m RSY_CTRL (setBits value.toNat 0 1 1) env s)

/-- RSY_STOP (R126): a write with STOP set. -/
def execRsyStop (m : Master) (value : Word) (env : Env) (s : State) : Host.Outcome State Fault Refusal :=
  .next (hostWord m RSY_CTRL (setBits value.toNat 1 1 1) env s)

/-- RSY_SLICE_WRITE (R298). -/
def execRsySliceWrite (m : Master) (slice : Fin 1024) (half : Fin 2) (value : Word) (env : Env) (s : State) : Host.Outcome State Fault Refusal :=
  .next (hostWord m (0x5001000 + 8 * slice.val + 4 * half.val) value.toNat env s)

/-- RSY_CNT_CLEAR (R86). -/
def execRsyCntClear (m : Master) (value : Word) (env : Env) (s : State) : Host.Outcome State Fault Refusal :=
  .next (hostWord m RSY_CNT_CLEAR value.toNat env s)

end Sys2Proof.Machine
end

