-- ==== Sys2Proof/Machine/RegPlan.lean ====
section
/-!
DEFINITION. Register writes of the surveyor, trig point, cadastre and memory stacks (SVY, TRP, CAD, MEM), one meaning per row of the opcode table: the write of the register by a master through the control matrix, `value` being
the word written.
-/

namespace Sys2Proof.Machine

/-- SVY_BASIC_WRITE (R263). -/
def execSvyBasicWrite (m : Master) (value : Word) (env : Env) (s : State) : Host.Outcome State Fault Refusal :=
  .next (hostWord m (UNIT_BASIC uSVY) value.toNat env s)

/-- SVY_LOAD (R265): a write with LOAD set. -/
def execSvyLoad (m : Master) (core : Fin 8) (value : Word) (env : Env) (s : State) : Host.Outcome State Fault Refusal :=
  .next (hostWord m (SVY_CORE_CTRL core.val) (setBits value.toNat 0 1 1) env s)

/-- SVY_START (R262): a write with START set. -/
def execSvyStart (m : Master) (core : Fin 8) (value : Word) (env : Env) (s : State) : Host.Outcome State Fault Refusal :=
  .next (hostWord m (SVY_CORE_CTRL core.val) (setBits value.toNat 1 1 1) env s)

/-- SVY_STOP (R286): a write with STOP set. -/
def execSvyStop (m : Master) (core : Fin 8) (value : Word) (env : Env) (s : State) : Host.Outcome State Fault Refusal :=
  .next (hostWord m (SVY_CORE_CTRL core.val) (setBits value.toNat 2 1 1) env s)

/-- SVY_KILL (R286): a write with KILL set. -/
def execSvyKill (m : Master) (core : Fin 8) (value : Word) (env : Env) (s : State) : Host.Outcome State Fault Refusal :=
  .next (hostWord m (SVY_CORE_CTRL core.val) (setBits value.toNat 3 1 1) env s)

/-- SVY_SUSPEND (R286): a write with SUSPEND set. -/
def execSvySuspend (m : Master) (core : Fin 8) (value : Word) (env : Env) (s : State) : Host.Outcome State Fault Refusal :=
  .next (hostWord m (SVY_CORE_CTRL core.val) (setBits value.toNat 4 1 1) env s)

/-- SVY_RESUME (R286): a write with RESUME set. -/
def execSvyResume (m : Master) (core : Fin 8) (value : Word) (env : Env) (s : State) : Host.Outcome State Fault Refusal :=
  .next (hostWord m (SVY_CORE_CTRL core.val) (setBits value.toNat 5 1 1) env s)

/-- SVY_UNLOAD (R266): a write with UNLOAD set. -/
def execSvyUnload (m : Master) (core : Fin 8) (value : Word) (env : Env) (s : State) : Host.Outcome State Fault Refusal :=
  .next (hostWord m (SVY_CORE_CTRL core.val) (setBits value.toNat 6 1 1) env s)

/-- SVY_HOST_ABORT (R285). -/
def execSvyHostAbort (m : Master) (core : Fin 8) (value : Word) (env : Env) (s : State) : Host.Outcome State Fault Refusal :=
  .next (hostWord m (SVY_CORE_ABORT core.val) value.toNat env s)

/-- SVY_REG_WRITE (R285). -/
def execSvyRegWrite (m : Master) (core : Fin 8) (value : Word) (env : Env) (s : State) : Host.Outcome State Fault Refusal :=
  .next (hostWord m (SVY_CORE_REG_LO core.val) value.toNat env s)

/-- SVY_CNT_CLEAR (R86). -/
def execSvyCntClear (m : Master) (value : Word) (env : Env) (s : State) : Host.Outcome State Fault Refusal :=
  .next (hostWord m SVY_CNT_CLEAR value.toNat env s)

/-- TRP_BASIC_WRITE (R302). -/
def execTrpBasicWrite (m : Master) (value : Word) (env : Env) (s : State) : Host.Outcome State Fault Refusal :=
  .next (hostWord m (UNIT_BASIC uTRP) value.toNat env s)

/-- TRP_APPLY (R310): a write with APPLY set. -/
def execTrpApply (m : Master) (value : Word) (env : Env) (s : State) : Host.Outcome State Fault Refusal :=
  .next (hostWord m TRP_CTRL (setBits value.toNat 0 1 1) env s)

/-- LEVEL_RESET (R307): a write with LEVEL_RESET set. -/
def execLevelReset (m : Master) (value : Word) (env : Env) (s : State) : Host.Outcome State Fault Refusal :=
  .next (hostWord m TRP_CTRL (setBits value.toNat 1 1 1) env s)

/-- REP_NEXT (R312): a write with REP_NEXT set. -/
def execRepNext (m : Master) (value : Word) (env : Env) (s : State) : Host.Outcome State Fault Refusal :=
  .next (hostWord m TRP_CTRL (setBits value.toNat 2 1 1) env s)

/-- CAP_RELEASE (R317). -/
def execCapRelease (m : Master) (value : Word) (env : Env) (s : State) : Host.Outcome State Fault Refusal :=
  .next (hostWord m TRP_CAP_RELEASE value.toNat env s)

/-- TRP_DIR_RECORD_WRITE (R305). -/
def execTrpDirRecordWrite (m : Master) (word : Fin 512) (value : Word) (env : Env) (s : State) : Host.Outcome State Fault Refusal :=
  .next (hostWord m (0x11100000 + 4 * word.val) value.toNat env s)

/-- TRP_CNT_CLEAR (R86). -/
def execTrpCntClear (m : Master) (value : Word) (env : Env) (s : State) : Host.Outcome State Fault Refusal :=
  .next (hostWord m TRP_CNT_CLEAR value.toNat env s)

/-- CAD_BASIC_WRITE (R323). -/
def execCadBasicWrite (m : Master) (value : Word) (env : Env) (s : State) : Host.Outcome State Fault Refusal :=
  .next (hostWord m (UNIT_BASIC uCAD) value.toNat env s)

/-- CAD_SHARE_WRITE (R326). -/
def execCadShareWrite (m : Master) (cls : Fin 16) (res : Fin 12) (value : Word) (env : Env) (s : State) : Host.Outcome State Fault Refusal :=
  .next (hostWord m (CAD_SHARE cls.val res.val) value.toNat env s)

/-- CAD_APPLY (R326): a write with APPLY set. -/
def execCadApply (m : Master) (value : Word) (env : Env) (s : State) : Host.Outcome State Fault Refusal :=
  .next (hostWord m CAD_CTRL (setBits value.toNat 0 1 1) env s)

/-- CAD_CNT_CLEAR (R86). -/
def execCadCntClear (m : Master) (value : Word) (env : Env) (s : State) : Host.Outcome State Fault Refusal :=
  .next (hostWord m CAD_CNT_CLEAR value.toNat env s)

/-- MEM_SR_ENTER (R342): a write with the stack's SR_ENTER set. -/
def execMemSrEnter (m : Master) (stack : Fin 2) (value : Word) (env : Env) (s : State) : Host.Outcome State Fault Refusal :=
  .next (hostWord m MEM_CTRL (setBits value.toNat (1 + stack.val) 1 1) env s)

/-- MEM_SR_EXIT (R343): a write with the stack's SR_EXIT set. -/
def execMemSrExit (m : Master) (stack : Fin 2) (value : Word) (env : Env) (s : State) : Host.Outcome State Fault Refusal :=
  .next (hostWord m MEM_CTRL (setBits value.toNat (3 + stack.val) 1 1) env s)

/-- MEM_TRAIN (R345): a write with TRAIN set. -/
def execMemTrain (m : Master) (value : Word) (env : Env) (s : State) : Host.Outcome State Fault Refusal :=
  .next (hostWord m MEM_CTRL (setBits value.toNat 0 1 1) env s)

/-- UE_NEXT (R355): a write with UE_NEXT set. -/
def execUeNext (m : Master) (value : Word) (env : Env) (s : State) : Host.Outcome State Fault Refusal :=
  .next (hostWord m MEM_CTRL (setBits value.toNat 8 1 1) env s)

/-- RETIRE_GO (R348): a write with GO set. -/
def execRetireGo (m : Master) (value : Word) (env : Env) (s : State) : Host.Outcome State Fault Refusal :=
  .next (hostWord m MEM_RETIRE (setBits value.toNat 8 1 1) env s)

/-- RETIRE_ABORT (R348): a write with ABORT set. -/
def execRetireAbort (m : Master) (value : Word) (env : Env) (s : State) : Host.Outcome State Fault Refusal :=
  .next (hostWord m MEM_RETIRE (setBits value.toNat 9 1 1) env s)

/-- RETIRE_RESTORE (R348): a write with RESTORE set. -/
def execRetireRestore (m : Master) (value : Word) (env : Env) (s : State) : Host.Outcome State Fault Refusal :=
  .next (hostWord m MEM_RETIRE (setBits value.toNat 10 1 1) env s)

/-- MEM_CNT_CLEAR (R86). -/
def execMemCntClear (m : Master) (value : Word) (env : Env) (s : State) : Host.Outcome State Fault Refusal :=
  .next (hostWord m MEM_CNT_CLEAR value.toNat env s)

end Sys2Proof.Machine
end

