-- ==== Sys2Proof/Machine/RegTime.lean ====
section
/-!
DEFINITION. Register writes of the meridian and the time service (MER, TIM), one meaning per row of the opcode table: the write of the register by a master through the control matrix, `value` being
the word written.
-/

namespace Sys2Proof.Machine

/-- MER_BASIC_WRITE (R381). -/
def execMerBasicWrite (m : Master) (value : Word) (env : Env) (s : State) : Host.Outcome State Fault Refusal :=
  .next (hostWord m (UNIT_BASIC uMER) value.toNat env s)

/-- MER_SELECT (R362): a write with SELECT set. -/
def execMerSelect (m : Master) (value : Word) (env : Env) (s : State) : Host.Outcome State Fault Refusal :=
  .next (hostWord m MER_CTRL (setBits value.toNat 0 1 1) env s)

/-- REALIGN (R363): a write with REALIGN set. -/
def execRealign (m : Master) (value : Word) (env : Env) (s : State) : Host.Outcome State Fault Refusal :=
  .next (hostWord m MER_CTRL (setBits value.toNat 1 1 1) env s)

/-- MER_EPOCH_REQUEST (R369): a write with EPOCH set. -/
def execMerEpochRequest (m : Master) (value : Word) (env : Env) (s : State) : Host.Outcome State Fault Refusal :=
  .next (hostWord m MER_CTRL (setBits value.toNat 2 1 1) env s)

/-- MER_FS_WRITE (R368). -/
def execMerFsWrite (m : Master) (value : Word) (env : Env) (s : State) : Host.Outcome State Fault Refusal :=
  .next (hostWord m MER_FS value.toNat env s)

/-- OFFSET_WRITE (R370). -/
def execOffsetWrite (m : Master) (output : Fin 8) (half : Fin 2) (value : Word) (env : Env) (s : State) : Host.Outcome State Fault Refusal :=
  .next (hostWord m (MER_PPS_OFS_LO output.val + 4 * half.val) value.toNat env s)

/-- TIM_BASIC_WRITE (R382). -/
def execTimBasicWrite (m : Master) (value : Word) (env : Env) (s : State) : Host.Outcome State Fault Refusal :=
  .next (hostWord m (UNIT_BASIC uTIM) value.toNat env s)

/-- SEC_SET (R373): a write with SEC_SET set. -/
def execSecSet (m : Master) (value : Word) (env : Env) (s : State) : Host.Outcome State Fault Refusal :=
  .next (hostWord m TIM_CTRL (setBits value.toNat 0 1 1) env s)

/-- TOD_SET (R378): a write with TOD_SET set. -/
def execTodSet (m : Master) (value : Word) (env : Env) (s : State) : Host.Outcome State Fault Refusal :=
  .next (hostWord m TIM_CTRL (setBits value.toNat 1 1 1) env s)

/-- PTP_ACCEPT (R375): a write with ACCEPT set. -/
def execPtpAccept (m : Master) (value : Word) (env : Env) (s : State) : Host.Outcome State Fault Refusal :=
  .next (hostWord m TIM_CTRL (setBits value.toNat 2 1 1) env s)

/-- PTP_RESET (R375): a write with RESET set. -/
def execPtpReset (m : Master) (value : Word) (env : Env) (s : State) : Host.Outcome State Fault Refusal :=
  .next (hostWord m TIM_CTRL (setBits value.toNat 3 1 1) env s)

/-- TIM_SELECT (R376): a write with SELECT set. -/
def execTimSelect (m : Master) (value : Word) (env : Env) (s : State) : Host.Outcome State Fault Refusal :=
  .next (hostWord m TIM_CTRL (setBits value.toNat 5 1 1) env s)

/-- INCR_HI_WRITE (R378). -/
def execIncrHiWrite (m : Master) (value : Word) (env : Env) (s : State) : Host.Outcome State Fault Refusal :=
  .next (hostWord m TIM_INCR_HI value.toNat env s)

/-- INCR_LO_WRITE (R378). -/
def execIncrLoWrite (m : Master) (value : Word) (env : Env) (s : State) : Host.Outcome State Fault Refusal :=
  .next (hostWord m TIM_INCR_LO value.toNat env s)

/-- EVT_CFG_WRITE (R379). -/
def execEvtCfgWrite (m : Master) (output : Fin 4) (value : Word) (env : Env) (s : State) : Host.Outcome State Fault Refusal :=
  .next (hostWord m (TIM_EVT_CFG output.val) value.toNat env s)

/-- TIM_CNT_CLEAR (R86). -/
def execTimCntClear (m : Master) (value : Word) (env : Env) (s : State) : Host.Outcome State Fault Refusal :=
  .next (hostWord m TIM_CNT_CLEAR value.toNat env s)

end Sys2Proof.Machine
end

