-- ==== Sys2Proof/Machine/Dispatch.lean ====
section
/-! DEFINITION. exec: one direct call of a meaning per command (the effect of a command on everything but the queue). -/

namespace Sys2Proof.Machine

def exec (i : Instr) (s : State) : Host.Outcome State Fault Refusal :=
  match i with
  | .registerWrite m addr value env => Sys2Proof.Machine.execRegisterWrite m addr value env s
  | .unitEventClear m unit value env => Sys2Proof.Machine.execUnitEventClear m unit value env s
  | .thermalShutdown sensor => Sys2Proof.Machine.execThermalShutdown sensor s
  | .supplyFaultReset supply mv => Sys2Proof.Machine.execSupplyFaultReset supply mv s
  | .supplyFaultCleared e margins => Sys2Proof.Machine.execSupplyFaultCleared e margins s
  | .resetRelease e margins => Sys2Proof.Machine.execResetRelease e margins s
  | .porAssert ns taken => Sys2Proof.Machine.execPorAssert ns taken s
  | .tempSample temps => Sys2Proof.Machine.execTempSample temps s
  | .lifeHoursStore => Sys2Proof.Machine.execLifeHoursStore s
  | .supplySample mvs => Sys2Proof.Machine.execSupplySample mvs s
  | .fabricSecond => Sys2Proof.Machine.execFabricSecond s
  | .epochWaymark unit => Sys2Proof.Machine.execEpochWaymark unit s
  | .dumpWaymark plan => Sys2Proof.Machine.execDumpWaymark plan s
  | .flushWaymark unit => Sys2Proof.Machine.execFlushWaymark unit s
  | .gainWaymark unit => Sys2Proof.Machine.execGainWaymark unit s
  | .wswapWaymark unit => Sys2Proof.Machine.execWswapWaymark unit s
  | .haltWaymark unit => Sys2Proof.Machine.execHaltWaymark unit s
  | .resumeWaymark unit => Sys2Proof.Machine.execResumeWaymark unit s
  | .voidrunWaymark unit => Sys2Proof.Machine.execVoidrunWaymark unit s
  | .trigWaymark => Sys2Proof.Machine.execTrigWaymark s
  | .twinWaymark chip gen => Sys2Proof.Machine.execTwinWaymark chip gen s
  | .genWaymark unit => Sys2Proof.Machine.execGenWaymark unit s
  | .modelWaymark => Sys2Proof.Machine.execModelWaymark s
  | .calWaymark unit => Sys2Proof.Machine.execCalWaymark unit s
  | .stepWaymark => Sys2Proof.Machine.execStepWaymark s
  | .probeWaymark unit => Sys2Proof.Machine.execProbeWaymark unit s
  | .waymarkArrive unit => Sys2Proof.Machine.execWaymarkArrive unit s
  | .octetRoleWrite m octet value env => Sys2Proof.Machine.execOctetRoleWrite m octet value env s
  | .lnsBasicWrite m value env => Sys2Proof.Machine.execLnsBasicWrite m value env s
  | .txFirWrite m lane value env => Sys2Proof.Machine.execTxFirWrite m lane value env s
  | .laneIdleSet m lane value env => Sys2Proof.Machine.execLaneIdleSet m lane value env s
  | .laneIdleClear m lane value env => Sys2Proof.Machine.execLaneIdleClear m lane value env s
  | .idleTimeout lane => Sys2Proof.Machine.execIdleTimeout lane s
  | .autoIdleExit lane firstSleepSent => Sys2Proof.Machine.execAutoIdleExit lane firstSleepSent s
  | .relockTimeout lane => Sys2Proof.Machine.execRelockTimeout lane s
  | .laneRetrain m lane value env => Sys2Proof.Machine.execLaneRetrain m lane value env s
  | .laneAdapt m lane value env => Sys2Proof.Machine.execLaneAdapt m lane value env s
  | .laneTrainComplete lane lock height width => Sys2Proof.Machine.execLaneTrainComplete lane lock height width s
  | .blockLockLoss lane => Sys2Proof.Machine.execBlockLockLoss lane s
  | .laneDown lane => Sys2Proof.Machine.execLaneDown lane s
  | .refLost ref => Sys2Proof.Machine.execRefLost ref s
  | .linkinfoRx lane offer chip => Sys2Proof.Machine.execLinkinfoRx lane offer chip s
  | .linkinfoTx lane => Sys2Proof.Machine.execLinkinfoTx lane s
  | .sleepRx lane => Sys2Proof.Machine.execSleepRx lane s
  | .invalidBlockRx lane => Sys2Proof.Machine.execInvalidBlockRx lane s
  | .reorderTimeout path dest control chip => Sys2Proof.Machine.execReorderTimeout path dest control chip s
  | .fecUncorr lane corrected => Sys2Proof.Machine.execFecUncorr lane corrected s
  | .ingressFrameRx lane f check => Sys2Proof.Machine.execIngressFrameRx lane f check s
  | .graticuleFrameRx lane f check => Sys2Proof.Machine.execGraticuleFrameRx lane f check s
  | .twinFrameRx lane f check fits => Sys2Proof.Machine.execTwinFrameRx lane f check fits s
  | .ckShadowWrite m lane word value env => Sys2Proof.Machine.execCkShadowWrite m lane word value env s
  | .ckPresetWrite m value env => Sys2Proof.Machine.execCkPresetWrite m value env s
  | .ckPresetLoad lane => Sys2Proof.Machine.execCkPresetLoad lane s
  | .portCfgWrite m port value env => Sys2Proof.Machine.execPortCfgWrite m port value env s
  | .ethFrameRx port fcsGood => Sys2Proof.Machine.execEthFrameRx port fcsGood s
  | .lnsCntClear m value env => Sys2Proof.Machine.execLnsCntClear m value env s
  | .frmCntClear m value env => Sys2Proof.Machine.execFrmCntClear m value env s
  | .decBasicWrite m value env => Sys2Proof.Machine.execDecBasicWrite m value env s
  | .decShadowWrite m slot word value env => Sys2Proof.Machine.execDecShadowWrite m slot word value env s
  | .decSyncGo m value env => Sys2Proof.Machine.execDecSyncGo m value env s
  | .syncReset slot => Sys2Proof.Machine.execSyncReset slot s
  | .slotDisable slot => Sys2Proof.Machine.execSlotDisable slot s
  | .decInputFrame => Sys2Proof.Machine.execDecInputFrame s
  | .decCntClear m value env => Sys2Proof.Machine.execDecCntClear m value env s
  | .chnBasicWrite m value env => Sys2Proof.Machine.execChnBasicWrite m value env s
  | .chnCfgWrite m value env => Sys2Proof.Machine.execChnCfgWrite m value env s
  | .chnCoefDataWrite m value env => Sys2Proof.Machine.execChnCoefDataWrite m value env s
  | .chnGainDataWrite m value env => Sys2Proof.Machine.execChnGainDataWrite m value env s
  | .chnStart m value env => Sys2Proof.Machine.execChnStart m value env s
  | .chnStop m value env => Sys2Proof.Machine.execChnStop m value env s
  | .chnStreamBegin slot => Sys2Proof.Machine.execChnStreamBegin slot s
  | .chnStopCommit => Sys2Proof.Machine.execChnStopCommit s
  | .chnSpectrum slot => Sys2Proof.Machine.execChnSpectrum slot s
  | .chnCntClear m value env => Sys2Proof.Machine.execChnCntClear m value env s
  | .rsyBasicWrite m value env => Sys2Proof.Machine.execRsyBasicWrite m value env s
  | .rsyCoefDataWrite m value env => Sys2Proof.Machine.execRsyCoefDataWrite m value env s
  | .rsyStart m value env => Sys2Proof.Machine.execRsyStart m value env s
  | .rsyStop m value env => Sys2Proof.Machine.execRsyStop m value env s
  | .rsyStopCommit => Sys2Proof.Machine.execRsyStopCommit s
  | .rsySliceWrite m slice half value env => Sys2Proof.Machine.execRsySliceWrite m slice half value env s
  | .rsyHalfRead plan => Sys2Proof.Machine.execRsyHalfRead plan s
  | .rsySynthStep plan => Sys2Proof.Machine.execRsySynthStep plan s
  | .rsyCntClear m value env => Sys2Proof.Machine.execRsyCntClear m value env s
  | .grtBasicWrite m value env => Sys2Proof.Machine.execGrtBasicWrite m value env s
  | .grtChipWrite m value env => Sys2Proof.Machine.execGrtChipWrite m value env s
  | .grtApply m value env => Sys2Proof.Machine.execGrtApply m value env s
  | .grtApplyCommit => Sys2Proof.Machine.execGrtApplyCommit s
  | .grtSpectrumSend => Sys2Proof.Machine.execGrtSpectrumSend s
  | .grtCntClear m value env => Sys2Proof.Machine.execGrtCntClear m value env s
  | .stgBasicWrite m value env => Sys2Proof.Machine.execStgBasicWrite m value env s
  | .stgStart m value env => Sys2Proof.Machine.execStgStart m value env s
  | .stgStop m value env => Sys2Proof.Machine.execStgStop m value env s
  | .stgBlockBoundary => Sys2Proof.Machine.execStgBlockBoundary s
  | .stgFrameWrite => Sys2Proof.Machine.execStgFrameWrite s
  | .blockClose => Sys2Proof.Machine.execBlockClose s
  | .closeTimeout => Sys2Proof.Machine.execCloseTimeout s
  | .ringHoldRelease => Sys2Proof.Machine.execRingHoldRelease s
  | .subBlockStage => Sys2Proof.Machine.execSubBlockStage s
  | .stgCntClear m value env => Sys2Proof.Machine.execStgCntClear m value env s
  | .brgBasicWrite m value env => Sys2Proof.Machine.execBrgBasicWrite m value env s
  | .brgCoreRun m core value env => Sys2Proof.Machine.execBrgCoreRun m core value env s
  | .brgCoreHalt m core value env => Sys2Proof.Machine.execBrgCoreHalt m core value env s
  | .brgCoreStep m core value env => Sys2Proof.Machine.execBrgCoreStep m core value env s
  | .brgCoreLoadbi m core value env => Sys2Proof.Machine.execBrgCoreLoadbi m core value env s
  | .brgDoorbell m core value env => Sys2Proof.Machine.execBrgDoorbell m core value env s
  | .brgDirSwitchArm m value env => Sys2Proof.Machine.execBrgDirSwitchArm m value env s
  | .brgTickFire => Sys2Proof.Machine.execBrgTickFire s
  | .brgInterruptAccept core => Sys2Proof.Machine.execBrgInterruptAccept core s
  | .brgWaitEnd core => Sys2Proof.Machine.execBrgWaitEnd core s
  | .brgPutWritten core => Sys2Proof.Machine.execBrgPutWritten core s
  | .brgNop core => Sys2Proof.Machine.execBrgNop core s
  | .brgAdd core => Sys2Proof.Machine.execBrgAdd core s
  | .brgSub core => Sys2Proof.Machine.execBrgSub core s
  | .brgAnd core => Sys2Proof.Machine.execBrgAnd core s
  | .brgOr core => Sys2Proof.Machine.execBrgOr core s
  | .brgXor core => Sys2Proof.Machine.execBrgXor core s
  | .brgShl core => Sys2Proof.Machine.execBrgShl core s
  | .brgShr core => Sys2Proof.Machine.execBrgShr core s
  | .brgSra core => Sys2Proof.Machine.execBrgSra core s
  | .brgMul core => Sys2Proof.Machine.execBrgMul core s
  | .brgAddi core => Sys2Proof.Machine.execBrgAddi core s
  | .brgOri core => Sys2Proof.Machine.execBrgOri core s
  | .brgLui core => Sys2Proof.Machine.execBrgLui core s
  | .brgLd core => Sys2Proof.Machine.execBrgLd core s
  | .brgSt core => Sys2Proof.Machine.execBrgSt core s
  | .brgSetp core => Sys2Proof.Machine.execBrgSetp core s
  | .brgSetm core => Sys2Proof.Machine.execBrgSetm core s
  | .brgMfs core => Sys2Proof.Machine.execBrgMfs core s
  | .brgOmac core => Sys2Proof.Machine.execBrgOmac core s
  | .brgCmac core => Sys2Proof.Machine.execBrgCmac core s
  | .brgDmac core => Sys2Proof.Machine.execBrgDmac core s
  | .brgExt core => Sys2Proof.Machine.execBrgExt core s
  | .brgMova core => Sys2Proof.Machine.execBrgMova core s
  | .brgBeq core => Sys2Proof.Machine.execBrgBeq core s
  | .brgBne core => Sys2Proof.Machine.execBrgBne core s
  | .brgBlt core => Sys2Proof.Machine.execBrgBlt core s
  | .brgBge core => Sys2Proof.Machine.execBrgBge core s
  | .brgJmp core => Sys2Proof.Machine.execBrgJmp core s
  | .brgCall core => Sys2Proof.Machine.execBrgCall core s
  | .brgRet core => Sys2Proof.Machine.execBrgRet core s
  | .brgLoop core => Sys2Proof.Machine.execBrgLoop core s
  | .brgPut core => Sys2Proof.Machine.execBrgPut core s
  | .brgDir core => Sys2Proof.Machine.execBrgDir core s
  | .brgPost core => Sys2Proof.Machine.execBrgPost core s
  | .brgWaitt core => Sys2Proof.Machine.execBrgWaitt core s
  | .brgWaiti core => Sys2Proof.Machine.execBrgWaiti core s
  | .brgReti core => Sys2Proof.Machine.execBrgReti core s
  | .brgEi core => Sys2Proof.Machine.execBrgEi core s
  | .brgDi core => Sys2Proof.Machine.execBrgDi core s
  | .brgHalt core => Sys2Proof.Machine.execBrgHalt core s
  | .brgCntClear m value env => Sys2Proof.Machine.execBrgCntClear m value env s
  | .xarBasicWrite m value env => Sys2Proof.Machine.execXarBasicWrite m value env s
  | .xarEnableWrite m reg value env => Sys2Proof.Machine.execXarEnableWrite m reg value env s
  | .xarTableWrite m off value env => Sys2Proof.Machine.execXarTableWrite m off value env s
  | .passDispatch desc corr ue => Sys2Proof.Machine.execPassDispatch desc corr ue s
  | .passFillEnd array parity => Sys2Proof.Machine.execPassFillEnd array parity s
  | .exchangeEnd array upset => Sys2Proof.Machine.execExchangeEnd array upset s
  | .xarCntClear m value env => Sys2Proof.Machine.execXarCntClear m value env s
  | .accBasicWrite m value env => Sys2Proof.Machine.execAccBasicWrite m value env s
  | .accDrain m value env => Sys2Proof.Machine.execAccDrain m value env s
  | .skReset m value env => Sys2Proof.Machine.execSkReset m value env s
  | .accBlockClose => Sys2Proof.Machine.execAccBlockClose s
  | .blockResultMerge index => Sys2Proof.Machine.execBlockResultMerge index s
  | .setDrain plan => Sys2Proof.Machine.execSetDrain plan s
  | .drainEnd plan => Sys2Proof.Machine.execDrainEnd plan s
  | .markOutputTimeout port => Sys2Proof.Machine.execMarkOutputTimeout port s
  | .accCntClear m value env => Sys2Proof.Machine.execAccCntClear m value env s
  | .atlBasicWrite m value env => Sys2Proof.Machine.execAtlBasicWrite m value env s
  | .atlRegionWrite m plan reg value env => Sys2Proof.Machine.execAtlRegionWrite m plan reg value env s
  | .statsReset m value env => Sys2Proof.Machine.execStatsReset m value env s
  | .atlUnload m value env => Sys2Proof.Machine.execAtlUnload m value env s
  | .atlRead m value env => Sys2Proof.Machine.execAtlRead m value env s
  | .atlEvict m value env => Sys2Proof.Machine.execAtlEvict m value env s
  | .atlOpAbort m value env => Sys2Proof.Machine.execAtlOpAbort m value env s
  | .hostOpComplete fast => Sys2Proof.Machine.execHostOpComplete fast s
  | .descSnapshot m value env => Sys2Proof.Machine.execDescSnapshot m value env s
  | .ownershipGrant cls fast => Sys2Proof.Machine.execOwnershipGrant cls fast s
  | .pageOutStart fast => Sys2Proof.Machine.execPageOutStart fast s
  | .pageOutComplete index => Sys2Proof.Machine.execPageOutComplete index s
  | .pageInStart => Sys2Proof.Machine.execPageInStart s
  | .pageInComplete index => Sys2Proof.Machine.execPageInComplete index s
  | .atlQuarantine m value env => Sys2Proof.Machine.execAtlQuarantine m value env s
  | .atlRelease m value env => Sys2Proof.Machine.execAtlRelease m value env s
  | .quarantineMoveStep fast => Sys2Proof.Machine.execQuarantineMoveStep fast s
  | .moveCommit index => Sys2Proof.Machine.execMoveCommit index s
  | .atlCntClear m value env => Sys2Proof.Machine.execAtlCntClear m value env s
  | .svyBasicWrite m value env => Sys2Proof.Machine.execSvyBasicWrite m value env s
  | .svyLoad m core value env => Sys2Proof.Machine.execSvyLoad m core value env s
  | .planLoadDone core => Sys2Proof.Machine.execPlanLoadDone core s
  | .svyStart m core value env => Sys2Proof.Machine.execSvyStart m core value env s
  | .svyStop m core value env => Sys2Proof.Machine.execSvyStop m core value env s
  | .svyKill m core value env => Sys2Proof.Machine.execSvyKill m core value env s
  | .svySuspend m core value env => Sys2Proof.Machine.execSvySuspend m core value env s
  | .svyResume m core value env => Sys2Proof.Machine.execSvyResume m core value env s
  | .svyUnload m core value env => Sys2Proof.Machine.execSvyUnload m core value env s
  | .svyHostAbort m core value env => Sys2Proof.Machine.execSvyHostAbort m core value env s
  | .svyRegWrite m core value env => Sys2Proof.Machine.execSvyRegWrite m core value env s
  | .stepPoint core => Sys2Proof.Machine.execStepPoint core s
  | .coreStopComplete core => Sys2Proof.Machine.execCoreStopComplete core s
  | .planWaitEnd core => Sys2Proof.Machine.execPlanWaitEnd core s
  | .planNop core => Sys2Proof.Machine.execPlanNop core s
  | .planSet core => Sys2Proof.Machine.execPlanSet core s
  | .planSethi core => Sys2Proof.Machine.execPlanSethi core s
  | .planAdd core => Sys2Proof.Machine.execPlanAdd core s
  | .planSub core => Sys2Proof.Machine.execPlanSub core s
  | .planMul core => Sys2Proof.Machine.execPlanMul core s
  | .planAnd core => Sys2Proof.Machine.execPlanAnd core s
  | .planOr core => Sys2Proof.Machine.execPlanOr core s
  | .planShl core => Sys2Proof.Machine.execPlanShl core s
  | .planShr core => Sys2Proof.Machine.execPlanShr core s
  | .planBranch core => Sys2Proof.Machine.execPlanBranch core s
  | .planLoop core => Sys2Proof.Machine.execPlanLoop core s
  | .planCall core => Sys2Proof.Machine.execPlanCall core s
  | .planRet core => Sys2Proof.Machine.execPlanRet core s
  | .planLoad core => Sys2Proof.Machine.execPlanLoad core s
  | .planStore core env => Sys2Proof.Machine.execPlanStore core env s
  | .planStream core => Sys2Proof.Machine.execPlanStream core s
  | .planSpectra core => Sys2Proof.Machine.execPlanSpectra core s
  | .planTileset core => Sys2Proof.Machine.execPlanTileset core s
  | .planBudget core => Sys2Proof.Machine.execPlanBudget core s
  | .planCorr core => Sys2Proof.Machine.execPlanCorr core s
  | .planBeam core => Sys2Proof.Machine.execPlanBeam core s
  | .planMerge core => Sys2Proof.Machine.execPlanMerge core s
  | .planDump core => Sys2Proof.Machine.execPlanDump core s
  | .planMark core => Sys2Proof.Machine.execPlanMark core s
  | .planWaitmark core => Sys2Proof.Machine.execPlanWaitmark core s
  | .planWaitidx core => Sys2Proof.Machine.execPlanWaitidx core s
  | .planStep core => Sys2Proof.Machine.execPlanStep core s
  | .planFence core => Sys2Proof.Machine.execPlanFence core s
  | .planCommit core => Sys2Proof.Machine.execPlanCommit core s
  | .planAbort core => Sys2Proof.Machine.execPlanAbort core s
  | .planHalt core => Sys2Proof.Machine.execPlanHalt core s
  | .svyCntClear m value env => Sys2Proof.Machine.execSvyCntClear m value env s
  | .trpBasicWrite m value env => Sys2Proof.Machine.execTrpBasicWrite m value env s
  | .trpApply m value env => Sys2Proof.Machine.execTrpApply m value env s
  | .levelReset m value env => Sys2Proof.Machine.execLevelReset m value env s
  | .repNext m value env => Sys2Proof.Machine.execRepNext m value env s
  | .capRelease m value env => Sys2Proof.Machine.execCapRelease m value env s
  | .trpDirRecordWrite m word value env => Sys2Proof.Machine.execTrpDirRecordWrite m word value env s
  | .trpWindow => Sys2Proof.Machine.execTrpWindow s
  | .pinPulseEnd pin => Sys2Proof.Machine.execPinPulseEnd pin s
  | .trpReport suspect => Sys2Proof.Machine.execTrpReport suspect s
  | .trigMarkTimeout port => Sys2Proof.Machine.execTrigMarkTimeout port s
  | .ringFrameWrite => Sys2Proof.Machine.execRingFrameWrite s
  | .trpCntClear m value env => Sys2Proof.Machine.execTrpCntClear m value env s
  | .cadBasicWrite m value env => Sys2Proof.Machine.execCadBasicWrite m value env s
  | .cadShareWrite m cls res value env => Sys2Proof.Machine.execCadShareWrite m cls res value env s
  | .cadApply m value env => Sys2Proof.Machine.execCadApply m value env s
  | .budgetPeriod count uses peerAct => Sys2Proof.Machine.execBudgetPeriod count uses peerAct s
  | .cadCntClear m value env => Sys2Proof.Machine.execCadCntClear m value env s
  | .hbmRequest pc presented => Sys2Proof.Machine.execHbmRequest pc presented s
  | .hbmCommandSlot pc banks => Sys2Proof.Machine.execHbmCommandSlot pc banks s
  | .refreshDue pc => Sys2Proof.Machine.execRefreshDue pc s
  | .stackTempReport stack temp => Sys2Proof.Machine.execStackTempReport stack temp s
  | .memSrEnter m stack value env => Sys2Proof.Machine.execMemSrEnter m stack value env s
  | .memSrExit m stack value env => Sys2Proof.Machine.execMemSrExit m stack value env s
  | .srIdleTimeout stack => Sys2Proof.Machine.execSrIdleTimeout stack s
  | .srEntryComplete stack => Sys2Proof.Machine.execSrEntryComplete stack s
  | .srExitComplete stack wait => Sys2Proof.Machine.execSrExitComplete stack wait s
  | .memTrain m value env => Sys2Proof.Machine.execMemTrain m value env s
  | .trainComplete pc margin => Sys2Proof.Machine.execTrainComplete pc margin s
  | .retrainDue pc => Sys2Proof.Machine.execRetrainDue pc s
  | .retrainStep pc count margin => Sys2Proof.Machine.execRetrainStep pc count margin s
  | .ceRateSecond => Sys2Proof.Machine.execCeRateSecond s
  | .patrolScrub => Sys2Proof.Machine.execPatrolScrub s
  | .cmdParityError pc reissues failed => Sys2Proof.Machine.execCmdParityError pc reissues failed s
  | .ueNext m value env => Sys2Proof.Machine.execUeNext m value env s
  | .retireGo m value env => Sys2Proof.Machine.execRetireGo m value env s
  | .retireAbort m value env => Sys2Proof.Machine.execRetireAbort m value env s
  | .retireRestore m value env => Sys2Proof.Machine.execRetireRestore m value env s
  | .retireCommit => Sys2Proof.Machine.execRetireCommit s
  | .memCntClear m value env => Sys2Proof.Machine.execMemCntClear m value env s
  | .merBasicWrite m value env => Sys2Proof.Machine.execMerBasicWrite m value env s
  | .merSelect m value env => Sys2Proof.Machine.execMerSelect m value env s
  | .realign m value env => Sys2Proof.Machine.execRealign m value env s
  | .merEpochRequest m value env => Sys2Proof.Machine.execMerEpochRequest m value env s
  | .merFsWrite m value env => Sys2Proof.Machine.execMerFsWrite m value env s
  | .offsetWrite m output half value env => Sys2Proof.Machine.execOffsetWrite m output half value env s
  | .internalPpsEdge => Sys2Proof.Machine.execInternalPpsEdge s
  | .refSecond a b c d twin y phase => Sys2Proof.Machine.execRefSecond a b c d twin y phase s
  | .refEdgeLoss entry companion => Sys2Proof.Machine.execRefEdgeLoss entry companion s
  | .irigFrame entry f => Sys2Proof.Machine.execIrigFrame entry f s
  | .buildoutLatch steps => Sys2Proof.Machine.execBuildoutLatch steps s
  | .loopBwStep phase => Sys2Proof.Machine.execLoopBwStep phase s
  | .timBasicWrite m value env => Sys2Proof.Machine.execTimBasicWrite m value env s
  | .secSet m value env => Sys2Proof.Machine.execSecSet m value env s
  | .todSet m value env => Sys2Proof.Machine.execTodSet m value env s
  | .ptpAccept m value env => Sys2Proof.Machine.execPtpAccept m value env s
  | .ptpReset m value env => Sys2Proof.Machine.execPtpReset m value env s
  | .timSelect m value env => Sys2Proof.Machine.execTimSelect m value env s
  | .incrHiWrite m value env => Sys2Proof.Machine.execIncrHiWrite m value env s
  | .incrLoWrite m value env => Sys2Proof.Machine.execIncrLoWrite m value env s
  | .evtCfgWrite m output value env => Sys2Proof.Machine.execEvtCfgWrite m output value env s
  | .ptpMessageRx domain msg => Sys2Proof.Machine.execPtpMessageRx domain msg s
  | .timCntClear m value env => Sys2Proof.Machine.execTimCntClear m value env s
  | .matrixBurst m addr write lock total beats env => Sys2Proof.Machine.execMatrixBurst m addr write lock total beats env s
  | .targetTimeout m addr write => Sys2Proof.Machine.execTargetTimeout m addr write s
  | .masterReset m => Sys2Proof.Machine.execMasterReset m s
  | .lockExpiry => Sys2Proof.Machine.execLockExpiry s
  | .pcieConfigRequest early bars msix => Sys2Proof.Machine.execPcieConfigRequest early bars msix s
  | .pcieLink rate width => Sys2Proof.Machine.execPcieLink rate width s
  | .bar0Read addr words env => Sys2Proof.Machine.execBar0Read addr words env s
  | .bar0Write addr words env => Sys2Proof.Machine.execBar0Write addr words env s
  | .bar2Read addr len => Sys2Proof.Machine.execBar2Read addr len s
  | .bar2Write addr data => Sys2Proof.Machine.execBar2Write addr data s
  | .msixVectorUnmask vector env => Sys2Proof.Machine.execMsixVectorUnmask vector env s
  | .mboxAbort m channel value env => Sys2Proof.Machine.execMboxAbort m channel value env s
  | .getInfo channel env => Sys2Proof.Machine.execGetInfo channel env s
  | .setMode channel mode env => Sys2Proof.Machine.execSetMode channel mode env s
  | .applyReference channel env => Sys2Proof.Machine.execApplyReference channel env s
  | .setEpoch channel label env => Sys2Proof.Machine.execSetEpoch channel label env s
  | .selectRef channel entry env => Sys2Proof.Machine.execSelectRef channel entry env s
  | .planRun channel blocks env => Sys2Proof.Machine.execPlanRun channel blocks env s
  | .planStop channel env => Sys2Proof.Machine.execPlanStop channel env s
  | .drain channel plan arg env => Sys2Proof.Machine.execDrain channel plan arg env s
  | .haltScope channel scope anchor env => Sys2Proof.Machine.execHaltScope channel scope anchor env s
  | .resumeScope channel scope anchor env => Sys2Proof.Machine.execResumeScope channel scope anchor env s
  | .readLog channel env => Sys2Proof.Machine.execReadLog channel env s
  | .arm channel unit value env => Sys2Proof.Machine.execArm channel unit value env s
  | .train channel env => Sys2Proof.Machine.execTrain channel env s
  | .setVcore channel mv env => Sys2Proof.Machine.execSetVcore channel mv env s
  | .updateWrite channel addr len env => Sys2Proof.Machine.execUpdateWrite channel addr len env s
  | .updateTrial channel env => Sys2Proof.Machine.execUpdateTrial channel env s
  | .updateConfirm channel force env => Sys2Proof.Machine.execUpdateConfirm channel force env s
  | .updateReject channel env => Sys2Proof.Machine.execUpdateReject channel env s
  | .updateStatus channel env => Sys2Proof.Machine.execUpdateStatus channel env s
  | .updateTicket channel addr len env => Sys2Proof.Machine.execUpdateTicket channel addr len env s
  | .updateSafeWrite channel addr len env => Sys2Proof.Machine.execUpdateSafeWrite channel addr len env s
  | .updateKeyfloorRevoke channel addr len env => Sys2Proof.Machine.execUpdateKeyfloorRevoke channel addr len env s
  | .survey channel env => Sys2Proof.Machine.execSurvey channel env s
  | .takeover channel env => Sys2Proof.Machine.execTakeover channel env s
  | .mgtMboxRequest port data env => Sys2Proof.Machine.execMgtMboxRequest port data env s
  | .mgtPacketRx pkt => Sys2Proof.Machine.execMgtPacketRx pkt s
  | .smbReadWord addr => Sys2Proof.Machine.execSmbReadWord addr s
  | .smbBlockWrite addr data pec env => Sys2Proof.Machine.execSmbBlockWrite addr data pec env s
  | .smbBlockRead addr => Sys2Proof.Machine.execSmbBlockRead addr s
  | .pmbVoutWrite m value env => Sys2Proof.Machine.execPmbVoutWrite m value env s
  | .pmbusPoll failed vout iout status => Sys2Proof.Machine.execPmbusPoll failed vout iout status s
  | .wdogKick m value env => Sys2Proof.Machine.execWdogKick m value env s
  | .wdogExpired pc => Sys2Proof.Machine.execWdogExpired pc s
  | .tapInstruction instruction => Sys2Proof.Machine.execTapInstruction instruction s
  | .cmxCntClear m value env => Sys2Proof.Machine.execCmxCntClear m value env s
  | .modeCtrlGo m value env => Sys2Proof.Machine.execModeCtrlGo m value env s
  | .modeCtrlAbort m value env => Sys2Proof.Machine.execModeCtrlAbort m value env s
  | .readyExitProgress => Sys2Proof.Machine.execReadyExitProgress s
  | .surveyStepComplete word expected => Sys2Proof.Machine.execSurveyStepComplete word expected s
  | .surveyCut m value env => Sys2Proof.Machine.execSurveyCut m value env s
  | .beaconLost peerAct => Sys2Proof.Machine.execBeaconLost peerAct s
  | .twinCtrlTakeover m value env => Sys2Proof.Machine.execTwinCtrlTakeover m value env s
  | .twinCtrlAbort m value env => Sys2Proof.Machine.execTwinCtrlAbort m value env s
  | .peerActRise => Sys2Proof.Machine.execPeerActRise s
  | .handoverTimeout => Sys2Proof.Machine.execHandoverTimeout s
  | .switchbackHoldExpiry => Sys2Proof.Machine.execSwitchbackHoldExpiry s
  | .revertDelayExpiry => Sys2Proof.Machine.execRevertDelayExpiry s
  | .sigMissingTimeout own => Sys2Proof.Machine.execSigMissingTimeout own s
  | .aatFire env => Sys2Proof.Machine.execAatFire env s
  | .logRecordWrite => Sys2Proof.Machine.execLogRecordWrite s
  | .logReadWrite m value env => Sys2Proof.Machine.execLogReadWrite m value env s
  | .hltBasicWrite m value env => Sys2Proof.Machine.execHltBasicWrite m value env s
  | .hltCntClear m value env => Sys2Proof.Machine.execHltCntClear m value env s
  | .debugTokenWrite m word value env => Sys2Proof.Machine.execDebugTokenWrite m word value env s
  | .recDataWrite m value env => Sys2Proof.Machine.execRecDataWrite m value env s
  | .recGo m value env => Sys2Proof.Machine.execRecGo m value env s
  | .blockLockRestored lane => Sys2Proof.Machine.execBlockLockRestored lane s
  | .domainLeavesSlave domain => Sys2Proof.Machine.execDomainLeavesSlave domain s
  | .evtOutPulse output => Sys2Proof.Machine.execEvtOutPulse output s
  | .flashProgramEnd good => Sys2Proof.Machine.execFlashProgramEnd good s
  | .slewEnd => Sys2Proof.Machine.execSlewEnd s

end Sys2Proof.Machine
end

