-- ==== Sys2Proof/Machine/Step.lean ====
section
/-! DEFINITION. One step: the command at the front of the queue, or, on an empty queue, one meridian tick. -/

namespace Sys2Proof.Machine

/-- `s` with the command that a word spells at the front of its queue. -/
def State.withFetchWord (s : State) (nbits w : Nat) : State :=
  match Sys2Proof.decodeTableWord nbits w with
  | some i => { s with pending := i :: s.pending }
  | none => s

/-- Take the command at the front of the queue and run it with the queue's rest; on an empty queue a tick of 10 ns passes (log entry 1). -/
def step (s : State) : Host.Outcome State Fault Refusal :=
  match s.pending with
  | [] => .next (meridianTick s)
  | i :: rest => exec i { s with pending := rest }

end Sys2Proof.Machine
end

