-- ==== Sys2Proof/Safety.lean ====
section
/-!
DEFINITION. Safe runs, and the conditions that statements speak of: a write that the control matrix carries out at once, and a state of which the registers
and the memory have their canonical form.
-/

namespace Sys2Proof.Machine

/-- A run of `k` steps from `s` that ends in a state. -/
def SafeFor (k : Nat) (s : State) : Prop := ∃ t, Host.Core.run Sys2Proof.core k s = .next t

/-- Master `m`'s access to control address `a` is carried out at once: the master is live, no burst holds a path, no lock is open, no request waits, and
the access is routed to its unit (R383, R385, R390, R417). -/
structure Granted (m : Master) (a : Nat) (s : State) : Prop where
  live : masterLive m s = true
  burst : s.cmx.burst = none
  lock : s.cmx.lock = none
  waits : s.cmx.waits = []
  routed : routeResp m a s = .okay

/-! ### Frames -/

/-- The parts of the state. -/
inductive Part where
  | regs | lns | frm | dec | cad | wm | chn | grt | stg | trp | svy | hbm | mem | brg | tru | atl | xar | acc | rsy | hlt | cmx | mer | tim | out | pending
  deriving DecidableEq, Repr

/-- Is the part the same in both states? Memory is compared byte by byte, as a read finds it. -/
def same (p : Part) (s t : State) : Prop :=
  match p with
  | .regs => t.regs = s.regs
  | .lns => t.lns = s.lns
  | .frm => t.frm = s.frm
  | .dec => t.dec = s.dec
  | .cad => t.cad = s.cad
  | .wm => t.wm = s.wm
  | .chn => t.chn = s.chn
  | .grt => t.grt = s.grt
  | .stg => t.stg = s.stg
  | .trp => t.trp = s.trp
  | .svy => t.svy = s.svy
  | .hbm => ∀ a, hbmByte t a = hbmByte s a
  | .mem => t.mem = s.mem
  | .brg => t.brg = s.brg
  | .tru => t.tru = s.tru
  | .atl => t.atl = s.atl
  | .xar => t.xar = s.xar
  | .acc => t.acc = s.acc
  | .rsy => t.rsy = s.rsy
  | .hlt => t.hlt = s.hlt
  | .cmx => t.cmx = s.cmx
  | .mer => t.mer = s.mer
  | .tim => t.tim = s.tim
  | .out => t.out = s.out
  | .pending => t.pending = s.pending

/-- Every part outside `ps` is the same in both states. -/
def SameBut (ps : List Part) (s t : State) : Prop := ∀ p, p ∉ ps → same p s t

/-- Every part but the queue. -/
def allParts : List Part := [.regs, .lns, .frm, .dec, .cad, .wm, .chn, .grt, .stg, .trp, .svy, .hbm, .mem, .brg, .tru, .atl, .xar, .acc, .rsy, .hlt, .cmx, .mer, .tim, .out]

/-- The parts of the state that a command may change: nothing else changes, whatever the state. A command that may reach any unit (a register access, a
mailbox command, a reset) may change every part; none changes the queue. -/
def touches (i : Instr) : List Part :=
  match i with
  | .registerWrite .. => allParts
  | .unitEventClear .. => allParts
  | .thermalShutdown .. => allParts
  | .supplyFaultReset .. => allParts
  | .supplyFaultCleared .. => allParts
  | .resetRelease .. => allParts
  | .porAssert .. => allParts
  | .tempSample .. => [.regs, .hlt, .out]
  | .lifeHoursStore => [.hlt]
  | .supplySample .. => [.regs, .hlt, .out]
  | .fabricSecond => [.regs, .hlt]
  | .epochWaymark .. => [.regs, .frm, .dec, .wm, .chn, .grt, .stg, .trp, .svy, .brg, .xar, .acc, .rsy, .hlt, .mer, .out]
  | .dumpWaymark .. => [.regs, .wm, .svy, .hbm, .mem, .acc, .hlt, .out]
  | .flushWaymark .. => [.regs, .frm, .dec, .wm, .chn, .grt, .stg, .trp, .hbm, .mem, .tru, .xar, .rsy, .hlt, .out]
  | .gainWaymark .. => [.regs, .frm, .dec, .wm, .chn, .grt, .stg, .trp, .hbm, .mem, .tru, .xar, .rsy, .hlt, .out]
  | .wswapWaymark .. => [.regs, .frm, .dec, .wm, .chn, .grt, .stg, .trp, .hbm, .mem, .tru, .xar, .rsy, .hlt, .out]
  | .haltWaymark .. => [.regs, .frm, .dec, .wm, .chn, .grt, .stg, .trp, .hbm, .mem, .tru, .xar, .rsy, .hlt, .out]
  | .resumeWaymark .. => [.regs, .frm, .dec, .wm, .chn, .grt, .stg, .trp, .hbm, .mem, .tru, .xar, .rsy, .hlt, .out]
  | .voidrunWaymark .. => [.regs, .frm, .dec, .wm, .chn, .grt, .stg, .trp, .hbm, .mem, .tru, .xar, .rsy, .hlt, .out]
  | .trigWaymark => [.regs, .frm, .dec, .wm, .chn, .grt, .stg, .trp, .svy, .brg, .xar, .acc, .rsy, .hlt, .mer, .out]
  | .twinWaymark .. => [.regs, .frm]
  | .genWaymark .. => [.regs, .frm, .dec, .wm, .chn, .grt, .stg, .trp, .hbm, .mem, .tru, .xar, .rsy, .hlt, .out]
  | .modelWaymark => [.regs, .frm, .dec, .wm, .chn, .grt, .stg, .trp, .svy, .brg, .xar, .acc, .rsy, .hlt, .mer, .out]
  | .calWaymark .. => [.regs, .frm, .dec, .wm, .chn, .grt, .stg, .trp, .hbm, .mem, .tru, .xar, .rsy, .hlt, .out]
  | .stepWaymark => [.regs, .frm, .wm, .svy, .hbm, .mem, .atl, .acc, .hlt, .out]
  | .probeWaymark .. => [.regs, .frm, .dec, .wm, .chn, .grt, .stg, .trp, .hbm, .mem, .tru, .xar, .rsy, .hlt, .out]
  | .waymarkArrive .. => [.regs, .frm, .dec, .wm, .chn, .grt, .stg, .trp, .svy, .brg, .xar, .acc, .rsy, .hlt, .mer, .out]
  | .octetRoleWrite .. => allParts
  | .lnsBasicWrite .. => allParts
  | .txFirWrite .. => allParts
  | .laneIdleSet .. => allParts
  | .laneIdleClear .. => allParts
  | .idleTimeout .. => [.regs, .lns, .out]
  | .autoIdleExit .. => [.regs, .lns, .frm, .out]
  | .relockTimeout .. => [.regs, .lns, .frm, .hlt, .out]
  | .laneRetrain .. => allParts
  | .laneAdapt .. => allParts
  | .laneTrainComplete .. => [.regs, .lns, .frm, .grt, .hlt, .out]
  | .blockLockLoss .. => [.regs]
  | .laneDown .. => [.regs, .lns, .frm, .grt, .hlt, .out]
  | .refLost .. => [.regs, .hlt, .out]
  | .linkinfoRx .. => [.regs, .lns, .hlt, .out]
  | .linkinfoTx .. => [.regs, .lns, .out]
  | .sleepRx .. => [.regs, .lns]
  | .invalidBlockRx .. => [.regs]
  | .reorderTimeout .. => [.regs, .frm, .dec, .cad, .wm, .stg, .hlt, .out]
  | .fecUncorr .. => [.regs, .hlt, .out]
  | .ingressFrameRx .. => [.regs, .frm, .dec, .cad, .wm, .hlt, .out]
  | .graticuleFrameRx .. => [.regs, .frm, .cad, .wm, .stg, .hlt, .out]
  | .twinFrameRx .. => [.regs, .frm, .wm, .trp, .hlt, .mer, .out]
  | .ckShadowWrite .. => allParts
  | .ckPresetWrite .. => allParts
  | .ckPresetLoad .. => [.regs]
  | .portCfgWrite .. => allParts
  | .ethFrameRx .. => [.regs, .hlt, .out]
  | .lnsCntClear .. => allParts
  | .frmCntClear .. => allParts
  | .decBasicWrite .. => allParts
  | .decShadowWrite .. => allParts
  | .decSyncGo .. => allParts
  | .syncReset .. => [.regs, .dec]
  | .slotDisable .. => [.regs, .dec]
  | .decInputFrame => [.regs, .dec, .cad, .wm, .chn, .trp, .tru, .hlt, .out]
  | .decCntClear .. => allParts
  | .chnBasicWrite .. => allParts
  | .chnCfgWrite .. => allParts
  | .chnCoefDataWrite .. => allParts
  | .chnGainDataWrite .. => allParts
  | .chnStart .. => allParts
  | .chnStop .. => allParts
  | .chnStreamBegin .. => [.regs, .chn]
  | .chnStopCommit => [.regs, .wm, .chn, .grt, .hlt, .out]
  | .chnSpectrum .. => [.regs, .wm, .chn, .grt, .hlt, .out]
  | .chnCntClear .. => allParts
  | .rsyBasicWrite .. => allParts
  | .rsyCoefDataWrite .. => allParts
  | .rsyStart .. => allParts
  | .rsyStop .. => allParts
  | .rsyStopCommit => [.regs, .rsy]
  | .rsySliceWrite .. => allParts
  | .rsyHalfRead .. => [.rsy]
  | .rsySynthStep .. => [.regs, .frm, .mem, .atl, .acc, .rsy, .hlt, .out]
  | .rsyCntClear .. => allParts
  | .grtBasicWrite .. => allParts
  | .grtChipWrite .. => allParts
  | .grtApply .. => allParts
  | .grtApplyCommit => [.regs, .grt]
  | .grtSpectrumSend => [.regs, .frm, .grt, .stg, .hlt, .out]
  | .grtCntClear .. => allParts
  | .stgBasicWrite .. => allParts
  | .stgStart .. => allParts
  | .stgStop .. => allParts
  | .stgBlockBoundary => [.regs, .cad, .wm, .stg, .hlt, .out]
  | .stgFrameWrite => [.regs, .cad, .wm, .stg, .hbm, .mem, .hlt, .out]
  | .blockClose => [.regs, .wm, .stg, .hbm, .mem, .tru, .atl, .hlt, .out]
  | .closeTimeout => [.regs, .wm, .stg, .hbm, .mem, .tru, .atl, .hlt, .out]
  | .ringHoldRelease => [.regs, .cad, .wm, .stg, .hbm, .mem, .hlt, .out]
  | .subBlockStage => [.regs, .frm, .cad, .wm, .stg, .hbm, .mem, .atl, .acc, .hlt, .out]
  | .stgCntClear .. => allParts
  | .brgBasicWrite .. => allParts
  | .brgCoreRun .. => allParts
  | .brgCoreHalt .. => allParts
  | .brgCoreStep .. => allParts
  | .brgCoreLoadbi .. => allParts
  | .brgDoorbell .. => allParts
  | .brgDirSwitchArm .. => allParts
  | .brgTickFire => [.regs, .wm, .brg, .hlt, .out]
  | .brgInterruptAccept .. => [.regs, .brg, .hlt, .out]
  | .brgWaitEnd .. => [.regs, .wm, .trp, .mem, .brg, .hlt, .out]
  | .brgPutWritten .. => [.regs, .wm, .hbm, .mem, .brg, .hlt, .out]
  | .brgNop .. => [.regs, .brg, .hlt, .out]
  | .brgAdd .. => [.regs, .brg, .hlt, .out]
  | .brgSub .. => [.regs, .brg, .hlt, .out]
  | .brgAnd .. => [.regs, .brg, .hlt, .out]
  | .brgOr .. => [.regs, .brg, .hlt, .out]
  | .brgXor .. => [.regs, .brg, .hlt, .out]
  | .brgShl .. => [.regs, .brg, .hlt, .out]
  | .brgShr .. => [.regs, .brg, .hlt, .out]
  | .brgSra .. => [.regs, .brg, .hlt, .out]
  | .brgMul .. => [.regs, .brg, .hlt, .out]
  | .brgAddi .. => [.regs, .brg, .hlt, .out]
  | .brgOri .. => [.regs, .brg, .hlt, .out]
  | .brgLui .. => [.regs, .brg, .hlt, .out]
  | .brgLd .. => [.regs, .brg, .hlt, .out]
  | .brgSt .. => [.regs, .mem, .brg, .hlt, .out]
  | .brgSetp .. => [.regs, .brg, .hlt, .out]
  | .brgSetm .. => [.regs, .brg, .hlt, .out]
  | .brgMfs .. => [.regs, .brg, .hlt, .out]
  | .brgOmac .. => [.regs, .brg, .hlt, .out]
  | .brgCmac .. => [.regs, .brg, .hlt, .out]
  | .brgDmac .. => [.regs, .brg, .hlt, .out]
  | .brgExt .. => [.regs, .brg, .hlt, .out]
  | .brgMova .. => [.regs, .brg, .hlt, .out]
  | .brgBeq .. => [.regs, .brg, .hlt, .out]
  | .brgBne .. => [.regs, .brg, .hlt, .out]
  | .brgBlt .. => [.regs, .brg, .hlt, .out]
  | .brgBge .. => [.regs, .brg, .hlt, .out]
  | .brgJmp .. => [.regs, .brg, .hlt, .out]
  | .brgCall .. => [.regs, .brg, .hlt, .out]
  | .brgRet .. => [.regs, .brg, .hlt, .out]
  | .brgLoop .. => [.regs, .brg, .hlt, .out]
  | .brgPut .. => [.regs, .brg, .hlt, .out]
  | .brgDir .. => [.regs, .trp, .brg, .hlt, .out]
  | .brgPost .. => [.regs, .wm, .brg, .hlt, .out]
  | .brgWaitt .. => [.regs, .brg, .hlt, .out]
  | .brgWaiti .. => [.regs, .brg, .hlt, .out]
  | .brgReti .. => [.regs, .brg, .hlt, .out]
  | .brgEi .. => [.regs, .brg, .hlt, .out]
  | .brgDi .. => [.regs, .brg, .hlt, .out]
  | .brgHalt .. => [.regs, .brg, .hlt, .out]
  | .brgCntClear .. => allParts
  | .xarBasicWrite .. => allParts
  | .xarEnableWrite .. => allParts
  | .xarTableWrite .. => allParts
  | .passDispatch .. => [.regs, .atl, .hlt, .out]
  | .passFillEnd .. => [.regs, .wm, .stg, .atl, .xar, .hlt, .out]
  | .exchangeEnd .. => [.regs, .atl, .hlt, .out]
  | .xarCntClear .. => allParts
  | .accBasicWrite .. => allParts
  | .accDrain .. => allParts
  | .skReset .. => allParts
  | .accBlockClose => [.regs, .acc, .hlt, .out]
  | .blockResultMerge .. => [.regs, .hbm, .mem, .atl, .acc, .hlt, .out]
  | .setDrain .. => [.regs, .frm, .mem, .acc, .hlt, .out]
  | .drainEnd .. => [.acc]
  | .markOutputTimeout .. => [.regs, .frm, .hlt, .out]
  | .accCntClear .. => allParts
  | .atlBasicWrite .. => allParts
  | .atlRegionWrite .. => allParts
  | .statsReset .. => allParts
  | .atlUnload .. => allParts
  | .atlRead .. => allParts
  | .atlEvict .. => allParts
  | .atlOpAbort .. => allParts
  | .hostOpComplete .. => [.regs, .hbm, .mem, .atl, .hlt, .out]
  | .descSnapshot .. => allParts
  | .ownershipGrant .. => [.regs, .atl]
  | .pageOutStart .. => [.regs, .atl, .hlt, .out]
  | .pageOutComplete .. => [.regs, .hbm, .mem, .atl, .hlt, .out]
  | .pageInStart => [.regs, .atl]
  | .pageInComplete .. => [.regs, .mem, .atl, .hlt, .out]
  | .atlQuarantine .. => allParts
  | .atlRelease .. => allParts
  | .quarantineMoveStep .. => [.regs, .atl, .hlt, .out]
  | .moveCommit .. => [.regs, .hbm, .mem, .atl, .hlt, .out]
  | .atlCntClear .. => allParts
  | .svyBasicWrite .. => allParts
  | .svyLoad .. => allParts
  | .planLoadDone .. => [.regs, .svy, .mem, .atl, .hlt, .out]
  | .svyStart .. => allParts
  | .svyStop .. => allParts
  | .svyKill .. => allParts
  | .svySuspend .. => allParts
  | .svyResume .. => allParts
  | .svyUnload .. => allParts
  | .svyHostAbort .. => allParts
  | .svyRegWrite .. => allParts
  | .stepPoint .. => [.regs, .frm, .svy, .atl, .acc, .hlt, .out]
  | .coreStopComplete .. => [.regs, .svy, .hlt, .cmx, .out]
  | .planWaitEnd .. => [.regs, .frm, .wm, .svy, .atl, .acc, .hlt, .out]
  | .planNop .. => [.regs, .frm, .svy, .atl, .acc, .hlt, .out]
  | .planSet .. => [.regs, .frm, .svy, .atl, .acc, .hlt, .out]
  | .planSethi .. => [.regs, .frm, .svy, .atl, .acc, .hlt, .out]
  | .planAdd .. => [.regs, .frm, .svy, .atl, .acc, .hlt, .out]
  | .planSub .. => [.regs, .frm, .svy, .atl, .acc, .hlt, .out]
  | .planMul .. => [.regs, .frm, .svy, .atl, .acc, .hlt, .out]
  | .planAnd .. => [.regs, .frm, .svy, .atl, .acc, .hlt, .out]
  | .planOr .. => [.regs, .frm, .svy, .atl, .acc, .hlt, .out]
  | .planShl .. => [.regs, .frm, .svy, .atl, .acc, .hlt, .out]
  | .planShr .. => [.regs, .frm, .svy, .atl, .acc, .hlt, .out]
  | .planBranch .. => [.regs, .frm, .svy, .atl, .acc, .hlt, .out]
  | .planLoop .. => [.regs, .frm, .svy, .atl, .acc, .hlt, .out]
  | .planCall .. => [.regs, .frm, .svy, .atl, .acc, .hlt, .out]
  | .planRet .. => [.regs, .frm, .svy, .atl, .acc, .hlt, .out]
  | .planLoad .. => [.regs, .frm, .svy, .atl, .acc, .hlt, .out]
  | .planStore .. => allParts
  | .planStream .. => [.regs, .frm, .svy, .atl, .acc, .hlt, .out]
  | .planSpectra .. => [.regs, .frm, .svy, .atl, .acc, .hlt, .out]
  | .planTileset .. => [.regs, .frm, .svy, .atl, .acc, .hlt, .out]
  | .planBudget .. => [.regs, .frm, .cad, .svy, .atl, .acc, .hlt, .out]
  | .planCorr .. => [.regs, .frm, .svy, .atl, .acc, .hlt, .out]
  | .planBeam .. => [.regs, .frm, .svy, .atl, .acc, .hlt, .out]
  | .planMerge .. => [.regs, .frm, .svy, .atl, .acc, .hlt, .out]
  | .planDump .. => [.regs, .frm, .wm, .svy, .atl, .acc, .hlt, .out]
  | .planMark .. => [.regs, .frm, .wm, .svy, .atl, .acc, .hlt, .out]
  | .planWaitmark .. => [.regs, .frm, .svy, .atl, .acc, .hlt, .out]
  | .planWaitidx .. => [.regs, .frm, .svy, .atl, .acc, .hlt, .out]
  | .planStep .. => [.regs, .frm, .wm, .svy, .atl, .acc, .hlt, .out]
  | .planFence .. => [.regs, .frm, .svy, .atl, .acc, .hlt, .out]
  | .planCommit .. => [.regs, .frm, .svy, .atl, .acc, .hlt, .out]
  | .planAbort .. => [.regs, .frm, .svy, .atl, .acc, .hlt, .out]
  | .planHalt .. => [.regs, .frm, .svy, .atl, .acc, .hlt, .out]
  | .svyCntClear .. => allParts
  | .trpBasicWrite .. => allParts
  | .trpApply .. => allParts
  | .levelReset .. => allParts
  | .repNext .. => allParts
  | .capRelease .. => allParts
  | .trpDirRecordWrite .. => allParts
  | .trpWindow => [.regs, .wm, .trp, .hlt, .out]
  | .pinPulseEnd .. => [.trp, .out]
  | .trpReport .. => [.regs, .frm, .trp, .acc, .hlt, .out]
  | .trigMarkTimeout .. => [.regs, .frm, .hlt, .out]
  | .ringFrameWrite => [.regs, .trp, .hbm, .mem, .hlt, .out]
  | .trpCntClear .. => allParts
  | .cadBasicWrite .. => allParts
  | .cadShareWrite .. => allParts
  | .cadApply .. => allParts
  | .budgetPeriod .. => [.regs, .frm, .cad, .trp, .atl, .acc, .hlt, .cmx, .out]
  | .cadCntClear .. => allParts
  | .hbmRequest .. => [.regs, .hbm, .mem, .hlt, .out]
  | .hbmCommandSlot .. => [.mem]
  | .refreshDue .. => [.mem]
  | .stackTempReport .. => [.regs, .hlt, .out]
  | .memSrEnter .. => allParts
  | .memSrExit .. => allParts
  | .srIdleTimeout .. => [.regs]
  | .srEntryComplete .. => [.regs, .lns, .trp, .mem, .hlt, .cmx, .out]
  | .srExitComplete .. => [.regs, .lns, .trp, .hlt, .cmx, .out]
  | .memTrain .. => allParts
  | .trainComplete .. => [.regs, .lns, .trp, .mem, .atl, .hlt, .cmx, .out]
  | .retrainDue .. => [.regs]
  | .retrainStep .. => [.regs, .mem, .atl, .hlt, .out]
  | .ceRateSecond => [.regs, .mem, .hlt, .out]
  | .patrolScrub => [.regs, .mem, .hlt, .out]
  | .cmdParityError .. => [.regs, .mem, .hlt, .out]
  | .ueNext .. => allParts
  | .retireGo .. => allParts
  | .retireAbort .. => allParts
  | .retireRestore .. => allParts
  | .retireCommit => [.regs, .hbm, .mem, .hlt, .out]
  | .memCntClear .. => allParts
  | .merBasicWrite .. => allParts
  | .merSelect .. => allParts
  | .realign .. => allParts
  | .merEpochRequest .. => allParts
  | .merFsWrite .. => allParts
  | .offsetWrite .. => allParts
  | .internalPpsEdge => [.regs, .dec, .wm, .chn, .grt, .stg, .trp, .svy, .brg, .tru, .xar, .acc, .rsy, .hlt, .cmx, .mer, .tim, .out]
  | .refSecond .. => [.regs, .hlt, .cmx, .mer, .out]
  | .refEdgeLoss .. => [.regs, .hlt, .cmx, .mer, .out]
  | .irigFrame .. => [.regs, .hlt, .mer, .tim, .out]
  | .buildoutLatch .. => [.regs, .hlt, .cmx, .mer, .out]
  | .loopBwStep .. => [.regs, .hlt, .mer, .out]
  | .timBasicWrite .. => allParts
  | .secSet .. => allParts
  | .todSet .. => allParts
  | .ptpAccept .. => allParts
  | .ptpReset .. => allParts
  | .timSelect .. => allParts
  | .incrHiWrite .. => allParts
  | .incrLoWrite .. => allParts
  | .evtCfgWrite .. => allParts
  | .ptpMessageRx .. => [.regs, .hlt, .tim, .out]
  | .timCntClear .. => allParts
  | .matrixBurst .. => allParts
  | .targetTimeout .. => allParts
  | .masterReset .. => allParts
  | .lockExpiry => allParts
  | .pcieConfigRequest .. => [.regs, .cmx, .out]
  | .pcieLink .. => allParts
  | .bar0Read .. => allParts
  | .bar0Write .. => allParts
  | .bar2Read .. => [.regs, .mem, .hlt, .out]
  | .bar2Write .. => [.regs, .hbm, .mem, .hlt, .out]
  | .msixVectorUnmask .. => allParts
  | .mboxAbort .. => allParts
  | .getInfo .. => allParts
  | .setMode .. => allParts
  | .applyReference .. => allParts
  | .setEpoch .. => allParts
  | .selectRef .. => allParts
  | .planRun .. => allParts
  | .planStop .. => allParts
  | .drain .. => allParts
  | .haltScope .. => allParts
  | .resumeScope .. => allParts
  | .readLog .. => allParts
  | .arm .. => allParts
  | .train .. => allParts
  | .setVcore .. => allParts
  | .updateWrite .. => allParts
  | .updateTrial .. => allParts
  | .updateConfirm .. => allParts
  | .updateReject .. => allParts
  | .updateStatus .. => allParts
  | .updateTicket .. => allParts
  | .updateSafeWrite .. => allParts
  | .updateKeyfloorRevoke .. => allParts
  | .survey .. => allParts
  | .takeover .. => allParts
  | .mgtMboxRequest .. => allParts
  | .mgtPacketRx .. => [.out]
  | .smbReadWord .. => [.out]
  | .smbBlockWrite .. => allParts
  | .smbBlockRead .. => [.out]
  | .pmbVoutWrite .. => allParts
  | .pmbusPoll .. => [.regs, .hlt, .out]
  | .wdogKick .. => allParts
  | .wdogExpired .. => allParts
  | .tapInstruction .. => [.cmx, .out]
  | .cmxCntClear .. => allParts
  | .modeCtrlGo .. => allParts
  | .modeCtrlAbort .. => allParts
  | .readyExitProgress => [.regs, .lns, .cad, .wm, .chn, .stg, .trp, .rsy, .hlt, .cmx, .out]
  | .surveyStepComplete .. => allParts
  | .surveyCut .. => allParts
  | .beaconLost .. => [.regs, .frm, .wm, .trp, .hlt, .out]
  | .twinCtrlTakeover .. => allParts
  | .twinCtrlAbort .. => allParts
  | .peerActRise => [.regs, .trp, .hlt, .cmx, .out]
  | .handoverTimeout => [.regs, .hlt, .cmx, .out]
  | .switchbackHoldExpiry => [.hlt]
  | .revertDelayExpiry => [.regs, .frm, .wm, .trp, .hlt, .out]
  | .sigMissingTimeout .. => [.regs, .hlt, .out]
  | .aatFire .. => allParts
  | .logRecordWrite => [.regs, .hlt, .out]
  | .logReadWrite .. => allParts
  | .hltBasicWrite .. => allParts
  | .hltCntClear .. => allParts
  | .debugTokenWrite .. => allParts
  | .recDataWrite .. => allParts
  | .recGo .. => allParts
  | .blockLockRestored .. => [.regs, .hlt, .out]
  | .domainLeavesSlave .. => [.regs, .hlt, .tim, .out]
  | .evtOutPulse .. => [.regs, .tim, .out]
  | .flashProgramEnd .. => [.regs, .tru, .cmx, .out]
  | .slewEnd => [.regs, .mer]

/-- Every register outside `as` is the same in both states. -/
def RegsBut (as : List Nat) (s t : State) : Prop := ∀ a, a ∉ as → t.reg a = s.reg a

/-- The registers in which a raised event of unit `u` may show: its UNIT_EVENT, the pending bits of MSI-X, and the count of lost records. -/
def shows (u x : Nat) : Prop := x = UNIT_EVENT u ∨ (0x12011000 ≤ x ∧ x < 0x12012000) ∨ x = HLT_LOG_LOST

/-- Every register outside `as`, and outside those in which events of the units `us` show, is the same in both states. -/
def RegsButEv (us as : List Nat) (s t : State) : Prop := ∀ a, a ∉ as → (∀ u ∈ us, ¬shows u a) → t.reg a = s.reg a

/-- The event's bit of its unit's UNIT_EVENT is set (R14). -/
def Signals (e : Ev) (t : State) : Prop := bit (t.reg (UNIT_EVENT (e.code / 256))) (e.code % 256 - 1) = true

/-- The registers are in canonical form, and so is the memory; the log queue holds at most 4,096 records (R439) and the memory's error log at most 16
(R351). -/
structure Inv (s : State) : Prop where
  regs : smapWf regReset s.regs = true
  hbm : Memory.wf s.hbm = true
  logQ : s.hlt.logQ.length ≤ 4096
  ueLog : s.mem.log.length ≤ 16

/-- The counter clears (R86 and each unit's register map): the master, the register, and the counters that the written word selects. -/
def clears (i : Instr) : Option (Master × Nat × List Nat) :=
  let one (v : Word) (l : List Nat) : List Nat := if bit v.toNat 0 then l else []
  match i with
  | .lnsCntClear m v _ => some (m, LNS_CNT_CLEAR, if bit v.toNat 7 then (List.range 96).flatMap lnsCounters else if (v.toNat % 128) < 96 then
      lnsCounters ((v.toNat % 128)) else [])
  | .frmCntClear m v _ => some (m, FRM_CNT_CLEAR, (if bit v.toNat 7 then (List.range 12).map FRM_CNT_SEQ_LOST ++ (List.range 96).flatMap
      frmLaneCounters else []) ++ (if bit v.toNat 8 then (List.range 8).flatMap frmPortCounters else []) ++ (if bit v.toNat 7 = false ∧ bit v.toNat 8 =
      false ∧ (v.toNat % 128) < 96 then frmLaneCounters ((v.toNat % 128)) else []))
  | .decCntClear m v _ => some (m, DEC_CNT_CLEAR, if bit v.toNat 8 then (List.range 256).flatMap decCounters else decCounters (v.toNat % 256))
  | .chnCntClear m v _ => some (m, CHN_CNT_CLEAR, if bit v.toNat 8 then (List.range 256).flatMap chnCounters else chnCounters (v.toNat % 256))
  | .rsyCntClear m v _ => some (m, RSY_CNT_CLEAR, one v [RSY_CNT_SAT, RSY_CNT_VOID])
  | .grtCntClear m v _ => some (m, GRT_CNT_CLEAR, one v [GRT_CNT_UNROUTED, GRT_CNT_MISROUTE, GRT_CNT_NOLINK, GRT_CNT_RELAYED])
  | .stgCntClear m v _ => some (m, STG_CNT_CLEAR, one v [STG_CNT_LATE, STG_CNT_SAT, STG_CNT_VOID, STG_CNT_HOLD])
  | .brgCntClear m v _ => some (m, BRG_CNT_CLEAR, one v [BRG_CNT_OVERRUN, BRG_CNT_STALL])
  | .xarCntClear m v _ => some (m, XAR_CNT_CLEAR, if bit v.toNat 7 then (List.range 80).flatMap xarArrCounters ++ [XAR_CNT_SPLIT, XAR_CNT_CORR] else
      if (v.toNat % 128) < 80 then xarArrCounters ((v.toNat % 128)) else [])
  | .accCntClear m v _ => some (m, ACC_CNT_CLEAR, one v ([ACC_CNT_SAT, ACC_CNT_POISON, ACC_CNT_PLANE_FULL, ACC_CNT_DRAIN_LATE] ++ (List.range 16).map
      ACC_PLAN_CNT_FRAMES))
  | .svyCntClear m v _ => some (m, SVY_CNT_CLEAR, if bit v.toNat 3 then (List.range 8).flatMap svyCounters else svyCounters (v.toNat % 8))
  | .trpCntClear m v _ => some (m, TRP_CNT_CLEAR, one v [TRP_CNT_FIRE, TRP_CNT_SUSPECT, TRP_CNT_REP_LOST, TRP_CNT_RING_SKIP, TRP_CNT_DLY_RANGE,
      TRP_CNT_VOID_WIN])
  | .memCntClear m v _ => some (m, MEM_CNT_CLEAR, one v ([MEM_UE_COUNT, MEM_CNT_SR_ABANDON, MEM_CNT_SR_WAIT, MEM_SR_WAIT_MAX, MEM_CNT_CMD_RETRY] ++
      (List.range 64).flatMap memCounters))
  | .timCntClear m v _ => some (m, TIM_CNT_CLEAR, one v ([TIM_CNT_IRIG_ERR, TIM_PTP_CNT_SYNC 0, TIM_PTP_CNT_SYNC 1] ++ (List.range 4).map TIM_EVT_COUNT))
  | .cmxCntClear m v _ => some (m, CMX_CNT_CLEAR, one v [CMX_CNT_DECERR, CMX_CNT_SLVERR, CMX_CNT_WR_ERR, CMX_CNT_BURST_RESET, CMX_CNT_BAR2_ERR])
  | .hltCntClear m v _ => some (m, HLT_CNT_CLEAR, one v [HLT_CMP_COUNT, HLT_CMP_MISMATCH, HLT_CMP_SKIPPED, HLT_CMP_MISSING, HLT_CNT_BEACON_LOST, HLT_LOG_LOST])
  | _ => none

/-- The registers besides the event's that an error response of cause `c` (1 DECERR, 2 SLVERR, 3 timeout) may change (R387, R388, R393). -/
def busErrorRegs (c : Nat) : List Nat := [if c = 1 then CMX_CNT_DECERR else CMX_CNT_SLVERR, CMX_CNT_WR_ERR, CMX_ERR_ADDR, CMX_ERR_INFO]

/-- The state as a unit sees an access: the port's pick has moved past the master (R386). -/
def picked (m : Master) (a : Nat) (s : State) : State :=
  { s with cmx := { s.cmx with picks := sset 0 s.cmx.picks (portOf a) ((m.num + 1) % 5) } }

/-- A write of master `m` to `a` that its unit refuses with event `e` (R10, R387, R388, R486): the event and SLAVE_ERR stand, the response is SLVERR, and no
register changes but those in which the error and the two events show. -/
def Refused (e : Ev) (m : Master) (a : Nat) (s t : State) : Prop :=
  Signals e t ∧ Signals EV_CMX_SLAVE_ERR t ∧ t.out.head? = some (.writeResp m a .slverr) ∧ RegsButEv [e.code / 256, 18] (busErrorRegs 2) s t ∧
    SameBut [.regs, .hlt, .cmx, .out] s t

/-- A write of master `m` to `a` that is answered without an error. -/
def Answered (m : Master) (a : Nat) (t : State) : Prop := t.out.head? = some (.writeResp m a .okay)

/-! ### Frames that arrive -/

/-- Lane `n` hands on frame `f` that arrives with check value `c` (R33, R39, R48, R77, R464): the receiver is ACTIVE with a generation, which is the frame's,
header and length are right, an engine in use computes `c`, and the frame is of no older twin generation. -/
def LaneHands (n : Nat) (f : Frame) (c : Nat) (s : State) : Prop :=
  (s.lane n).rx = lACTIVE ∧ (s.lane n).gen = some f.protoGen ∧ f.headerOk f.protoGen = true ∧ f.lengthOk = true ∧
    ((ckInUse s n).en = true → laneCheck s n f = c) ∧
    (sget 0 s.frm.newestTwin f.srcChip = 0 ∨ twinNewer (sget 0 s.frm.newestTwin f.srcChip - 1) f.twinGen = false)

/-- The command by which frame `f` arrives on lane `n` with check value `c`, by the role of the lane's octet (Table 3.1); `fits` says whether a receive buffer of
the twin link has room. None on a lane whose octet receives no frames. -/
def frameArrives (n : Fin 96) (f : Frame) (c : Nat) (fits : Bool) (s : State) : Option Instr :=
  if octetRole s (n.val / 8) = roINGRESS then some (.ingressFrameRx n f c)
  else if octetRole s (n.val / 8) = roGRATICULE then some (.graticuleFrameRx n f c)
  else if octetRole s (n.val / 8) = roTWIN then some (.twinFrameRx n f c fits)
  else none

end Sys2Proof.Machine
end

