-- ==== Sys2Proof/Certificates/Slice0/Obligations.lean ====
section
/-!
DEFINITION. The statements for the provers. A statement about a command holds for every state and operands that meet its hypotheses; where it gives the next
state `t`, `RegsBut` and `RegsButEv` name the registers that may differ in `t` and `SameBut` the parts of the state that may.
-/

open Sys2Proof Sys2Proof.Machine

/-! ### The queue, the invariant and the frames of all commands -/

/-- With a command at the front of the queue, a step runs it on the state with the rest of the queue. -/
def Obligations.StepRunsFrontCommand : Prop :=
  ∀ (c : Instr) (rest : List Instr) (s : State), s.pending = c :: rest → step s = exec c { s with pending := rest }

/-- On an empty queue a step is one tick of the meridian, 10 ns (the model's choice, log entry 1): in every mode but OFF the time of day rises by the
increment and the sample index by the array clock's periods; nothing but the time outputs, and their counts, changes besides. -/
def Obligations.EmptyQueueTicks : Prop :=
  ∀ s : State, s.pending = [] → ∃ t, step s = .next t ∧ t.pending = [] ∧ (s.mode = mOFF → t = s) ∧
    (s.mode ≠ mOFF →
      2 ^ 32 * t.tim.tod + t.tim.todFrac = 2 ^ 32 * u64 (s.tim.tod + (s.tim.todFrac + s.tim.incr) / 2 ^ 32) + (s.tim.todFrac + s.tim.incr) % 2 ^ 32 ∧
      t.mer.frac = (s.mer.frac + s.reg MER_FS) % 100000 ∧ t.mer.since = s.mer.since + (s.mer.frac + s.reg MER_FS) / 100000 ∧
      t.mer.idx = (if s.rf MER_STATE_IDX_VALID = 1 then u64 (s.mer.idx + (s.mer.frac + s.reg MER_FS) / 100000) else s.mer.idx)) ∧
    SameBut [.regs, .mer, .tim, .out] s t ∧ RegsBut ((List.range 4).map TIM_EVT_COUNT) s t

/-- The state after reset meets the invariant. -/
def Obligations.ResetMeetsInvariant : Prop := Inv State.reset

/-- Every step keeps the invariant: the registers and the memory in canonical form, the log queue within 4,096 records (R439) and the error log
within 16 entries (R351). -/
def Obligations.StepKeepsInvariant : Prop := ∀ s t : State, Inv s → step s = .next t → Inv t

/-- Every command but those that bring readings of temperatures or supplies answers a next state, and no command is refused; a next state has the
queue it was given, wherever the invariant holds. -/
def Obligations.CommandsAnswer : Prop :=
  ∀ (c : Instr) (s : State),
    (∃ t, exec c s = .next t ∧ (Inv s → t.pending = s.pending)) ∨
    (exec c s = .fault .beyondAbsoluteMaximum ∧
      ((∃ l, c = .tempSample l) ∨ (∃ l, c = .supplySample l) ∨ (∃ v mv, c = .supplyFaultReset v mv)))

/-- No command changes a part of the state outside `touches`: one line of that table for each row of the opcode table. -/
def Obligations.CommandFrames : Prop := ∀ (c : Instr) (s t : State), exec c s = .next t → SameBut (.pending :: touches c) s t

/-- Reset leaves every register at its reset value, the part in BOOT with every action unarmed and no event pending, all queues of the block empty and
nothing sent. -/
def Obligations.ResetValues : Prop :=
  (∀ a, State.reset.reg a = (regReset a).toNat) ∧ State.reset.mode = mBOOT ∧
    (∀ u, 1 ≤ u → u ≤ 20 → State.reset.reg (UNIT_ARM u) = 0 ∧ State.reset.reg (UNIT_EVENT u) = 0 ∧ State.reset.reg (UNIT_EVENT_EN u) = 0) ∧
    State.reset.pending = [] ∧ State.reset.out = [] ∧ State.reset.hbm = [] ∧ State.reset.hlt.logQ = []

/-! ### Registers (chapter 0) -/

/-- A granted write of a register: a read-only one keeps its value; UNIT_ARM takes the implemented bits; a bit of UNIT_EVENT written as 1 is cleared and
one written as 0 stays. An address that is no multiple of 4 is answered with an error and reaches no register but those that report it. -/
def Obligations.RegisterAccess : Prop :=
  ∀ (m : Master) (u : Nat) (env : Env) (s : State), 1 ≤ u → u ≤ 20 →
    (∀ (a v : Word) (d : RegDesc), a.toNat / 0x1000000 = u → a.toNat % 4 = 0 → Granted m a.toNat s →
      (unitRegs u).find? (fun d => d.covers (a.toNat % 0x1000000)) = some d → d.acc = .ro →
      ∃ t, exec (.registerWrite m a v env) s = .next t ∧ RegsBut [] s t ∧ SameBut [.cmx, .out] s t ∧ t.out = .writeResp m a.toNat .okay :: s.out) ∧
    (∀ (a v : Word) (d : RegDesc), a.toNat = UNIT_ARM u → Granted m a.toNat s →
      (unitRegs u).find? (fun d => d.covers 0x14) = some d → d.acc = .rw →
      ∃ t, exec (.registerWrite m a v env) s = .next t ∧ (∀ i, i < 32 → bit (t.reg (UNIT_ARM u)) i = if bit d.wmask i then bit v.toNat i else bit (s.reg (UNIT_ARM u)) i) ∧
        RegsBut [UNIT_ARM u] s t ∧ SameBut [.regs, .cmx, .tru, .out] s t ∧ t.out = .writeResp m a.toNat .okay :: s.out) ∧
    (∀ (k : Fin 21) (v : Word), k.val = u → Granted m (UNIT_EVENT u) s →
      ∃ t, exec (.unitEventClear m k v env) s = .next t ∧
        (∀ i, i < 32 → bit (t.reg (UNIT_EVENT u)) i = (bit (s.reg (UNIT_EVENT u)) i && !(bit v.toNat i))) ∧
        (∀ a, a ≠ UNIT_EVENT u → ¬(0x12011000 ≤ a ∧ a < 0x12012000) → t.reg a = s.reg a) ∧ SameBut [.regs, .cmx, .out] s t ∧
        t.out.head? = some (.writeResp m (UNIT_EVENT u) .okay)) ∧
    (∀ (a v : Word), a.toNat / 0x1000000 = u → a.toNat % 4 ≠ 0 → Granted m a.toNat s →
      ∃ t, exec (.registerWrite m a v env) s = .next t ∧
        RegsButEv [18] (busErrorRegs 2) s t ∧ SameBut [.regs, .hlt, .cmx, .out] s t ∧
        Signals EV_CMX_SLAVE_ERR t ∧ t.out.head? = some (.writeResp m a.toNat .slverr))

/-! ### Counters -/

/-- A granted write of a unit's counter clear answers a next state in which the counters it selects read 0, every other register stays, and the write is
answered; the atlas's clear also returns the peak of used slots to the present number, and the cadastre's the peaks of the receive buffers to 0 and the
least headroom to its reset value. -/
def Obligations.CounterClears : Prop :=
  ∀ (m : Master) (v : Word) (env : Env) (s : State),
    (∀ (c : Instr) (a : Nat) (cs : List Nat), clears c = some (m, a, cs) → Granted m a s →
      ∃ t, exec c s = .next t ∧ (∀ x ∈ cs, t.reg x = 0) ∧ RegsBut cs s t ∧ SameBut [.regs, .cmx, .out] s t ∧ t.out = .writeResp m a .okay :: s.out) ∧
    (Granted m ATL_CNT_CLEAR s → bit v.toNat 0 = true →
      ∃ t, exec (.atlCntClear m v env) s = .next t ∧
        (∀ x ∈ [ATL_CNT_DISPATCH, ATL_CNT_PAGE_IN, ATL_CNT_PAGE_OUT, ATL_CNT_SLOT_WAIT, ATL_CNT_BUSY, ATL_CNT_POISON, ATL_CNT_DESC_CORR, ATL_CNT_MOVED],
          t.reg x = 0) ∧ t.reg ATL_SLOTS_PEAK = (usedSlots s).length % 2 ^ 32 ∧
        RegsBut [ATL_CNT_DISPATCH, ATL_CNT_PAGE_IN, ATL_CNT_PAGE_OUT, ATL_CNT_SLOT_WAIT, ATL_CNT_BUSY, ATL_CNT_POISON, ATL_CNT_DESC_CORR, ATL_CNT_MOVED,
          ATL_SLOTS_PEAK] s t ∧ SameBut [.regs, .cmx, .out] s t ∧ t.out = .writeResp m ATL_CNT_CLEAR .okay :: s.out) ∧
    (Granted m CAD_CNT_CLEAR s → bit v.toNat 0 = true →
      ∃ t, exec (.cadCntClear m v env) s = .next t ∧ (∀ c : Fin 16, t.reg (CAD_CNT_MISS c.val) = 0 ∧ t.reg (CAD_CNT_CEIL c.val) = 0) ∧
        (∀ k : Fin 12, t.rf (CAD_RXBUF_PEAK k.val) = 0 ∧ t.rf (CAD_RXBUF_LEVEL k.val) = s.rf (CAD_RXBUF_LEVEL k.val)) ∧ t.reg CAD_HEADROOM_MIN = 0xFFFF ∧
        RegsBut ((List.range 16).flatMap (fun c => [CAD_CNT_MISS c, CAD_CNT_CEIL c]) ++ (List.range 12).map (fun k => (CAD_RXBUF_PEAK k).addr) ++
          [CAD_HEADROOM_MIN]) s t ∧ SameBut [.regs, .cmx, .out] s t ∧ t.out = .writeResp m CAD_CNT_CLEAR .okay :: s.out)

/-! ### Lanes (chapter 3) -/

/-- Electrical idle (R73 to R75, R69). The idle timeout, with AUTO_IDLE, and a write that sets IDLE let an ACTIVE sender finish its frame and enter IDLE behind
its SLEEP blocks; a write that clears IDLE, or a frame queued for a lane that AUTO_IDLE holds, makes the exit of Table 3.4: burst, LINKINFO, ACTIVE, counted;
during an entry whose first SLEEP block has not left, the entry is abandoned. The second SLEEP block idles the receive side. -/
def Obligations.LaneIdle : Prop :=
  ∀ (lane : Fin 96) (s : State),
    (s.rf LNS_BASIC_AUTO_IDLE = 1 → (s.lane lane.val).tx = lACTIVE →
      ∃ t, exec (.idleTimeout lane) s = .next t ∧ t.lane lane.val = { s.lane lane.val with tx := lIDLE, autoHeld := true } ∧
        t.rf (LNS_LANE_STATUS_STATE lane.val) = lIDLE ∧ t.out = .sleep lane.val :: s.out ∧
        RegsBut [LNS_LANE_STATUS lane.val] s t) ∧
    (s.rf LNS_BASIC_AUTO_IDLE = 0 → exec (.idleTimeout lane) s = .next s ∧ ∀ b, exec (.autoIdleExit lane b) s = .next s) ∧
    ((s.lane lane.val).rx = lACTIVE →
      ∃ t, exec (.sleepRx lane) s = .next t ∧ t.lane lane.val = { s.lane lane.val with rx := lIDLE, sleeps := 0 } ∧
        RegsBut [LNS_LANE_STATUS lane.val] s t) ∧
    (∀ (m : Master) (v : Word) (env : Env), Granted m (LNS_LANE_CTRL lane.val) s → bit v.toNat 1 = false → bit v.toNat 2 = false →
      s.rf (LNS_LANE_CTRL_IDLE lane.val) = 0 → (s.lane lane.val).tx = lACTIVE →
      ∃ t, exec (.laneIdleSet m lane v env) s = .next t ∧ t.rf (LNS_LANE_CTRL_IDLE lane.val) = 1 ∧
        t.rf (LNS_LANE_CTRL_EYE_MIN lane.val) = bits v.toNat 8 8 ∧
        t.lane lane.val = { s.lane lane.val with tx := if env.inProgress then lENTERING else lIDLE, autoHeld := false } ∧
        t.out.head? = some (.writeResp m (LNS_LANE_CTRL lane.val) .okay) ∧ RegsBut [LNS_LANE_CTRL lane.val, LNS_LANE_STATUS lane.val] s t) ∧
    (∀ (m : Master) (v : Word) (env : Env), Granted m (LNS_LANE_CTRL lane.val) s → bit v.toNat 1 = false → bit v.toNat 2 = false →
      s.rf (LNS_LANE_CTRL_IDLE lane.val) = 1 →
      ∃ t, exec (.laneIdleClear m lane v env) s = .next t ∧ t.rf (LNS_LANE_CTRL_IDLE lane.val) = 0 ∧
        ((s.lane lane.val).tx = lENTERING → env.sleepSent = false → t.lane lane.val = { s.lane lane.val with tx := lACTIVE, autoHeld := false }) ∧
        ((s.lane lane.val).tx = lIDLE ∨ ((s.lane lane.val).tx = lENTERING ∧ env.sleepSent = true) →
          t.lane lane.val = { s.lane lane.val with tx := lACTIVE, autoHeld := false, liTx := ((s.lane lane.val).liTx + 1) % 2 ^ 32 } ∧
          t.reg (LNS_CNT_IDLE_EXIT lane.val) = min (s.reg (LNS_CNT_IDLE_EXIT lane.val) + 1) 0xFFFFFFFF ∧ .burst lane.val ∈ t.out ∧
          .linkInfo lane.val (s.rf TRU_ARITH_PROTO_GEN) (ownChip s) (s.lane lane.val).liTx ∈ t.out) ∧
        RegsBut [LNS_LANE_CTRL lane.val, LNS_LANE_STATUS lane.val, LNS_CNT_IDLE_EXIT lane.val, FRM_CK_STATUS lane.val, FRM_CNT_TX_FRAMES lane.val] s t) ∧
    (∀ sent : Bool, s.rf LNS_BASIC_AUTO_IDLE = 1 → (s.lane lane.val).autoHeld = true → s.rf (LNS_LANE_CTRL_IDLE lane.val) = 0 →
      (s.lane lane.val).tx = lIDLE →
      ∃ t, exec (.autoIdleExit lane sent) s = .next t ∧
        t.lane lane.val = { s.lane lane.val with tx := lACTIVE, autoHeld := false, liTx := ((s.lane lane.val).liTx + 1) % 2 ^ 32 } ∧
        t.reg (LNS_CNT_IDLE_EXIT lane.val) = min (s.reg (LNS_CNT_IDLE_EXIT lane.val) + 1) 0xFFFFFFFF ∧ .burst lane.val ∈ t.out ∧
        RegsBut [LNS_LANE_STATUS lane.val, LNS_CNT_IDLE_EXIT lane.val, FRM_CK_STATUS lane.val, FRM_CNT_TX_FRAMES lane.val] s t)

/-- LINKINFO (R69, R464, R136). An ACTIVE sender sends and counts its block. The receiver counts the block, learns the far chip, leaves IDLE for ACTIVE, and at
the first block of an ACTIVE period fixes the generation of the lane: the lower of two offers that are equal or one apart, and none for offers further apart;
on a graticule lane the learned chip shows in GRT_LANE_FAR. -/
def Obligations.LinkInfo : Prop :=
  ∀ (lane : Fin 96) (s : State),
    ((s.lane lane.val).tx = lACTIVE →
      ∃ t, exec (.linkinfoTx lane) s = .next t ∧ t.lane lane.val = { s.lane lane.val with liTx := ((s.lane lane.val).liTx + 1) % 2 ^ 32 } ∧
        t.out = .linkInfo lane.val (s.rf TRU_ARITH_PROTO_GEN) (ownChip s) (s.lane lane.val).liTx :: s.out ∧
        RegsBut [LNS_LANE_STATUS lane.val] s t) ∧
    (∀ (offer : Fin 16) (chip : Fin 64), ∃ t, exec (.linkinfoRx lane offer chip) s = .next t ∧
      (t.lane lane.val).liRx = ((s.lane lane.val).liRx + 1) % 2 ^ 32 ∧ (t.lane lane.val).farChip = some chip.val ∧
      (t.lane lane.val).rx = (if (s.lane lane.val).rx = lIDLE then lACTIVE else (s.lane lane.val).rx) ∧
      (t.lane lane.val).tx = (s.lane lane.val).tx ∧
      (((s.lane lane.val).farOffer = none ∨ (s.lane lane.val).rx = lIDLE) → (t.lane lane.val).rx = lACTIVE →
        (t.lane lane.val).gen = (if offer.val ≤ s.rf TRU_ARITH_PROTO_GEN + 1 ∧ s.rf TRU_ARITH_PROTO_GEN ≤ offer.val + 1 then
          some (min (s.rf TRU_ARITH_PROTO_GEN) offer.val) else none)) ∧
      (lane.val < 80 → octetRole s (lane.val / 8) = roGRATICULE →
        bits (t.reg (GRT_LANE_FAR lane.val)) 0 6 = chip.val ∧ bit (t.reg (GRT_LANE_FAR lane.val)) 8 = true) ∧
      RegsButEv [19, 6] [LNS_LANE_STATUS lane.val, GRT_LANE_FAR lane.val] s t)

/-- Losing and regaining the link (R66, R84, R85). A lane that goes down raises LANE_DOWN and, with RETRAIN armed and not yet used, trains, or else is in FAULT;
a relock timeout is counted, raised and trains the lane; RETRAIN written to a lane that is not DISABLED trains it; training ends ACTIVE with block lock, or in
FAULT with RETRAIN_FAILED. ADAPT, in CALIBRATE, keeps the lowest of the settings of greatest eye height. -/
def Obligations.LaneTraining : Prop :=
  ∀ (lane : Fin 96) (s : State),
    (∃ t, exec (.relockTimeout lane) s = .next t ∧ Signals EV_LNS_RELOCK_FAILED t ∧ (t.lane lane.val).tx = lTRAIN ∧ (t.lane lane.val).rx = lTRAIN ∧
      t.reg (LNS_CNT_RELOCK_FAIL lane.val) = min (s.reg (LNS_CNT_RELOCK_FAIL lane.val) + 1) 0xFFFFFFFF ∧
      RegsButEv [1] [LNS_CNT_RELOCK_FAIL lane.val, LNS_LANE_STATUS lane.val, FRM_CK_STATUS lane.val] s t) ∧
    (∃ t, exec (.laneDown lane) s = .next t ∧ Signals EV_LNS_LANE_DOWN t ∧ t.rf (LNS_LANE_STATUS_RX_LOCK lane.val) = 0 ∧
      (if s.rf LNS_ARM_RETRAIN = 1 ∧ (s.lane lane.val).retrainUsed = false then (t.lane lane.val).rx = lTRAIN ∧ (t.lane lane.val).retrainUsed = true
       else (t.lane lane.val).rx = lFAULT ∧ (t.lane lane.val).tx = lFAULT)) ∧
    (∀ (lock : Bool) (h w : BitVec 8), (s.lane lane.val).rx = lTRAIN → ∃ t, exec (.laneTrainComplete lane lock h w) s = .next t ∧
      (lock = true → (t.lane lane.val).tx = lACTIVE ∧ (t.lane lane.val).rx = lACTIVE ∧ t.rf (LNS_LANE_STATUS_RX_LOCK lane.val) = 1 ∧
        t.rf (LNS_EYE_HEIGHT lane.val) = h.toNat) ∧
      (lock = false → (t.lane lane.val).tx = lFAULT ∧ (t.lane lane.val).rx = lFAULT ∧ Signals EV_LNS_RETRAIN_FAILED t)) ∧
    (∀ (m : Master) (v : Word) (env : Env), Granted m (LNS_LANE_CTRL lane.val) s → bit v.toNat 2 = false →
      bits v.toNat 0 1 = s.rf (LNS_LANE_CTRL_IDLE lane.val) → (s.lane lane.val).rx ≠ lDISABLED →
      ∃ t, exec (.laneRetrain m lane v env) s = .next t ∧ (t.lane lane.val).tx = lTRAIN ∧ (t.lane lane.val).rx = lTRAIN ∧
        RegsBut [LNS_LANE_CTRL lane.val, LNS_LANE_STATUS lane.val, FRM_CK_STATUS lane.val] s t ∧ SameBut [.regs, .lns, .frm, .cmx, .tru, .out] s t) ∧
    (∀ (m : Master) (v : Word) (env : Env), Granted m (LNS_LANE_CTRL lane.val) s → s.mode = mCALIBRATE → bit v.toNat 1 = false →
      bits v.toNat 0 1 = s.rf (LNS_LANE_CTRL_IDLE lane.val) →
      ∃ t, exec (.laneAdapt m lane v env) s = .next t ∧ ∃ b, b < 16 ∧ t.rf (LNS_RX_EQ_PEAK lane.val) = b ∧
        t.rf (LNS_EYE_HEIGHT lane.val) = (((env.eyes.getD lane.val []).getD b 0#8)).toNat ∧
        (∀ k, k < 16 → ((env.eyes.getD lane.val []).getD k 0#8).toNat ≤ ((env.eyes.getD lane.val []).getD b 0#8).toNat) ∧
        (∀ k, k < b → ((env.eyes.getD lane.val []).getD k 0#8).toNat < ((env.eyes.getD lane.val []).getD b 0#8).toNat)) ∧
    (∀ (m : Master) (v : Word) (env : Env), Granted m (LNS_LANE_CTRL lane.val) s → s.mode ≠ mCALIBRATE →
      ∃ t, exec (.laneAdapt m lane v env) s = .next t ∧ Refused EV_LNS_CFG_REFUSED m (LNS_LANE_CTRL lane.val) s t)

/-- Counted and reported (R67, R84, R86): a block lock lost, and restored within a microsecond, which is counted; an absent reference; an invalid block; a
codeword that the decoder cannot correct; an Ethernet frame, with a good or a bad frame check sequence. -/
def Obligations.LaneReports : Prop :=
  ∀ (s : State),
    (∀ lane : Fin 96, ∃ t, exec (.blockLockLoss lane) s = .next t ∧ t.rf (LNS_LANE_STATUS_RX_LOCK lane.val) = 0 ∧
      RegsBut [LNS_LANE_STATUS lane.val] s t) ∧
    (∀ lane : Fin 96, ∃ t, exec (.blockLockRestored lane) s = .next t ∧ t.rf (LNS_LANE_STATUS_RX_LOCK lane.val) = 1 ∧
      t.reg (LNS_CNT_LOCK_LOSS lane.val) = min (s.reg (LNS_CNT_LOCK_LOSS lane.val) + 1) 0xFFFFFFFF ∧
      (s.rf (LNS_LANE_CTRL_EYE_MIN lane.val) ≠ 0 → s.rf (LNS_EYE_HEIGHT lane.val) < s.rf (LNS_LANE_CTRL_EYE_MIN lane.val) → Signals EV_LNS_EYE_LOW t) ∧
      RegsButEv [1] [LNS_LANE_STATUS lane.val, LNS_CNT_LOCK_LOSS lane.val] s t) ∧
    (∀ ref : Fin 2, ∃ t, exec (.refLost ref) s = .next t ∧ Signals EV_LNS_REF_LOST t ∧ bit (t.reg LNS_REF_STATUS) ref.val = false ∧
      RegsButEv [1] [LNS_REF_STATUS] s t) ∧
    (∀ lane : Fin 96, ∃ t, exec (.invalidBlockRx lane) s = .next t ∧
      t.reg (LNS_CNT_BLOCK_ERR lane.val) = min (s.reg (LNS_CNT_BLOCK_ERR lane.val) + 1) 0xFFFFFFFF ∧
      RegsBut [LNS_CNT_BLOCK_ERR lane.val] s t) ∧
    (∀ (lane : Fin 96) (k : Nat), ∃ t, exec (.fecUncorr lane k) s = .next t ∧ Signals EV_FRM_FEC_UNCORR t ∧
      t.reg (FRM_CNT_FEC_UNCORR lane.val) = min (s.reg (FRM_CNT_FEC_UNCORR lane.val) + 1) 0xFFFFFFFF ∧
      t.reg (FRM_CNT_FEC_CORR lane.val) = min (s.reg (FRM_CNT_FEC_CORR lane.val) + k) 0xFFFFFFFF ∧
      RegsButEv [2] [FRM_CNT_FEC_UNCORR lane.val, FRM_CNT_FEC_CORR lane.val] s t) ∧
    (∀ (port : Fin 8) (good : Bool), ∃ t, exec (.ethFrameRx port good) s = .next t ∧
      t.reg (FRM_PORT_CNT_RX port.val) = min (s.reg (FRM_PORT_CNT_RX port.val) + 1) 0xFFFFFFFF ∧
      (good = true → t.out = s.out ∧ t.reg (FRM_PORT_CNT_FCS port.val) = s.reg (FRM_PORT_CNT_FCS port.val)) ∧
      (good = false → Signals EV_FRM_ETH_FCS t ∧ t.reg (FRM_PORT_CNT_FCS port.val) = min (s.reg (FRM_PORT_CNT_FCS port.val) + 1) 0xFFFFFFFF) ∧
      RegsButEv [2] [FRM_PORT_CNT_RX port.val, FRM_PORT_CNT_FCS port.val] s t)

/-- Settings of lanes and framing (R63, R65, R78, R80, R83): a write outside the rule's ranges, or in a state that forbids it, is refused; one within them
takes effect as the clause says. -/
def Obligations.LaneSettings : Prop :=
  ∀ (m : Master) (v : Word) (env : Env) (s : State),
    (∀ k : Fin 12, Granted m (LNS_OCTET_ROLE k.val) s →
      (rolePermitted k.val (v.toNat % 8) = false ∨ (∃ n ∈ octetLanes k.val, laneQuiet s n = false) →
        ∃ t, exec (.octetRoleWrite m k v env) s = .next t ∧ Refused EV_LNS_CFG_REFUSED m (LNS_OCTET_ROLE k.val) s t) ∧
      (rolePermitted k.val (v.toNat % 8) = true → (∀ n ∈ octetLanes k.val, laneQuiet s n = true) →
        ∃ t, exec (.octetRoleWrite m k v env) s = .next t ∧ Answered m (LNS_OCTET_ROLE k.val) t ∧ octetRole t k.val = v.toNat % 8 ∧
          (v.toNat % 8 = roOFF → ∀ n ∈ octetLanes k.val, (t.lane n).tx = lDISABLED ∧ (t.lane n).rx = lDISABLED) ∧
          (v.toNat % 8 ≠ roOFF → octetEnabled s k.val = true → ∀ n ∈ octetLanes k.val, (t.lane n).tx = lTRAIN ∧ (t.lane n).rx = lTRAIN) ∧
          (∀ n, n ∉ octetLanes k.val → t.lane n = s.lane n) ∧
          RegsBut ([LNS_OCTET_ROLE k.val] ++ (octetLanes k.val).map LNS_LANE_STATUS ++ (octetLanes k.val).map FRM_CK_STATUS) s t)) ∧
    (Granted m (UNIT_BASIC 1) s →
      ∃ t, exec (.lnsBasicWrite m v env) s = .next t ∧ Answered m (UNIT_BASIC 1) t ∧ t.rf LNS_BASIC_OCTET_EN = bits v.toNat 0 12 ∧
        t.rf LNS_BASIC_AUTO_IDLE = bits v.toNat 12 1 ∧
        (∀ k : Fin 12, ∀ n ∈ octetLanes k.val,
          (bit v.toNat k.val = octetEnabled s k.val → t.lane n = s.lane n) ∧
          (bit v.toNat k.val = true → octetEnabled s k.val = false → octetRole s k.val ≠ roOFF → (t.lane n).tx = lTRAIN ∧ (t.lane n).rx = lTRAIN) ∧
          (bit v.toNat k.val = false → octetEnabled s k.val = true → (t.lane n).tx = lDISABLED ∧ (t.lane n).rx = lDISABLED))) ∧
    (∀ lane : Fin 96, Granted m (LNS_TX_FIR lane.val) s →
      (10 < bits v.toNat 0 4 ∨ 12 < bits v.toNat 8 4 ∨ 16 < bits v.toNat 0 4 + bits v.toNat 8 4 →
        ∃ t, exec (.txFirWrite m lane v env) s = .next t ∧ Refused EV_LNS_CFG_REFUSED m (LNS_TX_FIR lane.val) s t) ∧
      (bits v.toNat 0 4 ≤ 10 → bits v.toNat 8 4 ≤ 12 → bits v.toNat 0 4 + bits v.toNat 8 4 ≤ 16 →
        ∃ t, exec (.txFirWrite m lane v env) s = .next t ∧ Answered m (LNS_TX_FIR lane.val) t ∧
          t.rf (LNS_TX_FIR_C_PRE lane.val) = bits v.toNat 0 4 ∧ t.rf (LNS_TX_FIR_C_POST lane.val) = bits v.toNat 8 4 ∧
          RegsBut [LNS_TX_FIR lane.val] s t ∧ SameBut [.regs, .cmx, .tru, .out] s t)) ∧
    (∀ p : Fin 8, Granted m (FRM_PORT_CFG p.val) s →
      (bits v.toNat 16 14 < 1518 ∨ 9216 < bits v.toNat 16 14 →
        ∃ t, exec (.portCfgWrite m p v env) s = .next t ∧ Refused EV_FRM_CFG_REFUSED m (FRM_PORT_CFG p.val) s t) ∧
      (1518 ≤ bits v.toNat 16 14 → bits v.toNat 16 14 ≤ 9216 →
        ∃ t, exec (.portCfgWrite m p v env) s = .next t ∧ Answered m (FRM_PORT_CFG p.val) t ∧ t.rf (FRM_PORT_CFG_MAX_FRAME p.val) = bits v.toNat 16 14 ∧
          t.rf (FRM_PORT_CFG_EN p.val) = bits v.toNat 0 1 ∧ t.rf (FRM_PORT_CFG_CK_EN p.val) = bits v.toNat 4 1 ∧
          RegsBut [FRM_PORT_CFG p.val] s t ∧ SameBut [.regs, .cmx, .tru, .out] s t)) ∧
    (Granted m (UNIT_BASIC 2) s →
      (5 ≤ v.toNat % 8 → ∃ t, exec (.ckPresetWrite m v env) s = .next t ∧ Refused EV_FRM_CFG_REFUSED m (UNIT_BASIC 2) s t) ∧
      (v.toNat % 8 < 4 → ∃ t, exec (.ckPresetWrite m v env) s = .next t ∧ Answered m (UNIT_BASIC 2) t ∧ t.rf FRM_BASIC_CK_PRESET = v.toNat % 8 ∧
        ∀ n : Fin 96, (laneQuiet s n.val = true → t.rf (FRM_CK_STATUS_PENDING n.val) = 0 ∧ (ckShadow t n.val).cfg = ckPreset (v.toNat % 8)) ∧
          (laneQuiet s n.val = false → t.rf (FRM_CK_STATUS_PENDING n.val) = 1 ∧ ckShadow t n.val = ckShadow s n.val)) ∧
      (v.toNat % 8 = 4 → ∃ t, exec (.ckPresetWrite m v env) s = .next t ∧ t.rf FRM_BASIC_CK_PRESET = 4 ∧
        ∀ n : Fin 96, t.rf (FRM_CK_STATUS_PENDING n.val) = 0 ∧ ckShadow t n.val = ckShadow s n.val)) ∧
    (∀ n : Fin 96, (s.rf (FRM_CK_STATUS_PENDING n.val) = 1 → laneQuiet s n.val = true →
        ∃ t, exec (.ckPresetLoad n) s = .next t ∧ t.rf (FRM_CK_STATUS_PENDING n.val) = 0 ∧ (ckShadow t n.val).cfg = ckPreset (s.rf FRM_BASIC_CK_PRESET) ∧
          (ckShadow t n.val).en = (ckShadow s n.val).en) ∧
      (s.rf (FRM_CK_STATUS_PENDING n.val) = 0 ∨ laneQuiet s n.val = false → exec (.ckPresetLoad n) s = .next s)) ∧
    (∀ (n : Fin 96) (w : Fin 8), w.val < 7 → Granted m (FRM_CK_CFG n.val + 4 * w.val) s →
      (laneQuiet s n.val = false →
        ∃ t, exec (.ckShadowWrite m n w v env) s = .next t ∧ Refused EV_FRM_CK_CFG_REFUSED m (FRM_CK_CFG n.val + 4 * w.val) s t) ∧
      (w.val = 1 → laneQuiet s n.val = true → (ckShadow (s.setReg (FRM_CK_POLY_LO n.val) v.toNat) n.val).width ≤ 64 →
        8 ≤ (ckShadow s n.val).width → v.toNat % 2 = 1 → (ckShadow (s.setReg (FRM_CK_POLY_LO n.val) v.toNat) n.val).poly < 2 ^ (ckShadow s n.val).width →
        (ckShadow s n.val).init < 2 ^ (ckShadow s n.val).width → (ckShadow s n.val).xorout < 2 ^ (ckShadow s n.val).width →
        ∃ t, exec (.ckShadowWrite m n w v env) s = .next t ∧ Answered m (FRM_CK_POLY_LO n.val) t ∧ t.reg (FRM_CK_POLY_LO n.val) = v.toNat ∧
          RegsBut [FRM_CK_POLY_LO n.val] s t))

/-- Frames received (R33, R39, R46, R47, R73, R77, R137, R138, R330, R434). A lane that is not ACTIVE carries none; one whose engine is in use counts a wrong check
value. A frame that the lane hands on goes, in SEQ order, from an ingress lane to the decimators and from a graticule lane to staging or, with an unknown or
a foreign destination, nowhere; the waymarks of a MARK frame enter the units. A closed reorder window leaves nothing held. -/
def Obligations.FramesReceived : Prop :=
  ∀ (lane : Fin 96) (f : Frame) (c : Nat) (s : State),
    (octetRole s (lane.val / 8) ≠ roINGRESS → exec (.ingressFrameRx lane f c) s = .next s) ∧
    (octetRole s (lane.val / 8) ≠ roGRATICULE → exec (.graticuleFrameRx lane f c) s = .next s) ∧
    (octetRole s (lane.val / 8) ≠ roTWIN → ∀ b, exec (.twinFrameRx lane f c b) s = .next s) ∧
    (octetRole s (lane.val / 8) = roINGRESS → (s.lane lane.val).rx = lIDLE →
      ∃ t, exec (.ingressFrameRx lane f c) s = .next t ∧ t.reg (LNS_CNT_BLOCK_ERR lane.val) = min (s.reg (LNS_CNT_BLOCK_ERR lane.val) + 1) 0xFFFFFFFF ∧
        RegsBut [LNS_CNT_BLOCK_ERR lane.val] s t ∧ SameBut [.regs] s t) ∧
    (octetRole s (lane.val / 8) = roINGRESS → (s.lane lane.val).rx = lACTIVE → (s.lane lane.val).gen ≠ none → (ckInUse s lane.val).en = true →
      laneCheck s lane.val f ≠ c → f.kind ≠ kTIME →
      ∃ t, exec (.ingressFrameRx lane f c) s = .next t ∧ t.reg (FRM_CNT_RX_FRAMES lane.val) = min (s.reg (FRM_CNT_RX_FRAMES lane.val) + 1) 0xFFFFFFFF ∧
        t.reg (FRM_CNT_CK_FAIL lane.val) = min (s.reg (FRM_CNT_CK_FAIL lane.val) + 1) 0xFFFFFFFF ∧
        RegsButEv [2] [FRM_CNT_RX_FRAMES lane.val, FRM_CNT_CK_FAIL lane.val] s t ∧ SameBut [.regs, .frm, .hlt, .out] s t) ∧
    (∀ fl : FlowSt, s.flow (flowKey (lane.val / 8) 0 0 f.srcChip) = fl → octetRole s (lane.val / 8) = roINGRESS → LaneHands lane.val f c s →
      plausible3 fl f s = true → fl.fresh = false → fl.failed = false → fl.held = [] → f.seq = fl.seq → f.index = fl.nextIdx →
      ∃ t, exec (.ingressFrameRx lane f c) s = .next t ∧ t.flow (flowKey (lane.val / 8) 0 0 f.srcChip) = flowAfter fl f ∧
        (rxFits s (lane.val / 8) f = true → t.dec.inQ = s.dec.inQ ++ [.frame (lane.val / 8) f] ∧
          rxBytesOf t (lane.val / 8) = rxBytesOf s (lane.val / 8) + frameBytes f) ∧
        (rxFits s (lane.val / 8) f = false → Signals EV_FRM_RX_OVERRUN t ∧ t.cad = s.cad ∧
          t.dec.inQ = s.dec.inQ ++ (if f.streamCount = 0 then [] else [.voids f.firstStream f.streamCount f.index 1 true]))) ∧
    (octetRole s (lane.val / 8) = roINGRESS → LaneHands lane.val f c s → f.kind = kMARK ∨ f.kind = kCTRL →
      ∃ t, exec (.ingressFrameRx lane f c) s = .next t ∧ t.wm.transit = s.wm.transit ++ f.waymarks.map (fun w => (uDEC, w)) ∧ SameBut [.regs, .frm, .wm, .hlt, .out] s t) ∧
    (octetRole s (lane.val / 8) = roGRATICULE → LaneHands lane.val f c s → frameDest s f = none →
      ∃ t, exec (.graticuleFrameRx lane f c) s = .next t ∧ Signals EV_GRT_MISROUTE t ∧
        t.reg GRT_CNT_MISROUTE = min (s.reg GRT_CNT_MISROUTE + 1) 0xFFFFFFFF ∧ RegsButEv [6] [GRT_CNT_MISROUTE, FRM_CNT_RX_FRAMES lane.val] s t) ∧
    (∀ fl : FlowSt, s.flow (flowKey (16 + (laneFar s lane.val).getD f.srcChip) (ownChip s) (frameClass f) f.srcChip) = fl →
      octetRole s (lane.val / 8) = roGRATICULE → LaneHands lane.val f c s → frameDest s f = some (ownChip s) → f.kind = kSPEC →
      fl.held = [] → fl.seen = false ∨ f.seq = fl.seq → rxFits s (lane.val / 8) f = true →
      ∃ t, exec (.graticuleFrameRx lane f c) s = .next t ∧
        t.stg.inQ = s.stg.inQ ++ [{ octet := some (lane.val / 8), link := (laneFar s lane.val).getD f.srcChip, f := f }]) ∧
    (octetRole s (lane.val / 8) = roTWIN → LaneHands lane.val f c s →
      ∃ t, exec (.twinFrameRx lane f c false) s = .next t ∧ Signals EV_FRM_RX_OVERRUN t ∧
        t.reg (FRM_CNT_OVERRUN lane.val) = min (s.reg (FRM_CNT_OVERRUN lane.val) + 1) 0xFFFFFFFF ∧ SameBut [.regs, .frm, .hlt, .out] s t) ∧
    (octetRole s (lane.val / 8) = roTWIN → LaneHands lane.val f c s → f.kind = kTWIN → s.rf HLT_BASIC_TWIN_EN = 1 → f.body = [] → f.waymarks = [] →
      ∃ t, exec (.twinFrameRx lane f c true) s = .next t ∧
        (t.flow (flowKey (lane.val / 8) 0 0 f.srcChip)).seq = (f.seq + 1) % 65536 ∧ SameBut [.regs, .frm, .hlt, .out] s t) ∧
    (∀ (path : Fin 80) (dest : Fin 64) (b : Bool) (chip : Fin 64), path.val < 16 → ∃ t, exec (.reorderTimeout path dest b chip) s = .next t ∧
      (t.flow (flowKey path.val 0 (b2n b) chip.val)).held = [] ∧
      ((s.flow (flowKey path.val 0 (b2n b) chip.val)).held = [] → t = s)) ∧
    (∀ (path : Fin 80) (dest : Fin 64) (b : Bool) (chip : Fin 64), 16 ≤ path.val → ∃ t, exec (.reorderTimeout path dest b chip) s = .next t ∧
      (t.flow (flowKey path.val dest.val (b2n b) chip.val)).held = [] ∧
      ((s.flow (flowKey path.val dest.val (b2n b) chip.val)).held = [] → t = s))

/-! ### Decimators (chapter 4) -/

/-- Settings of the decimators (R89, R90, R97, R99). UNIT_BASIC with a decimation outside 1 to 64 or an order outside 3 to 5 is refused; another loads every
slot's shadow with it and with the derived scale. A slot's configuration is checked the same way; one that is accepted stands in the shadow, and EN set
or cleared enables the slot from its next permitted index or lets it finish its frame. DEC_SYNC_CTRL.GO leaves a reset pending on the slot, or on every
running enabled slot, late or not. -/
def Obligations.DecimatorSettings : Prop :=
  ∀ (m : Master) (v : Word) (env : Env) (s : State),
    (Granted m (UNIT_BASIC 3) s → (bits v.toNat 0 7 < 1 ∨ 64 < bits v.toNat 0 7 ∨ bits v.toNat 8 3 < 3 ∨ 5 < bits v.toNat 8 3) →
      ∃ t, exec (.decBasicWrite m v env) s = .next t ∧ Refused EV_DEC_CFG_REFUSED m (UNIT_BASIC 3) s t) ∧
    (Granted m (UNIT_BASIC 3) s → 1 ≤ bits v.toNat 0 7 → bits v.toNat 0 7 ≤ 64 → 3 ≤ bits v.toNat 8 3 → bits v.toNat 8 3 ≤ 5 →
      ∃ t, exec (.decBasicWrite m v env) s = .next t ∧ Answered m (UNIT_BASIC 3) t ∧
        (∀ j : Fin 256, t.rf (DEC_STREAM_CFG_DECIM j.val) = bits v.toNat 0 7 ∧ t.rf (DEC_STREAM_CFG_ORDER j.val) = bits v.toNat 8 3 ∧
          t.rf (DEC_STREAM_CFG_M2 j.val) = bits v.toNat 11 1 ∧ t.rf (DEC_STREAM_CFG_OUT_CI16 j.val) = bits v.toNat 12 1 ∧
          t.rf (DEC_STREAM_CFG_EN j.val) = s.rf (DEC_STREAM_CFG_EN j.val) ∧
          (t.rf (DEC_OUT_SCALE_SHIFT j.val), t.rf (DEC_OUT_SCALE_GAIN j.val)) =
            decScale (bits v.toNat 0 7) (bits v.toNat 8 3) (bits v.toNat 11 1 + 1) (bit v.toNat 12)) ∧
        RegsBut ((UNIT_BASIC 3) :: (List.range 256).flatMap (fun j => [DEC_STREAM_CFG j, DEC_OUT_SCALE j])) s t ∧ SameBut [.regs, .cmx, .tru, .out] s t) ∧
    (∀ j : Fin 256, Granted m (DEC_STREAM_CFG j.val) s →
      (bits v.toNat 0 7 < 1 ∨ 64 < bits v.toNat 0 7 ∨ bits v.toNat 8 3 < 3 ∨ 5 < bits v.toNat 8 3 →
        ∃ t, exec (.decShadowWrite m j 0 v env) s = .next t ∧ Refused EV_DEC_CFG_REFUSED m (DEC_STREAM_CFG j.val) s t) ∧
      (1 ≤ bits v.toNat 0 7 → bits v.toNat 0 7 ≤ 64 → 3 ≤ bits v.toNat 8 3 → bits v.toNat 8 3 ≤ 5 →
        (enabledSlots s = [] ∨ enabledSlots s = [j.val]) → s.reg MER_FS ≤ 204800000 →
        ∃ t, exec (.decShadowWrite m j 0 v env) s = .next t ∧ Answered m (DEC_STREAM_CFG j.val) t ∧ t.rf (DEC_STREAM_CFG_DECIM j.val) = bits v.toNat 0 7 ∧
          t.rf (DEC_STREAM_CFG_EN j.val) = b2n (bit v.toNat 31) ∧
          (bit v.toNat 31 = true → s.rf (DEC_STREAM_CFG_EN j.val) = 0 → (t.slot j.val).pendEnable = true ∧ (t.slot j.val).pendDisable = false) ∧
          (bit v.toNat 31 = false → s.rf (DEC_STREAM_CFG_EN j.val) = 1 → (s.slot j.val).on = true → (s.slot j.val).outBuf ≠ [] →
            (t.slot j.val).pendDisable = true) ∧
          (bit v.toNat 31 = false → s.rf (DEC_STREAM_CFG_EN j.val) = 1 → (s.slot j.val).on = true → (s.slot j.val).outBuf = [] →
            (t.slot j.val).on = false ∧ t.reg (DEC_STREAM_STATUS j.val) = 0) ∧
          (b2n (bit v.toNat 31) = s.rf (DEC_STREAM_CFG_EN j.val) → SameBut [.regs, .cmx, .tru, .out] s t) ∧
          RegsBut [DEC_STREAM_CFG j.val, DEC_STREAM_STATUS j.val] s t)) ∧
    (Granted m DEC_SYNC_CTRL s → bit v.toNat 1 = false →
      ∃ t, exec (.decSyncGo m v env) s = .next t ∧ Answered m DEC_SYNC_CTRL t ∧
        (t.slot (bits v.toNat 8 8)).pendReset = some (s.reg64 DEC_SYNC_ANCHOR_LO DEC_SYNC_ANCHOR_HI) ∧
        (∀ k, k ≠ bits v.toNat 8 8 → t.slot k = s.slot k) ∧
        (s.reg64 DEC_SYNC_ANCHOR_LO DEC_SYNC_ANCHOR_HI ≠ nowAnchor →
          resetIndex s (bits v.toNat 8 8) (s.reg64 DEC_SYNC_ANCHOR_LO DEC_SYNC_ANCHOR_HI) < (s.slot (bits v.toNat 8 8)).pos.getD 0 →
          Signals EV_DEC_SYNC_LATE t) ∧ RegsButEv [3] [] s t) ∧
    (Granted m DEC_SYNC_CTRL s → bit v.toNat 1 = true →
      ∃ t, exec (.decSyncGo m v env) s = .next t ∧ Answered m DEC_SYNC_CTRL t ∧
        (∀ j ∈ enabledSlots s, (s.slot j).on = true → (t.slot j).pendReset = some (s.reg64 DEC_SYNC_ANCHOR_LO DEC_SYNC_ANCHOR_HI)) ∧
        (∀ j, (s.slot j).on = false → t.slot j = s.slot j) ∧ RegsButEv [3] [] s t)

/-- What the decimators do (R91, R94, R95, R97, R98, R100). A pending reset makes its slot take the shadow from the reset's index, clears its registers and
opens the settle span; a pending disable empties the slot. An input leaves the queue; a frame's waymarks go on and its bytes leave the receive buffer.
A slot that runs at D = 1 with no mixer emits, for a valid frame of its stream, a frame whose samples are those of the output stage of R95 or R96, and its
position moves on by 256. -/
def Obligations.DecimatorWork : Prop :=
  ∀ (s : State),
    (∀ (j : Fin 256) (a : Nat), (s.slot j.val).pendReset = some a →
      ∃ t, exec (.syncReset j) s = .next t ∧ (t.slot j.val).on = true ∧ (t.slot j.val).use = decShadow s j.val ∧
        (t.slot j.val).pos = some (pendingIndex s j.val a) ∧ (t.slot j.val).pendReset = none ∧ (t.slot j.val).outBuf = [] ∧
        (∀ x ∈ (t.slot j.val).integ, x = (0, 0)) ∧
        (t.slot j.val).settle = (if (decShadow s j.val).d = 1 then 0 else ceilTo ((decShadow s j.val).n * (decShadow s j.val).m) 256) ∧
        t.rf (DEC_STREAM_STATUS_SETTLED j.val) = 0 ∧ t.reg (DEC_GDELAY j.val) = gdelay2 (decShadow s j.val) % 2 ^ 32 ∧
        RegsBut [DEC_STREAM_STATUS j.val, DEC_GDELAY j.val] s t ∧ (∀ k, k ≠ j.val → t.slot k = s.slot k)) ∧
    (∀ j : Fin 256, (s.slot j.val).pendReset = none → (s.slot j.val).pendEnable = true →
      ∃ t, exec (.syncReset j) s = .next t ∧ (t.slot j.val).on = true ∧ (t.slot j.val).use = decShadow s j.val ∧ (t.slot j.val).pendEnable = false ∧
        (t.slot j.val).pos = some (resetIndex s j.val ((s.slot j.val).pos.getD 0))) ∧
    (∀ j : Fin 256, (s.slot j.val).pendReset = none → (s.slot j.val).pendEnable = false → exec (.syncReset j) s = .next s) ∧
    (∀ j : Fin 256, (s.slot j.val).pendDisable = true →
      ∃ t, exec (.slotDisable j) s = .next t ∧ t.slot j.val = { DecSlot.blank with halts := (s.slot j.val).halts, flushBelow := (s.slot j.val).flushBelow } ∧
        t.reg (DEC_STREAM_STATUS j.val) = 0 ∧ RegsBut [DEC_STREAM_STATUS j.val] s t ∧ (∀ k, k ≠ j.val → t.slot k = s.slot k)) ∧
    (∀ j : Fin 256, (s.slot j.val).pendDisable = false → exec (.slotDisable j) s = .next s) ∧
    (s.dec.inQ = [] → exec .decInputFrame s = .next s) ∧
    (∀ (k : Nat) (f : Frame) (rest : List DecIn), s.dec.inQ = .frame k f :: rest → markBlocked s uDEC = false → heldBy s uDEC = [] → f.streamCount = 0 →
      ∃ t, exec .decInputFrame s = .next t ∧ t.dec.inQ = rest ∧ t.wm.transit = s.wm.transit ++ f.waymarks.map (fun w => (uDEC, w)) ∧
        rxBytesOf t k = rxBytesOf s k - frameBytes f) ∧
    (∀ (first count index n : Nat) (b : Bool) (rest : List DecIn), s.dec.inQ = .voids first count index n b :: rest → count = 0 → markBlocked s uDEC = false →
      heldBy s uDEC = [] → ∃ t, exec .decInputFrame s = .next t ∧ t.dec.inQ = rest ∧ RegsBut [] s t) ∧
    (∀ (k : Nat) (f : Frame) (rest : List DecIn), s.dec.inQ = .frame k f :: rest → ∀ j, slotOfStream s f.firstStream = some j → ∀ x, s.slot j = x →
      markBlocked s uDEC = false → heldBy s uDEC = [] → f.streamCount = 1 → f.voidAt 0 = false → f.format = fCI16 → x.on = true →
      x.pos = some f.index → x.pendReset = none → x.pendEnable = false → x.pendDisable = false → x.halts = [] → x.voidRuns = [] →
      x.flushBelow ≤ f.index → x.lastVoid = none → x.use.d = 1 → x.use.ncoEn = false → x.outBuf = [] → x.outVoid = false → x.settle = 0 →
      x.use.toChn = true → x.use.toTrp = false → s.mer.epochSeen = true → s.rf CHN_STATE_STATE ≠ 0 →
      ∃ t, exec .decInputFrame s = .next t ∧ (t.slot j).pos = some (f.index + 256) ∧ (t.slot j).outBuf = [] ∧ (t.slot j).outIdx = x.outIdx + 256 ∧
        t.chn.inQ.length = s.chn.inQ.length + 1 ∧ t.rf (DEC_STREAM_STATUS_SETTLED j) = 1 ∧
        (∀ y ∈ t.chn.inQ.getLast?, y.slot = j ∧ y.d = 1 ∧ y.fresh = x.fresh ∧ y.f.index = x.outIdx ∧ y.f.firstStream = s.reg (DEC_STREAM_ID j) ∧
          y.f.samples = packElems (if x.use.ci16 then fCI16 else fC8) ((List.range 256).map (fun n =>
            ((decOut x.use (elemOf fCI16 f.samples n).1).1, (decOut x.use (elemOf fCI16 f.samples n).2).1)))))

/-! ### Channeliser (chapter 5) -/

/-- Settings of the channeliser (R106, R112, R113, R116, R117). UNIT_BASIC and CHN_CFG are refused outside STOPPED or outside their ranges; UNIT_BASIC copies
its fields into CHN_CFG, returns every gain to 4,096 and, with BUILTIN, loads the built-in window, complete; either leaves no coefficient counted without
it. A coefficient or a gain is stored at its address, which moves on; a coefficient outside STOPPED, and a gain of a bank in use, is refused. -/
def Obligations.ChanneliserSettings : Prop :=
  ∀ (m : Master) (v : Word) (env : Env) (s : State),
    (Granted m (UNIT_BASIC 4) s →
      (s.rf CHN_STATE_STATE ≠ stSTOPPED ∨ bits v.toNat 0 5 < 8 ∨ 16 < bits v.toNat 0 5 ∨ bits v.toNat 8 5 < 4 ∨ 16 < bits v.toNat 8 5 →
        ∃ t, exec (.chnBasicWrite m v env) s = .next t ∧ Refused EV_CHN_CFG_REFUSED m (UNIT_BASIC 4) s t) ∧
      (s.rf CHN_STATE_STATE = stSTOPPED → 8 ≤ bits v.toNat 0 5 → bits v.toNat 0 5 ≤ 16 → 4 ≤ bits v.toNat 8 5 → bits v.toNat 8 5 ≤ 16 →
        ∃ t, exec (.chnBasicWrite m v env) s = .next t ∧ Answered m (UNIT_BASIC 4) t ∧ t.rf CHN_CFG_FFT_LOG2 = bits v.toNat 0 5 ∧
          t.rf CHN_CFG_TAPS = bits v.toNat 8 5 ∧ t.rf CHN_CFG_OS43 = bits v.toNat 13 1 ∧ t.rf CHN_CFG_OUT_CH16 = bits v.toNat 14 1 ∧
          t.rf CHN_CFG_OUT_SHIFT = bits v.toNat 16 5 ∧ (∀ a, sget 4096 t.chn.gains a = 4096) ∧
          (bit v.toNat 24 = true → chnCoefCount t = chnP t * chnT t ∧
            ∀ n, n < chnP t * chnT t → chnCoef t n = (Config.chnWindow (chnP t) (chnT t) n).toNat) ∧
          (bit v.toNat 24 = false → chnCoefCount t = 0 ∧ t.chn.coef = s.chn.coef) ∧
          RegsBut [UNIT_BASIC 4, CHN_CFG] s t ∧ SameBut [.regs, .chn, .cmx, .tru, .out] s t)) ∧
    (Granted m CHN_CFG s →
      (s.rf CHN_STATE_STATE ≠ stSTOPPED ∨ bits v.toNat 0 5 < 8 ∨ 16 < bits v.toNat 0 5 ∨ bits v.toNat 8 5 < 4 ∨ 16 < bits v.toNat 8 5 →
        ∃ t, exec (.chnCfgWrite m v env) s = .next t ∧ Refused EV_CHN_CFG_REFUSED m CHN_CFG s t) ∧
      (s.rf CHN_STATE_STATE = stSTOPPED → 8 ≤ bits v.toNat 0 5 → bits v.toNat 0 5 ≤ 16 → 4 ≤ bits v.toNat 8 5 → bits v.toNat 8 5 ≤ 16 →
        ∃ t, exec (.chnCfgWrite m v env) s = .next t ∧ Answered m CHN_CFG t ∧ t.rf CHN_CFG_FFT_LOG2 = bits v.toNat 0 5 ∧
          t.rf CHN_CFG_TAPS = bits v.toNat 8 5 ∧ chnCoefCount t = 0 ∧ t.chn.gains = s.chn.gains ∧ RegsBut [CHN_CFG] s t ∧
          SameBut [.regs, .chn, .cmx, .tru, .out] s t)) ∧
    (Granted m CHN_COEF_DATA s →
      (s.rf CHN_STATE_STATE ≠ stSTOPPED → ∃ t, exec (.chnCoefDataWrite m v env) s = .next t ∧ Refused EV_CHN_CFG_REFUSED m CHN_COEF_DATA s t) ∧
      (s.rf CHN_STATE_STATE = stSTOPPED →
        ∃ t, exec (.chnCoefDataWrite m v env) s = .next t ∧ Answered m CHN_COEF_DATA t ∧ chnCoef t (s.reg CHN_COEF_ADDR) = bits v.toNat 0 18 ∧
          (∀ n, n ≠ s.reg CHN_COEF_ADDR → chnCoef t n = chnCoef s n) ∧ t.reg CHN_COEF_ADDR = (s.reg CHN_COEF_ADDR + 1) % 2 ^ 20 ∧
          sget false t.chn.coefSet (s.reg CHN_COEF_ADDR) = true ∧ RegsBut [CHN_COEF_ADDR] s t ∧ SameBut [.regs, .chn, .cmx, .out] s t)) ∧
    (Granted m CHN_GAIN_DATA s →
      (s.rf CHN_STATE_STATE ≠ stSTOPPED → chnBankInUse s (s.reg CHN_GAIN_ADDR / 2 ^ 20) = true →
        ∃ t, exec (.chnGainDataWrite m v env) s = .next t ∧ Refused EV_CHN_CFG_REFUSED m CHN_GAIN_DATA s t) ∧
      (s.rf CHN_STATE_STATE = stSTOPPED ∨ chnBankInUse s (s.reg CHN_GAIN_ADDR / 2 ^ 20) = false →
        ∃ t, exec (.chnGainDataWrite m v env) s = .next t ∧ Answered m CHN_GAIN_DATA t ∧ sget 4096 t.chn.gains (s.reg CHN_GAIN_ADDR) = bits v.toNat 0 16 ∧
          (∀ a, a ≠ s.reg CHN_GAIN_ADDR → sget 4096 t.chn.gains a = sget 4096 s.chn.gains a) ∧
          t.reg CHN_GAIN_ADDR = (s.reg CHN_GAIN_ADDR + 1) % 2 ^ 21 ∧ RegsBut [CHN_GAIN_ADDR] s t ∧ SameBut [.regs, .chn, .cmx, .out] s t))

/-- Running the channeliser (R107, R111, R114, R118, R119). START is refused in STARTING or STOPPING, for an incomplete window, for a channel range beyond P,
and for a capacity exceeded; else it enters STARTING with its anchor. The first stream begins at a spectrum boundary and the unit is RUNNING. A stream
whose window is complete forms one spectrum, void while its history is not full, and goes on to the next. STOP cancels a start, or is pending until its
boundary, where the unit with no spectra left is STOPPED and empty. -/
def Obligations.ChanneliserRuns : Prop :=
  ∀ (s : State),
    (∀ (m : Master) (v : Word) (env : Env), Granted m CHN_CTRL s → bit v.toNat 1 = false →
      (s.rf CHN_STATE_STATE = stSTARTING ∨ s.rf CHN_STATE_STATE = stSTOPPING →
        ∃ t, exec (.chnStart m v env) s = .next t ∧ Refused EV_CHN_CFG_REFUSED m CHN_CTRL s t) ∧
      (s.rf CHN_STATE_STATE = stSTOPPED → chnCoefCount s ≠ chnP s * chnT s →
        ∃ t, exec (.chnStart m v env) s = .next t ∧ Refused EV_CHN_COEF_INCOMPLETE m CHN_CTRL s t) ∧
      (s.rf CHN_STATE_STATE = stSTOPPED → chnCoefCount s = chnP s * chnT s → chnRangeOk s = true → 256 * chnQ s ≤ 1048576 →
        chnBreach s (chnServed s) ≠ none →
        ∃ t, exec (.chnStart m v env) s = .next t ∧ Refused EV_CHN_CAPACITY m CHN_CTRL s t) ∧
      (s.rf CHN_STATE_STATE = stSTOPPED → chnCoefCount s = chnP s * chnT s → chnRangeOk s = true → 256 * chnQ s ≤ 1048576 →
        chnBreach s (chnServed s) = none →
        ∃ t, exec (.chnStart m v env) s = .next t ∧ Answered m CHN_CTRL t ∧ t.rf CHN_STATE_STATE = stSTARTING ∧ t.chn.slots = [] ∧ t.chn.inQ = [] ∧
          t.chn.startAt = some (if bit v.toNat 2 then chnPos s else s.reg64 CHN_ANCHOR_LO CHN_ANCHOR_HI) ∧ RegsBut [CHN_STATE] s t ∧
          SameBut [.regs, .chn, .cmx, .out] s t)) ∧
    (∀ (m : Master) (v : Word) (env : Env), Granted m CHN_CTRL s → bit v.toNat 0 = false →
      (s.rf CHN_STATE_STATE = stSTARTING →
        ∃ t, exec (.chnStop m v env) s = .next t ∧ Answered m CHN_CTRL t ∧ t.rf CHN_STATE_STATE = stSTOPPED ∧ t.chn.startAt = none ∧ t.chn.inQ = []) ∧
      (s.rf CHN_STATE_STATE = stRUNNING →
        ∃ t, exec (.chnStop m v env) s = .next t ∧ Answered m CHN_CTRL t ∧ t.rf CHN_STATE_STATE = stRUNNING ∧ t.rf CHN_STATE_STOP_PENDING = 1 ∧
          t.chn.stopAt = some (if bit v.toNat 2 then chnPos s else s.reg64 CHN_ANCHOR_LO CHN_ANCHOR_HI) ∧ RegsBut [CHN_STATE] s t ∧
          SameBut [.regs, .chn, .cmx, .out] s t)) ∧
    (∀ (j : Fin 256) (a : Nat), s.chn.startAt = some a → s.rf CHN_STATE_STATE = stSTARTING → (chnServed s).contains j.val = true →
      (s.cslot j.val).begun = false → 1 ≤ chnHop s * s.rf (DEC_STREAM_CFG_DECIM j.val) →
      ∃ t, exec (.chnStreamBegin j) s = .next t ∧ t.rf CHN_STATE_STATE = stRUNNING ∧ (t.cslot j.val).begun = true ∧ t.rf (CHN_SLOT_STATUS_ACTIVE j.val) = 1 ∧
        a ≤ (t.cslot j.val).start ∧ (t.cslot j.val).start % (chnHop s * s.rf (DEC_STREAM_CFG_DECIM j.val)) = 0 ∧
        RegsBut [CHN_STATE, CHN_SLOT_STATUS j.val] s t) ∧
    (∀ j : Fin 256, (s.cslot j.val).begun = true → exec (.chnStreamBegin j) s = .next s) ∧
    (∀ j : Fin 256, chnComplete s j.val = true → s.rf CHN_STATE_STATE = stRUNNING → heldBy s uCHN = [] → s.rf CHN_STAT_CFG_EN = 0 →
      ∃ t, exec (.chnSpectrum j) s = .next t ∧ (t.cslot j.val).next = (s.cslot j.val).next + 1 ∧ t.grt.inQ.length = s.grt.inQ.length + 1 ∧
        (∀ o ∈ t.grt.inQ.getLast?, o.slot = j.val ∧ o.s = (s.cslot j.val).next ∧ o.stream = s.reg (DEC_STREAM_ID j.val) ∧
          o.start = (s.cslot j.val).next * chnHop s * (s.cslot j.val).d ∧
          ((s.cslot j.val).next * chnHop s * (s.cslot j.val).d < (s.cslot j.val).start + (chnT s - 1) * chnP s * (s.cslot j.val).d →
            o.void = true ∧ o.vals = [] ∧ t.reg (CHN_CNT_VOID j.val) = min (s.reg (CHN_CNT_VOID j.val) + 1) 0xFFFFFFFF) ∧
          (o.void = false → o.vals.length = chnCount s))) ∧
    (∀ j : Fin 256, chnComplete s j.val = false → markBlocked s uCHN = true → exec (.chnSpectrum j) s = .next s) ∧
    (s.chn.stopAt = none → exec .chnStopCommit s = .next s) ∧
    (s.rf CHN_STATE_STATE = stRUNNING → s.chn.stopAt ≠ none → s.chn.slots = [] →
      ∃ t, exec .chnStopCommit s = .next t ∧ t.rf CHN_STATE_STATE = stSTOPPED ∧ t.rf CHN_STATE_STOP_PENDING = 0 ∧ t.chn.inQ = [] ∧ t.chn.stopAt = none ∧
        RegsBut [CHN_STATE] s t)

/-! ### Resynthesiser (chapters 5 and 12) -/

/-- Settings of the resynthesiser (R106, R122, R126, R130, R298). UNIT_BASIC takes TAPS and the output format into RSY_CFG, loading the built-in window with
BUILTIN; outside STOPPED or outside the limits of R122 it is refused. A coefficient is stored at its address, which moves on. A slice is disabled at any
time; it is enabled for a beam of a voltage plan within the capacity, and refused for a wrong plan or, with RSY_CAPACITY, beyond it. -/
def Obligations.ResynthesiserSettings : Prop :=
  ∀ (m : Master) (v : Word) (env : Env) (s : State),
    (Granted m (UNIT_BASIC 5) s →
      (rsyStopped s = false ∨ rsyCfgOk s (setBits (s.reg RSY_CFG) 8 7 (bits v.toNat 8 7)) = false →
        ∃ t, exec (.rsyBasicWrite m v env) s = .next t ∧ Refused EV_RSY_CFG_REFUSED m (UNIT_BASIC 5) s t) ∧
      (rsyStopped s = true → rsyCfgOk s (setBits (s.reg RSY_CFG) 8 7 (bits v.toNat 8 7)) = true →
        ∃ t, exec (.rsyBasicWrite m v env) s = .next t ∧ Answered m (UNIT_BASIC 5) t ∧ t.rf RSY_CFG_TAPS = bits v.toNat 8 5 ∧
          t.rf RSY_CFG_OUT_FMT = bits v.toNat 13 2 ∧ t.rf RSY_CFG_PR_LOG2 = s.rf RSY_CFG_PR_LOG2 ∧ t.rf RSY_CFG_IN_EXP = s.rf RSY_CFG_IN_EXP ∧
          rsyCoefCount t = (if bit v.toNat 24 then rsyPr t * rsyT t else 0) ∧
          (bit v.toNat 24 = true → ∀ n, n < rsyPr t * rsyT t → sget 0 t.rsy.coef n = (Config.rsyWindow (rsyPr t) (rsyT t) n).toNat) ∧
          RegsBut [UNIT_BASIC 5, RSY_CFG] s t ∧ SameBut [.regs, .rsy, .cmx, .tru, .out] s t)) ∧
    (Granted m RSY_COEF_DATA s →
      (rsyStopped s = false → ∃ t, exec (.rsyCoefDataWrite m v env) s = .next t ∧ Refused EV_RSY_CFG_REFUSED m RSY_COEF_DATA s t) ∧
      (rsyStopped s = true →
        ∃ t, exec (.rsyCoefDataWrite m v env) s = .next t ∧ Answered m RSY_COEF_DATA t ∧ sget 0 t.rsy.coef (s.reg RSY_COEF_ADDR) = bits v.toNat 0 18 ∧
          (∀ n, n ≠ s.reg RSY_COEF_ADDR → sget 0 t.rsy.coef n = sget 0 s.rsy.coef n) ∧ t.reg RSY_COEF_ADDR = (s.reg RSY_COEF_ADDR + 1) % 2 ^ 14 ∧
          RegsBut [RSY_COEF_ADDR] s t ∧ SameBut [.regs, .rsy, .cmx, .out] s t)) ∧
    (∀ n : Fin 1024, Granted m (RSY_SLICE_BEAM n.val) s →
      (bit v.toNat 31 = false → (rsyStopped s = true ∨ s.rf (RSY_SLICE_BEAM_EN n.val) = 0 ∨ bits v.toNat 0 16 = sliceBeam s n.val) →
        ∃ t, exec (.rsySliceWrite m n 0 v env) s = .next t ∧ Answered m (RSY_SLICE_BEAM n.val) t ∧ t.rf (RSY_SLICE_BEAM_EN n.val) = 0 ∧
          t.rf (RSY_SLICE_BEAM_BEAM n.val) = bits v.toNat 0 16 ∧ RegsBut [RSY_SLICE_BEAM n.val] s t) ∧
      (bit v.toNat 31 = true → s.rf (RSY_SLICE_BEAM_EN n.val) = 0 → rsyBreach s ((enSlices s).length + 1) ≠ none →
        ∃ t, exec (.rsySliceWrite m n 0 v env) s = .next t ∧ Refused EV_RSY_CAPACITY m (RSY_SLICE_BEAM n.val) s t) ∧
      (bit v.toNat 31 = true → s.rf (RSY_SLICE_BEAM_EN n.val) = 0 → rsyBreach s ((enSlices s).length + 1) = none →
        sliceOk s (bits v.toNat 0 16) (sliceFirst s n.val) = false →
        ∃ t, exec (.rsySliceWrite m n 0 v env) s = .next t ∧ Refused EV_RSY_CFG_REFUSED m (RSY_SLICE_BEAM n.val) s t) ∧
      (bit v.toNat 31 = true → s.rf (RSY_SLICE_BEAM_EN n.val) = 0 → rsyBreach s ((enSlices s).length + 1) = none →
        sliceOk s (bits v.toNat 0 16) (sliceFirst s n.val) = true →
        ∃ t, exec (.rsySliceWrite m n 0 v env) s = .next t ∧ Answered m (RSY_SLICE_BEAM n.val) t ∧ t.rf (RSY_SLICE_BEAM_EN n.val) = 1 ∧
          sliceBeam t n.val = bits v.toNat 0 16 ∧ RegsBut [RSY_SLICE_BEAM n.val] s t)) ∧
    (∀ n : Fin 1024, Granted m (RSY_SLICE_CHAN n.val) s → s.rf (RSY_SLICE_BEAM_EN n.val) = 0 →
      ∃ t, exec (.rsySliceWrite m n 1 v env) s = .next t ∧ Answered m (RSY_SLICE_CHAN n.val) t ∧ sliceFirst t n.val = bits v.toNat 0 16 ∧
        RegsBut [RSY_SLICE_CHAN n.val] s t)

/-- Running the resynthesiser (R118, R119, R123, R126, R299, R300). START is refused in STARTING or STOPPING, with an incomplete window and beyond the capacity;
else it enters STARTING without history. STOP cancels a start or is pending until its commit, where a unit past the stop is STOPPED. A half whose steps
are decided is read from its first spectrum; a step moves on by one spectrum and the last one frees the half. -/
def Obligations.ResynthesiserRuns : Prop :=
  ∀ (s : State),
    (∀ (m : Master) (v : Word) (env : Env), Granted m RSY_CTRL s → bit v.toNat 1 = false →
      (rsyState s = stSTARTING ∨ rsyState s = stSTOPPING →
        ∃ t, exec (.rsyStart m v env) s = .next t ∧ Refused EV_RSY_CFG_REFUSED m RSY_CTRL s t) ∧
      (rsyState s = stSTOPPED → rsyCoefCount s ≠ rsyPr s * rsyT s →
        ∃ t, exec (.rsyStart m v env) s = .next t ∧ Refused EV_RSY_COEF_INCOMPLETE m RSY_CTRL s t) ∧
      (rsyState s = stSTOPPED → rsyCoefCount s = rsyPr s * rsyT s → rsyBreach s (enSlices s).length ≠ none →
        ∃ t, exec (.rsyStart m v env) s = .next t ∧ Refused EV_RSY_CAPACITY m RSY_CTRL s t) ∧
      (rsyState s = stSTOPPED → rsyCoefCount s = rsyPr s * rsyT s → rsyBreach s (enSlices s).length = none →
        ∃ t, exec (.rsyStart m v env) s = .next t ∧ Answered m RSY_CTRL t ∧ rsyState t = stSTARTING ∧ t.rsy.slices = [] ∧
          t.rsy.startAt = some (rsyAnchor (bit v.toNat 2) s) ∧ RegsBut [RSY_STATE] s t ∧ SameBut [.regs, .rsy, .cmx, .out] s t)) ∧
    (∀ (m : Master) (v : Word) (env : Env), Granted m RSY_CTRL s → bit v.toNat 0 = false →
      (rsyState s = stSTARTING →
        ∃ t, exec (.rsyStop m v env) s = .next t ∧ Answered m RSY_CTRL t ∧ rsyState t = stSTOPPED ∧ t.rsy.startAt = none) ∧
      (rsyState s = stRUNNING →
        ∃ t, exec (.rsyStop m v env) s = .next t ∧ Answered m RSY_CTRL t ∧ rsyState t = stRUNNING ∧
          t.rsy.stopAt = some (rsyAnchor (bit v.toNat 2) s) ∧ RegsBut [RSY_STATE] s t)) ∧
    (s.rsy.stopAt = none → exec .rsyStopCommit s = .next s) ∧
    (∀ a, s.rsy.stopAt = some a → rsyState s = stRUNNING →
      ∃ t, exec .rsyStopCommit s = .next t ∧ RegsBut [RSY_STATE] s t ∧ SameBut [.regs, .rsy] s t ∧
        (rsyPos s < a → rsyState t = stSTOPPING ∧ t.rsy = s.rsy) ∧
        (a ≤ rsyPos s → rsyState t = stSTOPPED ∧ t.rsy.stopAt = none ∧ t.rsy.slices = [])) ∧
    (∀ p : Fin 16, (∃ r ∈ s.rsy.reading, r.1 = p.val) → exec (.rsyHalfRead p) s = .next s) ∧
    (∀ (p : Fin 16) (n : Nat), n < 2 ^ 40 → (∀ r ∈ s.rsy.reading, r.1 ≠ p.val) → s.acc.halves = [p.val * 2 ^ 40 + n] →
      (halfReady s p.val n = true →
        ∃ t, exec (.rsyHalfRead p) s = .next t ∧ t.rsy.reading = s.rsy.reading ++ [(p.val, n, 0)] ∧ t.rsy.slices = s.rsy.slices ∧ SameBut [.rsy] s t) ∧
      (halfReady s p.val n = false → exec (.rsyHalfRead p) s = .next s)) ∧
    (∀ p : Fin 16, (∀ r ∈ s.rsy.reading, r.1 ≠ p.val) → exec (.rsySynthStep p) s = .next s) ∧
    (∀ (p : Fin 16) (n k : Nat), s.rsy.reading = [(p.val, n, k)] → rsyTakes s (n * stgB s + k) = false → rsyState s ≠ stSTOPPING →
      (k + 1 < stgB s → ∃ t, exec (.rsySynthStep p) s = .next t ∧ t.rsy = { s.rsy with reading := [(p.val, n, k + 1)] } ∧ SameBut [.rsy] s t) ∧
      (stgB s ≤ k + 1 → ∃ t, exec (.rsySynthStep p) s = .next t ∧ t.rsy.reading = [] ∧ p.val * 2 ^ 40 + n ∉ t.acc.halves ∧ RegsBut [] s t)) ∧
    (∀ (p : Fin 16) (n k : Nat), s.rsy.reading = [(p.val, n, k)] → rsyTakes s (n * stgB s + k) = true → rsyState s = stSTARTING → k + 1 < stgB s →
      ∃ t, exec (.rsySynthStep p) s = .next t ∧ rsyState t = stRUNNING ∧ t.rsy.startAt = none ∧ t.rsy.reading = [(p.val, n, k + 1)])

/-! ### Graticule (chapter 6) -/

/-- The graticule (R131, R133, R134, R135, R137). UNIT_BASIC with a reserved preset or counts out of range is refused; a preset fills the shadow tables and
applies them now. GRT_CHIP is refused while a graticule lane is up. APPLY is refused for a shadow that overlaps or leaves an owner without a way, and
leaves any other pending from its anchor; it is in force from its commit. The spectra of the oldest index leave the queue: channels that the table gives
to this part go to staging in SPEC frames, and channels without an entry are counted. -/
def Obligations.Graticule : Prop :=
  ∀ (s : State),
    (∀ (m : Master) (v : Word) (env : Env), Granted m (UNIT_BASIC 6) s →
      (bits v.toNat 0 2 = 3 ∨ bits v.toNat 8 7 < 1 ∨ 64 < bits v.toNat 8 7 ∨ (bits v.toNat 0 2 ≠ 0 ∧ 65536 < bits v.toNat 16 16 * bits v.toNat 8 7) →
        ∃ t, exec (.grtBasicWrite m v env) s = .next t ∧ Refused EV_GRT_CFG_REFUSED m (UNIT_BASIC 6) s t) ∧
      (bits v.toNat 0 2 = 2 → 1 ≤ bits v.toNat 8 7 → bits v.toNat 8 7 ≤ 64 → bits v.toNat 8 7 ≠ 32 →
        ∃ t, exec (.grtBasicWrite m v env) s = .next t ∧ Refused EV_GRT_CFG_REFUSED m (UNIT_BASIC 6) s t) ∧
      (∀ u, grtPreset (bits v.toNat 0 2) (bits v.toNat 8 7) (bits v.toNat 16 16) (storeBits (UNIT_BASIC 6) 0xFFFF7F03 v.toNat s) = u →
        (bits v.toNat 0 2 = 1 ∨ (bits v.toNat 0 2 = 2 ∧ bits v.toNat 8 7 = 32 ∧ ∀ k ∈ rangeFrom 5 5, octetRole s k = roGRATICULE)) →
        1 ≤ bits v.toNat 8 7 → bits v.toNat 8 7 ≤ 64 → bits v.toNat 16 16 * bits v.toNat 8 7 ≤ 65536 → s.rf ⟨STG_STATE, 0, 2⟩ = stSTOPPED →
        (grtShadow u).overlaps = false → (grtShadow u).reachable (ownChip s) = true →
        ∃ t, exec (.grtBasicWrite m v env) s = .next t ∧ Answered m (UNIT_BASIC 6) t ∧ t.grt.pend = some (grtShadow u, s.grt.seen) ∧ t.grt.tab = s.grt.tab ∧
          (∀ k : Fin 64, t.reg (GRT_ROUTE_CHAN k.val) =
            (if k.val < bits v.toNat 8 7 then (bits v.toNat 16 16 * k.val + 65536 * bits v.toNat 16 16) % 2 ^ 32 else 0) ∧
            t.reg (GRT_ROUTE_OWNER k.val) = (if k.val < bits v.toNat 8 7 then k.val + 2 ^ 31 else 0)) ∧
          RegsBut ([UNIT_BASIC 6, GRT_STATE] ++ (List.range 64).map GRT_ROUTE_CHAN ++ (List.range 64).map GRT_ROUTE_OWNER ++ (List.range 64).map GRT_HOP
            ++ (List.range 80).map GRT_LANE_CFG) s t)) ∧
    (∀ (m : Master) (v : Word) (env : Env), Granted m GRT_CHIP s →
      ((∃ n, n < 80 ∧ octetRole s (n / 8) = roGRATICULE ∧ laneCode (s.lane n) ≠ lDISABLED ∧ laneCode (s.lane n) ≠ lIDLE) →
        ∃ t, exec (.grtChipWrite m v env) s = .next t ∧ Refused EV_GRT_CFG_REFUSED m GRT_CHIP s t) ∧
      ((∀ n, n < 80 → octetRole s (n / 8) = roGRATICULE → laneCode (s.lane n) = lDISABLED ∨ laneCode (s.lane n) = lIDLE) →
        ∃ t, exec (.grtChipWrite m v env) s = .next t ∧ Answered m GRT_CHIP t ∧ ownChip t = v.toNat % 64 ∧ RegsBut [GRT_CHIP] s t)) ∧
    (∀ (m : Master) (v : Word) (env : Env), Granted m GRT_CTRL s → s.rf ⟨STG_STATE, 0, 2⟩ = stSTOPPED →
      ((grtShadow s).overlaps = true ∨ (grtShadow s).reachable (ownChip s) = false →
        ∃ t, exec (.grtApply m v env) s = .next t ∧ Refused EV_GRT_CFG_REFUSED m GRT_CTRL s t) ∧
      ((grtShadow s).overlaps = false → (grtShadow s).reachable (ownChip s) = true →
        ∃ t, exec (.grtApply m v env) s = .next t ∧ Answered m GRT_CTRL t ∧ t.grt.tab = s.grt.tab ∧ RegsBut [GRT_STATE] s t ∧
          t.grt.pend = some (grtShadow s, if bit v.toNat 1 then s.grt.seen else s.reg64 GRT_ANCHOR_LO GRT_ANCHOR_HI))) ∧
    (s.grt.pend = none → exec .grtApplyCommit s = .next s) ∧
    (∀ x, s.grt.pend = some x →
      ∃ t, exec .grtApplyCommit s = .next t ∧ t.grt.tab = x.1 ∧ t.grt.prev = some s.grt.tab ∧ t.grt.since = x.2 ∧ t.grt.pend = none ∧ t.grt.moved = [] ∧
        RegsBut [GRT_STATE] s t ∧ SameBut [.regs, .grt] s t) ∧
    (s.grt.inQ = [] → exec .grtSpectrumSend s = .next s) ∧
    (∀ x rest, s.grt.inQ = x :: rest →
      ∃ t, exec .grtSpectrumSend s = .next t ∧ t.grt.inQ = rest.filter (fun y => y.s ≠ x.s) ∧ x.s + 1 ≤ t.grt.seen ∧
        (∀ p ∈ s.grt.pend, p.2 ≤ x.s → t.grt.tab = p.1 ∧ t.grt.since = p.2)) ∧
    (∀ x, s.grt.inQ = [x] → s.grt.pend = none → s.grt.since ≤ x.s → s.grt.tab.entries = [] → 0 < chnCount s →
      ∃ t, exec .grtSpectrumSend s = .next t ∧
        t.reg GRT_CNT_UNROUTED = min (s.reg GRT_CNT_UNROUTED + ceilDiv (chnCount s) (if x.ch16 then 2048 else 4096)) 0xFFFFFFFF ∧
        RegsBut [GRT_CNT_UNROUTED] s t ∧ t.stg = s.stg) ∧
    (∀ (x : SpecIn) (e : RouteEnt), s.grt.inQ = [x] → s.grt.tab.entries = [e] → s.grt.pend = none → s.grt.since ≤ x.s → e.owner = ownChip s → e.twin = none →
      0 < chnCount s → chnCount s ≤ 2048 → e.first ≤ s.reg CHN_CHAN_BASE + x.first → s.reg CHN_CHAN_BASE + x.first + chnCount s ≤ e.first + e.count →
      ∃ t, exec .grtSpectrumSend s = .next t ∧ t.stg.inQ.length = s.stg.inQ.length + 1 ∧
        (∀ y ∈ t.stg.inQ.getLast?, y.octet = none ∧ y.f.kind = kSPEC ∧ y.f.index = x.s ∧ y.f.firstStream = x.stream ∧ y.f.streamCount = 1 ∧
          y.f.firstChan = s.reg CHN_CHAN_BASE + x.first ∧ y.f.chanCount = chnCount s ∧ y.f.isVoid = x.void ∧
          y.f.samples = (if x.void then [] else packElems (if x.ch16 then fCH16 else fC8) (x.vals.take (chnCount s)))) ∧ t.reg GRT_CNT_UNROUTED = s.reg GRT_CNT_UNROUTED)

/-! ### Rules of every receiver (chapters 2 and 3) -/

/-- R48. Generation `a` is newer than `b` when their difference modulo 16 lies between 1 and 7. A frame of a generation older than the newest accepted from
its source chip is discarded and counted on its lane, and nothing else of it stays; one that is handed on makes its generation the newest accepted. -/
def Obligations.TwinGeneration : Prop :=
  (∀ a b : Fin 16, twinNewer a.val b.val = true ↔ 1 ≤ ((a.val : Int) - b.val) % 16 ∧ ((a.val : Int) - b.val) % 16 ≤ 7) ∧
  ∀ (lane : Fin 96) (f : Frame) (c : Nat) (fits : Bool) (s : State) (i : Instr), frameArrives lane f c fits s = some i →
    ((s.lane lane.val).rx = lACTIVE → (s.lane lane.val).gen = some f.protoGen → f.headerOk f.protoGen = true → f.lengthOk = true →
      ((ckInUse s lane.val).en = true → laneCheck s lane.val f = c) → sget 0 s.frm.newestTwin f.srcChip ≠ 0 →
      twinNewer (sget 0 s.frm.newestTwin f.srcChip - 1) f.twinGen = true →
      ∃ t, exec i s = .next t ∧ t.reg (FRM_CNT_DISCARD lane.val) = min (s.reg (FRM_CNT_DISCARD lane.val) + 1) 0xFFFFFFFF ∧
        RegsBut [FRM_CNT_DISCARD lane.val, FRM_CNT_RX_FRAMES lane.val] s t ∧ t.frm.newestTwin = s.frm.newestTwin ∧ t.frm.flows = s.frm.flows ∧
        SameBut [.regs, .frm] s t) ∧
    (LaneHands lane.val f c s → ∃ t, exec i s = .next t ∧ sget 0 t.frm.newestTwin f.srcChip = f.twinGen + 1)

/-- R79. A frame with another check value than the lane's engine computes is one failure more in a row, a frame with the right one ends the row; the sixteenth in
a row raises CK_MISMATCH, and the engine stays in use. -/
def Obligations.CheckMismatch : Prop :=
  ∀ (lane : Fin 96) (f : Frame) (c : Nat) (fits : Bool) (s : State) (i : Instr), frameArrives lane f c fits s = some i →
    (s.lane lane.val).rx = lACTIVE → (s.lane lane.val).gen ≠ none → (ckInUse s lane.val).en = true →
    ∃ t, exec i s = .next t ∧ ckInUse t lane.val = ckInUse s lane.val ∧
      (laneCheck s lane.val f ≠ c → sget 0 t.frm.ckFails lane.val = sget 0 s.frm.ckFails lane.val + 1 ∧
        (sget 0 s.frm.ckFails lane.val = 15 → Signals EV_FRM_CK_MISMATCH t)) ∧
      (laneCheck s lane.val f = c → sget 0 t.frm.ckFails lane.val = 0)
end

