-- ==== Sys2Proof/Laws/Fields.lean ====
section
/-! SUPPORT. Laws of bit fields: a field read after it is set, another field read after it, and the range of a word. -/

namespace Sys2Proof.Machine

theorem bits_lt (n lo w : Nat) : bits n lo w < 2 ^ w := Nat.mod_lt _ (Nat.two_pow_pos w)

/-- A word as what lies above a field, the field, and what lies below it. -/
theorem word_split (n lo w : Nat) : n = 2 ^ lo * (2 ^ w * (n / 2 ^ lo / 2 ^ w) + bits n lo w) + n % 2 ^ lo := by
  unfold bits
  rw [Nat.shiftRight_eq_div_pow, Nat.div_add_mod, Nat.div_add_mod]

theorem setBits_eq (n lo w v : Nat) :
    setBits n lo w v = 2 ^ lo * (2 ^ w * (n / 2 ^ lo / 2 ^ w) + v % 2 ^ w) + n % 2 ^ lo := by
  have h := word_split n lo w
  unfold setBits
  rw [Nat.shiftLeft_eq, Nat.shiftLeft_eq]
  have e : bits n lo w * 2 ^ lo = 2 ^ lo * bits n lo w := Nat.mul_comm _ _
  have e2 : (v % 2 ^ w) * 2 ^ lo = 2 ^ lo * (v % 2 ^ w) := Nat.mul_comm _ _
  have e3 := Nat.mul_add (2 ^ lo) (2 ^ w * (n / 2 ^ lo / 2 ^ w)) (bits n lo w)
  have e4 := Nat.mul_add (2 ^ lo) (2 ^ w * (n / 2 ^ lo / 2 ^ w)) (v % 2 ^ w)
  omega

theorem testBit_bits (n lo w i : Nat) : (bits n lo w).testBit i = (decide (i < w) && n.testBit (lo + i)) := by
  unfold bits
  rw [Nat.testBit_mod_two_pow, Nat.testBit_shiftRight]

theorem testBit_setBits (n lo w v i : Nat) :
    (setBits n lo w v).testBit i = if lo ≤ i ∧ i < lo + w then v.testBit (i - lo) else n.testBit i := by
  have hl : n % 2 ^ lo < 2 ^ lo := Nat.mod_lt _ (Nat.two_pow_pos lo)
  have hv : v % 2 ^ w < 2 ^ w := Nat.mod_lt _ (Nat.two_pow_pos w)
  rw [setBits_eq, Nat.testBit_two_pow_mul_add _ hl]
  by_cases h1 : i < lo
  · rw [if_pos h1, if_neg (by omega), Nat.testBit_mod_two_pow]; simp [h1]
  · rw [if_neg h1, Nat.testBit_two_pow_mul_add _ hv]
    by_cases h2 : i - lo < w
    · rw [if_pos h2, if_pos (by omega), Nat.testBit_mod_two_pow]; simp [h2]
    · rw [if_neg h2, if_neg (by omega), Nat.testBit_div_two_pow, Nat.testBit_div_two_pow]
      congr 1; omega

/-- A field reads what it was set to. -/
@[simp] theorem bits_setBits_same (n lo w v : Nat) : bits (setBits n lo w v) lo w = v % 2 ^ w := by
  apply Nat.eq_of_testBit_eq
  intro i
  rw [testBit_bits, testBit_setBits, Nat.testBit_mod_two_pow]
  by_cases h : i < w
  · simp [h]
  · simp [h]

/-- Setting a field leaves a field beside it alone. -/
theorem bits_setBits_apart (n lo w v lo2 w2 : Nat) (h : lo2 + w2 ≤ lo ∨ lo + w ≤ lo2) : bits (setBits n lo w v) lo2 w2 = bits n lo2 w2 := by
  apply Nat.eq_of_testBit_eq
  intro i
  rw [testBit_bits, testBit_bits, testBit_setBits]
  by_cases hi : i < w2
  · rw [if_neg (by omega)]
  · simp [hi]

/-- A word with a field set stays a word. -/
theorem setBits_lt (n lo w v k : Nat) (hn : n < 2 ^ k) (h : lo + w ≤ k) : setBits n lo w v < 2 ^ k := by
  apply Nat.lt_pow_two_of_testBit
  intro i hi
  rw [testBit_setBits, if_neg (by omega)]
  exact Nat.testBit_lt_two_pow (Nat.lt_of_lt_of_le hn (Nat.pow_le_pow_right (by omega) hi))

theorem bits_zero (lo w : Nat) : bits 0 lo w = 0 := by simp [bits]

/-- A field taken of a word cut to 32 bits. -/
theorem bits_mod (n lo w : Nat) (h : lo + w ≤ 32) : bits (n % 2 ^ 32) lo w = bits n lo w := by
  apply Nat.eq_of_testBit_eq
  intro i
  rw [testBit_bits, testBit_bits, Nat.testBit_mod_two_pow]
  by_cases hi : i < w
  · simp [hi]; omega
  · simp [hi]

/-- A sum without carries. -/
theorem add_eq_or_of_and (a b : Nat) (h : a &&& b = 0) : a + b = a ||| b := by
  induction a using Nat.strongRecOn generalizing b with
  | _ a ih =>
    by_cases ha : a = 0
    · subst ha; simp
    · have h2 : a / 2 &&& b / 2 = 0 := by rw [← Nat.and_div_two, h]
      have e := ih (a / 2) (by omega) (b / 2) h2
      have d : (a ||| b) / 2 = a / 2 ||| b / 2 := Nat.or_div_two
      rw [← d] at e
      have m0 : (a.testBit 0 && b.testBit 0) = false := by rw [← Nat.testBit_and, h]; simp
      have mt : (a ||| b).testBit 0 = (a.testBit 0 || b.testBit 0) := Nat.testBit_or ..
      simp only [Nat.testBit_zero] at m0 mt
      clear h h2 ih d
      generalize (a ||| b) = c at *
      by_cases x1 : a % 2 = 1 <;> by_cases x2 : b % 2 = 1 <;> by_cases x3 : c % 2 = 1 <;> simp [x1, x2, x3] at m0 mt <;> omega

/-- What a write under a mask leaves: the mask's bits from the value, the others from before. -/
theorem testBit_masked (old w v i : Nat) : ((old - (old &&& w)) + (v &&& w)).testBit i = if w.testBit i then v.testBit i else old.testBit i := by
  have h1 : old - (old &&& w) = old ^^^ (old &&& w) := by
    apply Nat.eq_of_testBit_eq
    intro j
    have hle : old &&& w ≤ old := Nat.and_le_left
    have e : (old ^^^ (old &&& w)) + (old &&& w) = old := by
      have hd : (old ^^^ (old &&& w)) &&& (old &&& w) = 0 := by
        apply Nat.eq_of_testBit_eq
        intro j
        simp only [Nat.testBit_and, Nat.testBit_xor, Nat.zero_testBit]
        cases old.testBit j <;> cases w.testBit j <;> rfl
      have := add_eq_or_of_and _ _ hd
      rw [this]
      apply Nat.eq_of_testBit_eq
      intro j
      simp only [Nat.testBit_and, Nat.testBit_xor, Nat.testBit_or]
      cases old.testBit j <;> cases w.testBit j <;> rfl
    have : old - (old &&& w) = old ^^^ (old &&& w) := by omega
    rw [this]
  have hd : (old ^^^ (old &&& w)) &&& (v &&& w) = 0 := by
    apply Nat.eq_of_testBit_eq
    intro j
    simp only [Nat.testBit_and, Nat.testBit_xor, Nat.zero_testBit]
    cases old.testBit j <;> cases w.testBit j <;> cases v.testBit j <;> rfl
  rw [h1, add_eq_or_of_and _ _ hd]
  simp only [Nat.testBit_and, Nat.testBit_xor, Nat.testBit_or]
  cases old.testBit i <;> cases w.testBit i <;> cases v.testBit i <;> rfl

/-- A field inside the mask takes the value's bits. -/
theorem bits_masked (old w v lo k : Nat) (h : bits w lo k = 2 ^ k - 1) : bits ((old - (old &&& w)) + (v &&& w)) lo k = bits v lo k := by
  apply Nat.eq_of_testBit_eq
  intro i
  rw [testBit_bits, testBit_bits, testBit_masked]
  by_cases hi : i < k
  · have := congrArg (fun n => n.testBit i) h
    simp only [testBit_bits, Nat.testBit_two_pow_sub_one, hi, decide_true, Bool.true_and] at this
    rw [this, if_pos rfl]
  · simp [hi]

/-- A field outside the mask stays. -/
theorem bits_unmasked (old w v lo k : Nat) (h : bits w lo k = 0) : bits ((old - (old &&& w)) + (v &&& w)) lo k = bits old lo k := by
  apply Nat.eq_of_testBit_eq
  intro i
  rw [testBit_bits, testBit_bits, testBit_masked]
  by_cases hi : i < k
  · have := congrArg (fun n => n.testBit i) h
    simp only [testBit_bits, hi, decide_true, Bool.true_and, Nat.zero_testBit] at this
    rw [this]; simp
  · simp [hi]

/-- A field of a word masked by what the field lies in. -/
theorem bits_and (v w lo k : Nat) (h : bits w lo k = 2 ^ k - 1) : bits (v &&& w) lo k = bits v lo k := by
  apply Nat.eq_of_testBit_eq
  intro i
  rw [testBit_bits, testBit_bits, Nat.testBit_and]
  by_cases hi : i < k
  · have := congrArg (fun n => n.testBit i) h
    simp only [testBit_bits, Nat.testBit_two_pow_sub_one, hi, decide_true, Bool.true_and] at this
    rw [this]; simp
  · simp [hi]

theorem bit_eq_testBit (n i : Nat) : bit n i = n.testBit i := by
  unfold bit
  rw [Nat.testBit_eq_decide_div_mod_eq, Nat.shiftRight_eq_div_pow]

/-- A bit after a field was replaced. -/
theorem bit_setBits (n lo w v i : Nat) : bit (setBits n lo w v) i = if lo ≤ i ∧ i < lo + w then bit v (i - lo) else bit n i := by
  simp only [bit_eq_testBit, testBit_setBits]

/-- A bit of a written word, as the unit's rule sees it. -/
theorem bit_written (n w i : Nat) (hw : bit w i = true) (hi : i < 32) : bit (n % 2 ^ 32 &&& w) i = bit n i := by
  simp only [bit_eq_testBit] at *
  rw [Nat.testBit_and, Nat.testBit_mod_two_pow, hw]; simp [hi]

/-- A field of a written word, as the unit's rule sees it. -/
theorem bits_written (n w lo k : Nat) (h : bits w lo k = 2 ^ k - 1) (hk : lo + k ≤ 32) : bits (n % 2 ^ 32 &&& w) lo k = bits n lo k := by
  rw [bits_and _ _ _ _ h, bits_mod _ _ _ hk]

end Sys2Proof.Machine
end

