-- ==== Sys2Proof/Laws/Maps.lean ====
section
/-! SUPPORT. Laws of the sparse maps: a read after a write, and the canonical form that every write keeps. -/

namespace Sys2Proof.Machine

variable {α : Type}

@[simp] theorem sget_nil (d : α) (k : Nat) : sget d [] k = d := rfl

theorem sget_sdel (d : α) (m : List (Nat × α)) (k j : Nat) : sget d (sdel m k) j = if j = k then d else sget d m j := by
  induction m with
  | nil => simp [sdel, sget]
  | cons e t ih =>
    obtain ⟨a, v⟩ := e
    simp only [sdel, sget]
    split
    · rw [ih]; split <;> grind
    · simp only [sget]; rw [ih]; grind

theorem sget_sins (d : α) (m : List (Nat × α)) (k j : Nat) (v : α) : sget d (sins m k v) j = if j = k then v else sget d m j := by
  induction m with
  | nil => simp only [sins, sget]; grind
  | cons e t ih =>
    obtain ⟨a, w⟩ := e
    simp only [sins]
    split
    · simp only [sget]; grind
    · split
      · simp only [sget]; grind
      · simp only [sget]; rw [ih]; grind

/-- A read after a write. -/
theorem sget_sset [DecidableEq α] (d : α) (m : List (Nat × α)) (k j : Nat) (v : α) :
    sget d (sset d m k v) j = if j = k then v else sget d m j := by
  unfold sset
  split
  · rw [sget_sdel]; grind
  · rw [sget_sins]

/-- A read of the key just written. -/
@[simp] theorem sget_sset_same [DecidableEq α] (d : α) (m : List (Nat × α)) (k : Nat) (v : α) : sget d (sset d m k v) k = v := by
  rw [sget_sset, if_pos rfl]

/-- Every key of a map lies above `lo` and no entry is a default; keys rise. -/
def above [DecidableEq α] (d : Nat → α) : Option Nat → List (Nat × α) → Prop
  | _, [] => True
  | lo, (a, v) :: t => (∀ b, lo = some b → b < a) ∧ v ≠ d a ∧ above d (some a) t

theorem above_none [DecidableEq α] (d : Nat → α) {lo : Option Nat} {m : List (Nat × α)} (h : above d lo m) : above d none m := by
  cases m with
  | nil => trivial
  | cons e t => exact ⟨by simp, h.2⟩

theorem smapWf_iff [DecidableEq α] (d : Nat → α) (m : List (Nat × α)) : smapWf d m = true ↔ above d none m := by
  suffices h : ∀ (t : List (Nat × α)) (a : Nat) (v : α), smapWf d ((a, v) :: t) = true ↔ (v ≠ d a ∧ above d (some a) t) by
    cases m with
    | nil => simp [smapWf, above]
    | cons e t => obtain ⟨a, v⟩ := e; rw [h]; simp [above]
  intro t
  induction t with
  | nil => intro a v; simp [smapWf, above]
  | cons e t ih =>
    intro a v
    obtain ⟨b, w⟩ := e
    simp only [smapWf, Bool.and_eq_true, decide_eq_true_eq, ih, above]
    grind

theorem above_mono [DecidableEq α] (d : Nat → α) {lo lo' : Option Nat} {m : List (Nat × α)} (h : above d lo m)
    (hb : ∀ b, lo' = some b → ∃ c, lo = some c ∧ b ≤ c) : above d lo' m := by
  cases m with
  | nil => trivial
  | cons e t =>
    refine ⟨fun b hb' => ?_, h.2⟩
    obtain ⟨c, hc, hle⟩ := hb b hb'
    exact Nat.lt_of_le_of_lt hle (h.1 c hc)

theorem above_sdel [DecidableEq α] (d : Nat → α) (m : List (Nat × α)) (lo : Option Nat) (k : Nat) (h : above d lo m) : above d lo (sdel m k) := by
  induction m generalizing lo with
  | nil => trivial
  | cons e t ih =>
    obtain ⟨a, v⟩ := e
    simp only [sdel]
    split
    · exact ih lo (above_mono d h.2.2 (fun b hb => ⟨a, rfl, Nat.le_of_lt (h.1 b hb)⟩))
    · exact ⟨h.1, h.2.1, ih _ h.2.2⟩

theorem above_sins [DecidableEq α] (d : Nat → α) (m : List (Nat × α)) (lo : Option Nat) (k : Nat) (v : α) (hv : v ≠ d k)
    (hk : ∀ b, lo = some b → b < k) (h : above d lo m) : above d lo (sins m k v) := by
  induction m generalizing lo with
  | nil => exact ⟨hk, hv, trivial⟩
  | cons e t ih =>
    obtain ⟨a, w⟩ := e
    simp only [sins]
    split
    · next e => subst e; exact ⟨hk, hv, h.2.2⟩
    · split
      · next hlt => exact ⟨hk, hv, by simpa using hlt, h.2⟩
      · exact ⟨h.1, h.2.1, ih _ (by intro b hb; cases hb; omega) h.2.2⟩

/-- A write keeps the canonical form. -/
theorem smapWf_sset [DecidableEq α] (d : Nat → α) (m : List (Nat × α)) (k : Nat) (v : α) (h : smapWf d m = true) :
    smapWf d (sset (d k) m k v) = true := by
  rw [smapWf_iff] at *
  unfold sset
  split
  · exact above_sdel d m none k h
  · next hv => exact above_sins d m none k v hv (by simp) h

end Sys2Proof.Machine
end

