-- ==== Sys2Proof/Laws/State.lean ====
section
/-! SUPPORT. Laws of the register operations: what a register and a field read after a write, one lemma per field of the state per update, and a fold. -/

namespace Sys2Proof.Machine

variable (s : State)

/-! ### Registers -/

theorem reg_lt (a : Nat) : s.reg a < 2 ^ 32 := (sget (regReset a) s.regs a).isLt

/-- A register reads what was written; every other register reads as before. -/
theorem reg_setReg (a n b : Nat) : (s.setReg a n).reg b = if b = a then n % 2 ^ 32 else s.reg b := by
  unfold State.reg State.setReg
  by_cases h : b = a
  · subst h; simp
  · simp only [if_neg h]
    congr 1
    unfold sset
    split
    · rw [sget_sdel, if_neg h]
    · rw [sget_sins, if_neg h]

@[simp] theorem reg_setReg_same (a n : Nat) : (s.setReg a n).reg a = n % 2 ^ 32 := by rw [reg_setReg, if_pos rfl]

theorem reg_setReg_other {a n b : Nat} (h : b ≠ a) : (s.setReg a n).reg b = s.reg b := by rw [reg_setReg, if_neg h]

/-- A field reads what it was set to. -/
theorem rf_wf_same (f : Field) (v : Nat) (h : f.lo + f.width ≤ 32) : (s.wf f v).rf f = v % 2 ^ f.width := by
  unfold State.rf State.wf
  rw [reg_setReg_same, bits_mod _ _ _ h, bits_setBits_same]

/-- Setting a field leaves every other register alone. -/
theorem reg_wf_other {f : Field} {v b : Nat} (h : b ≠ f.addr) : (s.wf f v).reg b = s.reg b := reg_setReg_other s h

/-- Setting a field leaves a field apart from it alone. -/
theorem rf_wf_apart (f g : Field) (v : Nat) (hf : g.lo + g.width ≤ 32)
    (h : g.addr ≠ f.addr ∨ g.lo + g.width ≤ f.lo ∨ f.lo + f.width ≤ g.lo) : (s.wf f v).rf g = s.rf g := by
  unfold State.rf State.wf
  by_cases e : g.addr = f.addr
  · rw [e, reg_setReg_same, bits_mod _ _ _ hf, bits_setBits_apart]
    rcases h with h | h
    · exact absurd e h
    · exact h
  · rw [reg_setReg_other s e]

theorem reg_inc (a n b : Nat) : (s.inc a n).reg b = if b = a then min (s.reg a + n) 0xFFFFFFFF else s.reg b := by
  unfold State.inc
  rw [reg_setReg]
  split
  · apply Nat.mod_eq_of_lt; omega
  · rfl

/-- A field that a masked write covers. -/
theorem rf_storeBits (a w v : Nat) (f : Field) (ha : f.addr = a) (hl : f.lo + f.width ≤ 32) (h : bits w f.lo f.width = 2 ^ f.width - 1) :
    (storeBits a w v s).rf f = bits v f.lo f.width := by
  unfold State.rf storeBits
  subst ha
  rw [reg_setReg_same, bits_mod _ _ _ hl]
  exact bits_masked _ _ _ _ _ h

theorem reg_storeBits_other {a w v b : Nat} (h : b ≠ a) : (storeBits a w v s).reg b = s.reg b := reg_setReg_other s h

theorem rf_storeBits_other {a w v : Nat} {f : Field} (h : f.addr ≠ a) : (storeBits a w v s).rf f = s.rf f := by
  unfold State.rf; rw [reg_storeBits_other s h]

theorem reg_setReg64 (lo hi n b : Nat) :
    (s.setReg64 lo hi n).reg b = if b = hi then n / 2 ^ 32 % 2 ^ 32 else if b = lo then n % 2 ^ 32 else s.reg b := by
  unfold State.setReg64
  simp only [reg_setReg]
  grind

theorem reg_zero (as : List Nat) (b : Nat) : (s.zero as).reg b = if b ∈ as then 0 else s.reg b := by
  induction as generalizing s with
  | nil => simp [State.zero, foldS]
  | cons a t ih =>
    have h := ih (s.setReg a 0)
    simp only [State.zero, foldS] at h ⊢
    rw [h, reg_setReg]
    simp only [List.mem_cons]
    grind

/-- A register update leaves every other part of the state alone. -/
@[simp] theorem reg_emit (o : Output) (b : Nat) : (s.emit o).reg b = s.reg b := rfl
@[simp] theorem rf_emit (o : Output) (f : Field) : (s.emit o).rf f = s.rf f := rfl
@[simp] theorem emit_out (o : Output) : (s.emit o).out = o :: s.out := rfl

@[simp] theorem storeBits_lns (a w v : Nat) : (storeBits a w v s).lns = s.lns := rfl
@[simp] theorem storeBits_frm (a w v : Nat) : (storeBits a w v s).frm = s.frm := rfl
@[simp] theorem storeBits_dec (a w v : Nat) : (storeBits a w v s).dec = s.dec := rfl
@[simp] theorem storeBits_cad (a w v : Nat) : (storeBits a w v s).cad = s.cad := rfl
@[simp] theorem storeBits_wm (a w v : Nat) : (storeBits a w v s).wm = s.wm := rfl
@[simp] theorem storeBits_chn (a w v : Nat) : (storeBits a w v s).chn = s.chn := rfl
@[simp] theorem storeBits_grt (a w v : Nat) : (storeBits a w v s).grt = s.grt := rfl
@[simp] theorem storeBits_stg (a w v : Nat) : (storeBits a w v s).stg = s.stg := rfl
@[simp] theorem storeBits_trp (a w v : Nat) : (storeBits a w v s).trp = s.trp := rfl
@[simp] theorem storeBits_svy (a w v : Nat) : (storeBits a w v s).svy = s.svy := rfl
@[simp] theorem storeBits_hbm (a w v : Nat) : (storeBits a w v s).hbm = s.hbm := rfl
@[simp] theorem storeBits_mem (a w v : Nat) : (storeBits a w v s).mem = s.mem := rfl
@[simp] theorem storeBits_brg (a w v : Nat) : (storeBits a w v s).brg = s.brg := rfl
@[simp] theorem storeBits_tru (a w v : Nat) : (storeBits a w v s).tru = s.tru := rfl
@[simp] theorem storeBits_atl (a w v : Nat) : (storeBits a w v s).atl = s.atl := rfl
@[simp] theorem storeBits_xar (a w v : Nat) : (storeBits a w v s).xar = s.xar := rfl
@[simp] theorem storeBits_acc (a w v : Nat) : (storeBits a w v s).acc = s.acc := rfl
@[simp] theorem storeBits_rsy (a w v : Nat) : (storeBits a w v s).rsy = s.rsy := rfl
@[simp] theorem storeBits_hlt (a w v : Nat) : (storeBits a w v s).hlt = s.hlt := rfl
@[simp] theorem storeBits_cmx (a w v : Nat) : (storeBits a w v s).cmx = s.cmx := rfl
@[simp] theorem storeBits_mer (a w v : Nat) : (storeBits a w v s).mer = s.mer := rfl
@[simp] theorem storeBits_tim (a w v : Nat) : (storeBits a w v s).tim = s.tim := rfl
@[simp] theorem storeBits_out (a w v : Nat) : (storeBits a w v s).out = s.out := rfl
@[simp] theorem storeBits_pending (a w v : Nat) : (storeBits a w v s).pending = s.pending := rfl
@[simp] theorem setReg_lns (a n : Nat) : (s.setReg a n).lns = s.lns := rfl
@[simp] theorem wf_lns (f : Field) (v : Nat) : (s.wf f v).lns = s.lns := rfl
@[simp] theorem inc_lns (a n : Nat) : (s.inc a n).lns = s.lns := rfl
@[simp] theorem setReg64_lns (lo hi n : Nat) : (s.setReg64 lo hi n).lns = s.lns := rfl
@[simp] theorem emit_lns (o : Output) : (s.emit o).lns = s.lns := rfl
@[simp] theorem setReg_frm (a n : Nat) : (s.setReg a n).frm = s.frm := rfl
@[simp] theorem wf_frm (f : Field) (v : Nat) : (s.wf f v).frm = s.frm := rfl
@[simp] theorem inc_frm (a n : Nat) : (s.inc a n).frm = s.frm := rfl
@[simp] theorem setReg64_frm (lo hi n : Nat) : (s.setReg64 lo hi n).frm = s.frm := rfl
@[simp] theorem emit_frm (o : Output) : (s.emit o).frm = s.frm := rfl
@[simp] theorem setReg_dec (a n : Nat) : (s.setReg a n).dec = s.dec := rfl
@[simp] theorem wf_dec (f : Field) (v : Nat) : (s.wf f v).dec = s.dec := rfl
@[simp] theorem inc_dec (a n : Nat) : (s.inc a n).dec = s.dec := rfl
@[simp] theorem setReg64_dec (lo hi n : Nat) : (s.setReg64 lo hi n).dec = s.dec := rfl
@[simp] theorem emit_dec (o : Output) : (s.emit o).dec = s.dec := rfl
@[simp] theorem setReg_cad (a n : Nat) : (s.setReg a n).cad = s.cad := rfl
@[simp] theorem wf_cad (f : Field) (v : Nat) : (s.wf f v).cad = s.cad := rfl
@[simp] theorem inc_cad (a n : Nat) : (s.inc a n).cad = s.cad := rfl
@[simp] theorem setReg64_cad (lo hi n : Nat) : (s.setReg64 lo hi n).cad = s.cad := rfl
@[simp] theorem emit_cad (o : Output) : (s.emit o).cad = s.cad := rfl
@[simp] theorem setReg_wm (a n : Nat) : (s.setReg a n).wm = s.wm := rfl
@[simp] theorem wf_wm (f : Field) (v : Nat) : (s.wf f v).wm = s.wm := rfl
@[simp] theorem inc_wm (a n : Nat) : (s.inc a n).wm = s.wm := rfl
@[simp] theorem setReg64_wm (lo hi n : Nat) : (s.setReg64 lo hi n).wm = s.wm := rfl
@[simp] theorem emit_wm (o : Output) : (s.emit o).wm = s.wm := rfl
@[simp] theorem setReg_chn (a n : Nat) : (s.setReg a n).chn = s.chn := rfl
@[simp] theorem wf_chn (f : Field) (v : Nat) : (s.wf f v).chn = s.chn := rfl
@[simp] theorem inc_chn (a n : Nat) : (s.inc a n).chn = s.chn := rfl
@[simp] theorem setReg64_chn (lo hi n : Nat) : (s.setReg64 lo hi n).chn = s.chn := rfl
@[simp] theorem emit_chn (o : Output) : (s.emit o).chn = s.chn := rfl
@[simp] theorem setReg_grt (a n : Nat) : (s.setReg a n).grt = s.grt := rfl
@[simp] theorem wf_grt (f : Field) (v : Nat) : (s.wf f v).grt = s.grt := rfl
@[simp] theorem inc_grt (a n : Nat) : (s.inc a n).grt = s.grt := rfl
@[simp] theorem setReg64_grt (lo hi n : Nat) : (s.setReg64 lo hi n).grt = s.grt := rfl
@[simp] theorem emit_grt (o : Output) : (s.emit o).grt = s.grt := rfl
@[simp] theorem setReg_stg (a n : Nat) : (s.setReg a n).stg = s.stg := rfl
@[simp] theorem wf_stg (f : Field) (v : Nat) : (s.wf f v).stg = s.stg := rfl
@[simp] theorem inc_stg (a n : Nat) : (s.inc a n).stg = s.stg := rfl
@[simp] theorem setReg64_stg (lo hi n : Nat) : (s.setReg64 lo hi n).stg = s.stg := rfl
@[simp] theorem emit_stg (o : Output) : (s.emit o).stg = s.stg := rfl
@[simp] theorem setReg_trp (a n : Nat) : (s.setReg a n).trp = s.trp := rfl
@[simp] theorem wf_trp (f : Field) (v : Nat) : (s.wf f v).trp = s.trp := rfl
@[simp] theorem inc_trp (a n : Nat) : (s.inc a n).trp = s.trp := rfl
@[simp] theorem setReg64_trp (lo hi n : Nat) : (s.setReg64 lo hi n).trp = s.trp := rfl
@[simp] theorem emit_trp (o : Output) : (s.emit o).trp = s.trp := rfl
@[simp] theorem setReg_svy (a n : Nat) : (s.setReg a n).svy = s.svy := rfl
@[simp] theorem wf_svy (f : Field) (v : Nat) : (s.wf f v).svy = s.svy := rfl
@[simp] theorem inc_svy (a n : Nat) : (s.inc a n).svy = s.svy := rfl
@[simp] theorem setReg64_svy (lo hi n : Nat) : (s.setReg64 lo hi n).svy = s.svy := rfl
@[simp] theorem emit_svy (o : Output) : (s.emit o).svy = s.svy := rfl
@[simp] theorem setReg_hbm (a n : Nat) : (s.setReg a n).hbm = s.hbm := rfl
@[simp] theorem wf_hbm (f : Field) (v : Nat) : (s.wf f v).hbm = s.hbm := rfl
@[simp] theorem inc_hbm (a n : Nat) : (s.inc a n).hbm = s.hbm := rfl
@[simp] theorem setReg64_hbm (lo hi n : Nat) : (s.setReg64 lo hi n).hbm = s.hbm := rfl
@[simp] theorem emit_hbm (o : Output) : (s.emit o).hbm = s.hbm := rfl
@[simp] theorem setReg_mem (a n : Nat) : (s.setReg a n).mem = s.mem := rfl
@[simp] theorem wf_mem (f : Field) (v : Nat) : (s.wf f v).mem = s.mem := rfl
@[simp] theorem inc_mem (a n : Nat) : (s.inc a n).mem = s.mem := rfl
@[simp] theorem setReg64_mem (lo hi n : Nat) : (s.setReg64 lo hi n).mem = s.mem := rfl
@[simp] theorem emit_mem (o : Output) : (s.emit o).mem = s.mem := rfl
@[simp] theorem setReg_brg (a n : Nat) : (s.setReg a n).brg = s.brg := rfl
@[simp] theorem wf_brg (f : Field) (v : Nat) : (s.wf f v).brg = s.brg := rfl
@[simp] theorem inc_brg (a n : Nat) : (s.inc a n).brg = s.brg := rfl
@[simp] theorem setReg64_brg (lo hi n : Nat) : (s.setReg64 lo hi n).brg = s.brg := rfl
@[simp] theorem emit_brg (o : Output) : (s.emit o).brg = s.brg := rfl
@[simp] theorem setReg_tru (a n : Nat) : (s.setReg a n).tru = s.tru := rfl
@[simp] theorem wf_tru (f : Field) (v : Nat) : (s.wf f v).tru = s.tru := rfl
@[simp] theorem inc_tru (a n : Nat) : (s.inc a n).tru = s.tru := rfl
@[simp] theorem setReg64_tru (lo hi n : Nat) : (s.setReg64 lo hi n).tru = s.tru := rfl
@[simp] theorem emit_tru (o : Output) : (s.emit o).tru = s.tru := rfl
@[simp] theorem setReg_atl (a n : Nat) : (s.setReg a n).atl = s.atl := rfl
@[simp] theorem wf_atl (f : Field) (v : Nat) : (s.wf f v).atl = s.atl := rfl
@[simp] theorem inc_atl (a n : Nat) : (s.inc a n).atl = s.atl := rfl
@[simp] theorem setReg64_atl (lo hi n : Nat) : (s.setReg64 lo hi n).atl = s.atl := rfl
@[simp] theorem emit_atl (o : Output) : (s.emit o).atl = s.atl := rfl
@[simp] theorem setReg_xar (a n : Nat) : (s.setReg a n).xar = s.xar := rfl
@[simp] theorem wf_xar (f : Field) (v : Nat) : (s.wf f v).xar = s.xar := rfl
@[simp] theorem inc_xar (a n : Nat) : (s.inc a n).xar = s.xar := rfl
@[simp] theorem setReg64_xar (lo hi n : Nat) : (s.setReg64 lo hi n).xar = s.xar := rfl
@[simp] theorem emit_xar (o : Output) : (s.emit o).xar = s.xar := rfl
@[simp] theorem setReg_acc (a n : Nat) : (s.setReg a n).acc = s.acc := rfl
@[simp] theorem wf_acc (f : Field) (v : Nat) : (s.wf f v).acc = s.acc := rfl
@[simp] theorem inc_acc (a n : Nat) : (s.inc a n).acc = s.acc := rfl
@[simp] theorem setReg64_acc (lo hi n : Nat) : (s.setReg64 lo hi n).acc = s.acc := rfl
@[simp] theorem emit_acc (o : Output) : (s.emit o).acc = s.acc := rfl
@[simp] theorem setReg_rsy (a n : Nat) : (s.setReg a n).rsy = s.rsy := rfl
@[simp] theorem wf_rsy (f : Field) (v : Nat) : (s.wf f v).rsy = s.rsy := rfl
@[simp] theorem inc_rsy (a n : Nat) : (s.inc a n).rsy = s.rsy := rfl
@[simp] theorem setReg64_rsy (lo hi n : Nat) : (s.setReg64 lo hi n).rsy = s.rsy := rfl
@[simp] theorem emit_rsy (o : Output) : (s.emit o).rsy = s.rsy := rfl
@[simp] theorem setReg_hlt (a n : Nat) : (s.setReg a n).hlt = s.hlt := rfl
@[simp] theorem wf_hlt (f : Field) (v : Nat) : (s.wf f v).hlt = s.hlt := rfl
@[simp] theorem inc_hlt (a n : Nat) : (s.inc a n).hlt = s.hlt := rfl
@[simp] theorem setReg64_hlt (lo hi n : Nat) : (s.setReg64 lo hi n).hlt = s.hlt := rfl
@[simp] theorem emit_hlt (o : Output) : (s.emit o).hlt = s.hlt := rfl
@[simp] theorem setReg_cmx (a n : Nat) : (s.setReg a n).cmx = s.cmx := rfl
@[simp] theorem wf_cmx (f : Field) (v : Nat) : (s.wf f v).cmx = s.cmx := rfl
@[simp] theorem inc_cmx (a n : Nat) : (s.inc a n).cmx = s.cmx := rfl
@[simp] theorem setReg64_cmx (lo hi n : Nat) : (s.setReg64 lo hi n).cmx = s.cmx := rfl
@[simp] theorem emit_cmx (o : Output) : (s.emit o).cmx = s.cmx := rfl
@[simp] theorem setReg_mer (a n : Nat) : (s.setReg a n).mer = s.mer := rfl
@[simp] theorem wf_mer (f : Field) (v : Nat) : (s.wf f v).mer = s.mer := rfl
@[simp] theorem inc_mer (a n : Nat) : (s.inc a n).mer = s.mer := rfl
@[simp] theorem setReg64_mer (lo hi n : Nat) : (s.setReg64 lo hi n).mer = s.mer := rfl
@[simp] theorem emit_mer (o : Output) : (s.emit o).mer = s.mer := rfl
@[simp] theorem setReg_tim (a n : Nat) : (s.setReg a n).tim = s.tim := rfl
@[simp] theorem wf_tim (f : Field) (v : Nat) : (s.wf f v).tim = s.tim := rfl
@[simp] theorem inc_tim (a n : Nat) : (s.inc a n).tim = s.tim := rfl
@[simp] theorem setReg64_tim (lo hi n : Nat) : (s.setReg64 lo hi n).tim = s.tim := rfl
@[simp] theorem emit_tim (o : Output) : (s.emit o).tim = s.tim := rfl
@[simp] theorem setReg_out (a n : Nat) : (s.setReg a n).out = s.out := rfl
@[simp] theorem wf_out (f : Field) (v : Nat) : (s.wf f v).out = s.out := rfl
@[simp] theorem inc_out (a n : Nat) : (s.inc a n).out = s.out := rfl
@[simp] theorem setReg64_out (lo hi n : Nat) : (s.setReg64 lo hi n).out = s.out := rfl
@[simp] theorem setReg_pending (a n : Nat) : (s.setReg a n).pending = s.pending := rfl
@[simp] theorem wf_pending (f : Field) (v : Nat) : (s.wf f v).pending = s.pending := rfl
@[simp] theorem inc_pending (a n : Nat) : (s.inc a n).pending = s.pending := rfl
@[simp] theorem setReg64_pending (lo hi n : Nat) : (s.setReg64 lo hi n).pending = s.pending := rfl
@[simp] theorem emit_pending (o : Output) : (s.emit o).pending = s.pending := rfl
@[simp] theorem emit_regs (o : Output) : (s.emit o).regs = s.regs := rfl

/-- A fold keeps what its step keeps. -/
theorem foldS_keeps {σ α : Type} (P : σ → Prop) (f : α → σ → σ) (l : List α) (s : σ) (hf : ∀ a t, P t → P (f a t)) (h : P s) : P (foldS f l s) := by
  induction l generalizing s with
  | nil => exact h
  | cons a t ih => exact ih _ (hf a s h)

/-- A fold leaves alone what its step leaves alone. -/
theorem foldS_same {σ α β : Type} (g : σ → β) (f : α → σ → σ) (l : List α) (s : σ) (hf : ∀ a t, g (f a t) = g t) : g (foldS f l s) = g s := by
  induction l generalizing s with
  | nil => rfl
  | cons a t ih => exact (ih _).trans (hf a s)

@[simp] theorem zero_lns (as : List Nat) : (s.zero as).lns = s.lns := foldS_same State.lns _ as s (fun _ _ => rfl)
@[simp] theorem zero_frm (as : List Nat) : (s.zero as).frm = s.frm := foldS_same State.frm _ as s (fun _ _ => rfl)
@[simp] theorem zero_dec (as : List Nat) : (s.zero as).dec = s.dec := foldS_same State.dec _ as s (fun _ _ => rfl)
@[simp] theorem zero_cad (as : List Nat) : (s.zero as).cad = s.cad := foldS_same State.cad _ as s (fun _ _ => rfl)
@[simp] theorem zero_wm (as : List Nat) : (s.zero as).wm = s.wm := foldS_same State.wm _ as s (fun _ _ => rfl)
@[simp] theorem zero_chn (as : List Nat) : (s.zero as).chn = s.chn := foldS_same State.chn _ as s (fun _ _ => rfl)
@[simp] theorem zero_grt (as : List Nat) : (s.zero as).grt = s.grt := foldS_same State.grt _ as s (fun _ _ => rfl)
@[simp] theorem zero_stg (as : List Nat) : (s.zero as).stg = s.stg := foldS_same State.stg _ as s (fun _ _ => rfl)
@[simp] theorem zero_trp (as : List Nat) : (s.zero as).trp = s.trp := foldS_same State.trp _ as s (fun _ _ => rfl)
@[simp] theorem zero_svy (as : List Nat) : (s.zero as).svy = s.svy := foldS_same State.svy _ as s (fun _ _ => rfl)
@[simp] theorem zero_hbm (as : List Nat) : (s.zero as).hbm = s.hbm := foldS_same State.hbm _ as s (fun _ _ => rfl)
@[simp] theorem zero_mem (as : List Nat) : (s.zero as).mem = s.mem := foldS_same State.mem _ as s (fun _ _ => rfl)
@[simp] theorem zero_brg (as : List Nat) : (s.zero as).brg = s.brg := foldS_same State.brg _ as s (fun _ _ => rfl)
@[simp] theorem zero_tru (as : List Nat) : (s.zero as).tru = s.tru := foldS_same State.tru _ as s (fun _ _ => rfl)
@[simp] theorem zero_atl (as : List Nat) : (s.zero as).atl = s.atl := foldS_same State.atl _ as s (fun _ _ => rfl)
@[simp] theorem zero_xar (as : List Nat) : (s.zero as).xar = s.xar := foldS_same State.xar _ as s (fun _ _ => rfl)
@[simp] theorem zero_acc (as : List Nat) : (s.zero as).acc = s.acc := foldS_same State.acc _ as s (fun _ _ => rfl)
@[simp] theorem zero_rsy (as : List Nat) : (s.zero as).rsy = s.rsy := foldS_same State.rsy _ as s (fun _ _ => rfl)
@[simp] theorem zero_hlt (as : List Nat) : (s.zero as).hlt = s.hlt := foldS_same State.hlt _ as s (fun _ _ => rfl)
@[simp] theorem zero_cmx (as : List Nat) : (s.zero as).cmx = s.cmx := foldS_same State.cmx _ as s (fun _ _ => rfl)
@[simp] theorem zero_mer (as : List Nat) : (s.zero as).mer = s.mer := foldS_same State.mer _ as s (fun _ _ => rfl)
@[simp] theorem zero_tim (as : List Nat) : (s.zero as).tim = s.tim := foldS_same State.tim _ as s (fun _ _ => rfl)
@[simp] theorem zero_out (as : List Nat) : (s.zero as).out = s.out := foldS_same State.out _ as s (fun _ _ => rfl)
@[simp] theorem zero_pending (as : List Nat) : (s.zero as).pending = s.pending := foldS_same State.pending _ as s (fun _ _ => rfl)

end Sys2Proof.Machine
end

