-- ==== Sys2Proof/Laws/Access.lean ====
section
/-! SUPPORT. What a register write does when nothing holds the path: the unit's own rule acts at once, and the response leaves. -/

namespace Sys2Proof.Machine

@[simp] theorem picked_regs (m : Master) (a : Nat) (s : State) : (picked m a s).regs = s.regs := rfl
@[simp] theorem picked_reg (m : Master) (a : Nat) (s : State) (b : Nat) : (picked m a s).reg b = s.reg b := rfl
@[simp] theorem picked_rf (m : Master) (a : Nat) (s : State) (f : Field) : (picked m a s).rf f = s.rf f := rfl
@[simp] theorem picked_mode (m : Master) (a : Nat) (s : State) : (picked m a s).mode = s.mode := rfl
@[simp] theorem picked_lns (m : Master) (a : Nat) (s : State) : (picked m a s).lns = s.lns := rfl
@[simp] theorem picked_frm (m : Master) (a : Nat) (s : State) : (picked m a s).frm = s.frm := rfl
@[simp] theorem picked_dec (m : Master) (a : Nat) (s : State) : (picked m a s).dec = s.dec := rfl
@[simp] theorem picked_cad (m : Master) (a : Nat) (s : State) : (picked m a s).cad = s.cad := rfl
@[simp] theorem picked_wm (m : Master) (a : Nat) (s : State) : (picked m a s).wm = s.wm := rfl
@[simp] theorem picked_chn (m : Master) (a : Nat) (s : State) : (picked m a s).chn = s.chn := rfl
@[simp] theorem picked_grt (m : Master) (a : Nat) (s : State) : (picked m a s).grt = s.grt := rfl
@[simp] theorem picked_stg (m : Master) (a : Nat) (s : State) : (picked m a s).stg = s.stg := rfl
@[simp] theorem picked_trp (m : Master) (a : Nat) (s : State) : (picked m a s).trp = s.trp := rfl
@[simp] theorem picked_svy (m : Master) (a : Nat) (s : State) : (picked m a s).svy = s.svy := rfl
@[simp] theorem picked_hbm (m : Master) (a : Nat) (s : State) : (picked m a s).hbm = s.hbm := rfl
@[simp] theorem picked_mem (m : Master) (a : Nat) (s : State) : (picked m a s).mem = s.mem := rfl
@[simp] theorem picked_brg (m : Master) (a : Nat) (s : State) : (picked m a s).brg = s.brg := rfl
@[simp] theorem picked_tru (m : Master) (a : Nat) (s : State) : (picked m a s).tru = s.tru := rfl
@[simp] theorem picked_atl (m : Master) (a : Nat) (s : State) : (picked m a s).atl = s.atl := rfl
@[simp] theorem picked_xar (m : Master) (a : Nat) (s : State) : (picked m a s).xar = s.xar := rfl
@[simp] theorem picked_acc (m : Master) (a : Nat) (s : State) : (picked m a s).acc = s.acc := rfl
@[simp] theorem picked_rsy (m : Master) (a : Nat) (s : State) : (picked m a s).rsy = s.rsy := rfl
@[simp] theorem picked_hlt (m : Master) (a : Nat) (s : State) : (picked m a s).hlt = s.hlt := rfl
@[simp] theorem picked_mer (m : Master) (a : Nat) (s : State) : (picked m a s).mer = s.mer := rfl
@[simp] theorem picked_tim (m : Master) (a : Nat) (s : State) : (picked m a s).tim = s.tim := rfl
@[simp] theorem picked_out (m : Master) (a : Nat) (s : State) : (picked m a s).out = s.out := rfl
@[simp] theorem picked_pending (m : Master) (a : Nat) (s : State) : (picked m a s).pending = s.pending := rfl

theorem routeResp_picked (m : Master) (a b : Nat) (s : State) : routeResp m b (picked m a s) = routeResp m b s := rfl

/-- A whole word of a write request that is not from BAR0. -/
theorem wordAccess_write (q : MatrixReq) (a : Nat) (v : Word) (s : State) (hw : q.write = true) (hb : q.bar = false) :
    wordAccess q a (.word v) s =
      (some ((busWrite q.m a v.toNat q.env s).1, 0),
        if (busWrite q.m a v.toNat q.env s).1 = .okay then
          mboxActs q.m a v.toNat q.env ((busWrite q.m a v.toNat q.env s).2.emit (.writeResp q.m a (busWrite q.m a v.toNat q.env s).1))
        else (busWrite q.m a v.toNat q.env s).2.emit (.writeResp q.m a (busWrite q.m a v.toNat q.env s).1)) := by
  unfold wordAccess
  simp only [hw, hb, if_true, Bool.false_eq_true, if_false]

/-- A one-word request with no lock open. -/
theorem serve_word (q : MatrixReq) (w : Strobe) (s : State) (hw : q.write = true) (ht : q.total = 1) (hq : q.beats = [[w]]) (hl : s.cmx.lock = none) :
    serve q s = (wordAccess q q.addr w (picked q.m q.addr s)).2 := by
  unfold serve
  simp only [hq, ht, hl, List.flatten_cons, List.flatten_nil, List.append_nil, List.length_singleton, Nat.lt_irrefl, if_false]
  unfold lockRead barComplete
  simp only [hw, lockWrite, wordsAccess, Bool.not_true, Bool.and_false, Bool.false_and, Bool.false_eq_true, if_false, Bool.or_true, if_true, picked]
  rw [hl]

/-- A granted write of one word is one matrix write, its response, and what the mailbox does with it. -/
theorem hostWord_granted {m : Master} {a v : Nat} {env : Env} {s : State} (g : Granted m a s) :
    hostWord m a v env s =
      if (busWrite m a (v % 2 ^ 32) env (picked m a s)).1 = .okay then
        mboxActs m a (v % 2 ^ 32) env ((busWrite m a (v % 2 ^ 32) env (picked m a s)).2.emit (.writeResp m a (busWrite m a (v % 2 ^ 32) env (picked m a s)).1))
      else (busWrite m a (v % 2 ^ 32) env (picked m a s)).2.emit (.writeResp m a (busWrite m a (v % 2 ^ 32) env (picked m a s)).1) := by
  obtain ⟨h1, h2, h3, h4, h5⟩ := g
  have hb : portBusy m a s = false := by simp [portBusy, h2, h3]
  unfold hostWord submit
  simp only [h1, hb, h4, Bool.not_true, Bool.false_eq_true, if_false, List.isEmpty_nil, if_true]
  rw [serve_word _ (.word (BitVec.ofNat 32 v)) s rfl rfl rfl h3, wordAccess_write _ _ _ _ rfl rfl]
  simp only [BitVec.toNat_ofNat]

/-- A granted write of a register that its unit accepts. -/
theorem hostWord_accepted {m : Master} {a u v : Nat} {env : Env} {s t : State} (g : Granted m a s) (hu : targetOf a = .unit u) (ha : a % 4 = 0)
    (hm : ∀ w x, mboxActs m a w env x = x) (hw : regWrite m u (a % 0x1000000) (v % 2 ^ 32) env (picked m a s) = some ⟨true, t⟩) :
    hostWord m a v env s = t.emit (.writeResp m a .okay) := by
  rw [hostWord_granted g]
  have hr : routeResp m a (picked m a s) = .okay := g.routed
  have e : busWrite m a (v % 2 ^ 32) env (picked m a s) = (.okay, t) := by
    unfold busWrite
    generalize picked m a s = p at hr hw ⊢
    generalize v % 2 ^ 32 = w at hw ⊢
    simp only [hr, hu, hw, answered, ha, ne_eq, not_true, if_true, if_false]
  rw [e]
  simp only [if_true]
  exact hm _ _

/-- Outside the mailbox a write does nothing besides. -/
theorem mboxActs_other (m : Master) (a v : Nat) (env : Env) (s : State) (h : a < 0x12000400 ∨ 0x12000580 ≤ a) : mboxActs m a v env s = s := by
  unfold mboxActs
  have e : (List.range 3).find? (fun c => decide (a = CMX_MBOX_CMD c) || decide (a = CMX_MBOX_ABORT c)) = none := by
    rw [List.find?_eq_none]
    intro c hc
    have hc := List.mem_range.mp hc
    unfold CMX_MBOX_CMD CMX_MBOX_ABORT
    simp only [Bool.or_eq_true, decide_eq_true_eq, not_or]
    omega
  rw [e]

/-- What is kept of a setting after a write of `a` (R460). -/
def afterSetting (a : Nat) (s : State) : State := if isSetting a then saveSettings s else s

/-- A granted write that the unit's own rule accepts. -/
theorem write_ruled {m : Master} {a u v : Nat} {env : Env} {s t : State} {d : RegDesc} (g : Granted m a s) (hu : targetOf a = .unit u)
    (ha : a = u * 0x1000000 + a % 0x1000000) (h4 : a % 4 = 0) (hd : (unitRegs u).find? (fun d => d.covers (a % 0x1000000)) = some d)
    (hacc : d.acc ≠ .ro ∧ d.acc ≠ .wc) (h10 : a % 0x1000000 ≠ 0x10 ∧ a % 0x1000000 ≠ 0x14) (hbox : a < 0x12000400 ∨ 0x12000580 ≤ a)
    (hw : unitWrite m u (a % 0x1000000) d.wmask ((v % 2 ^ 32) &&& d.vmask) env (picked m a s) = some ⟨true, t⟩) :
    hostWord m a v env s = (afterSetting a t).emit (.writeResp m a .okay) := by
  refine hostWord_accepted g hu h4 (fun w x => mboxActs_other m a w env x hbox) ?_
  unfold regWrite
  rw [hd]
  simp only [h10.1, h10.2, if_false, hw]
  rw [← ha]
  rcases hacc with ⟨h1, h2⟩
  cases hc : d.acc <;> first | exact absurd hc h1 | exact absurd hc h2 | skip
  all_goals (simp only [Bool.true_and]; unfold afterSetting acc; split <;> rfl)

/-- A granted write of a register that only stores. -/
theorem write_stored {m : Master} {a u v : Nat} {env : Env} {s : State} {d : RegDesc} (g : Granted m a s) (hu : targetOf a = .unit u)
    (ha : a = u * 0x1000000 + a % 0x1000000) (h4 : a % 4 = 0) (hd : (unitRegs u).find? (fun d => d.covers (a % 0x1000000)) = some d)
    (hacc : d.acc ≠ .ro ∧ d.acc ≠ .wc) (h10 : a % 0x1000000 ≠ 0x10 ∧ a % 0x1000000 ≠ 0x14) (hbox : a < 0x12000400 ∨ 0x12000580 ≤ a)
    (hw : unitWrite m u (a % 0x1000000) d.wmask ((v % 2 ^ 32) &&& d.vmask) env (picked m a s) = none) :
    hostWord m a v env s = (afterSetting a (storeBits a d.wmask (v % 2 ^ 32) (picked m a s))).emit (.writeResp m a .okay) := by
  refine hostWord_accepted g hu h4 (fun w x => mboxActs_other m a w env x hbox) ?_
  unfold regWrite
  rw [hd]
  simp only [h10.1, h10.2, if_false, hw]
  rw [← ha]
  rcases hacc with ⟨h1, h2⟩
  cases hc : d.acc <;> first | exact absurd hc h1 | exact absurd hc h2 | skip
  all_goals (simp only [acc, Bool.true_and]; unfold afterSetting; split <;> rfl)

/-- The state after a granted write that the unit's rule answers: stored and kept, or refused with SLVERR. -/
def replied (m : Master) (a : Nat) (r : WOut) : State :=
  if r.ok then (afterSetting a r.st).emit (.writeResp m a .okay) else (busError m a true 2 r.st).emit (.writeResp m a .slverr)

theorem targetOf_unit {u a : Nat} (h1 : 1 ≤ u) (h2 : u ≤ 20) (ha : a / 0x1000000 = u) : targetOf a = .unit u := by
  unfold targetOf
  have : ¬ a < 0x10000 := by omega
  have h3 : ¬ (0x100000 ≤ a ∧ a < 0x200000) := by omega
  have h4 : 0x1000000 ≤ a ∧ a < 0x15000000 := by omega
  simp only [this, if_false, Bool.and_eq_true, decide_eq_true_eq, h3, h4, and_self, if_true, ha]

/-- A granted write of a register with a rule of its own. -/
theorem write_rule {m : Master} {a u off v : Nat} {env : Env} {s : State} {d : RegDesc} {r : WOut} (g : Granted m a s)
    (ha : a = u * 0x1000000 + off) (hu : 1 ≤ u ∧ u ≤ 20 ∧ off < 0x1000000 ∧ off % 4 = 0 ∧ off ≠ 0x10 ∧ off ≠ 0x14)
    (hd : (unitRegs u).find? (fun d => d.covers off) = some d) (hacc : d.acc ≠ .ro ∧ d.acc ≠ .wc) (hbox : a < 0x12000400 ∨ 0x12000580 ≤ a)
    (hw : unitWrite m u off d.wmask ((v % 2 ^ 32) &&& d.vmask) env (picked m a s) = some r) :
    hostWord m a v env s = replied m a r := by
  obtain ⟨h1, h2, h3, h4, h10, h14⟩ := hu
  have ho : a % 0x1000000 = off := by omega
  have hr : regWrite m u (a % 0x1000000) (v % 2 ^ 32) env (picked m a s) = some (if r.ok && isSetting a then acc (saveSettings r.st) else r) := by
    unfold regWrite
    rw [ho, hd]
    simp only [h10, h14, if_false, hw]
    rw [← ha]
    rcases hacc with ⟨g1, g2⟩
    cases hc : d.acc <;> first | exact absurd hc g1 | exact absurd hc g2 | rfl
  have ht : targetOf a = .unit u := targetOf_unit h1 h2 (by omega)
  have hrt : routeResp m a (picked m a s) = .okay := g.routed
  rw [hostWord_granted g]
  generalize picked m a s = p at hr hrt hw ⊢
  generalize v % 2 ^ 32 = w at hr hw ⊢
  have hb : busWrite m a w env p = (if r.ok then (.okay, afterSetting a r.st) else (.slverr, busError m a true 2 r.st)) := by
    unfold busWrite
    have ha4 : a % 4 = 0 := by omega
    simp only [hrt, ht, hr, ha4, ne_eq, not_true, if_false]
    unfold afterSetting
    cases hk : r.ok
    · simp only [Bool.false_and, Bool.false_eq_true, if_false, hk, answered, respCause]
      rfl
    · cases isSetting a
      · simp only [Bool.and_false, Bool.false_eq_true, if_false, if_true, hk, answered]
      · simp only [Bool.and_true, if_true, answered, acc]
  rw [hb]
  unfold replied
  cases r.ok
  · simp only [Bool.false_eq_true, if_false, reduceCtorEq]
  · simp only [if_true, mboxActs_other m a w env _ hbox]

/-- A granted write of a register that only stores. -/
theorem write_store {m : Master} {a u off v : Nat} {env : Env} {s : State} {d : RegDesc} (g : Granted m a s)
    (ha : a = u * 0x1000000 + off) (hu : 1 ≤ u ∧ u ≤ 20 ∧ off < 0x1000000 ∧ off % 4 = 0 ∧ off ≠ 0x10 ∧ off ≠ 0x14)
    (hd : (unitRegs u).find? (fun d => d.covers off) = some d) (hacc : d.acc ≠ .ro ∧ d.acc ≠ .wc) (hbox : a < 0x12000400 ∨ 0x12000580 ≤ a)
    (hw : unitWrite m u off d.wmask ((v % 2 ^ 32) &&& d.vmask) env (picked m a s) = none) :
    hostWord m a v env s = replied m a (acc (storeBits a d.wmask (v % 2 ^ 32) (picked m a s))) := by
  obtain ⟨h1, h2, h3, h4, h10, h14⟩ := hu
  have ho : a % 0x1000000 = off := by omega
  exact write_stored g (targetOf_unit h1 h2 (by omega)) (by omega) (by omega) (by rw [ho]; exact hd) hacc (by rw [ho]; exact ⟨h10, h14⟩) hbox (by rw [ho]; exact hw)

/-! What keeping a setting leaves alone: all but the settings store. -/

theorem afterSetting_regs (a : Nat) (s : State) : (afterSetting a s).regs = s.regs := by
  unfold afterSetting saveSettings setArea
  grind

@[simp] theorem afterSetting_lns (a : Nat) (s : State) : (afterSetting a s).lns = s.lns := by
  unfold afterSetting saveSettings setArea; grind
@[simp] theorem afterSetting_frm (a : Nat) (s : State) : (afterSetting a s).frm = s.frm := by
  unfold afterSetting saveSettings setArea; grind
@[simp] theorem afterSetting_dec (a : Nat) (s : State) : (afterSetting a s).dec = s.dec := by
  unfold afterSetting saveSettings setArea; grind
@[simp] theorem afterSetting_cad (a : Nat) (s : State) : (afterSetting a s).cad = s.cad := by
  unfold afterSetting saveSettings setArea; grind
@[simp] theorem afterSetting_wm (a : Nat) (s : State) : (afterSetting a s).wm = s.wm := by
  unfold afterSetting saveSettings setArea; grind
@[simp] theorem afterSetting_chn (a : Nat) (s : State) : (afterSetting a s).chn = s.chn := by
  unfold afterSetting saveSettings setArea; grind
@[simp] theorem afterSetting_grt (a : Nat) (s : State) : (afterSetting a s).grt = s.grt := by
  unfold afterSetting saveSettings setArea; grind
@[simp] theorem afterSetting_stg (a : Nat) (s : State) : (afterSetting a s).stg = s.stg := by
  unfold afterSetting saveSettings setArea; grind
@[simp] theorem afterSetting_trp (a : Nat) (s : State) : (afterSetting a s).trp = s.trp := by
  unfold afterSetting saveSettings setArea; grind
@[simp] theorem afterSetting_svy (a : Nat) (s : State) : (afterSetting a s).svy = s.svy := by
  unfold afterSetting saveSettings setArea; grind
@[simp] theorem afterSetting_hbm (a : Nat) (s : State) : (afterSetting a s).hbm = s.hbm := by
  unfold afterSetting saveSettings setArea; grind
@[simp] theorem afterSetting_mem (a : Nat) (s : State) : (afterSetting a s).mem = s.mem := by
  unfold afterSetting saveSettings setArea; grind
@[simp] theorem afterSetting_brg (a : Nat) (s : State) : (afterSetting a s).brg = s.brg := by
  unfold afterSetting saveSettings setArea; grind
@[simp] theorem afterSetting_atl (a : Nat) (s : State) : (afterSetting a s).atl = s.atl := by
  unfold afterSetting saveSettings setArea; grind
@[simp] theorem afterSetting_xar (a : Nat) (s : State) : (afterSetting a s).xar = s.xar := by
  unfold afterSetting saveSettings setArea; grind
@[simp] theorem afterSetting_acc (a : Nat) (s : State) : (afterSetting a s).acc = s.acc := by
  unfold afterSetting saveSettings setArea; grind
@[simp] theorem afterSetting_rsy (a : Nat) (s : State) : (afterSetting a s).rsy = s.rsy := by
  unfold afterSetting saveSettings setArea; grind
@[simp] theorem afterSetting_hlt (a : Nat) (s : State) : (afterSetting a s).hlt = s.hlt := by
  unfold afterSetting saveSettings setArea; grind
@[simp] theorem afterSetting_cmx (a : Nat) (s : State) : (afterSetting a s).cmx = s.cmx := by
  unfold afterSetting saveSettings setArea; grind
@[simp] theorem afterSetting_mer (a : Nat) (s : State) : (afterSetting a s).mer = s.mer := by
  unfold afterSetting saveSettings setArea; grind
@[simp] theorem afterSetting_tim (a : Nat) (s : State) : (afterSetting a s).tim = s.tim := by
  unfold afterSetting saveSettings setArea; grind
@[simp] theorem afterSetting_out (a : Nat) (s : State) : (afterSetting a s).out = s.out := by
  unfold afterSetting saveSettings setArea; grind
@[simp] theorem afterSetting_pending (a : Nat) (s : State) : (afterSetting a s).pending = s.pending := by
  unfold afterSetting saveSettings setArea; grind

@[simp] theorem afterSetting_reg (a : Nat) (s : State) (b : Nat) : (afterSetting a s).reg b = s.reg b := by
  unfold State.reg; rw [afterSetting_regs]

@[simp] theorem afterSetting_rf (a : Nat) (s : State) (f : Field) : (afterSetting a s).rf f = s.rf f := by
  unfold State.rf; rw [afterSetting_reg]

end Sys2Proof.Machine
end

