-- ==== Sys2Proof/Laws/Kept.lean ====
section
/-!
SUPPORT. What every operation keeps: the registers and the memory in their canonical form, the queue of waiting commands, and the bounds
of the event log's queue (R439) and of the memory's error log (R351). One lemma per operation, here for the shared ones and in the
other files Kept* for the units.
-/

namespace Sys2Proof.Machine

/-- The registers and the memory are in canonical form, the log queue and the error log within their sizes, and `q` waits. -/
structure Kept (q : List Instr) (s : State) : Prop where
  regs : smapWf regReset s.regs = true
  hbm : Memory.wf s.hbm = true
  pending : s.pending = q
  logQ : s.hlt.logQ.length ≤ 4096
  ueLog : s.mem.log.length ≤ 16

variable {q : List Instr} {s : State}

/-- An update of what the five facts do not speak of keeps them. -/
theorem kept_of {t : State} (h : Kept q s) (hr : t.regs = s.regs := by rfl) (hh : t.hbm = s.hbm := by rfl) (hp : t.pending = s.pending := by rfl)
    (hl : t.hlt.logQ = s.hlt.logQ := by rfl) (hu : t.mem.log = s.mem.log := by rfl) : Kept q t :=
  ⟨hr ▸ h.regs, hh ▸ h.hbm, hp ▸ h.pending, hl ▸ h.logQ, hu ▸ h.ueLog⟩

/-- The five facts of a state written out. -/
theorem kept_mk {r : List (Nat × Word)} {lns frm dec cad wm chn grt stg trp svy b mem brg tru atl xar acc rsy hlt cmx mer tim out p} :
    Kept q (State.mk r lns frm dec cad wm chn grt stg trp svy b mem brg tru atl xar acc rsy hlt cmx mer tim out p)
      ↔ (smapWf regReset r = true ∧ Memory.wf b = true ∧ p = q ∧ hlt.logQ.length ≤ 4096 ∧ mem.log.length ≤ 16) :=
  ⟨fun h => ⟨h.1, h.2, h.3, h.4, h.5⟩, fun h => ⟨h.1, h.2.1, h.2.2.1, h.2.2.2.1, h.2.2.2.2⟩⟩

/-- A part of a canonical map is canonical. -/
theorem smapWf_filter {α : Type} [DecidableEq α] (d : Nat → α) (f : Nat × α → Bool) (m : List (Nat × α)) (h : smapWf d m = true) :
    smapWf d (m.filter f) = true := by
  rw [smapWf_iff] at *
  suffices hs : ∀ lo, above d lo m → above d lo (m.filter f) from hs none h
  intro lo h
  clear * - h
  induction m generalizing lo with
  | nil => trivial
  | cons e t ih =>
    obtain ⟨a, v⟩ := e
    rw [List.filter_cons]
    split
    · exact ⟨h.1, h.2.1, ih _ h.2.2⟩
    · exact ih lo (above_mono d h.2.2 (fun b hb => ⟨a, rfl, Nat.le_of_lt (h.1 b hb)⟩))

/-- A map written entry by entry is canonical. -/
theorem smapWf_writes {α : Type} [DecidableEq α] (d : α) (l : List (Nat × α)) :
    smapWf (fun _ => d) (foldS (fun (x : Nat × α) m => sset d m x.1 x.2) l []) = true :=
  foldS_keeps (fun m => smapWf (fun _ => d) m = true) _ l [] (fun x m h => smapWf_sset (fun _ => d) m x.1 x.2 h) rfl

/-! One lemma per field that the five facts do not speak of. -/

theorem kept_with_lns (x) (h : Kept q s) : Kept q { s with lns := x } := ⟨h.1, h.2, h.3, h.4, h.5⟩
theorem kept_with_frm (x) (h : Kept q s) : Kept q { s with frm := x } := ⟨h.1, h.2, h.3, h.4, h.5⟩
theorem kept_with_dec (x) (h : Kept q s) : Kept q { s with dec := x } := ⟨h.1, h.2, h.3, h.4, h.5⟩
theorem kept_with_cad (x) (h : Kept q s) : Kept q { s with cad := x } := ⟨h.1, h.2, h.3, h.4, h.5⟩
theorem kept_with_wm (x) (h : Kept q s) : Kept q { s with wm := x } := ⟨h.1, h.2, h.3, h.4, h.5⟩
theorem kept_with_chn (x) (h : Kept q s) : Kept q { s with chn := x } := ⟨h.1, h.2, h.3, h.4, h.5⟩
theorem kept_with_grt (x) (h : Kept q s) : Kept q { s with grt := x } := ⟨h.1, h.2, h.3, h.4, h.5⟩
theorem kept_with_stg (x) (h : Kept q s) : Kept q { s with stg := x } := ⟨h.1, h.2, h.3, h.4, h.5⟩
theorem kept_with_trp (x) (h : Kept q s) : Kept q { s with trp := x } := ⟨h.1, h.2, h.3, h.4, h.5⟩
theorem kept_with_svy (x) (h : Kept q s) : Kept q { s with svy := x } := ⟨h.1, h.2, h.3, h.4, h.5⟩
theorem kept_with_brg (x) (h : Kept q s) : Kept q { s with brg := x } := ⟨h.1, h.2, h.3, h.4, h.5⟩
theorem kept_with_tru (x) (h : Kept q s) : Kept q { s with tru := x } := ⟨h.1, h.2, h.3, h.4, h.5⟩
theorem kept_with_atl (x) (h : Kept q s) : Kept q { s with atl := x } := ⟨h.1, h.2, h.3, h.4, h.5⟩
theorem kept_with_xar (x) (h : Kept q s) : Kept q { s with xar := x } := ⟨h.1, h.2, h.3, h.4, h.5⟩
theorem kept_with_acc (x) (h : Kept q s) : Kept q { s with acc := x } := ⟨h.1, h.2, h.3, h.4, h.5⟩
theorem kept_with_rsy (x) (h : Kept q s) : Kept q { s with rsy := x } := ⟨h.1, h.2, h.3, h.4, h.5⟩
theorem kept_with_cmx (x) (h : Kept q s) : Kept q { s with cmx := x } := ⟨h.1, h.2, h.3, h.4, h.5⟩
theorem kept_with_mer (x) (h : Kept q s) : Kept q { s with mer := x } := ⟨h.1, h.2, h.3, h.4, h.5⟩
theorem kept_with_tim (x) (h : Kept q s) : Kept q { s with tim := x } := ⟨h.1, h.2, h.3, h.4, h.5⟩
theorem kept_with_out (x) (h : Kept q s) : Kept q { s with out := x } := ⟨h.1, h.2, h.3, h.4, h.5⟩
theorem kept_with_hlt (x : HltSt) (h : Kept q s) (hl : x.logQ = s.hlt.logQ) : Kept q { s with hlt := x } := ⟨h.1, h.2, h.3, hl ▸ h.4, h.5⟩
theorem kept_with_mem (x : MemSt) (h : Kept q s) (hl : x.log = s.mem.log) : Kept q { s with mem := x } := ⟨h.1, h.2, h.3, h.4, hl ▸ h.5⟩

/-- The state of a pair that a match has taken apart. -/
theorem kept_snd {α : Type} {p : α × State} {a : α} {t : State} (h : Kept q p.2) (e : p = (a, t)) : Kept q t := by subst e; exact h

theorem kept_snd2 {α β : Type} {p : α × β × State} {a : α} {b : β} {t : State} (h : Kept q p.2.2) (e : p = (a, b, t)) : Kept q t := by subst e; exact h

theorem kept_st {o : Option WOut} {w : WOut} (h : ∀ r, o = some r → Kept q r.st) (e : o = some w) : Kept q w.st := h w e

theorem kept_get {o : Option State} {t : State} (h : ∀ r, o = some r → Kept q r) (e : o = some t) : Kept q t := h t e

theorem kept_get2 {α : Type} {o : Option (α × State)} {a : α} {t : State} (h : ∀ r, o = some r → Kept q r.2) (e : o = some (a, t)) : Kept q t := h _ e

theorem kept_some {w : WOut} (h : Kept q w.st) : ∀ r, some w = some r → Kept q r.st := by
  intro r e; cases e; exact h

theorem kept_none : ∀ r, (none : Option WOut) = some r → Kept q r.st := by simp

theorem kept_ite_opt {c : Prop} [Decidable c] {a b : Option WOut} (h : ∀ r, a = some r → Kept q r.st) (h' : ∀ r, b = some r → Kept q r.st) :
    ∀ r, (if c then a else b) = some r → Kept q r.st := by
  split <;> assumption

theorem kept_next {o : Host.Outcome State Fault Refusal} {t : State} (h : ∀ r, o = .next r → Kept q r) (e : o = .next t) : Kept q t := h t e

theorem kept_ite {c : Prop} [Decidable c] {t : State} (h : Kept q s) (h' : Kept q t) : Kept q (if c then s else t) := by
  split <;> assumption

theorem kept_ite_st {c : Prop} [Decidable c] {a b : WOut} (h : Kept q a.st) (h' : Kept q b.st) : Kept q (if c then a else b).st := by
  split <;> assumption

theorem kept_ite_snd {α : Type} {c : Prop} [Decidable c] {a b : α × State} (h : Kept q a.2) (h' : Kept q b.2) : Kept q (if c then a else b).2 := by
  split <;> assumption

theorem kept_setReg (a n : Nat) (h : Kept q s) : Kept q (s.setReg a n) :=
  ⟨smapWf_sset regReset s.regs a _ h.regs, h.hbm, h.pending, h.logQ, h.ueLog⟩

theorem kept_wf (f : Field) (v : Nat) (h : Kept q s) : Kept q (s.wf f v) := kept_setReg _ _ h
theorem kept_inc (a n : Nat) (h : Kept q s) : Kept q (s.inc a n) := kept_setReg _ _ h
theorem kept_setReg64 (lo hi n : Nat) (h : Kept q s) : Kept q (s.setReg64 lo hi n) := kept_setReg _ _ (kept_setReg _ _ h)
theorem kept_emit (o : Output) (h : Kept q s) : Kept q (s.emit o) := ⟨h.1, h.2, h.3, h.4, h.5⟩

theorem kept_foldS {α : Type} (f : α → State → State) (l : List α) (hf : ∀ a t, Kept q t → Kept q (f a t)) (h : Kept q s) :
    Kept q (foldS f l s) := foldS_keeps (Kept q) f l s hf h

theorem kept_zero (as : List Nat) (h : Kept q s) : Kept q (s.zero as) := kept_foldS _ _ (fun _ _ h => kept_setReg _ _ h) h

theorem kept_storeBits (a w v : Nat) (h : Kept q s) : Kept q (storeBits a w v s) := kept_setReg _ _ h

theorem kept_sendVector (u : Nat) (h : Kept q s) : Kept q (sendVector u s) := by
  unfold sendVector; grind [kept_setReg, kept_emit]

theorem kept_withIrq (u : Nat) (f : State → State) (hf : ∀ t, Kept q t → Kept q (f t)) (h : Kept q s) : Kept q (withIrq u f s) := by
  unfold withIrq; grind [kept_sendVector]

theorem length_findIdx {α : Type} (p : α → Bool) (l : List α) (i : Nat) (h : findIdx? p l = some i) : i < l.length := by
  induction l generalizing i with
  | nil => simp [findIdx?] at h
  | cons a t ih =>
    simp only [findIdx?] at h
    split at h
    · cases h; simp
    · obtain ⟨j, hj, rfl⟩ := Option.map_eq_some_iff.mp h
      have := ih j hj
      simp; omega

theorem length_dropNewestNote (l m : List LogRec) (h : dropNewestNote l = some m) : m.length ≤ l.length - 1 := by
  unfold dropNewestNote at h
  split at h
  · next i hi =>
    cases h
    have := length_findIdx _ _ _ hi
    simp only [List.length_reverse] at this ⊢
    rw [List.length_eraseIdx_of_lt (by simpa using this)]
    simp
  · cases h

theorem kept_queueRec (r : LogRec) (h : Kept q s) : Kept q (queueRec r s) := by
  obtain ⟨h1, h2, h3, h4, h5⟩ := h
  unfold queueRec
  split
  · next hl => exact ⟨h1, h2, h3, by simp; omega, h5⟩
  · dsimp only
    split
    · exact ⟨smapWf_sset regReset _ _ _ h1, h2, h3, h4, h5⟩
    · split
      · next m hm =>
        have := length_dropNewestNote _ _ hm
        refine ⟨smapWf_sset regReset _ _ _ h1, h2, h3, ?_, h5⟩
        simp; omega
      · exact ⟨smapWf_sset regReset _ _ _ h1, h2, h3, h4, h5⟩

theorem kept_countAat (code : Nat) (h : Kept q s) : Kept q (countAat code s) := by
  unfold countAat
  apply kept_foldS _ _ _ h
  intro a t h
  grind [kept_mk, Kept]

theorem kept_raise (e : Ev) (a b : Nat) (h : Kept q s) : Kept q (raise e a b s) := by
  unfold raise
  have := kept_withIrq (e.code / 256) (fun t => t.setReg (UNIT_EVENT (e.code / 256)) (t.reg (UNIT_EVENT (e.code / 256)) ||| 2 ^ (e.code % 256 - 1)))
    (fun _ h => kept_setReg _ _ h) h
  dsimp only
  split
  · exact kept_queueRec _ (kept_countAat _ this)
  · exact kept_countAat _ this

theorem kept_logOpen (u k : Nat) (sev : Sev) (a0 a1 : Nat) (h : Kept q s) : Kept q (logOpen u k sev a0 a1 s) := by
  unfold logOpen; grind [kept_queueRec]

theorem kept_acc (h : Kept q s) : Kept q (acc s).st := h
theorem kept_refuse (u a0 a1 : Nat) (h : Kept q s) : Kept q (refuse u a0 a1 s).st := kept_raise _ _ _ h

theorem kept_setHbmByte (a : Nat) (b : Byte) (h : Kept q s) : Kept q (setHbmByte a b s) :=
  ⟨h.1, smapWf_sset (fun _ => 0#8) s.hbm _ b h.2, h.3, h.4, h.5⟩

end Sys2Proof.Machine
end

