-- ==== Sys2Proof/Laws/KeptFrames.lean ====
section
/-! SUPPORT. What the operations of Machine/Frames keep (Laws/Kept). -/

namespace Sys2Proof.Machine

variable {cmds : List Instr}

theorem kept_sigAdd (n : Nat) (c : Nat) (p : Nat) (src : Nat) (bs : List Byte) (exempt : Bool) {s : State} (hk : Kept cmds s) :
    Kept cmds (sigAdd n c p src bs exempt s) := by
  unfold sigAdd
  try dsimp only
  all_goals (with_reducible repeat' first | assumption | rfl | apply kept_ite | apply kept_ite_st | apply kept_ite_snd | apply kept_acc | split | refine kept_snd ?_ (by assumption) | refine kept_snd2 ?_ (by assumption) | refine kept_st ?_ (by assumption) | refine kept_get ?_ (by assumption) | refine kept_get2 ?_ (by assumption) | apply kept_with_acc)

end Sys2Proof.Machine
end

