-- ==== Sys2Proof/Laws/KeptLanes.lean ====
section
/-! SUPPORT. What the operations of Machine/Lanes keep (Laws/Kept). -/

namespace Sys2Proof.Machine

variable {cmds : List Instr}

theorem kept_State_setLane {s : State} (n : Nat) (l : LaneSt) (hk : Kept cmds s) :
    Kept cmds (State.setLane s n l) := by
  unfold State.setLane
  try dsimp only
  all_goals (with_reducible repeat' first | assumption | rfl | apply kept_wf | split | refine kept_snd ?_ (by assumption) | refine kept_snd2 ?_ (by assumption) | refine kept_st ?_ (by assumption) | refine kept_get ?_ (by assumption) | refine kept_get2 ?_ (by assumption) | apply kept_with_lns)

theorem kept_ckCommit (n : Nat) {s : State} (hk : Kept cmds s) :
    Kept cmds (ckCommit n s) := by
  unfold ckCommit
  try dsimp only
  all_goals (with_reducible repeat' first | assumption | rfl | apply kept_wf | split | refine kept_snd ?_ (by assumption) | refine kept_snd2 ?_ (by assumption) | refine kept_st ?_ (by assumption) | refine kept_get ?_ (by assumption) | refine kept_get2 ?_ (by assumption) | apply kept_with_frm)

theorem kept_ckCommitIfQuiet (n : Nat) {s : State} (hk : Kept cmds s) :
    Kept cmds (ckCommitIfQuiet n s) := by
  unfold ckCommitIfQuiet
  try dsimp only
  all_goals (with_reducible repeat' first | assumption | rfl | apply kept_ite | apply kept_ite_st | apply kept_ite_snd | apply kept_ckCommit)

theorem kept_ckLoadPreset (n : Nat) {s : State} (hk : Kept cmds s) :
    Kept cmds (ckLoadPreset n s) := by
  unfold ckLoadPreset
  try dsimp only
  all_goals (with_reducible repeat' first | assumption | rfl | apply kept_setReg64 | apply kept_wf)

theorem kept_nextSeq (p : Nat) (cls : Nat) {s : State} (hk : Kept cmds s) :
    Kept cmds (nextSeq p cls s).2 := by
  unfold nextSeq
  try dsimp only
  all_goals (with_reducible repeat' first | assumption | rfl | split | refine kept_snd ?_ (by assumption) | refine kept_snd2 ?_ (by assumption) | refine kept_st ?_ (by assumption) | refine kept_get ?_ (by assumption) | refine kept_get2 ?_ (by assumption) | apply kept_with_frm)

theorem kept_putOnLane (n : Nat) (f : Frame) {s : State} (hk : Kept cmds s) :
    Kept cmds (putOnLane n f s) := by
  unfold putOnLane
  try dsimp only
  all_goals (with_reducible repeat' first | assumption | rfl | apply kept_emit | apply kept_inc)

theorem kept_sendLanes (ls : List Nat) (f : Frame) {s : State} (hk : Kept cmds s) :
    Kept cmds (sendLanes ls f s) := by
  unfold sendLanes
  try dsimp only
  all_goals (with_reducible repeat' first | assumption | rfl | apply kept_putOnLane | split | refine kept_snd ?_ (by assumption) | refine kept_snd2 ?_ (by assumption) | refine kept_st ?_ (by assumption) | refine kept_get ?_ (by assumption) | refine kept_get2 ?_ (by assumption) | apply kept_with_frm)

theorem kept_flushWaiting (n : Nat) {s : State} (hk : Kept cmds s) :
    Kept cmds (flushWaiting n s) := by
  unfold flushWaiting
  try dsimp only
  all_goals (with_reducible repeat' first | assumption | rfl | apply kept_foldS | apply kept_putOnLane | (intro _ _ _) | (intro _ _) | split | refine kept_snd ?_ (by assumption) | refine kept_snd2 ?_ (by assumption) | refine kept_st ?_ (by assumption) | refine kept_get ?_ (by assumption) | refine kept_get2 ?_ (by assumption) | apply kept_with_frm)

theorem kept_fixGen (n : Nat) {s : State} (hk : Kept cmds s) :
    Kept cmds (fixGen n s) := by
  unfold fixGen
  try dsimp only
  all_goals (with_reducible repeat' first | assumption | rfl | apply kept_State_setLane | apply kept_raise | split)

theorem kept_freshFlows (k : Nat) {s : State} (hk : Kept cmds s) :
    Kept cmds (freshFlows k s) := by
  unfold freshFlows
  try dsimp only
  all_goals (with_reducible repeat' first | assumption | rfl | apply kept_ite | apply kept_ite_st | apply kept_ite_snd | (intro _ _ _) | (intro _ _) | split | refine kept_snd ?_ (by assumption) | refine kept_snd2 ?_ (by assumption) | refine kept_st ?_ (by assumption) | refine kept_get ?_ (by assumption) | refine kept_get2 ?_ (by assumption) | apply kept_with_frm)

theorem kept_enterActive (n : Nat) {s : State} (hk : Kept cmds s) :
    Kept cmds (enterActive n s) := by
  unfold enterActive
  try dsimp only
  all_goals (with_reducible repeat' first | assumption | rfl | apply kept_State_setLane | apply kept_fixGen | apply kept_flushWaiting | apply kept_freshFlows | apply kept_wf)

theorem kept_startTraining (n : Nat) {s : State} (hk : Kept cmds s) :
    Kept cmds (startTraining n s) := by
  unfold startTraining
  try dsimp only
  all_goals (with_reducible repeat' first | assumption | rfl | apply kept_State_setLane | apply kept_ckCommitIfQuiet | apply kept_wf)

theorem kept_disableLane (n : Nat) {s : State} (hk : Kept cmds s) :
    Kept cmds (disableLane n s) := by
  unfold disableLane
  try dsimp only
  all_goals (with_reducible repeat' first | assumption | rfl | apply kept_State_setLane | apply kept_wf)

theorem kept_idleEnter (n : Nat) (inProgress : Bool) (auto : Bool) {s : State} (hk : Kept cmds s) :
    Kept cmds (idleEnter n inProgress auto s) := by
  unfold idleEnter
  try dsimp only
  all_goals (with_reducible repeat' first | assumption | rfl | apply kept_ite | apply kept_ite_st | apply kept_ite_snd | apply kept_State_setLane | apply kept_emit)

theorem kept_idleEntryDone (n : Nat) {s : State} (hk : Kept cmds s) :
    Kept cmds (idleEntryDone n s) := by
  unfold idleEntryDone
  try dsimp only
  all_goals (with_reducible repeat' first | assumption | rfl | apply kept_ite | apply kept_ite_st | apply kept_ite_snd | apply kept_State_setLane | apply kept_emit)

theorem kept_sendLinkInfo (n : Nat) {s : State} (hk : Kept cmds s) :
    Kept cmds (sendLinkInfo n s) := by
  unfold sendLinkInfo
  try dsimp only
  all_goals (with_reducible repeat' first | assumption | rfl | apply kept_State_setLane | apply kept_emit)

theorem kept_idleExit (n : Nat) {s : State} (hk : Kept cmds s) :
    Kept cmds (idleExit n s) := by
  unfold idleExit
  try dsimp only
  all_goals (with_reducible repeat' first | assumption | rfl | apply kept_ite | apply kept_ite_st | apply kept_ite_snd | apply kept_State_setLane | apply kept_ckCommitIfQuiet | apply kept_emit | apply kept_flushWaiting | apply kept_inc | apply kept_sendLinkInfo)

theorem kept_idleExitRequest (n : Nat) (firstSleepSent : Bool) {s : State} (hk : Kept cmds s) :
    Kept cmds (idleExitRequest n firstSleepSent s) := by
  unfold idleExitRequest
  try dsimp only
  all_goals (with_reducible repeat' first | assumption | rfl | apply kept_ite | apply kept_ite_st | apply kept_ite_snd | apply kept_State_setLane | apply kept_idleEntryDone | apply kept_idleExit)

theorem kept_checkEye (n : Nat) {s : State} (hk : Kept cmds s) :
    Kept cmds (checkEye n s) := by
  unfold checkEye
  try dsimp only
  all_goals (with_reducible repeat' first | assumption | rfl | apply kept_ite | apply kept_ite_st | apply kept_ite_snd | apply kept_raise)

theorem kept_adaptLane (n : Nat) (hs : List (BitVec 8)) {s : State} (hk : Kept cmds s) :
    Kept cmds (adaptLane n hs s) := by
  unfold adaptLane
  try dsimp only
  all_goals (with_reducible repeat' first | assumption | rfl | apply kept_checkEye | apply kept_wf)

theorem kept_lnsBasicWrite (v : Nat) {s : State} (hk : Kept cmds s) :
    Kept cmds (lnsBasicWrite v s) := by
  unfold lnsBasicWrite
  try dsimp only
  all_goals (with_reducible repeat' first | assumption | rfl | apply kept_ite | apply kept_ite_st | apply kept_ite_snd | apply kept_disableLane | apply kept_foldS | apply kept_startTraining | apply kept_storeBits | (intro _ _ _))

theorem kept_octetRoleWrite (k : Nat) (v : Nat) {s : State} (hk : Kept cmds s) :
    Kept cmds (octetRoleWrite k v s).st := by
  unfold octetRoleWrite
  try dsimp only
  all_goals (with_reducible repeat' first | assumption | rfl | apply kept_ite | apply kept_ite_st | apply kept_ite_snd | apply kept_acc | apply kept_disableLane | apply kept_foldS | apply kept_refuse | apply kept_setReg | apply kept_startTraining)

theorem kept_txFirWrite (n : Nat) (v : Nat) {s : State} (hk : Kept cmds s) :
    Kept cmds (txFirWrite n v s).st := by
  unfold txFirWrite
  try dsimp only
  all_goals (with_reducible repeat' first | assumption | rfl | apply kept_ite | apply kept_ite_st | apply kept_ite_snd | apply kept_acc | apply kept_refuse | apply kept_storeBits)

theorem kept_laneCtrlWrite (n : Nat) (v : Nat) (inProgress : Bool) (firstSleepSent : Bool) (hs : List (BitVec 8)) {s : State} (hk : Kept cmds s) :
    Kept cmds (laneCtrlWrite n v inProgress firstSleepSent hs s).st := by
  unfold laneCtrlWrite
  try dsimp only
  all_goals (with_reducible repeat' first | assumption | rfl | apply kept_ite | apply kept_ite_st | apply kept_ite_snd | apply kept_acc | apply kept_adaptLane | apply kept_idleEnter | apply kept_idleExitRequest | apply kept_refuse | apply kept_startTraining | apply kept_storeBits)

theorem kept_lnsCntClear (v : Nat) {s : State} (hk : Kept cmds s) :
    Kept cmds (lnsCntClear v s) := by
  unfold lnsCntClear
  try dsimp only
  all_goals (with_reducible repeat' first | assumption | rfl | apply kept_ite | apply kept_ite_st | apply kept_ite_snd | apply kept_foldS | apply kept_zero | (intro _ _ _))

theorem kept_ckPresetWrite (v : Nat) {s : State} (hk : Kept cmds s) :
    Kept cmds (ckPresetWrite v s).st := by
  unfold ckPresetWrite
  try dsimp only
  all_goals (with_reducible repeat' first | assumption | rfl | apply kept_ite | apply kept_ite_st | apply kept_ite_snd | apply kept_acc | apply kept_ckLoadPreset | apply kept_foldS | apply kept_refuse | apply kept_setReg | apply kept_wf | (intro _ _ _))

theorem kept_ckShadowWrite (n : Nat) (w : Nat) (v : Nat) {s : State} (hk : Kept cmds s) :
    Kept cmds (ckShadowWrite n w v s).st := by
  unfold ckShadowWrite
  try dsimp only
  all_goals (with_reducible repeat' first | assumption | rfl | apply kept_ite | apply kept_ite_st | apply kept_ite_snd | apply kept_acc | apply kept_raise | apply kept_storeBits)

theorem kept_portCfgWrite (p : Nat) (v : Nat) {s : State} (hk : Kept cmds s) :
    Kept cmds (portCfgWrite p v s).st := by
  unfold portCfgWrite
  try dsimp only
  all_goals (with_reducible repeat' first | assumption | rfl | apply kept_ite | apply kept_ite_st | apply kept_ite_snd | apply kept_acc | apply kept_refuse | apply kept_storeBits)

theorem kept_frmCntClear (v : Nat) {s : State} (hk : Kept cmds s) :
    Kept cmds (frmCntClear v s) := by
  unfold frmCntClear
  try dsimp only
  all_goals (with_reducible repeat' first | assumption | rfl | apply kept_ite | apply kept_ite_st | apply kept_ite_snd | apply kept_foldS | apply kept_zero | (intro _ _ _))

theorem kept_portDrop (p : Nat) (n : Nat) {s : State} (hk : Kept cmds s) :
    Kept cmds (portDrop p n s) := by
  unfold portDrop
  try dsimp only
  all_goals (with_reducible repeat' first | assumption | rfl | apply kept_inc | apply kept_raise)

theorem kept_sendPortFor (pl : Nat) (p : Nat) (f : Frame) {s : State} (hk : Kept cmds s) :
    Kept cmds (sendPortFor pl p f s) := by
  unfold sendPortFor
  try dsimp only
  all_goals (with_reducible repeat' first | assumption | rfl | apply kept_ite | apply kept_ite_st | apply kept_ite_snd | apply kept_emit | apply kept_inc | apply kept_nextSeq | apply kept_portDrop | (intro _ _ _) | (intro _ _) | split | refine kept_snd ?_ (by assumption) | refine kept_snd2 ?_ (by assumption) | refine kept_st ?_ (by assumption) | refine kept_get ?_ (by assumption) | refine kept_get2 ?_ (by assumption) | apply kept_with_frm)

theorem kept_sendPort (p : Nat) (f : Frame) {s : State} (hk : Kept cmds s) :
    Kept cmds (sendPort p f s) := by
  unfold sendPort
  try dsimp only
  all_goals (with_reducible repeat' first | assumption | rfl | apply kept_sendPortFor)

theorem kept_setRxBytes (k : Nat) (n : Nat) {s : State} (hk : Kept cmds s) :
    Kept cmds (setRxBytes k n s) := by
  unfold setRxBytes
  try dsimp only
  all_goals (with_reducible repeat' first | assumption | rfl | apply kept_ite | apply kept_ite_st | apply kept_ite_snd | apply kept_raise | apply kept_wf | split | refine kept_snd ?_ (by assumption) | refine kept_snd2 ?_ (by assumption) | refine kept_st ?_ (by assumption) | refine kept_get ?_ (by assumption) | refine kept_get2 ?_ (by assumption) | apply kept_with_cad)

theorem kept_rxRelease (k : Nat) (f : Frame) {s : State} (hk : Kept cmds s) :
    Kept cmds (rxRelease k f s) := by
  unfold rxRelease
  try dsimp only
  all_goals (with_reducible repeat' first | assumption | rfl | apply kept_setRxBytes)

theorem kept_State_setFlow {s : State} (k : Nat) (f : FlowSt) (hk : Kept cmds s) :
    Kept cmds (State.setFlow s k f) := by
  unfold State.setFlow
  try dsimp only
  all_goals (with_reducible repeat' first | assumption | rfl | split | refine kept_snd ?_ (by assumption) | refine kept_snd2 ?_ (by assumption) | refine kept_st ?_ (by assumption) | refine kept_get ?_ (by assumption) | refine kept_get2 ?_ (by assumption) | apply kept_with_frm)

theorem kept_ckFail (n : Nat) {s : State} (hk : Kept cmds s) :
    Kept cmds (ckFail n s) := by
  unfold ckFail
  try dsimp only
  all_goals (with_reducible repeat' first | assumption | rfl | apply kept_ite | apply kept_ite_st | apply kept_ite_snd | apply kept_inc | apply kept_raise | split | refine kept_snd ?_ (by assumption) | refine kept_snd2 ?_ (by assumption) | refine kept_st ?_ (by assumption) | refine kept_get ?_ (by assumption) | refine kept_get2 ?_ (by assumption) | apply kept_with_frm)

theorem kept_ckGood (n : Nat) {s : State} (hk : Kept cmds s) :
    Kept cmds (ckGood n s) := by
  unfold ckGood
  try dsimp only
  all_goals (with_reducible repeat' first | assumption | rfl | split | refine kept_snd ?_ (by assumption) | refine kept_snd2 ?_ (by assumption) | refine kept_st ?_ (by assumption) | refine kept_get ?_ (by assumption) | refine kept_get2 ?_ (by assumption) | apply kept_with_frm)

theorem kept_rxLane (n : Nat) (f : Frame) (chk : Nat) {s : State} (hk : Kept cmds s) :
    Kept cmds (rxLane n f chk s).2 := by
  unfold rxLane
  try dsimp only
  all_goals (with_reducible repeat' first | assumption | rfl | apply kept_ite | apply kept_ite_st | apply kept_ite_snd | apply kept_ckFail | apply kept_ckGood | apply kept_inc | split | refine kept_snd ?_ (by assumption) | refine kept_snd2 ?_ (by assumption) | refine kept_st ?_ (by assumption) | refine kept_get ?_ (by assumption) | refine kept_get2 ?_ (by assumption) | apply kept_with_frm)

theorem kept_queueVoids (first : Nat) (count : Nat) (index : Nat) (n : Nat) (timing : Bool) {s : State} (hk : Kept cmds s) :
    Kept cmds (queueVoids first count index n timing s) := by
  unfold queueVoids
  try dsimp only
  all_goals (with_reducible repeat' first | assumption | rfl | apply kept_ite | apply kept_ite_st | apply kept_ite_snd | split | refine kept_snd ?_ (by assumption) | refine kept_snd2 ?_ (by assumption) | refine kept_st ?_ (by assumption) | refine kept_get ?_ (by assumption) | refine kept_get2 ?_ (by assumption) | apply kept_with_dec)

theorem kept_seqGap (k : Nat) (src : Nat) (g : Nat) {s : State} (hk : Kept cmds s) :
    Kept cmds (seqGap k src g s) := by
  unfold seqGap
  try dsimp only
  all_goals (with_reducible repeat' first | assumption | rfl | apply kept_ite | apply kept_ite_st | apply kept_ite_snd | apply kept_inc | apply kept_raise)

theorem kept_ingressAccept (k : Nat) (n : Nat) (f : Frame) {s : State} (hk : Kept cmds s) :
    Kept cmds (ingressAccept k n f s) := by
  unfold ingressAccept
  try dsimp only
  all_goals (with_reducible repeat' first | assumption | rfl | apply kept_ite | apply kept_ite_st | apply kept_ite_snd | apply kept_inc | apply kept_queueVoids | apply kept_raise | apply kept_setRxBytes | split | refine kept_snd ?_ (by assumption) | refine kept_snd2 ?_ (by assumption) | refine kept_st ?_ (by assumption) | refine kept_get ?_ (by assumption) | refine kept_get2 ?_ (by assumption) | apply kept_with_dec)

theorem kept_voidUpTo (fl : FlowSt) (upto : Nat) {s : State} (hk : Kept cmds s) :
    Kept cmds (voidUpTo fl upto s) := by
  unfold voidUpTo
  try dsimp only
  all_goals (with_reducible repeat' first | assumption | rfl | apply kept_queueVoids)

theorem kept_ingressDeliver (k : Nat) (n : Nat) (f : Frame) {s : State} (hk : Kept cmds s) :
    Kept cmds (ingressDeliver k n f s) := by
  unfold ingressDeliver
  try dsimp only
  all_goals (with_reducible repeat' first | assumption | rfl | apply kept_ite | apply kept_ite_st | apply kept_ite_snd | apply kept_State_setFlow | apply kept_inc | apply kept_ingressAccept | apply kept_queueVoids | apply kept_seqGap | apply kept_voidUpTo | split)

theorem kept_drainHeld (k : Nat) (n : Nat) (key : Nat) (x0 : Nat) {x1 : State} (hk : Kept cmds x1) :
    Kept cmds (drainHeld k n key x0 x1) := by
  fun_induction drainHeld
  all_goals (with_reducible repeat' first | assumption | rfl | apply_assumption | apply kept_State_setFlow | apply kept_ingressDeliver)

theorem kept_ingressRx (n : Nat) (f : Frame) (chk : Nat) {s : State} (hk : Kept cmds s) :
    Kept cmds (ingressRx n f chk s) := by
  unfold ingressRx
  try dsimp only
  all_goals (with_reducible repeat' first | assumption | rfl | apply kept_ite | apply kept_ite_st | apply kept_ite_snd | apply kept_State_setFlow | apply kept_drainHeld | apply kept_ingressDeliver | apply kept_queueVoids | apply kept_rxLane | apply kept_seqGap | (intro _ _ _) | (intro _ _) | split | refine kept_snd ?_ (by assumption) | refine kept_snd2 ?_ (by assumption) | refine kept_st ?_ (by assumption) | refine kept_get ?_ (by assumption) | refine kept_get2 ?_ (by assumption) | apply kept_with_wm)

theorem kept_reorderClose (k : Nat) (n : Nat) (key : Nat) (x0 : Nat) {x1 : State} (hk : Kept cmds x1) :
    Kept cmds (reorderClose k n key x0 x1) := by
  fun_induction reorderClose
  all_goals (with_reducible repeat' first | assumption | rfl | apply_assumption | apply kept_State_setFlow | apply kept_ingressDeliver)

theorem kept_execIngressFrameRx (lane : Fin 96) (f : Frame) (check : Nat) {s : State} (hk : Kept cmds s) :
    ∀ t, execIngressFrameRx lane f check s = .next t → Kept cmds t := by
  intro t ht
  unfold execIngressFrameRx at ht
  try dsimp only at ht
  all_goals (repeat' first | (cases ht) | split at ht)
  all_goals (with_reducible repeat' first | assumption | rfl | apply kept_ite | apply kept_ite_st | apply kept_ite_snd | apply kept_ingressRx)

theorem kept_execIdleTimeout (lane : Fin 96) {s : State} (hk : Kept cmds s) :
    ∀ t, execIdleTimeout lane s = .next t → Kept cmds t := by
  intro t ht
  unfold execIdleTimeout at ht
  try dsimp only at ht
  all_goals (repeat' first | (cases ht) | split at ht)
  all_goals (with_reducible repeat' first | assumption | rfl | apply kept_ite | apply kept_ite_st | apply kept_ite_snd | apply kept_idleEnter)

theorem kept_execAutoIdleExit (lane : Fin 96) (firstSleepSent : Bool) {s : State} (hk : Kept cmds s) :
    ∀ t, execAutoIdleExit lane firstSleepSent s = .next t → Kept cmds t := by
  intro t ht
  unfold execAutoIdleExit at ht
  try dsimp only at ht
  all_goals (repeat' first | (cases ht) | split at ht)
  all_goals (with_reducible repeat' first | assumption | rfl | apply kept_ite | apply kept_ite_st | apply kept_ite_snd | apply kept_idleExitRequest)

theorem kept_execRelockTimeout (lane : Fin 96) {s : State} (hk : Kept cmds s) :
    ∀ t, execRelockTimeout lane s = .next t → Kept cmds t := by
  intro t ht
  unfold execRelockTimeout at ht
  try dsimp only at ht
  all_goals (repeat' first | (cases ht) | split at ht)
  all_goals (with_reducible repeat' first | assumption | rfl | apply kept_inc | apply kept_raise | apply kept_startTraining)

theorem kept_execBlockLockLoss (lane : Fin 96) {s : State} (hk : Kept cmds s) :
    ∀ t, execBlockLockLoss lane s = .next t → Kept cmds t := by
  intro t ht
  unfold execBlockLockLoss at ht
  try dsimp only at ht
  all_goals (repeat' first | (cases ht) | split at ht)
  all_goals (with_reducible repeat' first | assumption | rfl | apply kept_wf)

theorem kept_execBlockLockRestored (lane : Fin 96) {s : State} (hk : Kept cmds s) :
    ∀ t, execBlockLockRestored lane s = .next t → Kept cmds t := by
  intro t ht
  unfold execBlockLockRestored at ht
  try dsimp only at ht
  all_goals (repeat' first | (cases ht) | split at ht)
  all_goals (with_reducible repeat' first | assumption | rfl | apply kept_checkEye | apply kept_inc | apply kept_wf)

theorem kept_execRefLost (ref : Fin 2) {s : State} (hk : Kept cmds s) :
    ∀ t, execRefLost ref s = .next t → Kept cmds t := by
  intro t ht
  unfold execRefLost at ht
  try dsimp only at ht
  all_goals (repeat' first | (cases ht) | split at ht)
  all_goals (with_reducible repeat' first | assumption | rfl | apply kept_raise | apply kept_setReg)

theorem kept_execLinkinfoTx (lane : Fin 96) {s : State} (hk : Kept cmds s) :
    ∀ t, execLinkinfoTx lane s = .next t → Kept cmds t := by
  intro t ht
  unfold execLinkinfoTx at ht
  try dsimp only at ht
  all_goals (repeat' first | (cases ht) | split at ht)
  all_goals (with_reducible repeat' first | assumption | rfl | apply kept_ite | apply kept_ite_st | apply kept_ite_snd | apply kept_sendLinkInfo)

theorem kept_execSleepRx (lane : Fin 96) {s : State} (hk : Kept cmds s) :
    ∀ t, execSleepRx lane s = .next t → Kept cmds t := by
  intro t ht
  unfold execSleepRx at ht
  try dsimp only at ht
  all_goals (repeat' first | (cases ht) | split at ht)
  all_goals (with_reducible repeat' first | assumption | rfl | apply kept_ite | apply kept_ite_st | apply kept_ite_snd | apply kept_State_setLane)

theorem kept_execInvalidBlockRx (lane : Fin 96) {s : State} (hk : Kept cmds s) :
    ∀ t, execInvalidBlockRx lane s = .next t → Kept cmds t := by
  intro t ht
  unfold execInvalidBlockRx at ht
  try dsimp only at ht
  all_goals (repeat' first | (cases ht) | split at ht)
  all_goals (with_reducible repeat' first | assumption | rfl | apply kept_inc)

theorem kept_execFecUncorr (lane : Fin 96) (corrected : Nat) {s : State} (hk : Kept cmds s) :
    ∀ t, execFecUncorr lane corrected s = .next t → Kept cmds t := by
  intro t ht
  unfold execFecUncorr at ht
  try dsimp only at ht
  all_goals (repeat' first | (cases ht) | split at ht)
  all_goals (with_reducible repeat' first | assumption | rfl | apply kept_inc | apply kept_raise)

theorem kept_execCkPresetLoad (lane : Fin 96) {s : State} (hk : Kept cmds s) :
    ∀ t, execCkPresetLoad lane s = .next t → Kept cmds t := by
  intro t ht
  unfold execCkPresetLoad at ht
  try dsimp only at ht
  all_goals (repeat' first | (cases ht) | split at ht)
  all_goals (with_reducible repeat' first | assumption | rfl | apply kept_ite | apply kept_ite_st | apply kept_ite_snd | apply kept_ckLoadPreset)

theorem kept_execEthFrameRx (port : Fin 8) (fcsGood : Bool) {s : State} (hk : Kept cmds s) :
    ∀ t, execEthFrameRx port fcsGood s = .next t → Kept cmds t := by
  intro t ht
  unfold execEthFrameRx at ht
  try dsimp only at ht
  all_goals (repeat' first | (cases ht) | split at ht)
  all_goals (with_reducible repeat' first | assumption | rfl | apply kept_ite | apply kept_ite_st | apply kept_ite_snd | apply kept_inc | apply kept_raise)

end Sys2Proof.Machine
end

