-- ==== Sys2Proof/Laws/KeptDec.lean ====
section
/-! SUPPORT. What the operations of Machine/Dec keep (Laws/Kept). -/

namespace Sys2Proof.Machine

variable {cmds : List Instr}

theorem kept_State_setSlot {s : State} (j : Nat) (x : DecSlot) (hk : Kept cmds s) :
    Kept cmds (State.setSlot s j x) := by
  unfold State.setSlot
  try dsimp only
  all_goals (with_reducible repeat' first | assumption | rfl | split | refine kept_snd ?_ (by assumption) | refine kept_snd2 ?_ (by assumption) | refine kept_st ?_ (by assumption) | refine kept_get ?_ (by assumption) | refine kept_get2 ?_ (by assumption) | apply kept_with_dec)

theorem kept_syncReset (j : Nat) (i : Nat) {s : State} (hk : Kept cmds s) :
    Kept cmds (syncReset j i s) := by
  unfold syncReset
  try dsimp only
  all_goals (with_reducible repeat' first | assumption | rfl | apply kept_ite | apply kept_ite_st | apply kept_ite_snd | apply kept_State_setSlot | apply kept_setReg | apply kept_wf)

theorem kept_slotOff (j : Nat) {s : State} (hk : Kept cmds s) :
    Kept cmds (slotOff j s) := by
  unfold slotOff
  try dsimp only
  all_goals (with_reducible repeat' first | assumption | rfl | apply kept_State_setSlot | apply kept_setReg)

theorem kept_emitFrame (j : Nat) {s : State} (hk : Kept cmds s) :
    Kept cmds (emitFrame j s) := by
  unfold emitFrame
  try dsimp only
  all_goals (with_reducible repeat' first | assumption | rfl | apply kept_ite | apply kept_ite_st | apply kept_ite_snd | apply kept_State_setSlot | apply kept_inc | apply kept_wf | split | refine kept_snd ?_ (by assumption) | refine kept_snd2 ?_ (by assumption) | refine kept_st ?_ (by assumption) | refine kept_get ?_ (by assumption) | refine kept_get2 ?_ (by assumption) | apply kept_with_chn | apply kept_with_trp)

theorem kept_decSample (j : Nat) (i : Nat) (v : Option (Int × Int)) {s : State} (hk : Kept cmds s) :
    Kept cmds (decSample j i v s) := by
  unfold decSample
  try dsimp only
  all_goals (with_reducible repeat' first | assumption | rfl | apply kept_ite | apply kept_ite_st | apply kept_ite_snd | apply kept_State_setSlot | apply kept_emitFrame | apply kept_inc | apply kept_raise | apply kept_slotOff | apply kept_syncReset | split)

theorem kept_decVoidRun (j : Nat) (x0 : Nat) (x1 : Nat) {x2 : State} (hk : Kept cmds x2) :
    Kept cmds (decVoidRun j x0 x1 x2) := by
  fun_induction decVoidRun
  all_goals (with_reducible repeat' first | assumption | rfl | apply_assumption | apply kept_decSample)

theorem kept_decRun (j : Nat) (f : Frame) (st : Nat) (x0 : Nat) (x1 : Nat) {x2 : State} (hk : Kept cmds x2) :
    Kept cmds (decRun j f st x0 x1 x2) := by
  fun_induction decRun
  all_goals (with_reducible repeat' first | assumption | rfl | apply_assumption | apply kept_decSample)

theorem kept_decCatchUp (j : Nat) (i : Nat) {s : State} (hk : Kept cmds s) :
    Kept cmds (decCatchUp j i s) := by
  unfold decCatchUp
  try dsimp only
  all_goals (with_reducible repeat' first | assumption | rfl | apply kept_ite | apply kept_ite_st | apply kept_ite_snd | apply kept_decVoidRun | split)

theorem kept_decApply (w : Waymark) (g : Nat) {s : State} (hk : Kept cmds s) :
    Kept cmds (decApply w g s) := by
  unfold decApply
  try dsimp only
  all_goals (with_reducible repeat' first | assumption | rfl | apply kept_ite | apply kept_ite_st | apply kept_ite_snd | apply kept_State_setSlot | apply kept_foldS | (intro _ _ _) | (intro _ _) | split)

theorem kept_decBasicWrite (v : Nat) {s : State} (hk : Kept cmds s) :
    Kept cmds (decBasicWrite v s).st := by
  unfold decBasicWrite
  try dsimp only
  all_goals (with_reducible repeat' first | assumption | rfl | apply kept_ite | apply kept_ite_st | apply kept_ite_snd | apply kept_acc | apply kept_foldS | apply kept_refuse | apply kept_setReg | apply kept_storeBits | (intro _ _ _))

theorem kept_decShadowWrite (d : Nat) (j : Nat) (v : Nat) (mask : Nat) {s : State} (hk : Kept cmds s) :
    Kept cmds (decShadowWrite d j v mask s).st := by
  unfold decShadowWrite
  try dsimp only
  all_goals (with_reducible repeat' first | assumption | rfl | apply kept_ite | apply kept_ite_st | apply kept_ite_snd | apply kept_State_setSlot | apply kept_acc | apply kept_refuse | apply kept_slotOff | apply kept_storeBits)

theorem kept_syncSchedule (j : Nat) (a : Nat) {s : State} (hk : Kept cmds s) :
    Kept cmds (syncSchedule j a s) := by
  unfold syncSchedule
  try dsimp only
  all_goals (with_reducible repeat' first | assumption | rfl | apply kept_ite | apply kept_ite_st | apply kept_ite_snd | apply kept_State_setSlot | apply kept_raise)

theorem kept_decSyncWrite (v : Nat) {s : State} (hk : Kept cmds s) :
    Kept cmds (decSyncWrite v s) := by
  unfold decSyncWrite
  try dsimp only
  all_goals (with_reducible repeat' first | assumption | rfl | apply kept_ite | apply kept_ite_st | apply kept_ite_snd | apply kept_foldS | apply kept_syncSchedule | (intro _ _ _))

theorem kept_decCntClear (v : Nat) {s : State} (hk : Kept cmds s) :
    Kept cmds (decCntClear v s) := by
  unfold decCntClear
  try dsimp only
  all_goals (with_reducible repeat' first | assumption | rfl | apply kept_ite | apply kept_ite_st | apply kept_ite_snd | apply kept_foldS | apply kept_zero | (intro _ _ _))

end Sys2Proof.Machine
end

