-- ==== Sys2Proof/Laws/KeptMarks.lean ====
section
/-! SUPPORT. What the operations of Machine/Marks keep (Laws/Kept). -/

namespace Sys2Proof.Machine

variable {cmds : List Instr}

theorem kept_setHeld (u : Nat) (l : List Waymark) {s : State} (hk : Kept cmds s) :
    Kept cmds (setHeld u l s) := by
  unfold setHeld
  try dsimp only
  all_goals (with_reducible repeat' first | assumption | rfl | split | refine kept_snd ?_ (by assumption) | refine kept_snd2 ?_ (by assumption) | refine kept_st ?_ (by assumption) | refine kept_get ?_ (by assumption) | refine kept_get2 ?_ (by assumption) | apply kept_with_wm)

theorem kept_takeDue (u : Nat) (i : Nat) {s : State} (hk : Kept cmds s) :
    Kept cmds (takeDue u i s).2 := by
  unfold takeDue
  try dsimp only
  all_goals (with_reducible repeat' first | assumption | rfl | apply kept_setHeld)

theorem kept_passMark (u : Nat) (w : Waymark) {s : State} (hk : Kept cmds s) :
    Kept cmds (passMark u w s) := by
  unfold passMark
  try dsimp only
  all_goals (with_reducible repeat' first | assumption | rfl | (intro _ _ _) | (intro _ _) | split | refine kept_snd ?_ (by assumption) | refine kept_snd2 ?_ (by assumption) | refine kept_st ?_ (by assumption) | refine kept_get ?_ (by assumption) | refine kept_get2 ?_ (by assumption) | apply kept_with_wm)

theorem kept_ackMark (u : Nat) (w : Waymark) {s : State} (hk : Kept cmds s) :
    Kept cmds (ackMark u w s) := by
  unfold ackMark
  try dsimp only
  all_goals (with_reducible repeat' first | assumption | rfl | apply kept_ite | apply kept_ite_st | apply kept_ite_snd | apply kept_logOpen)

theorem kept_noteApplied (u : Nat) (w : Waymark) {s : State} (hk : Kept cmds s) :
    Kept cmds (noteApplied u w s) := by
  unfold noteApplied
  try dsimp only
  all_goals (with_reducible repeat' first | assumption | rfl | apply kept_ackMark | split | refine kept_snd ?_ (by assumption) | refine kept_snd2 ?_ (by assumption) | refine kept_st ?_ (by assumption) | refine kept_get ?_ (by assumption) | refine kept_get2 ?_ (by assumption) | apply kept_with_wm)

theorem kept_applyDue (u : Nat) (i : Nat) (f : Waymark → State → State) {s : State} (hf : ∀ y0 t, Kept cmds t → Kept cmds (f y0 t)) (hk : Kept cmds s) :
    Kept cmds (applyDue u i f s) := by
  unfold applyDue
  try dsimp only
  all_goals (with_reducible repeat' first | assumption | rfl | apply kept_ite | apply kept_ite_st | apply kept_ite_snd | apply kept_foldS | apply kept_noteApplied | apply kept_passMark | apply kept_takeDue | apply hf | (intro _ _ _))

theorem kept_genApply (w : Waymark) {s : State} (hk : Kept cmds s) :
    Kept cmds (genApply w s) := by
  unfold genApply
  try dsimp only
  all_goals (with_reducible repeat' first | assumption | rfl | apply kept_ite | apply kept_ite_st | apply kept_ite_snd | apply kept_foldS | apply kept_raise | apply kept_wf | (intro _ _ _) | (intro _ _) | split | refine kept_snd ?_ (by assumption) | refine kept_snd2 ?_ (by assumption) | refine kept_st ?_ (by assumption) | refine kept_get ?_ (by assumption) | refine kept_get2 ?_ (by assumption) | apply kept_with_tru)

theorem kept_decDue (i : Nat) {s : State} (hk : Kept cmds s) :
    Kept cmds (decDue i s) := by
  unfold decDue
  try dsimp only
  all_goals (with_reducible repeat' first | assumption | rfl | apply kept_ite | apply kept_ite_st | apply kept_ite_snd | apply kept_applyDue | apply kept_decApply | apply kept_genApply | (intro _ _ _))

theorem kept_execDecInputFrame {s : State} (hk : Kept cmds s) :
    ∀ t, execDecInputFrame s = .next t → Kept cmds t := by
  intro t ht
  unfold execDecInputFrame at ht
  try dsimp only at ht
  all_goals (repeat' first | (cases ht) | split at ht)
  all_goals (with_reducible repeat' first | assumption | rfl | apply kept_ite | apply kept_ite_st | apply kept_ite_snd | apply kept_decCatchUp | apply kept_decDue | apply kept_decRun | apply kept_decVoidRun | apply kept_foldS | apply kept_rxRelease | (intro _ _ _) | (intro _ _) | split | refine kept_snd ?_ (by assumption) | refine kept_snd2 ?_ (by assumption) | refine kept_st ?_ (by assumption) | refine kept_get ?_ (by assumption) | refine kept_get2 ?_ (by assumption) | apply kept_with_dec | apply kept_with_wm)

theorem kept_execSyncReset (slot : Fin 256) {s : State} (hk : Kept cmds s) :
    ∀ t, execSyncReset slot s = .next t → Kept cmds t := by
  intro t ht
  unfold execSyncReset at ht
  try dsimp only at ht
  all_goals (repeat' first | (cases ht) | split at ht)
  all_goals (with_reducible repeat' first | assumption | rfl | apply kept_ite | apply kept_ite_st | apply kept_ite_snd | apply kept_syncReset | split)

theorem kept_execSlotDisable (slot : Fin 256) {s : State} (hk : Kept cmds s) :
    ∀ t, execSlotDisable slot s = .next t → Kept cmds t := by
  intro t ht
  unfold execSlotDisable at ht
  try dsimp only at ht
  all_goals (repeat' first | (cases ht) | split at ht)
  all_goals (with_reducible repeat' first | assumption | rfl | apply kept_ite | apply kept_ite_st | apply kept_ite_snd | apply kept_slotOff)

end Sys2Proof.Machine
end

