-- ==== Sys2Proof/Laws/KeptCad.lean ====
section
/-! SUPPORT. What the operations of Machine/Cad keep (Laws/Kept). -/

namespace Sys2Proof.Machine

variable {cmds : List Instr}

theorem kept_setPend (c : Nat) (r : Nat) (v : Nat) {s : State} (hk : Kept cmds s) :
    Kept cmds (setPend c r v s) := by
  unfold setPend
  try dsimp only
  all_goals (with_reducible repeat' first | assumption | rfl | apply kept_setReg | split | refine kept_snd ?_ (by assumption) | refine kept_snd2 ?_ (by assumption) | refine kept_st ?_ (by assumption) | refine kept_get ?_ (by assumption) | refine kept_get2 ?_ (by assumption) | apply kept_with_cad)

theorem kept_cadApply {s : State} (hk : Kept cmds s) :
    ∀ r, cadApply s = some r → Kept cmds r := by
  intro t ht
  unfold cadApply at ht
  grind [kept_foldS, kept_setPend, kept_mk, Kept]

theorem kept_cadBudget (c : Nat) (r : Nat) (floor : Nat) (ceil : Nat) {s : State} (hk : Kept cmds s) :
    Kept cmds (cadBudget c r floor ceil s).2 := by
  unfold cadBudget
  try dsimp only
  all_goals (with_reducible repeat' first | assumption | rfl | apply kept_ite | apply kept_ite_st | apply kept_ite_snd | apply kept_setPend | apply kept_setReg)

theorem kept_cadBasicWrite (v : Nat) {s : State} (hk : Kept cmds s) :
    Kept cmds (cadBasicWrite v s).st := by
  unfold cadBasicWrite
  try dsimp only
  all_goals (with_reducible repeat' first | assumption | rfl | apply kept_ite | apply kept_ite_st | apply kept_ite_snd | apply kept_acc | refine kept_cadApply ?_ | apply kept_foldS | apply kept_refuse | apply kept_setReg | apply kept_storeBits | (intro _ _ _) | (intro _ _) | split | refine kept_snd ?_ (by assumption) | refine kept_snd2 ?_ (by assumption) | refine kept_st ?_ (by assumption) | refine kept_get ?_ (by assumption))

theorem kept_cadShareWrite (c : Nat) (r : Nat) (v : Nat) {s : State} (hk : Kept cmds s) :
    Kept cmds (cadShareWrite c r v s).st := by
  unfold cadShareWrite
  try dsimp only
  all_goals (with_reducible repeat' first | assumption | rfl | apply kept_ite | apply kept_ite_st | apply kept_ite_snd | apply kept_acc | apply kept_refuse | apply kept_storeBits)

theorem kept_cadCtrlWrite (v : Nat) {s : State} (hk : Kept cmds s) :
    Kept cmds (cadCtrlWrite v s).st := by
  unfold cadCtrlWrite
  try dsimp only
  all_goals (with_reducible repeat' first | assumption | rfl | apply kept_ite | apply kept_ite_st | apply kept_ite_snd | apply kept_acc | refine kept_cadApply ?_ | apply kept_refuse | split | refine kept_snd ?_ (by assumption) | refine kept_snd2 ?_ (by assumption) | refine kept_st ?_ (by assumption) | refine kept_get ?_ (by assumption))

theorem kept_cadCntClear (v : Nat) {s : State} (hk : Kept cmds s) :
    Kept cmds (cadCntClear v s) := by
  unfold cadCntClear
  try dsimp only
  all_goals (with_reducible repeat' first | assumption | rfl | apply kept_ite | apply kept_ite_st | apply kept_ite_snd | apply kept_foldS | apply kept_setReg | apply kept_wf | apply kept_zero | (intro _ _ _))

theorem kept_cadWrite (off : Nat) (v : Nat) {s : State} (hk : Kept cmds s) :
    ∀ r, cadWrite off v s = some r → Kept cmds r.st := by
  intro t ht
  unfold cadWrite at ht
  try dsimp only at ht
  all_goals (repeat' first | (cases ht) | split at ht)
  all_goals (with_reducible repeat' first | assumption | rfl | apply kept_ite | apply kept_ite_st | apply kept_ite_snd | apply kept_acc | apply kept_cadBasicWrite | apply kept_cadCntClear | apply kept_cadCtrlWrite | apply kept_cadShareWrite)

theorem kept_refill (us : List Use) (lanes : Nat) (x : Nat × Nat) {s : State} (hk : Kept cmds s) :
    Kept cmds (refill us lanes x s) := by
  unfold refill
  try dsimp only
  all_goals (with_reducible repeat' first | assumption | rfl | split | refine kept_snd ?_ (by assumption) | refine kept_snd2 ?_ (by assumption) | refine kept_st ?_ (by assumption) | refine kept_get ?_ (by assumption) | refine kept_get2 ?_ (by assumption) | apply kept_with_cad)

theorem kept_periodClass (us : List Use) (lanes : Nat) (c : Nat) {s : State} (hk : Kept cmds s) :
    Kept cmds (periodClass us lanes c s) := by
  unfold periodClass
  try dsimp only
  all_goals (with_reducible repeat' first | assumption | rfl | apply kept_ite | apply kept_ite_st | apply kept_ite_snd | apply kept_foldS | apply kept_inc | apply kept_raise | apply kept_setReg | (intro _ _ _) | (intro _ _) | split | refine kept_snd ?_ (by assumption) | refine kept_snd2 ?_ (by assumption) | refine kept_st ?_ (by assumption) | refine kept_get ?_ (by assumption) | refine kept_get2 ?_ (by assumption) | apply kept_with_cad)

theorem kept_periodHeadroom (count : Nat) {s : State} (hk : Kept cmds s) :
    Kept cmds (periodHeadroom count s) := by
  unfold periodHeadroom
  try dsimp only
  all_goals (with_reducible repeat' first | assumption | rfl | apply kept_ite | apply kept_ite_st | apply kept_ite_snd | apply kept_raise | apply kept_setReg | split | refine kept_snd ?_ (by assumption) | refine kept_snd2 ?_ (by assumption) | refine kept_st ?_ (by assumption) | refine kept_get ?_ (by assumption) | refine kept_get2 ?_ (by assumption) | apply kept_with_cad)

theorem kept_periodUtil (us : List Use) (count : Nat) (lanes : Nat) {s : State} (hk : Kept cmds s) :
    Kept cmds (periodUtil us count lanes s) := by
  unfold periodUtil
  try dsimp only
  all_goals (with_reducible repeat' first | assumption | rfl | apply kept_ite | apply kept_ite_st | apply kept_ite_snd | apply kept_foldS | apply kept_setReg | (intro _ _ _))

theorem kept_cadPeriod (count : Nat) (us : List Use) {s : State} (hk : Kept cmds s) :
    Kept cmds (cadPeriod count us s) := by
  unfold cadPeriod
  try dsimp only
  all_goals (with_reducible repeat' first | assumption | rfl | apply kept_foldS | apply kept_periodClass | apply kept_periodHeadroom | apply kept_periodUtil | apply kept_refill | apply kept_setReg | apply kept_setReg64 | apply kept_wf | (intro _ _ _) | (intro _ _) | split | refine kept_snd ?_ (by assumption) | refine kept_snd2 ?_ (by assumption) | refine kept_st ?_ (by assumption) | refine kept_get ?_ (by assumption) | refine kept_get2 ?_ (by assumption) | apply kept_with_cad)

end Sys2Proof.Machine
end

