-- ==== Sys2Proof/Laws/KeptChn.lean ====
section
/-! SUPPORT. What the operations of Machine/Chn keep (Laws/Kept). -/

namespace Sys2Proof.Machine

variable {cmds : List Instr}

theorem kept_State_setCslot {s : State} (j : Nat) (x : ChnSlot) (hk : Kept cmds s) :
    Kept cmds (State.setCslot s j x) := by
  unfold State.setCslot
  try dsimp only
  all_goals (with_reducible repeat' first | assumption | rfl | split | refine kept_snd ?_ (by assumption) | refine kept_snd2 ?_ (by assumption) | refine kept_st ?_ (by assumption) | refine kept_get ?_ (by assumption) | refine kept_get2 ?_ (by assumption) | apply kept_with_chn)

theorem kept_chnLoadBuiltin {s : State} (hk : Kept cmds s) :
    Kept cmds (chnLoadBuiltin s) := by
  unfold chnLoadBuiltin
  try dsimp only
  all_goals (with_reducible repeat' first | assumption | rfl | apply kept_foldS | (intro _ _ _) | (intro _ _) | split | refine kept_snd ?_ (by assumption) | refine kept_snd2 ?_ (by assumption) | refine kept_st ?_ (by assumption) | refine kept_get ?_ (by assumption) | refine kept_get2 ?_ (by assumption) | apply kept_with_chn)

theorem kept_chnSetCfg (v : Nat) {s : State} (hk : Kept cmds s) :
    Kept cmds (chnSetCfg v s) := by
  unfold chnSetCfg
  try dsimp only
  all_goals (with_reducible repeat' first | assumption | rfl | apply kept_setReg | split | refine kept_snd ?_ (by assumption) | refine kept_snd2 ?_ (by assumption) | refine kept_st ?_ (by assumption) | refine kept_get ?_ (by assumption) | refine kept_get2 ?_ (by assumption) | apply kept_with_chn)

theorem kept_chnRefuse (off : Nat) {s : State} (hk : Kept cmds s) :
    Kept cmds (chnRefuse off s).st := by
  unfold chnRefuse
  try dsimp only
  all_goals (with_reducible repeat' first | assumption | rfl | apply kept_refuse)

theorem kept_chnBasicWrite (v : Nat) {s : State} (hk : Kept cmds s) :
    Kept cmds (chnBasicWrite v s).st := by
  unfold chnBasicWrite
  try dsimp only
  all_goals (with_reducible repeat' first | assumption | rfl | apply kept_ite | apply kept_ite_st | apply kept_ite_snd | apply kept_acc | apply kept_chnLoadBuiltin | apply kept_chnRefuse | apply kept_chnSetCfg | apply kept_storeBits | split | refine kept_snd ?_ (by assumption) | refine kept_snd2 ?_ (by assumption) | refine kept_st ?_ (by assumption) | refine kept_get ?_ (by assumption) | refine kept_get2 ?_ (by assumption) | apply kept_with_chn)

theorem kept_chnCfgWrite (v : Nat) {s : State} (hk : Kept cmds s) :
    Kept cmds (chnCfgWrite v s).st := by
  unfold chnCfgWrite
  try dsimp only
  all_goals (with_reducible repeat' first | assumption | rfl | apply kept_ite | apply kept_ite_st | apply kept_ite_snd | apply kept_acc | apply kept_chnRefuse | apply kept_chnSetCfg)

theorem kept_chnCoefDataWrite (v : Nat) {s : State} (hk : Kept cmds s) :
    Kept cmds (chnCoefDataWrite v s).st := by
  unfold chnCoefDataWrite
  try dsimp only
  all_goals (with_reducible repeat' first | assumption | rfl | apply kept_ite | apply kept_ite_st | apply kept_ite_snd | apply kept_acc | apply kept_chnRefuse | apply kept_setReg | split | refine kept_snd ?_ (by assumption) | refine kept_snd2 ?_ (by assumption) | refine kept_st ?_ (by assumption) | refine kept_get ?_ (by assumption) | refine kept_get2 ?_ (by assumption) | apply kept_with_chn)

theorem kept_chnGainDataWrite (v : Nat) {s : State} (hk : Kept cmds s) :
    Kept cmds (chnGainDataWrite v s).st := by
  unfold chnGainDataWrite
  try dsimp only
  all_goals (with_reducible repeat' first | assumption | rfl | apply kept_ite | apply kept_ite_st | apply kept_ite_snd | apply kept_acc | apply kept_chnRefuse | apply kept_setReg | split | refine kept_snd ?_ (by assumption) | refine kept_snd2 ?_ (by assumption) | refine kept_st ?_ (by assumption) | refine kept_get ?_ (by assumption) | refine kept_get2 ?_ (by assumption) | apply kept_with_chn)

theorem kept_chnStart (now : Bool) {s : State} (hk : Kept cmds s) :
    Kept cmds (chnStart now s).st := by
  unfold chnStart
  try dsimp only
  all_goals (with_reducible repeat' first | assumption | rfl | apply kept_ite | apply kept_ite_st | apply kept_ite_snd | apply kept_acc | apply kept_chnRefuse | apply kept_raise | apply kept_wf | split | refine kept_snd ?_ (by assumption) | refine kept_snd2 ?_ (by assumption) | refine kept_st ?_ (by assumption) | refine kept_get ?_ (by assumption) | refine kept_get2 ?_ (by assumption) | apply kept_with_chn)

theorem kept_chnHalt {s : State} (hk : Kept cmds s) :
    Kept cmds (chnHalt s) := by
  unfold chnHalt
  try dsimp only
  all_goals (with_reducible repeat' first | assumption | rfl | apply kept_foldS | apply kept_wf | (intro _ _ _) | (intro _ _) | split | refine kept_snd ?_ (by assumption) | refine kept_snd2 ?_ (by assumption) | refine kept_st ?_ (by assumption) | refine kept_get ?_ (by assumption) | refine kept_get2 ?_ (by assumption) | apply kept_with_chn)

theorem kept_chnStop (now : Bool) {s : State} (hk : Kept cmds s) :
    Kept cmds (chnStop now s) := by
  unfold chnStop
  try dsimp only
  all_goals (with_reducible repeat' first | assumption | rfl | apply kept_ite | apply kept_ite_st | apply kept_ite_snd | apply kept_chnHalt | apply kept_wf | split | refine kept_snd ?_ (by assumption) | refine kept_snd2 ?_ (by assumption) | refine kept_st ?_ (by assumption) | refine kept_get ?_ (by assumption) | refine kept_get2 ?_ (by assumption) | apply kept_with_chn)

theorem kept_chnCtrlWrite (v : Nat) {s : State} (hk : Kept cmds s) :
    Kept cmds (chnCtrlWrite v s).st := by
  unfold chnCtrlWrite
  try dsimp only
  all_goals (with_reducible repeat' first | assumption | rfl | apply kept_ite | apply kept_ite_st | apply kept_ite_snd | apply kept_acc | apply kept_chnStart | apply kept_chnStop)

theorem kept_chnCntClear (v : Nat) {s : State} (hk : Kept cmds s) :
    Kept cmds (chnCntClear v s) := by
  unfold chnCntClear
  try dsimp only
  all_goals (with_reducible repeat' first | assumption | rfl | apply kept_ite | apply kept_ite_st | apply kept_ite_snd | apply kept_foldS | apply kept_zero | (intro _ _ _))

theorem kept_chnWrite (off : Nat) (v : Nat) {s : State} (hk : Kept cmds s) :
    ∀ r, chnWrite off v s = some r → Kept cmds r.st := by
  intro t ht
  unfold chnWrite at ht
  try dsimp only at ht
  all_goals (repeat' first | (cases ht) | split at ht)
  all_goals (with_reducible repeat' first | assumption | rfl | apply kept_ite | apply kept_ite_st | apply kept_ite_snd | apply kept_acc | apply kept_chnBasicWrite | apply kept_chnCfgWrite | apply kept_chnCntClear | apply kept_chnCoefDataWrite | apply kept_chnCtrlWrite | apply kept_chnGainDataWrite | apply kept_chnRefuse | apply kept_setReg | apply kept_wf)

theorem kept_chnApply (w : Waymark) (g : Nat) {s : State} (hk : Kept cmds s) :
    Kept cmds (chnApply w g s) := by
  unfold chnApply
  try dsimp only
  all_goals (with_reducible repeat' first | assumption | rfl | apply kept_ite | apply kept_ite_st | apply kept_ite_snd | apply kept_wf | (intro _ _ _) | (intro _ _) | split | refine kept_snd ?_ (by assumption) | refine kept_snd2 ?_ (by assumption) | refine kept_st ?_ (by assumption) | refine kept_get ?_ (by assumption) | refine kept_get2 ?_ (by assumption) | apply kept_with_chn)

theorem kept_chnBegin (j : Nat) (b : Nat) (capped : Bool) {s : State} (hk : Kept cmds s) :
    Kept cmds (chnBegin j b capped s) := by
  unfold chnBegin
  try dsimp only
  all_goals (with_reducible repeat' first | assumption | rfl | apply kept_ite | apply kept_ite_st | apply kept_ite_snd | apply kept_State_setCslot | apply kept_wf)

theorem kept_chnJoin (j : Nat) (i : Nat) {s : State} (hk : Kept cmds s) :
    Kept cmds (chnJoin j i s) := by
  unfold chnJoin
  try dsimp only
  all_goals (with_reducible repeat' first | assumption | rfl | apply kept_chnBegin | apply kept_raise | split)

theorem kept_chnTake (t : TimeIn) {s : State} (hk : Kept cmds s) :
    Kept cmds (chnTake t s) := by
  unfold chnTake
  try dsimp only
  all_goals (with_reducible repeat' first | assumption | rfl | apply kept_ite | apply kept_ite_st | apply kept_ite_snd | apply kept_State_setCslot | apply kept_chnJoin)

theorem kept_chnFill (j : Nat) (x0 : Nat) {x1 : State} (hk : Kept cmds x1) :
    Kept cmds (chnFill j x0 x1) := by
  fun_induction chnFill <;> grind [kept_chnTake, kept_mk, Kept]

theorem kept_chnStats (j : Nat) (sp : Nat) (valid : Bool) (sat : Nat) (pow : Nat) {s : State} (hk : Kept cmds s) :
    Kept cmds (chnStats j sp valid sat pow s) := by
  unfold chnStats
  try dsimp only
  all_goals (with_reducible repeat' first | assumption | rfl | apply kept_ite | apply kept_ite_st | apply kept_ite_snd | apply kept_State_setCslot | apply kept_raise | apply kept_setReg | apply kept_setReg64 | apply kept_wf)

theorem kept_chnSpectrum (j : Nat) {s : State} (hk : Kept cmds s) :
    Kept cmds (chnSpectrum j s) := by
  unfold chnSpectrum
  try dsimp only
  all_goals (with_reducible repeat' first | assumption | rfl | apply kept_ite | apply kept_ite_st | apply kept_ite_snd | apply kept_State_setCslot | apply kept_applyDue | apply kept_chnApply | apply kept_chnStats | apply kept_inc | (intro _ _ _) | (intro _ _) | split | refine kept_snd ?_ (by assumption) | refine kept_snd2 ?_ (by assumption) | refine kept_st ?_ (by assumption) | refine kept_get ?_ (by assumption) | refine kept_get2 ?_ (by assumption) | apply kept_with_grt)

theorem kept_chnFinish (j : Nat) (x0 : Nat) {x1 : State} (hk : Kept cmds x1) :
    Kept cmds (chnFinish j x0 x1) := by
  fun_induction chnFinish <;> grind [kept_chnFill, kept_chnSpectrum, kept_mk, Kept]

theorem kept_execChnStreamBegin (slot : Fin 256) {s : State} (hk : Kept cmds s) :
    ∀ t, execChnStreamBegin slot s = .next t → Kept cmds t := by
  intro t ht
  unfold execChnStreamBegin at ht
  try dsimp only at ht
  all_goals (repeat' first | (cases ht) | split at ht)
  all_goals (with_reducible repeat' first | assumption | rfl | apply kept_ite | apply kept_ite_st | apply kept_ite_snd | apply kept_chnBegin)

theorem kept_execChnStopCommit {s : State} (hk : Kept cmds s) :
    ∀ t, execChnStopCommit s = .next t → Kept cmds t := by
  intro t ht
  unfold execChnStopCommit at ht
  grind [kept_chnFinish, kept_chnHalt, kept_foldS, kept_wf, kept_mk, Kept]

theorem kept_execChnSpectrum (slot : Fin 256) {s : State} (hk : Kept cmds s) :
    ∀ t, execChnSpectrum slot s = .next t → Kept cmds t := by
  intro t ht
  unfold execChnSpectrum at ht
  grind [kept_chnFill, kept_chnHalt, kept_chnSpectrum, kept_mk, Kept]

end Sys2Proof.Machine
end

