-- ==== Sys2Proof/Laws/KeptHbm.lean ====
section
/-! SUPPORT. What the operations of Machine/Hbm keep (Laws/Kept). -/

namespace Sys2Proof.Machine

variable {cmds : List Instr}

theorem kept_pokeBytes (x0 : Nat) (x1 : List Byte) {x2 : State} (hk : Kept cmds x2) :
    Kept cmds (pokeBytes x0 x1 x2) := by
  fun_induction pokeBytes
  all_goals (with_reducible repeat' first | assumption | rfl | apply_assumption | apply kept_setHbmByte)

theorem kept_setEcc (a : Nat) (m : Nat) {s : State} (hk : Kept cmds s) :
    Kept cmds (setEcc a m s) := by
  unfold setEcc
  try dsimp only
  all_goals (with_reducible repeat' first | assumption | rfl | split | refine kept_snd ?_ (by assumption) | refine kept_snd2 ?_ (by assumption) | refine kept_st ?_ (by assumption) | refine kept_get ?_ (by assumption) | refine kept_get2 ?_ (by assumption) | apply kept_with_mem)

theorem kept_logUe (e : UeEnt) {s : State} (hk : Kept cmds s) :
    Kept cmds (logUe e s) := by
  obtain ⟨h1, h2, h3, h4, h5⟩ := hk
  unfold logUe
  split
  · next hl => exact ⟨h1, h2, h3, h4, by simp; omega⟩
  · split
    · split
      · next i hi =>
        refine ⟨h1, h2, h3, h4, ?_⟩
        have := length_findIdx _ _ _ hi
        simp only [List.length_append, List.length_reverse, List.length_singleton] at this ⊢
        rw [List.length_eraseIdx_of_lt (by simpa using this)]
        simp; omega
      · exact kept_wf _ _ ⟨h1, h2, h3, h4, h5⟩
    · exact kept_wf _ _ ⟨h1, h2, h3, h4, h5⟩

theorem kept_countUe (port : Nat) (source : Nat) (a : Nat) {s : State} (hk : Kept cmds s) :
    Kept cmds (countUe port source a s) := by
  unfold countUe
  try dsimp only
  all_goals (with_reducible repeat' first | assumption | rfl | apply kept_inc | apply kept_logUe | apply kept_raise)

theorem kept_countCe (a : Nat) {s : State} (hk : Kept cmds s) :
    Kept cmds (countCe a s) := by
  unfold countCe
  try dsimp only
  all_goals (with_reducible repeat' first | assumption | rfl | apply kept_inc | apply kept_setEcc | split | refine kept_snd ?_ (by assumption) | refine kept_snd2 ?_ (by assumption) | refine kept_st ?_ (by assumption) | refine kept_get ?_ (by assumption) | refine kept_get2 ?_ (by assumption) | apply kept_with_mem)

theorem kept_touchStack (port : Nat) (a : Nat) {s : State} (hk : Kept cmds s) :
    Kept cmds (touchStack port a s) := by
  unfold touchStack
  try dsimp only
  all_goals (with_reducible repeat' first | assumption | rfl | apply kept_ite | apply kept_ite_st | apply kept_ite_snd | apply kept_inc | apply kept_raise | apply kept_setReg | apply kept_wf | split)

theorem kept_readUnit (port : Nat) (a : Nat) (n : Nat) {s : State} (hk : Kept cmds s) :
    Kept cmds (readUnit port a n s).2 := by
  unfold readUnit
  try dsimp only
  all_goals (with_reducible repeat' first | assumption | rfl | apply kept_ite | apply kept_ite_st | apply kept_ite_snd | apply kept_countCe | apply kept_countUe | apply kept_touchStack | split)

theorem kept_writeUnit (port : Nat) (a : Nat) (bs : List Byte) {s : State} (hk : Kept cmds s) :
    Kept cmds (writeUnit port a bs s).2 := by
  unfold writeUnit
  try dsimp only
  all_goals (with_reducible repeat' first | assumption | rfl | apply kept_ite | apply kept_ite_st | apply kept_ite_snd | apply kept_countCe | apply kept_countUe | apply kept_pokeBytes | apply kept_setEcc | apply kept_touchStack | split)

theorem kept_hbmRead (port : Nat) (x0 : Nat) (x1 : Nat) (x2 : Nat) {x3 : State} (hk : Kept cmds x3) :
    Kept cmds (hbmRead port x0 x1 x2 x3).2 := by
  fun_induction hbmRead <;> grind [kept_readUnit, kept_mk, Kept]

theorem kept_hbmGet (port : Nat) (a : Nat) (n : Nat) {s : State} (hk : Kept cmds s) :
    Kept cmds (hbmGet port a n s).2 := by
  unfold hbmGet
  grind [kept_hbmRead, kept_mk, Kept]

theorem kept_hbmWrite (port : Nat) (x0 : Nat) (x1 : Nat) (x2 : List Byte) {x3 : State} (hk : Kept cmds x3) :
    Kept cmds (hbmWrite port x0 x1 x2 x3).2 := by
  fun_induction hbmWrite <;> grind [kept_writeUnit, kept_mk, Kept]

theorem kept_hbmPut (port : Nat) (a : Nat) (bs : List Byte) {s : State} (hk : Kept cmds s) :
    Kept cmds (hbmPut port a bs s).2 := by
  unfold hbmPut
  grind [kept_hbmWrite, kept_mk, Kept]

end Sys2Proof.Machine
end

