-- ==== Sys2Proof/Laws/KeptTrp.lean ====
section
/-! SUPPORT. What the operations of Machine/Trp keep (Laws/Kept). -/

namespace Sys2Proof.Machine

variable {cmds : List Instr}

theorem kept_State_setTbeam {s : State} (b : Nat) (x : BeamSt) (hk : Kept cmds s) :
    Kept cmds (State.setTbeam s b x) := by
  unfold State.setTbeam
  try dsimp only
  all_goals (with_reducible repeat' first | assumption | rfl | apply kept_setReg64 | split | refine kept_snd ?_ (by assumption) | refine kept_snd2 ?_ (by assumption) | refine kept_st ?_ (by assumption) | refine kept_get ?_ (by assumption) | refine kept_get2 ?_ (by assumption) | apply kept_with_trp)

theorem kept_State_setTrule {s : State} (r : Nat) (x : RuleSt) (hk : Kept cmds s) :
    Kept cmds (State.setTrule s r x) := by
  unfold State.setTrule
  try dsimp only
  all_goals (with_reducible repeat' first | assumption | rfl | split | refine kept_snd ?_ (by assumption) | refine kept_snd2 ?_ (by assumption) | refine kept_st ?_ (by assumption) | refine kept_get ?_ (by assumption) | refine kept_get2 ?_ (by assumption) | apply kept_with_trp)

theorem kept_State_setCap {s : State} (e : Nat) (x : CapSt) (hk : Kept cmds s) :
    Kept cmds (State.setCap s e x) := by
  unfold State.setCap
  try dsimp only
  all_goals (with_reducible repeat' first | assumption | rfl | apply kept_ite | apply kept_ite_st | apply kept_ite_snd | apply kept_setReg | apply kept_setReg64 | split | refine kept_snd ?_ (by assumption) | refine kept_snd2 ?_ (by assumption) | refine kept_st ?_ (by assumption) | refine kept_get ?_ (by assumption) | refine kept_get2 ?_ (by assumption) | apply kept_with_trp)

theorem kept_trpDerive (i : Nat) (b : Nat) {s : State} (hk : Kept cmds s) :
    Kept cmds (trpDerive i b s) := by
  unfold trpDerive
  try dsimp only
  all_goals (with_reducible repeat' first | assumption | rfl | apply kept_inc | apply kept_raise | (intro _ _ _) | (intro _ _) | split | refine kept_snd ?_ (by assumption) | refine kept_snd2 ?_ (by assumption) | refine kept_st ?_ (by assumption) | refine kept_get ?_ (by assumption) | refine kept_get2 ?_ (by assumption) | apply kept_with_trp)

theorem kept_trpDirRecord (b : Nat) (ws : List Nat) {s : State} (hk : Kept cmds s) :
    Kept cmds (trpDirRecord b ws s) := by
  unfold trpDirRecord
  try dsimp only
  all_goals (with_reducible repeat' first | assumption | rfl | apply kept_ite | apply kept_ite_st | apply kept_ite_snd | apply kept_foldS | apply kept_setReg | apply kept_trpDerive | (intro _ _ _))

theorem kept_setPin (n : Nat) (on : Bool) {s : State} (hk : Kept cmds s) :
    Kept cmds (setPin n on s) := by
  unfold setPin
  try dsimp only
  all_goals (with_reducible repeat' first | assumption | rfl | apply kept_ite | apply kept_ite_st | apply kept_ite_snd | apply kept_emit | split | refine kept_snd ?_ (by assumption) | refine kept_snd2 ?_ (by assumption) | refine kept_st ?_ (by assumption) | refine kept_get ?_ (by assumption) | refine kept_get2 ?_ (by assumption) | apply kept_with_trp)

theorem kept_pinsRest {s : State} (hk : Kept cmds s) :
    Kept cmds (pinsRest s) := by
  unfold pinsRest
  try dsimp only
  all_goals (with_reducible repeat' first | assumption | rfl | apply kept_foldS | apply kept_setPin | (intro _ _ _))

theorem kept_trpApply (off : Nat) (s : State) {old : State} (hs : Kept cmds s) (hk : Kept cmds old) :
    Kept cmds (trpApply off s old).st := by
  unfold trpApply
  try dsimp only
  all_goals (with_reducible repeat' first | assumption | rfl | apply kept_ite | apply kept_ite_st | apply kept_ite_snd | apply kept_acc | apply kept_refuse | (intro _ _ _) | (intro _ _) | split | refine kept_snd ?_ (by assumption) | refine kept_snd2 ?_ (by assumption) | refine kept_st ?_ (by assumption) | refine kept_get ?_ (by assumption) | refine kept_get2 ?_ (by assumption) | apply kept_with_trp)

theorem kept_trpCommit {s : State} (hk : Kept cmds s) :
    Kept cmds (trpCommit s) := by
  unfold trpCommit
  try dsimp only
  all_goals (with_reducible repeat' first | assumption | rfl | apply kept_ite | apply kept_ite_st | apply kept_ite_snd | apply kept_State_setTrule | apply kept_foldS | (intro _ _ _) | (intro _ _) | split | refine kept_snd ?_ (by assumption) | refine kept_snd2 ?_ (by assumption) | refine kept_st ?_ (by assumption) | refine kept_get ?_ (by assumption) | refine kept_get2 ?_ (by assumption) | apply kept_with_trp)

theorem kept_trpCapture (r : Nat) (e : Nat) (ws : List Nat) {s : State} (hk : Kept cmds s) :
    Kept cmds (trpCapture r e ws s).2 := by
  unfold trpCapture
  try dsimp only
  all_goals (with_reducible repeat' first | assumption | rfl | apply kept_ite | apply kept_ite_st | apply kept_ite_snd | apply kept_State_setCap | apply kept_raise | (intro _ _ _) | (intro _ _) | split)

theorem kept_trpDrain {s : State} (hk : Kept cmds s) :
    Kept cmds (trpDrain s) := by
  unfold trpDrain
  try dsimp only
  all_goals (with_reducible repeat' first | assumption | rfl | apply kept_ite | apply kept_ite_st | apply kept_ite_snd | apply kept_foldS | apply kept_raise | (intro _ _ _) | (intro _ _) | split | refine kept_snd ?_ (by assumption) | refine kept_snd2 ?_ (by assumption) | refine kept_st ?_ (by assumption) | refine kept_get ?_ (by assumption) | refine kept_get2 ?_ (by assumption) | apply kept_with_trp)

theorem kept_levelUpdate (b : Nat) (p : Nat) (e : Nat) {s : State} (hk : Kept cmds s) :
    Kept cmds (levelUpdate b p e s) := by
  unfold levelUpdate
  try dsimp only
  all_goals (with_reducible repeat' first | assumption | rfl | apply kept_ite | apply kept_ite_st | apply kept_ite_snd | apply kept_State_setTbeam | apply kept_raise)

theorem kept_trpFire (r : Nat) (beam : Nat) (ratio : Nat) (e : Nat) {s : State} (hk : Kept cmds s) :
    Kept cmds (trpFire r beam ratio e s) := by
  unfold trpFire
  try dsimp only
  all_goals (with_reducible repeat' first | assumption | rfl | apply kept_ite | apply kept_ite_st | apply kept_ite_snd | apply kept_foldS | apply kept_inc | apply kept_setPin | apply kept_trpCapture | (intro _ _ _) | (intro _ _) | split | refine kept_snd ?_ (by assumption) | refine kept_snd2 ?_ (by assumption) | refine kept_st ?_ (by assumption) | refine kept_get ?_ (by assumption) | refine kept_get2 ?_ (by assumption) | apply kept_with_trp)

theorem kept_trpRule (k : Nat) (e : Nat) (hit : Nat → Nat → Bool) (ratio : Nat → Nat) (r : Nat) {s : State} (hk : Kept cmds s) :
    Kept cmds (trpRule k e hit ratio r s) := by
  unfold trpRule
  try dsimp only
  all_goals (with_reducible repeat' first | assumption | rfl | apply kept_ite | apply kept_ite_st | apply kept_ite_snd | apply kept_State_setTrule | apply kept_trpFire | (intro _ _ _) | (intro _ _) | split)

theorem kept_trpMark (w : Waymark) {s : State} (hk : Kept cmds s) :
    Kept cmds (trpMark w s) := by
  unfold trpMark
  try dsimp only
  all_goals (with_reducible repeat' first | assumption | rfl | apply kept_ite | apply kept_ite_st | apply kept_ite_snd | apply kept_wf | (intro _ _ _) | (intro _ _) | split | refine kept_snd ?_ (by assumption) | refine kept_snd2 ?_ (by assumption) | refine kept_st ?_ (by assumption) | refine kept_get ?_ (by assumption) | refine kept_get2 ?_ (by assumption) | apply kept_with_trp)

theorem kept_trpTrim (lo : Nat) {s : State} (hk : Kept cmds s) :
    Kept cmds (trpTrim lo s) := by
  unfold trpTrim
  try dsimp only
  all_goals (with_reducible repeat' first | assumption | rfl | (intro _ _ _) | (intro _ _) | split | refine kept_snd ?_ (by assumption) | refine kept_snd2 ?_ (by assumption) | refine kept_st ?_ (by assumption) | refine kept_get ?_ (by assumption) | refine kept_get2 ?_ (by assumption) | apply kept_with_trp)

theorem kept_trpWindow {s : State} (hk : Kept cmds s) :
    Kept cmds (trpWindow s) := by
  unfold trpWindow
  try dsimp only
  all_goals (with_reducible repeat' first | assumption | rfl | apply kept_ite | apply kept_ite_st | apply kept_ite_snd | apply kept_applyDue | apply kept_foldS | apply kept_inc | apply kept_levelUpdate | apply kept_setReg | apply kept_trpCommit | apply kept_trpDrain | apply kept_trpMark | apply kept_trpRule | apply kept_trpTrim | (intro _ _ _) | (intro _ _) | split | refine kept_snd ?_ (by assumption) | refine kept_snd2 ?_ (by assumption) | refine kept_st ?_ (by assumption) | refine kept_get ?_ (by assumption) | refine kept_get2 ?_ (by assumption) | apply kept_with_trp)

theorem kept_trpModeChanged {s : State} (hk : Kept cmds s) :
    Kept cmds (trpModeChanged s) := by
  unfold trpModeChanged
  try dsimp only
  all_goals (with_reducible repeat' first | assumption | rfl | apply kept_ite | apply kept_ite_st | apply kept_ite_snd | apply kept_State_setTbeam | apply kept_foldS | apply kept_pinsRest | (intro _ _ _) | (intro _ _) | split | refine kept_snd ?_ (by assumption) | refine kept_snd2 ?_ (by assumption) | refine kept_st ?_ (by assumption) | refine kept_get ?_ (by assumption) | refine kept_get2 ?_ (by assumption) | apply kept_with_trp)

theorem kept_trpRefuse (off : Nat) (cause : Nat) {s : State} (hk : Kept cmds s) :
    Kept cmds (trpRefuse off cause s).st := by
  unfold trpRefuse
  try dsimp only
  all_goals (with_reducible repeat' first | assumption | rfl | apply kept_refuse)

theorem kept_trpBasicWrite (v : Nat) {s : State} (hk : Kept cmds s) :
    Kept cmds (trpBasicWrite v s).st := by
  unfold trpBasicWrite
  try dsimp only
  all_goals (with_reducible repeat' first | assumption | rfl | apply kept_ite | apply kept_ite_st | apply kept_ite_snd | apply kept_acc | apply kept_foldS | apply kept_setReg | apply kept_storeBits | apply kept_trpApply | apply kept_trpModeChanged | apply kept_trpRefuse | apply kept_wf | (intro _ _ _) | (intro _ _) | split | refine kept_snd ?_ (by assumption) | refine kept_snd2 ?_ (by assumption) | refine kept_st ?_ (by assumption) | refine kept_get ?_ (by assumption) | refine kept_get2 ?_ (by assumption) | apply kept_with_trp)

theorem kept_trpRelease (e : Nat) {s : State} (hk : Kept cmds s) :
    Kept cmds (trpRelease e s) := by
  unfold trpRelease
  try dsimp only
  all_goals (with_reducible repeat' first | assumption | rfl | apply kept_State_setCap)

theorem kept_trpCtrlWrite (v : Nat) {s : State} (hk : Kept cmds s) :
    Kept cmds (trpCtrlWrite v s).st := by
  unfold trpCtrlWrite
  try dsimp only
  all_goals (with_reducible repeat' first | assumption | rfl | apply kept_ite | apply kept_ite_st | apply kept_ite_snd | apply kept_State_setTbeam | apply kept_acc | apply kept_foldS | apply kept_trpApply | (intro _ _ _) | (intro _ _) | split | refine kept_snd ?_ (by assumption) | refine kept_snd2 ?_ (by assumption) | refine kept_st ?_ (by assumption) | refine kept_get ?_ (by assumption) | refine kept_get2 ?_ (by assumption) | apply kept_with_trp)

theorem kept_trpDirWrite (off : Nat) (v : Nat) {s : State} (hk : Kept cmds s) :
    Kept cmds (trpDirWrite off v s).st := by
  unfold trpDirWrite
  try dsimp only
  all_goals (with_reducible repeat' first | assumption | rfl | apply kept_ite | apply kept_ite_st | apply kept_ite_snd | apply kept_acc | apply kept_setReg | apply kept_trpDerive | apply kept_trpRefuse)

theorem kept_trpCntClear (v : Nat) {s : State} (hk : Kept cmds s) :
    Kept cmds (trpCntClear v s) := by
  unfold trpCntClear
  try dsimp only
  all_goals (with_reducible repeat' first | assumption | rfl | apply kept_ite | apply kept_ite_st | apply kept_ite_snd | apply kept_zero)

theorem kept_trpHeldWrite (off : Nat) (mask : Nat) (v : Nat) (ok : Bool) {s : State} (hk : Kept cmds s) :
    Kept cmds (trpHeldWrite off mask v ok s).st := by
  unfold trpHeldWrite
  try dsimp only
  all_goals (with_reducible repeat' first | assumption | rfl | apply kept_ite | apply kept_ite_st | apply kept_ite_snd | apply kept_acc | apply kept_storeBits | apply kept_trpRefuse)

theorem kept_trpWrite (off : Nat) (v : Nat) {s : State} (hk : Kept cmds s) :
    ∀ r, trpWrite off v s = some r → Kept cmds r.st := by
  intro t ht
  unfold trpWrite at ht
  try dsimp only at ht
  all_goals (repeat' first | (cases ht) | split at ht)
  all_goals (with_reducible repeat' first | assumption | rfl | apply kept_ite | apply kept_ite_st | apply kept_ite_snd | apply kept_acc | apply kept_foldS | apply kept_storeBits | apply kept_trpBasicWrite | apply kept_trpCntClear | apply kept_trpCtrlWrite | apply kept_trpDirWrite | apply kept_trpHeldWrite | apply kept_trpRefuse | apply kept_trpRelease)

theorem kept_rideTrig (w : Waymark) {s : State} (hk : Kept cmds s) :
    Kept cmds (rideTrig w s) := by
  unfold rideTrig
  try dsimp only
  all_goals (with_reducible repeat' first | assumption | rfl | (intro _ _ _) | (intro _ _) | split | refine kept_snd ?_ (by assumption) | refine kept_snd2 ?_ (by assumption) | refine kept_st ?_ (by assumption) | refine kept_get ?_ (by assumption) | refine kept_get2 ?_ (by assumption) | apply kept_with_frm)

theorem kept_trpReport (suspect : Bool) {s : State} (hk : Kept cmds s) :
    Kept cmds (trpReport suspect s) := by
  unfold trpReport
  try dsimp only
  all_goals (with_reducible repeat' first | assumption | rfl | apply kept_ite | apply kept_ite_st | apply kept_ite_snd | apply kept_inc | apply kept_raise | apply kept_rideTrig | apply kept_sigAdd | split | refine kept_snd ?_ (by assumption) | refine kept_snd2 ?_ (by assumption) | refine kept_st ?_ (by assumption) | refine kept_get ?_ (by assumption) | refine kept_get2 ?_ (by assumption) | apply kept_with_trp)

theorem kept_ringWrite {s : State} (hk : Kept cmds s) :
    Kept cmds (ringWrite s) := by
  unfold ringWrite
  try dsimp only
  all_goals (with_reducible repeat' first | assumption | rfl | apply kept_ite | apply kept_ite_st | apply kept_ite_snd | apply kept_State_setCap | apply kept_foldS | apply kept_hbmPut | apply kept_inc | apply kept_setReg64 | apply kept_trpDrain | (intro _ _ _) | (intro _ _) | split | refine kept_snd ?_ (by assumption) | refine kept_snd2 ?_ (by assumption) | refine kept_st ?_ (by assumption) | refine kept_get ?_ (by assumption) | refine kept_get2 ?_ (by assumption) | apply kept_with_trp)

theorem kept_execTrpWindow {s : State} (hk : Kept cmds s) :
    ∀ t, execTrpWindow s = .next t → Kept cmds t := by
  intro t ht
  unfold execTrpWindow at ht
  try dsimp only at ht
  all_goals (repeat' first | (cases ht) | split at ht)
  all_goals (with_reducible repeat' first | assumption | rfl | apply kept_ite | apply kept_ite_st | apply kept_ite_snd | apply kept_trpWindow)

theorem kept_execPinPulseEnd (pin : Fin 8) {s : State} (hk : Kept cmds s) :
    ∀ t, execPinPulseEnd pin s = .next t → Kept cmds t := by
  intro t ht
  unfold execPinPulseEnd at ht
  try dsimp only at ht
  all_goals (repeat' first | (cases ht) | split at ht)
  all_goals (with_reducible repeat' first | assumption | rfl | apply kept_setPin)

theorem kept_execTrpReport (suspect : Bool) {s : State} (hk : Kept cmds s) :
    ∀ t, execTrpReport suspect s = .next t → Kept cmds t := by
  intro t ht
  unfold execTrpReport at ht
  try dsimp only at ht
  all_goals (repeat' first | (cases ht) | split at ht)
  all_goals (with_reducible repeat' first | assumption | rfl | apply kept_trpReport)

theorem kept_execTrigMarkTimeout (port : Fin 8) {s : State} (hk : Kept cmds s) :
    ∀ t, execTrigMarkTimeout port s = .next t → Kept cmds t := by
  intro t ht
  unfold execTrigMarkTimeout at ht
  try dsimp only at ht
  all_goals (repeat' first | (cases ht) | split at ht)
  all_goals (with_reducible repeat' first | assumption | rfl | apply kept_sendPort | (intro _ _ _) | (intro _ _) | split | refine kept_snd ?_ (by assumption) | refine kept_snd2 ?_ (by assumption) | refine kept_st ?_ (by assumption) | refine kept_get ?_ (by assumption) | refine kept_get2 ?_ (by assumption) | apply kept_with_frm)

theorem kept_execRingFrameWrite {s : State} (hk : Kept cmds s) :
    ∀ t, execRingFrameWrite s = .next t → Kept cmds t := by
  intro t ht
  unfold execRingFrameWrite at ht
  try dsimp only at ht
  all_goals (repeat' first | (cases ht) | split at ht)
  all_goals (with_reducible repeat' first | assumption | rfl | apply kept_ringWrite)

end Sys2Proof.Machine
end

