-- ==== Sys2Proof/Laws/KeptBrg.lean ====
section
/-! SUPPORT. What the operations of Machine/Brg keep (Laws/Kept). -/

namespace Sys2Proof.Machine

variable {cmds : List Instr}

theorem kept_State_setCore {s : State} (c : Nat) (k : CoreSt) (hk : Kept cmds s) :
    Kept cmds (State.setCore s c k) := by
  unfold State.setCore
  try dsimp only
  all_goals (with_reducible repeat' first | assumption | rfl | split | refine kept_snd ?_ (by assumption) | refine kept_snd2 ?_ (by assumption) | refine kept_st ?_ (by assumption) | refine kept_get ?_ (by assumption) | refine kept_get2 ?_ (by assumption) | apply kept_with_brg)

theorem kept_retire (c : Nat) (upd : BankSt → BankSt) (e : BrgEff) {s : State} (hk : Kept cmds s) :
    Kept cmds (retire c upd e s) := by
  unfold retire
  try dsimp only
  all_goals (with_reducible repeat' first | assumption | rfl | apply kept_State_setCore)

theorem kept_brgFault (c : Nat) (cause : Nat) {s : State} (hk : Kept cmds s) :
    Kept cmds (brgFault c cause s) := by
  unfold brgFault
  try dsimp only
  all_goals (with_reducible repeat' first | assumption | rfl | apply kept_State_setCore | apply kept_raise)

theorem kept_brgReach (c : Nat) {s : State} (hk : Kept cmds s) :
    Kept cmds (brgReach c s) := by
  unfold brgReach
  try dsimp only
  all_goals (with_reducible repeat' first | assumption | rfl | apply kept_ite | apply kept_ite_st | apply kept_ite_snd | apply kept_brgFault)

theorem kept_tickClosed (t : TickSt) {s : State} (hk : Kept cmds s) :
    Kept cmds (tickClosed t s) := by
  unfold tickClosed
  try dsimp only
  all_goals (with_reducible repeat' first | assumption | rfl | (intro _ _ _) | (intro _ _) | split | refine kept_snd ?_ (by assumption) | refine kept_snd2 ?_ (by assumption) | refine kept_st ?_ (by assumption) | refine kept_get ?_ (by assumption) | refine kept_get2 ?_ (by assumption) | apply kept_with_wm)

theorem kept_brgClose {s : State} (hk : Kept cmds s) :
    Kept cmds (brgClose s) := by
  unfold brgClose
  try dsimp only
  all_goals (with_reducible repeat' first | assumption | rfl | apply kept_foldS | apply kept_tickClosed | (intro _ _ _) | (intro _ _) | split | refine kept_snd ?_ (by assumption) | refine kept_snd2 ?_ (by assumption) | refine kept_st ?_ (by assumption) | refine kept_get ?_ (by assumption) | refine kept_get2 ?_ (by assumption) | apply kept_with_brg)

theorem kept_brgPosted (c : Nat) (n : Nat) {s : State} (hk : Kept cmds s) :
    Kept cmds (brgPosted c n s) := by
  unfold brgPosted
  try dsimp only
  all_goals (with_reducible repeat' first | assumption | rfl | apply kept_ite | apply kept_ite_st | apply kept_ite_snd | apply kept_brgClose | apply kept_setReg | (intro _ _ _) | (intro _ _) | split | refine kept_snd ?_ (by assumption) | refine kept_snd2 ?_ (by assumption) | refine kept_st ?_ (by assumption) | refine kept_get ?_ (by assumption) | refine kept_get2 ?_ (by assumption) | apply kept_with_brg)

theorem kept_brgFlushPosts (c : Nat) (x0 : Nat) {x1 : State} (hk : Kept cmds x1) :
    Kept cmds (brgFlushPosts c x0 x1) := by
  fun_induction brgFlushPosts
  all_goals (try dsimp only)
  all_goals (with_reducible repeat' first | assumption | rfl | apply_assumption | apply kept_State_setCore | apply kept_brgPosted)

theorem kept_brgWritten (c : Nat) {s : State} (hk : Kept cmds s) :
    Kept cmds (brgWritten c s) := by
  unfold brgWritten
  try dsimp only
  all_goals (with_reducible repeat' first | assumption | rfl | apply kept_State_setCore | apply kept_brgFlushPosts | apply kept_hbmPut | split)

theorem kept_brgRenumber {s : State} (hk : Kept cmds s) :
    Kept cmds (brgRenumber s) := by
  unfold brgRenumber
  try dsimp only
  all_goals (with_reducible repeat' first | assumption | rfl | apply kept_ite | apply kept_ite_st | apply kept_ite_snd | split | refine kept_snd ?_ (by assumption) | refine kept_snd2 ?_ (by assumption) | refine kept_st ?_ (by assumption) | refine kept_get ?_ (by assumption) | refine kept_get2 ?_ (by assumption) | apply kept_with_brg)

theorem kept_brgFire (n : Nat) {s : State} (hk : Kept cmds s) :
    Kept cmds (brgFire n s) := by
  unfold brgFire
  try dsimp only
  all_goals (with_reducible repeat' first | assumption | rfl | apply kept_ite | apply kept_ite_st | apply kept_ite_snd | apply kept_State_setCore | apply kept_brgClose | apply kept_foldS | apply kept_inc | apply kept_raise | apply kept_wf | (intro _ _ _) | (intro _ _) | split | refine kept_snd ?_ (by assumption) | refine kept_snd2 ?_ (by assumption) | refine kept_st ?_ (by assumption) | refine kept_get ?_ (by assumption) | refine kept_get2 ?_ (by assumption) | apply kept_with_brg)

theorem kept_brgTick {s : State} (hk : Kept cmds s) :
    Kept cmds (brgTick s) := by
  unfold brgTick
  try dsimp only
  all_goals (with_reducible repeat' first | assumption | rfl | apply kept_ite | apply kept_ite_st | apply kept_ite_snd | apply kept_brgFire | split)

theorem kept_brgDirArm (v : Nat) {s : State} (hk : Kept cmds s) :
    Kept cmds (brgDirArm v s) := by
  unfold brgDirArm
  try dsimp only
  all_goals (with_reducible repeat' first | assumption | rfl | apply kept_ite | apply kept_ite_st | apply kept_ite_snd | apply kept_raise | apply kept_storeBits | split | refine kept_snd ?_ (by assumption) | refine kept_snd2 ?_ (by assumption) | refine kept_st ?_ (by assumption) | refine kept_get ?_ (by assumption) | refine kept_get2 ?_ (by assumption) | apply kept_with_brg)

theorem kept_brgAlu (c : Nat) (d : Nat) (v : Nat) {s : State} (hk : Kept cmds s) :
    Kept cmds (brgAlu c d v s) := by
  unfold brgAlu
  try dsimp only
  all_goals (with_reducible repeat' first | assumption | rfl | apply kept_retire)

theorem kept_brgLate (c : Nat) (d : Nat) (v : Nat) (upd : BankSt → BankSt) {s : State} (hk : Kept cmds s) :
    Kept cmds (brgLate c d v upd s) := by
  unfold brgLate
  try dsimp only
  all_goals (with_reducible repeat' first | assumption | rfl | apply kept_retire)

theorem kept_iNop (c : Nat) {s : State} (hk : Kept cmds s) :
    Kept cmds (iNop c s) := by
  unfold iNop
  try dsimp only
  all_goals (with_reducible repeat' first | assumption | rfl | apply kept_retire)

theorem kept_iAdd (c : Nat) (w : Nat) {s : State} (hk : Kept cmds s) :
    Kept cmds (iAdd c w s) := by
  unfold iAdd
  try dsimp only
  all_goals (with_reducible repeat' first | assumption | rfl | apply kept_brgAlu)

theorem kept_iSub (c : Nat) (w : Nat) {s : State} (hk : Kept cmds s) :
    Kept cmds (iSub c w s) := by
  unfold iSub
  try dsimp only
  all_goals (with_reducible repeat' first | assumption | rfl | apply kept_brgAlu)

theorem kept_iAnd (c : Nat) (w : Nat) {s : State} (hk : Kept cmds s) :
    Kept cmds (iAnd c w s) := by
  unfold iAnd
  try dsimp only
  all_goals (with_reducible repeat' first | assumption | rfl | apply kept_brgAlu)

theorem kept_iOr (c : Nat) (w : Nat) {s : State} (hk : Kept cmds s) :
    Kept cmds (iOr c w s) := by
  unfold iOr
  try dsimp only
  all_goals (with_reducible repeat' first | assumption | rfl | apply kept_brgAlu)

theorem kept_iXor (c : Nat) (w : Nat) {s : State} (hk : Kept cmds s) :
    Kept cmds (iXor c w s) := by
  unfold iXor
  try dsimp only
  all_goals (with_reducible repeat' first | assumption | rfl | apply kept_brgAlu)

theorem kept_iShl (c : Nat) (w : Nat) {s : State} (hk : Kept cmds s) :
    Kept cmds (iShl c w s) := by
  unfold iShl
  try dsimp only
  all_goals (with_reducible repeat' first | assumption | rfl | apply kept_brgAlu)

theorem kept_iShr (c : Nat) (w : Nat) {s : State} (hk : Kept cmds s) :
    Kept cmds (iShr c w s) := by
  unfold iShr
  try dsimp only
  all_goals (with_reducible repeat' first | assumption | rfl | apply kept_brgAlu)

theorem kept_iSra (c : Nat) (w : Nat) {s : State} (hk : Kept cmds s) :
    Kept cmds (iSra c w s) := by
  unfold iSra
  try dsimp only
  all_goals (with_reducible repeat' first | assumption | rfl | apply kept_brgAlu)

theorem kept_iMul (c : Nat) (w : Nat) {s : State} (hk : Kept cmds s) :
    Kept cmds (iMul c w s) := by
  unfold iMul
  try dsimp only
  all_goals (with_reducible repeat' first | assumption | rfl | apply kept_brgAlu)

theorem kept_iAddi (c : Nat) (w : Nat) {s : State} (hk : Kept cmds s) :
    Kept cmds (iAddi c w s) := by
  unfold iAddi
  try dsimp only
  all_goals (with_reducible repeat' first | assumption | rfl | apply kept_brgAlu)

theorem kept_iOri (c : Nat) (w : Nat) {s : State} (hk : Kept cmds s) :
    Kept cmds (iOri c w s) := by
  unfold iOri
  try dsimp only
  all_goals (with_reducible repeat' first | assumption | rfl | apply kept_brgAlu)

theorem kept_iLui (c : Nat) (w : Nat) {s : State} (hk : Kept cmds s) :
    Kept cmds (iLui c w s) := by
  unfold iLui
  try dsimp only
  all_goals (with_reducible repeat' first | assumption | rfl | apply kept_brgAlu)

theorem kept_iLd (c : Nat) (w : Nat) {s : State} (hk : Kept cmds s) :
    Kept cmds (iLd c w s) := by
  unfold iLd
  try dsimp only
  all_goals (with_reducible repeat' first | assumption | rfl | apply kept_ite | apply kept_ite_st | apply kept_ite_snd | apply kept_brgLate)

theorem kept_iSt (c : Nat) (w : Nat) {s : State} (hk : Kept cmds s) :
    Kept cmds (iSt c w s) := by
  unfold iSt
  try dsimp only
  all_goals (with_reducible repeat' first | assumption | rfl | apply kept_ite | apply kept_ite_st | apply kept_ite_snd | apply kept_retire | apply kept_setReg)

theorem kept_iSetp (c : Nat) (w : Nat) {s : State} (hk : Kept cmds s) :
    Kept cmds (iSetp c w s) := by
  unfold iSetp
  try dsimp only
  all_goals (with_reducible repeat' first | assumption | rfl | apply kept_ite | apply kept_ite_st | apply kept_ite_snd | apply kept_retire)

theorem kept_iSetm (c : Nat) (w : Nat) {s : State} (hk : Kept cmds s) :
    Kept cmds (iSetm c w s) := by
  unfold iSetm
  try dsimp only
  all_goals (with_reducible repeat' first | assumption | rfl | apply kept_retire)

theorem kept_iMfs (c : Nat) (w : Nat) {s : State} (hk : Kept cmds s) :
    Kept cmds (iMfs c w s) := by
  unfold iMfs
  try dsimp only
  all_goals (with_reducible repeat' first | assumption | rfl | apply kept_brgLate)

theorem kept_brgMac (c : Nat) (w : Nat) (prods : List (Nat × Int)) {s : State} (hk : Kept cmds s) :
    Kept cmds (brgMac c w prods s) := by
  unfold brgMac
  try dsimp only
  all_goals (with_reducible repeat' first | assumption | rfl | apply kept_ite | apply kept_ite_st | apply kept_ite_snd | apply kept_foldS | apply kept_retire)

theorem kept_iOmac (c : Nat) (w : Nat) {s : State} (hk : Kept cmds s) :
    Kept cmds (iOmac c w s) := by
  unfold iOmac
  try dsimp only
  all_goals (with_reducible repeat' first | assumption | rfl | apply kept_brgMac)

theorem kept_iCmac (c : Nat) (w : Nat) {s : State} (hk : Kept cmds s) :
    Kept cmds (iCmac c w s) := by
  unfold iCmac
  try dsimp only
  all_goals (with_reducible repeat' first | assumption | rfl | apply kept_brgMac)

theorem kept_iDmac (c : Nat) (w : Nat) {s : State} (hk : Kept cmds s) :
    Kept cmds (iDmac c w s) := by
  unfold iDmac
  try dsimp only
  all_goals (with_reducible repeat' first | assumption | rfl | apply kept_brgMac)

theorem kept_iExt (c : Nat) (w : Nat) {s : State} (hk : Kept cmds s) :
    Kept cmds (iExt c w s) := by
  unfold iExt
  try dsimp only
  all_goals (with_reducible repeat' first | assumption | rfl | apply kept_ite | apply kept_ite_st | apply kept_ite_snd | apply kept_State_setCore | apply kept_brgLate)

theorem kept_iMova (c : Nat) (w : Nat) {s : State} (hk : Kept cmds s) :
    Kept cmds (iMova c w s) := by
  unfold iMova
  try dsimp only
  all_goals (with_reducible repeat' first | assumption | rfl | apply kept_retire)

theorem kept_brgBranch (c : Nat) (taken : Bool) (t : Nat) (fast : List (Nat × Nat)) {s : State} (hk : Kept cmds s) :
    Kept cmds (brgBranch c taken t fast s) := by
  unfold brgBranch
  try dsimp only
  all_goals (with_reducible repeat' first | assumption | rfl | apply kept_ite | apply kept_ite_st | apply kept_ite_snd | apply kept_brgFault | apply kept_retire)

theorem kept_iBeq (c : Nat) (w : Nat) {s : State} (hk : Kept cmds s) :
    Kept cmds (iBeq c w s) := by
  unfold iBeq
  try dsimp only
  all_goals (with_reducible repeat' first | assumption | rfl | apply kept_brgBranch)

theorem kept_iBne (c : Nat) (w : Nat) {s : State} (hk : Kept cmds s) :
    Kept cmds (iBne c w s) := by
  unfold iBne
  try dsimp only
  all_goals (with_reducible repeat' first | assumption | rfl | apply kept_brgBranch)

theorem kept_iBlt (c : Nat) (w : Nat) {s : State} (hk : Kept cmds s) :
    Kept cmds (iBlt c w s) := by
  unfold iBlt
  try dsimp only
  all_goals (with_reducible repeat' first | assumption | rfl | apply kept_brgBranch)

theorem kept_iBge (c : Nat) (w : Nat) {s : State} (hk : Kept cmds s) :
    Kept cmds (iBge c w s) := by
  unfold iBge
  try dsimp only
  all_goals (with_reducible repeat' first | assumption | rfl | apply kept_brgBranch)

theorem kept_iJmp (c : Nat) (w : Nat) {s : State} (hk : Kept cmds s) :
    Kept cmds (iJmp c w s) := by
  unfold iJmp
  try dsimp only
  all_goals (with_reducible repeat' first | assumption | rfl | apply kept_brgBranch)

theorem kept_iCall (c : Nat) (w : Nat) {s : State} (hk : Kept cmds s) :
    Kept cmds (iCall c w s) := by
  unfold iCall
  try dsimp only
  all_goals (with_reducible repeat' first | assumption | rfl | apply kept_brgBranch)

theorem kept_iRet (c : Nat) {s : State} (hk : Kept cmds s) :
    Kept cmds (iRet c s) := by
  unfold iRet
  try dsimp only
  all_goals (with_reducible repeat' first | assumption | rfl | apply kept_brgBranch)

theorem kept_iLoop (c : Nat) (w : Nat) {s : State} (hk : Kept cmds s) :
    Kept cmds (iLoop c w s) := by
  unfold iLoop
  try dsimp only
  all_goals (with_reducible repeat' first | assumption | rfl | apply kept_ite | apply kept_ite_st | apply kept_ite_snd | apply kept_State_setCore | apply kept_brgFault | apply kept_retire)

theorem kept_iPut (c : Nat) (w : Nat) {s : State} (hk : Kept cmds s) :
    Kept cmds (iPut c w s) := by
  unfold iPut
  try dsimp only
  all_goals (with_reducible repeat' first | assumption | rfl | apply kept_ite | apply kept_ite_st | apply kept_ite_snd | apply kept_State_setCore | apply kept_brgFault | apply kept_retire)

theorem kept_iDir (c : Nat) (w : Nat) {s : State} (hk : Kept cmds s) :
    Kept cmds (iDir c w s) := by
  unfold iDir
  try dsimp only
  all_goals (with_reducible repeat' first | assumption | rfl | apply kept_ite | apply kept_ite_st | apply kept_ite_snd | apply kept_State_setCore | apply kept_brgFault | apply kept_foldS | apply kept_retire | apply kept_setReg | apply kept_trpDirRecord | (intro _ _ _))

theorem kept_iPost (c : Nat) (w : Nat) {s : State} (hk : Kept cmds s) :
    Kept cmds (iPost c w s) := by
  unfold iPost
  try dsimp only
  all_goals (with_reducible repeat' first | assumption | rfl | apply kept_ite | apply kept_ite_st | apply kept_ite_snd | apply kept_State_setCore | apply kept_brgFlushPosts | apply kept_retire | (intro _ _ _) | (intro _ _) | split | refine kept_snd ?_ (by assumption) | refine kept_snd2 ?_ (by assumption) | refine kept_st ?_ (by assumption) | refine kept_get ?_ (by assumption) | refine kept_get2 ?_ (by assumption) | apply kept_with_brg)

theorem kept_iWaitt (c : Nat) {s : State} (hk : Kept cmds s) :
    Kept cmds (iWaitt c s) := by
  unfold iWaitt
  try dsimp only
  all_goals (with_reducible repeat' first | assumption | rfl | apply kept_ite | apply kept_ite_st | apply kept_ite_snd | apply kept_State_setCore | apply kept_retire | split)

theorem kept_iWaiti (c : Nat) {s : State} (hk : Kept cmds s) :
    Kept cmds (iWaiti c s) := by
  unfold iWaiti
  try dsimp only
  all_goals (with_reducible repeat' first | assumption | rfl | apply kept_ite | apply kept_ite_st | apply kept_ite_snd | apply kept_State_setCore | apply kept_retire)

theorem kept_iReti (c : Nat) {s : State} (hk : Kept cmds s) :
    Kept cmds (iReti c s) := by
  unfold iReti
  try dsimp only
  all_goals (with_reducible repeat' first | assumption | rfl | apply kept_ite | apply kept_ite_st | apply kept_ite_snd | apply kept_State_setCore | apply kept_brgFault | apply kept_setReg)

theorem kept_iEi (c : Nat) {s : State} (hk : Kept cmds s) :
    Kept cmds (iEi c s) := by
  unfold iEi
  try dsimp only
  all_goals (with_reducible repeat' first | assumption | rfl | apply kept_State_setCore | apply kept_retire)

theorem kept_iDi (c : Nat) {s : State} (hk : Kept cmds s) :
    Kept cmds (iDi c s) := by
  unfold iDi
  try dsimp only
  all_goals (with_reducible repeat' first | assumption | rfl | apply kept_State_setCore | apply kept_retire)

theorem kept_iHalt (c : Nat) {s : State} (hk : Kept cmds s) :
    Kept cmds (iHalt c s) := by
  unfold iHalt
  try dsimp only
  all_goals (with_reducible repeat' first | assumption | rfl | apply kept_State_setCore | apply kept_raise | apply kept_retire)

theorem kept_brgInstr (c : Nat) (w : Nat) {s : State} (hk : Kept cmds s) :
    Kept cmds (brgInstr c w s) := by
  unfold brgInstr
  try dsimp only
  all_goals (with_reducible repeat' first | assumption | rfl | apply kept_ite | apply kept_ite_st | apply kept_ite_snd | apply kept_brgFault | apply kept_iAdd | apply kept_iAddi | apply kept_iAnd | apply kept_iBeq | apply kept_iBge | apply kept_iBlt | apply kept_iBne | apply kept_iCall | apply kept_iCmac | apply kept_iDi | apply kept_iDir | apply kept_iDmac | apply kept_iEi | apply kept_iExt | apply kept_iHalt | apply kept_iJmp | apply kept_iLd | apply kept_iLoop | apply kept_iLui | apply kept_iMfs | apply kept_iMova | apply kept_iMul | apply kept_iNop | apply kept_iOmac | apply kept_iOr | apply kept_iOri | apply kept_iPost | apply kept_iPut | apply kept_iRet | apply kept_iReti | apply kept_iSetm | apply kept_iSetp | apply kept_iShl | apply kept_iShr | apply kept_iSra | apply kept_iSt | apply kept_iSub | apply kept_iWaiti | apply kept_iWaitt | apply kept_iXor | split)

theorem kept_brgExec (op : Nat) (c : Nat) (run : State → State) {s : State} (hrun : ∀  t, Kept cmds t → Kept cmds (run  t)) (hk : Kept cmds s) :
    Kept cmds (brgExec op c run s) := by
  unfold brgExec
  try dsimp only
  all_goals (with_reducible repeat' first | assumption | rfl | apply kept_ite | apply kept_ite_st | apply kept_ite_snd | apply kept_brgReach | apply hrun)

theorem kept_brgWaitEnd (c : Nat) {s : State} (hk : Kept cmds s) :
    Kept cmds (brgWaitEnd c s) := by
  unfold brgWaitEnd
  try dsimp only
  all_goals (with_reducible repeat' first | assumption | rfl | apply kept_ite | apply kept_ite_st | apply kept_ite_snd | apply kept_State_setCore | apply kept_brgInstr | apply kept_brgReach)

theorem kept_brgAccept (c : Nat) {s : State} (hk : Kept cmds s) :
    Kept cmds (brgAccept c s) := by
  unfold brgAccept
  try dsimp only
  all_goals (with_reducible repeat' first | assumption | rfl | apply kept_ite | apply kept_ite_st | apply kept_ite_snd | apply kept_State_setCore | apply kept_brgReach)

theorem kept_brgLoadBuiltin (c : Nat) {s : State} (hk : Kept cmds s) :
    Kept cmds (brgLoadBuiltin c s) := by
  unfold brgLoadBuiltin
  try dsimp only
  all_goals (with_reducible repeat' first | assumption | rfl | apply kept_foldS | apply kept_setReg | (intro _ _ _))

theorem kept_brgStart (c : Nat) {s : State} (hk : Kept cmds s) :
    Kept cmds (brgStart c s) := by
  unfold brgStart
  try dsimp only
  all_goals (with_reducible repeat' first | assumption | rfl | apply kept_State_setCore | apply kept_brgReach)

theorem kept_brgHaltCore (c : Nat) {s : State} (hk : Kept cmds s) :
    Kept cmds (brgHaltCore c s) := by
  unfold brgHaltCore
  try dsimp only
  all_goals (with_reducible repeat' first | assumption | rfl | apply kept_ite | apply kept_ite_st | apply kept_ite_snd | apply kept_State_setCore)

theorem kept_brgStep (c : Nat) {s : State} (hk : Kept cmds s) :
    Kept cmds (brgStep c s) := by
  unfold brgStep
  try dsimp only
  all_goals (with_reducible repeat' first | assumption | rfl | apply kept_ite | apply kept_ite_st | apply kept_ite_snd | apply kept_brgInstr)

theorem kept_brgRefuse (off : Nat) (c : Nat) {s : State} (hk : Kept cmds s) :
    Kept cmds (brgRefuse off c s).st := by
  unfold brgRefuse
  try dsimp only
  all_goals (with_reducible repeat' first | assumption | rfl | apply kept_refuse)

theorem kept_brgBasicWrite (v : Nat) {s : State} (hk : Kept cmds s) :
    Kept cmds (brgBasicWrite v s).st := by
  unfold brgBasicWrite
  try dsimp only
  all_goals (with_reducible repeat' first | assumption | rfl | apply kept_ite | apply kept_ite_st | apply kept_ite_snd | apply kept_acc | apply kept_brgClose | apply kept_brgHaltCore | apply kept_brgLoadBuiltin | apply kept_brgRefuse | apply kept_brgRenumber | apply kept_brgStart | apply kept_foldS | apply kept_setReg | apply kept_storeBits | apply kept_wf)

theorem kept_brgCtrlWrite (off : Nat) (c : Nat) (v : Nat) {s : State} (hk : Kept cmds s) :
    Kept cmds (brgCtrlWrite off c v s).st := by
  unfold brgCtrlWrite
  try dsimp only
  all_goals (with_reducible repeat' first | assumption | rfl | apply kept_ite | apply kept_ite_st | apply kept_ite_snd | apply kept_acc | apply kept_brgHaltCore | apply kept_brgLoadBuiltin | apply kept_brgRefuse | apply kept_brgStart | apply kept_brgStep)

theorem kept_brgCntClear (v : Nat) {s : State} (hk : Kept cmds s) :
    Kept cmds (brgCntClear v s) := by
  unfold brgCntClear
  try dsimp only
  all_goals (with_reducible repeat' first | assumption | rfl | apply kept_ite | apply kept_ite_st | apply kept_ite_snd | apply kept_zero)

theorem kept_brgWrite (off : Nat) (v : Nat) {s : State} (hk : Kept cmds s) :
    ∀ r, brgWrite off v s = some r → Kept cmds r.st := by
  intro t ht
  unfold brgWrite at ht
  split at ht
  · cases ht; exact kept_brgBasicWrite _ hk
  · cases ht; exact kept_ite_st (kept_brgRefuse _ _ hk) (kept_storeBits _ _ _ hk)
  · cases ht; exact kept_ite_st (kept_brgRefuse _ _ hk) (kept_storeBits _ _ _ hk)
  · cases ht; exact kept_brgClose (kept_storeBits _ _ _ hk)
  · cases ht; exact kept_brgDirArm _ hk
  · cases ht; exact kept_brgCntClear _ hk
  · dsimp only at ht
    split at ht
    · split at ht
      · cases ht; exact kept_brgCtrlWrite _ _ _ hk
      · cases ht; exact kept_ite (kept_setReg _ _ hk) hk
      · cases ht
    · split at ht
      · split at ht
        · cases ht; exact kept_brgRefuse _ _ hk
        · cases ht; exact kept_setReg _ _ hk
      · cases ht

theorem kept_execBrgTickFire {s : State} (hk : Kept cmds s) :
    ∀ t, execBrgTickFire s = .next t → Kept cmds t := by
  intro t ht
  unfold execBrgTickFire at ht
  try dsimp only at ht
  all_goals (repeat' first | (cases ht) | split at ht)
  all_goals (with_reducible repeat' first | assumption | rfl | apply kept_brgTick)

theorem kept_execBrgInterruptAccept (core : Fin 16) {s : State} (hk : Kept cmds s) :
    ∀ t, execBrgInterruptAccept core s = .next t → Kept cmds t := by
  intro t ht
  unfold execBrgInterruptAccept at ht
  try dsimp only at ht
  all_goals (repeat' first | (cases ht) | split at ht)
  all_goals (with_reducible repeat' first | assumption | rfl | apply kept_brgAccept)

theorem kept_execBrgWaitEnd (core : Fin 16) {s : State} (hk : Kept cmds s) :
    ∀ t, execBrgWaitEnd core s = .next t → Kept cmds t := by
  intro t ht
  unfold execBrgWaitEnd at ht
  try dsimp only at ht
  all_goals (repeat' first | (cases ht) | split at ht)
  all_goals (with_reducible repeat' first | assumption | rfl | apply kept_brgWaitEnd)

theorem kept_execBrgPutWritten (core : Fin 16) {s : State} (hk : Kept cmds s) :
    ∀ t, execBrgPutWritten core s = .next t → Kept cmds t := by
  intro t ht
  unfold execBrgPutWritten at ht
  try dsimp only at ht
  all_goals (repeat' first | (cases ht) | split at ht)
  all_goals (with_reducible repeat' first | assumption | rfl | apply kept_brgWritten)

theorem kept_execBrgNop (core : Fin 16) {s : State} (hk : Kept cmds s) :
    ∀ t, execBrgNop core s = .next t → Kept cmds t := by
  intro t ht
  unfold execBrgNop at ht
  try dsimp only at ht
  all_goals (repeat' first | (cases ht) | split at ht)
  all_goals (with_reducible repeat' first | assumption | rfl | apply kept_brgExec | apply kept_iNop)

theorem kept_execBrgAdd (core : Fin 16) {s : State} (hk : Kept cmds s) :
    ∀ t, execBrgAdd core s = .next t → Kept cmds t := by
  intro t ht
  unfold execBrgAdd at ht
  try dsimp only at ht
  all_goals (repeat' first | (cases ht) | split at ht)
  all_goals (with_reducible repeat' first | assumption | rfl | apply kept_brgExec | apply kept_iAdd | (intro _ _ _) | (intro _ _))

theorem kept_execBrgSub (core : Fin 16) {s : State} (hk : Kept cmds s) :
    ∀ t, execBrgSub core s = .next t → Kept cmds t := by
  intro t ht
  unfold execBrgSub at ht
  try dsimp only at ht
  all_goals (repeat' first | (cases ht) | split at ht)
  all_goals (with_reducible repeat' first | assumption | rfl | apply kept_brgExec | apply kept_iSub | (intro _ _ _) | (intro _ _))

theorem kept_execBrgAnd (core : Fin 16) {s : State} (hk : Kept cmds s) :
    ∀ t, execBrgAnd core s = .next t → Kept cmds t := by
  intro t ht
  unfold execBrgAnd at ht
  try dsimp only at ht
  all_goals (repeat' first | (cases ht) | split at ht)
  all_goals (with_reducible repeat' first | assumption | rfl | apply kept_brgExec | apply kept_iAnd | (intro _ _ _) | (intro _ _))

theorem kept_execBrgOr (core : Fin 16) {s : State} (hk : Kept cmds s) :
    ∀ t, execBrgOr core s = .next t → Kept cmds t := by
  intro t ht
  unfold execBrgOr at ht
  try dsimp only at ht
  all_goals (repeat' first | (cases ht) | split at ht)
  all_goals (with_reducible repeat' first | assumption | rfl | apply kept_brgExec | apply kept_iOr | (intro _ _ _) | (intro _ _))

theorem kept_execBrgXor (core : Fin 16) {s : State} (hk : Kept cmds s) :
    ∀ t, execBrgXor core s = .next t → Kept cmds t := by
  intro t ht
  unfold execBrgXor at ht
  try dsimp only at ht
  all_goals (repeat' first | (cases ht) | split at ht)
  all_goals (with_reducible repeat' first | assumption | rfl | apply kept_brgExec | apply kept_iXor | (intro _ _ _) | (intro _ _))

theorem kept_execBrgShl (core : Fin 16) {s : State} (hk : Kept cmds s) :
    ∀ t, execBrgShl core s = .next t → Kept cmds t := by
  intro t ht
  unfold execBrgShl at ht
  try dsimp only at ht
  all_goals (repeat' first | (cases ht) | split at ht)
  all_goals (with_reducible repeat' first | assumption | rfl | apply kept_brgExec | apply kept_iShl | (intro _ _ _) | (intro _ _))

theorem kept_execBrgShr (core : Fin 16) {s : State} (hk : Kept cmds s) :
    ∀ t, execBrgShr core s = .next t → Kept cmds t := by
  intro t ht
  unfold execBrgShr at ht
  try dsimp only at ht
  all_goals (repeat' first | (cases ht) | split at ht)
  all_goals (with_reducible repeat' first | assumption | rfl | apply kept_brgExec | apply kept_iShr | (intro _ _ _) | (intro _ _))

theorem kept_execBrgSra (core : Fin 16) {s : State} (hk : Kept cmds s) :
    ∀ t, execBrgSra core s = .next t → Kept cmds t := by
  intro t ht
  unfold execBrgSra at ht
  try dsimp only at ht
  all_goals (repeat' first | (cases ht) | split at ht)
  all_goals (with_reducible repeat' first | assumption | rfl | apply kept_brgExec | apply kept_iSra | (intro _ _ _) | (intro _ _))

theorem kept_execBrgMul (core : Fin 16) {s : State} (hk : Kept cmds s) :
    ∀ t, execBrgMul core s = .next t → Kept cmds t := by
  intro t ht
  unfold execBrgMul at ht
  try dsimp only at ht
  all_goals (repeat' first | (cases ht) | split at ht)
  all_goals (with_reducible repeat' first | assumption | rfl | apply kept_brgExec | apply kept_iMul | (intro _ _ _) | (intro _ _))

theorem kept_execBrgAddi (core : Fin 16) {s : State} (hk : Kept cmds s) :
    ∀ t, execBrgAddi core s = .next t → Kept cmds t := by
  intro t ht
  unfold execBrgAddi at ht
  try dsimp only at ht
  all_goals (repeat' first | (cases ht) | split at ht)
  all_goals (with_reducible repeat' first | assumption | rfl | apply kept_brgExec | apply kept_iAddi | (intro _ _ _) | (intro _ _))

theorem kept_execBrgOri (core : Fin 16) {s : State} (hk : Kept cmds s) :
    ∀ t, execBrgOri core s = .next t → Kept cmds t := by
  intro t ht
  unfold execBrgOri at ht
  try dsimp only at ht
  all_goals (repeat' first | (cases ht) | split at ht)
  all_goals (with_reducible repeat' first | assumption | rfl | apply kept_brgExec | apply kept_iOri | (intro _ _ _) | (intro _ _))

theorem kept_execBrgLui (core : Fin 16) {s : State} (hk : Kept cmds s) :
    ∀ t, execBrgLui core s = .next t → Kept cmds t := by
  intro t ht
  unfold execBrgLui at ht
  try dsimp only at ht
  all_goals (repeat' first | (cases ht) | split at ht)
  all_goals (with_reducible repeat' first | assumption | rfl | apply kept_brgExec | apply kept_iLui | (intro _ _ _) | (intro _ _))

theorem kept_execBrgLd (core : Fin 16) {s : State} (hk : Kept cmds s) :
    ∀ t, execBrgLd core s = .next t → Kept cmds t := by
  intro t ht
  unfold execBrgLd at ht
  try dsimp only at ht
  all_goals (repeat' first | (cases ht) | split at ht)
  all_goals (with_reducible repeat' first | assumption | rfl | apply kept_brgExec | apply kept_iLd | (intro _ _ _) | (intro _ _))

theorem kept_execBrgSt (core : Fin 16) {s : State} (hk : Kept cmds s) :
    ∀ t, execBrgSt core s = .next t → Kept cmds t := by
  intro t ht
  unfold execBrgSt at ht
  try dsimp only at ht
  all_goals (repeat' first | (cases ht) | split at ht)
  all_goals (with_reducible repeat' first | assumption | rfl | apply kept_brgExec | apply kept_iSt | (intro _ _ _) | (intro _ _))

theorem kept_execBrgSetp (core : Fin 16) {s : State} (hk : Kept cmds s) :
    ∀ t, execBrgSetp core s = .next t → Kept cmds t := by
  intro t ht
  unfold execBrgSetp at ht
  try dsimp only at ht
  all_goals (repeat' first | (cases ht) | split at ht)
  all_goals (with_reducible repeat' first | assumption | rfl | apply kept_brgExec | apply kept_iSetp | (intro _ _ _) | (intro _ _))

theorem kept_execBrgSetm (core : Fin 16) {s : State} (hk : Kept cmds s) :
    ∀ t, execBrgSetm core s = .next t → Kept cmds t := by
  intro t ht
  unfold execBrgSetm at ht
  try dsimp only at ht
  all_goals (repeat' first | (cases ht) | split at ht)
  all_goals (with_reducible repeat' first | assumption | rfl | apply kept_brgExec | apply kept_iSetm | (intro _ _ _) | (intro _ _))

theorem kept_execBrgMfs (core : Fin 16) {s : State} (hk : Kept cmds s) :
    ∀ t, execBrgMfs core s = .next t → Kept cmds t := by
  intro t ht
  unfold execBrgMfs at ht
  try dsimp only at ht
  all_goals (repeat' first | (cases ht) | split at ht)
  all_goals (with_reducible repeat' first | assumption | rfl | apply kept_brgExec | apply kept_iMfs | (intro _ _ _) | (intro _ _))

theorem kept_execBrgOmac (core : Fin 16) {s : State} (hk : Kept cmds s) :
    ∀ t, execBrgOmac core s = .next t → Kept cmds t := by
  intro t ht
  unfold execBrgOmac at ht
  try dsimp only at ht
  all_goals (repeat' first | (cases ht) | split at ht)
  all_goals (with_reducible repeat' first | assumption | rfl | apply kept_brgExec | apply kept_iOmac | (intro _ _ _) | (intro _ _))

theorem kept_execBrgCmac (core : Fin 16) {s : State} (hk : Kept cmds s) :
    ∀ t, execBrgCmac core s = .next t → Kept cmds t := by
  intro t ht
  unfold execBrgCmac at ht
  try dsimp only at ht
  all_goals (repeat' first | (cases ht) | split at ht)
  all_goals (with_reducible repeat' first | assumption | rfl | apply kept_brgExec | apply kept_iCmac | (intro _ _ _) | (intro _ _))

theorem kept_execBrgDmac (core : Fin 16) {s : State} (hk : Kept cmds s) :
    ∀ t, execBrgDmac core s = .next t → Kept cmds t := by
  intro t ht
  unfold execBrgDmac at ht
  try dsimp only at ht
  all_goals (repeat' first | (cases ht) | split at ht)
  all_goals (with_reducible repeat' first | assumption | rfl | apply kept_brgExec | apply kept_iDmac | (intro _ _ _) | (intro _ _))

theorem kept_execBrgExt (core : Fin 16) {s : State} (hk : Kept cmds s) :
    ∀ t, execBrgExt core s = .next t → Kept cmds t := by
  intro t ht
  unfold execBrgExt at ht
  try dsimp only at ht
  all_goals (repeat' first | (cases ht) | split at ht)
  all_goals (with_reducible repeat' first | assumption | rfl | apply kept_brgExec | apply kept_iExt | (intro _ _ _) | (intro _ _))

theorem kept_execBrgMova (core : Fin 16) {s : State} (hk : Kept cmds s) :
    ∀ t, execBrgMova core s = .next t → Kept cmds t := by
  intro t ht
  unfold execBrgMova at ht
  try dsimp only at ht
  all_goals (repeat' first | (cases ht) | split at ht)
  all_goals (with_reducible repeat' first | assumption | rfl | apply kept_brgExec | apply kept_iMova | (intro _ _ _) | (intro _ _))

theorem kept_execBrgBeq (core : Fin 16) {s : State} (hk : Kept cmds s) :
    ∀ t, execBrgBeq core s = .next t → Kept cmds t := by
  intro t ht
  unfold execBrgBeq at ht
  try dsimp only at ht
  all_goals (repeat' first | (cases ht) | split at ht)
  all_goals (with_reducible repeat' first | assumption | rfl | apply kept_brgExec | apply kept_iBeq | (intro _ _ _) | (intro _ _))

theorem kept_execBrgBne (core : Fin 16) {s : State} (hk : Kept cmds s) :
    ∀ t, execBrgBne core s = .next t → Kept cmds t := by
  intro t ht
  unfold execBrgBne at ht
  try dsimp only at ht
  all_goals (repeat' first | (cases ht) | split at ht)
  all_goals (with_reducible repeat' first | assumption | rfl | apply kept_brgExec | apply kept_iBne | (intro _ _ _) | (intro _ _))

theorem kept_execBrgBlt (core : Fin 16) {s : State} (hk : Kept cmds s) :
    ∀ t, execBrgBlt core s = .next t → Kept cmds t := by
  intro t ht
  unfold execBrgBlt at ht
  try dsimp only at ht
  all_goals (repeat' first | (cases ht) | split at ht)
  all_goals (with_reducible repeat' first | assumption | rfl | apply kept_brgExec | apply kept_iBlt | (intro _ _ _) | (intro _ _))

theorem kept_execBrgBge (core : Fin 16) {s : State} (hk : Kept cmds s) :
    ∀ t, execBrgBge core s = .next t → Kept cmds t := by
  intro t ht
  unfold execBrgBge at ht
  try dsimp only at ht
  all_goals (repeat' first | (cases ht) | split at ht)
  all_goals (with_reducible repeat' first | assumption | rfl | apply kept_brgExec | apply kept_iBge | (intro _ _ _) | (intro _ _))

theorem kept_execBrgJmp (core : Fin 16) {s : State} (hk : Kept cmds s) :
    ∀ t, execBrgJmp core s = .next t → Kept cmds t := by
  intro t ht
  unfold execBrgJmp at ht
  try dsimp only at ht
  all_goals (repeat' first | (cases ht) | split at ht)
  all_goals (with_reducible repeat' first | assumption | rfl | apply kept_brgExec | apply kept_iJmp | (intro _ _ _) | (intro _ _))

theorem kept_execBrgCall (core : Fin 16) {s : State} (hk : Kept cmds s) :
    ∀ t, execBrgCall core s = .next t → Kept cmds t := by
  intro t ht
  unfold execBrgCall at ht
  try dsimp only at ht
  all_goals (repeat' first | (cases ht) | split at ht)
  all_goals (with_reducible repeat' first | assumption | rfl | apply kept_brgExec | apply kept_iCall | (intro _ _ _) | (intro _ _))

theorem kept_execBrgRet (core : Fin 16) {s : State} (hk : Kept cmds s) :
    ∀ t, execBrgRet core s = .next t → Kept cmds t := by
  intro t ht
  unfold execBrgRet at ht
  try dsimp only at ht
  all_goals (repeat' first | (cases ht) | split at ht)
  all_goals (with_reducible repeat' first | assumption | rfl | apply kept_brgExec | apply kept_iRet)

theorem kept_execBrgLoop (core : Fin 16) {s : State} (hk : Kept cmds s) :
    ∀ t, execBrgLoop core s = .next t → Kept cmds t := by
  intro t ht
  unfold execBrgLoop at ht
  try dsimp only at ht
  all_goals (repeat' first | (cases ht) | split at ht)
  all_goals (with_reducible repeat' first | assumption | rfl | apply kept_brgExec | apply kept_iLoop | (intro _ _ _) | (intro _ _))

theorem kept_execBrgPut (core : Fin 16) {s : State} (hk : Kept cmds s) :
    ∀ t, execBrgPut core s = .next t → Kept cmds t := by
  intro t ht
  unfold execBrgPut at ht
  try dsimp only at ht
  all_goals (repeat' first | (cases ht) | split at ht)
  all_goals (with_reducible repeat' first | assumption | rfl | apply kept_brgExec | apply kept_iPut | (intro _ _ _) | (intro _ _))

theorem kept_execBrgDir (core : Fin 16) {s : State} (hk : Kept cmds s) :
    ∀ t, execBrgDir core s = .next t → Kept cmds t := by
  intro t ht
  unfold execBrgDir at ht
  try dsimp only at ht
  all_goals (repeat' first | (cases ht) | split at ht)
  all_goals (with_reducible repeat' first | assumption | rfl | apply kept_brgExec | apply kept_iDir | (intro _ _ _) | (intro _ _))

theorem kept_execBrgPost (core : Fin 16) {s : State} (hk : Kept cmds s) :
    ∀ t, execBrgPost core s = .next t → Kept cmds t := by
  intro t ht
  unfold execBrgPost at ht
  try dsimp only at ht
  all_goals (repeat' first | (cases ht) | split at ht)
  all_goals (with_reducible repeat' first | assumption | rfl | apply kept_brgExec | apply kept_iPost | (intro _ _ _) | (intro _ _))

theorem kept_execBrgWaitt (core : Fin 16) {s : State} (hk : Kept cmds s) :
    ∀ t, execBrgWaitt core s = .next t → Kept cmds t := by
  intro t ht
  unfold execBrgWaitt at ht
  try dsimp only at ht
  all_goals (repeat' first | (cases ht) | split at ht)
  all_goals (with_reducible repeat' first | assumption | rfl | apply kept_brgExec | apply kept_iWaitt)

theorem kept_execBrgWaiti (core : Fin 16) {s : State} (hk : Kept cmds s) :
    ∀ t, execBrgWaiti core s = .next t → Kept cmds t := by
  intro t ht
  unfold execBrgWaiti at ht
  try dsimp only at ht
  all_goals (repeat' first | (cases ht) | split at ht)
  all_goals (with_reducible repeat' first | assumption | rfl | apply kept_brgExec | apply kept_iWaiti)

theorem kept_execBrgReti (core : Fin 16) {s : State} (hk : Kept cmds s) :
    ∀ t, execBrgReti core s = .next t → Kept cmds t := by
  intro t ht
  unfold execBrgReti at ht
  try dsimp only at ht
  all_goals (repeat' first | (cases ht) | split at ht)
  all_goals (with_reducible repeat' first | assumption | rfl | apply kept_brgExec | apply kept_iReti)

theorem kept_execBrgEi (core : Fin 16) {s : State} (hk : Kept cmds s) :
    ∀ t, execBrgEi core s = .next t → Kept cmds t := by
  intro t ht
  unfold execBrgEi at ht
  try dsimp only at ht
  all_goals (repeat' first | (cases ht) | split at ht)
  all_goals (with_reducible repeat' first | assumption | rfl | apply kept_brgExec | apply kept_iEi)

theorem kept_execBrgDi (core : Fin 16) {s : State} (hk : Kept cmds s) :
    ∀ t, execBrgDi core s = .next t → Kept cmds t := by
  intro t ht
  unfold execBrgDi at ht
  try dsimp only at ht
  all_goals (repeat' first | (cases ht) | split at ht)
  all_goals (with_reducible repeat' first | assumption | rfl | apply kept_brgExec | apply kept_iDi)

theorem kept_execBrgHalt (core : Fin 16) {s : State} (hk : Kept cmds s) :
    ∀ t, execBrgHalt core s = .next t → Kept cmds t := by
  intro t ht
  unfold execBrgHalt at ht
  try dsimp only at ht
  all_goals (repeat' first | (cases ht) | split at ht)
  all_goals (with_reducible repeat' first | assumption | rfl | apply kept_brgExec | apply kept_iHalt)

end Sys2Proof.Machine
end

