-- ==== Sys2Proof/Laws/KeptGrt.lean ====
section
/-! SUPPORT. What the operations of Machine/Grt keep (Laws/Kept). -/

namespace Sys2Proof.Machine

variable {cmds : List Instr}

theorem kept_grtReview (d : Nat) {s : State} (hk : Kept cmds s) :
    Kept cmds (grtReview d s) := by
  unfold grtReview
  try dsimp only
  all_goals (with_reducible repeat' first | assumption | rfl | apply kept_ite | apply kept_ite_st | apply kept_ite_snd | apply kept_raise | (intro _ _ _) | (intro _ _) | split | refine kept_snd ?_ (by assumption) | refine kept_snd2 ?_ (by assumption) | refine kept_st ?_ (by assumption) | refine kept_get ?_ (by assumption) | refine kept_get2 ?_ (by assumption) | apply kept_with_grt)

theorem kept_grtReviewAll {s : State} (hk : Kept cmds s) :
    Kept cmds (grtReviewAll s) := by
  unfold grtReviewAll
  try dsimp only
  all_goals (with_reducible repeat' first | assumption | rfl | apply kept_foldS | apply kept_grtReview)

theorem kept_grtOnRoute (t : RouteTab) (d : Nat) (r : Nat) (f : Frame) {s : State} (hk : Kept cmds s) :
    Kept cmds (grtOnRoute t d r f s) := by
  unfold grtOnRoute
  try dsimp only
  all_goals (with_reducible repeat' first | assumption | rfl | apply kept_ite | apply kept_ite_st | apply kept_ite_snd | apply kept_inc | apply kept_nextSeq | apply kept_raise | apply kept_sendLanes | split | refine kept_snd ?_ (by assumption) | refine kept_snd2 ?_ (by assumption) | refine kept_st ?_ (by assumption) | refine kept_get ?_ (by assumption) | refine kept_get2 ?_ (by assumption) | apply kept_with_grt)

theorem kept_grtSend (t : RouteTab) (d : Nat) (f : Frame) {s : State} (hk : Kept cmds s) :
    Kept cmds (grtSend t d f s) := by
  unfold grtSend
  try dsimp only
  all_goals (with_reducible repeat' first | assumption | rfl | apply kept_grtOnRoute | apply kept_grtReview)

theorem kept_toStaging (octet : Option Nat) (link : Nat) (f : Frame) {s : State} (hk : Kept cmds s) :
    Kept cmds (toStaging octet link f s) := by
  unfold toStaging
  try dsimp only
  all_goals (with_reducible repeat' first | assumption | rfl | split | refine kept_snd ?_ (by assumption) | refine kept_snd2 ?_ (by assumption) | refine kept_st ?_ (by assumption) | refine kept_get ?_ (by assumption) | refine kept_get2 ?_ (by assumption) | apply kept_with_stg)

theorem kept_arrayForward (w : Waymark) {s : State} (hk : Kept cmds s) :
    Kept cmds (arrayForward w s) := by
  unfold arrayForward
  try dsimp only
  all_goals (with_reducible repeat' first | assumption | rfl | apply kept_ite | apply kept_ite_st | apply kept_ite_snd | apply kept_foldS | apply kept_grtSend | (intro _ _ _))

theorem kept_grtMark (w : Waymark) {s : State} (hk : Kept cmds s) :
    Kept cmds (grtMark w s) := by
  unfold grtMark
  try dsimp only
  all_goals (with_reducible repeat' first | assumption | rfl | apply kept_ite | apply kept_ite_st | apply kept_ite_snd | apply kept_arrayForward | apply kept_passMark)

theorem kept_grtRefuse (off : Nat) (cause : Nat) {s : State} (hk : Kept cmds s) :
    Kept cmds (grtRefuse off cause s).st := by
  unfold grtRefuse
  try dsimp only
  all_goals (with_reducible repeat' first | assumption | rfl | apply kept_refuse)

theorem kept_grtApply (off : Nat) (now : Bool) (t : State) {s : State} (ht : Kept cmds t) (hk : Kept cmds s) :
    Kept cmds (grtApply off now t s).st := by
  unfold grtApply
  try dsimp only
  all_goals (with_reducible repeat' first | assumption | rfl | apply kept_ite | apply kept_ite_st | apply kept_ite_snd | apply kept_acc | apply kept_grtRefuse | apply kept_wf | split | refine kept_snd ?_ (by assumption) | refine kept_snd2 ?_ (by assumption) | refine kept_st ?_ (by assumption) | refine kept_get ?_ (by assumption) | refine kept_get2 ?_ (by assumption) | apply kept_with_grt)

theorem kept_grtPreset (preset : Nat) (parts : Nat) (chans : Nat) {s : State} (hk : Kept cmds s) :
    Kept cmds (grtPreset preset parts chans s) := by
  unfold grtPreset
  try dsimp only
  all_goals (with_reducible repeat' first | assumption | rfl | apply kept_ite | apply kept_ite_st | apply kept_ite_snd | apply kept_foldS | apply kept_setReg | apply kept_zero | (intro _ _ _))

theorem kept_grtBasicWrite (v : Nat) {s : State} (hk : Kept cmds s) :
    Kept cmds (grtBasicWrite v s).st := by
  unfold grtBasicWrite
  try dsimp only
  all_goals (with_reducible repeat' first | assumption | rfl | apply kept_ite | apply kept_ite_st | apply kept_ite_snd | apply kept_grtApply | apply kept_grtPreset | apply kept_grtRefuse | apply kept_storeBits)

theorem kept_grtChipWrite (v : Nat) {s : State} (hk : Kept cmds s) :
    Kept cmds (grtChipWrite v s).st := by
  unfold grtChipWrite
  try dsimp only
  all_goals (with_reducible repeat' first | assumption | rfl | apply kept_ite | apply kept_ite_st | apply kept_ite_snd | apply kept_acc | apply kept_grtRefuse | apply kept_setReg)

theorem kept_grtCntClear (v : Nat) {s : State} (hk : Kept cmds s) :
    Kept cmds (grtCntClear v s) := by
  unfold grtCntClear
  try dsimp only
  all_goals (with_reducible repeat' first | assumption | rfl | apply kept_ite | apply kept_ite_st | apply kept_ite_snd | apply kept_zero)

theorem kept_grtWrite (off : Nat) (v : Nat) {s : State} (hk : Kept cmds s) :
    ∀ r, grtWrite off v s = some r → Kept cmds r.st := by
  intro t ht
  unfold grtWrite at ht
  try dsimp only at ht
  all_goals (repeat' first | (cases ht) | split at ht)
  all_goals (with_reducible repeat' first | assumption | rfl | apply kept_ite | apply kept_ite_st | apply kept_ite_snd | apply kept_acc | apply kept_grtApply | apply kept_grtBasicWrite | apply kept_grtChipWrite | apply kept_grtCntClear)

theorem kept_grtCommit {s : State} (hk : Kept cmds s) :
    Kept cmds (grtCommit s) := by
  unfold grtCommit
  try dsimp only
  all_goals (with_reducible repeat' first | assumption | rfl | apply kept_wf | split | refine kept_snd ?_ (by assumption) | refine kept_snd2 ?_ (by assumption) | refine kept_st ?_ (by assumption) | refine kept_get ?_ (by assumption) | refine kept_get2 ?_ (by assumption) | apply kept_with_grt)

theorem kept_grtCommitAt (i : Nat) {s : State} (hk : Kept cmds s) :
    Kept cmds (grtCommitAt i s) := by
  unfold grtCommitAt
  try dsimp only
  all_goals (with_reducible repeat' first | assumption | rfl | apply kept_ite | apply kept_ite_st | apply kept_ite_snd | apply kept_grtCommit | split | refine kept_snd ?_ (by assumption) | refine kept_snd2 ?_ (by assumption) | refine kept_st ?_ (by assumption) | refine kept_get ?_ (by assumption) | refine kept_get2 ?_ (by assumption) | apply kept_with_grt)

theorem kept_grtSendRun (run : List SpecIn) {s : State} (hk : Kept cmds s) :
    Kept cmds (grtSendRun run s) := by
  unfold grtSendRun
  try dsimp only
  all_goals (with_reducible repeat' first | assumption | rfl | apply kept_ite | apply kept_ite_st | apply kept_ite_snd | apply kept_foldS | apply kept_grtOnRoute | apply kept_grtSend | apply kept_inc | apply kept_toStaging | (intro _ _ _) | (intro _ _) | split)

theorem kept_grtTake (n : Nat) (link : Nat) (f : Frame) {s : State} (hk : Kept cmds s) :
    Kept cmds (grtTake n link f s) := by
  unfold grtTake
  try dsimp only
  all_goals (with_reducible repeat' first | assumption | rfl | apply kept_ite | apply kept_ite_st | apply kept_ite_snd | apply kept_inc | apply kept_raise | apply kept_setRxBytes | apply kept_toStaging | (intro _ _ _) | (intro _ _) | split | refine kept_snd ?_ (by assumption) | refine kept_snd2 ?_ (by assumption) | refine kept_st ?_ (by assumption) | refine kept_get ?_ (by assumption) | refine kept_get2 ?_ (by assumption) | apply kept_with_wm)

theorem kept_grtRelay (d : Nat) (f : Frame) {s : State} (hk : Kept cmds s) :
    Kept cmds (grtRelay d f s) := by
  unfold grtRelay
  try dsimp only
  all_goals (with_reducible repeat' first | assumption | rfl | apply kept_ite | apply kept_ite_st | apply kept_ite_snd | apply kept_inc | apply kept_sendLanes | split)

theorem kept_grtDeliver (n : Nat) (link : Nat) (dest : Nat) (key : Nat) (f : Frame) {s : State} (hk : Kept cmds s) :
    Kept cmds (grtDeliver n link dest key f s) := by
  unfold grtDeliver
  try dsimp only
  all_goals (with_reducible repeat' first | assumption | rfl | apply kept_ite | apply kept_ite_st | apply kept_ite_snd | apply kept_State_setFlow | apply kept_grtRelay | apply kept_grtTake | apply kept_seqGap)

theorem kept_grtDrain (link : Nat) (dest : Nat) (key : Nat) (x0 : Nat) {x1 : State} (hk : Kept cmds x1) :
    Kept cmds (grtDrain link dest key x0 x1) := by
  fun_induction grtDrain
  all_goals (with_reducible repeat' first | assumption | rfl | apply_assumption | apply kept_State_setFlow | apply kept_grtDeliver)

theorem kept_grtRx (n : Nat) (f : Frame) (chk : Nat) {s : State} (hk : Kept cmds s) :
    Kept cmds (grtRx n f chk s) := by
  unfold grtRx
  try dsimp only
  all_goals (with_reducible repeat' first | assumption | rfl | apply kept_ite | apply kept_ite_st | apply kept_ite_snd | apply kept_State_setFlow | apply kept_grtDeliver | apply kept_grtDrain | apply kept_inc | apply kept_raise | apply kept_rxLane | split | refine kept_snd ?_ (by assumption))

theorem kept_grtReorderClose (link : Nat) (dest : Nat) (key : Nat) (x0 : Nat) {x1 : State} (hk : Kept cmds x1) :
    Kept cmds (grtReorderClose link dest key x0 x1) := by
  fun_induction grtReorderClose
  all_goals (with_reducible repeat' first | assumption | rfl | apply_assumption | apply kept_State_setFlow | apply kept_grtDeliver)

theorem kept_execReorderTimeout (path : Fin 80) (dest : Fin 64) (control : Bool) (chip : Fin 64) {s : State} (hk : Kept cmds s) :
    ∀ t, execReorderTimeout path dest control chip s = .next t → Kept cmds t := by
  intro t ht
  unfold execReorderTimeout at ht
  try dsimp only at ht
  all_goals (repeat' first | (cases ht) | split at ht)
  all_goals (with_reducible repeat' first | assumption | rfl | apply kept_ite | apply kept_ite_st | apply kept_ite_snd | apply kept_grtReorderClose | apply kept_reorderClose)

theorem kept_execLaneTrainComplete (lane : Fin 96) (lock : Bool) (height : BitVec 8) (width : BitVec 8) {s : State} (hk : Kept cmds s) :
    ∀ t, execLaneTrainComplete lane lock height width s = .next t → Kept cmds t := by
  intro t ht
  unfold execLaneTrainComplete at ht
  try dsimp only at ht
  all_goals (repeat' first | (cases ht) | split at ht)
  all_goals (with_reducible repeat' first | assumption | rfl | apply kept_ite | apply kept_ite_st | apply kept_ite_snd | apply kept_State_setLane | apply kept_checkEye | apply kept_enterActive | apply kept_grtReviewAll | apply kept_raise | apply kept_wf)

theorem kept_execLaneDown (lane : Fin 96) {s : State} (hk : Kept cmds s) :
    ∀ t, execLaneDown lane s = .next t → Kept cmds t := by
  intro t ht
  unfold execLaneDown at ht
  try dsimp only at ht
  all_goals (repeat' first | (cases ht) | split at ht)
  all_goals (with_reducible repeat' first | assumption | rfl | apply kept_ite | apply kept_ite_st | apply kept_ite_snd | apply kept_State_setLane | apply kept_grtReviewAll | apply kept_raise | apply kept_startTraining | apply kept_wf)

theorem kept_execLinkinfoRx (lane : Fin 96) (offer : Fin 16) (chip : Fin 64) {s : State} (hk : Kept cmds s) :
    ∀ t, execLinkinfoRx lane offer chip s = .next t → Kept cmds t := by
  intro t ht
  unfold execLinkinfoRx at ht
  try dsimp only at ht
  all_goals (repeat' first | (cases ht) | split at ht)
  all_goals (with_reducible repeat' first | assumption | rfl | apply kept_ite | apply kept_ite_st | apply kept_ite_snd | apply kept_State_setLane | apply kept_fixGen | apply kept_raise | apply kept_setReg)

theorem kept_execGraticuleFrameRx (lane : Fin 96) (f : Frame) (check : Nat) {s : State} (hk : Kept cmds s) :
    ∀ t, execGraticuleFrameRx lane f check s = .next t → Kept cmds t := by
  intro t ht
  unfold execGraticuleFrameRx at ht
  try dsimp only at ht
  all_goals (repeat' first | (cases ht) | split at ht)
  all_goals (with_reducible repeat' first | assumption | rfl | apply kept_ite | apply kept_ite_st | apply kept_ite_snd | apply kept_grtRx)

theorem kept_execGrtApplyCommit {s : State} (hk : Kept cmds s) :
    ∀ t, execGrtApplyCommit s = .next t → Kept cmds t := by
  intro t ht
  unfold execGrtApplyCommit at ht
  try dsimp only at ht
  all_goals (repeat' first | (cases ht) | split at ht)
  all_goals (with_reducible repeat' first | assumption | rfl | apply kept_grtCommit)

theorem kept_execGrtSpectrumSend {s : State} (hk : Kept cmds s) :
    ∀ t, execGrtSpectrumSend s = .next t → Kept cmds t := by
  intro t ht
  unfold execGrtSpectrumSend at ht
  try dsimp only at ht
  all_goals (repeat' first | (cases ht) | split at ht)
  all_goals (with_reducible repeat' first | assumption | rfl | apply kept_foldS | apply kept_grtCommitAt | apply kept_grtSendRun | (intro _ _ _) | (intro _ _) | split | refine kept_snd ?_ (by assumption) | refine kept_snd2 ?_ (by assumption) | refine kept_st ?_ (by assumption) | refine kept_get ?_ (by assumption) | refine kept_get2 ?_ (by assumption) | apply kept_with_grt)

end Sys2Proof.Machine
end

