-- ==== Sys2Proof/Laws/KeptStg.lean ====
section
/-! SUPPORT. What the operations of Machine/Stg keep (Laws/Kept). -/

namespace Sys2Proof.Machine

variable {cmds : List Instr}

theorem kept_setStgState (n : Nat) {s : State} (hk : Kept cmds s) :
    Kept cmds (setStgState n s) := by
  unfold setStgState
  try dsimp only
  all_goals (with_reducible repeat' first | assumption | rfl | apply kept_setReg)

theorem kept_writeMask (n : Nat) {s : State} (hk : Kept cmds s) :
    Kept cmds (writeMask n s) := by
  unfold writeMask
  try dsimp only
  all_goals (with_reducible repeat' first | assumption | rfl | apply kept_hbmPut)

theorem kept_withRemask (f : State → State) {s : State} (hf : ∀  t, Kept cmds t → Kept cmds (f  t)) (hk : Kept cmds s) :
    Kept cmds (withRemask f s) := by
  unfold withRemask
  try dsimp only
  all_goals (with_reducible repeat' first | assumption | rfl | apply kept_ite | apply kept_ite_st | apply kept_ite_snd | apply kept_foldS | apply kept_inc | apply kept_writeMask | apply hf)

theorem kept_stgModel (w : Waymark) {s : State} (hk : Kept cmds s) :
    Kept cmds (stgModel w s) := by
  unfold stgModel
  try dsimp only
  all_goals (with_reducible repeat' first | assumption | rfl | apply kept_ite | apply kept_ite_st | apply kept_ite_snd | apply kept_raise | apply kept_setReg64 | (intro _ _ _) | (intro _ _) | split | refine kept_snd ?_ (by assumption) | refine kept_snd2 ?_ (by assumption) | refine kept_st ?_ (by assumption) | refine kept_get ?_ (by assumption) | refine kept_get2 ?_ (by assumption) | apply kept_with_stg)

theorem kept_addVoids (js : List Nat) (lo : Nat) (hi : Option Nat) {s : State} (hk : Kept cmds s) :
    Kept cmds (addVoids js lo hi s) := by
  unfold addVoids
  try dsimp only
  all_goals (with_reducible repeat' first | assumption | rfl | apply kept_foldS | (intro _ _ _) | (intro _ _) | split | refine kept_snd ?_ (by assumption) | refine kept_snd2 ?_ (by assumption) | refine kept_st ?_ (by assumption) | refine kept_get ?_ (by assumption) | refine kept_get2 ?_ (by assumption) | apply kept_with_stg)

theorem kept_endVoids (js : List Nat) (sp : Nat) {s : State} (hk : Kept cmds s) :
    Kept cmds (endVoids js sp s) := by
  unfold endVoids
  try dsimp only
  all_goals (with_reducible repeat' first | assumption | rfl | apply kept_foldS | (intro _ _ _) | (intro _ _) | split | refine kept_snd ?_ (by assumption) | refine kept_snd2 ?_ (by assumption) | refine kept_st ?_ (by assumption) | refine kept_get ?_ (by assumption) | refine kept_get2 ?_ (by assumption) | apply kept_with_stg)

theorem kept_stgApply (w : Waymark) {s : State} (hk : Kept cmds s) :
    Kept cmds (stgApply w s) := by
  unfold stgApply
  try dsimp only
  all_goals (with_reducible repeat' first | assumption | rfl | apply kept_ite | apply kept_ite_st | apply kept_ite_snd | apply kept_addVoids | apply kept_endVoids | apply kept_genApply | apply kept_withRemask | split | refine kept_snd ?_ (by assumption) | refine kept_snd2 ?_ (by assumption) | refine kept_st ?_ (by assumption) | refine kept_get ?_ (by assumption) | refine kept_get2 ?_ (by assumption) | apply kept_with_stg)

theorem kept_stgForward (w : Waymark) {s : State} (hk : Kept cmds s) :
    Kept cmds (stgForward w s) := by
  unfold stgForward
  try dsimp only
  all_goals (with_reducible repeat' first | assumption | rfl | split | refine kept_snd ?_ (by assumption) | refine kept_snd2 ?_ (by assumption) | refine kept_st ?_ (by assumption) | refine kept_get ?_ (by assumption) | refine kept_get2 ?_ (by assumption) | apply kept_with_stg)

theorem kept_stgDue {s : State} (hk : Kept cmds s) :
    Kept cmds (stgDue s) := by
  unfold stgDue
  try dsimp only
  all_goals (with_reducible repeat' first | assumption | rfl | apply kept_ite | apply kept_ite_st | apply kept_ite_snd | apply kept_foldS | apply kept_noteApplied | apply kept_stgApply | apply kept_stgForward | apply kept_takeDue | (intro _ _ _))

theorem kept_stgRefuse (off : Nat) {s : State} (hk : Kept cmds s) :
    Kept cmds (stgRefuse off s).st := by
  unfold stgRefuse
  try dsimp only
  all_goals (with_reducible repeat' first | assumption | rfl | apply kept_refuse)

theorem kept_stgStart (now : Bool) {s : State} (hk : Kept cmds s) :
    Kept cmds (stgStart now s).st := by
  unfold stgStart
  try dsimp only
  all_goals (with_reducible repeat' first | assumption | rfl | apply kept_ite | apply kept_ite_st | apply kept_ite_snd | apply kept_acc | apply kept_setStgState | apply kept_stgRefuse | split | refine kept_snd ?_ (by assumption) | refine kept_snd2 ?_ (by assumption) | refine kept_st ?_ (by assumption) | refine kept_get ?_ (by assumption) | refine kept_get2 ?_ (by assumption) | apply kept_with_stg)

theorem kept_stgHalt {s : State} (hk : Kept cmds s) :
    Kept cmds (stgHalt s) := by
  unfold stgHalt
  grind [kept_foldS, kept_rxRelease, kept_setStgState, kept_mk, Kept]

theorem kept_stgStop (now : Bool) {s : State} (hk : Kept cmds s) :
    Kept cmds (stgStop now s) := by
  unfold stgStop
  try dsimp only
  all_goals (with_reducible repeat' first | assumption | rfl | apply kept_ite | apply kept_ite_st | apply kept_ite_snd | apply kept_setReg | apply kept_stgHalt | (intro _ _ _) | (intro _ _) | split | refine kept_snd ?_ (by assumption) | refine kept_snd2 ?_ (by assumption) | refine kept_st ?_ (by assumption) | refine kept_get ?_ (by assumption) | refine kept_get2 ?_ (by assumption) | apply kept_with_stg)

theorem kept_stgCtrlWrite (v : Nat) {s : State} (hk : Kept cmds s) :
    Kept cmds (stgCtrlWrite v s).st := by
  unfold stgCtrlWrite
  try dsimp only
  all_goals (with_reducible repeat' first | assumption | rfl | apply kept_ite | apply kept_ite_st | apply kept_ite_snd | apply kept_acc | apply kept_stgStart | apply kept_stgStop)

theorem kept_stgFinish {s : State} (hk : Kept cmds s) :
    Kept cmds (stgFinish s) := by
  unfold stgFinish
  try dsimp only
  all_goals (with_reducible repeat' first | assumption | rfl | apply kept_ite | apply kept_ite_st | apply kept_ite_snd | apply kept_stgHalt | split)

theorem kept_stgBoundary {s : State} (hk : Kept cmds s) :
    Kept cmds (stgBoundary s) := by
  unfold stgBoundary
  try dsimp only
  all_goals (with_reducible repeat' first | assumption | rfl | apply kept_ite | apply kept_ite_st | apply kept_ite_snd | apply kept_setStgState | apply kept_stgFinish | split | refine kept_snd ?_ (by assumption) | refine kept_snd2 ?_ (by assumption) | refine kept_st ?_ (by assumption) | refine kept_get ?_ (by assumption) | refine kept_get2 ?_ (by assumption) | apply kept_with_stg)

theorem kept_noteSource (f : Frame) (link : Nat) {s : State} (hk : Kept cmds s) :
    Kept cmds (noteSource f link s) := by
  unfold noteSource
  try dsimp only
  all_goals (with_reducible repeat' first | assumption | rfl | split | refine kept_snd ?_ (by assumption) | refine kept_snd2 ?_ (by assumption) | refine kept_st ?_ (by assumption) | refine kept_get ?_ (by assumption) | refine kept_get2 ?_ (by assumption) | apply kept_with_stg)

theorem kept_ringStore (f : Frame) {s : State} (hk : Kept cmds s) :
    Kept cmds (ringStore f s) := by
  unfold ringStore
  try dsimp only
  all_goals (with_reducible repeat' first | assumption | rfl | apply kept_ite | apply kept_ite_st | apply kept_ite_snd | apply kept_foldS | apply kept_hbmPut | (intro _ _ _) | (intro _ _) | split | refine kept_snd ?_ (by assumption) | refine kept_snd2 ?_ (by assumption) | refine kept_st ?_ (by assumption) | refine kept_get ?_ (by assumption) | refine kept_get2 ?_ (by assumption) | apply kept_with_stg)

theorem kept_ringHold (n : Nat) (cs : List Nat) {s : State} (hk : Kept cmds s) :
    Kept cmds (ringHold n cs s) := by
  unfold ringHold
  try dsimp only
  all_goals (with_reducible repeat' first | assumption | rfl | apply kept_ite | apply kept_ite_st | apply kept_ite_snd | apply kept_foldS | apply kept_inc | apply kept_raise | (intro _ _ _) | (intro _ _) | split | refine kept_snd ?_ (by assumption) | refine kept_snd2 ?_ (by assumption) | refine kept_st ?_ (by assumption) | refine kept_get ?_ (by assumption) | refine kept_get2 ?_ (by assumption) | apply kept_with_stg)

theorem kept_stgTake {s : State} (hk : Kept cmds s) :
    Kept cmds (stgTake s) := by
  unfold stgTake
  try dsimp only
  all_goals (with_reducible repeat' first | assumption | rfl | apply kept_ite | apply kept_ite_st | apply kept_ite_snd | apply kept_inc | apply kept_noteSource | apply kept_raise | apply kept_ringHold | apply kept_ringStore | apply kept_rxRelease | apply kept_stgBoundary | (intro _ _ _) | (intro _ _) | split | refine kept_snd ?_ (by assumption) | refine kept_snd2 ?_ (by assumption) | refine kept_st ?_ (by assumption) | refine kept_get ?_ (by assumption) | refine kept_get2 ?_ (by assumption) | apply kept_with_stg)

theorem kept_closeBlock {s : State} (hk : Kept cmds s) :
    Kept cmds (closeBlock s) := by
  unfold closeBlock
  try dsimp only
  all_goals (with_reducible repeat' first | assumption | rfl | apply kept_inc | apply kept_stgDue | apply kept_writeMask | split | refine kept_snd ?_ (by assumption) | refine kept_snd2 ?_ (by assumption) | refine kept_st ?_ (by assumption) | refine kept_get ?_ (by assumption) | refine kept_get2 ?_ (by assumption) | apply kept_with_stg)

theorem kept_blockClose {s : State} (hk : Kept cmds s) :
    Kept cmds (blockClose s) := by
  unfold blockClose
  try dsimp only
  all_goals (with_reducible repeat' first | assumption | rfl | apply kept_ite | apply kept_ite_st | apply kept_ite_snd | apply kept_closeBlock)

theorem kept_closeTimeout {s : State} (hk : Kept cmds s) :
    Kept cmds (closeTimeout s) := by
  unfold closeTimeout
  try dsimp only
  all_goals (with_reducible repeat' first | assumption | rfl | apply kept_ite | apply kept_ite_st | apply kept_ite_snd | apply kept_closeBlock | apply kept_raise)

theorem kept_readModels (q : Nat) {s : State} (hk : Kept cmds s) :
    Kept cmds (readModels q s).2 := by
  unfold readModels
  try dsimp only
  all_goals (with_reducible repeat' first | assumption | rfl | apply kept_ite | apply kept_ite_st | apply kept_ite_snd | apply kept_hbmGet)

theorem kept_readGains (b : Nat) (c : Nat) {s : State} (hk : Kept cmds s) :
    Kept cmds (readGains b c s).2 := by
  unfold readGains
  try dsimp only
  all_goals (with_reducible repeat' first | assumption | rfl | apply kept_ite | apply kept_ite_st | apply kept_ite_snd | apply kept_hbmGet)

theorem kept_readEach {α : Type} (f : Nat → State → α × State) (x0 : List Nat) {x1 : State} (hf : ∀ y0 t, Kept cmds t → Kept cmds (f y0 t).2) (hk : Kept cmds x1) :
    Kept cmds (readEach f x0 x1).2 := by
  fun_induction readEach
  all_goals (try dsimp only)
  all_goals (with_reducible repeat' first | assumption | rfl | apply_assumption | apply hf | split | refine kept_snd ?_ (by assumption))

theorem kept_voidUncovered (n : Nat) (k : Nat) {s : State} (hk : Kept cmds s) :
    Kept cmds (voidUncovered n k s) := by
  unfold voidUncovered
  try dsimp only
  all_goals (with_reducible repeat' first | assumption | rfl | apply kept_ite | apply kept_ite_st | apply kept_ite_snd | apply kept_addVoids | apply kept_raise | apply kept_withRemask | (intro _ _ _) | (intro _ _) | split)

theorem kept_readMask (n : Nat) (k : Nat) {s : State} (hk : Kept cmds s) :
    Kept cmds (readMask n k s).2.2 := by
  unfold readMask
  try dsimp only
  all_goals (with_reducible repeat' first | assumption | rfl | apply kept_ite | apply kept_ite_st | apply kept_ite_snd | apply kept_hbmGet | (intro _ _ _) | (intro _ _) | split)

theorem kept_stageData {s : State} (hk : Kept cmds s) :
    Kept cmds (stageData s).2 := by
  unfold stageData
  try dsimp only
  all_goals (with_reducible repeat' first | assumption | rfl | apply kept_ite | apply kept_ite_st | apply kept_ite_snd | apply kept_hbmGet | apply kept_inc | apply kept_raise | apply kept_readEach | apply kept_readGains | apply kept_readMask | apply kept_readModels | apply kept_voidUncovered | (intro _ _ _) | (intro _ _) | split | refine kept_snd ?_ (by assumption) | refine kept_snd2 ?_ (by assumption) | refine kept_st ?_ (by assumption) | refine kept_get ?_ (by assumption) | refine kept_get2 ?_ (by assumption) | apply kept_with_stg)

theorem kept_stgAdvance {s : State} (hk : Kept cmds s) :
    Kept cmds (stgAdvance s) := by
  unfold stgAdvance
  try dsimp only
  all_goals (with_reducible repeat' first | assumption | rfl | apply kept_ite | apply kept_ite_st | apply kept_ite_snd | apply kept_stgFinish | (intro _ _ _) | (intro _ _) | split | refine kept_snd ?_ (by assumption) | refine kept_snd2 ?_ (by assumption) | refine kept_st ?_ (by assumption) | refine kept_get ?_ (by assumption) | refine kept_get2 ?_ (by assumption) | apply kept_with_stg)

theorem kept_stgBasicWrite (v : Nat) {s : State} (hk : Kept cmds s) :
    Kept cmds (stgBasicWrite v s).st := by
  unfold stgBasicWrite
  try dsimp only
  all_goals (with_reducible repeat' first | assumption | rfl | apply kept_ite | apply kept_ite_st | apply kept_ite_snd | apply kept_acc | apply kept_foldS | apply kept_setReg | apply kept_stgRefuse | apply kept_storeBits | (intro _ _ _))

theorem kept_stgCntClear (v : Nat) {s : State} (hk : Kept cmds s) :
    Kept cmds (stgCntClear v s) := by
  unfold stgCntClear
  try dsimp only
  all_goals (with_reducible repeat' first | assumption | rfl | apply kept_ite | apply kept_ite_st | apply kept_ite_snd | apply kept_zero)

theorem kept_stgHeldWrite (off : Nat) (mask : Nat) (v : Nat) (ok : Bool) {s : State} (hk : Kept cmds s) :
    Kept cmds (stgHeldWrite off mask v ok s).st := by
  unfold stgHeldWrite
  try dsimp only
  all_goals (with_reducible repeat' first | assumption | rfl | apply kept_ite | apply kept_ite_st | apply kept_ite_snd | apply kept_acc | apply kept_stgRefuse | apply kept_storeBits)

theorem kept_stgWrite (off : Nat) (v : Nat) {s : State} (hk : Kept cmds s) :
    ∀ r, stgWrite off v s = some r → Kept cmds r.st := by
  intro t ht
  unfold stgWrite at ht
  try dsimp only at ht
  all_goals (repeat' first | (cases ht) | split at ht)
  all_goals (with_reducible repeat' first | assumption | rfl | apply kept_ite | apply kept_ite_st | apply kept_ite_snd | apply kept_acc | apply kept_stgBasicWrite | apply kept_stgCntClear | apply kept_stgCtrlWrite | apply kept_stgHeldWrite)

theorem kept_execStgBlockBoundary {s : State} (hk : Kept cmds s) :
    ∀ t, execStgBlockBoundary s = .next t → Kept cmds t := by
  intro t ht
  unfold execStgBlockBoundary at ht
  try dsimp only at ht
  all_goals (repeat' first | (cases ht) | split at ht)
  all_goals (with_reducible repeat' first | assumption | rfl | apply kept_stgBoundary)

theorem kept_execStgFrameWrite {s : State} (hk : Kept cmds s) :
    ∀ t, execStgFrameWrite s = .next t → Kept cmds t := by
  intro t ht
  unfold execStgFrameWrite at ht
  try dsimp only at ht
  all_goals (repeat' first | (cases ht) | split at ht)
  all_goals (with_reducible repeat' first | assumption | rfl | apply kept_stgTake)

theorem kept_execRingHoldRelease {s : State} (hk : Kept cmds s) :
    ∀ t, execRingHoldRelease s = .next t → Kept cmds t := by
  intro t ht
  unfold execRingHoldRelease at ht
  try dsimp only at ht
  all_goals (repeat' first | (cases ht) | split at ht)
  all_goals (with_reducible repeat' first | assumption | rfl | apply kept_ite | apply kept_ite_st | apply kept_ite_snd | apply kept_stgTake)

end Sys2Proof.Machine
end

