-- ==== Sys2Proof/Laws/KeptAtl.lean ====
section
/-! SUPPORT. What the operations of Machine/Atl keep (Laws/Kept). -/

namespace Sys2Proof.Machine

variable {cmds : List Instr}

theorem kept_State_setDesc (i : Nat) (d : Desc) {s : State} (hk : Kept cmds s) :
    Kept cmds (State.setDesc i d s) := by
  unfold State.setDesc
  try dsimp only
  all_goals (with_reducible repeat' first | assumption | rfl | split | refine kept_snd ?_ (by assumption) | refine kept_snd2 ?_ (by assumption) | refine kept_st ?_ (by assumption) | refine kept_get ?_ (by assumption) | refine kept_get2 ?_ (by assumption) | apply kept_with_atl)

theorem kept_State_modDesc (i : Nat) (f : Desc → Desc) {s : State} (hk : Kept cmds s) :
    Kept cmds (State.modDesc i f s) := by
  unfold State.modDesc
  try dsimp only
  all_goals (with_reducible repeat' first | assumption | rfl | apply kept_State_setDesc)

theorem kept_notePeak {s : State} (hk : Kept cmds s) :
    Kept cmds (notePeak s) := by
  unfold notePeak
  try dsimp only
  all_goals (with_reducible repeat' first | assumption | rfl | apply kept_ite | apply kept_ite_st | apply kept_ite_snd | apply kept_setReg)

theorem kept_setSlot (n : Nat) (l : List (Nat × Nat)) {s : State} (hk : Kept cmds s) :
    Kept cmds (setSlot n l s) := by
  unfold setSlot
  try dsimp only
  all_goals (with_reducible repeat' first | assumption | rfl | split | refine kept_snd ?_ (by assumption) | refine kept_snd2 ?_ (by assumption) | refine kept_st ?_ (by assumption) | refine kept_get ?_ (by assumption) | refine kept_get2 ?_ (by assumption) | apply kept_with_atl)

theorem kept_setExcl (n : Nat) (b : Bool) {s : State} (hk : Kept cmds s) :
    Kept cmds (setExcl n b s) := by
  unfold setExcl
  try dsimp only
  all_goals (with_reducible repeat' first | assumption | rfl | apply kept_ite | apply kept_ite_st | apply kept_ite_snd | apply kept_setReg)

theorem kept_allocPage (p : Nat) (fast : Nat) {s : State} (hk : Kept cmds s) :
    ∀ r, allocPage p fast s = some r → Kept cmds r.2 := by
  intro t ht
  unfold allocPage at ht
  try dsimp only at ht
  all_goals (repeat' first | (cases ht) | split at ht)
  all_goals (with_reducible repeat' first | assumption | rfl | apply kept_ite | apply kept_ite_st | apply kept_ite_snd | (intro _ _ _) | (intro _ _) | split | refine kept_snd ?_ (by assumption) | refine kept_snd2 ?_ (by assumption) | refine kept_st ?_ (by assumption) | refine kept_get ?_ (by assumption) | refine kept_get2 ?_ (by assumption) | apply kept_with_atl)

theorem kept_poisonTile (i : Nat) (cause : Nat) {s : State} (hk : Kept cmds s) :
    Kept cmds (poisonTile i cause s) := by
  unfold poisonTile
  try dsimp only
  all_goals (with_reducible repeat' first | assumption | rfl | apply kept_ite | apply kept_ite_st | apply kept_ite_snd | apply kept_State_setDesc | apply kept_inc | apply kept_raise)

theorem kept_toZero (i : Nat) {s : State} (hk : Kept cmds s) :
    Kept cmds (toZero i s) := by
  unfold toZero
  try dsimp only
  all_goals (with_reducible repeat' first | assumption | rfl | apply kept_ite | apply kept_ite_st | apply kept_ite_snd | apply kept_State_setDesc | apply kept_setSlot)

theorem kept_unown (i : Nat) {s : State} (hk : Kept cmds s) :
    Kept cmds (unown i s) := by
  unfold unown
  try dsimp only
  all_goals (with_reducible repeat' first | assumption | rfl | apply kept_State_modDesc)

theorem kept_dropTiles (p : Nat) {s : State} (hk : Kept cmds s) :
    Kept cmds (dropTiles p s) := by
  unfold dropTiles
  try dsimp only
  all_goals (with_reducible repeat' first | assumption | rfl | (intro _ _ _) | (intro _ _) | split | refine kept_snd ?_ (by assumption) | refine kept_snd2 ?_ (by assumption) | refine kept_st ?_ (by assumption) | refine kept_get ?_ (by assumption) | refine kept_get2 ?_ (by assumption) | apply kept_with_atl)

theorem kept_statsReset (p : Nat) {s : State} (hk : Kept cmds s) :
    Kept cmds (statsReset p s) := by
  unfold statsReset
  try dsimp only
  all_goals (with_reducible repeat' first | assumption | rfl | apply kept_ite | apply kept_ite_st | apply kept_ite_snd | (intro _ _ _) | (intro _ _) | split | refine kept_snd ?_ (by assumption) | refine kept_snd2 ?_ (by assumption) | refine kept_st ?_ (by assumption) | refine kept_get ?_ (by assumption) | refine kept_get2 ?_ (by assumption) | apply kept_with_atl)

theorem kept_setRegion (p : Nat) (base : Nat) (shape : Nat) {s : State} (hk : Kept cmds s) :
    Kept cmds (setRegion p base shape s) := by
  unfold setRegion
  try dsimp only
  all_goals (with_reducible repeat' first | assumption | rfl | apply kept_ite | apply kept_ite_st | apply kept_ite_snd | apply kept_dropTiles | apply kept_setReg | apply kept_statsReset)

theorem kept_declare (p : Nat) (ts : List (Nat × Nat × Nat)) {s : State} (hk : Kept cmds s) :
    Kept cmds (declare p ts s) := by
  unfold declare
  try dsimp only
  all_goals (with_reducible repeat' first | assumption | rfl | apply kept_ite | apply kept_ite_st | apply kept_ite_snd | apply kept_State_setDesc | apply kept_foldS | (intro _ _ _) | (intro _ _) | split | refine kept_snd ?_ (by assumption) | refine kept_snd2 ?_ (by assumption) | refine kept_st ?_ (by assumption) | refine kept_get ?_ (by assumption) | refine kept_get2 ?_ (by assumption) | apply kept_with_atl)

theorem kept_opTake (o : TileOp) {s : State} (hk : Kept cmds s) :
    Kept cmds (opTake o s) := by
  unfold opTake
  try dsimp only
  all_goals (with_reducible repeat' first | assumption | rfl | apply kept_State_modDesc | apply kept_foldS | (intro _ _ _) | (intro _ _) | split | refine kept_snd ?_ (by assumption) | refine kept_snd2 ?_ (by assumption) | refine kept_st ?_ (by assumption) | refine kept_get ?_ (by assumption) | refine kept_get2 ?_ (by assumption) | apply kept_with_atl)

theorem kept_opIssue (o : TileOp) {s : State} (hk : Kept cmds s) :
    Kept cmds (opIssue o s).2 := by
  unfold opIssue
  try dsimp only
  all_goals (with_reducible repeat' first | assumption | rfl | apply kept_ite | apply kept_ite_st | apply kept_ite_snd | apply kept_inc | apply kept_opTake | apply kept_raise | split | refine kept_snd ?_ (by assumption) | refine kept_snd2 ?_ (by assumption) | refine kept_st ?_ (by assumption) | refine kept_get ?_ (by assumption) | refine kept_get2 ?_ (by assumption) | apply kept_with_atl)

theorem kept_opWithdraw (id : Nat) {s : State} (hk : Kept cmds s) :
    Kept cmds (opWithdraw id s) := by
  unfold opWithdraw
  try dsimp only
  all_goals (with_reducible repeat' first | assumption | rfl | (intro _ _ _) | (intro _ _) | split | refine kept_snd ?_ (by assumption) | refine kept_snd2 ?_ (by assumption) | refine kept_st ?_ (by assumption) | refine kept_get ?_ (by assumption) | refine kept_get2 ?_ (by assumption) | apply kept_with_atl)

theorem kept_opRetire (id : Nat) {s : State} (hk : Kept cmds s) :
    Kept cmds (opRetire id s) := by
  unfold opRetire
  try dsimp only
  all_goals (with_reducible repeat' first | assumption | rfl | apply kept_foldS | apply kept_unown | (intro _ _ _) | (intro _ _) | split | refine kept_snd ?_ (by assumption) | refine kept_snd2 ?_ (by assumption) | refine kept_st ?_ (by assumption) | refine kept_get ?_ (by assumption) | refine kept_get2 ?_ (by assumption) | apply kept_with_atl)

theorem kept_opUndo (id : Nat) {s : State} (hk : Kept cmds s) :
    Kept cmds (opUndo id s) := by
  unfold opUndo
  try dsimp only
  all_goals (with_reducible repeat' first | assumption | rfl | apply kept_ite | apply kept_ite_st | apply kept_ite_snd | apply kept_State_setDesc | apply kept_foldS | apply kept_opRetire | apply kept_toZero | (intro _ _ _) | (intro _ _) | split | refine kept_snd ?_ (by assumption) | refine kept_snd2 ?_ (by assumption) | refine kept_st ?_ (by assumption) | refine kept_get ?_ (by assumption) | refine kept_get2 ?_ (by assumption) | apply kept_with_atl)

theorem kept_setHost (n : Nat) {s : State} (hk : Kept cmds s) :
    Kept cmds (setHost n s) := by
  unfold setHost
  try dsimp only
  all_goals (with_reducible repeat' first | assumption | rfl | split | refine kept_snd ?_ (by assumption) | refine kept_snd2 ?_ (by assumption) | refine kept_st ?_ (by assumption) | refine kept_get ?_ (by assumption) | refine kept_get2 ?_ (by assumption) | apply kept_with_atl)

theorem kept_hostResult (r : Nat) {s : State} (hk : Kept cmds s) :
    Kept cmds (hostResult r s) := by
  unfold hostResult
  try dsimp only
  all_goals (with_reducible repeat' first | assumption | rfl | apply kept_wf)

theorem kept_hostStart (fast : Nat) {s : State} (hk : Kept cmds s) :
    Kept cmds (hostStart fast s) := by
  unfold hostStart
  try dsimp only
  all_goals (with_reducible repeat' first | assumption | rfl | apply kept_ite | apply kept_ite_st | apply kept_ite_snd | apply kept_State_setDesc | refine kept_allocPage _ _ ?_ | apply kept_hostResult | apply kept_opRetire | apply kept_setHost | split | refine kept_snd ?_ (by assumption) | refine kept_snd2 ?_ (by assumption) | refine kept_st ?_ (by assumption) | refine kept_get ?_ (by assumption) | refine kept_get2 ?_ (by assumption))

theorem kept_ownershipGrant (k : Nat) (fast : Nat) {s : State} (hk : Kept cmds s) :
    Kept cmds (ownershipGrant k fast s) := by
  unfold ownershipGrant
  try dsimp only
  all_goals (with_reducible repeat' first | assumption | rfl | apply kept_ite | apply kept_ite_st | apply kept_ite_snd | apply kept_hostStart | apply kept_opTake | apply kept_opWithdraw | split)

theorem kept_tileValue (port : Nat) (i : Nat) {s : State} (hk : Kept cmds s) :
    Kept cmds (tileValue port i s).2.2 := by
  unfold tileValue
  try dsimp only
  all_goals (with_reducible repeat' first | assumption | rfl | apply kept_ite | apply kept_ite_st | apply kept_ite_snd | apply kept_hbmGet | split)

theorem kept_pageOutDone (i : Nat) {s : State} (hk : Kept cmds s) :
    Kept cmds (pageOutDone i s) := by
  unfold pageOutDone
  try dsimp only
  all_goals (with_reducible repeat' first | assumption | rfl | apply kept_ite | apply kept_ite_st | apply kept_ite_snd | apply kept_State_setDesc | apply kept_hbmPut | apply kept_inc | apply kept_setSlot | apply kept_toZero)

theorem kept_hostComplete (fast : Nat) {s : State} (hk : Kept cmds s) :
    Kept cmds (hostComplete fast s) := by
  unfold hostComplete
  try dsimp only
  all_goals (with_reducible repeat' first | assumption | rfl | apply kept_ite | apply kept_ite_st | apply kept_ite_snd | apply kept_hbmPut | apply kept_hostResult | apply kept_hostStart | apply kept_opRetire | apply kept_pageOutDone | apply kept_poisonTile | apply kept_setHost | apply kept_tileValue | split)

theorem kept_atlOpWrite (v : Nat) (fast : Nat) {s : State} (hk : Kept cmds s) :
    Kept cmds (atlOpWrite v fast s).st := by
  unfold atlOpWrite
  try dsimp only
  all_goals (with_reducible repeat' first | assumption | rfl | apply kept_ite | apply kept_ite_st | apply kept_ite_snd | apply kept_acc | apply kept_hostResult | apply kept_hostStart | apply kept_opIssue | apply kept_opRetire | apply kept_opWithdraw | apply kept_refuse | apply kept_setHost | apply kept_step | split)

theorem kept_pageOutStart (fast : Nat) {s : State} (hk : Kept cmds s) :
    Kept cmds (pageOutStart fast s) := by
  unfold pageOutStart
  try dsimp only
  all_goals (with_reducible repeat' first | assumption | rfl | apply kept_ite | apply kept_ite_st | apply kept_ite_snd | apply kept_State_setDesc | refine kept_allocPage _ _ ?_ | apply kept_raise | split | refine kept_snd ?_ (by assumption) | refine kept_snd2 ?_ (by assumption) | refine kept_st ?_ (by assumption) | refine kept_get ?_ (by assumption) | refine kept_get2 ?_ (by assumption) | apply kept_with_atl)

theorem kept_pageInStart {s : State} (hk : Kept cmds s) :
    Kept cmds (pageInStart s) := by
  unfold pageInStart
  try dsimp only
  all_goals (with_reducible repeat' first | assumption | rfl | apply kept_State_modDesc | apply kept_notePeak | (intro _ _ _) | (intro _ _) | split)

theorem kept_pageInDone (i : Nat) {s : State} (hk : Kept cmds s) :
    Kept cmds (pageInDone i s) := by
  unfold pageInDone
  try dsimp only
  all_goals (with_reducible repeat' first | assumption | rfl | apply kept_ite | apply kept_ite_st | apply kept_ite_snd | apply kept_State_setDesc | apply kept_inc | apply kept_poisonTile | apply kept_raise | apply kept_setSlot | apply kept_tileValue | apply kept_toZero)

theorem kept_quarCheck (x0 : Nat) {x1 : State} (hk : Kept cmds x1) :
    Kept cmds (quarCheck x0 x1) := by
  fun_induction quarCheck
  all_goals (try dsimp only)
  all_goals (with_reducible repeat' first | assumption | rfl | apply_assumption | apply kept_ite | apply kept_ite_st | apply kept_ite_snd | apply kept_raise | apply kept_wf | split | refine kept_snd ?_ (by assumption) | refine kept_snd2 ?_ (by assumption) | refine kept_st ?_ (by assumption) | refine kept_get ?_ (by assumption) | refine kept_get2 ?_ (by assumption) | apply kept_with_atl)

theorem kept_quarantine (n : Nat) (host : Bool) {s : State} (hk : Kept cmds s) :
    Kept cmds (quarantine n host s) := by
  unfold quarantine
  try dsimp only
  all_goals (with_reducible repeat' first | assumption | rfl | apply kept_ite | apply kept_ite_st | apply kept_ite_snd | apply kept_quarCheck | apply kept_raise | apply kept_setExcl | split | refine kept_snd ?_ (by assumption) | refine kept_snd2 ?_ (by assumption) | refine kept_st ?_ (by assumption) | refine kept_get ?_ (by assumption) | refine kept_get2 ?_ (by assumption) | apply kept_with_atl)

theorem kept_atlDegraded (n : Nat) {s : State} (hk : Kept cmds s) :
    Kept cmds (atlDegraded n s) := by
  unfold atlDegraded
  try dsimp only
  all_goals (with_reducible repeat' first | assumption | rfl | apply kept_ite | apply kept_ite_st | apply kept_ite_snd | apply kept_quarantine)

theorem kept_quarRelease (n : Nat) {s : State} (hk : Kept cmds s) :
    Kept cmds (quarRelease n s) := by
  unfold quarRelease
  try dsimp only
  all_goals (with_reducible repeat' first | assumption | rfl | apply kept_ite | apply kept_ite_st | apply kept_ite_snd | apply kept_setExcl | apply kept_wf | split | refine kept_snd ?_ (by assumption) | refine kept_snd2 ?_ (by assumption) | refine kept_st ?_ (by assumption) | refine kept_get ?_ (by assumption) | refine kept_get2 ?_ (by assumption) | apply kept_with_atl)

theorem kept_quarCtrlWrite (v : Nat) {s : State} (hk : Kept cmds s) :
    Kept cmds (quarCtrlWrite v s) := by
  unfold quarCtrlWrite
  try dsimp only
  all_goals (with_reducible repeat' first | assumption | rfl | apply kept_ite | apply kept_ite_st | apply kept_ite_snd | apply kept_quarRelease | apply kept_quarantine)

theorem kept_moveStart (fast : Nat) (i : Nat) {s : State} (hk : Kept cmds s) :
    ∀ r, moveStart fast i s = some r → Kept cmds r := by
  intro t ht
  unfold moveStart at ht
  try dsimp only at ht
  all_goals (repeat' first | (cases ht) | split at ht)
  all_goals (with_reducible repeat' first | assumption | rfl | apply kept_State_setDesc | refine kept_allocPage _ _ ?_ | split | refine kept_snd ?_ (by assumption) | refine kept_snd2 ?_ (by assumption) | refine kept_st ?_ (by assumption) | refine kept_get ?_ (by assumption) | refine kept_get2 ?_ (by assumption))

theorem kept_movesStart (fast : Nat) (x0 : List Nat) {x1 : State} (hk : Kept cmds x1) :
    Kept cmds (movesStart fast x0 x1).2 := by
  fun_induction movesStart
  all_goals (try dsimp only)
  all_goals (with_reducible repeat' first | assumption | rfl | apply_assumption | refine kept_moveStart _ _ ?_ | split | refine kept_snd ?_ (by assumption) | refine kept_snd2 ?_ (by assumption) | refine kept_st ?_ (by assumption) | refine kept_get ?_ (by assumption))

theorem kept_quarStep (fast : Nat) {s : State} (hk : Kept cmds s) :
    Kept cmds (quarStep fast s) := by
  unfold quarStep
  try dsimp only
  all_goals (with_reducible repeat' first | assumption | rfl | apply kept_ite | apply kept_ite_st | apply kept_ite_snd | apply kept_movesStart | apply kept_raise | apply kept_wf | (intro _ _ _) | (intro _ _) | split | refine kept_snd ?_ (by assumption) | refine kept_snd2 ?_ (by assumption) | refine kept_st ?_ (by assumption) | refine kept_get ?_ (by assumption) | refine kept_get2 ?_ (by assumption) | apply kept_with_atl)

theorem kept_moveCommit (i : Nat) {s : State} (hk : Kept cmds s) :
    Kept cmds (moveCommit i s) := by
  unfold moveCommit
  try dsimp only
  all_goals (with_reducible repeat' first | assumption | rfl | apply kept_ite | apply kept_ite_st | apply kept_ite_snd | apply kept_State_setDesc | apply kept_hbmPut | apply kept_inc | apply kept_poisonTile | apply kept_quarCheck | apply kept_raise | apply kept_tileValue | apply kept_toZero | split | refine kept_snd ?_ (by assumption) | refine kept_snd2 ?_ (by assumption) | refine kept_st ?_ (by assumption) | refine kept_get ?_ (by assumption) | refine kept_get2 ?_ (by assumption) | apply kept_with_atl)

theorem kept_statsCheck {s : State} (hk : Kept cmds s) :
    Kept cmds (statsCheck s) := by
  unfold statsCheck
  try dsimp only
  all_goals (with_reducible repeat' first | assumption | rfl | apply kept_ite | apply kept_ite_st | apply kept_ite_snd | apply kept_foldS | apply kept_raise | (intro _ _ _) | (intro _ _) | split | refine kept_snd ?_ (by assumption) | refine kept_snd2 ?_ (by assumption) | refine kept_st ?_ (by assumption) | refine kept_get ?_ (by assumption) | refine kept_get2 ?_ (by assumption) | apply kept_with_atl)

theorem kept_statsBlock (n : Nat) {s : State} (hk : Kept cmds s) :
    Kept cmds (statsBlock n s) := by
  unfold statsBlock
  try dsimp only
  all_goals (with_reducible repeat' first | assumption | rfl | apply kept_statsCheck | (intro _ _ _) | (intro _ _) | split | refine kept_snd ?_ (by assumption) | refine kept_snd2 ?_ (by assumption) | refine kept_st ?_ (by assumption) | refine kept_get ?_ (by assumption) | refine kept_get2 ?_ (by assumption) | apply kept_with_atl)

theorem kept_atlBasicWrite (v : Nat) {s : State} (hk : Kept cmds s) :
    Kept cmds (atlBasicWrite v s).st := by
  unfold atlBasicWrite
  try dsimp only
  all_goals (with_reducible repeat' first | assumption | rfl | apply kept_ite | apply kept_ite_st | apply kept_ite_snd | apply kept_acc | apply kept_declare | apply kept_refuse | apply kept_setRegion | apply kept_storeBits | split)

theorem kept_atlRegionWrite (p : Nat) (off : Nat) (isShape : Bool) (v : Nat) {s : State} (hk : Kept cmds s) :
    Kept cmds (atlRegionWrite p off isShape v s).st := by
  unfold atlRegionWrite
  try dsimp only
  all_goals (with_reducible repeat' first | assumption | rfl | apply kept_ite | apply kept_ite_st | apply kept_ite_snd | apply kept_acc | apply kept_refuse | apply kept_setRegion | split)

theorem kept_atlCtrlWrite (v : Nat) {s : State} (hk : Kept cmds s) :
    Kept cmds (atlCtrlWrite v s).st := by
  unfold atlCtrlWrite
  try dsimp only
  all_goals (with_reducible repeat' first | assumption | rfl | apply kept_ite | apply kept_ite_st | apply kept_ite_snd | apply kept_acc | apply kept_dropTiles | apply kept_refuse | apply kept_statsReset)

theorem kept_descError (i : Nat) (err : Nat) {s : State} (hk : Kept cmds s) :
    Kept cmds (descError i err s) := by
  unfold descError
  try dsimp only
  all_goals (with_reducible repeat' first | assumption | rfl | apply kept_ite | apply kept_ite_st | apply kept_ite_snd | apply kept_State_modDesc | apply kept_inc | apply kept_poisonTile | apply kept_raise | apply kept_toZero | (intro _ _ _) | (intro _ _) | split)

theorem kept_descSnapshot (i : Nat) (err : Nat) {s : State} (hk : Kept cmds s) :
    Kept cmds (descSnapshot i err s) := by
  unfold descSnapshot
  try dsimp only
  all_goals (with_reducible repeat' first | assumption | rfl | apply kept_descError | apply kept_setReg | apply kept_setReg64)

theorem kept_atlPageWrite (off : Nat) (mask : Nat) (v : Nat) (ok : Bool) {s : State} (hk : Kept cmds s) :
    Kept cmds (atlPageWrite off mask v ok s).st := by
  unfold atlPageWrite
  try dsimp only
  all_goals (with_reducible repeat' first | assumption | rfl | apply kept_ite | apply kept_ite_st | apply kept_ite_snd | apply kept_acc | apply kept_refuse | apply kept_storeBits)

theorem kept_atlCntClear (v : Nat) {s : State} (hk : Kept cmds s) :
    Kept cmds (atlCntClear v s) := by
  unfold atlCntClear
  try dsimp only
  all_goals (with_reducible repeat' first | assumption | rfl | apply kept_ite | apply kept_ite_st | apply kept_ite_snd | apply kept_setReg | apply kept_zero)

theorem kept_atlWriteWith (fast : Nat) (err : Nat) (off : Nat) (v : Nat) {s : State} (hk : Kept cmds s) :
    ∀ r, atlWriteWith fast err off v s = some r → Kept cmds r.st := by
  intro t ht
  unfold atlWriteWith at ht
  try dsimp only at ht
  all_goals (repeat' first | (cases ht) | split at ht)
  all_goals (with_reducible repeat' first | assumption | rfl | apply kept_ite | apply kept_ite_st | apply kept_ite_snd | apply kept_acc | apply kept_atlBasicWrite | apply kept_atlCntClear | apply kept_atlCtrlWrite | apply kept_atlOpWrite | apply kept_atlPageWrite | apply kept_atlRegionWrite | apply kept_descSnapshot | apply kept_quarCtrlWrite | apply kept_refuse | apply kept_setReg)

theorem kept_atlWrite (off : Nat) (v : Nat) {s : State} (hk : Kept cmds s) :
    ∀ r, atlWrite off v s = some r → Kept cmds r.st := by
  intro t ht
  unfold atlWrite at ht
  try dsimp only at ht
  all_goals (repeat' first | (cases ht) | split at ht)
  all_goals (with_reducible repeat' first | assumption | rfl | refine kept_atlWriteWith _ _ _ _ ?_ | split | refine kept_snd ?_ (by assumption) | refine kept_snd2 ?_ (by assumption) | refine kept_st ?_ (by assumption))

theorem kept_execOwnershipGrant (cls : Fin 16) (fast : Fin 64) {s : State} (hk : Kept cmds s) :
    ∀ t, execOwnershipGrant cls fast s = .next t → Kept cmds t := by
  intro t ht
  unfold execOwnershipGrant at ht
  try dsimp only at ht
  all_goals (repeat' first | (cases ht) | split at ht)
  all_goals (with_reducible repeat' first | assumption | rfl | apply kept_ownershipGrant)

theorem kept_execPageOutStart (fast : Fin 64) {s : State} (hk : Kept cmds s) :
    ∀ t, execPageOutStart fast s = .next t → Kept cmds t := by
  intro t ht
  unfold execPageOutStart at ht
  try dsimp only at ht
  all_goals (repeat' first | (cases ht) | split at ht)
  all_goals (with_reducible repeat' first | assumption | rfl | apply kept_pageOutStart)

theorem kept_execPageOutComplete (index : Fin 4194304) {s : State} (hk : Kept cmds s) :
    ∀ t, execPageOutComplete index s = .next t → Kept cmds t := by
  intro t ht
  unfold execPageOutComplete at ht
  try dsimp only at ht
  all_goals (repeat' first | (cases ht) | split at ht)
  all_goals (with_reducible repeat' first | assumption | rfl | apply kept_pageOutDone)

theorem kept_execPageInStart {s : State} (hk : Kept cmds s) :
    ∀ t, execPageInStart s = .next t → Kept cmds t := by
  intro t ht
  unfold execPageInStart at ht
  try dsimp only at ht
  all_goals (repeat' first | (cases ht) | split at ht)
  all_goals (with_reducible repeat' first | assumption | rfl | apply kept_pageInStart)

theorem kept_execPageInComplete (index : Fin 4194304) {s : State} (hk : Kept cmds s) :
    ∀ t, execPageInComplete index s = .next t → Kept cmds t := by
  intro t ht
  unfold execPageInComplete at ht
  try dsimp only at ht
  all_goals (repeat' first | (cases ht) | split at ht)
  all_goals (with_reducible repeat' first | assumption | rfl | apply kept_pageInDone)

theorem kept_execQuarantineMoveStep (fast : Fin 64) {s : State} (hk : Kept cmds s) :
    ∀ t, execQuarantineMoveStep fast s = .next t → Kept cmds t := by
  intro t ht
  unfold execQuarantineMoveStep at ht
  try dsimp only at ht
  all_goals (repeat' first | (cases ht) | split at ht)
  all_goals (with_reducible repeat' first | assumption | rfl | apply kept_quarStep)

theorem kept_execMoveCommit (index : Fin 4194304) {s : State} (hk : Kept cmds s) :
    ∀ t, execMoveCommit index s = .next t → Kept cmds t := by
  intro t ht
  unfold execMoveCommit at ht
  try dsimp only at ht
  all_goals (repeat' first | (cases ht) | split at ht)
  all_goals (with_reducible repeat' first | assumption | rfl | apply kept_moveCommit)

theorem kept_execHostOpComplete (fast : Fin 64) {s : State} (hk : Kept cmds s) :
    ∀ t, execHostOpComplete fast s = .next t → Kept cmds t := by
  intro t ht
  unfold execHostOpComplete at ht
  try dsimp only at ht
  all_goals (repeat' first | (cases ht) | split at ht)
  all_goals (with_reducible repeat' first | assumption | rfl | apply kept_hostComplete)

end Sys2Proof.Machine
end

