-- ==== Sys2Proof/Laws/KeptXar.lean ====
section
/-! SUPPORT. What the operations of Machine/Xar keep (Laws/Kept). -/

namespace Sys2Proof.Machine

variable {cmds : List Instr}

theorem kept_State_setArr (a : Nat) (x : ArrSt) {s : State} (hk : Kept cmds s) :
    Kept cmds (State.setArr a x s) := by
  unfold State.setArr
  try dsimp only
  all_goals (with_reducible repeat' first | assumption | rfl | split | refine kept_snd ?_ (by assumption) | refine kept_snd2 ?_ (by assumption) | refine kept_st ?_ (by assumption) | refine kept_get ?_ (by assumption) | refine kept_get2 ?_ (by assumption) | apply kept_with_atl)

theorem kept_freeBufs {s : State} (hk : Kept cmds s) :
    Kept cmds (freeBufs s) := by
  unfold freeBufs
  try dsimp only
  all_goals (with_reducible repeat' first | assumption | rfl | split | refine kept_snd ?_ (by assumption) | refine kept_snd2 ?_ (by assumption) | refine kept_st ?_ (by assumption) | refine kept_get ?_ (by assumption) | refine kept_get2 ?_ (by assumption) | apply kept_with_stg)

theorem kept_countWaits {s : State} (hk : Kept cmds s) :
    Kept cmds (countWaits s) := by
  unfold countWaits
  try dsimp only
  all_goals (with_reducible repeat' first | assumption | rfl | apply kept_ite | apply kept_ite_st | apply kept_ite_snd | apply kept_inc | (intro _ _ _) | (intro _ _) | split | refine kept_snd ?_ (by assumption) | refine kept_snd2 ?_ (by assumption) | refine kept_st ?_ (by assumption) | refine kept_get ?_ (by assumption) | refine kept_get2 ?_ (by assumption) | apply kept_with_atl)

theorem kept_givePass (a : Nat) (p : Pass) (corr : Nat) (ue : List Nat) {s : State} (hk : Kept cmds s) :
    Kept cmds (givePass a p corr ue s) := by
  unfold givePass
  try dsimp only
  all_goals (with_reducible repeat' first | assumption | rfl | apply kept_ite | apply kept_ite_st | apply kept_ite_snd | apply kept_State_modDesc | apply kept_State_setArr | apply kept_inc | apply kept_notePeak | apply kept_raise | apply kept_statsCheck | (intro _ _ _) | (intro _ _) | split | refine kept_snd ?_ (by assumption) | refine kept_snd2 ?_ (by assumption) | refine kept_st ?_ (by assumption) | refine kept_get ?_ (by assumption) | refine kept_get2 ?_ (by assumption) | apply kept_with_atl)

theorem kept_passDispatch (desc : Nat) (corr : Nat) (ue : List Nat) {s : State} (hk : Kept cmds s) :
    Kept cmds (passDispatch desc corr ue s) := by
  unfold passDispatch
  try dsimp only
  all_goals (with_reducible repeat' first | assumption | rfl | apply kept_ite | apply kept_ite_st | apply kept_ite_snd | apply kept_countWaits | apply kept_descError | apply kept_givePass | split)

theorem kept_operandErr (a : Nat) (b : SubBuf) (p : Pass) (parity : Option (Nat × Nat)) {s : State} (hk : Kept cmds s) :
    Kept cmds (operandErr a b p parity s).2 := by
  unfold operandErr
  try dsimp only
  all_goals (with_reducible repeat' first | assumption | rfl | apply kept_ite | apply kept_ite_st | apply kept_ite_snd | apply kept_inc | apply kept_raise)

theorem kept_splitNote (p : Pass) {s : State} (hk : Kept cmds s) :
    Kept cmds (splitNote p s) := by
  unfold splitNote
  try dsimp only
  all_goals (with_reducible repeat' first | assumption | rfl | apply kept_ite | apply kept_ite_st | apply kept_ite_snd | apply kept_inc | apply kept_raise | (intro _ _ _) | (intro _ _) | split)

theorem kept_passFillEnd (a : Nat) (parity : Option (Nat × Nat)) {s : State} (hk : Kept cmds s) :
    Kept cmds (passFillEnd a parity s) := by
  unfold passFillEnd
  try dsimp only
  all_goals (with_reducible repeat' first | assumption | rfl | apply kept_ite | apply kept_ite_st | apply kept_ite_snd | apply kept_State_modDesc | apply kept_State_setArr | apply kept_freeBufs | apply kept_inc | apply kept_operandErr | apply kept_splitNote | (intro _ _ _) | (intro _ _) | split)

theorem kept_isolateIfEmpty (a : Nat) {s : State} (hk : Kept cmds s) :
    Kept cmds (isolateIfEmpty a s) := by
  unfold isolateIfEmpty
  try dsimp only
  all_goals (with_reducible repeat' first | assumption | rfl | apply kept_ite | apply kept_ite_st | apply kept_ite_snd | apply kept_State_setArr | apply kept_raise | apply kept_setReg)

theorem kept_exchangeEnd (a : Nat) (upset : Option (Nat × Nat × Nat)) {s : State} (hk : Kept cmds s) :
    Kept cmds (exchangeEnd a upset s) := by
  unfold exchangeEnd
  try dsimp only
  all_goals (with_reducible repeat' first | assumption | rfl | apply kept_ite | apply kept_ite_st | apply kept_ite_snd | apply kept_State_modDesc | apply kept_State_setArr | apply kept_inc | apply kept_isolateIfEmpty | apply kept_poisonTile | apply kept_raise | apply kept_setSlot | apply kept_toZero | apply kept_unown | (intro _ _ _) | (intro _ _) | split)

theorem kept_xarApply (w : Waymark) {s : State} (hk : Kept cmds s) :
    Kept cmds (xarApply w s) := by
  unfold xarApply
  try dsimp only
  all_goals (with_reducible repeat' first | assumption | rfl | apply kept_ite | apply kept_ite_st | apply kept_ite_snd | apply kept_setReg | apply kept_setReg64 | apply kept_wf | split | refine kept_snd ?_ (by assumption) | refine kept_snd2 ?_ (by assumption) | refine kept_st ?_ (by assumption) | refine kept_get ?_ (by assumption) | refine kept_get2 ?_ (by assumption) | apply kept_with_xar)

theorem kept_xarEnableWrite (n : Nat) (v : Nat) {s : State} (hk : Kept cmds s) :
    Kept cmds (xarEnableWrite n v s) := by
  unfold xarEnableWrite
  try dsimp only
  all_goals (with_reducible repeat' first | assumption | rfl | apply kept_ite | apply kept_ite_st | apply kept_ite_snd | apply kept_setReg)

theorem kept_xarBasicWrite (v : Nat) {s : State} (hk : Kept cmds s) :
    Kept cmds (xarBasicWrite v s).st := by
  unfold xarBasicWrite
  try dsimp only
  all_goals (with_reducible repeat' first | assumption | rfl | apply kept_ite | apply kept_ite_st | apply kept_ite_snd | apply kept_acc | apply kept_foldS | apply kept_refuse | apply kept_storeBits | apply kept_xarEnableWrite | (intro _ _ _))

theorem kept_xarTableWrite (off : Nat) (v : Nat) {s : State} (hk : Kept cmds s) :
    Kept cmds (xarTableWrite off v s).st := by
  unfold xarTableWrite
  try dsimp only
  all_goals (with_reducible repeat' first | assumption | rfl | apply kept_ite | apply kept_ite_st | apply kept_ite_snd | apply kept_acc | apply kept_refuse | apply kept_setReg)

theorem kept_xarCntClear (v : Nat) {s : State} (hk : Kept cmds s) :
    Kept cmds (xarCntClear v s) := by
  unfold xarCntClear
  try dsimp only
  all_goals (with_reducible repeat' first | assumption | rfl | apply kept_ite | apply kept_ite_st | apply kept_ite_snd | apply kept_zero)

theorem kept_xarWrite (off : Nat) (v : Nat) {s : State} (hk : Kept cmds s) :
    ∀ r, xarWrite off v s = some r → Kept cmds r.st := by
  intro t ht
  unfold xarWrite at ht
  try dsimp only at ht
  all_goals (repeat' first | (cases ht) | split at ht)
  all_goals (with_reducible repeat' first | assumption | rfl | apply kept_ite | apply kept_ite_st | apply kept_ite_snd | apply kept_acc | apply kept_refuse | apply kept_xarBasicWrite | apply kept_xarCntClear | apply kept_xarEnableWrite | apply kept_xarTableWrite)

theorem kept_execExchangeEnd (array : Fin 80) (upset : Option (Fin 1024 × Word × Word)) {s : State} (hk : Kept cmds s) :
    ∀ t, execExchangeEnd array upset s = .next t → Kept cmds t := by
  intro t ht
  unfold execExchangeEnd at ht
  try dsimp only at ht
  all_goals (repeat' first | (cases ht) | split at ht)
  all_goals (with_reducible repeat' first | assumption | rfl | apply kept_exchangeEnd)

end Sys2Proof.Machine
end

