-- ==== Sys2Proof/Laws/KeptAcc.lean ====
section
/-! SUPPORT. What the operations of Machine/Acc keep (Laws/Kept). -/

namespace Sys2Proof.Machine

variable {cmds : List Instr}

theorem kept_State_setAplan (p : Nat) (x : AccPlan) {s : State} (hk : Kept cmds s) :
    Kept cmds (State.setAplan p x s) := by
  unfold State.setAplan
  try dsimp only
  all_goals (with_reducible repeat' first | assumption | rfl | apply kept_acc | split | refine kept_snd ?_ (by assumption) | refine kept_snd2 ?_ (by assumption) | refine kept_st ?_ (by assumption) | refine kept_get ?_ (by assumption) | refine kept_get2 ?_ (by assumption) | apply kept_with_acc)

theorem kept_countSat (p : Nat) (num : Nat) (n : Nat) {s : State} (hk : Kept cmds s) :
    Kept cmds (countSat p num n s) := by
  unfold countSat
  try dsimp only
  all_goals (with_reducible repeat' first | assumption | rfl | apply kept_ite | apply kept_ite_st | apply kept_ite_snd | apply kept_inc | apply kept_raise)

theorem kept_noteBlock (p : Nat) (row : BlockRow) {s : State} (hk : Kept cmds s) :
    Kept cmds (noteBlock p row s) := by
  unfold noteBlock
  try dsimp only
  all_goals (with_reducible repeat' first | assumption | rfl | apply kept_ite | apply kept_ite_st | apply kept_ite_snd | apply kept_State_setAplan | apply kept_inc | apply kept_raise)

theorem kept_accBlockClose {s : State} (hk : Kept cmds s) :
    Kept cmds (accBlockClose s) := by
  unfold accBlockClose
  try dsimp only
  all_goals (with_reducible repeat' first | assumption | rfl | apply kept_ite | apply kept_ite_st | apply kept_ite_snd | apply kept_foldS | apply kept_noteBlock | (intro _ _ _))

theorem kept_accReduce (p : Nat) (vis : Bool) (b : SubBuf) {s : State} (hk : Kept cmds s) :
    Kept cmds (accReduce p vis b s) := by
  unfold accReduce
  try dsimp only
  all_goals (with_reducible repeat' first | assumption | rfl | apply kept_ite | apply kept_ite_st | apply kept_ite_snd | apply kept_State_setAplan)

theorem kept_markFed (id : Nat) {s : State} (hk : Kept cmds s) :
    Kept cmds (markFed id s) := by
  unfold markFed
  try dsimp only
  all_goals (with_reducible repeat' first | assumption | rfl | apply kept_ite | apply kept_ite_st | apply kept_ite_snd | (intro _ _ _) | (intro _ _) | split | refine kept_snd ?_ (by assumption) | refine kept_snd2 ?_ (by assumption) | refine kept_st ?_ (by assumption) | refine kept_get ?_ (by assumption) | refine kept_get2 ?_ (by assumption) | apply kept_with_atl)

theorem kept_takeResult (i : Nat) (p : Nat) (n : Nat) {s : State} (hk : Kept cmds s) :
    Kept cmds (takeResult i p n s) := by
  unfold takeResult
  try dsimp only
  all_goals (with_reducible repeat' first | assumption | rfl | apply kept_ite | apply kept_ite_st | apply kept_ite_snd | apply kept_State_setAplan | apply kept_countSat | apply kept_hbmGet | apply kept_hbmPut | apply kept_inc | apply kept_markFed | apply kept_raise | apply kept_sigAdd | apply kept_toZero | apply kept_unown)

theorem kept_blockResult (i : Nat) {s : State} (hk : Kept cmds s) :
    Kept cmds (blockResult i s) := by
  unfold blockResult
  try dsimp only
  all_goals (with_reducible repeat' first | assumption | rfl | apply kept_ite | apply kept_ite_st | apply kept_ite_snd | apply kept_State_setAplan | apply kept_inc | apply kept_raise | apply kept_takeResult | apply kept_toZero)

theorem kept_endMerges (p : Nat) (status : Nat) {s : State} (hk : Kept cmds s) :
    Kept cmds (endMerges p status s) := by
  unfold endMerges
  try dsimp only
  all_goals (with_reducible repeat' first | assumption | rfl | apply kept_ite | apply kept_ite_st | apply kept_ite_snd | (intro _ _ _) | (intro _ _) | split | refine kept_snd ?_ (by assumption) | refine kept_snd2 ?_ (by assumption) | refine kept_st ?_ (by assumption) | refine kept_get ?_ (by assumption) | refine kept_get2 ?_ (by assumption) | apply kept_with_svy)

theorem kept_rebind (p : Nat) (a : Option Nat) (b : Option Nat) {s : State} (hk : Kept cmds s) :
    Kept cmds (rebind p a b s) := by
  unfold rebind
  try dsimp only
  all_goals (with_reducible repeat' first | assumption | rfl | apply kept_ite | apply kept_ite_st | apply kept_ite_snd | (intro _ _ _) | (intro _ _) | split | refine kept_snd ?_ (by assumption) | refine kept_snd2 ?_ (by assumption) | refine kept_st ?_ (by assumption) | refine kept_get ?_ (by assumption) | refine kept_get2 ?_ (by assumption) | apply kept_with_svy)

theorem kept_emptySet (p : Nat) {s : State} (hk : Kept cmds s) :
    Kept cmds (emptySet p s) := by
  unfold emptySet
  try dsimp only
  all_goals (with_reducible repeat' first | assumption | rfl | apply kept_State_setAplan)

theorem kept_writePlanes (p : Nat) (set : Nat) (rows : List BlockRow) (ps : List PlanePos) {s : State} (hk : Kept cmds s) :
    Kept cmds (writePlanes p set rows ps s) := by
  unfold writePlanes
  grind [kept_foldS, kept_hbmPut, kept_mk, Kept]

theorem kept_closeInteg (p : Nat) (w : Waymark) (m : Nat) {s : State} (hk : Kept cmds s) :
    Kept cmds (closeInteg p w m s) := by
  unfold closeInteg
  try dsimp only
  all_goals (with_reducible repeat' first | assumption | rfl | apply kept_ite | apply kept_ite_st | apply kept_ite_snd | apply kept_State_setAplan | apply kept_endMerges | apply kept_raise | apply kept_setReg | apply kept_wf | apply kept_writePlanes)

theorem kept_dumpDone (w : Waymark) {s : State} (hk : Kept cmds s) :
    Kept cmds (dumpDone w s) := by
  unfold dumpDone
  try dsimp only
  all_goals (with_reducible repeat' first | assumption | rfl | apply kept_ite | apply kept_ite_st | apply kept_ite_snd | apply kept_noteApplied | apply kept_setHeld)

theorem kept_applyDump (p : Nat) {s : State} (hk : Kept cmds s) :
    Kept cmds (applyDump p s) := by
  unfold applyDump
  try dsimp only
  all_goals (with_reducible repeat' first | assumption | rfl | apply kept_ite | apply kept_ite_st | apply kept_ite_snd | apply kept_State_setAplan | apply kept_closeInteg | apply kept_dumpDone | apply kept_raise | apply kept_rebind | (intro _ _ _) | (intro _ _) | split)

theorem kept_abortInteg (p : Nat) (status : Nat) {s : State} (hk : Kept cmds s) :
    Kept cmds (abortInteg p status s) := by
  unfold abortInteg
  try dsimp only
  all_goals (with_reducible repeat' first | assumption | rfl | apply kept_emptySet | apply kept_endMerges)

theorem kept_accCarry (w : Waymark) {s : State} (hk : Kept cmds s) :
    Kept cmds (accCarry w s) := by
  unfold accCarry
  try dsimp only
  all_goals (with_reducible repeat' first | assumption | rfl | (intro _ _ _) | (intro _ _) | split | refine kept_snd ?_ (by assumption) | refine kept_snd2 ?_ (by assumption) | refine kept_st ?_ (by assumption) | refine kept_get ?_ (by assumption) | refine kept_get2 ?_ (by assumption) | apply kept_with_frm)

theorem kept_dumpArrive (w : Waymark) {s : State} (hk : Kept cmds s) :
    Kept cmds (dumpArrive w s) := by
  unfold dumpArrive
  try dsimp only
  all_goals (with_reducible repeat' first | assumption | rfl | apply kept_ite | apply kept_ite_st | apply kept_ite_snd | apply kept_State_setAplan | apply kept_dumpDone | apply kept_foldS | apply kept_logOpen | apply kept_rebind | apply kept_setHeld | (intro _ _ _))

theorem kept_sendPlan (p : Nat) (q : Nat) (f : Frame) {s : State} (hk : Kept cmds s) :
    Kept cmds (sendPlan p q f s) := by
  unfold sendPlan
  try dsimp only
  all_goals (with_reducible repeat' first | assumption | rfl | apply kept_ite | apply kept_ite_st | apply kept_ite_snd | apply kept_inc | apply kept_sendPortFor)

theorem kept_dropNote (q : Nat) (n : Nat) {s : State} (hk : Kept cmds s) :
    Kept cmds (dropNote q n s) := by
  unfold dropNote
  try dsimp only
  all_goals (with_reducible repeat' first | assumption | rfl | apply kept_ite | apply kept_ite_st | apply kept_ite_snd | apply kept_raise)

theorem kept_sendLegend (p : Nat) (q : Nat) (hdr : Frame) (x0 : Nat) (x1 : List LegRec) {x2 : State} (hk : Kept cmds x2) :
    Kept cmds (sendLegend p q hdr x0 x1 x2).2.2 := by
  fun_induction sendLegend <;> grind [kept_sendPlan, kept_mk, Kept]

theorem kept_drainTile (p : Nat) (g : AccInteg) (x : Nat × Nat × Nat) {s : State} (hk : Kept cmds s) :
    Kept cmds (drainTile p g x s).2 := by
  unfold drainTile
  try dsimp only
  all_goals (with_reducible repeat' first | assumption | rfl | apply kept_ite | apply kept_ite_st | apply kept_ite_snd | apply kept_countSat | apply kept_hbmGet | apply kept_inc | apply kept_raise)

theorem kept_drainTiles (p : Nat) (g : AccInteg) (x0 : List (Nat × Nat × Nat)) {x1 : State} (hk : Kept cmds x1) :
    Kept cmds (drainTiles p g x0 x1).2 := by
  fun_induction drainTiles
  all_goals (try dsimp only)
  all_goals (with_reducible repeat' first | assumption | rfl | apply_assumption | apply kept_drainTile | split | refine kept_snd ?_ (by assumption))

theorem kept_sendTile (p : Nat) (q : Nat) (sp : Nat) (t : OutTile) (x0 : Nat) (x1 : Nat) {x2 : State} (hk : Kept cmds x2) :
    Kept cmds (sendTile p q sp t x0 x1 x2).2 := by
  fun_induction sendTile <;> grind [kept_inc, kept_sendPlan, kept_mk, Kept]

theorem kept_sendTiles (p : Nat) (q : Nat) (sp : Nat) (x0 : List OutTile) {x1 : State} (hk : Kept cmds x1) :
    Kept cmds (sendTiles p q sp x0 x1).2 := by
  fun_induction sendTiles <;> grind [kept_sendTile, kept_mk, Kept]

theorem kept_drainPort (p : Nat) (q : Nat) (g : AccInteg) (tiles : List (Nat × Nat × Nat)) (mine : List OutTile) (bad : List OutTile) (frames : Nat) {s : State} (hk : Kept cmds s) :
    Kept cmds (drainPort p q g tiles mine bad frames s).2 := by
  unfold drainPort
  grind [kept_dropNote, kept_sendLegend, kept_sendTiles, kept_mk, Kept]

theorem kept_setDrain (p : Nat) {s : State} (hk : Kept cmds s) :
    Kept cmds (setDrain p s) := by
  unfold setDrain
  try dsimp only
  all_goals (with_reducible repeat' first | assumption | rfl | apply kept_ite | apply kept_ite_st | apply kept_ite_snd | apply kept_State_setAplan | apply kept_acc | apply kept_drainPort | apply kept_drainTiles | apply kept_foldS | (intro _ _ _) | (intro _ _) | split | refine kept_snd ?_ (by assumption) | refine kept_snd2 ?_ (by assumption) | refine kept_st ?_ (by assumption) | refine kept_get ?_ (by assumption) | refine kept_get2 ?_ (by assumption) | apply kept_with_acc)

theorem kept_drainEnd (p : Nat) {s : State} (hk : Kept cmds s) :
    Kept cmds (drainEnd p s) := by
  unfold drainEnd
  try dsimp only
  all_goals (with_reducible repeat' first | assumption | rfl | apply kept_ite | apply kept_ite_st | apply kept_ite_snd | apply kept_State_setAplan | split)

theorem kept_sendBeams (p : Nat) (q : Nat) (c : Nat) (sp : Nat) (void : Bool) (fl : Nat) (x0 : Nat) (x1 : List BeamEl) {x2 : State} (hk : Kept cmds x2) :
    Kept cmds (sendBeams p q c sp void fl x0 x1 x2).2 := by
  fun_induction sendBeams
  all_goals (try dsimp only)
  all_goals (with_reducible repeat' first | assumption | rfl | apply_assumption | apply kept_ite | apply kept_ite_st | apply kept_ite_snd | apply kept_sendPlan)

theorem kept_noteBeamTile (p : Nat) (n : Nat) (key : Nat) (k : Nat) (fl : Nat) (excl : Nat) {s : State} (hk : Kept cmds s) :
    Kept cmds (noteBeamTile p n key k fl excl s) := by
  unfold noteBeamTile
  try dsimp only
  all_goals (with_reducible repeat' first | assumption | rfl | apply kept_ite | apply kept_ite_st | apply kept_ite_snd | apply kept_State_setAplan)

theorem kept_beamCommit (o : TileOp) (st : BeamStep) {s : State} (hk : Kept cmds s) :
    Kept cmds (beamCommit o st s) := by
  unfold beamCommit
  try dsimp only
  all_goals (with_reducible repeat' first | assumption | rfl | apply kept_ite | apply kept_ite_st | apply kept_ite_snd | apply kept_State_setAplan | apply kept_acc | apply kept_countSat | apply kept_dropNote | apply kept_foldS | apply kept_hbmPut | apply kept_noteBeamTile | apply kept_sendBeams | apply kept_sigAdd | apply kept_toZero | (intro _ _ _) | (intro _ _) | split | refine kept_snd ?_ (by assumption) | refine kept_snd2 ?_ (by assumption) | refine kept_st ?_ (by assumption) | refine kept_get ?_ (by assumption) | refine kept_get2 ?_ (by assumption) | apply kept_with_atl | apply kept_with_acc)

theorem kept_beamUndone (p : Nat) (row : Nat) (rows : Nat) (st : BeamStep) {s : State} (hk : Kept cmds s) :
    Kept cmds (beamUndone p row rows st s) := by
  unfold beamUndone
  try dsimp only
  all_goals (with_reducible repeat' first | assumption | rfl | apply kept_ite | apply kept_ite_st | apply kept_ite_snd | apply kept_foldS | apply kept_noteBeamTile | (intro _ _ _) | (intro _ _) | split | refine kept_snd ?_ (by assumption) | refine kept_snd2 ?_ (by assumption) | refine kept_st ?_ (by assumption) | refine kept_get ?_ (by assumption) | refine kept_get2 ?_ (by assumption) | apply kept_with_atl)

theorem kept_beamLegendTo (p : Nat) (n : Nat) (lf : Nat) (els : List (List Byte)) (a : AccPlan) (q : Nat) {s : State} (hk : Kept cmds s) :
    Kept cmds (beamLegendTo p n lf els a q s) := by
  unfold beamLegendTo
  try dsimp only
  all_goals (with_reducible repeat' first | assumption | rfl | apply kept_dropNote | apply kept_sendLegend)

theorem kept_beamLegendEnd (p : Nat) (n : Nat) {s : State} (hk : Kept cmds s) :
    Kept cmds (beamLegendEnd p n s) := by
  unfold beamLegendEnd
  try dsimp only
  all_goals (with_reducible repeat' first | assumption | rfl | apply kept_ite | apply kept_ite_st | apply kept_ite_snd | apply kept_State_setAplan | (intro _ _ _) | (intro _ _) | split | refine kept_snd ?_ (by assumption) | refine kept_snd2 ?_ (by assumption) | refine kept_st ?_ (by assumption) | refine kept_get ?_ (by assumption) | refine kept_get2 ?_ (by assumption) | apply kept_with_atl)

theorem kept_beamLegend (p : Nat) (n : Nat) {s : State} (hk : Kept cmds s) :
    Kept cmds (beamLegend p n s) := by
  unfold beamLegend
  try dsimp only
  all_goals (with_reducible repeat' first | assumption | rfl | apply kept_ite | apply kept_ite_st | apply kept_ite_snd | apply kept_beamLegendEnd | apply kept_beamLegendTo | apply kept_foldS)

theorem kept_accRefuse (off : Nat) (p : Nat) {s : State} (hk : Kept cmds s) :
    Kept cmds (accRefuse off p s).st := by
  unfold accRefuse
  try dsimp only
  all_goals (with_reducible repeat' first | assumption | rfl | apply kept_refuse)

theorem kept_accBasicWrite (v : Nat) {s : State} (hk : Kept cmds s) :
    Kept cmds (accBasicWrite v s).st := by
  unfold accBasicWrite
  try dsimp only
  all_goals (with_reducible repeat' first | assumption | rfl | apply kept_ite | apply kept_ite_st | apply kept_ite_snd | apply kept_acc | apply kept_accRefuse | apply kept_foldS | apply kept_setReg | apply kept_storeBits | apply kept_wf | (intro _ _ _) | (intro _ _) | split)

theorem kept_accCtrlWrite (v : Nat) {s : State} (hk : Kept cmds s) :
    Kept cmds (accCtrlWrite v s) := by
  unfold accCtrlWrite
  try dsimp only
  all_goals (with_reducible repeat' first | assumption | rfl | apply kept_ite | apply kept_ite_st | apply kept_ite_snd | apply kept_State_setAplan | apply kept_wf | split | refine kept_snd ?_ (by assumption) | refine kept_snd2 ?_ (by assumption) | refine kept_st ?_ (by assumption) | refine kept_get ?_ (by assumption) | refine kept_get2 ?_ (by assumption) | apply kept_with_wm)

theorem kept_accPlanWrite (p : Nat) (d : Nat) (off : Nat) (v : Nat) {s : State} (hk : Kept cmds s) :
    Kept cmds (accPlanWrite p d off v s).st := by
  unfold accPlanWrite
  try dsimp only
  all_goals (with_reducible repeat' first | assumption | rfl | apply kept_ite | apply kept_ite_st | apply kept_ite_snd | apply kept_acc | apply kept_accRefuse | apply kept_storeBits | split)

theorem kept_accCntClear (v : Nat) {s : State} (hk : Kept cmds s) :
    Kept cmds (accCntClear v s) := by
  unfold accCntClear
  try dsimp only
  all_goals (with_reducible repeat' first | assumption | rfl | apply kept_ite | apply kept_ite_st | apply kept_ite_snd | apply kept_zero)

theorem kept_accWrite (off : Nat) (v : Nat) {s : State} (hk : Kept cmds s) :
    ∀ r, accWrite off v s = some r → Kept cmds r.st := by
  intro t ht
  unfold accWrite at ht
  try dsimp only at ht
  all_goals (repeat' first | (cases ht) | split at ht)
  all_goals (with_reducible repeat' first | assumption | rfl | apply kept_ite | apply kept_ite_st | apply kept_ite_snd | apply kept_acc | apply kept_accBasicWrite | apply kept_accCntClear | apply kept_accCtrlWrite | apply kept_accPlanWrite)

theorem kept_execAccBlockClose {s : State} (hk : Kept cmds s) :
    ∀ t, execAccBlockClose s = .next t → Kept cmds t := by
  intro t ht
  unfold execAccBlockClose at ht
  try dsimp only at ht
  all_goals (repeat' first | (cases ht) | split at ht)
  all_goals (with_reducible repeat' first | assumption | rfl | apply kept_accBlockClose)

theorem kept_execBlockResultMerge (index : Fin 4194304) {s : State} (hk : Kept cmds s) :
    ∀ t, execBlockResultMerge index s = .next t → Kept cmds t := by
  intro t ht
  unfold execBlockResultMerge at ht
  try dsimp only at ht
  all_goals (repeat' first | (cases ht) | split at ht)
  all_goals (with_reducible repeat' first | assumption | rfl | apply kept_blockResult)

theorem kept_execSetDrain (plan : Fin 16) {s : State} (hk : Kept cmds s) :
    ∀ t, execSetDrain plan s = .next t → Kept cmds t := by
  intro t ht
  unfold execSetDrain at ht
  try dsimp only at ht
  all_goals (repeat' first | (cases ht) | split at ht)
  all_goals (with_reducible repeat' first | assumption | rfl | apply kept_setDrain)

theorem kept_execDrainEnd (plan : Fin 16) {s : State} (hk : Kept cmds s) :
    ∀ t, execDrainEnd plan s = .next t → Kept cmds t := by
  intro t ht
  unfold execDrainEnd at ht
  try dsimp only at ht
  all_goals (repeat' first | (cases ht) | split at ht)
  all_goals (with_reducible repeat' first | assumption | rfl | apply kept_drainEnd)

end Sys2Proof.Machine
end

