-- ==== Sys2Proof/Laws/KeptSvy.lean ====
section
/-! SUPPORT. What the operations of Machine/Svy keep (Laws/Kept). -/

namespace Sys2Proof.Machine

variable {cmds : List Instr}

theorem kept_State_setScore (c : Nat) (k : SvyCore) {s : State} (hk : Kept cmds s) :
    Kept cmds (State.setScore c k s) := by
  unfold State.setScore
  try dsimp only
  all_goals (with_reducible repeat' first | assumption | rfl | split | refine kept_snd ?_ (by assumption) | refine kept_snd2 ?_ (by assumption) | refine kept_st ?_ (by assumption) | refine kept_get ?_ (by assumption) | refine kept_get2 ?_ (by assumption) | apply kept_with_svy)

theorem kept_trimHandles (c : Nat) {s : State} (hk : Kept cmds s) :
    Kept cmds (trimHandles c s) := by
  unfold trimHandles
  try dsimp only
  all_goals (with_reducible repeat' first | assumption | rfl | (intro _ _ _) | (intro _ _) | split | refine kept_snd ?_ (by assumption) | refine kept_snd2 ?_ (by assumption) | refine kept_st ?_ (by assumption) | refine kept_get ?_ (by assumption) | refine kept_get2 ?_ (by assumption) | apply kept_with_svy)

theorem kept_newHandle (c : Nat) (kind : Nat) (plan : Nat) (bound : Option Nat) (status : Option Nat) {s : State} (hk : Kept cmds s) :
    Kept cmds (newHandle c kind plan bound status s).2 := by
  unfold newHandle
  try dsimp only
  all_goals (with_reducible repeat' first | assumption | rfl | apply kept_State_setScore | apply kept_trimHandles | split | refine kept_snd ?_ (by assumption) | refine kept_snd2 ?_ (by assumption) | refine kept_st ?_ (by assumption) | refine kept_get ?_ (by assumption) | refine kept_get2 ?_ (by assumption) | apply kept_with_svy)

theorem kept_endHandle (id : Nat) (status : Nat) (stood : Nat) {s : State} (hk : Kept cmds s) :
    Kept cmds (endHandle id status stood s) := by
  unfold endHandle
  try dsimp only
  all_goals (with_reducible repeat' first | assumption | rfl | apply kept_ite | apply kept_ite_st | apply kept_ite_snd | (intro _ _ _) | (intro _ _) | split | refine kept_snd ?_ (by assumption) | refine kept_snd2 ?_ (by assumption) | refine kept_st ?_ (by assumption) | refine kept_get ?_ (by assumption) | refine kept_get2 ?_ (by assumption) | apply kept_with_svy)

theorem kept_svyFault (c : Nat) (cause : Nat) {s : State} (hk : Kept cmds s) :
    Kept cmds (svyFault c cause s) := by
  unfold svyFault
  try dsimp only
  all_goals (with_reducible repeat' first | assumption | rfl | apply kept_State_setScore | apply kept_raise)

theorem kept_svyReach (c : Nat) {s : State} (hk : Kept cmds s) :
    Kept cmds (svyReach c s) := by
  unfold svyReach
  try dsimp only
  all_goals (with_reducible repeat' first | assumption | rfl | apply kept_ite | apply kept_ite_st | apply kept_ite_snd | apply kept_svyFault)

theorem kept_svyResult (c : Nat) (d : Nat) (st : Nat) (h : Nat) (stood : Nat) {s : State} (hk : Kept cmds s) :
    Kept cmds (svyResult c d st h stood s) := by
  unfold svyResult
  try dsimp only
  all_goals (with_reducible repeat' first | assumption | rfl | apply kept_ite | apply kept_ite_st | apply kept_ite_snd | apply kept_State_setScore | apply kept_inc | apply kept_raise)

theorem kept_svyAbort (c : Nat) (h : Nat) (killed : Bool) {s : State} (hk : Kept cmds s) :
    Kept cmds (svyAbort c h killed s).2.2 := by
  unfold svyAbort
  try dsimp only
  all_goals (with_reducible repeat' first | assumption | rfl | apply kept_ite | apply kept_ite_st | apply kept_ite_snd | apply kept_abortInteg | apply kept_beamLegend | apply kept_beamUndone | apply kept_endHandle | apply kept_foldS | apply kept_opUndo | apply kept_opWithdraw | apply kept_raise | (intro _ _ _) | (intro _ _) | split)

theorem kept_svyKillAll (c : Nat) {s : State} (hk : Kept cmds s) :
    Kept cmds (svyKillAll c s) := by
  unfold svyKillAll
  try dsimp only
  all_goals (with_reducible repeat' first | assumption | rfl | apply kept_foldS | apply kept_svyAbort | (intro _ _ _))

theorem kept_svyStopping (c : Nat) (how : Nat) {s : State} (hk : Kept cmds s) :
    Kept cmds (svyStopping c how s) := by
  unfold svyStopping
  try dsimp only
  all_goals (with_reducible repeat' first | assumption | rfl | apply kept_ite | apply kept_ite_st | apply kept_ite_snd | apply kept_State_setScore | apply kept_endHandle | apply kept_opWithdraw)

theorem kept_svyRequest (c : Nat) (r : SvyReq) {s : State} (hk : Kept cmds s) :
    Kept cmds (svyRequest c r s) := by
  unfold svyRequest
  try dsimp only
  all_goals (with_reducible repeat' first | assumption | rfl | apply kept_ite | apply kept_ite_st | apply kept_ite_snd | apply kept_State_setScore | apply kept_setReg | apply kept_svyAbort | apply kept_svyKillAll | apply kept_svyStopping | split)

theorem kept_svyStepPoint (c : Nat) {s : State} (hk : Kept cmds s) :
    Kept cmds (svyStepPoint c s) := by
  unfold svyStepPoint
  try dsimp only
  all_goals (with_reducible repeat' first | assumption | rfl | apply kept_State_setScore | apply kept_foldS | apply kept_svyRequest)

theorem kept_svyGo (c : Nat) (pc : Nat) (loops : List (Nat × Nat × Nat)) {s : State} (hk : Kept cmds s) :
    Kept cmds (svyGo c pc loops s) := by
  unfold svyGo
  try dsimp only
  all_goals (with_reducible repeat' first | assumption | rfl | apply kept_ite | apply kept_ite_st | apply kept_ite_snd | apply kept_State_setScore | apply kept_inc | apply kept_raise | apply kept_svyReach | apply kept_svyStepPoint)

theorem kept_svyNext (c : Nat) {s : State} (hk : Kept cmds s) :
    Kept cmds (svyNext c s) := by
  unfold svyNext
  try dsimp only
  all_goals (with_reducible repeat' first | assumption | rfl | apply kept_svyGo)

theorem kept_svyWait (c : Nat) (kind : Nat) (h : Nat) {s : State} (hk : Kept cmds s) :
    Kept cmds (svyWait c kind h s) := by
  unfold svyWait
  try dsimp only
  all_goals (with_reducible repeat' first | assumption | rfl | apply kept_State_setScore | apply kept_svyStepPoint)

theorem kept_svyDone (c : Nat) (w : Nat) (st : Nat) (h : Nat) (stood : Nat) {s : State} (hk : Kept cmds s) :
    Kept cmds (svyDone c w st h stood s) := by
  unfold svyDone
  try dsimp only
  all_goals (with_reducible repeat' first | assumption | rfl | apply kept_svyNext | apply kept_svyResult)

theorem kept_svyAlu (f : SvyCore → Nat → Nat) (c : Nat) (w : Nat) {s : State} (hk : Kept cmds s) :
    Kept cmds (svyAlu f c w s) := by
  unfold svyAlu
  try dsimp only
  all_goals (with_reducible repeat' first | assumption | rfl | apply kept_State_setScore | apply kept_svyNext)

theorem kept_piBranch (c : Nat) (w : Nat) {s : State} (hk : Kept cmds s) :
    Kept cmds (piBranch c w s) := by
  unfold piBranch
  try dsimp only
  all_goals (with_reducible repeat' first | assumption | rfl | apply kept_ite | apply kept_ite_st | apply kept_ite_snd | apply kept_svyFault | apply kept_svyGo | apply kept_svyNext)

theorem kept_piLoop (c : Nat) (w : Nat) {s : State} (hk : Kept cmds s) :
    Kept cmds (piLoop c w s) := by
  unfold piLoop
  try dsimp only
  all_goals (with_reducible repeat' first | assumption | rfl | apply kept_ite | apply kept_ite_st | apply kept_ite_snd | apply kept_svyFault | apply kept_svyGo)

theorem kept_piCall (c : Nat) (w : Nat) {s : State} (hk : Kept cmds s) :
    Kept cmds (piCall c w s) := by
  unfold piCall
  try dsimp only
  all_goals (with_reducible repeat' first | assumption | rfl | apply kept_ite | apply kept_ite_st | apply kept_ite_snd | apply kept_State_setScore | apply kept_svyFault | apply kept_svyGo)

theorem kept_piRet (c : Nat) {s : State} (hk : Kept cmds s) :
    Kept cmds (piRet c s) := by
  unfold piRet
  try dsimp only
  all_goals (with_reducible repeat' first | assumption | rfl | apply kept_State_setScore | apply kept_svyFault | apply kept_svyGo | split)

theorem kept_piStream (c : Nat) (w : Nat) {s : State} (hk : Kept cmds s) :
    Kept cmds (piStream c w s) := by
  unfold piStream
  try dsimp only
  all_goals (with_reducible repeat' first | assumption | rfl | apply kept_ite | apply kept_ite_st | apply kept_ite_snd | apply kept_foldS | apply kept_raise | apply kept_svyDone | apply kept_wf | (intro _ _ _) | (intro _ _) | split | refine kept_snd ?_ (by assumption) | refine kept_snd2 ?_ (by assumption) | refine kept_st ?_ (by assumption) | refine kept_get ?_ (by assumption) | refine kept_get2 ?_ (by assumption) | apply kept_with_svy)

theorem kept_piSpectra (c : Nat) (w : Nat) {s : State} (hk : Kept cmds s) :
    Kept cmds (piSpectra c w s) := by
  unfold piSpectra
  try dsimp only
  all_goals (with_reducible repeat' first | assumption | rfl | apply kept_ite | apply kept_ite_st | apply kept_ite_snd | apply kept_State_setScore | apply kept_svyDone)

theorem kept_piTileset (c : Nat) (w : Nat) {s : State} (hk : Kept cmds s) :
    Kept cmds (piTileset c w s) := by
  unfold piTileset
  try dsimp only
  all_goals (with_reducible repeat' first | assumption | rfl | apply kept_ite | apply kept_ite_st | apply kept_ite_snd | apply kept_declare | apply kept_svyDone)

theorem kept_piBudget (c : Nat) (w : Nat) {s : State} (hk : Kept cmds s) :
    Kept cmds (piBudget c w s) := by
  unfold piBudget
  try dsimp only
  all_goals (with_reducible repeat' first | assumption | rfl | apply kept_ite | apply kept_ite_st | apply kept_ite_snd | apply kept_State_setScore | apply kept_cadBudget | apply kept_svyDone)

theorem kept_piIssue (c : Nat) (w : Nat) (kind : Nat) (o : TileOp) {s : State} (hk : Kept cmds s) :
    Kept cmds (piIssue c w kind o s) := by
  unfold piIssue
  try dsimp only
  all_goals (with_reducible repeat' first | assumption | rfl | apply kept_ite | apply kept_ite_st | apply kept_ite_snd | apply kept_inc | apply kept_newHandle | apply kept_opIssue | apply kept_svyDone | apply kept_svyWait)

theorem kept_piOperation (c : Nat) (w : Nat) (beam : Bool) (row : Nat) (rows : Nat) {s : State} (hk : Kept cmds s) :
    Kept cmds (piOperation c w beam row rows s) := by
  unfold piOperation
  try dsimp only
  all_goals (with_reducible repeat' first | assumption | rfl | apply kept_ite | apply kept_ite_st | apply kept_ite_snd | apply kept_piIssue | apply kept_step | apply kept_svyDone | apply kept_svyWait | (intro _ _ _) | (intro _ _) | split)

theorem kept_piCorr (c : Nat) (w : Nat) {s : State} (hk : Kept cmds s) :
    Kept cmds (piCorr c w s) := by
  unfold piCorr
  try dsimp only
  all_goals (with_reducible repeat' first | assumption | rfl | apply kept_piOperation)

theorem kept_piBeam (c : Nat) (w : Nat) {s : State} (hk : Kept cmds s) :
    Kept cmds (piBeam c w s) := by
  unfold piBeam
  try dsimp only
  all_goals (with_reducible repeat' first | assumption | rfl | apply kept_piOperation)

theorem kept_piMerge (c : Nat) (w : Nat) {s : State} (hk : Kept cmds s) :
    Kept cmds (piMerge c w s) := by
  unfold piMerge
  try dsimp only
  all_goals (with_reducible repeat' first | assumption | rfl | apply kept_ite | apply kept_ite_st | apply kept_ite_snd | apply kept_inc | apply kept_newHandle | apply kept_svyDone | apply kept_svyWait | (intro _ _ _) | (intro _ _) | split)

theorem kept_insertMark (point : Nat) (plan : Nat) (w : Waymark) {s : State} (hk : Kept cmds s) :
    Kept cmds (insertMark point plan w s) := by
  unfold insertMark
  try dsimp only
  all_goals (with_reducible repeat' first | assumption | rfl | apply kept_ite | apply kept_ite_st | apply kept_ite_snd | (intro _ _ _) | (intro _ _) | split | refine kept_snd ?_ (by assumption) | refine kept_snd2 ?_ (by assumption) | refine kept_st ?_ (by assumption) | refine kept_get ?_ (by assumption) | refine kept_get2 ?_ (by assumption) | apply kept_with_frm | apply kept_with_wm)

theorem kept_noteDump (tag : Nat) (anchor : Nat) {s : State} (hk : Kept cmds s) :
    Kept cmds (noteDump tag anchor s) := by
  unfold noteDump
  try dsimp only
  all_goals (with_reducible repeat' first | assumption | rfl | (intro _ _ _) | (intro _ _) | split | refine kept_snd ?_ (by assumption) | refine kept_snd2 ?_ (by assumption) | refine kept_st ?_ (by assumption) | refine kept_get ?_ (by assumption) | refine kept_get2 ?_ (by assumption) | apply kept_with_svy)

theorem kept_svyMark (c : Nat) (wd : Nat) (point : Nat) (m : Waymark) {s : State} (hk : Kept cmds s) :
    Kept cmds (svyMark c wd point m s) := by
  unfold svyMark
  try dsimp only
  all_goals (with_reducible repeat' first | assumption | rfl | apply kept_ite | apply kept_ite_st | apply kept_ite_snd | apply kept_inc | apply kept_insertMark | apply kept_newHandle | apply kept_noteDump | apply kept_svyDone | apply kept_svyWait)

theorem kept_piDump (c : Nat) (w : Nat) {s : State} (hk : Kept cmds s) :
    Kept cmds (piDump c w s) := by
  unfold piDump
  try dsimp only
  all_goals (with_reducible repeat' first | assumption | rfl | apply kept_ite | apply kept_ite_st | apply kept_ite_snd | apply kept_svyMark)

theorem kept_piMark (c : Nat) (w : Nat) {s : State} (hk : Kept cmds s) :
    Kept cmds (piMark c w s) := by
  unfold piMark
  try dsimp only
  all_goals (with_reducible repeat' first | assumption | rfl | apply kept_ite | apply kept_ite_st | apply kept_ite_snd | apply kept_svyDone | apply kept_svyMark)

theorem kept_piWaitmark (c : Nat) (w : Nat) {s : State} (hk : Kept cmds s) :
    Kept cmds (piWaitmark c w s) := by
  unfold piWaitmark
  try dsimp only
  all_goals (with_reducible repeat' first | assumption | rfl | apply kept_State_setScore | apply kept_svyNext | apply kept_svyWait | (intro _ _ _) | (intro _ _) | split)

theorem kept_piWaitidx (c : Nat) (w : Nat) {s : State} (hk : Kept cmds s) :
    Kept cmds (piWaitidx c w s) := by
  unfold piWaitidx
  try dsimp only
  all_goals (with_reducible repeat' first | assumption | rfl | apply kept_ite | apply kept_ite_st | apply kept_ite_snd | apply kept_State_setScore | apply kept_svyNext | apply kept_svyWait)

theorem kept_piFence (c : Nat) (w : Nat) {s : State} (hk : Kept cmds s) :
    Kept cmds (piFence c w s) := by
  unfold piFence
  try dsimp only
  all_goals (with_reducible repeat' first | assumption | rfl | apply kept_ite | apply kept_ite_st | apply kept_ite_snd | apply kept_svyNext | apply kept_svyWait)

theorem kept_piCommit (c : Nat) (w : Nat) {s : State} (hk : Kept cmds s) :
    Kept cmds (piCommit c w s) := by
  unfold piCommit
  try dsimp only
  all_goals (with_reducible repeat' first | assumption | rfl | apply kept_ite | apply kept_ite_st | apply kept_ite_snd | apply kept_svyDone | apply kept_svyWait | split)

theorem kept_piAbort (c : Nat) (w : Nat) {s : State} (hk : Kept cmds s) :
    Kept cmds (piAbort c w s) := by
  unfold piAbort
  try dsimp only
  all_goals (with_reducible repeat' first | assumption | rfl | apply kept_ite | apply kept_ite_st | apply kept_ite_snd | apply kept_svyAbort | apply kept_svyDone)

theorem kept_piStep (c : Nat) (w : Nat) {s : State} (hk : Kept cmds s) :
    Kept cmds (piStep c w s) := by
  unfold piStep
  try dsimp only
  all_goals (with_reducible repeat' first | assumption | rfl | apply kept_State_setScore | apply kept_insertMark | apply kept_svyReach | apply kept_svyStepPoint)

theorem kept_piHalt (c : Nat) (w : Nat) {s : State} (hk : Kept cmds s) :
    Kept cmds (piHalt c w s) := by
  unfold piHalt
  try dsimp only
  all_goals (with_reducible repeat' first | assumption | rfl | apply kept_ite | apply kept_ite_st | apply kept_ite_snd | apply kept_svyKillAll | apply kept_svyStopping)

theorem kept_svyExec (op : Nat) (f : Nat → Nat → State → State) (c : Nat) {s : State} (hf : ∀ y0 y1 t, Kept cmds t → Kept cmds (f y0 y1 t)) (hk : Kept cmds s) :
    Kept cmds (svyExec op f c s) := by
  unfold svyExec
  try dsimp only
  all_goals (with_reducible repeat' first | assumption | rfl | apply kept_ite | apply kept_ite_st | apply kept_ite_snd | apply hf)

theorem kept_svyRetry (c : Nat) (w : Nat) {s : State} (hk : Kept cmds s) :
    Kept cmds (svyRetry c w s) := by
  unfold svyRetry
  try dsimp only
  all_goals (with_reducible repeat' first | assumption | rfl | apply kept_piBeam | apply kept_piCommit | apply kept_piCorr | apply kept_piDump | apply kept_piFence | apply kept_piMark | apply kept_piMerge | apply kept_piWaitidx | apply kept_piWaitmark | split)

theorem kept_svyWaitEnd (c : Nat) {s : State} (hk : Kept cmds s) :
    Kept cmds (svyWaitEnd c s) := by
  unfold svyWaitEnd
  try dsimp only
  all_goals (with_reducible repeat' first | assumption | rfl | apply kept_ite | apply kept_ite_st | apply kept_ite_snd | apply kept_svyDone | apply kept_svyRetry | split)

theorem kept_accStep {s : State} (hk : Kept cmds s) :
    Kept cmds (accStep s) := by
  unfold accStep
  try dsimp only
  all_goals (with_reducible repeat' first | assumption | rfl | apply kept_ite | apply kept_ite_st | apply kept_ite_snd | apply kept_State_setAplan | apply kept_beamCommit | apply kept_beamLegend | apply kept_endHandle | apply kept_inc | apply kept_noteApplied | apply kept_opRetire | apply kept_raise | apply kept_setHeld | (intro _ _ _) | (intro _ _) | split | refine kept_snd ?_ (by assumption) | refine kept_snd2 ?_ (by assumption) | refine kept_st ?_ (by assumption) | refine kept_get ?_ (by assumption) | refine kept_get2 ?_ (by assumption) | apply kept_with_atl)

theorem kept_loadImage (c : Nat) (h : List Byte) (code : List Byte) (data : List Byte) {s : State} (hk : Kept cmds s) :
    Kept cmds (loadImage c h code data s) := by
  unfold loadImage
  try dsimp only
  all_goals (with_reducible repeat' first | assumption | rfl | apply kept_State_setScore | apply kept_foldS | apply kept_setReg | apply kept_setRegion | (intro _ _ _) | (intro _ _) | split | refine kept_snd ?_ (by assumption) | refine kept_snd2 ?_ (by assumption) | refine kept_st ?_ (by assumption) | refine kept_get ?_ (by assumption) | refine kept_get2 ?_ (by assumption) | apply kept_with_svy)

theorem kept_loadRefused (c : Nat) (cause : Nat) {s : State} (hk : Kept cmds s) :
    Kept cmds (loadRefused c cause s) := by
  unfold loadRefused
  try dsimp only
  all_goals (with_reducible repeat' first | assumption | rfl | apply kept_raise)

theorem kept_loadDone (c : Nat) {s : State} (hk : Kept cmds s) :
    Kept cmds (loadDone c s) := by
  unfold loadDone
  try dsimp only
  all_goals (with_reducible repeat' first | assumption | rfl | apply kept_ite | apply kept_ite_st | apply kept_ite_snd | apply kept_State_setScore | apply kept_hbmGet | apply kept_loadImage | apply kept_loadRefused | apply kept_raise | apply kept_setReg | split)

theorem kept_loadStart (c : Nat) {s : State} (hk : Kept cmds s) :
    Kept cmds (loadStart c s).st := by
  unfold loadStart
  try dsimp only
  all_goals (with_reducible repeat' first | assumption | rfl | apply kept_ite | apply kept_ite_st | apply kept_ite_snd | apply kept_State_setScore | apply kept_acc | apply kept_loadRefused | apply kept_setReg | apply kept_wf)

theorem kept_svyStart (c : Nat) {s : State} (hk : Kept cmds s) :
    Kept cmds (svyStart c s).st := by
  unfold svyStart
  try dsimp only
  all_goals (with_reducible repeat' first | assumption | rfl | apply kept_ite | apply kept_ite_st | apply kept_ite_snd | apply kept_State_setScore | apply kept_acc | apply kept_loadRefused | apply kept_raise | apply kept_svyReach)

theorem kept_svyAsk (c : Nat) (r : SvyReq) {s : State} (hk : Kept cmds s) :
    Kept cmds (svyAsk c r s) := by
  unfold svyAsk
  try dsimp only
  all_goals (with_reducible repeat' first | assumption | rfl | apply kept_ite | apply kept_ite_st | apply kept_ite_snd | apply kept_State_setScore)

theorem kept_svyResume (c : Nat) {s : State} (hk : Kept cmds s) :
    Kept cmds (svyResume c s) := by
  unfold svyResume
  try dsimp only
  all_goals (with_reducible repeat' first | assumption | rfl | apply kept_ite | apply kept_ite_st | apply kept_ite_snd | apply kept_State_setScore)

theorem kept_svyUnload (c : Nat) {s : State} (hk : Kept cmds s) :
    Kept cmds (svyUnload c s).st := by
  unfold svyUnload
  try dsimp only
  all_goals (with_reducible repeat' first | assumption | rfl | apply kept_ite | apply kept_ite_st | apply kept_ite_snd | apply kept_State_setScore | apply kept_acc | apply kept_dropTiles | apply kept_loadRefused | (intro _ _ _) | (intro _ _) | split | refine kept_snd ?_ (by assumption) | refine kept_snd2 ?_ (by assumption) | refine kept_st ?_ (by assumption) | refine kept_get ?_ (by assumption) | refine kept_get2 ?_ (by assumption) | apply kept_with_svy)

theorem kept_svyCtrlWrite (c : Nat) (v : Nat) {s : State} (hk : Kept cmds s) :
    Kept cmds (svyCtrlWrite c v s).st := by
  unfold svyCtrlWrite
  try dsimp only
  all_goals (with_reducible repeat' first | assumption | rfl | apply kept_ite | apply kept_ite_st | apply kept_ite_snd | apply kept_acc | apply kept_loadStart | apply kept_step | apply kept_svyAsk | apply kept_svyResume | apply kept_svyStart | apply kept_svyUnload)

theorem kept_svyStopDone (c : Nat) {s : State} (hk : Kept cmds s) :
    Kept cmds (svyStopDone c s) := by
  unfold svyStopDone
  try dsimp only
  all_goals (with_reducible repeat' first | assumption | rfl | apply kept_ite | apply kept_ite_st | apply kept_ite_snd | apply kept_State_setScore | apply kept_raise)

theorem kept_svyStopAll {s : State} (hk : Kept cmds s) :
    Kept cmds (svyStopAll s) := by
  unfold svyStopAll
  try dsimp only
  all_goals (with_reducible repeat' first | assumption | rfl | apply kept_ite | apply kept_ite_st | apply kept_ite_snd | apply kept_foldS | apply kept_svyAsk | (intro _ _ _))

theorem kept_svyBasicWrite (v : Nat) {s : State} (hk : Kept cmds s) :
    Kept cmds (svyBasicWrite v s).st := by
  unfold svyBasicWrite
  try dsimp only
  all_goals (with_reducible repeat' first | assumption | rfl | apply kept_ite | apply kept_ite_st | apply kept_ite_snd | apply kept_acc | apply kept_loadImage | apply kept_loadRefused | apply kept_storeBits | apply kept_svyAsk | apply kept_svyStart | apply kept_wf)

theorem kept_svyCntClear (v : Nat) {s : State} (hk : Kept cmds s) :
    Kept cmds (svyCntClear v s) := by
  unfold svyCntClear
  try dsimp only
  all_goals (with_reducible repeat' first | assumption | rfl | apply kept_ite | apply kept_ite_st | apply kept_ite_snd | apply kept_zero)

theorem kept_svyHostAbort (c : Nat) (v : Nat) {s : State} (hk : Kept cmds s) :
    Kept cmds (svyHostAbort c v s) := by
  unfold svyHostAbort
  try dsimp only
  all_goals (with_reducible repeat' first | assumption | rfl | apply kept_ite | apply kept_ite_st | apply kept_ite_snd | apply kept_setReg | apply kept_svyAbort | apply kept_svyAsk | split)

theorem kept_svyRegWrite (c : Nat) (v : Nat) {s : State} (hk : Kept cmds s) :
    Kept cmds (svyRegWrite c v s) := by
  unfold svyRegWrite
  try dsimp only
  all_goals (with_reducible repeat' first | assumption | rfl | apply kept_svyAsk)

theorem kept_svyWrite (off : Nat) (v : Nat) {s : State} (hk : Kept cmds s) :
    ∀ r, svyWrite off v s = some r → Kept cmds r.st := by
  intro t ht
  unfold svyWrite at ht
  try dsimp only at ht
  all_goals (repeat' first | (cases ht) | split at ht)
  all_goals (with_reducible repeat' first | assumption | rfl | apply kept_ite | apply kept_ite_st | apply kept_ite_snd | apply kept_acc | apply kept_setReg | apply kept_svyBasicWrite | apply kept_svyCntClear | apply kept_svyCtrlWrite | apply kept_svyHostAbort | apply kept_svyRegWrite)

theorem kept_execPlanLoadDone (core : Fin 8) {s : State} (hk : Kept cmds s) :
    ∀ t, execPlanLoadDone core s = .next t → Kept cmds t := by
  intro t ht
  unfold execPlanLoadDone at ht
  try dsimp only at ht
  all_goals (repeat' first | (cases ht) | split at ht)
  all_goals (with_reducible repeat' first | assumption | rfl | apply kept_loadDone)

theorem kept_execStepPoint (core : Fin 8) {s : State} (hk : Kept cmds s) :
    ∀ t, execStepPoint core s = .next t → Kept cmds t := by
  intro t ht
  unfold execStepPoint at ht
  try dsimp only at ht
  all_goals (repeat' first | (cases ht) | split at ht)
  all_goals (with_reducible repeat' first | assumption | rfl | apply kept_ite | apply kept_ite_st | apply kept_ite_snd | apply kept_svyStepPoint)

theorem kept_execPlanWaitEnd (core : Fin 8) {s : State} (hk : Kept cmds s) :
    ∀ t, execPlanWaitEnd core s = .next t → Kept cmds t := by
  intro t ht
  unfold execPlanWaitEnd at ht
  try dsimp only at ht
  all_goals (repeat' first | (cases ht) | split at ht)
  all_goals (with_reducible repeat' first | assumption | rfl | apply kept_svyWaitEnd)

theorem kept_execStepWaymark {s : State} (hk : Kept cmds s) :
    ∀ t, execStepWaymark s = .next t → Kept cmds t := by
  intro t ht
  unfold execStepWaymark at ht
  try dsimp only at ht
  all_goals (repeat' first | (cases ht) | split at ht)
  all_goals (with_reducible repeat' first | assumption | rfl | apply kept_accStep)

theorem kept_execPlanNop (core : Fin 8) {s : State} (hk : Kept cmds s) :
    ∀ t, execPlanNop core s = .next t → Kept cmds t := by
  intro t ht
  unfold execPlanNop at ht
  try dsimp only at ht
  all_goals (repeat' first | (cases ht) | split at ht)
  all_goals (with_reducible repeat' first | assumption | rfl | apply kept_svyExec | apply kept_svyNext | (intro _ _ _))

theorem kept_execPlanSet (core : Fin 8) {s : State} (hk : Kept cmds s) :
    ∀ t, execPlanSet core s = .next t → Kept cmds t := by
  intro t ht
  unfold execPlanSet at ht
  try dsimp only at ht
  all_goals (repeat' first | (cases ht) | split at ht)
  all_goals (with_reducible repeat' first | assumption | rfl | apply kept_svyAlu | apply kept_svyExec)

theorem kept_execPlanSethi (core : Fin 8) {s : State} (hk : Kept cmds s) :
    ∀ t, execPlanSethi core s = .next t → Kept cmds t := by
  intro t ht
  unfold execPlanSethi at ht
  try dsimp only at ht
  all_goals (repeat' first | (cases ht) | split at ht)
  all_goals (with_reducible repeat' first | assumption | rfl | apply kept_svyAlu | apply kept_svyExec)

theorem kept_execPlanAdd (core : Fin 8) {s : State} (hk : Kept cmds s) :
    ∀ t, execPlanAdd core s = .next t → Kept cmds t := by
  intro t ht
  unfold execPlanAdd at ht
  try dsimp only at ht
  all_goals (repeat' first | (cases ht) | split at ht)
  all_goals (with_reducible repeat' first | assumption | rfl | apply kept_svyAlu | apply kept_svyExec)

theorem kept_execPlanSub (core : Fin 8) {s : State} (hk : Kept cmds s) :
    ∀ t, execPlanSub core s = .next t → Kept cmds t := by
  intro t ht
  unfold execPlanSub at ht
  try dsimp only at ht
  all_goals (repeat' first | (cases ht) | split at ht)
  all_goals (with_reducible repeat' first | assumption | rfl | apply kept_svyAlu | apply kept_svyExec)

theorem kept_execPlanMul (core : Fin 8) {s : State} (hk : Kept cmds s) :
    ∀ t, execPlanMul core s = .next t → Kept cmds t := by
  intro t ht
  unfold execPlanMul at ht
  try dsimp only at ht
  all_goals (repeat' first | (cases ht) | split at ht)
  all_goals (with_reducible repeat' first | assumption | rfl | apply kept_svyAlu | apply kept_svyExec)

theorem kept_execPlanAnd (core : Fin 8) {s : State} (hk : Kept cmds s) :
    ∀ t, execPlanAnd core s = .next t → Kept cmds t := by
  intro t ht
  unfold execPlanAnd at ht
  try dsimp only at ht
  all_goals (repeat' first | (cases ht) | split at ht)
  all_goals (with_reducible repeat' first | assumption | rfl | apply kept_svyAlu | apply kept_svyExec)

theorem kept_execPlanOr (core : Fin 8) {s : State} (hk : Kept cmds s) :
    ∀ t, execPlanOr core s = .next t → Kept cmds t := by
  intro t ht
  unfold execPlanOr at ht
  try dsimp only at ht
  all_goals (repeat' first | (cases ht) | split at ht)
  all_goals (with_reducible repeat' first | assumption | rfl | apply kept_svyAlu | apply kept_svyExec)

theorem kept_execPlanShl (core : Fin 8) {s : State} (hk : Kept cmds s) :
    ∀ t, execPlanShl core s = .next t → Kept cmds t := by
  intro t ht
  unfold execPlanShl at ht
  try dsimp only at ht
  all_goals (repeat' first | (cases ht) | split at ht)
  all_goals (with_reducible repeat' first | assumption | rfl | apply kept_svyAlu | apply kept_svyExec)

theorem kept_execPlanShr (core : Fin 8) {s : State} (hk : Kept cmds s) :
    ∀ t, execPlanShr core s = .next t → Kept cmds t := by
  intro t ht
  unfold execPlanShr at ht
  try dsimp only at ht
  all_goals (repeat' first | (cases ht) | split at ht)
  all_goals (with_reducible repeat' first | assumption | rfl | apply kept_svyAlu | apply kept_svyExec)

theorem kept_execPlanBranch (core : Fin 8) {s : State} (hk : Kept cmds s) :
    ∀ t, execPlanBranch core s = .next t → Kept cmds t := by
  intro t ht
  unfold execPlanBranch at ht
  try dsimp only at ht
  all_goals (repeat' first | (cases ht) | split at ht)
  all_goals (with_reducible repeat' first | assumption | rfl | apply kept_piBranch | apply kept_svyExec)

theorem kept_execPlanLoop (core : Fin 8) {s : State} (hk : Kept cmds s) :
    ∀ t, execPlanLoop core s = .next t → Kept cmds t := by
  intro t ht
  unfold execPlanLoop at ht
  try dsimp only at ht
  all_goals (repeat' first | (cases ht) | split at ht)
  all_goals (with_reducible repeat' first | assumption | rfl | apply kept_piLoop | apply kept_svyExec)

theorem kept_execPlanCall (core : Fin 8) {s : State} (hk : Kept cmds s) :
    ∀ t, execPlanCall core s = .next t → Kept cmds t := by
  intro t ht
  unfold execPlanCall at ht
  try dsimp only at ht
  all_goals (repeat' first | (cases ht) | split at ht)
  all_goals (with_reducible repeat' first | assumption | rfl | apply kept_piCall | apply kept_svyExec)

theorem kept_execPlanRet (core : Fin 8) {s : State} (hk : Kept cmds s) :
    ∀ t, execPlanRet core s = .next t → Kept cmds t := by
  intro t ht
  unfold execPlanRet at ht
  try dsimp only at ht
  all_goals (repeat' first | (cases ht) | split at ht)
  all_goals (with_reducible repeat' first | assumption | rfl | apply kept_piRet | apply kept_svyExec | (intro _ _ _))

theorem kept_execPlanStream (core : Fin 8) {s : State} (hk : Kept cmds s) :
    ∀ t, execPlanStream core s = .next t → Kept cmds t := by
  intro t ht
  unfold execPlanStream at ht
  try dsimp only at ht
  all_goals (repeat' first | (cases ht) | split at ht)
  all_goals (with_reducible repeat' first | assumption | rfl | apply kept_piStream | apply kept_svyExec)

theorem kept_execPlanSpectra (core : Fin 8) {s : State} (hk : Kept cmds s) :
    ∀ t, execPlanSpectra core s = .next t → Kept cmds t := by
  intro t ht
  unfold execPlanSpectra at ht
  try dsimp only at ht
  all_goals (repeat' first | (cases ht) | split at ht)
  all_goals (with_reducible repeat' first | assumption | rfl | apply kept_piSpectra | apply kept_svyExec)

theorem kept_execPlanTileset (core : Fin 8) {s : State} (hk : Kept cmds s) :
    ∀ t, execPlanTileset core s = .next t → Kept cmds t := by
  intro t ht
  unfold execPlanTileset at ht
  try dsimp only at ht
  all_goals (repeat' first | (cases ht) | split at ht)
  all_goals (with_reducible repeat' first | assumption | rfl | apply kept_piTileset | apply kept_svyExec)

theorem kept_execPlanBudget (core : Fin 8) {s : State} (hk : Kept cmds s) :
    ∀ t, execPlanBudget core s = .next t → Kept cmds t := by
  intro t ht
  unfold execPlanBudget at ht
  try dsimp only at ht
  all_goals (repeat' first | (cases ht) | split at ht)
  all_goals (with_reducible repeat' first | assumption | rfl | apply kept_piBudget | apply kept_svyExec)

theorem kept_execPlanCorr (core : Fin 8) {s : State} (hk : Kept cmds s) :
    ∀ t, execPlanCorr core s = .next t → Kept cmds t := by
  intro t ht
  unfold execPlanCorr at ht
  try dsimp only at ht
  all_goals (repeat' first | (cases ht) | split at ht)
  all_goals (with_reducible repeat' first | assumption | rfl | apply kept_piCorr | apply kept_svyExec)

theorem kept_execPlanBeam (core : Fin 8) {s : State} (hk : Kept cmds s) :
    ∀ t, execPlanBeam core s = .next t → Kept cmds t := by
  intro t ht
  unfold execPlanBeam at ht
  try dsimp only at ht
  all_goals (repeat' first | (cases ht) | split at ht)
  all_goals (with_reducible repeat' first | assumption | rfl | apply kept_piBeam | apply kept_svyExec)

theorem kept_execPlanMerge (core : Fin 8) {s : State} (hk : Kept cmds s) :
    ∀ t, execPlanMerge core s = .next t → Kept cmds t := by
  intro t ht
  unfold execPlanMerge at ht
  try dsimp only at ht
  all_goals (repeat' first | (cases ht) | split at ht)
  all_goals (with_reducible repeat' first | assumption | rfl | apply kept_piMerge | apply kept_svyExec)

theorem kept_execPlanDump (core : Fin 8) {s : State} (hk : Kept cmds s) :
    ∀ t, execPlanDump core s = .next t → Kept cmds t := by
  intro t ht
  unfold execPlanDump at ht
  try dsimp only at ht
  all_goals (repeat' first | (cases ht) | split at ht)
  all_goals (with_reducible repeat' first | assumption | rfl | apply kept_piDump | apply kept_svyExec)

theorem kept_execPlanMark (core : Fin 8) {s : State} (hk : Kept cmds s) :
    ∀ t, execPlanMark core s = .next t → Kept cmds t := by
  intro t ht
  unfold execPlanMark at ht
  try dsimp only at ht
  all_goals (repeat' first | (cases ht) | split at ht)
  all_goals (with_reducible repeat' first | assumption | rfl | apply kept_piMark | apply kept_svyExec)

theorem kept_execPlanWaitmark (core : Fin 8) {s : State} (hk : Kept cmds s) :
    ∀ t, execPlanWaitmark core s = .next t → Kept cmds t := by
  intro t ht
  unfold execPlanWaitmark at ht
  try dsimp only at ht
  all_goals (repeat' first | (cases ht) | split at ht)
  all_goals (with_reducible repeat' first | assumption | rfl | apply kept_piWaitmark | apply kept_svyExec)

theorem kept_execPlanWaitidx (core : Fin 8) {s : State} (hk : Kept cmds s) :
    ∀ t, execPlanWaitidx core s = .next t → Kept cmds t := by
  intro t ht
  unfold execPlanWaitidx at ht
  try dsimp only at ht
  all_goals (repeat' first | (cases ht) | split at ht)
  all_goals (with_reducible repeat' first | assumption | rfl | apply kept_piWaitidx | apply kept_svyExec)

theorem kept_execPlanStep (core : Fin 8) {s : State} (hk : Kept cmds s) :
    ∀ t, execPlanStep core s = .next t → Kept cmds t := by
  intro t ht
  unfold execPlanStep at ht
  try dsimp only at ht
  all_goals (repeat' first | (cases ht) | split at ht)
  all_goals (with_reducible repeat' first | assumption | rfl | apply kept_piStep | apply kept_svyExec)

theorem kept_execPlanFence (core : Fin 8) {s : State} (hk : Kept cmds s) :
    ∀ t, execPlanFence core s = .next t → Kept cmds t := by
  intro t ht
  unfold execPlanFence at ht
  try dsimp only at ht
  all_goals (repeat' first | (cases ht) | split at ht)
  all_goals (with_reducible repeat' first | assumption | rfl | apply kept_piFence | apply kept_svyExec)

theorem kept_execPlanCommit (core : Fin 8) {s : State} (hk : Kept cmds s) :
    ∀ t, execPlanCommit core s = .next t → Kept cmds t := by
  intro t ht
  unfold execPlanCommit at ht
  try dsimp only at ht
  all_goals (repeat' first | (cases ht) | split at ht)
  all_goals (with_reducible repeat' first | assumption | rfl | apply kept_piCommit | apply kept_svyExec)

theorem kept_execPlanAbort (core : Fin 8) {s : State} (hk : Kept cmds s) :
    ∀ t, execPlanAbort core s = .next t → Kept cmds t := by
  intro t ht
  unfold execPlanAbort at ht
  try dsimp only at ht
  all_goals (repeat' first | (cases ht) | split at ht)
  all_goals (with_reducible repeat' first | assumption | rfl | apply kept_piAbort | apply kept_svyExec)

theorem kept_execPlanHalt (core : Fin 8) {s : State} (hk : Kept cmds s) :
    ∀ t, execPlanHalt core s = .next t → Kept cmds t := by
  intro t ht
  unfold execPlanHalt at ht
  try dsimp only at ht
  all_goals (repeat' first | (cases ht) | split at ht)
  all_goals (with_reducible repeat' first | assumption | rfl | apply kept_piHalt | apply kept_svyExec)

end Sys2Proof.Machine
end

