-- ==== Sys2Proof/Laws/KeptFlow.lean ====
section
/-! SUPPORT. What the operations of Machine/Flow keep (Laws/Kept). -/

namespace Sys2Proof.Machine

variable {cmds : List Instr}

theorem kept_xarArrive (pos : Nat) (w : Waymark) {s : State} (hk : Kept cmds s) :
    Kept cmds (xarArrive pos w s) := by
  unfold xarArrive
  try dsimp only
  all_goals (with_reducible repeat' first | assumption | rfl | apply kept_ite | apply kept_ite_st | apply kept_ite_snd | apply kept_logOpen | apply kept_passMark | apply kept_setHeld)

theorem kept_xarDue (pos : Nat) {s : State} (hk : Kept cmds s) :
    Kept cmds (xarDue pos s) := by
  unfold xarDue
  try dsimp only
  all_goals (with_reducible repeat' first | assumption | rfl | apply kept_ite | apply kept_ite_st | apply kept_ite_snd | apply kept_applyDue | apply kept_xarApply)

theorem kept_addPasses (b : SubBuf) {s : State} (hk : Kept cmds s) :
    Kept cmds (addPasses b s) := by
  unfold addPasses
  try dsimp only
  all_goals (with_reducible repeat' first | assumption | rfl | apply kept_ite | apply kept_ite_st | apply kept_ite_snd | apply kept_foldS | apply kept_raise | (intro _ _ _) | (intro _ _) | split | refine kept_snd ?_ (by assumption) | refine kept_snd2 ?_ (by assumption) | refine kept_st ?_ (by assumption) | refine kept_get ?_ (by assumption) | refine kept_get2 ?_ (by assumption) | apply kept_with_atl)

theorem kept_completionMarks (b : SubBuf) {s : State} (hk : Kept cmds s) :
    Kept cmds (completionMarks b s) := by
  unfold completionMarks
  try dsimp only
  all_goals (with_reducible repeat' first | assumption | rfl | apply kept_foldS | apply kept_passMark | (intro _ _ _))

theorem kept_reduceAll (b : SubBuf) {s : State} (hk : Kept cmds s) :
    Kept cmds (reduceAll b s) := by
  unfold reduceAll
  try dsimp only
  all_goals (with_reducible repeat' first | assumption | rfl | apply kept_accReduce | apply kept_foldS | (intro _ _ _))

theorem kept_notesOf (n : Nat) {s : State} (hk : Kept cmds s) :
    Kept cmds (notesOf n s) := by
  unfold notesOf
  try dsimp only
  all_goals (with_reducible repeat' first | assumption | rfl | apply kept_foldS | apply kept_noteBlock | (intro _ _ _))

theorem kept_legendsDue (n : Nat) {s : State} (hk : Kept cmds s) :
    Kept cmds (legendsDue n s) := by
  unfold legendsDue
  try dsimp only
  all_goals (with_reducible repeat' first | assumption | rfl | apply kept_beamLegend | apply kept_foldS | (intro _ _ _))

theorem kept_subBlockStage {s : State} (hk : Kept cmds s) :
    Kept cmds (subBlockStage s) := by
  unfold subBlockStage
  try dsimp only
  all_goals (with_reducible repeat' first | assumption | rfl | apply kept_ite | apply kept_ite_st | apply kept_ite_snd | apply kept_addPasses | apply kept_completionMarks | apply kept_foldS | apply kept_freeBufs | apply kept_legendsDue | apply kept_notesOf | apply kept_reduceAll | apply kept_stageData | apply kept_stgAdvance | apply kept_xarArrive | (intro _ _ _) | (intro _ _) | split | refine kept_snd ?_ (by assumption) | refine kept_snd2 ?_ (by assumption) | refine kept_st ?_ (by assumption) | refine kept_get ?_ (by assumption) | refine kept_get2 ?_ (by assumption) | apply kept_with_stg)

theorem kept_fillEnd (a : Nat) (parity : Option (Nat × Nat)) {s : State} (hk : Kept cmds s) :
    Kept cmds (fillEnd a parity s) := by
  unfold fillEnd
  try dsimp only
  all_goals (with_reducible repeat' first | assumption | rfl | apply kept_ite | apply kept_ite_st | apply kept_ite_snd | apply kept_passFillEnd | apply kept_xarDue | split)

theorem kept_closing (f : State → State) {s : State} (hf : ∀  t, Kept cmds t → Kept cmds (f  t)) (hk : Kept cmds s) :
    Kept cmds (closing f s) := by
  unfold closing
  try dsimp only
  all_goals (with_reducible repeat' first | assumption | rfl | apply kept_ite | apply kept_ite_st | apply kept_ite_snd | apply kept_statsBlock | apply hf)

theorem kept_execSubBlockStage {s : State} (hk : Kept cmds s) :
    ∀ t, execSubBlockStage s = .next t → Kept cmds t := by
  intro t ht
  unfold execSubBlockStage at ht
  try dsimp only at ht
  all_goals (repeat' first | (cases ht) | split at ht)
  all_goals (with_reducible repeat' first | assumption | rfl | apply kept_subBlockStage)

theorem kept_execBlockClose {s : State} (hk : Kept cmds s) :
    ∀ t, execBlockClose s = .next t → Kept cmds t := by
  intro t ht
  unfold execBlockClose at ht
  try dsimp only at ht
  all_goals (repeat' first | (cases ht) | split at ht)
  all_goals (with_reducible repeat' first | assumption | rfl | apply kept_blockClose | apply kept_closing)

theorem kept_execCloseTimeout {s : State} (hk : Kept cmds s) :
    ∀ t, execCloseTimeout s = .next t → Kept cmds t := by
  intro t ht
  unfold execCloseTimeout at ht
  try dsimp only at ht
  all_goals (repeat' first | (cases ht) | split at ht)
  all_goals (with_reducible repeat' first | assumption | rfl | apply kept_closeTimeout | apply kept_closing)

theorem kept_execPassDispatch (desc : Fin 3) (corr : Nat) (ue : List (Fin 1024)) {s : State} (hk : Kept cmds s) :
    ∀ t, execPassDispatch desc corr ue s = .next t → Kept cmds t := by
  intro t ht
  unfold execPassDispatch at ht
  try dsimp only at ht
  all_goals (repeat' first | (cases ht) | split at ht)
  all_goals (with_reducible repeat' first | assumption | rfl | apply kept_passDispatch)

theorem kept_execPassFillEnd (array : Fin 80) (parity : Option (Fin 4096 × Fin 4096)) {s : State} (hk : Kept cmds s) :
    ∀ t, execPassFillEnd array parity s = .next t → Kept cmds t := by
  intro t ht
  unfold execPassFillEnd at ht
  try dsimp only at ht
  all_goals (repeat' first | (cases ht) | split at ht)
  all_goals (with_reducible repeat' first | assumption | rfl | apply kept_fillEnd)

end Sys2Proof.Machine
end

