-- ==== Sys2Proof/Laws/KeptMem.lean ====
section
/-! SUPPORT. What the operations of Machine/Mem keep (Laws/Kept). -/

namespace Sys2Proof.Machine

variable {cmds : List Instr}

theorem kept_setStack (k : Nat) (n : Nat) {s : State} (hk : Kept cmds s) :
    Kept cmds (setStack k n s) := by
  unfold setStack
  try dsimp only
  all_goals (with_reducible repeat' first | assumption | rfl | apply kept_wf)

theorem kept_setHostEntry (k : Nat) (b : Bool) {s : State} (hk : Kept cmds s) :
    Kept cmds (setHostEntry k b s) := by
  unfold setHostEntry
  try dsimp only
  all_goals (with_reducible repeat' first | assumption | rfl | split | refine kept_snd ?_ (by assumption) | refine kept_snd2 ?_ (by assumption) | refine kept_st ?_ (by assumption) | refine kept_get ?_ (by assumption) | refine kept_get2 ?_ (by assumption) | apply kept_with_mem)

theorem kept_setBankQueue (pc : Nat) (b : Nat) (l : List HbmQ) {s : State} (hk : Kept cmds s) :
    Kept cmds (setBankQueue pc b l s) := by
  unfold setBankQueue
  try dsimp only
  all_goals (with_reducible repeat' first | assumption | rfl | split | refine kept_snd ?_ (by assumption) | refine kept_snd2 ?_ (by assumption) | refine kept_st ?_ (by assumption) | refine kept_get ?_ (by assumption) | refine kept_get2 ?_ (by assumption) | apply kept_with_mem)

theorem kept_giveAnswers (p : Nat) (x0 : Nat) {x1 : State} (hk : Kept cmds x1) :
    Kept cmds (giveAnswers p x0 x1) := by
  fun_induction giveAnswers
  all_goals (try dsimp only)
  all_goals (with_reducible repeat' first | assumption | rfl | apply_assumption | (intro _ _ _) | (intro _ _) | split | refine kept_snd ?_ (by assumption) | refine kept_snd2 ?_ (by assumption) | refine kept_st ?_ (by assumption) | refine kept_get ?_ (by assumption) | refine kept_get2 ?_ (by assumption) | apply kept_with_mem)

theorem kept_wakeStack (port : Nat) (k : Nat) {s : State} (hk : Kept cmds s) :
    Kept cmds (wakeStack port k s) := by
  unfold wakeStack
  try dsimp only
  all_goals (with_reducible repeat' first | assumption | rfl | apply kept_inc | apply kept_raise | apply kept_setStack | split)

theorem kept_present (r : HbmReq) {s : State} (hk : Kept cmds s) :
    Kept cmds (present r s) := by
  unfold present
  try dsimp only
  all_goals (with_reducible repeat' first | assumption | rfl | apply kept_ite | apply kept_ite_st | apply kept_ite_snd | apply kept_inc | apply kept_wakeStack | split | refine kept_snd ?_ (by assumption) | refine kept_snd2 ?_ (by assumption) | refine kept_st ?_ (by assumption) | refine kept_get ?_ (by assumption) | refine kept_get2 ?_ (by assumption) | apply kept_with_mem)

theorem kept_acceptReq (r : HbmReq) {s : State} (hk : Kept cmds s) :
    Kept cmds (acceptReq r s) := by
  unfold acceptReq
  try dsimp only
  all_goals (with_reducible repeat' first | assumption | rfl | apply kept_ite | apply kept_ite_st | apply kept_ite_snd | refine kept_readUnit _ _ _ ?_ | apply kept_setBankQueue | apply kept_writeUnit | split | refine kept_snd ?_ (by assumption) | refine kept_snd2 ?_ (by assumption) | refine kept_st ?_ (by assumption) | refine kept_get ?_ (by assumption) | refine kept_get2 ?_ (by assumption) | apply kept_with_mem)

theorem kept_hbmRequest (pc : Nat) (presented : List HbmReq) {s : State} (hk : Kept cmds s) :
    Kept cmds (hbmRequest pc presented s) := by
  unfold hbmRequest
  try dsimp only
  all_goals (with_reducible repeat' first | assumption | rfl | apply kept_acceptReq | apply kept_foldS | apply kept_present | (intro _ _ _) | (intro _ _) | split)

theorem kept_issueHead (pc : Nat) (b : Nat) {s : State} (hk : Kept cmds s) :
    Kept cmds (issueHead pc b s) := by
  unfold issueHead
  try dsimp only
  all_goals (with_reducible repeat' first | assumption | rfl | apply kept_ite | apply kept_ite_st | apply kept_ite_snd | apply kept_giveAnswers | apply kept_setBankQueue | split | refine kept_snd ?_ (by assumption) | refine kept_snd2 ?_ (by assumption) | refine kept_st ?_ (by assumption) | refine kept_get ?_ (by assumption) | refine kept_get2 ?_ (by assumption) | apply kept_with_mem)

theorem kept_commandSlot (pc : Nat) (open_ : List Nat) {s : State} (hk : Kept cmds s) :
    Kept cmds (commandSlot pc open_ s) := by
  unfold commandSlot
  try dsimp only
  all_goals (with_reducible repeat' first | assumption | rfl | apply kept_ite | apply kept_ite_st | apply kept_ite_snd | apply kept_issueHead | (intro _ _ _) | (intro _ _) | split | refine kept_snd ?_ (by assumption) | refine kept_snd2 ?_ (by assumption) | refine kept_st ?_ (by assumption) | refine kept_get ?_ (by assumption) | refine kept_get2 ?_ (by assumption) | apply kept_with_mem)

theorem kept_refreshDue (pc : Nat) {s : State} (hk : Kept cmds s) :
    Kept cmds (refreshDue pc s) := by
  unfold refreshDue
  try dsimp only
  all_goals (with_reducible repeat' first | assumption | rfl | apply kept_ite | apply kept_ite_st | apply kept_ite_snd | split | refine kept_snd ?_ (by assumption) | refine kept_snd2 ?_ (by assumption) | refine kept_st ?_ (by assumption) | refine kept_get ?_ (by assumption) | refine kept_get2 ?_ (by assumption) | apply kept_with_mem)

theorem kept_stackTemp (k : Nat) (t : Nat) {s : State} (hk : Kept cmds s) :
    Kept cmds (stackTemp k t s) := by
  unfold stackTemp
  try dsimp only
  all_goals (with_reducible repeat' first | assumption | rfl | apply kept_ite | apply kept_ite_st | apply kept_ite_snd | apply kept_raise | apply kept_wf)

theorem kept_srEnter (k : Nat) {s : State} (hk : Kept cmds s) :
    Kept cmds (srEnter k s) := by
  unfold srEnter
  try dsimp only
  all_goals (with_reducible repeat' first | assumption | rfl | apply kept_ite | apply kept_ite_st | apply kept_ite_snd | apply kept_setHostEntry | apply kept_setStack)

theorem kept_srExit (k : Nat) {s : State} (hk : Kept cmds s) :
    Kept cmds (srExit k s) := by
  unfold srExit
  try dsimp only
  all_goals (with_reducible repeat' first | assumption | rfl | apply kept_ite | apply kept_ite_st | apply kept_ite_snd | apply kept_setHostEntry | apply kept_setStack | split)

theorem kept_srIdle (k : Nat) {s : State} (hk : Kept cmds s) :
    Kept cmds (srIdle k s) := by
  unfold srIdle
  try dsimp only
  all_goals (with_reducible repeat' first | assumption | rfl | apply kept_ite | apply kept_ite_st | apply kept_ite_snd | apply kept_setStack)

theorem kept_srEntered (k : Nat) {s : State} (hk : Kept cmds s) :
    Kept cmds (srEntered k s) := by
  unfold srEntered
  try dsimp only
  all_goals (with_reducible repeat' first | assumption | rfl | apply kept_ite | apply kept_ite_st | apply kept_ite_snd | apply kept_setHostEntry | apply kept_setStack)

theorem kept_srExited (k : Nat) (wait : Nat) {s : State} (hk : Kept cmds s) :
    Kept cmds (srExited k wait s) := by
  unfold srExited
  try dsimp only
  all_goals (with_reducible repeat' first | assumption | rfl | apply kept_ite | apply kept_ite_st | apply kept_ite_snd | apply kept_setReg | apply kept_setStack)

theorem kept_noteTemp (n : Nat) {s : State} (hk : Kept cmds s) :
    Kept cmds (noteTemp n s) := by
  unfold noteTemp
  try dsimp only
  all_goals (with_reducible repeat' first | assumption | rfl | split | refine kept_snd ?_ (by assumption) | refine kept_snd2 ?_ (by assumption) | refine kept_st ?_ (by assumption) | refine kept_get ?_ (by assumption) | refine kept_get2 ?_ (by assumption) | apply kept_with_mem)

theorem kept_setBench (n : Nat) (m : Nat) {s : State} (hk : Kept cmds s) :
    Kept cmds (setBench n m s) := by
  unfold setBench
  try dsimp only
  all_goals (with_reducible repeat' first | assumption | rfl | apply kept_setReg | apply kept_wf | split | refine kept_snd ?_ (by assumption) | refine kept_snd2 ?_ (by assumption) | refine kept_st ?_ (by assumption) | refine kept_get ?_ (by assumption) | refine kept_get2 ?_ (by assumption) | apply kept_with_mem)

theorem kept_trainPc (n : Nat) (m : Nat) {s : State} (hk : Kept cmds s) :
    Kept cmds (trainPc n m s) := by
  unfold trainPc
  try dsimp only
  all_goals (with_reducible repeat' first | assumption | rfl | apply kept_ite | apply kept_ite_st | apply kept_ite_snd | apply kept_atlDegraded | apply kept_noteTemp | apply kept_raise | apply kept_setBench | apply kept_setReg | apply kept_wf | (intro _ _ _) | (intro _ _) | split)

theorem kept_trainStart {s : State} (hk : Kept cmds s) :
    Kept cmds (trainStart s) := by
  unfold trainStart
  try dsimp only
  all_goals (with_reducible repeat' first | assumption | rfl | apply kept_setStack | split | refine kept_snd ?_ (by assumption) | refine kept_snd2 ?_ (by assumption) | refine kept_st ?_ (by assumption) | refine kept_get ?_ (by assumption) | refine kept_get2 ?_ (by assumption) | apply kept_with_mem)

theorem kept_trainDone (n : Nat) (m : Nat) {s : State} (hk : Kept cmds s) :
    Kept cmds (trainDone n m s) := by
  unfold trainDone
  try dsimp only
  all_goals (with_reducible repeat' first | assumption | rfl | apply kept_ite | apply kept_ite_st | apply kept_ite_snd | apply kept_setStack | apply kept_trainPc | (intro _ _ _) | (intro _ _) | split | refine kept_snd ?_ (by assumption) | refine kept_snd2 ?_ (by assumption) | refine kept_st ?_ (by assumption) | refine kept_get ?_ (by assumption) | refine kept_get2 ?_ (by assumption) | apply kept_with_mem)

theorem kept_retrainDue (n : Nat) {s : State} (hk : Kept cmds s) :
    Kept cmds (retrainDue n s) := by
  unfold retrainDue
  try dsimp only
  all_goals (with_reducible repeat' first | assumption | rfl | apply kept_ite | apply kept_ite_st | apply kept_ite_snd | apply kept_wf)

theorem kept_retrainStep (n : Nat) (count : Nat) (m : Nat) {s : State} (hk : Kept cmds s) :
    Kept cmds (retrainStep n count m s) := by
  unfold retrainStep
  try dsimp only
  all_goals (with_reducible repeat' first | assumption | rfl | apply kept_ite | apply kept_ite_st | apply kept_ite_snd | apply kept_atlDegraded | apply kept_inc | apply kept_noteTemp | apply kept_raise | apply kept_setBench | apply kept_setReg | apply kept_wf)

theorem kept_retireWrite (v : Nat) {s : State} (hk : Kept cmds s) :
    Kept cmds (retireWrite v s).st := by
  unfold retireWrite
  try dsimp only
  all_goals (with_reducible repeat' first | assumption | rfl | apply kept_ite | apply kept_ite_st | apply kept_ite_snd | apply kept_acc | apply kept_refuse | apply kept_wf | split | refine kept_snd ?_ (by assumption) | refine kept_snd2 ?_ (by assumption) | refine kept_st ?_ (by assumption) | refine kept_get ?_ (by assumption) | refine kept_get2 ?_ (by assumption) | apply kept_with_mem)

theorem kept_fillSpare (n : Nat) {s : State} (hk : Kept cmds s) :
    Kept cmds (fillSpare n s) := by
  exact ⟨hk.1, smapWf_writes _ _, hk.3, hk.4, hk.5⟩

theorem kept_emptySpare (n : Nat) {s : State} (hk : Kept cmds s) :
    Kept cmds (emptySpare n s) := by
  exact ⟨hk.1, smapWf_writes _ _, hk.3, hk.4, hk.5⟩

theorem kept_retireCommit {s : State} (hk : Kept cmds s) :
    Kept cmds (retireCommit s) := by
  unfold retireCommit
  try dsimp only
  all_goals (with_reducible repeat' first | assumption | rfl | apply kept_emptySpare | apply kept_fillSpare | apply kept_raise | apply kept_setExcl | split | refine kept_snd ?_ (by assumption) | refine kept_snd2 ?_ (by assumption) | refine kept_st ?_ (by assumption) | refine kept_get ?_ (by assumption) | refine kept_get2 ?_ (by assumption) | apply kept_with_mem)

theorem kept_ceSecond {s : State} (hk : Kept cmds s) :
    Kept cmds (ceSecond s) := by
  unfold ceSecond
  try dsimp only
  all_goals (with_reducible repeat' first | assumption | rfl | apply kept_ite | apply kept_ite_st | apply kept_ite_snd | apply kept_foldS | apply kept_raise | apply kept_setReg | (intro _ _ _) | (intro _ _) | split | refine kept_snd ?_ (by assumption) | refine kept_snd2 ?_ (by assumption) | refine kept_st ?_ (by assumption) | refine kept_get ?_ (by assumption) | refine kept_get2 ?_ (by assumption) | apply kept_with_mem)

theorem kept_scrubNext (pos : Nat) {s : State} (hk : Kept cmds s) :
    Kept cmds (scrubNext pos s) := by
  unfold scrubNext
  try dsimp only
  all_goals (with_reducible repeat' first | assumption | rfl | apply kept_ite | apply kept_ite_st | apply kept_ite_snd | apply kept_raise | apply kept_setReg | split | refine kept_snd ?_ (by assumption) | refine kept_snd2 ?_ (by assumption) | refine kept_st ?_ (by assumption) | refine kept_get ?_ (by assumption) | refine kept_get2 ?_ (by assumption) | apply kept_with_mem)

theorem kept_scrub {s : State} (hk : Kept cmds s) :
    Kept cmds (scrub s) := by
  unfold scrub
  try dsimp only
  all_goals (with_reducible repeat' first | assumption | rfl | apply kept_ite | apply kept_ite_st | apply kept_ite_snd | apply kept_countCe | apply kept_countUe | apply kept_raise | apply kept_scrubNext | split | refine kept_snd ?_ (by assumption) | refine kept_snd2 ?_ (by assumption) | refine kept_st ?_ (by assumption) | refine kept_get ?_ (by assumption) | refine kept_get2 ?_ (by assumption) | apply kept_with_mem)

theorem kept_cmdFailed (f : CmdFail) {s : State} (hk : Kept cmds s) :
    Kept cmds (cmdFailed f s) := by
  unfold cmdFailed
  try dsimp only
  all_goals (with_reducible repeat' first | assumption | rfl | apply kept_ite | apply kept_ite_st | apply kept_ite_snd | apply kept_countUe | apply kept_logUe | apply kept_setEcc | (intro _ _ _) | (intro _ _) | split | refine kept_snd ?_ (by assumption) | refine kept_snd2 ?_ (by assumption) | refine kept_st ?_ (by assumption) | refine kept_get ?_ (by assumption) | refine kept_get2 ?_ (by assumption) | apply kept_with_mem)

theorem kept_cmdParity (pc : Nat) (n : Nat) (fs : List CmdFail) {s : State} (hk : Kept cmds s) :
    Kept cmds (cmdParity pc n fs s) := by
  unfold cmdParity
  try dsimp only
  all_goals (with_reducible repeat' first | assumption | rfl | apply kept_cmdFailed | apply kept_foldS | apply kept_inc | apply kept_raise)

theorem kept_ueNext {s : State} (hk : Kept cmds s) :
    Kept cmds (ueNext s) := by
  unfold ueNext
  grind [kept_wf, kept_mk, Kept]

theorem kept_memCtrlWrite (v : Nat) {s : State} (hk : Kept cmds s) :
    Kept cmds (memCtrlWrite v s).st := by
  unfold memCtrlWrite
  try dsimp only
  all_goals (with_reducible repeat' first | assumption | rfl | apply kept_ite | apply kept_ite_st | apply kept_ite_snd | apply kept_acc | apply kept_foldS | apply kept_refuse | apply kept_srEnter | apply kept_srExit | apply kept_trainStart | apply kept_ueNext | (intro _ _ _))

theorem kept_memCntClear (v : Nat) {s : State} (hk : Kept cmds s) :
    Kept cmds (memCntClear v s) := by
  unfold memCntClear
  try dsimp only
  all_goals (with_reducible repeat' first | assumption | rfl | apply kept_ite | apply kept_ite_st | apply kept_ite_snd | apply kept_zero)

theorem kept_memWrite (off : Nat) (v : Nat) {s : State} (hk : Kept cmds s) :
    ∀ r, memWrite off v s = some r → Kept cmds r.st := by
  intro t ht
  unfold memWrite at ht
  try dsimp only at ht
  all_goals (repeat' first | (cases ht) | split at ht)
  all_goals (with_reducible repeat' first | assumption | rfl | apply kept_ite | apply kept_ite_st | apply kept_ite_snd | apply kept_acc | apply kept_memCntClear | apply kept_memCtrlWrite | apply kept_refuse | apply kept_retireWrite)

theorem kept_execHbmRequest (pc : Fin 64) (presented : List HbmReq) {s : State} (hk : Kept cmds s) :
    ∀ t, execHbmRequest pc presented s = .next t → Kept cmds t := by
  intro t ht
  unfold execHbmRequest at ht
  try dsimp only at ht
  all_goals (repeat' first | (cases ht) | split at ht)
  all_goals (with_reducible repeat' first | assumption | rfl | apply kept_hbmRequest)

theorem kept_execHbmCommandSlot (pc : Fin 64) (banks : List (Fin 64)) {s : State} (hk : Kept cmds s) :
    ∀ t, execHbmCommandSlot pc banks s = .next t → Kept cmds t := by
  intro t ht
  unfold execHbmCommandSlot at ht
  try dsimp only at ht
  all_goals (repeat' first | (cases ht) | split at ht)
  all_goals (with_reducible repeat' first | assumption | rfl | apply kept_commandSlot)

theorem kept_execRefreshDue (pc : Fin 64) {s : State} (hk : Kept cmds s) :
    ∀ t, execRefreshDue pc s = .next t → Kept cmds t := by
  intro t ht
  unfold execRefreshDue at ht
  try dsimp only at ht
  all_goals (repeat' first | (cases ht) | split at ht)
  all_goals (with_reducible repeat' first | assumption | rfl | apply kept_refreshDue)

theorem kept_execStackTempReport (stack : Fin 2) (temp : BitVec 8) {s : State} (hk : Kept cmds s) :
    ∀ t, execStackTempReport stack temp s = .next t → Kept cmds t := by
  intro t ht
  unfold execStackTempReport at ht
  try dsimp only at ht
  all_goals (repeat' first | (cases ht) | split at ht)
  all_goals (with_reducible repeat' first | assumption | rfl | apply kept_stackTemp)

theorem kept_execSrIdleTimeout (stack : Fin 2) {s : State} (hk : Kept cmds s) :
    ∀ t, execSrIdleTimeout stack s = .next t → Kept cmds t := by
  intro t ht
  unfold execSrIdleTimeout at ht
  try dsimp only at ht
  all_goals (repeat' first | (cases ht) | split at ht)
  all_goals (with_reducible repeat' first | assumption | rfl | apply kept_srIdle)

theorem kept_execRetrainDue (pc : Fin 64) {s : State} (hk : Kept cmds s) :
    ∀ t, execRetrainDue pc s = .next t → Kept cmds t := by
  intro t ht
  unfold execRetrainDue at ht
  try dsimp only at ht
  all_goals (repeat' first | (cases ht) | split at ht)
  all_goals (with_reducible repeat' first | assumption | rfl | apply kept_retrainDue)

theorem kept_execRetrainStep (pc : Fin 64) (count : Word) (margin : BitVec 16) {s : State} (hk : Kept cmds s) :
    ∀ t, execRetrainStep pc count margin s = .next t → Kept cmds t := by
  intro t ht
  unfold execRetrainStep at ht
  try dsimp only at ht
  all_goals (repeat' first | (cases ht) | split at ht)
  all_goals (with_reducible repeat' first | assumption | rfl | apply kept_retrainStep)

theorem kept_execCeRateSecond {s : State} (hk : Kept cmds s) :
    ∀ t, execCeRateSecond s = .next t → Kept cmds t := by
  intro t ht
  unfold execCeRateSecond at ht
  grind [kept_ceSecond, kept_mk, Kept]

theorem kept_execPatrolScrub {s : State} (hk : Kept cmds s) :
    ∀ t, execPatrolScrub s = .next t → Kept cmds t := by
  intro t ht
  unfold execPatrolScrub at ht
  try dsimp only at ht
  all_goals (repeat' first | (cases ht) | split at ht)
  all_goals (with_reducible repeat' first | assumption | rfl | apply kept_scrub)

theorem kept_execCmdParityError (pc : Fin 64) (reissues : Nat) (failed : List CmdFail) {s : State} (hk : Kept cmds s) :
    ∀ t, execCmdParityError pc reissues failed s = .next t → Kept cmds t := by
  intro t ht
  unfold execCmdParityError at ht
  try dsimp only at ht
  all_goals (repeat' first | (cases ht) | split at ht)
  all_goals (with_reducible repeat' first | assumption | rfl | apply kept_cmdParity)

theorem kept_execRetireCommit {s : State} (hk : Kept cmds s) :
    ∀ t, execRetireCommit s = .next t → Kept cmds t := by
  intro t ht
  unfold execRetireCommit at ht
  try dsimp only at ht
  all_goals (repeat' first | (cases ht) | split at ht)
  all_goals (with_reducible repeat' first | assumption | rfl | apply kept_retireCommit)

end Sys2Proof.Machine
end

