-- ==== Sys2Proof/Laws/KeptMer.lean ====
section
/-! SUPPORT. What the operations of Machine/Mer keep (Laws/Kept). -/

namespace Sys2Proof.Machine

variable {cmds : List Instr}

theorem kept_State_setRef (e : Nat) (x : RefSt) {s : State} (hk : Kept cmds s) :
    Kept cmds (State.setRef e x s) := by
  unfold State.setRef
  try dsimp only
  all_goals (with_reducible repeat' first | assumption | rfl | split | refine kept_snd ?_ (by assumption) | refine kept_snd2 ?_ (by assumption) | refine kept_st ?_ (by assumption) | refine kept_get ?_ (by assumption) | refine kept_get2 ?_ (by assumption) | apply kept_with_mer)

theorem kept_setLoop (l : Nat) {s : State} (hk : Kept cmds s) :
    Kept cmds (setLoop l s) := by
  unfold setLoop
  try dsimp only
  all_goals (with_reducible repeat' first | assumption | rfl | apply kept_wf)

theorem kept_setBw (b : Nat) {s : State} (hk : Kept cmds s) :
    Kept cmds (setBw b s) := by
  unfold setBw
  try dsimp only
  all_goals (with_reducible repeat' first | assumption | rfl | apply kept_setReg | split | refine kept_snd ?_ (by assumption) | refine kept_snd2 ?_ (by assumption) | refine kept_st ?_ (by assumption) | refine kept_get ?_ (by assumption) | refine kept_get2 ?_ (by assumption) | apply kept_with_mer)

theorem kept_dqEntry (e : Nat) (cause : Nat) {s : State} (hk : Kept cmds s) :
    Kept cmds (dqEntry e cause s) := by
  unfold dqEntry
  try dsimp only
  all_goals (with_reducible repeat' first | assumption | rfl | apply kept_ite | apply kept_ite_st | apply kept_ite_snd | apply kept_State_setRef | apply kept_raise | apply kept_wf | split | refine kept_snd ?_ (by assumption) | refine kept_snd2 ?_ (by assumption) | refine kept_st ?_ (by assumption) | refine kept_get ?_ (by assumption) | refine kept_get2 ?_ (by assumption) | apply kept_with_mer)

theorem kept_updateQl (e : Nat) {s : State} (hk : Kept cmds s) :
    Kept cmds (updateQl e s) := by
  unfold updateQl
  try dsimp only
  all_goals (with_reducible repeat' first | assumption | rfl | apply kept_ite | apply kept_ite_st | apply kept_ite_snd | apply kept_dqEntry | apply kept_raise | apply kept_wf)

theorem kept_enterHoldover {s : State} (hk : Kept cmds s) :
    Kept cmds (enterHoldover s) := by
  unfold enterHoldover
  try dsimp only
  all_goals (with_reducible repeat' first | assumption | rfl | apply kept_ite | apply kept_ite_st | apply kept_ite_snd | apply kept_raise | apply kept_setLoop | apply kept_setReg)

theorem kept_holdOnOsc {s : State} (hk : Kept cmds s) :
    Kept cmds (holdOnOsc s) := by
  unfold holdOnOsc
  try dsimp only
  all_goals (with_reducible repeat' first | assumption | rfl | apply kept_ite | apply kept_ite_st | apply kept_ite_snd | apply kept_enterHoldover | apply kept_setLoop)

theorem kept_setSelected (e : Nat) {s : State} (hk : Kept cmds s) :
    Kept cmds (setSelected e s) := by
  unfold setSelected
  try dsimp only
  all_goals (with_reducible repeat' first | assumption | rfl | apply kept_foldS | apply kept_wf | (intro _ _ _))

theorem kept_askBuildout (e : Nat) (cause : Nat) {s : State} (hk : Kept cmds s) :
    Kept cmds (askBuildout e cause s) := by
  unfold askBuildout
  try dsimp only
  all_goals (with_reducible repeat' first | assumption | rfl | split | refine kept_snd ?_ (by assumption) | refine kept_snd2 ?_ (by assumption) | refine kept_st ?_ (by assumption) | refine kept_get ?_ (by assumption) | refine kept_get2 ?_ (by assumption) | apply kept_with_mer)

theorem kept_acquire (e : Nat) {s : State} (hk : Kept cmds s) :
    Kept cmds (acquire e s) := by
  unfold acquire
  try dsimp only
  all_goals (with_reducible repeat' first | assumption | rfl | apply kept_ite | apply kept_ite_st | apply kept_ite_snd | apply kept_askBuildout | apply kept_setBw | apply kept_setLoop)

theorem kept_resume (e : Nat) {s : State} (hk : Kept cmds s) :
    Kept cmds (resume e s) := by
  unfold resume
  try dsimp only
  all_goals (with_reducible repeat' first | assumption | rfl | apply kept_askBuildout | apply kept_setBw | apply kept_setLoop)

theorem kept_firstSelect (e : Nat) {s : State} (hk : Kept cmds s) :
    Kept cmds (firstSelect e s) := by
  unfold firstSelect
  try dsimp only
  all_goals (with_reducible repeat' first | assumption | rfl | apply kept_ite | apply kept_ite_st | apply kept_ite_snd | apply kept_acquire | apply kept_holdOnOsc | apply kept_setSelected | split | refine kept_snd ?_ (by assumption) | refine kept_snd2 ?_ (by assumption) | refine kept_st ?_ (by assumption) | refine kept_get ?_ (by assumption) | refine kept_get2 ?_ (by assumption) | apply kept_with_mer)

theorem kept_switchTo (e : Nat) (cause : Nat) {s : State} (hk : Kept cmds s) :
    Kept cmds (switchTo e cause s) := by
  unfold switchTo
  try dsimp only
  all_goals (with_reducible repeat' first | assumption | rfl | apply kept_ite | apply kept_ite_st | apply kept_ite_snd | apply kept_askBuildout | apply kept_enterHoldover | apply kept_holdOnOsc | apply kept_raise | apply kept_setSelected | split | refine kept_snd ?_ (by assumption) | refine kept_snd2 ?_ (by assumption) | refine kept_st ?_ (by assumption) | refine kept_get ?_ (by assumption) | refine kept_get2 ?_ (by assumption) | apply kept_with_mer)

theorem kept_autoSwitch (cause : Nat) (es : List Nat) (hold : Bool) {s : State} (hk : Kept cmds s) :
    Kept cmds (autoSwitch cause es hold s) := by
  unfold autoSwitch
  try dsimp only
  all_goals (with_reducible repeat' first | assumption | rfl | apply kept_ite | apply kept_ite_st | apply kept_ite_snd | apply kept_enterHoldover | apply kept_raise | apply kept_switchTo | split)

theorem kept_evalSelection {s : State} (hk : Kept cmds s) :
    Kept cmds (evalSelection s) := by
  unfold evalSelection
  try dsimp only
  all_goals (with_reducible repeat' first | assumption | rfl | apply kept_ite | apply kept_ite_st | apply kept_ite_snd | apply kept_autoSwitch | apply kept_enterHoldover | apply kept_firstSelect | apply kept_raise | apply kept_resume | (intro _ _ _) | (intro _ _) | split | refine kept_snd ?_ (by assumption) | refine kept_snd2 ?_ (by assumption) | refine kept_st ?_ (by assumption) | refine kept_get ?_ (by assumption) | refine kept_get2 ?_ (by assumption) | apply kept_with_mer)

theorem kept_merSelect (e : Nat) {s : State} (hk : Kept cmds s) :
    Kept cmds (merSelect e s).st := by
  unfold merSelect
  try dsimp only
  all_goals (with_reducible repeat' first | assumption | rfl | apply kept_ite | apply kept_ite_st | apply kept_ite_snd | apply kept_acc | apply kept_firstSelect | apply kept_refuse | apply kept_switchTo | (intro _ _ _) | (intro _ _) | split | refine kept_snd ?_ (by assumption) | refine kept_snd2 ?_ (by assumption) | refine kept_st ?_ (by assumption) | refine kept_get ?_ (by assumption) | refine kept_get2 ?_ (by assumption) | apply kept_with_mer)

theorem kept_buildoutLatch (steps : Int) {s : State} (hk : Kept cmds s) :
    Kept cmds (buildoutLatch steps s) := by
  unfold buildoutLatch
  try dsimp only
  all_goals (with_reducible repeat' first | assumption | rfl | apply kept_ite | apply kept_ite_st | apply kept_ite_snd | apply kept_raise | apply kept_setBw | apply kept_setLoop | apply kept_setReg64 | apply kept_setSelected | apply kept_wf | split | refine kept_snd ?_ (by assumption) | refine kept_snd2 ?_ (by assumption) | refine kept_st ?_ (by assumption) | refine kept_get ?_ (by assumption) | refine kept_get2 ?_ (by assumption) | apply kept_with_mer)

theorem kept_goodSecond (e : Nat) {s : State} (hk : Kept cmds s) :
    Kept cmds (goodSecond e s) := by
  unfold goodSecond
  try dsimp only
  all_goals (with_reducible repeat' first | assumption | rfl | apply kept_ite | apply kept_ite_st | apply kept_ite_snd | apply kept_State_setRef | apply kept_raise | apply kept_wf)

theorem kept_badSecond (e : Nat) (cause : Nat) {s : State} (hk : Kept cmds s) :
    Kept cmds (badSecond e cause s) := by
  unfold badSecond
  try dsimp only
  all_goals (with_reducible repeat' first | assumption | rfl | apply kept_ite | apply kept_ite_st | apply kept_ite_snd | apply kept_dqEntry | apply kept_wf)

theorem kept_refSecond (e : Nat) (m : RefMeas) {s : State} (hk : Kept cmds s) :
    Kept cmds (refSecond e m s) := by
  unfold refSecond
  try dsimp only
  all_goals (with_reducible repeat' first | assumption | rfl | apply kept_ite | apply kept_ite_st | apply kept_ite_snd | apply kept_State_setRef | apply kept_badSecond | apply kept_goodSecond | apply kept_updateQl)

theorem kept_driftFlag (f : Field) (ev : Ev) (e : Nat) (limit : Nat) (d : Int) {s : State} (hk : Kept cmds s) :
    Kept cmds (driftFlag f ev e limit d s) := by
  unfold driftFlag
  try dsimp only
  all_goals (with_reducible repeat' first | assumption | rfl | apply kept_ite | apply kept_ite_st | apply kept_ite_snd | apply kept_raise | apply kept_wf)

theorem kept_refDrift (e : Nat) {s : State} (hk : Kept cmds s) :
    Kept cmds (refDrift e s) := by
  unfold refDrift
  try dsimp only
  all_goals (with_reducible repeat' first | assumption | rfl | apply kept_ite | apply kept_ite_st | apply kept_ite_snd | apply kept_driftFlag | apply kept_setReg)

theorem kept_disagreePair (a : Nat) (b : Nat) {s : State} (hk : Kept cmds s) :
    Kept cmds (disagreePair a b s) := by
  unfold disagreePair
  try dsimp only
  all_goals (with_reducible repeat' first | assumption | rfl | apply kept_ite | apply kept_ite_st | apply kept_ite_snd | apply kept_dqEntry | apply kept_raise | apply kept_switchTo | split | refine kept_snd ?_ (by assumption) | refine kept_snd2 ?_ (by assumption) | refine kept_st ?_ (by assumption) | refine kept_get ?_ (by assumption) | refine kept_get2 ?_ (by assumption) | apply kept_with_mer)

theorem kept_disagreements {s : State} (hk : Kept cmds s) :
    Kept cmds (disagreements s) := by
  unfold disagreements
  try dsimp only
  all_goals (with_reducible repeat' first | assumption | rfl | apply kept_disagreePair | apply kept_foldS | apply kept_wf | (intro _ _ _))

theorem kept_loopSecond (y : Int) (phase : Int) {s : State} (hk : Kept cmds s) :
    Kept cmds (loopSecond y phase s) := by
  unfold loopSecond
  try dsimp only
  all_goals (with_reducible repeat' first | assumption | rfl | apply kept_ite | apply kept_ite_st | apply kept_ite_snd | apply kept_raise | apply kept_setReg | apply kept_wf | split | refine kept_snd ?_ (by assumption) | refine kept_snd2 ?_ (by assumption) | refine kept_st ?_ (by assumption) | refine kept_get ?_ (by assumption) | refine kept_get2 ?_ (by assumption) | apply kept_with_mer)

theorem kept_slewSecond {s : State} (hk : Kept cmds s) :
    Kept cmds (slewSecond s) := by
  unfold slewSecond
  try dsimp only
  all_goals (with_reducible repeat' first | assumption | rfl | apply kept_ite | apply kept_ite_st | apply kept_ite_snd | apply kept_setReg64 | apply kept_step | apply kept_wf | split | refine kept_snd ?_ (by assumption) | refine kept_snd2 ?_ (by assumption) | refine kept_st ?_ (by assumption) | refine kept_get ?_ (by assumption) | refine kept_get2 ?_ (by assumption) | apply kept_with_mer)

theorem kept_refSeconds (ms : List (Nat × RefMeas)) (y : Int) (phase : Int) {s : State} (hk : Kept cmds s) :
    Kept cmds (refSeconds ms y phase s) := by
  unfold refSeconds
  try dsimp only
  all_goals (with_reducible repeat' first | assumption | rfl | apply kept_disagreements | apply kept_evalSelection | apply kept_foldS | apply kept_loopSecond | apply kept_refDrift | apply kept_refSecond | apply kept_slewSecond | apply kept_updateQl | (intro _ _ _))

theorem kept_edgeLoss (e : Nat) (companion : Bool) {s : State} (hk : Kept cmds s) :
    Kept cmds (edgeLoss e companion s) := by
  unfold edgeLoss
  try dsimp only
  all_goals (with_reducible repeat' first | assumption | rfl | apply kept_ite | apply kept_ite_st | apply kept_ite_snd | apply kept_dqEntry | apply kept_evalSelection)

theorem kept_bwStep (phase : Int) {s : State} (hk : Kept cmds s) :
    Kept cmds (bwStep phase s) := by
  unfold bwStep
  try dsimp only
  all_goals (with_reducible repeat' first | assumption | rfl | apply kept_ite | apply kept_ite_st | apply kept_ite_snd | apply kept_raise | apply kept_setBw | apply kept_setLoop | split)

theorem kept_merBasicWrite (v : Nat) {s : State} (hk : Kept cmds s) :
    Kept cmds (merBasicWrite v s).st := by
  unfold merBasicWrite
  try dsimp only
  all_goals (with_reducible repeat' first | assumption | rfl | apply kept_ite | apply kept_ite_st | apply kept_ite_snd | apply kept_acc | apply kept_foldS | apply kept_refuse | apply kept_setReg | apply kept_storeBits | apply kept_wf | (intro _ _ _))

theorem kept_merFsWrite (v : Nat) {s : State} (hk : Kept cmds s) :
    Kept cmds (merFsWrite v s).st := by
  unfold merFsWrite
  try dsimp only
  all_goals (with_reducible repeat' first | assumption | rfl | apply kept_ite | apply kept_ite_st | apply kept_ite_snd | apply kept_acc | apply kept_refuse | apply kept_setReg | apply kept_wf)

theorem kept_offsetWrite (off : Nat) (v : Nat) {s : State} (hk : Kept cmds s) :
    Kept cmds (offsetWrite off v s).st := by
  unfold offsetWrite
  try dsimp only
  all_goals (with_reducible repeat' first | assumption | rfl | apply kept_ite | apply kept_ite_st | apply kept_ite_snd | apply kept_acc | apply kept_refuse | apply kept_setReg | (intro _ _ _) | (intro _ _) | split | refine kept_snd ?_ (by assumption) | refine kept_snd2 ?_ (by assumption) | refine kept_st ?_ (by assumption) | refine kept_get ?_ (by assumption) | refine kept_get2 ?_ (by assumption) | apply kept_with_mer)

theorem kept_merEpoch (ns : Nat) {s : State} (hk : Kept cmds s) :
    Kept cmds (merEpoch ns s).st := by
  unfold merEpoch
  try dsimp only
  all_goals (with_reducible repeat' first | assumption | rfl | apply kept_acc | apply kept_raise | apply kept_wf | split | refine kept_snd ?_ (by assumption) | refine kept_snd2 ?_ (by assumption) | refine kept_st ?_ (by assumption) | refine kept_get ?_ (by assumption) | refine kept_get2 ?_ (by assumption) | apply kept_with_mer)

theorem kept_merCtrlWrite (ns : Nat) (v : Nat) {s : State} (hk : Kept cmds s) :
    Kept cmds (merCtrlWrite ns v s).st := by
  unfold merCtrlWrite
  try dsimp only
  all_goals (with_reducible repeat' first | assumption | rfl | apply kept_ite | apply kept_ite_st | apply kept_ite_snd | apply kept_acc | apply kept_merEpoch | apply kept_merSelect | apply kept_wf)

theorem kept_merStore (off : Nat) (wmask : Nat) (good : Nat → Bool) (v : Nat) {s : State} (hk : Kept cmds s) :
    Kept cmds (merStore off wmask good v s).st := by
  unfold merStore
  try dsimp only
  all_goals (with_reducible repeat' first | assumption | rfl | apply kept_ite | apply kept_ite_st | apply kept_ite_snd | apply kept_acc | apply kept_refuse | apply kept_storeBits)

theorem kept_sclkWrite (v : Nat) {s : State} (hk : Kept cmds s) :
    Kept cmds (sclkWrite v s).st := by
  unfold sclkWrite
  try dsimp only
  all_goals (with_reducible repeat' first | assumption | rfl | apply kept_ite | apply kept_ite_st | apply kept_ite_snd | apply kept_acc | apply kept_refuse | apply kept_storeBits)

theorem kept_refCfgWrite (e : Nat) (v : Nat) {s : State} (hk : Kept cmds s) :
    Kept cmds (refCfgWrite e v s).st := by
  unfold refCfgWrite
  try dsimp only
  all_goals (with_reducible repeat' first | assumption | rfl | apply kept_acc | apply kept_evalSelection | apply kept_refuse | apply kept_storeBits | apply kept_updateQl | split)

theorem kept_merWriteWith (ns : Nat) (off : Nat) (v : Nat) {s : State} (hk : Kept cmds s) :
    ∀ r, merWriteWith ns off v s = some r → Kept cmds r.st := by
  unfold merWriteWith
  refine kept_ite_opt (kept_some (kept_merBasicWrite _ hk)) ?_
  refine kept_ite_opt (kept_some (kept_merCtrlWrite _ _ hk)) ?_
  refine kept_ite_opt (kept_some (kept_merStore _ _ _ _ hk)) ?_
  refine kept_ite_opt (kept_some (kept_merStore _ _ _ _ hk)) ?_
  refine kept_ite_opt (kept_some (kept_merStore _ _ _ _ hk)) ?_
  refine kept_ite_opt (kept_some (kept_merStore _ _ _ _ hk)) ?_
  refine kept_ite_opt (kept_some (kept_merFsWrite _ hk)) ?_
  refine kept_ite_opt (kept_some (kept_sclkWrite _ hk)) ?_
  refine kept_ite_opt (kept_some (kept_merStore _ _ _ _ hk)) ?_
  refine kept_ite_opt (kept_some (kept_offsetWrite _ _ hk)) ?_
  exact kept_ite_opt (kept_some (kept_refCfgWrite _ _ hk)) kept_none

theorem kept_execLoopBwStep (phase : Int) {s : State} (hk : Kept cmds s) :
    ∀ t, execLoopBwStep phase s = .next t → Kept cmds t := by
  intro t ht
  unfold execLoopBwStep at ht
  try dsimp only at ht
  all_goals (repeat' first | (cases ht) | split at ht)
  all_goals (with_reducible repeat' first | assumption | rfl | apply kept_bwStep)

end Sys2Proof.Machine
end

