-- ==== Sys2Proof/Laws/KeptRsy.lean ====
section
/-! SUPPORT. What the operations of Machine/Rsy keep (Laws/Kept). -/

namespace Sys2Proof.Machine

variable {cmds : List Instr}

theorem kept_setRsyState (n : Nat) {s : State} (hk : Kept cmds s) :
    Kept cmds (setRsyState n s) := by
  unfold setRsyState
  try dsimp only
  all_goals (with_reducible repeat' first | assumption | rfl | apply kept_setReg)

theorem kept_rsyLoadBuiltin {s : State} (hk : Kept cmds s) :
    Kept cmds (rsyLoadBuiltin s) := by
  unfold rsyLoadBuiltin
  try dsimp only
  all_goals (with_reducible repeat' first | assumption | rfl | apply kept_foldS | (intro _ _ _) | (intro _ _) | split | refine kept_snd ?_ (by assumption) | refine kept_snd2 ?_ (by assumption) | refine kept_st ?_ (by assumption) | refine kept_get ?_ (by assumption) | refine kept_get2 ?_ (by assumption) | apply kept_with_rsy)

theorem kept_rsySetCfg (v : Nat) {s : State} (hk : Kept cmds s) :
    Kept cmds (rsySetCfg v s) := by
  unfold rsySetCfg
  try dsimp only
  all_goals (with_reducible repeat' first | assumption | rfl | apply kept_setReg | split | refine kept_snd ?_ (by assumption) | refine kept_snd2 ?_ (by assumption) | refine kept_st ?_ (by assumption) | refine kept_get ?_ (by assumption) | refine kept_get2 ?_ (by assumption) | apply kept_with_rsy)

theorem kept_rsyRefuse (off : Nat) {s : State} (hk : Kept cmds s) :
    Kept cmds (rsyRefuse off s).st := by
  unfold rsyRefuse
  try dsimp only
  all_goals (with_reducible repeat' first | assumption | rfl | apply kept_refuse)

theorem kept_rsyBasicWrite (v : Nat) {s : State} (hk : Kept cmds s) :
    Kept cmds (rsyBasicWrite v s).st := by
  unfold rsyBasicWrite
  try dsimp only
  all_goals (with_reducible repeat' first | assumption | rfl | apply kept_ite | apply kept_ite_st | apply kept_ite_snd | apply kept_acc | apply kept_rsyLoadBuiltin | apply kept_rsyRefuse | apply kept_rsySetCfg | apply kept_storeBits)

theorem kept_rsyCfgWrite (v : Nat) {s : State} (hk : Kept cmds s) :
    Kept cmds (rsyCfgWrite v s).st := by
  unfold rsyCfgWrite
  try dsimp only
  all_goals (with_reducible repeat' first | assumption | rfl | apply kept_ite | apply kept_ite_st | apply kept_ite_snd | apply kept_acc | apply kept_rsyRefuse | apply kept_rsySetCfg)

theorem kept_rsyCoefDataWrite (v : Nat) {s : State} (hk : Kept cmds s) :
    Kept cmds (rsyCoefDataWrite v s).st := by
  unfold rsyCoefDataWrite
  try dsimp only
  all_goals (with_reducible repeat' first | assumption | rfl | apply kept_ite | apply kept_ite_st | apply kept_ite_snd | apply kept_acc | apply kept_rsyRefuse | apply kept_setReg | split | refine kept_snd ?_ (by assumption) | refine kept_snd2 ?_ (by assumption) | refine kept_st ?_ (by assumption) | refine kept_get ?_ (by assumption) | refine kept_get2 ?_ (by assumption) | apply kept_with_rsy)

theorem kept_rsyStart (now : Bool) {s : State} (hk : Kept cmds s) :
    Kept cmds (rsyStart now s).st := by
  unfold rsyStart
  try dsimp only
  all_goals (with_reducible repeat' first | assumption | rfl | apply kept_ite | apply kept_ite_st | apply kept_ite_snd | apply kept_acc | apply kept_raise | apply kept_rsyRefuse | apply kept_setRsyState | split | refine kept_snd ?_ (by assumption) | refine kept_snd2 ?_ (by assumption) | refine kept_st ?_ (by assumption) | refine kept_get ?_ (by assumption) | refine kept_get2 ?_ (by assumption) | apply kept_with_rsy)

theorem kept_rsyHalt {s : State} (hk : Kept cmds s) :
    Kept cmds (rsyHalt s) := by
  unfold rsyHalt
  try dsimp only
  all_goals (with_reducible repeat' first | assumption | rfl | apply kept_setRsyState | split | refine kept_snd ?_ (by assumption) | refine kept_snd2 ?_ (by assumption) | refine kept_st ?_ (by assumption) | refine kept_get ?_ (by assumption) | refine kept_get2 ?_ (by assumption) | apply kept_with_rsy)

theorem kept_rsyStop (now : Bool) {s : State} (hk : Kept cmds s) :
    Kept cmds (rsyStop now s) := by
  unfold rsyStop
  try dsimp only
  all_goals (with_reducible repeat' first | assumption | rfl | apply kept_ite | apply kept_ite_st | apply kept_ite_snd | apply kept_rsyHalt | apply kept_setReg | split | refine kept_snd ?_ (by assumption) | refine kept_snd2 ?_ (by assumption) | refine kept_st ?_ (by assumption) | refine kept_get ?_ (by assumption) | refine kept_get2 ?_ (by assumption) | apply kept_with_rsy)

theorem kept_rsyCtrlWrite (v : Nat) {s : State} (hk : Kept cmds s) :
    Kept cmds (rsyCtrlWrite v s).st := by
  unfold rsyCtrlWrite
  try dsimp only
  all_goals (with_reducible repeat' first | assumption | rfl | apply kept_ite | apply kept_ite_st | apply kept_ite_snd | apply kept_acc | apply kept_rsyStart | apply kept_rsyStop)

theorem kept_rsySliceWrite (n : Nat) (v : Nat) {s : State} (hk : Kept cmds s) :
    Kept cmds (rsySliceWrite n v s).st := by
  unfold rsySliceWrite
  try dsimp only
  all_goals (with_reducible repeat' first | assumption | rfl | apply kept_ite | apply kept_ite_st | apply kept_ite_snd | apply kept_acc | apply kept_raise | apply kept_rsyRefuse | apply kept_setReg | (intro _ _ _) | (intro _ _) | split | refine kept_snd ?_ (by assumption) | refine kept_snd2 ?_ (by assumption) | refine kept_st ?_ (by assumption) | refine kept_get ?_ (by assumption) | refine kept_get2 ?_ (by assumption) | apply kept_with_rsy)

theorem kept_rsyChanWrite (n : Nat) (v : Nat) {s : State} (hk : Kept cmds s) :
    Kept cmds (rsyChanWrite n v s).st := by
  unfold rsyChanWrite
  try dsimp only
  all_goals (with_reducible repeat' first | assumption | rfl | apply kept_ite | apply kept_ite_st | apply kept_ite_snd | apply kept_acc | apply kept_rsyRefuse | apply kept_setReg)

theorem kept_rsyCntClear (v : Nat) {s : State} (hk : Kept cmds s) :
    Kept cmds (rsyCntClear v s) := by
  unfold rsyCntClear
  try dsimp only
  all_goals (with_reducible repeat' first | assumption | rfl | apply kept_ite | apply kept_ite_st | apply kept_ite_snd | apply kept_zero)

theorem kept_rsyWrite (off : Nat) (v : Nat) {s : State} (hk : Kept cmds s) :
    ∀ r, rsyWrite off v s = some r → Kept cmds r.st := by
  intro t ht
  unfold rsyWrite at ht
  try dsimp only at ht
  all_goals (repeat' first | (cases ht) | split at ht)
  all_goals (with_reducible repeat' first | assumption | rfl | apply kept_ite | apply kept_ite_st | apply kept_ite_snd | apply kept_acc | apply kept_rsyBasicWrite | apply kept_rsyCfgWrite | apply kept_rsyChanWrite | apply kept_rsyCntClear | apply kept_rsyCoefDataWrite | apply kept_rsyCtrlWrite | apply kept_rsyRefuse | apply kept_rsySliceWrite)

theorem kept_rsyHalfRead (p : Nat) {s : State} (hk : Kept cmds s) :
    Kept cmds (rsyHalfRead p s) := by
  unfold rsyHalfRead
  try dsimp only
  all_goals (with_reducible repeat' first | assumption | rfl | apply kept_ite | apply kept_ite_st | apply kept_ite_snd | (intro _ _ _) | (intro _ _) | split | refine kept_snd ?_ (by assumption) | refine kept_snd2 ?_ (by assumption) | refine kept_st ?_ (by assumption) | refine kept_get ?_ (by assumption) | refine kept_get2 ?_ (by assumption) | apply kept_with_rsy)

theorem kept_readElem (p : Nat) (n : Nat) (nb : Nat) (i : Nat) (c : Nat) (t : Nat) {s : State} (hk : Kept cmds s) :
    Kept cmds (readElem p n nb i c t s).2 := by
  unfold readElem
  try dsimp only
  all_goals (with_reducible repeat' first | assumption | rfl | apply kept_ite | apply kept_ite_st | apply kept_ite_snd | apply kept_hbmGet)

theorem kept_readElems (p : Nat) (n : Nat) (nb : Nat) (i : Nat) (t : Nat) (x0 : List Nat) {x1 : State} (hk : Kept cmds x1) :
    Kept cmds (readElems p n nb i t x0 x1).2 := by
  fun_induction readElems
  all_goals (try dsimp only)
  all_goals (with_reducible repeat' first | assumption | rfl | apply_assumption | refine kept_readElem _ _ _ _ _ _ ?_ | split | refine kept_snd ?_ (by assumption))

theorem kept_rsySat (n : Nat) (i : Nat) (k : Nat) {s : State} (hk : Kept cmds s) :
    Kept cmds (rsySat n i k s) := by
  unfold rsySat
  try dsimp only
  all_goals (with_reducible repeat' first | assumption | rfl | apply kept_ite | apply kept_ite_st | apply kept_ite_snd | apply kept_inc | apply kept_raise)

theorem kept_sliceStep (p : Nat) (blk : Nat) (t : Nat) (nb : Nat) (ok : Bool) (n : Nat) {s : State} (hk : Kept cmds s) :
    Kept cmds (sliceStep p blk t nb ok n s).2 := by
  unfold sliceStep
  try dsimp only
  all_goals (with_reducible repeat' first | assumption | rfl | apply kept_ite | apply kept_ite_st | apply kept_ite_snd | apply kept_readElems | apply kept_rsySat | (intro _ _ _) | (intro _ _) | split | refine kept_snd ?_ (by assumption) | refine kept_snd2 ?_ (by assumption) | refine kept_st ?_ (by assumption) | refine kept_get ?_ (by assumption) | refine kept_get2 ?_ (by assumption) | apply kept_with_rsy)

theorem kept_sliceSteps (p : Nat) (blk : Nat) (t : Nat) (nb : Nat) (ok : Bool) (x0 : List Nat) {x1 : State} (hk : Kept cmds x1) :
    Kept cmds (sliceSteps p blk t nb ok x0 x1).2 := by
  fun_induction sliceSteps
  all_goals (try dsimp only)
  all_goals (with_reducible repeat' first | assumption | rfl | apply_assumption | apply kept_sliceStep | split | refine kept_snd ?_ (by assumption))

theorem kept_sendSeries (p : Nat) (blk : Nat) (x0 : Nat) (x1 : List Grain) {x2 : State} (hk : Kept cmds x2) :
    Kept cmds (sendSeries p blk x0 x1 x2) := by
  fun_induction sendSeries
  all_goals (try dsimp only)
  all_goals (with_reducible repeat' first | assumption | rfl | apply_assumption | apply kept_ite | apply kept_ite_st | apply kept_ite_snd | apply kept_dropNote | apply kept_sendPlan | apply kept_sigAdd)

theorem kept_sendGrains (p : Nat) (blk : Nat) (gs : List Grain) {s : State} (hk : Kept cmds s) :
    Kept cmds (sendGrains p blk gs s) := by
  unfold sendGrains
  try dsimp only
  all_goals (with_reducible repeat' first | assumption | rfl | apply kept_foldS | apply kept_inc | apply kept_sendSeries | (intro _ _ _))

theorem kept_halfDone (p : Nat) (n : Nat) {s : State} (hk : Kept cmds s) :
    Kept cmds (halfDone p n s) := by
  exact ⟨hk.1, hk.2, hk.3, hk.4, hk.5⟩

theorem kept_mismatchNotes (p : Nat) {s : State} (hk : Kept cmds s) :
    Kept cmds (mismatchNotes p s) := by
  unfold mismatchNotes
  try dsimp only
  all_goals (with_reducible repeat' first | assumption | rfl | apply kept_foldS | apply kept_raise | (intro _ _ _))

theorem kept_rsyFinish (sp : Nat) {s : State} (hk : Kept cmds s) :
    Kept cmds (rsyFinish sp s) := by
  unfold rsyFinish
  try dsimp only
  all_goals (with_reducible repeat' first | assumption | rfl | apply kept_ite | apply kept_ite_st | apply kept_ite_snd | apply kept_rsyHalt | split)

theorem kept_rsySynthStep (p : Nat) {s : State} (hk : Kept cmds s) :
    Kept cmds (rsySynthStep p s) := by
  unfold rsySynthStep
  try dsimp only
  all_goals (with_reducible repeat' first | assumption | rfl | apply kept_ite | apply kept_ite_st | apply kept_ite_snd | apply kept_halfDone | apply kept_mismatchNotes | apply kept_rsyFinish | apply kept_sendGrains | apply kept_setRsyState | apply kept_sliceSteps | (intro _ _ _) | (intro _ _) | split | refine kept_snd ?_ (by assumption) | refine kept_snd2 ?_ (by assumption) | refine kept_st ?_ (by assumption) | refine kept_get ?_ (by assumption) | refine kept_get2 ?_ (by assumption) | apply kept_with_rsy)

theorem kept_rsyStopCommit {s : State} (hk : Kept cmds s) :
    Kept cmds (rsyStopCommit s) := by
  unfold rsyStopCommit
  try dsimp only
  all_goals (with_reducible repeat' first | assumption | rfl | apply kept_ite | apply kept_ite_st | apply kept_ite_snd | apply kept_rsyFinish | apply kept_setRsyState | split)

theorem kept_execRsyStopCommit {s : State} (hk : Kept cmds s) :
    ∀ t, execRsyStopCommit s = .next t → Kept cmds t := by
  intro t ht
  unfold execRsyStopCommit at ht
  try dsimp only at ht
  all_goals (repeat' first | (cases ht) | split at ht)
  all_goals (with_reducible repeat' first | assumption | rfl | apply kept_rsyStopCommit)

theorem kept_execRsyHalfRead (plan : Fin 16) {s : State} (hk : Kept cmds s) :
    ∀ t, execRsyHalfRead plan s = .next t → Kept cmds t := by
  intro t ht
  unfold execRsyHalfRead at ht
  try dsimp only at ht
  all_goals (repeat' first | (cases ht) | split at ht)
  all_goals (with_reducible repeat' first | assumption | rfl | apply kept_rsyHalfRead)

theorem kept_execRsySynthStep (plan : Fin 16) {s : State} (hk : Kept cmds s) :
    ∀ t, execRsySynthStep plan s = .next t → Kept cmds t := by
  intro t ht
  unfold execRsySynthStep at ht
  try dsimp only at ht
  all_goals (repeat' first | (cases ht) | split at ht)
  all_goals (with_reducible repeat' first | assumption | rfl | apply kept_rsySynthStep)

end Sys2Proof.Machine
end

