-- ==== Sys2Proof/Laws/KeptReply.lean ====
section
/-! SUPPORT. What the operations of Machine/Reply keep (Laws/Kept). -/

namespace Sys2Proof.Machine

variable {cmds : List Instr}

theorem kept_sendReply (c : Nat) (seq : Nat) (cmd : Nat) (status : Nat) (res : List Nat) {s : State} (hk : Kept cmds s) :
    Kept cmds (sendReply c seq cmd status res s) := by
  unfold sendReply
  try dsimp only
  all_goals (with_reducible repeat' first | assumption | rfl | apply kept_ite | apply kept_ite_st | apply kept_ite_snd | apply kept_emit | split | refine kept_snd ?_ (by assumption) | refine kept_snd2 ?_ (by assumption) | refine kept_st ?_ (by assumption) | refine kept_get ?_ (by assumption) | refine kept_get2 ?_ (by assumption) | apply kept_with_cmx)

theorem kept_mboxDone (c : Nat) (status : Nat) (res : List Nat) {s : State} (hk : Kept cmds s) :
    Kept cmds (mboxDone c status res s) := by
  unfold mboxDone
  try dsimp only
  all_goals (with_reducible repeat' first | assumption | rfl | apply kept_ite | apply kept_ite_st | apply kept_ite_snd | apply kept_foldS | apply kept_sendReply | apply kept_setReg | apply kept_withIrq | (intro _ _ _) | (intro _ _) | split | refine kept_snd ?_ (by assumption) | refine kept_snd2 ?_ (by assumption) | refine kept_st ?_ (by assumption) | refine kept_get ?_ (by assumption) | refine kept_get2 ?_ (by assumption) | apply kept_with_cmx)

theorem kept_mboxStart (c : Nat) (cmd : Nat) (args : List Nat) {s : State} (hk : Kept cmds s) :
    Kept cmds (mboxStart c cmd args s) := by
  unfold mboxStart
  try dsimp only
  all_goals (with_reducible repeat' first | assumption | rfl | apply kept_ite | apply kept_ite_st | apply kept_ite_snd | apply kept_foldS | apply kept_setReg | apply kept_wf | (intro _ _ _) | (intro _ _) | split | refine kept_snd ?_ (by assumption) | refine kept_snd2 ?_ (by assumption) | refine kept_st ?_ (by assumption) | refine kept_get ?_ (by assumption) | refine kept_get2 ?_ (by assumption) | apply kept_with_cmx)

theorem kept_mboxStep (c : Nat) (code : Nat) (arg : Nat) {s : State} (hk : Kept cmds s) :
    Kept cmds (mboxStep c code arg s) := by
  unfold mboxStep
  try dsimp only
  all_goals (with_reducible repeat' first | assumption | rfl | apply kept_wf | split | refine kept_snd ?_ (by assumption) | refine kept_snd2 ?_ (by assumption) | refine kept_st ?_ (by assumption) | refine kept_get ?_ (by assumption) | refine kept_get2 ?_ (by assumption) | apply kept_with_cmx)

theorem kept_stepEnds (code : Nat) (status : Nat) (res : List Nat) {s : State} (hk : Kept cmds s) :
    Kept cmds (stepEnds code status res s) := by
  unfold stepEnds
  try dsimp only
  all_goals (with_reducible repeat' first | assumption | rfl | apply kept_mboxDone | split)

end Sys2Proof.Machine
end

