-- ==== Sys2Proof/Laws/KeptLog.lean ====
section
/-! SUPPORT. What the operations of Machine/Log keep (Laws/Kept). -/

namespace Sys2Proof.Machine

variable {cmds : List Instr}

theorem kept_logLoss {s : State} (hk : Kept cmds s) :
    Kept cmds (logLoss s) := by
  unfold logLoss
  try dsimp only
  all_goals (with_reducible repeat' first | assumption | rfl | apply kept_ite | apply kept_ite_st | apply kept_ite_snd | apply kept_raise | split | refine kept_snd ?_ (by assumption) | refine kept_snd2 ?_ (by assumption) | refine kept_st ?_ (by assumption) | refine kept_get ?_ (by assumption) | refine kept_get2 ?_ (by assumption) | apply kept_with_hlt)

theorem kept_logWrite {s : State} (hk : Kept cmds s) :
    Kept cmds (logWrite s) := by
  unfold logWrite
  grind [kept_emit, kept_logLoss, kept_setReg, kept_wf, kept_mk, Kept]

theorem kept_logFlush (x0 : Nat) {x1 : State} (hk : Kept cmds x1) :
    Kept cmds (logFlush x0 x1) := by
  fun_induction logFlush
  all_goals (with_reducible repeat' first | assumption | rfl | apply_assumption | apply kept_logWrite)

theorem kept_readLog (c : Nat) {s : State} (hk : Kept cmds s) :
    Kept cmds (readLog c s) := by
  unfold readLog
  try dsimp only
  all_goals (with_reducible repeat' first | assumption | rfl | apply kept_ite | apply kept_ite_st | apply kept_ite_snd | apply kept_mboxDone | apply kept_setReg)

theorem kept_logReadWrite (v : Nat) {s : State} (hk : Kept cmds s) :
    Kept cmds (logReadWrite v s).st := by
  unfold logReadWrite
  try dsimp only
  all_goals (with_reducible repeat' first | assumption | rfl | apply kept_ite | apply kept_ite_st | apply kept_ite_snd | apply kept_acc | apply kept_refuse | apply kept_setReg)

end Sys2Proof.Machine
end

