-- ==== Sys2Proof/Laws/KeptSurvey.lean ====
section
/-! SUPPORT. What the operations of Machine/Survey keep (Laws/Kept). -/

namespace Sys2Proof.Machine

variable {cmds : List Instr}

theorem kept_keepRecord (x : SurveyRec) {s : State} (hk : Kept cmds s) :
    Kept cmds (keepRecord x s) := by
  unfold keepRecord
  try dsimp only
  all_goals (with_reducible repeat' first | assumption | rfl | apply kept_ite | apply kept_ite_st | apply kept_ite_snd | split | refine kept_snd ?_ (by assumption) | refine kept_snd2 ?_ (by assumption) | refine kept_st ?_ (by assumption) | refine kept_get ?_ (by assumption) | refine kept_get2 ?_ (by assumption) | apply kept_with_hlt)

theorem kept_surveyShow {s : State} (hk : Kept cmds s) :
    Kept cmds (surveyShow s) := by
  unfold surveyShow
  try dsimp only
  all_goals (with_reducible repeat' first | assumption | rfl | apply kept_setReg | (intro _ _ _) | (intro _ _) | split)

theorem kept_surveyBegin (kind : Nat) (fw : Nat) (todo : List Nat) {s : State} (hk : Kept cmds s) :
    Kept cmds (surveyBegin kind fw todo s) := by
  unfold surveyBegin
  try dsimp only
  all_goals (with_reducible repeat' first | assumption | rfl | apply kept_ite | apply kept_ite_st | apply kept_ite_snd | apply kept_keepRecord | apply kept_surveyShow | split | refine kept_snd ?_ (by assumption) | refine kept_snd2 ?_ (by assumption) | refine kept_st ?_ (by assumption) | refine kept_get ?_ (by assumption) | refine kept_get2 ?_ (by assumption) | apply kept_with_hlt)

theorem kept_surveyEvent (x : SurveyRec) {s : State} (hk : Kept cmds s) :
    Kept cmds (surveyEvent x s) := by
  unfold surveyEvent
  try dsimp only
  all_goals (with_reducible repeat' first | assumption | rfl | apply kept_raise | split)

theorem kept_surveyEnd (cut : Nat) {s : State} (hk : Kept cmds s) :
    Kept cmds (surveyEnd cut s) := by
  unfold surveyEnd
  try dsimp only
  all_goals (with_reducible repeat' first | assumption | rfl | apply kept_keepRecord | apply kept_surveyEvent | apply kept_surveyShow | split | refine kept_snd ?_ (by assumption) | refine kept_snd2 ?_ (by assumption) | refine kept_st ?_ (by assumption) | refine kept_get ?_ (by assumption) | refine kept_get2 ?_ (by assumption) | apply kept_with_hlt)

end Sys2Proof.Machine
end

