-- ==== Sys2Proof/Laws/KeptTim.lean ====
section
/-! SUPPORT. What the operations of Machine/Tim keep (Laws/Kept). -/

namespace Sys2Proof.Machine

variable {cmds : List Instr}

theorem kept_State_setDom (d : Nat) (x : DomSt) {s : State} (hk : Kept cmds s) :
    Kept cmds (State.setDom d x s) := by
  unfold State.setDom
  try dsimp only
  all_goals (with_reducible repeat' first | assumption | rfl | split | refine kept_snd ?_ (by assumption) | refine kept_snd2 ?_ (by assumption) | refine kept_st ?_ (by assumption) | refine kept_get ?_ (by assumption) | refine kept_get2 ?_ (by assumption) | apply kept_with_tim)

theorem kept_noteAgree {s : State} (hk : Kept cmds s) :
    Kept cmds (noteAgree s) := by
  unfold noteAgree
  try dsimp only
  all_goals (with_reducible repeat' first | assumption | rfl | apply kept_ite | apply kept_ite_st | apply kept_ite_snd | apply kept_raise | apply kept_wf | split | refine kept_snd ?_ (by assumption) | refine kept_snd2 ?_ (by assumption) | refine kept_st ?_ (by assumption) | refine kept_get ?_ (by assumption) | refine kept_get2 ?_ (by assumption) | apply kept_with_tim)

theorem kept_setPtp (d : Nat) (n : Nat) {s : State} (hk : Kept cmds s) :
    Kept cmds (setPtp d n s) := by
  unfold setPtp
  try dsimp only
  all_goals (with_reducible repeat' first | assumption | rfl | apply kept_ite | apply kept_ite_st | apply kept_ite_snd | apply kept_noteAgree | apply kept_wf | split | refine kept_snd ?_ (by assumption) | refine kept_snd2 ?_ (by assumption) | refine kept_st ?_ (by assumption) | refine kept_get ?_ (by assumption) | refine kept_get2 ?_ (by assumption) | apply kept_with_tim)

theorem kept_domEnable (d : Nat) (en : Bool) {s : State} (hk : Kept cmds s) :
    Kept cmds (domEnable d en s) := by
  unfold domEnable
  try dsimp only
  all_goals (with_reducible repeat' first | assumption | rfl | apply kept_ite | apply kept_ite_st | apply kept_ite_snd | apply kept_State_setDom | apply kept_setPtp)

theorem kept_acceptDelay (d : Nat) (z : Int) {s : State} (hk : Kept cmds s) :
    Kept cmds (acceptDelay d z s) := by
  unfold acceptDelay
  try dsimp only
  all_goals (with_reducible repeat' first | assumption | rfl | apply kept_State_setDom | apply kept_setReg)

theorem kept_ptpExchange (d : Nat) (z : Int) {s : State} (hk : Kept cmds s) :
    Kept cmds (ptpExchange d z s) := by
  unfold ptpExchange
  try dsimp only
  all_goals (with_reducible repeat' first | assumption | rfl | apply kept_ite | apply kept_ite_st | apply kept_ite_snd | apply kept_State_setDom | apply kept_acceptDelay | apply kept_raise | apply kept_setPtp | apply kept_setReg | split)

theorem kept_ptpAnnounce (d : Nat) (rank : List Nat) (gm : Nat) {s : State} (hk : Kept cmds s) :
    Kept cmds (ptpAnnounce d rank gm s) := by
  unfold ptpAnnounce
  try dsimp only
  all_goals (with_reducible repeat' first | assumption | rfl | apply kept_ite | apply kept_ite_st | apply kept_ite_snd | apply kept_State_setDom | apply kept_raise | apply kept_setPtp | apply kept_setReg64)

theorem kept_ptpMessage (d : Nat) (m : PtpMsg) {s : State} (hk : Kept cmds s) :
    Kept cmds (ptpMessage d m s) := by
  unfold ptpMessage
  try dsimp only
  all_goals (with_reducible repeat' first | assumption | rfl | apply kept_ite | apply kept_ite_st | apply kept_ite_snd | apply kept_State_setDom | apply kept_inc | apply kept_ptpAnnounce | apply kept_ptpExchange | apply kept_setPtp | apply kept_setReg64 | split)

theorem kept_irigBad (e : Nat) (cause : Nat) {s : State} (hk : Kept cmds s) :
    Kept cmds (irigBad e cause s) := by
  unfold irigBad
  try dsimp only
  all_goals (with_reducible repeat' first | assumption | rfl | apply kept_ite | apply kept_ite_st | apply kept_ite_snd | apply kept_State_setRef | apply kept_dqEntry | apply kept_evalSelection | apply kept_inc | apply kept_raise)

theorem kept_irigFrame (e : Nat) (f : Irig) {s : State} (hk : Kept cmds s) :
    Kept cmds (irigFrame e f s) := by
  unfold irigFrame
  try dsimp only
  all_goals (with_reducible repeat' first | assumption | rfl | apply kept_ite | apply kept_ite_st | apply kept_ite_snd | apply kept_State_setRef | apply kept_evalSelection | apply kept_irigBad | apply kept_updateQl | split | refine kept_snd ?_ (by assumption) | refine kept_snd2 ?_ (by assumption) | refine kept_st ?_ (by assumption) | refine kept_get ?_ (by assumption) | refine kept_get2 ?_ (by assumption) | apply kept_with_tim)

theorem kept_setSource (n : Nat) {s : State} (hk : Kept cmds s) :
    Kept cmds (setSource n s) := by
  unfold setSource
  try dsimp only
  all_goals (with_reducible repeat' first | assumption | rfl | apply kept_wf | split | refine kept_snd ?_ (by assumption) | refine kept_snd2 ?_ (by assumption) | refine kept_st ?_ (by assumption) | refine kept_get ?_ (by assumption) | refine kept_get2 ?_ (by assumption) | apply kept_with_tim)

theorem kept_edgeSource {s : State} (hk : Kept cmds s) :
    Kept cmds (edgeSource s) := by
  unfold edgeSource
  try dsimp only
  all_goals (with_reducible repeat' first | assumption | rfl | apply kept_ite | apply kept_ite_st | apply kept_ite_snd | apply kept_raise | apply kept_setSource | split | refine kept_snd ?_ (by assumption) | refine kept_snd2 ?_ (by assumption) | refine kept_st ?_ (by assumption) | refine kept_get ?_ (by assumption) | refine kept_get2 ?_ (by assumption) | apply kept_with_tim)

theorem kept_setLabel (n : Nat) {s : State} (hk : Kept cmds s) :
    Kept cmds (setLabel n s) := by
  unfold setLabel
  try dsimp only
  all_goals (with_reducible repeat' first | assumption | rfl | apply kept_setReg64)

theorem kept_nameSecond (n : Nat) (src : Nat) {s : State} (hk : Kept cmds s) :
    Kept cmds (nameSecond n src s) := by
  unfold nameSecond
  try dsimp only
  all_goals (with_reducible repeat' first | assumption | rfl | apply kept_ite | apply kept_ite_st | apply kept_ite_snd | apply kept_raise | apply kept_setLabel | apply kept_wf | split | refine kept_snd ?_ (by assumption) | refine kept_snd2 ?_ (by assumption) | refine kept_st ?_ (by assumption) | refine kept_get ?_ (by assumption) | refine kept_get2 ?_ (by assumption) | apply kept_with_tim)

theorem kept_judgeCandidate (c : Nat) {s : State} (hk : Kept cmds s) :
    Kept cmds (judgeCandidate c s) := by
  unfold judgeCandidate
  try dsimp only
  all_goals (with_reducible repeat' first | assumption | rfl | apply kept_ite | apply kept_ite_st | apply kept_ite_snd | apply kept_nameSecond | apply kept_raise | apply kept_wf | split | refine kept_snd ?_ (by assumption) | refine kept_snd2 ?_ (by assumption) | refine kept_st ?_ (by assumption) | refine kept_get ?_ (by assumption) | refine kept_get2 ?_ (by assumption) | apply kept_with_tim)

theorem kept_noCandidate {s : State} (hk : Kept cmds s) :
    Kept cmds (noCandidate s) := by
  unfold noCandidate
  try dsimp only
  all_goals (with_reducible repeat' first | assumption | rfl | split | refine kept_snd ?_ (by assumption) | refine kept_snd2 ?_ (by assumption) | refine kept_st ?_ (by assumption) | refine kept_get ?_ (by assumption) | refine kept_get2 ?_ (by assumption) | apply kept_with_tim)

theorem kept_edgeCandidate {s : State} (hk : Kept cmds s) :
    Kept cmds (edgeCandidate s) := by
  unfold edgeCandidate
  try dsimp only
  all_goals (with_reducible repeat' first | assumption | rfl | apply kept_ite | apply kept_ite_st | apply kept_ite_snd | apply kept_judgeCandidate | apply kept_noCandidate | apply kept_raise | split)

theorem kept_edgeLabel {s : State} (hk : Kept cmds s) :
    Kept cmds (edgeLabel s) := by
  unfold edgeLabel
  try dsimp only
  all_goals (with_reducible repeat' first | assumption | rfl | apply kept_ite | apply kept_ite_st | apply kept_ite_snd | apply kept_nameSecond | apply kept_setLabel | apply kept_wf | split | refine kept_snd ?_ (by assumption) | refine kept_snd2 ?_ (by assumption) | refine kept_st ?_ (by assumption) | refine kept_get ?_ (by assumption) | refine kept_get2 ?_ (by assumption) | apply kept_with_tim)

theorem kept_edgeTod {s : State} (hk : Kept cmds s) :
    Kept cmds (edgeTod s) := by
  unfold edgeTod
  try dsimp only
  all_goals (with_reducible repeat' first | assumption | rfl | apply kept_ite | apply kept_ite_st | apply kept_ite_snd | apply kept_setReg64 | apply kept_wf | split | refine kept_snd ?_ (by assumption) | refine kept_snd2 ?_ (by assumption) | refine kept_st ?_ (by assumption) | refine kept_get ?_ (by assumption) | refine kept_get2 ?_ (by assumption) | apply kept_with_tim)

theorem kept_timEdge {s : State} (hk : Kept cmds s) :
    Kept cmds (timEdge s) := by
  unfold timEdge
  try dsimp only
  all_goals (with_reducible repeat' first | assumption | rfl | apply kept_ite | apply kept_ite_st | apply kept_ite_snd | apply kept_edgeCandidate | apply kept_edgeLabel | apply kept_edgeSource | apply kept_edgeTod | split | refine kept_snd ?_ (by assumption) | refine kept_snd2 ?_ (by assumption) | refine kept_st ?_ (by assumption) | refine kept_get ?_ (by assumption) | refine kept_get2 ?_ (by assumption) | apply kept_with_tim)

theorem kept_evtTick (i : Nat) (k : Nat) {s : State} (hk : Kept cmds s) :
    Kept cmds (evtTick i k s) := by
  unfold evtTick
  try dsimp only
  all_goals (with_reducible repeat' first | assumption | rfl | apply kept_ite | apply kept_ite_st | apply kept_ite_snd | apply kept_emit | apply kept_inc | split | refine kept_snd ?_ (by assumption) | refine kept_snd2 ?_ (by assumption) | refine kept_st ?_ (by assumption) | refine kept_get ?_ (by assumption) | refine kept_get2 ?_ (by assumption) | apply kept_with_tim)

theorem kept_frameTick (old : Nat) (new : Nat) (n : Nat) {s : State} (hk : Kept cmds s) :
    Kept cmds (frameTick old new n s) := by
  unfold frameTick
  try dsimp only
  all_goals (with_reducible repeat' first | assumption | rfl | apply kept_ite | apply kept_ite_st | apply kept_ite_snd | apply kept_emit | split | refine kept_snd ?_ (by assumption) | refine kept_snd2 ?_ (by assumption) | refine kept_st ?_ (by assumption) | refine kept_get ?_ (by assumption) | refine kept_get2 ?_ (by assumption) | apply kept_with_mer)

theorem kept_meridianTick {s : State} (hk : Kept cmds s) :
    Kept cmds (meridianTick s) := by
  unfold meridianTick
  grind [kept_evtTick, kept_foldS, kept_frameTick, kept_mk, Kept]

theorem kept_timBasicWrite (v : Nat) {s : State} (hk : Kept cmds s) :
    Kept cmds (timBasicWrite v s).st := by
  unfold timBasicWrite
  try dsimp only
  all_goals (with_reducible repeat' first | assumption | rfl | apply kept_ite | apply kept_ite_st | apply kept_ite_snd | apply kept_acc | apply kept_domEnable | apply kept_refuse | apply kept_setReg | apply kept_storeBits | apply kept_wf | split | refine kept_snd ?_ (by assumption) | refine kept_snd2 ?_ (by assumption) | refine kept_st ?_ (by assumption) | refine kept_get ?_ (by assumption) | refine kept_get2 ?_ (by assumption) | apply kept_with_tim)

theorem kept_ptpAccept (d : Nat) {s : State} (hk : Kept cmds s) :
    Kept cmds (ptpAccept d s) := by
  unfold ptpAccept
  try dsimp only
  all_goals (with_reducible repeat' first | assumption | rfl | apply kept_ite | apply kept_ite_st | apply kept_ite_snd | apply kept_acceptDelay | apply kept_setPtp)

theorem kept_ptpReset (d : Nat) {s : State} (hk : Kept cmds s) :
    Kept cmds (ptpReset d s) := by
  unfold ptpReset
  try dsimp only
  all_goals (with_reducible repeat' first | assumption | rfl | apply kept_ite | apply kept_ite_st | apply kept_ite_snd | apply kept_State_setDom | apply kept_setPtp)

theorem kept_timCtrlWrite (v : Nat) {s : State} (hk : Kept cmds s) :
    Kept cmds (timCtrlWrite v s) := by
  unfold timCtrlWrite
  try dsimp only
  all_goals (with_reducible repeat' first | assumption | rfl | apply kept_ite | apply kept_ite_st | apply kept_ite_snd | apply kept_ptpAccept | apply kept_ptpReset | split | refine kept_snd ?_ (by assumption) | refine kept_snd2 ?_ (by assumption) | refine kept_st ?_ (by assumption) | refine kept_get ?_ (by assumption) | refine kept_get2 ?_ (by assumption) | apply kept_with_tim)

theorem kept_incrCommit (v : Nat) {s : State} (hk : Kept cmds s) :
    Kept cmds (incrCommit v s).st := by
  unfold incrCommit
  have h1 : Kept cmds { s with tim := { s.tim with incrHeld := none } } := kept_with_tim _ hk
  generalize (s.tim.incrHeld.getD (s.reg TIM_INCR_HI)) = hi
  generalize { s with tim := { s.tim with incrHeld := none } } = u at h1 ⊢
  exact kept_ite_st (kept_refuse _ _ _ h1) (kept_wf _ _ (kept_with_tim _ (kept_setReg _ _ (kept_setReg _ _ h1))))

theorem kept_evtCfgWrite (k : Nat) (v : Nat) {s : State} (hk : Kept cmds s) :
    Kept cmds (evtCfgWrite k v s).st := by
  unfold evtCfgWrite
  try dsimp only
  all_goals (with_reducible repeat' first | assumption | rfl | apply kept_ite | apply kept_ite_st | apply kept_ite_snd | apply kept_acc | apply kept_raise | apply kept_refuse | apply kept_storeBits | split | refine kept_snd ?_ (by assumption) | refine kept_snd2 ?_ (by assumption) | refine kept_st ?_ (by assumption) | refine kept_get ?_ (by assumption) | refine kept_get2 ?_ (by assumption) | apply kept_with_tim)

theorem kept_timCntClear (v : Nat) {s : State} (hk : Kept cmds s) :
    Kept cmds (timCntClear v s) := by
  unfold timCntClear
  try dsimp only
  all_goals (with_reducible repeat' first | assumption | rfl | apply kept_ite | apply kept_ite_st | apply kept_ite_snd | apply kept_zero)

theorem kept_timWrite (off : Nat) (v : Nat) {s : State} (hk : Kept cmds s) :
    ∀ r, timWrite off v s = some r → Kept cmds r.st := by
  unfold timWrite
  refine kept_ite_opt (kept_some (kept_timBasicWrite _ hk)) ?_
  refine kept_ite_opt (kept_some (kept_timCtrlWrite _ hk)) ?_
  have h := kept_storeBits TIM_SRC_CFG 0x73 v hk
  refine kept_ite_opt (kept_some (kept_ite_st (kept_refuse _ _ _ hk) (kept_acc (kept_with_tim _ h)))) ?_
  refine kept_ite_opt (kept_some (kept_incrCommit _ hk)) ?_
  refine kept_ite_opt (kept_some (kept_acc (kept_with_tim _ hk))) ?_
  refine kept_ite_opt (kept_some (kept_acc (kept_timCntClear _ hk))) ?_
  refine kept_ite_opt (kept_some (kept_acc (kept_domEnable _ _ (kept_storeBits _ _ _ hk)))) ?_
  exact kept_ite_opt (kept_ite_opt (kept_some (kept_evtCfgWrite _ _ hk)) (kept_ite_opt (kept_some (kept_refuse _ _ _ hk)) kept_none)) kept_none

theorem kept_execPtpMessageRx (domain : Fin 2) (msg : PtpMsg) {s : State} (hk : Kept cmds s) :
    ∀ t, execPtpMessageRx domain msg s = .next t → Kept cmds t := by
  intro t ht
  unfold execPtpMessageRx at ht
  try dsimp only at ht
  all_goals (repeat' first | (cases ht) | split at ht)
  all_goals (with_reducible repeat' first | assumption | rfl | apply kept_ptpMessage)

theorem kept_execIrigFrame (entry : Fin 4) (f : Irig) {s : State} (hk : Kept cmds s) :
    ∀ t, execIrigFrame entry f s = .next t → Kept cmds t := by
  intro t ht
  unfold execIrigFrame at ht
  try dsimp only at ht
  all_goals (repeat' first | (cases ht) | split at ht)
  all_goals (with_reducible repeat' first | assumption | rfl | apply kept_irigFrame)

end Sys2Proof.Machine
end

