-- ==== Sys2Proof/Laws/KeptTrust.lean ====
section
/-! SUPPORT. What the operations of Machine/Trust keep (Laws/Kept). -/

namespace Sys2Proof.Machine

variable {cmds : List Instr}

theorem kept_flashPut (a : Nat) (bs : List Byte) {s : State} (hk : Kept cmds s) :
    Kept cmds (flashPut a bs s) := by
  unfold flashPut
  try dsimp only
  all_goals (with_reducible repeat' first | assumption | rfl | apply kept_foldS | (intro _ _ _) | (intro _ _) | split | refine kept_snd ?_ (by assumption) | refine kept_snd2 ?_ (by assumption) | refine kept_st ?_ (by assumption) | refine kept_get ?_ (by assumption) | refine kept_get2 ?_ (by assumption) | apply kept_with_tru)

theorem kept_flashErase (a : Nat) (n : Nat) {s : State} (hk : Kept cmds s) :
    Kept cmds (flashErase a n s) := by
  unfold flashErase
  try dsimp only
  all_goals (with_reducible repeat' first | assumption | rfl | (intro _ _ _) | (intro _ _) | split | refine kept_snd ?_ (by assumption) | refine kept_snd2 ?_ (by assumption) | refine kept_st ?_ (by assumption) | refine kept_get ?_ (by assumption) | refine kept_get2 ?_ (by assumption) | apply kept_with_tru)

theorem kept_setSlotSt (k : Nat) (st : Nat) (tries : Nat) {s : State} (hk : Kept cmds s) :
    Kept cmds (setSlotSt k st tries s) := by
  unfold setSlotSt
  try dsimp only
  all_goals (with_reducible repeat' first | assumption | rfl | split | refine kept_snd ?_ (by assumption) | refine kept_snd2 ?_ (by assumption) | refine kept_st ?_ (by assumption) | refine kept_get ?_ (by assumption) | refine kept_get2 ?_ (by assumption) | apply kept_with_tru)

theorem kept_rollback (ver : Nat) (floor : Nat) {s : State} (hk : Kept cmds s) :
    Kept cmds (rollback ver floor s) := by
  unfold rollback
  try dsimp only
  all_goals (with_reducible repeat' first | assumption | rfl | apply kept_raise)

theorem kept_verifyFailed (k : Nat) (check : Nat) {s : State} (hk : Kept cmds s) :
    Kept cmds (verifyFailed k check s) := by
  unfold verifyFailed
  try dsimp only
  all_goals (with_reducible repeat' first | assumption | rfl | apply kept_ite | apply kept_ite_st | apply kept_ite_snd | apply kept_raise | apply kept_rollback | apply kept_setSlotSt)

theorem kept_setArea (i : Nat) (x : SetArea) {s : State} (hk : Kept cmds s) :
    Kept cmds (setArea i x s) := by
  unfold setArea
  try dsimp only
  all_goals (with_reducible repeat' first | assumption | rfl | apply kept_ite | apply kept_ite_st | apply kept_ite_snd | split | refine kept_snd ?_ (by assumption) | refine kept_snd2 ?_ (by assumption) | refine kept_st ?_ (by assumption) | refine kept_get ?_ (by assumption) | refine kept_get2 ?_ (by assumption) | apply kept_with_tru)

theorem kept_saveSettings {s : State} (hk : Kept cmds s) :
    Kept cmds (saveSettings s) := by
  unfold saveSettings
  try dsimp only
  all_goals (with_reducible repeat' first | assumption | rfl | apply kept_ite | apply kept_ite_st | apply kept_ite_snd | apply kept_setArea)

theorem kept_restoreItems (items : List (Nat × Word)) (keep : Nat → Bool) {s : State} (hk : Kept cmds s) :
    Kept cmds (restoreItems items keep s) := by
  unfold restoreItems
  try dsimp only
  all_goals (with_reducible repeat' first | assumption | rfl | apply kept_ite | apply kept_ite_st | apply kept_ite_snd | apply kept_foldS | apply kept_setReg | (intro _ _ _))

theorem kept_restoreSettings (keep : Nat → Bool) {s : State} (hk : Kept cmds s) :
    Kept cmds (restoreSettings keep s) := by
  unfold restoreSettings
  try dsimp only
  all_goals (with_reducible repeat' first | assumption | rfl | apply kept_ite | apply kept_ite_st | apply kept_ite_snd | apply kept_raise | apply kept_restoreItems | apply kept_setArea | split | refine kept_snd ?_ (by assumption) | refine kept_snd2 ?_ (by assumption) | refine kept_st ?_ (by assumption) | refine kept_get ?_ (by assumption) | refine kept_get2 ?_ (by assumption) | apply kept_with_tru)

theorem kept_confirmRest (k : Nat) {s : State} (hk : Kept cmds s) :
    Kept cmds (confirmRest k s) := by
  unfold confirmRest
  try dsimp only
  all_goals (with_reducible repeat' first | assumption | rfl | apply kept_raise | apply kept_setArea | apply kept_setSlotSt | split)

theorem kept_runImage (k : Nat) {s : State} (hk : Kept cmds s) :
    Kept cmds (runImage k s) := by
  unfold runImage
  try dsimp only
  all_goals (with_reducible repeat' first | assumption | rfl | apply kept_ite | apply kept_ite_st | apply kept_ite_snd | apply kept_raise | apply kept_setReg | split | refine kept_snd ?_ (by assumption) | refine kept_snd2 ?_ (by assumption) | refine kept_st ?_ (by assumption) | refine kept_get ?_ (by assumption) | refine kept_get2 ?_ (by assumption) | apply kept_with_tru)

theorem kept_bootConfirmed {s : State} (hk : Kept cmds s) :
    Kept cmds (bootConfirmed s) := by
  unfold bootConfirmed
  try dsimp only
  all_goals (with_reducible repeat' first | assumption | rfl | apply kept_ite | apply kept_ite_st | apply kept_ite_snd | apply kept_raise | apply kept_runImage | apply kept_verifyFailed | split | refine kept_snd ?_ (by assumption) | refine kept_snd2 ?_ (by assumption) | refine kept_st ?_ (by assumption) | refine kept_get ?_ (by assumption) | refine kept_get2 ?_ (by assumption) | apply kept_with_tru)

theorem kept_bootSelect {s : State} (hk : Kept cmds s) :
    Kept cmds (bootSelect s) := by
  unfold bootSelect
  try dsimp only
  all_goals (with_reducible repeat' first | assumption | rfl | apply kept_ite | apply kept_ite_st | apply kept_ite_snd | apply kept_bootConfirmed | apply kept_confirmRest | apply kept_raise | apply kept_runImage | apply kept_setSlotSt | apply kept_verifyFailed | split)

theorem kept_flashBusy (b : Bool) {s : State} (hk : Kept cmds s) :
    Kept cmds (flashBusy b s) := by
  unfold flashBusy
  try dsimp only
  all_goals (with_reducible repeat' first | assumption | rfl | apply kept_wf)

theorem kept_writeFails (k : Nat) {s : State} (hk : Kept cmds s) :
    Kept cmds (writeFails k s) := by
  unfold writeFails
  try dsimp only
  all_goals (with_reducible repeat' first | assumption | rfl | apply kept_flashBusy | apply kept_flashErase | apply kept_setSlotSt | split | refine kept_snd ?_ (by assumption) | refine kept_snd2 ?_ (by assumption) | refine kept_st ?_ (by assumption) | refine kept_get ?_ (by assumption) | refine kept_get2 ?_ (by assumption) | apply kept_with_tru)

theorem kept_updateWrite (c : Nat) (sub : Nat) (a : Nat) (len : Nat) {s : State} (hk : Kept cmds s) :
    Kept cmds (updateWrite c sub a len s) := by
  unfold updateWrite
  try dsimp only
  all_goals (with_reducible repeat' first | assumption | rfl | apply kept_ite | apply kept_ite_st | apply kept_ite_snd | apply kept_flashBusy | apply kept_flashErase | apply kept_hbmGet | apply kept_mboxDone | apply kept_mboxStep | apply kept_raise | apply kept_rollback | apply kept_setSlotSt | split | refine kept_snd ?_ (by assumption) | refine kept_snd2 ?_ (by assumption) | refine kept_st ?_ (by assumption) | refine kept_get ?_ (by assumption) | refine kept_get2 ?_ (by assumption) | apply kept_with_tru)

theorem kept_programEnd (good : Bool) {s : State} (hk : Kept cmds s) :
    Kept cmds (programEnd good s) := by
  unfold programEnd
  try dsimp only
  all_goals (with_reducible repeat' first | assumption | rfl | apply kept_ite | apply kept_ite_st | apply kept_ite_snd | apply kept_flashBusy | apply kept_flashPut | apply kept_setSlotSt | apply kept_stepEnds | apply kept_writeFails | split | refine kept_snd ?_ (by assumption) | refine kept_snd2 ?_ (by assumption) | refine kept_st ?_ (by assumption) | refine kept_get ?_ (by assumption) | refine kept_get2 ?_ (by assumption) | apply kept_with_tru)

theorem kept_updateConfirm (c : Nat) (force : Bool) {s : State} (hk : Kept cmds s) :
    Kept cmds (updateConfirm c force s) := by
  unfold updateConfirm
  try dsimp only
  all_goals (with_reducible repeat' first | assumption | rfl | apply kept_ite | apply kept_ite_st | apply kept_ite_snd | apply kept_confirmRest | apply kept_mboxDone | apply kept_rollback | split | refine kept_snd ?_ (by assumption) | refine kept_snd2 ?_ (by assumption) | refine kept_st ?_ (by assumption) | refine kept_get ?_ (by assumption) | refine kept_get2 ?_ (by assumption) | apply kept_with_tru)

theorem kept_updateStatus (c : Nat) {s : State} (hk : Kept cmds s) :
    Kept cmds (updateStatus c s) := by
  unfold updateStatus
  try dsimp only
  all_goals (with_reducible repeat' first | assumption | rfl | apply kept_mboxDone)

theorem kept_installTicket (t : Ticket) {s : State} (hk : Kept cmds s) :
    Kept cmds (installTicket t s) := by
  unfold installTicket
  try dsimp only
  all_goals (with_reducible repeat' first | assumption | rfl | apply kept_ite | apply kept_ite_st | apply kept_ite_snd | (intro _ _ _) | (intro _ _) | split | refine kept_snd ?_ (by assumption) | refine kept_snd2 ?_ (by assumption) | refine kept_st ?_ (by assumption) | refine kept_get ?_ (by assumption) | refine kept_get2 ?_ (by assumption) | apply kept_with_tru)

theorem kept_updateTicket (c : Nat) (a : Nat) (len : Nat) {s : State} (hk : Kept cmds s) :
    Kept cmds (updateTicket c a len s) := by
  unfold updateTicket
  try dsimp only
  all_goals (with_reducible repeat' first | assumption | rfl | apply kept_ite | apply kept_ite_st | apply kept_ite_snd | apply kept_hbmGet | apply kept_installTicket | apply kept_mboxDone | split | refine kept_snd ?_ (by assumption) | refine kept_snd2 ?_ (by assumption) | refine kept_st ?_ (by assumption) | refine kept_get ?_ (by assumption) | refine kept_get2 ?_ (by assumption) | apply kept_with_tru)

theorem kept_updateKeys (c : Nat) (q : KeyReq) {s : State} (hk : Kept cmds s) :
    Kept cmds (updateKeys c q s) := by
  unfold updateKeys
  try dsimp only
  all_goals (with_reducible repeat' first | assumption | rfl | apply kept_ite | apply kept_ite_st | apply kept_ite_snd | apply kept_mboxDone | split | refine kept_snd ?_ (by assumption) | refine kept_snd2 ?_ (by assumption) | refine kept_st ?_ (by assumption) | refine kept_get ?_ (by assumption) | refine kept_get2 ?_ (by assumption) | apply kept_with_tru)

theorem kept_tokenWrite (i : Nat) (v : Nat) {s : State} (hk : Kept cmds s) :
    Kept cmds (tokenWrite i v s) := by
  unfold tokenWrite
  try dsimp only
  all_goals (with_reducible repeat' first | assumption | rfl | apply kept_ite | apply kept_ite_st | apply kept_ite_snd | apply kept_raise | apply kept_setReg | (intro _ _ _) | (intro _ _) | split | refine kept_snd ?_ (by assumption) | refine kept_snd2 ?_ (by assumption) | refine kept_st ?_ (by assumption) | refine kept_get ?_ (by assumption) | refine kept_get2 ?_ (by assumption) | apply kept_with_tru)

theorem kept_recData (v : Nat) {s : State} (hk : Kept cmds s) :
    Kept cmds (recData v s).st := by
  unfold recData
  try dsimp only
  all_goals (with_reducible repeat' first | assumption | rfl | apply kept_ite | apply kept_ite_st | apply kept_ite_snd | apply kept_acc | apply kept_flashPut | apply kept_raise | apply kept_refuse | split | refine kept_snd ?_ (by assumption) | refine kept_snd2 ?_ (by assumption) | refine kept_st ?_ (by assumption) | refine kept_get ?_ (by assumption) | refine kept_get2 ?_ (by assumption) | apply kept_with_tru)

theorem kept_recCopy {s : State} (hk : Kept cmds s) :
    Kept cmds (recCopy s) := by
  unfold recCopy
  try dsimp only
  all_goals (with_reducible repeat' first | assumption | rfl | apply kept_flashErase | apply kept_flashPut | apply kept_setSlotSt | split | refine kept_snd ?_ (by assumption) | refine kept_snd2 ?_ (by assumption) | refine kept_st ?_ (by assumption) | refine kept_get ?_ (by assumption) | refine kept_get2 ?_ (by assumption) | apply kept_with_tru)

end Sys2Proof.Machine
end

