-- ==== Sys2Proof/Laws/KeptWaymarks.lean ====
section
/-! SUPPORT. What the operations of Machine/Waymarks keep (Laws/Kept). -/

namespace Sys2Proof.Machine

variable {cmds : List Instr}

theorem kept_rsyApply (w : Waymark) {s : State} (hk : Kept cmds s) :
    Kept cmds (rsyApply w s) := by
  unfold rsyApply
  try dsimp only
  all_goals (with_reducible repeat' first | assumption | rfl | apply kept_ite | apply kept_ite_st | apply kept_ite_snd | apply kept_genApply | (intro _ _ _) | (intro _ _) | split | refine kept_snd ?_ (by assumption) | refine kept_snd2 ?_ (by assumption) | refine kept_st ?_ (by assumption) | refine kept_get ?_ (by assumption) | refine kept_get2 ?_ (by assumption) | apply kept_with_rsy)

theorem kept_calWindow (w : Waymark) {s : State} (hk : Kept cmds s) :
    Kept cmds (calWindow w s) := by
  unfold calWindow
  try dsimp only
  all_goals (with_reducible repeat' first | assumption | rfl | apply kept_acc | split | refine kept_snd ?_ (by assumption) | refine kept_snd2 ?_ (by assumption) | refine kept_st ?_ (by assumption) | refine kept_get ?_ (by assumption) | refine kept_get2 ?_ (by assumption) | apply kept_with_acc)

theorem kept_accApply (w : Waymark) {s : State} (hk : Kept cmds s) :
    Kept cmds (accApply w s) := by
  unfold accApply
  try dsimp only
  all_goals (with_reducible repeat' first | assumption | rfl | apply kept_ite | apply kept_ite_st | apply kept_ite_snd | apply kept_genApply)

theorem kept_unitApply (u : Nat) (w : Waymark) {s : State} (hk : Kept cmds s) :
    Kept cmds (unitApply u w s) := by
  unfold unitApply
  try dsimp only
  all_goals (with_reducible repeat' first | assumption | rfl | apply kept_ite | apply kept_ite_st | apply kept_ite_snd | apply kept_accApply | apply kept_chnApply | apply kept_decApply | apply kept_genApply | apply kept_rsyApply | apply kept_stgApply | apply kept_trpMark | apply kept_xarApply | split)

theorem kept_handOn (u : Nat) (w : Waymark) {s : State} (hk : Kept cmds s) :
    Kept cmds (handOn u w s) := by
  unfold handOn
  try dsimp only
  all_goals (with_reducible repeat' first | assumption | rfl | apply kept_ite | apply kept_ite_st | apply kept_ite_snd | apply kept_accCarry | apply kept_grtMark | apply kept_passMark | apply kept_stgForward)

theorem kept_applyAt (u : Nat) (w : Waymark) {s : State} (hk : Kept cmds s) :
    Kept cmds (applyAt u w s) := by
  unfold applyAt
  try dsimp only
  all_goals (with_reducible repeat' first | assumption | rfl | apply kept_ite | apply kept_ite_st | apply kept_ite_snd | apply kept_handOn | apply kept_noteApplied | apply kept_unitApply)

theorem kept_applyKind (u : Nat) (kind : Nat) {s : State} (hk : Kept cmds s) :
    Kept cmds (applyKind u kind s) := by
  unfold applyKind
  try dsimp only
  all_goals (with_reducible repeat' first | assumption | rfl | apply kept_ite | apply kept_ite_st | apply kept_ite_snd | apply kept_applyAt | apply kept_setHeld | split)

theorem kept_dropStartStop (f : Field) {s : State} (hk : Kept cmds s) :
    Kept cmds (dropStartStop f s) := by
  unfold dropStartStop
  try dsimp only
  all_goals (with_reducible repeat' first | assumption | rfl | apply kept_ite | apply kept_ite_st | apply kept_ite_snd | apply kept_wf)

theorem kept_epochDiscard (u : Nat) {s : State} (hk : Kept cmds s) :
    Kept cmds (epochDiscard u s) := by
  unfold epochDiscard
  try dsimp only
  all_goals (with_reducible repeat' first | assumption | rfl | apply kept_ite | apply kept_ite_st | apply kept_ite_snd | apply kept_State_setAplan | apply kept_abortInteg | apply kept_acc | apply kept_dropStartStop | apply kept_foldS | apply kept_setHeld | (intro _ _ _) | (intro _ _) | split | refine kept_snd ?_ (by assumption) | refine kept_snd2 ?_ (by assumption) | refine kept_st ?_ (by assumption) | refine kept_get ?_ (by assumption) | refine kept_get2 ?_ (by assumption) | apply kept_with_dec | apply kept_with_wm | apply kept_with_chn | apply kept_with_grt | apply kept_with_stg | apply kept_with_trp | apply kept_with_brg | apply kept_with_xar | apply kept_with_acc | apply kept_with_rsy)

theorem kept_epochApply (u : Nat) {s : State} (hk : Kept cmds s) :
    Kept cmds (epochApply u s) := by
  unfold epochApply
  grind [kept_brgRenumber, kept_foldS, kept_syncReset, kept_mk, Kept]

theorem kept_epochMark (u : Nat) (w : Waymark) {s : State} (hk : Kept cmds s) :
    Kept cmds (epochMark u w s) := by
  unfold epochMark
  try dsimp only
  all_goals (with_reducible repeat' first | assumption | rfl | apply kept_ite | apply kept_ite_st | apply kept_ite_snd | apply kept_epochApply | apply kept_epochDiscard | apply kept_handOn | apply kept_logOpen | apply kept_noteApplied | split | refine kept_snd ?_ (by assumption) | refine kept_snd2 ?_ (by assumption) | refine kept_st ?_ (by assumption) | refine kept_get ?_ (by assumption) | refine kept_get2 ?_ (by assumption) | apply kept_with_mer)

theorem kept_epochZero {s : State} (hk : Kept cmds s) :
    Kept cmds (epochZero s) := by
  unfold epochZero
  try dsimp only
  all_goals (with_reducible repeat' first | assumption | rfl | apply kept_foldS | apply kept_wf | (intro _ _ _) | (intro _ _) | split | refine kept_snd ?_ (by assumption) | refine kept_snd2 ?_ (by assumption) | refine kept_st ?_ (by assumption) | refine kept_get ?_ (by assumption) | refine kept_get2 ?_ (by assumption) | apply kept_with_mer | apply kept_with_tim)

theorem kept_epochSend (label : Nat) {s : State} (hk : Kept cmds s) :
    Kept cmds (epochSend label s) := by
  unfold epochSend
  grind [kept_mk, Kept]

theorem kept_epochBegin (label : Nat) {s : State} (hk : Kept cmds s) :
    Kept cmds (epochBegin label s) := by
  unfold epochBegin
  try dsimp only
  all_goals (with_reducible repeat' first | assumption | rfl | apply kept_epochDiscard | apply kept_epochSend | apply kept_epochZero | apply kept_foldS | apply kept_raise)

theorem kept_epochDrop (c : Nat) (label : Nat) {s : State} (hk : Kept cmds s) :
    Kept cmds (epochDrop c label s) := by
  unfold epochDrop
  try dsimp only
  all_goals (with_reducible repeat' first | assumption | rfl | apply kept_raise | apply kept_wf | split | refine kept_snd ?_ (by assumption) | refine kept_snd2 ?_ (by assumption) | refine kept_st ?_ (by assumption) | refine kept_get ?_ (by assumption) | refine kept_get2 ?_ (by assumption) | apply kept_with_mer)

theorem kept_epochEdge {s : State} (hk : Kept cmds s) :
    Kept cmds (epochEdge s) := by
  unfold epochEdge
  grind [kept_epochBegin, kept_epochDrop, kept_mk, Kept]

theorem kept_offsetEdge {s : State} (hk : Kept cmds s) :
    Kept cmds (offsetEdge s) := by
  unfold offsetEdge
  try dsimp only
  all_goals (with_reducible repeat' first | assumption | rfl | apply kept_ite | apply kept_ite_st | apply kept_ite_snd | apply kept_foldS | (intro _ _ _) | (intro _ _) | split | refine kept_snd ?_ (by assumption) | refine kept_snd2 ?_ (by assumption) | refine kept_st ?_ (by assumption) | refine kept_get ?_ (by assumption) | refine kept_get2 ?_ (by assumption) | apply kept_with_mer)

theorem kept_ppsEdge {s : State} (hk : Kept cmds s) :
    Kept cmds (ppsEdge s) := by
  unfold ppsEdge
  try dsimp only
  all_goals (with_reducible repeat' first | assumption | rfl | apply kept_ite | apply kept_ite_st | apply kept_ite_snd | apply kept_emit | apply kept_foldS | (intro _ _ _) | (intro _ _) | split | refine kept_snd ?_ (by assumption) | refine kept_snd2 ?_ (by assumption) | refine kept_st ?_ (by assumption) | refine kept_get ?_ (by assumption) | refine kept_get2 ?_ (by assumption) | apply kept_with_mer)

theorem kept_internalEdge {s : State} (hk : Kept cmds s) :
    Kept cmds (internalEdge s) := by
  unfold internalEdge
  try dsimp only
  all_goals (with_reducible repeat' first | assumption | rfl | apply kept_ite | apply kept_ite_st | apply kept_ite_snd | apply kept_epochEdge | apply kept_offsetEdge | apply kept_ppsEdge | apply kept_timEdge | split | refine kept_snd ?_ (by assumption) | refine kept_snd2 ?_ (by assumption) | refine kept_st ?_ (by assumption) | refine kept_get ?_ (by assumption) | refine kept_get2 ?_ (by assumption) | apply kept_with_mer)

theorem kept_noteLate (w : Waymark) {s : State} (hk : Kept cmds s) :
    Kept cmds (noteLate w s) := by
  unfold noteLate
  try dsimp only
  all_goals (with_reducible repeat' first | assumption | rfl | apply kept_State_setAplan | apply kept_foldS | (intro _ _ _))

theorem kept_storeMark (u : Nat) (w : Waymark) {s : State} (hk : Kept cmds s) :
    Kept cmds (storeMark u w s) := by
  unfold storeMark
  try dsimp only
  all_goals (with_reducible repeat' first | assumption | rfl | apply kept_ite | apply kept_ite_st | apply kept_ite_snd | apply kept_calWindow | apply kept_handOn | apply kept_logOpen | apply kept_noteLate | apply kept_setHeld)

theorem kept_takeMark (u : Nat) (w : Waymark) {s : State} (hk : Kept cmds s) :
    Kept cmds (takeMark u w s) := by
  unfold takeMark
  try dsimp only
  all_goals (with_reducible repeat' first | assumption | rfl | apply kept_ite | apply kept_ite_st | apply kept_ite_snd | apply kept_dumpArrive | apply kept_handOn | apply kept_noteApplied | apply kept_stgModel | apply kept_storeMark | apply kept_xarArrive)

theorem kept_meetMark (u : Nat) (w : Waymark) {s : State} (hk : Kept cmds s) :
    Kept cmds (meetMark u w s) := by
  unfold meetMark
  try dsimp only
  all_goals (with_reducible repeat' first | assumption | rfl | apply kept_ite | apply kept_ite_st | apply kept_ite_snd | apply kept_epochMark | apply kept_logOpen | apply kept_takeMark | split | refine kept_snd ?_ (by assumption) | refine kept_snd2 ?_ (by assumption) | refine kept_st ?_ (by assumption) | refine kept_get ?_ (by assumption) | refine kept_get2 ?_ (by assumption) | apply kept_with_wm)

theorem kept_markArrive (u : Nat) {s : State} (hk : Kept cmds s) :
    Kept cmds (markArrive u s) := by
  unfold markArrive
  try dsimp only
  all_goals (with_reducible repeat' first | assumption | rfl | apply kept_ite | apply kept_ite_st | apply kept_ite_snd | apply kept_meetMark | apply kept_takeMark | (intro _ _ _) | (intro _ _) | split | refine kept_snd ?_ (by assumption) | refine kept_snd2 ?_ (by assumption) | refine kept_st ?_ (by assumption) | refine kept_get ?_ (by assumption) | refine kept_get2 ?_ (by assumption) | apply kept_with_wm)

theorem kept_meetKind (u : Nat) (kind : Nat) {s : State} (hk : Kept cmds s) :
    Kept cmds (meetKind u kind s) := by
  unfold meetKind
  try dsimp only
  all_goals (with_reducible repeat' first | assumption | rfl | apply kept_meetMark | (intro _ _ _) | (intro _ _) | split | refine kept_snd ?_ (by assumption) | refine kept_snd2 ?_ (by assumption) | refine kept_st ?_ (by assumption) | refine kept_get ?_ (by assumption) | refine kept_get2 ?_ (by assumption) | apply kept_with_wm)

theorem kept_probeMark (u : Nat) {s : State} (hk : Kept cmds s) :
    Kept cmds (probeMark u s) := by
  unfold probeMark
  try dsimp only
  all_goals (with_reducible repeat' first | assumption | rfl | apply kept_applyKind)

theorem kept_execEpochWaymark (unit : Fin 21) {s : State} (hk : Kept cmds s) :
    ∀ t, execEpochWaymark unit s = .next t → Kept cmds t := by
  intro t ht
  unfold execEpochWaymark at ht
  try dsimp only at ht
  all_goals (repeat' first | (cases ht) | split at ht)
  all_goals (with_reducible repeat' first | assumption | rfl | apply kept_meetKind)

theorem kept_execDumpWaymark (plan : Fin 16) {s : State} (hk : Kept cmds s) :
    ∀ t, execDumpWaymark plan s = .next t → Kept cmds t := by
  intro t ht
  unfold execDumpWaymark at ht
  try dsimp only at ht
  all_goals (repeat' first | (cases ht) | split at ht)
  all_goals (with_reducible repeat' first | assumption | rfl | apply kept_applyDump)

theorem kept_execFlushWaymark (unit : Fin 21) {s : State} (hk : Kept cmds s) :
    ∀ t, execFlushWaymark unit s = .next t → Kept cmds t := by
  intro t ht
  unfold execFlushWaymark at ht
  try dsimp only at ht
  all_goals (repeat' first | (cases ht) | split at ht)
  all_goals (with_reducible repeat' first | assumption | rfl | apply kept_applyKind)

theorem kept_execGainWaymark (unit : Fin 21) {s : State} (hk : Kept cmds s) :
    ∀ t, execGainWaymark unit s = .next t → Kept cmds t := by
  intro t ht
  unfold execGainWaymark at ht
  try dsimp only at ht
  all_goals (repeat' first | (cases ht) | split at ht)
  all_goals (with_reducible repeat' first | assumption | rfl | apply kept_applyKind)

theorem kept_execWswapWaymark (unit : Fin 21) {s : State} (hk : Kept cmds s) :
    ∀ t, execWswapWaymark unit s = .next t → Kept cmds t := by
  intro t ht
  unfold execWswapWaymark at ht
  try dsimp only at ht
  all_goals (repeat' first | (cases ht) | split at ht)
  all_goals (with_reducible repeat' first | assumption | rfl | apply kept_applyKind)

theorem kept_execHaltWaymark (unit : Fin 21) {s : State} (hk : Kept cmds s) :
    ∀ t, execHaltWaymark unit s = .next t → Kept cmds t := by
  intro t ht
  unfold execHaltWaymark at ht
  try dsimp only at ht
  all_goals (repeat' first | (cases ht) | split at ht)
  all_goals (with_reducible repeat' first | assumption | rfl | apply kept_applyKind)

theorem kept_execResumeWaymark (unit : Fin 21) {s : State} (hk : Kept cmds s) :
    ∀ t, execResumeWaymark unit s = .next t → Kept cmds t := by
  intro t ht
  unfold execResumeWaymark at ht
  try dsimp only at ht
  all_goals (repeat' first | (cases ht) | split at ht)
  all_goals (with_reducible repeat' first | assumption | rfl | apply kept_applyKind)

theorem kept_execVoidrunWaymark (unit : Fin 21) {s : State} (hk : Kept cmds s) :
    ∀ t, execVoidrunWaymark unit s = .next t → Kept cmds t := by
  intro t ht
  unfold execVoidrunWaymark at ht
  try dsimp only at ht
  all_goals (repeat' first | (cases ht) | split at ht)
  all_goals (with_reducible repeat' first | assumption | rfl | apply kept_applyKind)

theorem kept_execTrigWaymark {s : State} (hk : Kept cmds s) :
    ∀ t, execTrigWaymark s = .next t → Kept cmds t := by
  intro t ht
  unfold execTrigWaymark at ht
  try dsimp only at ht
  all_goals (repeat' first | (cases ht) | split at ht)
  all_goals (with_reducible repeat' first | assumption | rfl | apply kept_meetKind)

theorem kept_execGenWaymark (unit : Fin 21) {s : State} (hk : Kept cmds s) :
    ∀ t, execGenWaymark unit s = .next t → Kept cmds t := by
  intro t ht
  unfold execGenWaymark at ht
  try dsimp only at ht
  all_goals (repeat' first | (cases ht) | split at ht)
  all_goals (with_reducible repeat' first | assumption | rfl | apply kept_applyKind)

theorem kept_execModelWaymark {s : State} (hk : Kept cmds s) :
    ∀ t, execModelWaymark s = .next t → Kept cmds t := by
  intro t ht
  unfold execModelWaymark at ht
  try dsimp only at ht
  all_goals (repeat' first | (cases ht) | split at ht)
  all_goals (with_reducible repeat' first | assumption | rfl | apply kept_meetKind)

theorem kept_execCalWaymark (unit : Fin 21) {s : State} (hk : Kept cmds s) :
    ∀ t, execCalWaymark unit s = .next t → Kept cmds t := by
  intro t ht
  unfold execCalWaymark at ht
  try dsimp only at ht
  all_goals (repeat' first | (cases ht) | split at ht)
  all_goals (with_reducible repeat' first | assumption | rfl | apply kept_applyKind)

theorem kept_execProbeWaymark (unit : Fin 21) {s : State} (hk : Kept cmds s) :
    ∀ t, execProbeWaymark unit s = .next t → Kept cmds t := by
  intro t ht
  unfold execProbeWaymark at ht
  try dsimp only at ht
  all_goals (repeat' first | (cases ht) | split at ht)
  all_goals (with_reducible repeat' first | assumption | rfl | apply kept_probeMark)

theorem kept_execWaymarkArrive (unit : Fin 21) {s : State} (hk : Kept cmds s) :
    ∀ t, execWaymarkArrive unit s = .next t → Kept cmds t := by
  intro t ht
  unfold execWaymarkArrive at ht
  try dsimp only at ht
  all_goals (repeat' first | (cases ht) | split at ht)
  all_goals (with_reducible repeat' first | assumption | rfl | apply kept_markArrive)

end Sys2Proof.Machine
end

