-- ==== Sys2Proof/Laws/KeptModes.lean ====
section
/-! SUPPORT. What the operations of Machine/Modes keep (Laws/Kept). -/

namespace Sys2Proof.Machine

variable {cmds : List Instr}

theorem kept_offState {s : State} (hk : Kept cmds s) :
    Kept cmds (offState s) := by
  unfold offState
  apply kept_setReg
  constructor
  · exact smapWf_filter _ _ _ hk.1
  · rfl
  · exact hk.3
  · exact Nat.zero_le _
  · exact Nat.zero_le _

theorem kept_enterOff {s : State} (hk : Kept cmds s) :
    Kept cmds (enterOff s) := by
  unfold enterOff
  try dsimp only
  all_goals (with_reducible repeat' first | assumption | rfl | apply kept_ite | apply kept_ite_st | apply kept_ite_snd | apply kept_emit | apply kept_offState | apply kept_pinsRest)

theorem kept_warmReset {s : State} (hk : Kept cmds s) :
    Kept cmds (warmReset s) := by
  have h := kept_pinsRest hk
  unfold warmReset
  generalize pinsRest s = u at h ⊢
  apply kept_setReg
  apply kept_wf
  apply kept_wf
  constructor
  · exact smapWf_filter _ _ _ h.1
  · rfl
  · exact h.3
  · exact h.4
  · exact Nat.zero_le _

theorem kept_roleShow {s : State} (hk : Kept cmds s) :
    Kept cmds (roleShow s) := by
  unfold roleShow
  try dsimp only
  all_goals (with_reducible repeat' first | assumption | rfl | apply kept_ite | apply kept_ite_st | apply kept_ite_snd | apply kept_wf)

theorem kept_driveAct (high : Bool) {s : State} (hk : Kept cmds s) :
    Kept cmds (driveAct high s) := by
  unfold driveAct
  try dsimp only
  all_goals (with_reducible repeat' first | assumption | rfl | apply kept_ite | apply kept_ite_st | apply kept_ite_snd | apply kept_emit | apply kept_roleShow | apply kept_wf | split | refine kept_snd ?_ (by assumption) | refine kept_snd2 ?_ (by assumption) | refine kept_st ?_ (by assumption) | refine kept_get ?_ (by assumption) | refine kept_get2 ?_ (by assumption) | apply kept_with_hlt)

theorem kept_commitMode (m : Nat) (cause : Nat) {s : State} (hk : Kept cmds s) :
    Kept cmds (commitMode m cause s) := by
  unfold commitMode
  try dsimp only
  all_goals (with_reducible repeat' first | assumption | rfl | apply kept_raise | apply kept_roleShow | apply kept_setReg | apply kept_trpModeChanged | apply kept_wf)

theorem kept_modeReply (src : Nat) (m : Nat) (status : Nat) (cause : Nat) (res : List Nat) {s : State} (hk : Kept cmds s) :
    Kept cmds (modeReply src m status cause res s) := by
  unfold modeReply
  try dsimp only
  all_goals (with_reducible repeat' first | assumption | rfl | apply kept_ite | apply kept_ite_st | apply kept_ite_snd | apply kept_mboxDone | apply kept_setReg)

theorem kept_modeRefuse (src : Nat) (m : Nat) (cause : Nat) {s : State} (hk : Kept cmds s) :
    Kept cmds (modeRefuse src m cause s) := by
  unfold modeRefuse
  try dsimp only
  all_goals (with_reducible repeat' first | assumption | rfl | apply kept_ite | apply kept_ite_st | apply kept_ite_snd | apply kept_modeReply | apply kept_raise)

theorem kept_transBegin (t : Trans) {s : State} (hk : Kept cmds s) :
    Kept cmds (transBegin t s) := by
  unfold transBegin
  try dsimp only
  all_goals (with_reducible repeat' first | assumption | rfl | apply kept_ite | apply kept_ite_st | apply kept_ite_snd | apply kept_mboxStep | apply kept_setReg | apply kept_wf | split | refine kept_snd ?_ (by assumption) | refine kept_snd2 ?_ (by assumption) | refine kept_st ?_ (by assumption) | refine kept_get ?_ (by assumption) | refine kept_get2 ?_ (by assumption) | apply kept_with_hlt)

theorem kept_transEnd (status : Nat) (cause : Nat) (res : List Nat) {s : State} (hk : Kept cmds s) :
    Kept cmds (transEnd status cause res s) := by
  unfold transEnd
  try dsimp only
  all_goals (with_reducible repeat' first | assumption | rfl | apply kept_modeReply | apply kept_wf | split | refine kept_snd ?_ (by assumption) | refine kept_snd2 ?_ (by assumption) | refine kept_st ?_ (by assumption) | refine kept_get ?_ (by assumption) | refine kept_get2 ?_ (by assumption) | apply kept_with_hlt)

theorem kept_idleLanes (inProgress : Bool) {s : State} (hk : Kept cmds s) :
    Kept cmds (idleLanes inProgress s) := by
  unfold idleLanes
  try dsimp only
  all_goals (with_reducible repeat' first | assumption | rfl | apply kept_foldS | apply kept_idleEnter | apply kept_wf | (intro _ _ _) | (intro _ _) | split | refine kept_snd ?_ (by assumption) | refine kept_snd2 ?_ (by assumption) | refine kept_st ?_ (by assumption) | refine kept_get ?_ (by assumption) | refine kept_get2 ?_ (by assumption) | apply kept_with_lns)

theorem kept_wakeLanes (sleepSent : Bool) {s : State} (hk : Kept cmds s) :
    Kept cmds (wakeLanes sleepSent s) := by
  unfold wakeLanes
  try dsimp only
  all_goals (with_reducible repeat' first | assumption | rfl | apply kept_foldS | apply kept_idleExitRequest | apply kept_wf | (intro _ _ _))

theorem kept_closingBegin {s : State} (hk : Kept cmds s) :
    Kept cmds (closingBegin s) := by
  unfold closingBegin
  try dsimp only
  all_goals (with_reducible repeat' first | assumption | rfl | apply kept_disableLane | apply kept_driveAct | apply kept_foldS | apply kept_pinsRest | apply kept_surveyBegin)

theorem kept_drainPlan (p : Nat) {s : State} (hk : Kept cmds s) :
    Kept cmds (drainPlan p s) := by
  unfold drainPlan
  try dsimp only
  all_goals (with_reducible repeat' first | assumption | rfl | split | refine kept_snd ?_ (by assumption) | refine kept_snd2 ?_ (by assumption) | refine kept_st ?_ (by assumption) | refine kept_get ?_ (by assumption) | refine kept_get2 ?_ (by assumption) | apply kept_with_wm)

theorem kept_exitStart {s : State} (hk : Kept cmds s) :
    Kept cmds (exitStart s) := by
  unfold exitStart
  try dsimp only
  all_goals (with_reducible repeat' first | assumption | rfl | apply kept_drainPlan | apply kept_foldS | apply kept_svyStopAll)

theorem kept_exitFinish {s : State} (hk : Kept cmds s) :
    Kept cmds (exitFinish s) := by
  unfold exitFinish
  try dsimp only
  all_goals (with_reducible repeat' first | assumption | rfl | apply kept_ite | apply kept_ite_st | apply kept_ite_snd | apply kept_closingBegin | apply kept_driveAct | apply kept_transEnd | split)

theorem kept_exitAdvance {s : State} (hk : Kept cmds s) :
    Kept cmds (exitAdvance s) := by
  unfold exitAdvance
  try dsimp only
  all_goals (with_reducible repeat' first | assumption | rfl | apply kept_ite | apply kept_ite_st | apply kept_ite_snd | apply kept_chnStop | apply kept_drainPlan | apply kept_exitFinish | apply kept_foldS | apply kept_rsyStop | apply kept_step | apply kept_stgStop | (intro _ _ _) | (intro _ _) | split | refine kept_snd ?_ (by assumption) | refine kept_snd2 ?_ (by assumption) | refine kept_st ?_ (by assumption) | refine kept_get ?_ (by assumption) | refine kept_get2 ?_ (by assumption) | apply kept_with_hlt)

theorem kept_modeSettle {s : State} (hk : Kept cmds s) :
    Kept cmds (modeSettle s) := by
  unfold modeSettle
  try dsimp only
  all_goals (with_reducible repeat' first | assumption | rfl | apply kept_ite | apply kept_ite_st | apply kept_ite_snd | apply kept_commitMode | apply kept_exitFinish | apply kept_transEnd | split)

theorem kept_report30 {s : State} (hk : Kept cmds s) :
    Kept cmds (report30 s) := by
  unfold report30
  try dsimp only
  all_goals (with_reducible repeat' first | assumption | rfl | apply kept_ite | apply kept_ite_st | apply kept_ite_snd | apply kept_raise | split | refine kept_snd ?_ (by assumption) | refine kept_snd2 ?_ (by assumption) | refine kept_st ?_ (by assumption) | refine kept_get ?_ (by assumption) | refine kept_get2 ?_ (by assumption) | apply kept_with_hlt)

theorem kept_restoreSlots {s : State} (hk : Kept cmds s) :
    Kept cmds (restoreSlots s) := by
  unfold restoreSlots
  try dsimp only
  all_goals (with_reducible repeat' first | assumption)

theorem kept_bootTrain (margins : List (BitVec 16)) {s : State} (hk : Kept cmds s) :
    Kept cmds (bootTrain margins s) := by
  unfold bootTrain
  try dsimp only
  all_goals (with_reducible repeat' first | assumption | rfl | apply kept_foldS | apply kept_trainPc | (intro _ _ _))

theorem kept_bootReady {s : State} (hk : Kept cmds s) :
    Kept cmds (bootReady s) := by
  unfold bootReady
  try dsimp only
  all_goals (with_reducible repeat' first | assumption | rfl | apply kept_commitMode)

theorem kept_bootTests {s : State} (hk : Kept cmds s) :
    Kept cmds (bootTests s) := by
  unfold bootTests
  try dsimp only
  all_goals (with_reducible repeat' first | assumption | rfl | apply kept_ite | apply kept_ite_st | apply kept_ite_snd | apply kept_bootReady | apply kept_surveyBegin | apply kept_surveyEnd)

theorem kept_bootRun (cold : Bool) (margins : List (BitVec 16)) (keep : Nat → Bool) {s : State} (hk : Kept cmds s) :
    Kept cmds (bootRun cold margins keep s) := by
  unfold bootRun
  try dsimp only
  all_goals (with_reducible repeat' first | assumption | rfl | apply kept_ite | apply kept_ite_st | apply kept_ite_snd | apply kept_bootSelect | apply kept_bootTests | apply kept_bootTrain | apply kept_commitMode | apply kept_raise | apply kept_report30 | apply kept_restoreSettings | apply kept_restoreSlots)

theorem kept_keepChannel (src : Nat) (old : State) {s : State} (hold : Kept cmds old) (hk : Kept cmds s) :
    Kept cmds (keepChannel src old s) := by
  unfold keepChannel
  try dsimp only
  all_goals (with_reducible repeat' first | assumption | rfl | apply kept_ite | apply kept_ite_st | apply kept_ite_snd | apply kept_foldS | apply kept_setReg | (intro _ _ _))

theorem kept_warmBoot (src : Nat) (margins : List (BitVec 16)) {s : State} (hk : Kept cmds s) :
    Kept cmds (warmBoot src margins s) := by
  unfold warmBoot
  try dsimp only
  all_goals (with_reducible repeat' first | assumption | rfl | apply kept_ite | apply kept_ite_st | apply kept_ite_snd | apply kept_bootRun | apply kept_commitMode | apply kept_keepChannel | apply kept_modeReply | apply kept_warmReset)

theorem kept_flashFind (e : StartEnv) {s : State} (hk : Kept cmds s) :
    Kept cmds (flashFind e s) := by
  unfold flashFind
  try dsimp only
  all_goals (with_reducible repeat' first | assumption | rfl | apply kept_ite | apply kept_ite_st | apply kept_ite_snd | apply kept_raise | apply kept_wf | split | refine kept_snd ?_ (by assumption) | refine kept_snd2 ?_ (by assumption) | refine kept_st ?_ (by assumption) | refine kept_get ?_ (by assumption) | refine kept_get2 ?_ (by assumption) | apply kept_with_tru)

theorem kept_setLink (rate : Nat) (width : Nat) {s : State} (hk : Kept cmds s) :
    Kept cmds (setLink rate width s) := by
  unfold setLink
  try dsimp only
  all_goals (with_reducible repeat' first | assumption | rfl | apply kept_ite | apply kept_ite_st | apply kept_ite_snd | apply kept_raise | apply kept_wf)

theorem kept_readVoutMode (e : Option Int) {s : State} (hk : Kept cmds s) :
    Kept cmds (readVoutMode e s) := by
  unfold readVoutMode
  try dsimp only
  all_goals (with_reducible repeat' first | assumption | rfl | apply kept_raise | split | refine kept_snd ?_ (by assumption) | refine kept_snd2 ?_ (by assumption) | refine kept_st ?_ (by assumption) | refine kept_get ?_ (by assumption) | refine kept_get2 ?_ (by assumption) | apply kept_with_cmx)

theorem kept_powerUp (e : StartEnv) (margins : List (BitVec 16)) {s : State} (hk : Kept cmds s) :
    Kept cmds (powerUp e margins s) := by
  unfold powerUp
  try dsimp only
  all_goals (with_reducible repeat' first | assumption | rfl | apply kept_ite | apply kept_ite_st | apply kept_ite_snd | apply kept_bootRun | apply kept_domEnable | apply kept_enterOff | apply kept_flashFind | apply kept_readVoutMode | apply kept_setLink | apply kept_setReg | (intro _ _ _) | (intro _ _) | split | refine kept_snd ?_ (by assumption) | refine kept_snd2 ?_ (by assumption) | refine kept_st ?_ (by assumption) | refine kept_get ?_ (by assumption) | refine kept_get2 ?_ (by assumption) | apply kept_with_tru | apply kept_with_cmx)

theorem kept_shadowEntered {s : State} (hk : Kept cmds s) :
    Kept cmds (shadowEntered s) := by
  unfold shadowEntered
  try dsimp only
  all_goals (with_reducible repeat' first | assumption | rfl | apply kept_wf | split | refine kept_snd ?_ (by assumption) | refine kept_snd2 ?_ (by assumption) | refine kept_st ?_ (by assumption) | refine kept_get ?_ (by assumption) | refine kept_get2 ?_ (by assumption) | apply kept_with_hlt)

theorem kept_enterClosing (src : Nat) (env : Env) {s : State} (hk : Kept cmds s) :
    Kept cmds (enterClosing src env s) := by
  unfold enterClosing
  try dsimp only
  all_goals (with_reducible repeat' first | assumption | rfl | apply kept_ite | apply kept_ite_st | apply kept_ite_snd | apply kept_closingBegin | apply kept_commitMode | apply kept_exitStart | apply kept_modeReply | apply kept_modeSettle | apply kept_srExit | apply kept_step | apply kept_transBegin | apply kept_wakeLanes)

theorem kept_requestMode (src : Nat) (m : Nat) (env : Env) {s : State} (hk : Kept cmds s) :
    Kept cmds (requestMode src m env s) := by
  unfold requestMode
  try dsimp only
  all_goals (with_reducible repeat' first | assumption | rfl | apply kept_ite | apply kept_ite_st | apply kept_ite_snd | apply kept_commitMode | apply kept_driveAct | apply kept_enterClosing | apply kept_exitStart | apply kept_idleLanes | apply kept_modeRefuse | apply kept_modeReply | apply kept_modeSettle | apply kept_raise | apply kept_shadowEntered | apply kept_srEnter | apply kept_srExit | apply kept_step | apply kept_transBegin | apply kept_wakeLanes | apply kept_warmBoot | split | refine kept_snd ?_ (by assumption) | refine kept_snd2 ?_ (by assumption) | refine kept_st ?_ (by assumption) | refine kept_get ?_ (by assumption) | refine kept_get2 ?_ (by assumption) | apply kept_with_tru | apply kept_with_hlt)

theorem kept_transUndo (env : Env) {s : State} (hk : Kept cmds s) :
    Kept cmds (transUndo env s) := by
  unfold transUndo
  try dsimp only
  all_goals (with_reducible repeat' first | assumption | rfl | apply kept_ite | apply kept_ite_st | apply kept_ite_snd | apply kept_foldS | apply kept_idleEnter | apply kept_srExit | apply kept_transEnd | apply kept_wakeLanes | apply kept_wf | (intro _ _ _) | (intro _ _) | split | refine kept_snd ?_ (by assumption) | refine kept_snd2 ?_ (by assumption) | refine kept_st ?_ (by assumption) | refine kept_get ?_ (by assumption) | refine kept_get2 ?_ (by assumption) | apply kept_with_hlt)

theorem kept_modeAbort (env : Env) {s : State} (hk : Kept cmds s) :
    Kept cmds (modeAbort env s) := by
  unfold modeAbort
  try dsimp only
  all_goals (with_reducible repeat' first | assumption | rfl | apply kept_ite | apply kept_ite_st | apply kept_ite_snd | apply kept_transUndo | apply kept_wf)

theorem kept_modeCtrlWrite (v : Nat) (env : Env) {s : State} (hk : Kept cmds s) :
    Kept cmds (modeCtrlWrite v env s) := by
  unfold modeCtrlWrite
  try dsimp only
  all_goals (with_reducible repeat' first | assumption | rfl | apply kept_ite | apply kept_ite_st | apply kept_ite_snd | apply kept_modeAbort | apply kept_requestMode)

theorem kept_periodCommit {s : State} (hk : Kept cmds s) :
    Kept cmds (periodCommit s) := by
  unfold periodCommit
  try dsimp only
  all_goals (with_reducible repeat' first | assumption | rfl | apply kept_ite | apply kept_ite_st | apply kept_ite_snd | apply kept_commitMode | apply kept_transEnd | split)

theorem kept_surveyWipes (k : Nat) {s : State} (hk : Kept cmds s) :
    Kept cmds (surveyWipes k s) := by
  unfold surveyWipes
  split
  · exact hk
  · constructor
    · exact smapWf_filter _ _ _ hk.1
    · exact hk.2
    · exact hk.3
    · exact hk.4
    · exact hk.5

theorem kept_surveyOver (cut : Nat) {s : State} (hk : Kept cmds s) :
    Kept cmds (surveyOver cut s) := by
  unfold surveyOver
  try dsimp only
  all_goals (with_reducible repeat' first | assumption | rfl | apply kept_ite | apply kept_ite_st | apply kept_ite_snd | apply kept_bootReady | apply kept_commitMode | apply kept_enterOff | apply kept_logFlush | apply kept_surveyEnd | split)

theorem kept_surveyStep (word : Nat) (expected : Nat) {s : State} (hk : Kept cmds s) :
    Kept cmds (surveyStep word expected s) := by
  unfold surveyStep
  try dsimp only
  all_goals (with_reducible repeat' first | assumption | rfl | apply kept_ite | apply kept_ite_st | apply kept_ite_snd | apply kept_keepRecord | apply kept_surveyOver | apply kept_surveyShow | apply kept_surveyWipes | split | refine kept_snd ?_ (by assumption) | refine kept_snd2 ?_ (by assumption) | refine kept_st ?_ (by assumption) | refine kept_get ?_ (by assumption) | refine kept_get2 ?_ (by assumption) | apply kept_with_hlt)

theorem kept_surveyCut {s : State} (hk : Kept cmds s) :
    Kept cmds (surveyCut s) := by
  unfold surveyCut
  try dsimp only
  all_goals (with_reducible repeat' first | assumption | rfl | split | refine kept_snd ?_ (by assumption) | refine kept_snd2 ?_ (by assumption) | refine kept_st ?_ (by assumption) | refine kept_get ?_ (by assumption) | refine kept_get2 ?_ (by assumption) | apply kept_with_hlt)

theorem kept_thermal (sensor : Nat) {s : State} (hk : Kept cmds s) :
    Kept cmds (thermal sensor s) := by
  unfold thermal
  split
  · exact ⟨hk.1, hk.2, hk.3, hk.4, hk.5⟩
  · dsimp only
    apply kept_enterOff
    split
    · have h := kept_keepRecord (endRecord ‹_› 2) hk
      exact ⟨h.1, h.2, h.3, h.4, h.5⟩
    · exact ⟨hk.1, hk.2, hk.3, hk.4, hk.5⟩

theorem kept_supplyFault (v : Nat) {s : State} (hk : Kept cmds s) :
    Kept cmds (supplyFault v s) := by
  unfold supplyFault
  dsimp only
  split
  · exact hk
  · exact kept_enterOff ⟨hk.1, hk.2, hk.3, hk.4, hk.5⟩

theorem kept_supplyCleared (e : StartEnv) (margins : List (BitVec 16)) {s : State} (hk : Kept cmds s) :
    Kept cmds (supplyCleared e margins s) := by
  unfold supplyCleared
  try dsimp only
  all_goals (with_reducible repeat' first | assumption | rfl | apply kept_ite | apply kept_ite_st | apply kept_ite_snd | apply kept_powerUp | apply kept_supplyFault | split | refine kept_snd ?_ (by assumption) | refine kept_snd2 ?_ (by assumption) | refine kept_st ?_ (by assumption) | refine kept_get ?_ (by assumption) | refine kept_get2 ?_ (by assumption) | apply kept_with_hlt)

theorem kept_porFall (ns : Nat) (taken : Bool) {s : State} (hk : Kept cmds s) :
    Kept cmds (porFall ns taken s) := by
  unfold porFall
  try dsimp only
  all_goals (with_reducible repeat' first | assumption | rfl | apply kept_ite | apply kept_ite_st | apply kept_ite_snd | apply kept_enterOff | apply kept_thermal | split | refine kept_snd ?_ (by assumption) | refine kept_snd2 ?_ (by assumption) | refine kept_st ?_ (by assumption) | refine kept_get ?_ (by assumption) | refine kept_get2 ?_ (by assumption) | apply kept_with_hlt)

end Sys2Proof.Machine
end

