-- ==== Sys2Proof/Laws/KeptHealth.lean ====
section
/-! SUPPORT. What the operations of Machine/Health keep (Laws/Kept). -/

namespace Sys2Proof.Machine

variable {cmds : List Instr}

theorem kept_tempLevel (e : Ev) (thr : Nat) (was : Bool) (hot : Nat × Int) {s : State} (hk : Kept cmds s) :
    Kept cmds (tempLevel e thr was hot s).2 := by
  unfold tempLevel
  try dsimp only
  all_goals (with_reducible repeat' first | assumption | rfl | apply kept_ite | apply kept_ite_st | apply kept_ite_snd | apply kept_raise)

theorem kept_tempSample (ts : List Int) {s : State} (hk : Kept cmds s) :
    Kept cmds (tempSample ts s) := by
  unfold tempSample
  try dsimp only
  all_goals (with_reducible repeat' first | assumption | rfl | apply kept_foldS | apply kept_setReg | apply kept_tempLevel | (intro _ _ _) | (intro _ _) | split | refine kept_snd ?_ (by assumption) | refine kept_snd2 ?_ (by assumption) | refine kept_st ?_ (by assumption) | refine kept_get ?_ (by assumption) | refine kept_get2 ?_ (by assumption) | apply kept_with_hlt)

theorem kept_lifeStore {s : State} (hk : Kept cmds s) :
    Kept cmds (lifeStore s) := by
  unfold lifeStore
  try dsimp only
  all_goals (with_reducible repeat' first | assumption | rfl | split | refine kept_snd ?_ (by assumption) | refine kept_snd2 ?_ (by assumption) | refine kept_st ?_ (by assumption) | refine kept_get ?_ (by assumption) | refine kept_get2 ?_ (by assumption) | apply kept_with_hlt)

theorem kept_supplyRead (v : Nat) (mv : Int) {s : State} (hk : Kept cmds s) :
    Kept cmds (supplyRead v mv s) := by
  unfold supplyRead
  try dsimp only
  all_goals (with_reducible repeat' first | assumption | rfl | apply kept_ite | apply kept_ite_st | apply kept_ite_snd | apply kept_raise | apply kept_setReg | split | refine kept_snd ?_ (by assumption) | refine kept_snd2 ?_ (by assumption) | refine kept_st ?_ (by assumption) | refine kept_get ?_ (by assumption) | refine kept_get2 ?_ (by assumption) | apply kept_with_hlt)

theorem kept_supplySample (mvs : List Int) {s : State} (hk : Kept cmds s) :
    Kept cmds (supplySample mvs s) := by
  unfold supplySample
  try dsimp only
  all_goals (with_reducible repeat' first | assumption | rfl | apply kept_foldS | apply kept_supplyRead | (intro _ _ _) | (intro _ _) | split | refine kept_snd ?_ (by assumption) | refine kept_snd2 ?_ (by assumption) | refine kept_st ?_ (by assumption) | refine kept_get ?_ (by assumption) | refine kept_get2 ?_ (by assumption) | apply kept_with_hlt)

theorem kept_fabricPeriod {s : State} (hk : Kept cmds s) :
    Kept cmds (fabricPeriod s) := by
  unfold fabricPeriod
  try dsimp only
  all_goals (with_reducible repeat' first | assumption | rfl | split | refine kept_snd ?_ (by assumption) | refine kept_snd2 ?_ (by assumption) | refine kept_st ?_ (by assumption) | refine kept_get ?_ (by assumption) | refine kept_get2 ?_ (by assumption) | apply kept_with_hlt)

theorem kept_fabricSecond {s : State} (hk : Kept cmds s) :
    Kept cmds (fabricSecond s) := by
  unfold fabricSecond
  try dsimp only
  all_goals (with_reducible repeat' first | assumption | rfl | apply kept_ite | apply kept_ite_st | apply kept_ite_snd | apply kept_setReg | apply kept_wf | split | refine kept_snd ?_ (by assumption) | refine kept_snd2 ?_ (by assumption) | refine kept_st ?_ (by assumption) | refine kept_get ?_ (by assumption) | refine kept_get2 ?_ (by assumption) | apply kept_with_hlt)

theorem kept_sendTwin (index : Nat) (ws : List Waymark) (body : List Byte) {s : State} (hk : Kept cmds s) :
    Kept cmds (sendTwin index ws body s) := by
  unfold sendTwin
  try dsimp only
  all_goals (with_reducible repeat' first | assumption | rfl | apply kept_ite | apply kept_ite_st | apply kept_ite_snd | apply kept_nextSeq | apply kept_sendLanes)

theorem kept_hostMark (point : Nat) (w : Waymark) {s : State} (hk : Kept cmds s) :
    Kept cmds (hostMark point w s) := by
  unfold hostMark
  try dsimp only
  all_goals (with_reducible repeat' first | assumption | rfl | apply kept_ite | apply kept_ite_st | apply kept_ite_snd | apply kept_insertMark | apply kept_sendTwin)

theorem kept_sigCompare (k : Nat) (a : SigSum) (b : SigSum) {s : State} (hk : Kept cmds s) :
    Kept cmds (sigCompare k a b s) := by
  unfold sigCompare
  refine kept_ite (kept_inc _ _ hk) (kept_ite (kept_inc _ _ hk) ?_)
  have h := kept_raise EV_HLT_TWIN_MISMATCH (sigWord k false) (keyBlock k * stgB s % 2 ^ 32) (kept_inc HLT_CMP_MISMATCH 1 hk)
  dsimp only
  generalize raise EV_HLT_TWIN_MISMATCH (sigWord k false) (keyBlock k * stgB s % 2 ^ 32) (s.inc HLT_CMP_MISMATCH 1) = u at h ⊢
  exact kept_with_hlt _ (kept_wf HLT_TWIN_STATUS_HOLD_LEFT (u.reg HLT_TWIN_HOLD) h) rfl

theorem kept_sigBegin (k : Nat) (other : List (Nat × SigSum)) {s : State} (hk : Kept cmds s) :
    Kept cmds (sigBegin k other s) := by
  unfold sigBegin
  try dsimp only
  all_goals (with_reducible repeat' first | assumption | rfl | apply kept_ite | apply kept_ite_st | apply kept_ite_snd | apply kept_setReg64 | (intro _ _ _) | (intro _ _) | split | refine kept_snd ?_ (by assumption) | refine kept_snd2 ?_ (by assumption) | refine kept_st ?_ (by assumption) | refine kept_get ?_ (by assumption) | refine kept_get2 ?_ (by assumption) | apply kept_with_hlt)

theorem kept_sigArrive (own : Bool) (k : Nat) (x : SigSum) {s : State} (hk : Kept cmds s) :
    Kept cmds (sigArrive own k x s) := by
  unfold sigArrive
  try dsimp only
  all_goals (with_reducible repeat' first | assumption | rfl | apply kept_ite | apply kept_ite_st | apply kept_ite_snd | apply kept_sigBegin | apply kept_sigCompare | (intro _ _ _) | (intro _ _) | split | refine kept_snd ?_ (by assumption) | refine kept_snd2 ?_ (by assumption) | refine kept_st ?_ (by assumption) | refine kept_get ?_ (by assumption) | refine kept_get2 ?_ (by assumption) | apply kept_with_hlt)

theorem kept_sigMissing (own : Bool) {s : State} (hk : Kept cmds s) :
    Kept cmds (sigMissing own s) := by
  unfold sigMissing
  dsimp only
  split
  · exact hk
  · next k x rest e =>
    have h0 : Kept cmds (if own = true then { s with hlt := { s.hlt with sigOwn := rest } } else { s with hlt := { s.hlt with sigPeer := rest } }) :=
      kept_ite (kept_with_hlt _ hk rfl) (kept_with_hlt _ hk rfl)
    generalize (if own = true then { s with hlt := { s.hlt with sigOwn := rest } } else { s with hlt := { s.hlt with sigPeer := rest } }) = u at h0 ⊢
    refine kept_ite h0 ?_
    have h := kept_raise EV_HLT_TWIN_SIG_MISSING (sigWord k false) (Config.openCause 0x140A (b2n own)).toNat (kept_inc HLT_CMP_MISSING 1 h0)
    generalize raise EV_HLT_TWIN_SIG_MISSING (sigWord k false) (Config.openCause 0x140A (b2n own)).toNat (u.inc HLT_CMP_MISSING 1) = v at h ⊢
    exact kept_with_hlt _ (kept_wf HLT_TWIN_STATUS_HOLD_LEFT (v.reg HLT_TWIN_HOLD) h) rfl

theorem kept_sendSigs (n : Nat) (x0 : Nat) (x1 : List (Nat × SigSum)) {x2 : State} (hk : Kept cmds x2) :
    Kept cmds (sendSigs n x0 x1 x2) := by
  fun_induction sendSigs <;> grind [kept_sendTwin, kept_mk, Kept]

theorem kept_sigPeriod {s : State} (hk : Kept cmds s) :
    Kept cmds (sigPeriod s) := by
  unfold sigPeriod
  try dsimp only
  all_goals (with_reducible repeat' first | assumption | rfl | apply kept_ite | apply kept_ite_st | apply kept_ite_snd | apply kept_acc | apply kept_foldS | apply kept_sendSigs | apply kept_sigArrive | (intro _ _ _) | (intro _ _) | split | refine kept_snd ?_ (by assumption) | refine kept_snd2 ?_ (by assumption) | refine kept_st ?_ (by assumption) | refine kept_get ?_ (by assumption) | refine kept_get2 ?_ (by assumption) | apply kept_with_acc)

theorem kept_twinPeriod (peerAct : Bool) {s : State} (hk : Kept cmds s) :
    Kept cmds (twinPeriod peerAct s) := by
  unfold twinPeriod
  try dsimp only
  all_goals (with_reducible repeat' first | assumption | rfl | apply kept_ite | apply kept_ite_st | apply kept_ite_snd | apply kept_sendTwin | apply kept_sigPeriod | apply kept_wf | split | refine kept_snd ?_ (by assumption) | refine kept_snd2 ?_ (by assumption) | refine kept_st ?_ (by assumption) | refine kept_get ?_ (by assumption) | refine kept_get2 ?_ (by assumption) | apply kept_with_hlt)

theorem kept_takeover (cause : Nat) {s : State} (hk : Kept cmds s) :
    Kept cmds (takeover cause s) := by
  unfold takeover
  try dsimp only
  all_goals (with_reducible repeat' first | assumption | rfl | apply kept_ite | apply kept_ite_st | apply kept_ite_snd | apply kept_commitMode | apply kept_driveAct | apply kept_emit | apply kept_foldS | apply kept_insertMark | apply kept_raise | apply kept_wf | (intro _ _ _) | (intro _ _) | split | refine kept_snd ?_ (by assumption) | refine kept_snd2 ?_ (by assumption) | refine kept_st ?_ (by assumption) | refine kept_get ?_ (by assumption) | refine kept_get2 ?_ (by assumption) | apply kept_with_hlt)

theorem kept_beaconLost (peerAct : Bool) {s : State} (hk : Kept cmds s) :
    Kept cmds (beaconLost peerAct s) := by
  unfold beaconLost
  try dsimp only
  all_goals (with_reducible repeat' first | assumption | rfl | apply kept_ite | apply kept_ite_st | apply kept_ite_snd | apply kept_inc | apply kept_raise | apply kept_takeover | apply kept_wf | split | refine kept_snd ?_ (by assumption) | refine kept_snd2 ?_ (by assumption) | refine kept_st ?_ (by assumption) | refine kept_get ?_ (by assumption) | refine kept_get2 ?_ (by assumption) | apply kept_with_hlt)

theorem kept_yieldTwin {s : State} (hk : Kept cmds s) :
    Kept cmds (yieldTwin s) := by
  unfold yieldTwin
  try dsimp only
  all_goals (with_reducible repeat' first | assumption | rfl | apply kept_ite | apply kept_ite_st | apply kept_ite_snd | apply kept_commitMode | apply kept_driveAct | apply kept_pinsRest | apply kept_raise | apply kept_shadowEntered | apply kept_transEnd | split | refine kept_snd ?_ (by assumption) | refine kept_snd2 ?_ (by assumption) | refine kept_st ?_ (by assumption) | refine kept_get ?_ (by assumption) | refine kept_get2 ?_ (by assumption) | apply kept_with_hlt)

theorem kept_peerRise {s : State} (hk : Kept cmds s) :
    Kept cmds (peerRise s) := by
  unfold peerRise
  try dsimp only
  all_goals (with_reducible repeat' first | assumption | rfl | apply kept_ite | apply kept_ite_st | apply kept_ite_snd | apply kept_wf | apply kept_yieldTwin)

theorem kept_handoverTimeout {s : State} (hk : Kept cmds s) :
    Kept cmds (handoverTimeout s) := by
  unfold handoverTimeout
  try dsimp only
  all_goals (with_reducible repeat' first | assumption | rfl | apply kept_ite | apply kept_ite_st | apply kept_ite_snd | apply kept_transEnd | split | refine kept_snd ?_ (by assumption) | refine kept_snd2 ?_ (by assumption) | refine kept_st ?_ (by assumption) | refine kept_get ?_ (by assumption) | refine kept_get2 ?_ (by assumption) | apply kept_with_hlt)

theorem kept_holdExpiry {s : State} (hk : Kept cmds s) :
    Kept cmds (holdExpiry s) := by
  unfold holdExpiry
  try dsimp only
  all_goals (with_reducible repeat' first | assumption | rfl | apply kept_ite | apply kept_ite_st | apply kept_ite_snd | split | refine kept_snd ?_ (by assumption) | refine kept_snd2 ?_ (by assumption) | refine kept_st ?_ (by assumption) | refine kept_get ?_ (by assumption) | refine kept_get2 ?_ (by assumption) | apply kept_with_hlt)

theorem kept_revertExpiry {s : State} (hk : Kept cmds s) :
    Kept cmds (revertExpiry s) := by
  unfold revertExpiry
  try dsimp only
  all_goals (with_reducible repeat' first | assumption | rfl | apply kept_ite | apply kept_ite_st | apply kept_ite_snd | apply kept_takeover)

theorem kept_twinCtrlWrite (v : Nat) {s : State} (hk : Kept cmds s) :
    Kept cmds (twinCtrlWrite v s).st := by
  unfold twinCtrlWrite
  try dsimp only
  all_goals (with_reducible repeat' first | assumption | rfl | apply kept_ite | apply kept_ite_st | apply kept_ite_snd | apply kept_acc | apply kept_refuse | apply kept_takeover | split | refine kept_snd ?_ (by assumption) | refine kept_snd2 ?_ (by assumption) | refine kept_st ?_ (by assumption) | refine kept_get ?_ (by assumption) | refine kept_get2 ?_ (by assumption) | apply kept_with_hlt)

theorem kept_beaconTake (b : Beacon) {s : State} (hk : Kept cmds s) :
    Kept cmds (beaconTake b s) := by
  unfold beaconTake
  try dsimp only
  all_goals (with_reducible repeat' first | assumption | rfl | apply kept_ite | apply kept_ite_st | apply kept_ite_snd | apply kept_State_setRef | apply kept_raise | apply kept_takeover | apply kept_updateQl | split | refine kept_snd ?_ (by assumption) | refine kept_snd2 ?_ (by assumption) | refine kept_st ?_ (by assumption) | refine kept_get ?_ (by assumption) | refine kept_get2 ?_ (by assumption) | apply kept_with_hlt)

theorem kept_twinElements (src : Nat) (n : Nat) (x0 : Nat) (x1 : List Byte) {x2 : State} (hk : Kept cmds x2) :
    Kept cmds (twinElements src n x0 x1 x2) := by
  fun_induction twinElements <;> grind [kept_beaconTake, kept_sigArrive, kept_mk, Kept]

theorem kept_copyMark (w : Waymark) {s : State} (hk : Kept cmds s) :
    Kept cmds (copyMark w s) := by
  unfold copyMark
  try dsimp only
  all_goals (with_reducible repeat' first | assumption | rfl | apply kept_ite | apply kept_ite_st | apply kept_ite_snd | apply kept_insertMark)

theorem kept_twinRx (n : Nat) (f : Frame) (chk : Nat) (fits : Bool) {s : State} (hk : Kept cmds s) :
    Kept cmds (twinRx n f chk fits s) := by
  unfold twinRx
  grind [kept_State_setFlow, kept_copyMark, kept_foldS, kept_inc, kept_raise, kept_rxLane, kept_seqGap, kept_twinElements, kept_mk, Kept]

theorem kept_twinMark (c : Nat) (g : Nat) {s : State} (hk : Kept cmds s) :
    Kept cmds (twinMark c g s) := by
  unfold twinMark
  try dsimp only
  all_goals (with_reducible repeat' first | assumption | rfl | apply kept_ite | apply kept_ite_st | apply kept_ite_snd | apply kept_wf | split | refine kept_snd ?_ (by assumption) | refine kept_snd2 ?_ (by assumption) | refine kept_st ?_ (by assumption) | refine kept_get ?_ (by assumption) | refine kept_get2 ?_ (by assumption) | apply kept_with_frm)

theorem kept_aatAct (e : Nat) (env : Env) {s : State} (hk : Kept cmds s) :
    Kept cmds (aatAct e env s) := by
  unfold aatAct
  try dsimp only
  all_goals (with_reducible repeat' first | assumption | rfl | apply kept_ite | apply kept_ite_st | apply kept_ite_snd | apply kept_insertMark | apply kept_requestMode | apply kept_svyAsk | split)

theorem kept_aatFire (env : Env) {s : State} (hk : Kept cmds s) :
    Kept cmds (aatFire env s) := by
  unfold aatFire
  try dsimp only
  all_goals (with_reducible repeat' first | assumption | rfl | apply kept_aatAct | apply kept_raise | apply kept_wf | split | refine kept_snd ?_ (by assumption) | refine kept_snd2 ?_ (by assumption) | refine kept_st ?_ (by assumption) | refine kept_get ?_ (by assumption) | refine kept_get2 ?_ (by assumption) | apply kept_with_hlt)

theorem kept_aatMatchWrite (e : Nat) (v : Nat) {s : State} (hk : Kept cmds s) :
    Kept cmds (aatMatchWrite e v s).st := by
  unfold aatMatchWrite
  try dsimp only
  all_goals (with_reducible repeat' first | assumption | rfl | apply kept_ite | apply kept_ite_st | apply kept_ite_snd | apply kept_acc | apply kept_refuse | apply kept_storeBits | split | refine kept_snd ?_ (by assumption) | refine kept_snd2 ?_ (by assumption) | refine kept_st ?_ (by assumption) | refine kept_get ?_ (by assumption) | refine kept_get2 ?_ (by assumption) | apply kept_with_hlt)

theorem kept_hltBasicWrite (v : Nat) {s : State} (hk : Kept cmds s) :
    Kept cmds (hltBasicWrite v s).st := by
  unfold hltBasicWrite
  try dsimp only
  all_goals (with_reducible repeat' first | assumption | rfl | apply kept_ite | apply kept_ite_st | apply kept_ite_snd | apply kept_acc | apply kept_driveAct | apply kept_refuse | apply kept_roleShow | apply kept_storeBits | split | refine kept_snd ?_ (by assumption) | refine kept_snd2 ?_ (by assumption) | refine kept_st ?_ (by assumption) | refine kept_get ?_ (by assumption) | refine kept_get2 ?_ (by assumption) | apply kept_with_hlt)

theorem kept_hltCntClear (v : Nat) {s : State} (hk : Kept cmds s) :
    Kept cmds (hltCntClear v s) := by
  unfold hltCntClear
  try dsimp only
  all_goals (with_reducible repeat' first | assumption | rfl | apply kept_ite | apply kept_ite_st | apply kept_ite_snd | apply kept_zero)

theorem kept_hltWrite (off : Nat) (v : Nat) (env : Env) {s : State} (hk : Kept cmds s) :
    ∀ r, hltWrite off v env s = some r → Kept cmds r.st := by
  intro t ht
  unfold hltWrite at ht
  try dsimp only at ht
  all_goals (repeat' first | (cases ht) | split at ht)
  all_goals (with_reducible repeat' first | assumption | rfl | apply kept_ite | apply kept_ite_st | apply kept_ite_snd | apply kept_aatMatchWrite | apply kept_acc | apply kept_hltBasicWrite | apply kept_hltCntClear | apply kept_logReadWrite | apply kept_modeCtrlWrite | apply kept_refuse | apply kept_storeBits | apply kept_surveyCut | apply kept_twinCtrlWrite)

theorem kept_unlessOff (f : State → State) {s : State} (hf : ∀  t, Kept cmds t → Kept cmds (f  t)) (hk : Kept cmds s) :
    Kept cmds (unlessOff f s) := by
  unfold unlessOff
  try dsimp only
  all_goals (with_reducible repeat' first | assumption | rfl | apply kept_ite | apply kept_ite_st | apply kept_ite_snd | apply hf)

theorem kept_execThermalShutdown (sensor : Fin 16) {s : State} (hk : Kept cmds s) :
    ∀ t, execThermalShutdown sensor s = .next t → Kept cmds t := by
  intro t ht
  unfold execThermalShutdown at ht
  try dsimp only at ht
  all_goals (repeat' first | (cases ht) | split at ht)
  all_goals (with_reducible repeat' first | assumption | rfl | apply kept_thermal)

theorem kept_execSupplyFaultReset (supply : Fin 10) (mv : Int) {s : State} (hk : Kept cmds s) :
    ∀ t, execSupplyFaultReset supply mv s = .next t → Kept cmds t := by
  intro t ht
  unfold execSupplyFaultReset at ht
  try dsimp only at ht
  all_goals (repeat' first | (cases ht) | split at ht)
  all_goals (with_reducible repeat' first | assumption | rfl | apply kept_ite | apply kept_ite_st | apply kept_ite_snd | apply kept_supplyFault)

theorem kept_execSupplyFaultCleared (e : StartEnv) (margins : List (BitVec 16)) {s : State} (hk : Kept cmds s) :
    ∀ t, execSupplyFaultCleared e margins s = .next t → Kept cmds t := by
  intro t ht
  unfold execSupplyFaultCleared at ht
  try dsimp only at ht
  all_goals (repeat' first | (cases ht) | split at ht)
  all_goals (with_reducible repeat' first | assumption | rfl | apply kept_supplyCleared)

theorem kept_execResetRelease (e : StartEnv) (margins : List (BitVec 16)) {s : State} (hk : Kept cmds s) :
    ∀ t, execResetRelease e margins s = .next t → Kept cmds t := by
  intro t ht
  unfold execResetRelease at ht
  try dsimp only at ht
  all_goals (repeat' first | (cases ht) | split at ht)
  all_goals (with_reducible repeat' first | assumption | rfl | apply kept_powerUp)

theorem kept_execPorAssert (ns : Nat) (taken : Bool) {s : State} (hk : Kept cmds s) :
    ∀ t, execPorAssert ns taken s = .next t → Kept cmds t := by
  intro t ht
  unfold execPorAssert at ht
  try dsimp only at ht
  all_goals (repeat' first | (cases ht) | split at ht)
  all_goals (with_reducible repeat' first | assumption | rfl | apply kept_porFall)

theorem kept_execTempSample (temps : List (BitVec 8)) {s : State} (hk : Kept cmds s) :
    ∀ t, execTempSample temps s = .next t → Kept cmds t := by
  intro t ht
  unfold execTempSample at ht
  try dsimp only at ht
  all_goals (repeat' first | (cases ht) | split at ht)
  all_goals (with_reducible repeat' first | assumption | rfl | apply kept_ite | apply kept_ite_st | apply kept_ite_snd | apply kept_tempSample | apply kept_unlessOff)

theorem kept_execLifeHoursStore {s : State} (hk : Kept cmds s) :
    ∀ t, execLifeHoursStore s = .next t → Kept cmds t := by
  intro t ht
  unfold execLifeHoursStore at ht
  try dsimp only at ht
  all_goals (repeat' first | (cases ht) | split at ht)
  all_goals (with_reducible repeat' first | assumption | rfl | apply kept_lifeStore | apply kept_unlessOff)

theorem kept_execSupplySample (mvs : List Int) {s : State} (hk : Kept cmds s) :
    ∀ t, execSupplySample mvs s = .next t → Kept cmds t := by
  intro t ht
  unfold execSupplySample at ht
  try dsimp only at ht
  all_goals (repeat' first | (cases ht) | split at ht)
  all_goals (with_reducible repeat' first | assumption | rfl | apply kept_ite | apply kept_ite_st | apply kept_ite_snd | apply kept_supplySample | apply kept_unlessOff)

theorem kept_execFabricSecond {s : State} (hk : Kept cmds s) :
    ∀ t, execFabricSecond s = .next t → Kept cmds t := by
  intro t ht
  unfold execFabricSecond at ht
  try dsimp only at ht
  all_goals (repeat' first | (cases ht) | split at ht)
  all_goals (with_reducible repeat' first | assumption | rfl | apply kept_fabricSecond | apply kept_unlessOff)

theorem kept_execTwinWaymark (chip : Fin 64) (gen : Fin 16) {s : State} (hk : Kept cmds s) :
    ∀ t, execTwinWaymark chip gen s = .next t → Kept cmds t := by
  intro t ht
  unfold execTwinWaymark at ht
  try dsimp only at ht
  all_goals (repeat' first | (cases ht) | split at ht)
  all_goals (with_reducible repeat' first | assumption | rfl | apply kept_twinMark)

theorem kept_execTwinFrameRx (lane : Fin 96) (f : Frame) (check : Nat) (fits : Bool) {s : State} (hk : Kept cmds s) :
    ∀ t, execTwinFrameRx lane f check fits s = .next t → Kept cmds t := by
  intro t ht
  unfold execTwinFrameRx at ht
  try dsimp only at ht
  all_goals (repeat' first | (cases ht) | split at ht)
  all_goals (with_reducible repeat' first | assumption | rfl | apply kept_ite | apply kept_ite_st | apply kept_ite_snd | apply kept_twinRx)

theorem kept_execMarkOutputTimeout (port : Fin 8) {s : State} (hk : Kept cmds s) :
    ∀ t, execMarkOutputTimeout port s = .next t → Kept cmds t := by
  intro t ht
  unfold execMarkOutputTimeout at ht
  try dsimp only at ht
  all_goals (repeat' first | (cases ht) | split at ht)
  all_goals (with_reducible repeat' first | assumption | rfl | apply kept_sendPort | (intro _ _ _) | (intro _ _) | split | refine kept_snd ?_ (by assumption) | refine kept_snd2 ?_ (by assumption) | refine kept_st ?_ (by assumption) | refine kept_get ?_ (by assumption) | refine kept_get2 ?_ (by assumption) | apply kept_with_frm)

theorem kept_execReadyExitProgress {s : State} (hk : Kept cmds s) :
    ∀ t, execReadyExitProgress s = .next t → Kept cmds t := by
  intro t ht
  unfold execReadyExitProgress at ht
  try dsimp only at ht
  all_goals (repeat' first | (cases ht) | split at ht)
  all_goals (with_reducible repeat' first | assumption | rfl | apply kept_exitAdvance)

theorem kept_execSurveyStepComplete (word : BitVec 64) (expected : BitVec 64) {s : State} (hk : Kept cmds s) :
    ∀ t, execSurveyStepComplete word expected s = .next t → Kept cmds t := by
  intro t ht
  unfold execSurveyStepComplete at ht
  try dsimp only at ht
  all_goals (repeat' first | (cases ht) | split at ht)
  all_goals (with_reducible repeat' first | assumption | rfl | apply kept_surveyStep)

theorem kept_execBeaconLost (peerAct : Bool) {s : State} (hk : Kept cmds s) :
    ∀ t, execBeaconLost peerAct s = .next t → Kept cmds t := by
  intro t ht
  unfold execBeaconLost at ht
  try dsimp only at ht
  all_goals (repeat' first | (cases ht) | split at ht)
  all_goals (with_reducible repeat' first | assumption | rfl | apply kept_beaconLost)

theorem kept_execPeerActRise {s : State} (hk : Kept cmds s) :
    ∀ t, execPeerActRise s = .next t → Kept cmds t := by
  intro t ht
  unfold execPeerActRise at ht
  try dsimp only at ht
  all_goals (repeat' first | (cases ht) | split at ht)
  all_goals (with_reducible repeat' first | assumption | rfl | apply kept_peerRise)

theorem kept_execHandoverTimeout {s : State} (hk : Kept cmds s) :
    ∀ t, execHandoverTimeout s = .next t → Kept cmds t := by
  intro t ht
  unfold execHandoverTimeout at ht
  try dsimp only at ht
  all_goals (repeat' first | (cases ht) | split at ht)
  all_goals (with_reducible repeat' first | assumption | rfl | apply kept_handoverTimeout)

theorem kept_execSwitchbackHoldExpiry {s : State} (hk : Kept cmds s) :
    ∀ t, execSwitchbackHoldExpiry s = .next t → Kept cmds t := by
  intro t ht
  unfold execSwitchbackHoldExpiry at ht
  try dsimp only at ht
  all_goals (repeat' first | (cases ht) | split at ht)
  all_goals (with_reducible repeat' first | assumption | rfl | apply kept_holdExpiry)

theorem kept_execRevertDelayExpiry {s : State} (hk : Kept cmds s) :
    ∀ t, execRevertDelayExpiry s = .next t → Kept cmds t := by
  intro t ht
  unfold execRevertDelayExpiry at ht
  try dsimp only at ht
  all_goals (repeat' first | (cases ht) | split at ht)
  all_goals (with_reducible repeat' first | assumption | rfl | apply kept_revertExpiry)

theorem kept_execSigMissingTimeout (own : Bool) {s : State} (hk : Kept cmds s) :
    ∀ t, execSigMissingTimeout own s = .next t → Kept cmds t := by
  intro t ht
  unfold execSigMissingTimeout at ht
  try dsimp only at ht
  all_goals (repeat' first | (cases ht) | split at ht)
  all_goals (with_reducible repeat' first | assumption | rfl | apply kept_sigMissing)

theorem kept_execAatFire (env : Env) {s : State} (hk : Kept cmds s) :
    ∀ t, execAatFire env s = .next t → Kept cmds t := by
  intro t ht
  unfold execAatFire at ht
  try dsimp only at ht
  all_goals (repeat' first | (cases ht) | split at ht)
  all_goals (with_reducible repeat' first | assumption | rfl | apply kept_aatFire)

theorem kept_execLogRecordWrite {s : State} (hk : Kept cmds s) :
    ∀ t, execLogRecordWrite s = .next t → Kept cmds t := by
  intro t ht
  unfold execLogRecordWrite at ht
  try dsimp only at ht
  all_goals (repeat' first | (cases ht) | split at ht)
  all_goals (with_reducible repeat' first | assumption | rfl | apply kept_ite | apply kept_ite_st | apply kept_ite_snd | apply kept_logWrite | apply kept_unlessOff)

theorem kept_execSrEntryComplete (stack : Fin 2) {s : State} (hk : Kept cmds s) :
    ∀ t, execSrEntryComplete stack s = .next t → Kept cmds t := by
  intro t ht
  unfold execSrEntryComplete at ht
  try dsimp only at ht
  all_goals (repeat' first | (cases ht) | split at ht)
  all_goals (with_reducible repeat' first | assumption | rfl | apply kept_modeSettle | apply kept_srEntered)

theorem kept_execSrExitComplete (stack : Fin 2) (wait : Fin 1601) {s : State} (hk : Kept cmds s) :
    ∀ t, execSrExitComplete stack wait s = .next t → Kept cmds t := by
  intro t ht
  unfold execSrExitComplete at ht
  try dsimp only at ht
  all_goals (repeat' first | (cases ht) | split at ht)
  all_goals (with_reducible repeat' first | assumption | rfl | apply kept_modeSettle | apply kept_srExited)

end Sys2Proof.Machine
end

