-- ==== Sys2Proof/Laws/KeptAccess.lean ====
section
/-! SUPPORT. What the operations of Machine/Access keep (Laws/Kept). -/

namespace Sys2Proof.Machine

variable {cmds : List Instr}

theorem kept_lnsWrite (off : Nat) (v : Nat) (env : Env) {s : State} (hk : Kept cmds s) :
    ∀ r, lnsWrite off v env s = some r → Kept cmds r.st := by
  intro t ht
  unfold lnsWrite at ht
  try dsimp only at ht
  all_goals (repeat' first | (cases ht) | split at ht)
  all_goals (with_reducible repeat' first | assumption | rfl | apply kept_ite | apply kept_ite_st | apply kept_ite_snd | apply kept_acc | apply kept_laneCtrlWrite | apply kept_lnsBasicWrite | apply kept_lnsCntClear | apply kept_octetRoleWrite | apply kept_txFirWrite)

theorem kept_frmWrite (off : Nat) (v : Nat) {s : State} (hk : Kept cmds s) :
    ∀ r, frmWrite off v s = some r → Kept cmds r.st := by
  intro t ht
  unfold frmWrite at ht
  try dsimp only at ht
  all_goals (repeat' first | (cases ht) | split at ht)
  all_goals (with_reducible repeat' first | assumption | rfl | apply kept_ite | apply kept_ite_st | apply kept_ite_snd | apply kept_acc | apply kept_ckPresetWrite | apply kept_ckShadowWrite | apply kept_frmCntClear | apply kept_portCfgWrite)

theorem kept_decWrite (off : Nat) (wmask : Nat) (v : Nat) {s : State} (hk : Kept cmds s) :
    ∀ r, decWrite off wmask v s = some r → Kept cmds r.st := by
  intro t ht
  unfold decWrite at ht
  try dsimp only at ht
  all_goals (repeat' first | (cases ht) | split at ht)
  all_goals (with_reducible repeat' first | assumption | rfl | apply kept_ite | apply kept_ite_st | apply kept_ite_snd | apply kept_acc | apply kept_decBasicWrite | apply kept_decCntClear | apply kept_decShadowWrite | apply kept_decSyncWrite)

theorem kept_setVout (mv : Nat) {s : State} (hk : Kept cmds s) :
    Kept cmds (setVout mv s) := by
  unfold setVout
  try dsimp only
  all_goals (with_reducible repeat' first | assumption | rfl | apply kept_emit | apply kept_setReg | split | refine kept_snd ?_ (by assumption) | refine kept_snd2 ?_ (by assumption) | refine kept_st ?_ (by assumption) | refine kept_get ?_ (by assumption) | refine kept_get2 ?_ (by assumption) | apply kept_with_hlt | (show _ = _; with_unfolding_all rfl))

theorem kept_voutWrite (v : Nat) {s : State} (hk : Kept cmds s) :
    Kept cmds (voutWrite v s).st := by
  unfold voutWrite
  try dsimp only
  all_goals (with_reducible repeat' first | assumption | rfl | apply kept_ite | apply kept_ite_st | apply kept_ite_snd | apply kept_acc | apply kept_refuse | apply kept_setVout)

theorem kept_pmbCfgWrite (v : Nat) {s : State} (hk : Kept cmds s) :
    Kept cmds (pmbCfgWrite v s).st := by
  unfold pmbCfgWrite
  try dsimp only
  all_goals (with_reducible repeat' first | assumption | rfl | apply kept_ite | apply kept_ite_st | apply kept_ite_snd | apply kept_acc | apply kept_refuse | apply kept_storeBits)

theorem kept_msixFlush {s : State} (hk : Kept cmds s) :
    Kept cmds (msixFlush s) := by
  unfold msixFlush
  try dsimp only
  all_goals (with_reducible repeat' first | assumption | rfl | apply kept_ite | apply kept_ite_st | apply kept_ite_snd | apply kept_emit | apply kept_foldS | apply kept_wf | (intro _ _ _))

theorem kept_msixWrite (w : Nat) (v : Nat) {s : State} (hk : Kept cmds s) :
    Kept cmds (msixWrite w v s) := by
  unfold msixWrite
  try dsimp only
  all_goals (with_reducible repeat' first | assumption | rfl | apply kept_ite | apply kept_ite_st | apply kept_ite_snd | apply kept_msixFlush | apply kept_setReg)

theorem kept_cmxWrite (m : Master) (off : Nat) (wmask : Nat) (v : Nat) {s : State} (hk : Kept cmds s) :
    ∀ r, cmxWrite m off wmask v s = some r → Kept cmds r.st := by
  intro t ht
  unfold cmxWrite at ht
  try dsimp only at ht
  all_goals (repeat' first | (cases ht) | split at ht)
  all_goals (with_reducible repeat' first | assumption | rfl | apply kept_ite | apply kept_ite_st | apply kept_ite_snd | apply kept_acc | apply kept_msixWrite | apply kept_pmbCfgWrite | apply kept_storeBits | apply kept_voutWrite | apply kept_zero)

theorem kept_recGo (margins : List (BitVec 16)) {s : State} (hk : Kept cmds s) :
    Kept cmds (recGo margins s).st := by
  unfold recGo
  try dsimp only
  all_goals (with_reducible repeat' first | assumption | rfl | apply kept_ite | apply kept_ite_st | apply kept_ite_snd | apply kept_acc | apply kept_bootRun | apply kept_raise | apply kept_recCopy | apply kept_refuse | apply kept_setReg | (intro _ _ _) | (intro _ _) | split | refine kept_snd ?_ (by assumption) | refine kept_snd2 ?_ (by assumption) | refine kept_st ?_ (by assumption) | refine kept_get ?_ (by assumption) | refine kept_get2 ?_ (by assumption) | apply kept_with_tru)

theorem kept_truWrite (off : Nat) (v : Nat) (env : Env) {s : State} (hk : Kept cmds s) :
    ∀ r, truWrite off v env s = some r → Kept cmds r.st := by
  intro t ht
  unfold truWrite at ht
  try dsimp only at ht
  all_goals (repeat' first | (cases ht) | split at ht)
  all_goals (with_reducible repeat' first | assumption | rfl | apply kept_ite | apply kept_ite_st | apply kept_ite_snd | apply kept_acc | apply kept_recData | apply kept_recGo | apply kept_refuse | apply kept_setReg | apply kept_tokenWrite)

theorem kept_drainCtrl (v : Nat) {s : State} (hk : Kept cmds s) :
    Kept cmds (drainCtrl v s) := by
  unfold drainCtrl
  try dsimp only
  all_goals (with_reducible repeat' first | assumption | rfl | apply kept_ite | apply kept_ite_st | apply kept_ite_snd | apply kept_accCtrlWrite | apply kept_hostMark)

theorem kept_unitWrite (m : Master) (u : Nat) (off : Nat) (wmask : Nat) (v : Nat) (env : Env) {s : State} (hk : Kept cmds s) :
    ∀ r, unitWrite m u off wmask v env s = some r → Kept cmds r.st := by
  intro t ht
  unfold unitWrite at ht
  try dsimp only at ht
  all_goals (repeat' first | (cases ht) | split at ht)
  all_goals (with_reducible repeat' first | assumption | rfl | apply kept_ite | apply kept_ite_st | apply kept_ite_snd | apply kept_acc | refine kept_accWrite _ _ ?_ | refine kept_atlWriteWith _ _ _ _ ?_ | refine kept_brgWrite _ _ ?_ | refine kept_cadWrite _ _ ?_ | refine kept_chnWrite _ _ ?_ | refine kept_cmxWrite _ _ _ _ ?_ | refine kept_decWrite _ _ _ ?_ | apply kept_drainCtrl | refine kept_frmWrite _ _ ?_ | refine kept_grtWrite _ _ ?_ | refine kept_hltWrite _ _ _ ?_ | refine kept_lnsWrite _ _ _ ?_ | refine kept_memWrite _ _ ?_ | refine kept_merWriteWith _ _ _ ?_ | refine kept_rsyWrite _ _ ?_ | refine kept_stgWrite _ _ ?_ | refine kept_svyWrite _ _ ?_ | refine kept_timWrite _ _ ?_ | refine kept_trpWrite _ _ ?_ | refine kept_truWrite _ _ _ ?_ | refine kept_xarWrite _ _ ?_ | split | refine kept_snd ?_ (by assumption) | refine kept_snd2 ?_ (by assumption) | refine kept_st ?_ (by assumption))

theorem kept_eventClear (u : Nat) (v : Nat) {s : State} (hk : Kept cmds s) :
    Kept cmds (eventClear u v s) := by
  unfold eventClear
  try dsimp only
  all_goals (with_reducible repeat' first | assumption | rfl | apply kept_ite | apply kept_ite_st | apply kept_ite_snd | apply kept_sendVector | apply kept_setReg)

theorem kept_regWrite (m : Master) (u : Nat) (off : Nat) (v : Nat) (env : Env) {s : State} (hk : Kept cmds s) :
    ∀ r, regWrite m u off v env s = some r → Kept cmds r.st := by
  intro t ht
  unfold regWrite at ht
  try dsimp only at ht
  all_goals (repeat' first | (cases ht) | split at ht)
  all_goals (with_reducible repeat' first | assumption | rfl | apply kept_ite | apply kept_ite_st | apply kept_ite_snd | apply kept_acc | apply kept_eventClear | apply kept_saveSettings | apply kept_storeBits | refine kept_unitWrite _ _ _ _ _ _ ?_ | apply kept_withIrq | (intro _ _ _) | (intro _ _) | split | refine kept_snd ?_ (by assumption) | refine kept_snd2 ?_ (by assumption) | refine kept_st ?_ (by assumption))

theorem kept_busError (m : Master) (a : Nat) (write : Bool) (cause : Nat) {s : State} (hk : Kept cmds s) :
    Kept cmds (busError m a write cause s) := by
  unfold busError
  try dsimp only
  all_goals (with_reducible repeat' first | assumption | rfl | apply kept_ite | apply kept_ite_st | apply kept_ite_snd | apply kept_inc | apply kept_raise | apply kept_setReg)

theorem kept_answered (m : Master) (a : Nat) (write : Bool) (r : Resp) {s : State} (hk : Kept cmds s) :
    Kept cmds (answered m a write r s) := by
  unfold answered
  try dsimp only
  all_goals (with_reducible repeat' first | assumption | rfl | apply kept_ite | apply kept_ite_st | apply kept_ite_snd | apply kept_busError)

theorem kept_busWrite (m : Master) (a : Nat) (v : Nat) (env : Env) {s : State} (hk : Kept cmds s) :
    Kept cmds (busWrite m a v env s).2 := by
  unfold busWrite
  try dsimp only
  all_goals (with_reducible repeat' first | assumption | rfl | apply kept_ite | apply kept_ite_st | apply kept_ite_snd | apply kept_answered | refine kept_regWrite _ _ _ _ _ ?_ | apply kept_setReg | split | refine kept_snd ?_ (by assumption) | refine kept_snd2 ?_ (by assumption) | refine kept_st ?_ (by assumption))

theorem kept_busRead (m : Master) (a : Nat) {s : State} (hk : Kept cmds s) :
    Kept cmds (busRead m a s).2.2 := by
  unfold busRead
  try dsimp only
  all_goals (with_reducible repeat' first | assumption | rfl | apply kept_ite | apply kept_ite_st | apply kept_ite_snd | apply kept_answered | apply kept_wf | split)

end Sys2Proof.Machine
end

