-- ==== Sys2Proof/Laws/KeptMailbox.lean ====
section
/-! SUPPORT. What the operations of Machine/Mailbox keep (Laws/Kept). -/

namespace Sys2Proof.Machine

variable {cmds : List Instr}

theorem kept_coreWrite (a : Nat) (v : Nat) (env : Env) {s : State} (hk : Kept cmds s) :
    Kept cmds (coreWrite a v env s).2 := by
  unfold coreWrite
  try dsimp only
  all_goals (with_reducible repeat' first | assumption | rfl | apply kept_busWrite)

theorem kept_viaWrite (c : Nat) (a : Nat) (v : Nat) (ev : Nat) (env : Env) {s : State} (hk : Kept cmds s) :
    Kept cmds (viaWrite c a v ev env s) := by
  unfold viaWrite
  try dsimp only
  all_goals (with_reducible repeat' first | assumption | rfl | apply kept_ite | apply kept_ite_st | apply kept_ite_snd | apply kept_coreWrite | apply kept_mboxDone)

theorem kept_mboxHold (c : Nat) (code : Nat) (arg : Nat) {s : State} (hk : Kept cmds s) :
    Kept cmds (mboxHold c code arg s) := by
  unfold mboxHold
  try dsimp only
  all_goals (with_reducible repeat' first | assumption | rfl | split | refine kept_snd ?_ (by assumption) | refine kept_snd2 ?_ (by assumption) | refine kept_st ?_ (by assumption) | refine kept_get ?_ (by assumption) | refine kept_get2 ?_ (by assumption) | apply kept_with_cmx)

theorem kept_mbGetInfo (c : Nat) {s : State} (hk : Kept cmds s) :
    Kept cmds (mbGetInfo c s) := by
  unfold mbGetInfo
  try dsimp only
  all_goals (with_reducible repeat' first | assumption | rfl | apply kept_mboxDone)

theorem kept_applyUnits (c : Nat) (env : Env) (x0 : List Nat) {x1 : State} (hk : Kept cmds x1) :
    Kept cmds (applyUnits c env x0 x1) := by
  fun_induction applyUnits <;> grind [kept_coreWrite, kept_mboxDone, kept_mk, Kept]

theorem kept_mbApplyReference (c : Nat) (env : Env) {s : State} (hk : Kept cmds s) :
    Kept cmds (mbApplyReference c env s) := by
  unfold mbApplyReference
  grind [kept_applyUnits, kept_mboxDone, kept_mk, Kept]

theorem kept_mbSetEpoch (c : Nat) (args : List Nat) (env : Env) {s : State} (hk : Kept cmds s) :
    Kept cmds (mbSetEpoch c args env s) := by
  unfold mbSetEpoch
  try dsimp only
  all_goals (with_reducible repeat' first | assumption | rfl | apply kept_ite | apply kept_ite_st | apply kept_ite_snd | apply kept_coreWrite | apply kept_mboxDone | apply kept_mboxHold)

theorem kept_mbSelectRef (c : Nat) (e : Nat) (env : Env) {s : State} (hk : Kept cmds s) :
    Kept cmds (mbSelectRef c e env s) := by
  unfold mbSelectRef
  try dsimp only
  all_goals (with_reducible repeat' first | assumption | rfl | apply kept_ite | apply kept_ite_st | apply kept_ite_snd | apply kept_coreWrite | apply kept_mboxDone | apply kept_mboxHold)

theorem kept_mbPlanRun (c : Nat) (n : Nat) (env : Env) {s : State} (hk : Kept cmds s) :
    Kept cmds (mbPlanRun c n env s) := by
  unfold mbPlanRun
  try dsimp only
  all_goals (with_reducible repeat' first | assumption | rfl | apply kept_ite | apply kept_ite_st | apply kept_ite_snd | apply kept_mboxDone | apply kept_viaWrite)

theorem kept_mbPlanStop (c : Nat) (env : Env) {s : State} (hk : Kept cmds s) :
    Kept cmds (mbPlanStop c env s) := by
  unfold mbPlanStop
  try dsimp only
  all_goals (with_reducible repeat' first | assumption | rfl | apply kept_ite | apply kept_ite_st | apply kept_ite_snd | apply kept_coreWrite | apply kept_mboxDone | apply kept_mboxStep)

theorem kept_mbDrain (c : Nat) (plan : Nat) (arg : Nat) (env : Env) {s : State} (hk : Kept cmds s) :
    Kept cmds (mbDrain c plan arg env s) := by
  unfold mbDrain
  try dsimp only
  all_goals (with_reducible repeat' first | assumption | rfl | apply kept_ite | apply kept_ite_st | apply kept_ite_snd | apply kept_coreWrite | apply kept_mboxDone | apply kept_viaWrite)

theorem kept_mbScope (c : Nat) (kind : Nat) (args : List Nat) {s : State} (hk : Kept cmds s) :
    Kept cmds (mbScope c kind args s) := by
  unfold mbScope
  try dsimp only
  all_goals (with_reducible repeat' first | assumption | rfl | apply kept_ite | apply kept_ite_st | apply kept_ite_snd | apply kept_hostMark | apply kept_mboxDone)

theorem kept_mbArm (c : Nat) (u : Nat) (v : Nat) (env : Env) {s : State} (hk : Kept cmds s) :
    Kept cmds (mbArm c u v env s) := by
  unfold mbArm
  try dsimp only
  all_goals (with_reducible repeat' first | assumption | rfl | apply kept_ite | apply kept_ite_st | apply kept_ite_snd | apply kept_mboxDone | apply kept_viaWrite)

theorem kept_mbSetVcore (c : Nat) (mv : Nat) (env : Env) {s : State} (hk : Kept cmds s) :
    Kept cmds (mbSetVcore c mv env s) := by
  unfold mbSetVcore
  try dsimp only
  all_goals (with_reducible repeat' first | assumption | rfl | apply kept_ite | apply kept_ite_st | apply kept_ite_snd | apply kept_mboxDone | apply kept_raise | apply kept_viaWrite)

theorem kept_trainNext {s : State} (hk : Kept cmds s) :
    Kept cmds (trainNext s) := by
  unfold trainNext
  try dsimp only
  all_goals (with_reducible repeat' first | assumption | rfl | apply kept_setStack | apply kept_stepEnds | split | refine kept_snd ?_ (by assumption) | refine kept_snd2 ?_ (by assumption) | refine kept_st ?_ (by assumption) | refine kept_get ?_ (by assumption) | refine kept_get2 ?_ (by assumption) | apply kept_with_cmx | apply kept_with_mem)

theorem kept_mbTrain (c : Nat) (env : Env) {s : State} (hk : Kept cmds s) :
    Kept cmds (mbTrain c env s) := by
  unfold mbTrain
  try dsimp only
  all_goals (with_reducible repeat' first | assumption | rfl | apply kept_ite | apply kept_ite_st | apply kept_ite_snd | apply kept_adaptLane | apply kept_foldS | apply kept_mboxDone | apply kept_mboxStep | apply kept_trainNext | (intro _ _ _) | (intro _ _) | split | refine kept_snd ?_ (by assumption) | refine kept_snd2 ?_ (by assumption) | refine kept_st ?_ (by assumption) | refine kept_get ?_ (by assumption) | refine kept_get2 ?_ (by assumption) | apply kept_with_cmx)

theorem kept_trainGoesOn (n : Nat) (m : Nat) {s : State} (hk : Kept cmds s) :
    Kept cmds (trainGoesOn n m s) := by
  unfold trainGoesOn
  try dsimp only
  all_goals (with_reducible repeat' first | assumption | rfl | apply kept_ite | apply kept_ite_st | apply kept_ite_snd | apply kept_trainDone | apply kept_trainNext | split | refine kept_snd ?_ (by assumption) | refine kept_snd2 ?_ (by assumption) | refine kept_st ?_ (by assumption) | refine kept_get ?_ (by assumption) | refine kept_get2 ?_ (by assumption) | apply kept_with_cmx)

theorem kept_mbTakeover (c : Nat) {s : State} (hk : Kept cmds s) :
    Kept cmds (mbTakeover c s) := by
  unfold mbTakeover
  try dsimp only
  all_goals (with_reducible repeat' first | assumption | rfl | apply kept_ite | apply kept_ite_st | apply kept_ite_snd | apply kept_mboxDone | apply kept_takeover)

theorem kept_updateTrial (c : Nat) (env : Env) {s : State} (hk : Kept cmds s) :
    Kept cmds (updateTrial c env s) := by
  unfold updateTrial
  try dsimp only
  all_goals (with_reducible repeat' first | assumption | rfl | apply kept_ite | apply kept_ite_st | apply kept_ite_snd | apply kept_mboxDone | apply kept_setSlotSt | apply kept_warmBoot)

theorem kept_updateReject (c : Nat) (env : Env) {s : State} (hk : Kept cmds s) :
    Kept cmds (updateReject c env s) := by
  unfold updateReject
  try dsimp only
  all_goals (with_reducible repeat' first | assumption | rfl | apply kept_ite | apply kept_ite_st | apply kept_ite_snd | apply kept_mboxDone | apply kept_setSlotSt | apply kept_warmBoot)

theorem kept_mbUpdate (c : Nat) (args : List Nat) (env : Env) {s : State} (hk : Kept cmds s) :
    Kept cmds (mbUpdate c args env s) := by
  unfold mbUpdate
  try dsimp only
  all_goals (with_reducible repeat' first | assumption | rfl | apply kept_mboxDone | apply kept_updateConfirm | apply kept_updateKeys | apply kept_updateReject | apply kept_updateStatus | apply kept_updateTicket | apply kept_updateTrial | apply kept_updateWrite | split)

theorem kept_mboxRun (c : Nat) (code : Nat) (args : List Nat) (env : Env) {s : State} (hk : Kept cmds s) :
    Kept cmds (mboxRun c code args env s) := by
  unfold mboxRun
  try dsimp only
  all_goals (with_reducible repeat' first | assumption | rfl | apply kept_ite | apply kept_ite_st | apply kept_ite_snd | apply kept_mbApplyReference | apply kept_mbArm | apply kept_mbDrain | apply kept_mbGetInfo | apply kept_mbPlanRun | apply kept_mbPlanStop | apply kept_mbScope | apply kept_mbSelectRef | apply kept_mbSetEpoch | apply kept_mbSetVcore | apply kept_mbTakeover | apply kept_mbTrain | apply kept_mbUpdate | apply kept_mboxDone | apply kept_readLog | apply kept_requestMode | split)

theorem kept_mboxGo (c : Nat) (code : Nat) (args : List Nat) (env : Env) {s : State} (hk : Kept cmds s) :
    Kept cmds (mboxGo c code args env s) := by
  unfold mboxGo
  try dsimp only
  all_goals (with_reducible repeat' first | assumption | rfl | apply kept_ite | apply kept_ite_st | apply kept_ite_snd | apply kept_mboxRun | apply kept_mboxStart)

theorem kept_mboxGoReg (c : Nat) (env : Env) {s : State} (hk : Kept cmds s) :
    Kept cmds (mboxGoReg c env s) := by
  unfold mboxGoReg
  try dsimp only
  all_goals (with_reducible repeat' first | assumption | rfl | apply kept_mboxGo)

theorem kept_mboxLate (c : Nat) {s : State} (hk : Kept cmds s) :
    Kept cmds (mboxLate c s) := by
  unfold mboxLate
  try dsimp only
  all_goals (with_reducible repeat' first | assumption | rfl | apply kept_ite | apply kept_ite_st | apply kept_ite_snd | split | refine kept_snd ?_ (by assumption) | refine kept_snd2 ?_ (by assumption) | refine kept_st ?_ (by assumption) | refine kept_get ?_ (by assumption) | refine kept_get2 ?_ (by assumption) | apply kept_with_cmx)

theorem kept_trainAbort (c : Nat) {s : State} (hk : Kept cmds s) :
    Kept cmds (trainAbort c s) := by
  unfold trainAbort
  try dsimp only
  all_goals (with_reducible repeat' first | assumption | rfl | apply kept_mboxDone | apply kept_mboxLate | apply kept_modeSettle | apply kept_setStack | split | refine kept_snd ?_ (by assumption) | refine kept_snd2 ?_ (by assumption) | refine kept_st ?_ (by assumption) | refine kept_get ?_ (by assumption) | refine kept_get2 ?_ (by assumption) | apply kept_with_cmx | apply kept_with_mem)

theorem kept_stopAbort (c : Nat) {s : State} (hk : Kept cmds s) :
    Kept cmds (stopAbort c s) := by
  unfold stopAbort
  try dsimp only
  all_goals (with_reducible repeat' first | assumption | rfl | apply kept_ite | apply kept_ite_st | apply kept_ite_snd | apply kept_State_setScore | apply kept_mboxDone | apply kept_mboxLate | apply kept_wf)

theorem kept_mboxAbort (c : Nat) (env : Env) {s : State} (hk : Kept cmds s) :
    Kept cmds (mboxAbort c env s) := by
  unfold mboxAbort
  try dsimp only
  all_goals (with_reducible repeat' first | assumption | rfl | apply kept_ite | apply kept_ite_st | apply kept_ite_snd | apply kept_mboxDone | apply kept_mboxLate | apply kept_stopAbort | apply kept_trainAbort | apply kept_transUndo | apply kept_wf | apply kept_writeFails | (intro _ _ _) | (intro _ _) | split)

theorem kept_pollSelect {s : State} (hk : Kept cmds s) :
    Kept cmds (pollSelect s) := by
  unfold pollSelect
  try dsimp only
  all_goals (with_reducible repeat' first | assumption | rfl | apply kept_ite | apply kept_ite_st | apply kept_ite_snd | apply kept_mboxDone | (intro _ _ _) | (intro _ _) | split)

theorem kept_pollStop {s : State} (hk : Kept cmds s) :
    Kept cmds (pollStop s) := by
  unfold pollStop
  try dsimp only
  all_goals (with_reducible repeat' first | assumption | rfl | apply kept_ite | apply kept_ite_st | apply kept_ite_snd | apply kept_mboxDone | split)

theorem kept_pollEpoch (made : Nat → Bool) {s : State} (hk : Kept cmds s) :
    Kept cmds (pollEpoch made s) := by
  unfold pollEpoch
  try dsimp only
  all_goals (with_reducible repeat' first | assumption | rfl | apply kept_ite | apply kept_ite_st | apply kept_ite_snd | apply kept_mboxDone | split)

theorem kept_mboxPoll {s : State} (hk : Kept cmds s) :
    Kept cmds (mboxPoll s) := by
  unfold mboxPoll
  try dsimp only
  all_goals (with_reducible repeat' first | assumption | rfl | apply kept_ite | apply kept_ite_st | apply kept_ite_snd | apply kept_pollEpoch | apply kept_pollSelect | apply kept_pollStop)

theorem kept_mboxPollEdge {s : State} (hk : Kept cmds s) :
    Kept cmds (mboxPollEdge s) := by
  unfold mboxPollEdge
  try dsimp only
  all_goals (with_reducible repeat' first | assumption | rfl | apply kept_ite | apply kept_ite_st | apply kept_ite_snd | apply kept_pollEpoch | apply kept_pollSelect | apply kept_pollStop)

theorem kept_execInternalPpsEdge {s : State} (hk : Kept cmds s) :
    ∀ t, execInternalPpsEdge s = .next t → Kept cmds t := by
  intro t ht
  unfold execInternalPpsEdge at ht
  try dsimp only at ht
  all_goals (repeat' first | (cases ht) | split at ht)
  all_goals (with_reducible repeat' first | assumption | rfl | apply kept_internalEdge | apply kept_mboxPollEdge)

theorem kept_execBuildoutLatch (steps : BitVec 40) {s : State} (hk : Kept cmds s) :
    ∀ t, execBuildoutLatch steps s = .next t → Kept cmds t := by
  intro t ht
  unfold execBuildoutLatch at ht
  try dsimp only at ht
  all_goals (repeat' first | (cases ht) | split at ht)
  all_goals (with_reducible repeat' first | assumption | rfl | apply kept_buildoutLatch | apply kept_mboxPoll)

theorem kept_execRefSecond (a : RefMeas) (b : RefMeas) (c : RefMeas) (d : RefMeas) (twin : RefMeas) (y : Int) (phase : Int) {s : State} (hk : Kept cmds s) :
    ∀ t, execRefSecond a b c d twin y phase s = .next t → Kept cmds t := by
  intro t ht
  unfold execRefSecond at ht
  try dsimp only at ht
  all_goals (repeat' first | (cases ht) | split at ht)
  all_goals (with_reducible repeat' first | assumption | rfl | apply kept_mboxPoll | apply kept_refSeconds)

theorem kept_execRefEdgeLoss (entry : Fin 5) (companion : Bool) {s : State} (hk : Kept cmds s) :
    ∀ t, execRefEdgeLoss entry companion s = .next t → Kept cmds t := by
  intro t ht
  unfold execRefEdgeLoss at ht
  try dsimp only at ht
  all_goals (repeat' first | (cases ht) | split at ht)
  all_goals (with_reducible repeat' first | assumption | rfl | apply kept_edgeLoss | apply kept_mboxPoll)

theorem kept_execCoreStopComplete (core : Fin 8) {s : State} (hk : Kept cmds s) :
    ∀ t, execCoreStopComplete core s = .next t → Kept cmds t := by
  intro t ht
  unfold execCoreStopComplete at ht
  try dsimp only at ht
  all_goals (repeat' first | (cases ht) | split at ht)
  all_goals (with_reducible repeat' first | assumption | rfl | apply kept_mboxPoll | apply kept_svyStopDone)

theorem kept_execTrainComplete (pc : Fin 64) (margin : BitVec 16) {s : State} (hk : Kept cmds s) :
    ∀ t, execTrainComplete pc margin s = .next t → Kept cmds t := by
  intro t ht
  unfold execTrainComplete at ht
  try dsimp only at ht
  all_goals (repeat' first | (cases ht) | split at ht)
  all_goals (with_reducible repeat' first | assumption | rfl | apply kept_modeSettle | apply kept_trainGoesOn)

theorem kept_execFlashProgramEnd (good : Bool) {s : State} (hk : Kept cmds s) :
    ∀ t, execFlashProgramEnd good s = .next t → Kept cmds t := by
  intro t ht
  unfold execFlashProgramEnd at ht
  try dsimp only at ht
  all_goals (repeat' first | (cases ht) | split at ht)
  all_goals (with_reducible repeat' first | assumption | rfl | apply kept_programEnd)

end Sys2Proof.Machine
end

