-- ==== Sys2Proof/Laws/KeptMatrix.lean ====
section
/-! SUPPORT. What the operations of Machine/Matrix keep (Laws/Kept). -/

namespace Sys2Proof.Machine

variable {cmds : List Instr}

theorem kept_mboxActs (m : Master) (a : Nat) (v : Nat) (env : Env) {s : State} (hk : Kept cmds s) :
    Kept cmds (mboxActs m a v env s) := by
  unfold mboxActs
  try dsimp only
  all_goals (with_reducible repeat' first | assumption | rfl | apply kept_ite | apply kept_ite_st | apply kept_ite_snd | apply kept_mboxAbort | apply kept_mboxGoReg | (intro _ _ _) | (intro _ _) | split)

theorem kept_wordAccess (q : MatrixReq) (a : Nat) (w : Strobe) {s : State} (hk : Kept cmds s) :
    Kept cmds (wordAccess q a w s).2 := by
  unfold wordAccess
  try dsimp only
  all_goals (with_reducible repeat' first | assumption | rfl | apply kept_ite | apply kept_ite_st | apply kept_ite_snd | apply kept_answered | apply kept_busRead | apply kept_busWrite | apply kept_emit | apply kept_mboxActs | split)

theorem kept_wordsAccess (q : MatrixReq) (x0 : Nat) (x1 : List Strobe) (x2 : List (Resp × Nat)) {x3 : State} (hk : Kept cmds x3) :
    Kept cmds (wordsAccess q x0 x1 x2 x3).2 := by
  fun_induction wordsAccess
  all_goals (try dsimp only)
  all_goals (with_reducible repeat' first | assumption | rfl | apply_assumption | refine kept_wordAccess _ _ _ ?_ | split | refine kept_snd ?_ (by assumption))

theorem kept_barComplete (q : MatrixReq) (out : List (Resp × Nat)) {s : State} (hk : Kept cmds s) :
    Kept cmds (barComplete q out s) := by
  unfold barComplete
  try dsimp only
  all_goals (with_reducible repeat' first | assumption | rfl | apply kept_ite | apply kept_ite_st | apply kept_ite_snd | apply kept_emit)

theorem kept_lockWrite (lock : Option (Nat × Nat × Bool)) (q : MatrixReq) {s : State} (hk : Kept cmds s) :
    Kept cmds (lockWrite lock q s) := by
  unfold lockWrite
  try dsimp only
  all_goals (with_reducible repeat' first | assumption | rfl | apply kept_ite | apply kept_ite_st | apply kept_ite_snd | apply kept_busError | apply kept_emit | split | refine kept_snd ?_ (by assumption) | refine kept_snd2 ?_ (by assumption) | refine kept_st ?_ (by assumption) | refine kept_get ?_ (by assumption) | refine kept_get2 ?_ (by assumption) | apply kept_with_cmx)

theorem kept_lockRead (q : MatrixReq) {s : State} (hk : Kept cmds s) :
    Kept cmds (lockRead q s) := by
  unfold lockRead
  try dsimp only
  all_goals (with_reducible repeat' first | assumption | rfl | apply kept_ite | apply kept_ite_st | apply kept_ite_snd | split | refine kept_snd ?_ (by assumption) | refine kept_snd2 ?_ (by assumption) | refine kept_st ?_ (by assumption) | refine kept_get ?_ (by assumption) | refine kept_get2 ?_ (by assumption) | apply kept_with_cmx)

theorem kept_serve (q : MatrixReq) {s : State} (hk : Kept cmds s) :
    Kept cmds (serve q s) := by
  unfold serve
  try dsimp only
  all_goals (with_reducible repeat' first | assumption | rfl | apply kept_ite | apply kept_ite_st | apply kept_ite_snd | apply kept_barComplete | apply kept_lockRead | apply kept_lockWrite | apply kept_wordsAccess | split | refine kept_snd ?_ (by assumption) | refine kept_snd2 ?_ (by assumption) | refine kept_st ?_ (by assumption) | refine kept_get ?_ (by assumption) | refine kept_get2 ?_ (by assumption) | apply kept_with_cmx)

theorem kept_drainWaits (x0 : Nat) {x1 : State} (hk : Kept cmds x1) :
    Kept cmds (drainWaits x0 x1) := by
  fun_induction drainWaits
  all_goals (try dsimp only)
  all_goals (with_reducible repeat' first | assumption | rfl | apply_assumption | apply kept_serve | split | refine kept_snd ?_ (by assumption) | refine kept_snd2 ?_ (by assumption) | refine kept_st ?_ (by assumption) | refine kept_get ?_ (by assumption) | refine kept_get2 ?_ (by assumption) | apply kept_with_cmx)

theorem kept_drainPorts {s : State} (hk : Kept cmds s) :
    Kept cmds (drainPorts s) := by
  unfold drainPorts
  try dsimp only
  all_goals (with_reducible repeat' first | assumption | rfl | apply kept_drainWaits)

theorem kept_submit (q : MatrixReq) {s : State} (hk : Kept cmds s) :
    Kept cmds (submit q s) := by
  unfold submit
  try dsimp only
  all_goals (with_reducible repeat' first | assumption | rfl | apply kept_ite | apply kept_ite_st | apply kept_ite_snd | apply kept_drainPorts | apply kept_serve | split | refine kept_snd ?_ (by assumption) | refine kept_snd2 ?_ (by assumption) | refine kept_st ?_ (by assumption) | refine kept_get ?_ (by assumption) | refine kept_get2 ?_ (by assumption) | apply kept_with_cmx)

theorem kept_hostWord (m : Master) (a : Nat) (v : Nat) (env : Env) {s : State} (hk : Kept cmds s) :
    Kept cmds (hostWord m a v env s) := by
  unfold hostWord
  try dsimp only
  all_goals (with_reducible repeat' first | assumption | rfl | apply kept_submit)

theorem kept_burstGoesOn (b : Burst) (m : Master) (beats : List (List Strobe)) (env : Env) {s : State} (hk : Kept cmds s) :
    Kept cmds (burstGoesOn b m beats env s) := by
  unfold burstGoesOn
  try dsimp only
  all_goals (with_reducible repeat' first | assumption | rfl | apply kept_ite | apply kept_ite_st | apply kept_ite_snd | apply kept_drainPorts | apply kept_wordsAccess | split | refine kept_snd ?_ (by assumption) | refine kept_snd2 ?_ (by assumption) | refine kept_st ?_ (by assumption) | refine kept_get ?_ (by assumption) | refine kept_get2 ?_ (by assumption) | apply kept_with_cmx)

theorem kept_finishReads (m : Master) (x0 : Nat) (x1 : Nat) {x2 : State} (hk : Kept cmds x2) :
    Kept cmds (finishReads m x0 x1 x2) := by
  fun_induction finishReads
  all_goals (with_reducible repeat' first | assumption | rfl | apply_assumption | apply kept_busRead)

theorem kept_masterReset (m : Master) {s : State} (hk : Kept cmds s) :
    Kept cmds (masterReset m s) := by
  unfold masterReset
  try dsimp only
  all_goals (with_reducible repeat' first | assumption | rfl | apply kept_ite | apply kept_ite_st | apply kept_ite_snd | apply kept_drainPorts | apply kept_finishReads | apply kept_inc | apply kept_raise | (intro _ _ _) | (intro _ _) | split | refine kept_snd ?_ (by assumption) | refine kept_snd2 ?_ (by assumption) | refine kept_st ?_ (by assumption) | refine kept_get ?_ (by assumption) | refine kept_get2 ?_ (by assumption) | apply kept_with_cmx)

theorem kept_targetTimeout (m : Master) (a : Nat) (write : Bool) {s : State} (hk : Kept cmds s) :
    Kept cmds (targetTimeout m a write s) := by
  unfold targetTimeout
  try dsimp only
  all_goals (with_reducible repeat' first | assumption | rfl | apply kept_ite | apply kept_ite_st | apply kept_ite_snd | apply kept_busError | apply kept_drainPorts | apply kept_emit | split | refine kept_snd ?_ (by assumption) | refine kept_snd2 ?_ (by assumption) | refine kept_st ?_ (by assumption) | refine kept_get ?_ (by assumption) | refine kept_get2 ?_ (by assumption) | apply kept_with_cmx)

theorem kept_lockExpire {s : State} (hk : Kept cmds s) :
    Kept cmds (lockExpire s) := by
  unfold lockExpire
  try dsimp only
  all_goals (with_reducible repeat' first | assumption | rfl | apply kept_drainPorts | split | refine kept_snd ?_ (by assumption) | refine kept_snd2 ?_ (by assumption) | refine kept_st ?_ (by assumption) | refine kept_get ?_ (by assumption) | refine kept_get2 ?_ (by assumption) | apply kept_with_cmx)

theorem kept_execRegisterWrite (m : Master) (addr : Word) (value : Word) (env : Env) {s : State} (hk : Kept cmds s) :
    ∀ t, execRegisterWrite m addr value env s = .next t → Kept cmds t := by
  intro t ht
  unfold execRegisterWrite at ht
  try dsimp only at ht
  all_goals (repeat' first | (cases ht) | split at ht)
  all_goals (with_reducible repeat' first | assumption | rfl | apply kept_hostWord)

theorem kept_execUnitEventClear (m : Master) (unit : Fin 21) (value : Word) (env : Env) {s : State} (hk : Kept cmds s) :
    ∀ t, execUnitEventClear m unit value env s = .next t → Kept cmds t := by
  intro t ht
  unfold execUnitEventClear at ht
  try dsimp only at ht
  all_goals (repeat' first | (cases ht) | split at ht)
  all_goals (with_reducible repeat' first | assumption | rfl | apply kept_hostWord)

theorem kept_execMatrixBurst (m : Master) (addr : Word) (write : Bool) (lock : Bool) (total : Fin 17) (beats : List (List Strobe)) (env : Env) {s : State} (hk : Kept cmds s) :
    ∀ t, execMatrixBurst m addr write lock total beats env s = .next t → Kept cmds t := by
  intro t ht
  unfold execMatrixBurst at ht
  try dsimp only at ht
  all_goals (repeat' first | (cases ht) | split at ht)
  all_goals (with_reducible repeat' first | assumption | rfl | apply kept_burstGoesOn | apply kept_submit | split)

theorem kept_execTargetTimeout (m : Master) (addr : Word) (write : Bool) {s : State} (hk : Kept cmds s) :
    ∀ t, execTargetTimeout m addr write s = .next t → Kept cmds t := by
  intro t ht
  unfold execTargetTimeout at ht
  try dsimp only at ht
  all_goals (repeat' first | (cases ht) | split at ht)
  all_goals (with_reducible repeat' first | assumption | rfl | apply kept_targetTimeout)

theorem kept_execMasterReset (m : Master) {s : State} (hk : Kept cmds s) :
    ∀ t, execMasterReset m s = .next t → Kept cmds t := by
  intro t ht
  unfold execMasterReset at ht
  try dsimp only at ht
  all_goals (repeat' first | (cases ht) | split at ht)
  all_goals (with_reducible repeat' first | assumption | rfl | apply kept_masterReset)

theorem kept_execLockExpiry {s : State} (hk : Kept cmds s) :
    ∀ t, execLockExpiry s = .next t → Kept cmds t := by
  intro t ht
  unfold execLockExpiry at ht
  try dsimp only at ht
  all_goals (repeat' first | (cases ht) | split at ht)
  all_goals (with_reducible repeat' first | assumption | rfl | apply kept_lockExpire)

theorem kept_execBar0Read (addr : Word) (words : List Strobe) (env : Env) {s : State} (hk : Kept cmds s) :
    ∀ t, execBar0Read addr words env s = .next t → Kept cmds t := by
  intro t ht
  unfold execBar0Read at ht
  try dsimp only at ht
  all_goals (repeat' first | (cases ht) | split at ht)
  all_goals (with_reducible repeat' first | assumption | rfl | apply kept_submit)

theorem kept_execBar0Write (addr : Word) (words : List Strobe) (env : Env) {s : State} (hk : Kept cmds s) :
    ∀ t, execBar0Write addr words env s = .next t → Kept cmds t := by
  intro t ht
  unfold execBar0Write at ht
  try dsimp only at ht
  all_goals (repeat' first | (cases ht) | split at ht)
  all_goals (with_reducible repeat' first | assumption | rfl | apply kept_submit)

end Sys2Proof.Machine
end

