-- ==== Sys2Proof/Laws/KeptPorts.lean ====
section
/-! SUPPORT. What the operations of Machine/Ports keep (Laws/Kept). -/

namespace Sys2Proof.Machine

variable {cmds : List Instr}

theorem kept_pcieLink (rate : Nat) (width : Nat) {s : State} (hk : Kept cmds s) :
    Kept cmds (pcieLink rate width s) := by
  unfold pcieLink
  try dsimp only
  all_goals (with_reducible repeat' first | assumption | rfl | apply kept_ite | apply kept_ite_st | apply kept_ite_snd | apply kept_masterReset | apply kept_setLink | apply kept_wf | split | refine kept_snd ?_ (by assumption) | refine kept_snd2 ?_ (by assumption) | refine kept_st ?_ (by assumption) | refine kept_get ?_ (by assumption) | refine kept_get2 ?_ (by assumption) | apply kept_with_cmx)

theorem kept_pcieConfig (early : Bool) (bars : Option Bool) (msix : Option Bool) {s : State} (hk : Kept cmds s) :
    Kept cmds (pcieConfig early bars msix s) := by
  unfold pcieConfig
  try dsimp only
  all_goals (with_reducible repeat' first | assumption | rfl | apply kept_ite | apply kept_ite_st | apply kept_ite_snd | apply kept_emit | apply kept_msixFlush | apply kept_wf | split | refine kept_snd ?_ (by assumption) | refine kept_snd2 ?_ (by assumption) | refine kept_st ?_ (by assumption) | refine kept_get ?_ (by assumption) | refine kept_get2 ?_ (by assumption) | apply kept_with_cmx)

theorem kept_bar2Error (a : Nat) (cause : Nat) (write : Bool) {s : State} (hk : Kept cmds s) :
    Kept cmds (bar2Error a cause write s) := by
  unfold bar2Error
  try dsimp only
  all_goals (with_reducible repeat' first | assumption | rfl | apply kept_inc | apply kept_raise)

theorem kept_bar2Read (a : Nat) (n : Nat) {s : State} (hk : Kept cmds s) :
    Kept cmds (bar2Read a n s) := by
  unfold bar2Read
  try dsimp only
  all_goals (with_reducible repeat' first | assumption | rfl | apply kept_ite | apply kept_ite_st | apply kept_ite_snd | apply kept_bar2Error | apply kept_emit | apply kept_hbmGet)

theorem kept_bar2Write (a : Nat) (bs : List Byte) {s : State} (hk : Kept cmds s) :
    Kept cmds (bar2Write a bs s) := by
  unfold bar2Write
  have h := kept_hbmPut 5 a bs hk
  generalize hbmPut 5 a bs s = p at h ⊢
  obtain ⟨ok, t⟩ := p
  have h2 : Kept cmds { t with hbm := s.hbm, mem := { t.mem with ecc := s.mem.ecc } } := ⟨h.1, hk.2, h.3, h.4, h.5⟩
  exact kept_ite hk (kept_ite (kept_bar2Error _ _ _ hk) (kept_ite (kept_bar2Error _ _ _ hk) (kept_ite (kept_bar2Error _ _ _ hk)
    (kept_ite h (kept_bar2Error _ _ _ h2)))))

theorem kept_command (c : Nat) (code : Nat) (args : List Nat) (env : Env) {s : State} (hk : Kept cmds s) :
    Kept cmds (command c code args env s) := by
  unfold command
  try dsimp only
  all_goals (with_reducible repeat' first | assumption | rfl | apply kept_ite | apply kept_ite_st | apply kept_ite_snd | apply kept_emit | apply kept_foldS | apply kept_hostWord | apply kept_mboxGo | (intro _ _ _) | (intro _ _) | split | refine kept_snd ?_ (by assumption) | refine kept_snd2 ?_ (by assumption) | refine kept_st ?_ (by assumption) | refine kept_get ?_ (by assumption) | refine kept_get2 ?_ (by assumption) | apply kept_with_cmx)

theorem kept_mgtRequest (port : Nat) (b : List Byte) (env : Env) {s : State} (hk : Kept cmds s) :
    Kept cmds (mgtRequest port b env s) := by
  unfold mgtRequest
  try dsimp only
  all_goals (with_reducible repeat' first | assumption | rfl | apply kept_ite | apply kept_ite_st | apply kept_ite_snd | apply kept_emit | apply kept_mboxGo | split | refine kept_snd ?_ (by assumption) | refine kept_snd2 ?_ (by assumption) | refine kept_st ?_ (by assumption) | refine kept_get ?_ (by assumption) | refine kept_get2 ?_ (by assumption) | apply kept_with_cmx)

theorem kept_mgtPacket (p : MgtPkt) {s : State} (hk : Kept cmds s) :
    Kept cmds (mgtPacket p s) := by
  unfold mgtPacket
  try dsimp only
  all_goals (with_reducible repeat' first | assumption | rfl | apply kept_ite | apply kept_ite_st | apply kept_ite_snd | apply kept_emit | split)

theorem kept_smbReadWord (a : Nat) {s : State} (hk : Kept cmds s) :
    Kept cmds (smbReadWord a s) := by
  unfold smbReadWord
  try dsimp only
  all_goals (with_reducible repeat' first | assumption | rfl | apply kept_ite | apply kept_ite_st | apply kept_ite_snd | apply kept_emit)

theorem kept_smbBlockWrite (a : Nat) (b : List Byte) (pec : Option Byte) (env : Env) {s : State} (hk : Kept cmds s) :
    Kept cmds (smbBlockWrite a b pec env s) := by
  unfold smbBlockWrite
  try dsimp only
  all_goals (with_reducible repeat' first | assumption | rfl | apply kept_ite | apply kept_ite_st | apply kept_ite_snd | apply kept_emit | apply kept_mboxGo | split | refine kept_snd ?_ (by assumption) | refine kept_snd2 ?_ (by assumption) | refine kept_st ?_ (by assumption) | refine kept_get ?_ (by assumption) | refine kept_get2 ?_ (by assumption) | apply kept_with_cmx)

theorem kept_smbBlockRead (a : Nat) {s : State} (hk : Kept cmds s) :
    Kept cmds (smbBlockRead a s) := by
  unfold smbBlockRead
  try dsimp only
  all_goals (with_reducible repeat' first | assumption | rfl | apply kept_ite | apply kept_ite_st | apply kept_ite_snd | apply kept_emit)

theorem kept_avsStep {s : State} (hk : Kept cmds s) :
    Kept cmds (avsStep s) := by
  unfold avsStep
  try dsimp only
  all_goals (with_reducible repeat' first | assumption | rfl | apply kept_ite | apply kept_ite_st | apply kept_ite_snd | apply kept_setVout)

theorem kept_pmbusPoll (fault : Option (BitVec 8 × Nat)) (v : Nat) (i : Nat) (st : Nat) {s : State} (hk : Kept cmds s) :
    Kept cmds (pmbusPoll fault v i st s) := by
  unfold pmbusPoll
  try dsimp only
  all_goals (with_reducible repeat' first | assumption | rfl | apply kept_ite | apply kept_ite_st | apply kept_ite_snd | apply kept_avsStep | apply kept_raise | apply kept_setReg | split)

theorem kept_endInFlight {s : State} (hk : Kept cmds s) :
    Kept cmds (endInFlight s) := by
  have h : Kept cmds (foldS (fun c t => if mboxBusy t c then mboxDone c mbRESET [] t else t) (List.range 3) s) :=
    kept_foldS _ _ (fun _ _ ht => kept_ite (kept_mboxDone _ _ _ ht) ht) hk
  exact ⟨h.1, h.2, h.3, h.4, h.5⟩

theorem kept_firmwareRestart {s : State} (hk : Kept cmds s) :
    Kept cmds (firmwareRestart s) := by
  unfold firmwareRestart
  try dsimp only
  all_goals (with_reducible repeat' first | assumption | rfl | apply kept_ite | apply kept_ite_st | apply kept_ite_snd | apply kept_bootConfirmed | apply kept_raise | apply kept_setSlotSt)

theorem kept_coreReset {s : State} (hk : Kept cmds s) :
    Kept cmds (coreReset s) := by
  unfold coreReset
  try dsimp only
  all_goals (with_reducible repeat' first | assumption | rfl | apply kept_ite | apply kept_ite_st | apply kept_ite_snd | apply kept_endInFlight | apply kept_firmwareRestart | apply kept_masterReset | apply kept_surveyOver)

theorem kept_wdogExpired (pc : Nat) {s : State} (hk : Kept cmds s) :
    Kept cmds (wdogExpired pc s) := by
  unfold wdogExpired
  try dsimp only
  all_goals (with_reducible repeat' first | assumption | rfl | apply kept_ite | apply kept_ite_st | apply kept_ite_snd | apply kept_coreReset | apply kept_raise)

theorem kept_tapLoad (i : TapInstr) {s : State} (hk : Kept cmds s) :
    Kept cmds (tapLoad i s) := by
  unfold tapLoad
  try dsimp only
  all_goals (with_reducible repeat' first | assumption | rfl | apply kept_emit | split | refine kept_snd ?_ (by assumption) | refine kept_snd2 ?_ (by assumption) | refine kept_st ?_ (by assumption) | refine kept_get ?_ (by assumption) | refine kept_get2 ?_ (by assumption) | apply kept_with_cmx)

theorem kept_execPcieConfigRequest (early : Bool) (bars : Option Bool) (msix : Option Bool) {s : State} (hk : Kept cmds s) :
    ∀ t, execPcieConfigRequest early bars msix s = .next t → Kept cmds t := by
  intro t ht
  unfold execPcieConfigRequest at ht
  try dsimp only at ht
  all_goals (repeat' first | (cases ht) | split at ht)
  all_goals (with_reducible repeat' first | assumption | rfl | apply kept_pcieConfig)

theorem kept_execPcieLink (rate : Fin 6) (width : Fin 9) {s : State} (hk : Kept cmds s) :
    ∀ t, execPcieLink rate width s = .next t → Kept cmds t := by
  intro t ht
  unfold execPcieLink at ht
  try dsimp only at ht
  all_goals (repeat' first | (cases ht) | split at ht)
  all_goals (with_reducible repeat' first | assumption | rfl | apply kept_pcieLink)

theorem kept_execBar2Read (addr : BitVec 36) (len : Fin 4097) {s : State} (hk : Kept cmds s) :
    ∀ t, execBar2Read addr len s = .next t → Kept cmds t := by
  intro t ht
  unfold execBar2Read at ht
  try dsimp only at ht
  all_goals (repeat' first | (cases ht) | split at ht)
  all_goals (with_reducible repeat' first | assumption | rfl | apply kept_bar2Read)

theorem kept_execBar2Write (addr : BitVec 36) (data : List Byte) {s : State} (hk : Kept cmds s) :
    ∀ t, execBar2Write addr data s = .next t → Kept cmds t := by
  intro t ht
  unfold execBar2Write at ht
  try dsimp only at ht
  all_goals (repeat' first | (cases ht) | split at ht)
  all_goals (with_reducible repeat' first | assumption | rfl | apply kept_bar2Write)

theorem kept_execMsixVectorUnmask (vector : Fin 256) (env : Env) {s : State} (hk : Kept cmds s) :
    ∀ t, execMsixVectorUnmask vector env s = .next t → Kept cmds t := by
  intro t ht
  unfold execMsixVectorUnmask at ht
  try dsimp only at ht
  all_goals (repeat' first | (cases ht) | split at ht)
  all_goals (with_reducible repeat' first | assumption | rfl | apply kept_hostWord)

theorem kept_execGetInfo (channel : Fin 3) (env : Env) {s : State} (hk : Kept cmds s) :
    ∀ t, execGetInfo channel env s = .next t → Kept cmds t := by
  intro t ht
  unfold execGetInfo at ht
  try dsimp only at ht
  all_goals (repeat' first | (cases ht) | split at ht)
  all_goals (with_reducible repeat' first | assumption | rfl | apply kept_command)

theorem kept_execSetMode (channel : Fin 3) (mode : Word) (env : Env) {s : State} (hk : Kept cmds s) :
    ∀ t, execSetMode channel mode env s = .next t → Kept cmds t := by
  intro t ht
  unfold execSetMode at ht
  try dsimp only at ht
  all_goals (repeat' first | (cases ht) | split at ht)
  all_goals (with_reducible repeat' first | assumption | rfl | apply kept_command)

theorem kept_execApplyReference (channel : Fin 3) (env : Env) {s : State} (hk : Kept cmds s) :
    ∀ t, execApplyReference channel env s = .next t → Kept cmds t := by
  intro t ht
  unfold execApplyReference at ht
  try dsimp only at ht
  all_goals (repeat' first | (cases ht) | split at ht)
  all_goals (with_reducible repeat' first | assumption | rfl | apply kept_command)

theorem kept_execSetEpoch (channel : Fin 3) (label : BitVec 64) (env : Env) {s : State} (hk : Kept cmds s) :
    ∀ t, execSetEpoch channel label env s = .next t → Kept cmds t := by
  intro t ht
  unfold execSetEpoch at ht
  try dsimp only at ht
  all_goals (repeat' first | (cases ht) | split at ht)
  all_goals (with_reducible repeat' first | assumption | rfl | apply kept_command)

theorem kept_execSelectRef (channel : Fin 3) (entry : Word) (env : Env) {s : State} (hk : Kept cmds s) :
    ∀ t, execSelectRef channel entry env s = .next t → Kept cmds t := by
  intro t ht
  unfold execSelectRef at ht
  try dsimp only at ht
  all_goals (repeat' first | (cases ht) | split at ht)
  all_goals (with_reducible repeat' first | assumption | rfl | apply kept_command)

theorem kept_execPlanRun (channel : Fin 3) (blocks : Word) (env : Env) {s : State} (hk : Kept cmds s) :
    ∀ t, execPlanRun channel blocks env s = .next t → Kept cmds t := by
  intro t ht
  unfold execPlanRun at ht
  try dsimp only at ht
  all_goals (repeat' first | (cases ht) | split at ht)
  all_goals (with_reducible repeat' first | assumption | rfl | apply kept_command)

theorem kept_execPlanStop (channel : Fin 3) (env : Env) {s : State} (hk : Kept cmds s) :
    ∀ t, execPlanStop channel env s = .next t → Kept cmds t := by
  intro t ht
  unfold execPlanStop at ht
  try dsimp only at ht
  all_goals (repeat' first | (cases ht) | split at ht)
  all_goals (with_reducible repeat' first | assumption | rfl | apply kept_command)

theorem kept_execDrain (channel : Fin 3) (plan : Word) (arg : Word) (env : Env) {s : State} (hk : Kept cmds s) :
    ∀ t, execDrain channel plan arg env s = .next t → Kept cmds t := by
  intro t ht
  unfold execDrain at ht
  try dsimp only at ht
  all_goals (repeat' first | (cases ht) | split at ht)
  all_goals (with_reducible repeat' first | assumption | rfl | apply kept_command)

theorem kept_execHaltScope (channel : Fin 3) (scope : Word) (anchor : BitVec 64) (env : Env) {s : State} (hk : Kept cmds s) :
    ∀ t, execHaltScope channel scope anchor env s = .next t → Kept cmds t := by
  intro t ht
  unfold execHaltScope at ht
  try dsimp only at ht
  all_goals (repeat' first | (cases ht) | split at ht)
  all_goals (with_reducible repeat' first | assumption | rfl | apply kept_command)

theorem kept_execResumeScope (channel : Fin 3) (scope : Word) (anchor : BitVec 64) (env : Env) {s : State} (hk : Kept cmds s) :
    ∀ t, execResumeScope channel scope anchor env s = .next t → Kept cmds t := by
  intro t ht
  unfold execResumeScope at ht
  try dsimp only at ht
  all_goals (repeat' first | (cases ht) | split at ht)
  all_goals (with_reducible repeat' first | assumption | rfl | apply kept_command)

theorem kept_execReadLog (channel : Fin 3) (env : Env) {s : State} (hk : Kept cmds s) :
    ∀ t, execReadLog channel env s = .next t → Kept cmds t := by
  intro t ht
  unfold execReadLog at ht
  try dsimp only at ht
  all_goals (repeat' first | (cases ht) | split at ht)
  all_goals (with_reducible repeat' first | assumption | rfl | apply kept_command)

theorem kept_execArm (channel : Fin 3) (unit : Word) (value : Word) (env : Env) {s : State} (hk : Kept cmds s) :
    ∀ t, execArm channel unit value env s = .next t → Kept cmds t := by
  intro t ht
  unfold execArm at ht
  try dsimp only at ht
  all_goals (repeat' first | (cases ht) | split at ht)
  all_goals (with_reducible repeat' first | assumption | rfl | apply kept_command)

theorem kept_execTrain (channel : Fin 3) (env : Env) {s : State} (hk : Kept cmds s) :
    ∀ t, execTrain channel env s = .next t → Kept cmds t := by
  intro t ht
  unfold execTrain at ht
  try dsimp only at ht
  all_goals (repeat' first | (cases ht) | split at ht)
  all_goals (with_reducible repeat' first | assumption | rfl | apply kept_command)

theorem kept_execSetVcore (channel : Fin 3) (mv : Word) (env : Env) {s : State} (hk : Kept cmds s) :
    ∀ t, execSetVcore channel mv env s = .next t → Kept cmds t := by
  intro t ht
  unfold execSetVcore at ht
  try dsimp only at ht
  all_goals (repeat' first | (cases ht) | split at ht)
  all_goals (with_reducible repeat' first | assumption | rfl | apply kept_command)

theorem kept_execUpdateWrite (channel : Fin 3) (addr : BitVec 64) (len : Word) (env : Env) {s : State} (hk : Kept cmds s) :
    ∀ t, execUpdateWrite channel addr len env s = .next t → Kept cmds t := by
  intro t ht
  unfold execUpdateWrite at ht
  try dsimp only at ht
  all_goals (repeat' first | (cases ht) | split at ht)
  all_goals (with_reducible repeat' first | assumption | rfl | apply kept_command)

theorem kept_execUpdateTrial (channel : Fin 3) (env : Env) {s : State} (hk : Kept cmds s) :
    ∀ t, execUpdateTrial channel env s = .next t → Kept cmds t := by
  intro t ht
  unfold execUpdateTrial at ht
  try dsimp only at ht
  all_goals (repeat' first | (cases ht) | split at ht)
  all_goals (with_reducible repeat' first | assumption | rfl | apply kept_command)

theorem kept_execUpdateConfirm (channel : Fin 3) (force : Bool) (env : Env) {s : State} (hk : Kept cmds s) :
    ∀ t, execUpdateConfirm channel force env s = .next t → Kept cmds t := by
  intro t ht
  unfold execUpdateConfirm at ht
  try dsimp only at ht
  all_goals (repeat' first | (cases ht) | split at ht)
  all_goals (with_reducible repeat' first | assumption | rfl | apply kept_command)

theorem kept_execUpdateReject (channel : Fin 3) (env : Env) {s : State} (hk : Kept cmds s) :
    ∀ t, execUpdateReject channel env s = .next t → Kept cmds t := by
  intro t ht
  unfold execUpdateReject at ht
  try dsimp only at ht
  all_goals (repeat' first | (cases ht) | split at ht)
  all_goals (with_reducible repeat' first | assumption | rfl | apply kept_command)

theorem kept_execUpdateStatus (channel : Fin 3) (env : Env) {s : State} (hk : Kept cmds s) :
    ∀ t, execUpdateStatus channel env s = .next t → Kept cmds t := by
  intro t ht
  unfold execUpdateStatus at ht
  try dsimp only at ht
  all_goals (repeat' first | (cases ht) | split at ht)
  all_goals (with_reducible repeat' first | assumption | rfl | apply kept_command)

theorem kept_execUpdateTicket (channel : Fin 3) (addr : BitVec 64) (len : Word) (env : Env) {s : State} (hk : Kept cmds s) :
    ∀ t, execUpdateTicket channel addr len env s = .next t → Kept cmds t := by
  intro t ht
  unfold execUpdateTicket at ht
  try dsimp only at ht
  all_goals (repeat' first | (cases ht) | split at ht)
  all_goals (with_reducible repeat' first | assumption | rfl | apply kept_command)

theorem kept_execUpdateSafeWrite (channel : Fin 3) (addr : BitVec 64) (len : Word) (env : Env) {s : State} (hk : Kept cmds s) :
    ∀ t, execUpdateSafeWrite channel addr len env s = .next t → Kept cmds t := by
  intro t ht
  unfold execUpdateSafeWrite at ht
  try dsimp only at ht
  all_goals (repeat' first | (cases ht) | split at ht)
  all_goals (with_reducible repeat' first | assumption | rfl | apply kept_command)

theorem kept_execUpdateKeyfloorRevoke (channel : Fin 3) (addr : BitVec 64) (len : Word) (env : Env) {s : State} (hk : Kept cmds s) :
    ∀ t, execUpdateKeyfloorRevoke channel addr len env s = .next t → Kept cmds t := by
  intro t ht
  unfold execUpdateKeyfloorRevoke at ht
  try dsimp only at ht
  all_goals (repeat' first | (cases ht) | split at ht)
  all_goals (with_reducible repeat' first | assumption | rfl | apply kept_command)

theorem kept_execSurvey (channel : Fin 3) (env : Env) {s : State} (hk : Kept cmds s) :
    ∀ t, execSurvey channel env s = .next t → Kept cmds t := by
  intro t ht
  unfold execSurvey at ht
  try dsimp only at ht
  all_goals (repeat' first | (cases ht) | split at ht)
  all_goals (with_reducible repeat' first | assumption | rfl | apply kept_command)

theorem kept_execTakeover (channel : Fin 3) (env : Env) {s : State} (hk : Kept cmds s) :
    ∀ t, execTakeover channel env s = .next t → Kept cmds t := by
  intro t ht
  unfold execTakeover at ht
  try dsimp only at ht
  all_goals (repeat' first | (cases ht) | split at ht)
  all_goals (with_reducible repeat' first | assumption | rfl | apply kept_command)

theorem kept_execMgtMboxRequest (port : BitVec 16) (data : List Byte) (env : Env) {s : State} (hk : Kept cmds s) :
    ∀ t, execMgtMboxRequest port data env s = .next t → Kept cmds t := by
  intro t ht
  unfold execMgtMboxRequest at ht
  try dsimp only at ht
  all_goals (repeat' first | (cases ht) | split at ht)
  all_goals (with_reducible repeat' first | assumption | rfl | apply kept_mgtRequest)

theorem kept_execMgtPacketRx (pkt : MgtPkt) {s : State} (hk : Kept cmds s) :
    ∀ t, execMgtPacketRx pkt s = .next t → Kept cmds t := by
  intro t ht
  unfold execMgtPacketRx at ht
  try dsimp only at ht
  all_goals (repeat' first | (cases ht) | split at ht)
  all_goals (with_reducible repeat' first | assumption | rfl | apply kept_mgtPacket)

theorem kept_execSmbReadWord (addr : BitVec 7) {s : State} (hk : Kept cmds s) :
    ∀ t, execSmbReadWord addr s = .next t → Kept cmds t := by
  intro t ht
  unfold execSmbReadWord at ht
  try dsimp only at ht
  all_goals (repeat' first | (cases ht) | split at ht)
  all_goals (with_reducible repeat' first | assumption | rfl | apply kept_smbReadWord)

theorem kept_execSmbBlockWrite (addr : BitVec 7) (data : List Byte) (pec : Option Byte) (env : Env) {s : State} (hk : Kept cmds s) :
    ∀ t, execSmbBlockWrite addr data pec env s = .next t → Kept cmds t := by
  intro t ht
  unfold execSmbBlockWrite at ht
  try dsimp only at ht
  all_goals (repeat' first | (cases ht) | split at ht)
  all_goals (with_reducible repeat' first | assumption | rfl | apply kept_smbBlockWrite)

theorem kept_execSmbBlockRead (addr : BitVec 7) {s : State} (hk : Kept cmds s) :
    ∀ t, execSmbBlockRead addr s = .next t → Kept cmds t := by
  intro t ht
  unfold execSmbBlockRead at ht
  try dsimp only at ht
  all_goals (repeat' first | (cases ht) | split at ht)
  all_goals (with_reducible repeat' first | assumption | rfl | apply kept_smbBlockRead)

theorem kept_execPmbusPoll (failed : Option (BitVec 8 × Bool)) (vout : BitVec 10) (iout : BitVec 20) (status : BitVec 16) {s : State} (hk : Kept cmds s) :
    ∀ t, execPmbusPoll failed vout iout status s = .next t → Kept cmds t := by
  intro t ht
  unfold execPmbusPoll at ht
  try dsimp only at ht
  all_goals (repeat' first | (cases ht) | split at ht)
  all_goals (with_reducible repeat' first | assumption | rfl | apply kept_pmbusPoll)

theorem kept_execWdogExpired (pc : Word) {s : State} (hk : Kept cmds s) :
    ∀ t, execWdogExpired pc s = .next t → Kept cmds t := by
  intro t ht
  unfold execWdogExpired at ht
  try dsimp only at ht
  all_goals (repeat' first | (cases ht) | split at ht)
  all_goals (with_reducible repeat' first | assumption | rfl | apply kept_wdogExpired)

theorem kept_execTapInstruction (instruction : TapInstr) {s : State} (hk : Kept cmds s) :
    ∀ t, execTapInstruction instruction s = .next t → Kept cmds t := by
  intro t ht
  unfold execTapInstruction at ht
  try dsimp only at ht
  all_goals (repeat' first | (cases ht) | split at ht)
  all_goals (with_reducible repeat' first | assumption | rfl | apply kept_tapLoad)

end Sys2Proof.Machine
end

