-- ==== Sys2Proof/Laws/KeptProgress.lean ====
section
/-! SUPPORT. What the operations of Machine/Progress keep (Laws/Kept). -/

namespace Sys2Proof.Machine

variable {cmds : List Instr}

theorem kept_budgetPeriod (count : Nat) (us : List Use) (peerAct : Bool) {s : State} (hk : Kept cmds s) :
    Kept cmds (budgetPeriod count us peerAct s) := by
  unfold budgetPeriod
  try dsimp only
  all_goals (with_reducible repeat' first | assumption | rfl | apply kept_cadPeriod | apply kept_fabricPeriod | apply kept_mboxPoll | apply kept_periodCommit | apply kept_twinPeriod | split | refine kept_snd ?_ (by assumption) | refine kept_snd2 ?_ (by assumption) | refine kept_st ?_ (by assumption) | refine kept_get ?_ (by assumption) | refine kept_get2 ?_ (by assumption) | apply kept_with_atl)

theorem kept_piLoad (c : Nat) (w : Nat) {s : State} (hk : Kept cmds s) :
    Kept cmds (piLoad c w s) := by
  unfold piLoad
  try dsimp only
  all_goals (with_reducible repeat' first | assumption | rfl | apply kept_ite | apply kept_ite_st | apply kept_ite_snd | apply kept_State_setScore | apply kept_busRead | apply kept_svyFault | apply kept_svyNext)

theorem kept_piStore (c : Nat) (w : Nat) (env : Env) {s : State} (hk : Kept cmds s) :
    Kept cmds (piStore c w env s) := by
  unfold piStore
  try dsimp only
  all_goals (with_reducible repeat' first | assumption | rfl | apply kept_ite | apply kept_ite_st | apply kept_ite_snd | apply kept_busWrite | apply kept_setReg | apply kept_svyFault | apply kept_svyNext)

theorem kept_domainLeaves (d : Nat) {s : State} (hk : Kept cmds s) :
    Kept cmds (domainLeaves d s) := by
  unfold domainLeaves
  try dsimp only
  all_goals (with_reducible repeat' first | assumption | rfl | apply kept_ite | apply kept_ite_st | apply kept_ite_snd | apply kept_ptpMessage)

theorem kept_slewEnd {s : State} (hk : Kept cmds s) :
    Kept cmds (slewEnd s) := by
  unfold slewEnd
  try dsimp only
  all_goals (with_reducible repeat' first | assumption | rfl | apply kept_ite | apply kept_ite_st | apply kept_ite_snd | apply kept_setReg64 | apply kept_wf | split | refine kept_snd ?_ (by assumption) | refine kept_snd2 ?_ (by assumption) | refine kept_st ?_ (by assumption) | refine kept_get ?_ (by assumption) | refine kept_get2 ?_ (by assumption) | apply kept_with_mer)

theorem kept_execPlanLoad (core : Fin 8) {s : State} (hk : Kept cmds s) :
    ∀ t, execPlanLoad core s = .next t → Kept cmds t := by
  intro t ht
  unfold execPlanLoad at ht
  try dsimp only at ht
  all_goals (repeat' first | (cases ht) | split at ht)
  all_goals (with_reducible repeat' first | assumption | rfl | apply kept_piLoad | apply kept_svyExec)

theorem kept_execPlanStore (core : Fin 8) (env : Env) {s : State} (hk : Kept cmds s) :
    ∀ t, execPlanStore core env s = .next t → Kept cmds t := by
  intro t ht
  unfold execPlanStore at ht
  try dsimp only at ht
  all_goals (repeat' first | (cases ht) | split at ht)
  all_goals (with_reducible repeat' first | assumption | rfl | apply kept_piStore | apply kept_svyExec | (intro _ _ _))

theorem kept_execBudgetPeriod (count : Nat) (uses : List Use) (peerAct : Bool) {s : State} (hk : Kept cmds s) :
    ∀ t, execBudgetPeriod count uses peerAct s = .next t → Kept cmds t := by
  intro t ht
  unfold execBudgetPeriod at ht
  try dsimp only at ht
  all_goals (repeat' first | (cases ht) | split at ht)
  all_goals (with_reducible repeat' first | assumption | rfl | apply kept_budgetPeriod | apply kept_unlessOff)

theorem kept_execDomainLeavesSlave (domain : Fin 2) {s : State} (hk : Kept cmds s) :
    ∀ t, execDomainLeavesSlave domain s = .next t → Kept cmds t := by
  intro t ht
  unfold execDomainLeavesSlave at ht
  try dsimp only at ht
  all_goals (repeat' first | (cases ht) | split at ht)
  all_goals (with_reducible repeat' first | assumption | rfl | apply kept_domainLeaves)

theorem kept_execEvtOutPulse (output : Fin 4) {s : State} (hk : Kept cmds s) :
    ∀ t, execEvtOutPulse output s = .next t → Kept cmds t := by
  intro t ht
  unfold execEvtOutPulse at ht
  try dsimp only at ht
  all_goals (repeat' first | (cases ht) | split at ht)
  all_goals (with_reducible repeat' first | assumption | rfl | apply kept_ite | apply kept_ite_st | apply kept_ite_snd | apply kept_evtTick)

theorem kept_execSlewEnd {s : State} (hk : Kept cmds s) :
    ∀ t, execSlewEnd s = .next t → Kept cmds t := by
  intro t ht
  unfold execSlewEnd at ht
  try dsimp only at ht
  all_goals (repeat' first | (cases ht) | split at ht)
  all_goals (with_reducible repeat' first | assumption | rfl | apply kept_slewEnd)

end Sys2Proof.Machine
end

