-- ==== Sys2Proof/Laws/KeptRegArray.lean ====
section
/-! SUPPORT. What the operations of Machine/RegArray keep (Laws/Kept). -/

namespace Sys2Proof.Machine

variable {cmds : List Instr}

theorem kept_execGrtBasicWrite (m : Master) (value : Word) (env : Env) {s : State} (hk : Kept cmds s) :
    ∀ t, execGrtBasicWrite m value env s = .next t → Kept cmds t := by
  intro t ht
  unfold execGrtBasicWrite at ht
  try dsimp only at ht
  all_goals (repeat' first | (cases ht) | split at ht)
  all_goals (with_reducible repeat' first | assumption | rfl | apply kept_hostWord)

theorem kept_execGrtChipWrite (m : Master) (value : Word) (env : Env) {s : State} (hk : Kept cmds s) :
    ∀ t, execGrtChipWrite m value env s = .next t → Kept cmds t := by
  intro t ht
  unfold execGrtChipWrite at ht
  try dsimp only at ht
  all_goals (repeat' first | (cases ht) | split at ht)
  all_goals (with_reducible repeat' first | assumption | rfl | apply kept_hostWord)

theorem kept_execGrtApply (m : Master) (value : Word) (env : Env) {s : State} (hk : Kept cmds s) :
    ∀ t, execGrtApply m value env s = .next t → Kept cmds t := by
  intro t ht
  unfold execGrtApply at ht
  try dsimp only at ht
  all_goals (repeat' first | (cases ht) | split at ht)
  all_goals (with_reducible repeat' first | assumption | rfl | apply kept_hostWord)

theorem kept_execGrtCntClear (m : Master) (value : Word) (env : Env) {s : State} (hk : Kept cmds s) :
    ∀ t, execGrtCntClear m value env s = .next t → Kept cmds t := by
  intro t ht
  unfold execGrtCntClear at ht
  try dsimp only at ht
  all_goals (repeat' first | (cases ht) | split at ht)
  all_goals (with_reducible repeat' first | assumption | rfl | apply kept_hostWord)

theorem kept_execStgBasicWrite (m : Master) (value : Word) (env : Env) {s : State} (hk : Kept cmds s) :
    ∀ t, execStgBasicWrite m value env s = .next t → Kept cmds t := by
  intro t ht
  unfold execStgBasicWrite at ht
  try dsimp only at ht
  all_goals (repeat' first | (cases ht) | split at ht)
  all_goals (with_reducible repeat' first | assumption | rfl | apply kept_hostWord)

theorem kept_execStgStart (m : Master) (value : Word) (env : Env) {s : State} (hk : Kept cmds s) :
    ∀ t, execStgStart m value env s = .next t → Kept cmds t := by
  intro t ht
  unfold execStgStart at ht
  try dsimp only at ht
  all_goals (repeat' first | (cases ht) | split at ht)
  all_goals (with_reducible repeat' first | assumption | rfl | apply kept_hostWord)

theorem kept_execStgStop (m : Master) (value : Word) (env : Env) {s : State} (hk : Kept cmds s) :
    ∀ t, execStgStop m value env s = .next t → Kept cmds t := by
  intro t ht
  unfold execStgStop at ht
  try dsimp only at ht
  all_goals (repeat' first | (cases ht) | split at ht)
  all_goals (with_reducible repeat' first | assumption | rfl | apply kept_hostWord)

theorem kept_execStgCntClear (m : Master) (value : Word) (env : Env) {s : State} (hk : Kept cmds s) :
    ∀ t, execStgCntClear m value env s = .next t → Kept cmds t := by
  intro t ht
  unfold execStgCntClear at ht
  try dsimp only at ht
  all_goals (repeat' first | (cases ht) | split at ht)
  all_goals (with_reducible repeat' first | assumption | rfl | apply kept_hostWord)

theorem kept_execBrgBasicWrite (m : Master) (value : Word) (env : Env) {s : State} (hk : Kept cmds s) :
    ∀ t, execBrgBasicWrite m value env s = .next t → Kept cmds t := by
  intro t ht
  unfold execBrgBasicWrite at ht
  try dsimp only at ht
  all_goals (repeat' first | (cases ht) | split at ht)
  all_goals (with_reducible repeat' first | assumption | rfl | apply kept_hostWord)

theorem kept_execBrgCoreRun (m : Master) (core : Fin 16) (value : Word) (env : Env) {s : State} (hk : Kept cmds s) :
    ∀ t, execBrgCoreRun m core value env s = .next t → Kept cmds t := by
  intro t ht
  unfold execBrgCoreRun at ht
  try dsimp only at ht
  all_goals (repeat' first | (cases ht) | split at ht)
  all_goals (with_reducible repeat' first | assumption | rfl | apply kept_hostWord)

theorem kept_execBrgCoreHalt (m : Master) (core : Fin 16) (value : Word) (env : Env) {s : State} (hk : Kept cmds s) :
    ∀ t, execBrgCoreHalt m core value env s = .next t → Kept cmds t := by
  intro t ht
  unfold execBrgCoreHalt at ht
  try dsimp only at ht
  all_goals (repeat' first | (cases ht) | split at ht)
  all_goals (with_reducible repeat' first | assumption | rfl | apply kept_hostWord)

theorem kept_execBrgCoreStep (m : Master) (core : Fin 16) (value : Word) (env : Env) {s : State} (hk : Kept cmds s) :
    ∀ t, execBrgCoreStep m core value env s = .next t → Kept cmds t := by
  intro t ht
  unfold execBrgCoreStep at ht
  try dsimp only at ht
  all_goals (repeat' first | (cases ht) | split at ht)
  all_goals (with_reducible repeat' first | assumption | rfl | apply kept_hostWord)

theorem kept_execBrgCoreLoadbi (m : Master) (core : Fin 16) (value : Word) (env : Env) {s : State} (hk : Kept cmds s) :
    ∀ t, execBrgCoreLoadbi m core value env s = .next t → Kept cmds t := by
  intro t ht
  unfold execBrgCoreLoadbi at ht
  try dsimp only at ht
  all_goals (repeat' first | (cases ht) | split at ht)
  all_goals (with_reducible repeat' first | assumption | rfl | apply kept_hostWord)

theorem kept_execBrgDoorbell (m : Master) (core : Fin 16) (value : Word) (env : Env) {s : State} (hk : Kept cmds s) :
    ∀ t, execBrgDoorbell m core value env s = .next t → Kept cmds t := by
  intro t ht
  unfold execBrgDoorbell at ht
  try dsimp only at ht
  all_goals (repeat' first | (cases ht) | split at ht)
  all_goals (with_reducible repeat' first | assumption | rfl | apply kept_hostWord)

theorem kept_execBrgDirSwitchArm (m : Master) (value : Word) (env : Env) {s : State} (hk : Kept cmds s) :
    ∀ t, execBrgDirSwitchArm m value env s = .next t → Kept cmds t := by
  intro t ht
  unfold execBrgDirSwitchArm at ht
  try dsimp only at ht
  all_goals (repeat' first | (cases ht) | split at ht)
  all_goals (with_reducible repeat' first | assumption | rfl | apply kept_hostWord)

theorem kept_execBrgCntClear (m : Master) (value : Word) (env : Env) {s : State} (hk : Kept cmds s) :
    ∀ t, execBrgCntClear m value env s = .next t → Kept cmds t := by
  intro t ht
  unfold execBrgCntClear at ht
  try dsimp only at ht
  all_goals (repeat' first | (cases ht) | split at ht)
  all_goals (with_reducible repeat' first | assumption | rfl | apply kept_hostWord)

theorem kept_execXarBasicWrite (m : Master) (value : Word) (env : Env) {s : State} (hk : Kept cmds s) :
    ∀ t, execXarBasicWrite m value env s = .next t → Kept cmds t := by
  intro t ht
  unfold execXarBasicWrite at ht
  try dsimp only at ht
  all_goals (repeat' first | (cases ht) | split at ht)
  all_goals (with_reducible repeat' first | assumption | rfl | apply kept_hostWord)

theorem kept_execXarEnableWrite (m : Master) (reg : Fin 3) (value : Word) (env : Env) {s : State} (hk : Kept cmds s) :
    ∀ t, execXarEnableWrite m reg value env s = .next t → Kept cmds t := by
  intro t ht
  unfold execXarEnableWrite at ht
  try dsimp only at ht
  all_goals (repeat' first | (cases ht) | split at ht)
  all_goals (with_reducible repeat' first | assumption | rfl | apply kept_hostWord)

theorem kept_execXarTableWrite (m : Master) (off : BitVec 24) (value : Word) (env : Env) {s : State} (hk : Kept cmds s) :
    ∀ t, execXarTableWrite m off value env s = .next t → Kept cmds t := by
  intro t ht
  unfold execXarTableWrite at ht
  try dsimp only at ht
  all_goals (repeat' first | (cases ht) | split at ht)
  all_goals (with_reducible repeat' first | assumption | rfl | apply kept_hostWord)

theorem kept_execXarCntClear (m : Master) (value : Word) (env : Env) {s : State} (hk : Kept cmds s) :
    ∀ t, execXarCntClear m value env s = .next t → Kept cmds t := by
  intro t ht
  unfold execXarCntClear at ht
  try dsimp only at ht
  all_goals (repeat' first | (cases ht) | split at ht)
  all_goals (with_reducible repeat' first | assumption | rfl | apply kept_hostWord)

theorem kept_execAccBasicWrite (m : Master) (value : Word) (env : Env) {s : State} (hk : Kept cmds s) :
    ∀ t, execAccBasicWrite m value env s = .next t → Kept cmds t := by
  intro t ht
  unfold execAccBasicWrite at ht
  try dsimp only at ht
  all_goals (repeat' first | (cases ht) | split at ht)
  all_goals (with_reducible repeat' first | assumption | rfl | apply kept_hostWord)

theorem kept_execAccDrain (m : Master) (value : Word) (env : Env) {s : State} (hk : Kept cmds s) :
    ∀ t, execAccDrain m value env s = .next t → Kept cmds t := by
  intro t ht
  unfold execAccDrain at ht
  try dsimp only at ht
  all_goals (repeat' first | (cases ht) | split at ht)
  all_goals (with_reducible repeat' first | assumption | rfl | apply kept_hostWord)

theorem kept_execSkReset (m : Master) (value : Word) (env : Env) {s : State} (hk : Kept cmds s) :
    ∀ t, execSkReset m value env s = .next t → Kept cmds t := by
  intro t ht
  unfold execSkReset at ht
  try dsimp only at ht
  all_goals (repeat' first | (cases ht) | split at ht)
  all_goals (with_reducible repeat' first | assumption | rfl | apply kept_hostWord)

theorem kept_execAccCntClear (m : Master) (value : Word) (env : Env) {s : State} (hk : Kept cmds s) :
    ∀ t, execAccCntClear m value env s = .next t → Kept cmds t := by
  intro t ht
  unfold execAccCntClear at ht
  try dsimp only at ht
  all_goals (repeat' first | (cases ht) | split at ht)
  all_goals (with_reducible repeat' first | assumption | rfl | apply kept_hostWord)

theorem kept_execAtlBasicWrite (m : Master) (value : Word) (env : Env) {s : State} (hk : Kept cmds s) :
    ∀ t, execAtlBasicWrite m value env s = .next t → Kept cmds t := by
  intro t ht
  unfold execAtlBasicWrite at ht
  try dsimp only at ht
  all_goals (repeat' first | (cases ht) | split at ht)
  all_goals (with_reducible repeat' first | assumption | rfl | apply kept_hostWord)

theorem kept_execAtlRegionWrite (m : Master) (plan : Fin 16) (reg : Fin 2) (value : Word) (env : Env) {s : State} (hk : Kept cmds s) :
    ∀ t, execAtlRegionWrite m plan reg value env s = .next t → Kept cmds t := by
  intro t ht
  unfold execAtlRegionWrite at ht
  try dsimp only at ht
  all_goals (repeat' first | (cases ht) | split at ht)
  all_goals (with_reducible repeat' first | assumption | rfl | apply kept_hostWord)

theorem kept_execStatsReset (m : Master) (value : Word) (env : Env) {s : State} (hk : Kept cmds s) :
    ∀ t, execStatsReset m value env s = .next t → Kept cmds t := by
  intro t ht
  unfold execStatsReset at ht
  try dsimp only at ht
  all_goals (repeat' first | (cases ht) | split at ht)
  all_goals (with_reducible repeat' first | assumption | rfl | apply kept_hostWord)

theorem kept_execAtlUnload (m : Master) (value : Word) (env : Env) {s : State} (hk : Kept cmds s) :
    ∀ t, execAtlUnload m value env s = .next t → Kept cmds t := by
  intro t ht
  unfold execAtlUnload at ht
  try dsimp only at ht
  all_goals (repeat' first | (cases ht) | split at ht)
  all_goals (with_reducible repeat' first | assumption | rfl | apply kept_hostWord)

theorem kept_execAtlRead (m : Master) (value : Word) (env : Env) {s : State} (hk : Kept cmds s) :
    ∀ t, execAtlRead m value env s = .next t → Kept cmds t := by
  intro t ht
  unfold execAtlRead at ht
  try dsimp only at ht
  all_goals (repeat' first | (cases ht) | split at ht)
  all_goals (with_reducible repeat' first | assumption | rfl | apply kept_hostWord)

theorem kept_execAtlEvict (m : Master) (value : Word) (env : Env) {s : State} (hk : Kept cmds s) :
    ∀ t, execAtlEvict m value env s = .next t → Kept cmds t := by
  intro t ht
  unfold execAtlEvict at ht
  try dsimp only at ht
  all_goals (repeat' first | (cases ht) | split at ht)
  all_goals (with_reducible repeat' first | assumption | rfl | apply kept_hostWord)

theorem kept_execAtlOpAbort (m : Master) (value : Word) (env : Env) {s : State} (hk : Kept cmds s) :
    ∀ t, execAtlOpAbort m value env s = .next t → Kept cmds t := by
  intro t ht
  unfold execAtlOpAbort at ht
  try dsimp only at ht
  all_goals (repeat' first | (cases ht) | split at ht)
  all_goals (with_reducible repeat' first | assumption | rfl | apply kept_hostWord)

theorem kept_execDescSnapshot (m : Master) (value : Word) (env : Env) {s : State} (hk : Kept cmds s) :
    ∀ t, execDescSnapshot m value env s = .next t → Kept cmds t := by
  intro t ht
  unfold execDescSnapshot at ht
  try dsimp only at ht
  all_goals (repeat' first | (cases ht) | split at ht)
  all_goals (with_reducible repeat' first | assumption | rfl | apply kept_hostWord)

theorem kept_execAtlQuarantine (m : Master) (value : Word) (env : Env) {s : State} (hk : Kept cmds s) :
    ∀ t, execAtlQuarantine m value env s = .next t → Kept cmds t := by
  intro t ht
  unfold execAtlQuarantine at ht
  try dsimp only at ht
  all_goals (repeat' first | (cases ht) | split at ht)
  all_goals (with_reducible repeat' first | assumption | rfl | apply kept_hostWord)

theorem kept_execAtlRelease (m : Master) (value : Word) (env : Env) {s : State} (hk : Kept cmds s) :
    ∀ t, execAtlRelease m value env s = .next t → Kept cmds t := by
  intro t ht
  unfold execAtlRelease at ht
  try dsimp only at ht
  all_goals (repeat' first | (cases ht) | split at ht)
  all_goals (with_reducible repeat' first | assumption | rfl | apply kept_hostWord)

theorem kept_execAtlCntClear (m : Master) (value : Word) (env : Env) {s : State} (hk : Kept cmds s) :
    ∀ t, execAtlCntClear m value env s = .next t → Kept cmds t := by
  intro t ht
  unfold execAtlCntClear at ht
  try dsimp only at ht
  all_goals (repeat' first | (cases ht) | split at ht)
  all_goals (with_reducible repeat' first | assumption | rfl | apply kept_hostWord)

end Sys2Proof.Machine
end

