-- ==== Sys2Proof/Laws/KeptRegHealth.lean ====
section
/-! SUPPORT. What the operations of Machine/RegHealth keep (Laws/Kept). -/

namespace Sys2Proof.Machine

variable {cmds : List Instr}

theorem kept_execMboxAbort (m : Master) (channel : Fin 3) (value : Word) (env : Env) {s : State} (hk : Kept cmds s) :
    ∀ t, execMboxAbort m channel value env s = .next t → Kept cmds t := by
  intro t ht
  unfold execMboxAbort at ht
  try dsimp only at ht
  all_goals (repeat' first | (cases ht) | split at ht)
  all_goals (with_reducible repeat' first | assumption | rfl | apply kept_hostWord)

theorem kept_execPmbVoutWrite (m : Master) (value : Word) (env : Env) {s : State} (hk : Kept cmds s) :
    ∀ t, execPmbVoutWrite m value env s = .next t → Kept cmds t := by
  intro t ht
  unfold execPmbVoutWrite at ht
  try dsimp only at ht
  all_goals (repeat' first | (cases ht) | split at ht)
  all_goals (with_reducible repeat' first | assumption | rfl | apply kept_hostWord)

theorem kept_execWdogKick (m : Master) (value : Word) (env : Env) {s : State} (hk : Kept cmds s) :
    ∀ t, execWdogKick m value env s = .next t → Kept cmds t := by
  intro t ht
  unfold execWdogKick at ht
  try dsimp only at ht
  all_goals (repeat' first | (cases ht) | split at ht)
  all_goals (with_reducible repeat' first | assumption | rfl | apply kept_hostWord)

theorem kept_execCmxCntClear (m : Master) (value : Word) (env : Env) {s : State} (hk : Kept cmds s) :
    ∀ t, execCmxCntClear m value env s = .next t → Kept cmds t := by
  intro t ht
  unfold execCmxCntClear at ht
  try dsimp only at ht
  all_goals (repeat' first | (cases ht) | split at ht)
  all_goals (with_reducible repeat' first | assumption | rfl | apply kept_hostWord)

theorem kept_execModeCtrlGo (m : Master) (value : Word) (env : Env) {s : State} (hk : Kept cmds s) :
    ∀ t, execModeCtrlGo m value env s = .next t → Kept cmds t := by
  intro t ht
  unfold execModeCtrlGo at ht
  try dsimp only at ht
  all_goals (repeat' first | (cases ht) | split at ht)
  all_goals (with_reducible repeat' first | assumption | rfl | apply kept_hostWord)

theorem kept_execModeCtrlAbort (m : Master) (value : Word) (env : Env) {s : State} (hk : Kept cmds s) :
    ∀ t, execModeCtrlAbort m value env s = .next t → Kept cmds t := by
  intro t ht
  unfold execModeCtrlAbort at ht
  try dsimp only at ht
  all_goals (repeat' first | (cases ht) | split at ht)
  all_goals (with_reducible repeat' first | assumption | rfl | apply kept_hostWord)

theorem kept_execSurveyCut (m : Master) (value : Word) (env : Env) {s : State} (hk : Kept cmds s) :
    ∀ t, execSurveyCut m value env s = .next t → Kept cmds t := by
  intro t ht
  unfold execSurveyCut at ht
  try dsimp only at ht
  all_goals (repeat' first | (cases ht) | split at ht)
  all_goals (with_reducible repeat' first | assumption | rfl | apply kept_hostWord)

theorem kept_execTwinCtrlTakeover (m : Master) (value : Word) (env : Env) {s : State} (hk : Kept cmds s) :
    ∀ t, execTwinCtrlTakeover m value env s = .next t → Kept cmds t := by
  intro t ht
  unfold execTwinCtrlTakeover at ht
  try dsimp only at ht
  all_goals (repeat' first | (cases ht) | split at ht)
  all_goals (with_reducible repeat' first | assumption | rfl | apply kept_hostWord)

theorem kept_execTwinCtrlAbort (m : Master) (value : Word) (env : Env) {s : State} (hk : Kept cmds s) :
    ∀ t, execTwinCtrlAbort m value env s = .next t → Kept cmds t := by
  intro t ht
  unfold execTwinCtrlAbort at ht
  try dsimp only at ht
  all_goals (repeat' first | (cases ht) | split at ht)
  all_goals (with_reducible repeat' first | assumption | rfl | apply kept_hostWord)

theorem kept_execLogReadWrite (m : Master) (value : Word) (env : Env) {s : State} (hk : Kept cmds s) :
    ∀ t, execLogReadWrite m value env s = .next t → Kept cmds t := by
  intro t ht
  unfold execLogReadWrite at ht
  try dsimp only at ht
  all_goals (repeat' first | (cases ht) | split at ht)
  all_goals (with_reducible repeat' first | assumption | rfl | apply kept_hostWord)

theorem kept_execHltBasicWrite (m : Master) (value : Word) (env : Env) {s : State} (hk : Kept cmds s) :
    ∀ t, execHltBasicWrite m value env s = .next t → Kept cmds t := by
  intro t ht
  unfold execHltBasicWrite at ht
  try dsimp only at ht
  all_goals (repeat' first | (cases ht) | split at ht)
  all_goals (with_reducible repeat' first | assumption | rfl | apply kept_hostWord)

theorem kept_execHltCntClear (m : Master) (value : Word) (env : Env) {s : State} (hk : Kept cmds s) :
    ∀ t, execHltCntClear m value env s = .next t → Kept cmds t := by
  intro t ht
  unfold execHltCntClear at ht
  try dsimp only at ht
  all_goals (repeat' first | (cases ht) | split at ht)
  all_goals (with_reducible repeat' first | assumption | rfl | apply kept_hostWord)

theorem kept_execDebugTokenWrite (m : Master) (word : Fin 52) (value : Word) (env : Env) {s : State} (hk : Kept cmds s) :
    ∀ t, execDebugTokenWrite m word value env s = .next t → Kept cmds t := by
  intro t ht
  unfold execDebugTokenWrite at ht
  try dsimp only at ht
  all_goals (repeat' first | (cases ht) | split at ht)
  all_goals (with_reducible repeat' first | assumption | rfl | apply kept_hostWord)

theorem kept_execRecDataWrite (m : Master) (value : Word) (env : Env) {s : State} (hk : Kept cmds s) :
    ∀ t, execRecDataWrite m value env s = .next t → Kept cmds t := by
  intro t ht
  unfold execRecDataWrite at ht
  try dsimp only at ht
  all_goals (repeat' first | (cases ht) | split at ht)
  all_goals (with_reducible repeat' first | assumption | rfl | apply kept_hostWord)

theorem kept_execRecGo (m : Master) (value : Word) (env : Env) {s : State} (hk : Kept cmds s) :
    ∀ t, execRecGo m value env s = .next t → Kept cmds t := by
  intro t ht
  unfold execRecGo at ht
  try dsimp only at ht
  all_goals (repeat' first | (cases ht) | split at ht)
  all_goals (with_reducible repeat' first | assumption | rfl | apply kept_hostWord)

end Sys2Proof.Machine
end

