-- ==== Sys2Proof/Laws/KeptRegLanes.lean ====
section
/-! SUPPORT. What the operations of Machine/RegLanes keep (Laws/Kept). -/

namespace Sys2Proof.Machine

variable {cmds : List Instr}

theorem kept_execOctetRoleWrite (m : Master) (octet : Fin 12) (value : Word) (env : Env) {s : State} (hk : Kept cmds s) :
    ∀ t, execOctetRoleWrite m octet value env s = .next t → Kept cmds t := by
  intro t ht
  unfold execOctetRoleWrite at ht
  try dsimp only at ht
  all_goals (repeat' first | (cases ht) | split at ht)
  all_goals (with_reducible repeat' first | assumption | rfl | apply kept_hostWord)

theorem kept_execLnsBasicWrite (m : Master) (value : Word) (env : Env) {s : State} (hk : Kept cmds s) :
    ∀ t, execLnsBasicWrite m value env s = .next t → Kept cmds t := by
  intro t ht
  unfold execLnsBasicWrite at ht
  try dsimp only at ht
  all_goals (repeat' first | (cases ht) | split at ht)
  all_goals (with_reducible repeat' first | assumption | rfl | apply kept_hostWord)

theorem kept_execTxFirWrite (m : Master) (lane : Fin 96) (value : Word) (env : Env) {s : State} (hk : Kept cmds s) :
    ∀ t, execTxFirWrite m lane value env s = .next t → Kept cmds t := by
  intro t ht
  unfold execTxFirWrite at ht
  try dsimp only at ht
  all_goals (repeat' first | (cases ht) | split at ht)
  all_goals (with_reducible repeat' first | assumption | rfl | apply kept_hostWord)

theorem kept_execLaneIdleSet (m : Master) (lane : Fin 96) (value : Word) (env : Env) {s : State} (hk : Kept cmds s) :
    ∀ t, execLaneIdleSet m lane value env s = .next t → Kept cmds t := by
  intro t ht
  unfold execLaneIdleSet at ht
  try dsimp only at ht
  all_goals (repeat' first | (cases ht) | split at ht)
  all_goals (with_reducible repeat' first | assumption | rfl | apply kept_hostWord)

theorem kept_execLaneIdleClear (m : Master) (lane : Fin 96) (value : Word) (env : Env) {s : State} (hk : Kept cmds s) :
    ∀ t, execLaneIdleClear m lane value env s = .next t → Kept cmds t := by
  intro t ht
  unfold execLaneIdleClear at ht
  try dsimp only at ht
  all_goals (repeat' first | (cases ht) | split at ht)
  all_goals (with_reducible repeat' first | assumption | rfl | apply kept_hostWord)

theorem kept_execLaneRetrain (m : Master) (lane : Fin 96) (value : Word) (env : Env) {s : State} (hk : Kept cmds s) :
    ∀ t, execLaneRetrain m lane value env s = .next t → Kept cmds t := by
  intro t ht
  unfold execLaneRetrain at ht
  try dsimp only at ht
  all_goals (repeat' first | (cases ht) | split at ht)
  all_goals (with_reducible repeat' first | assumption | rfl | apply kept_hostWord)

theorem kept_execLaneAdapt (m : Master) (lane : Fin 96) (value : Word) (env : Env) {s : State} (hk : Kept cmds s) :
    ∀ t, execLaneAdapt m lane value env s = .next t → Kept cmds t := by
  intro t ht
  unfold execLaneAdapt at ht
  try dsimp only at ht
  all_goals (repeat' first | (cases ht) | split at ht)
  all_goals (with_reducible repeat' first | assumption | rfl | apply kept_hostWord)

theorem kept_execCkShadowWrite (m : Master) (lane : Fin 96) (word : Fin 8) (value : Word) (env : Env) {s : State} (hk : Kept cmds s) :
    ∀ t, execCkShadowWrite m lane word value env s = .next t → Kept cmds t := by
  intro t ht
  unfold execCkShadowWrite at ht
  try dsimp only at ht
  all_goals (repeat' first | (cases ht) | split at ht)
  all_goals (with_reducible repeat' first | assumption | rfl | apply kept_hostWord)

theorem kept_execCkPresetWrite (m : Master) (value : Word) (env : Env) {s : State} (hk : Kept cmds s) :
    ∀ t, execCkPresetWrite m value env s = .next t → Kept cmds t := by
  intro t ht
  unfold execCkPresetWrite at ht
  try dsimp only at ht
  all_goals (repeat' first | (cases ht) | split at ht)
  all_goals (with_reducible repeat' first | assumption | rfl | apply kept_hostWord)

theorem kept_execPortCfgWrite (m : Master) (port : Fin 8) (value : Word) (env : Env) {s : State} (hk : Kept cmds s) :
    ∀ t, execPortCfgWrite m port value env s = .next t → Kept cmds t := by
  intro t ht
  unfold execPortCfgWrite at ht
  try dsimp only at ht
  all_goals (repeat' first | (cases ht) | split at ht)
  all_goals (with_reducible repeat' first | assumption | rfl | apply kept_hostWord)

theorem kept_execLnsCntClear (m : Master) (value : Word) (env : Env) {s : State} (hk : Kept cmds s) :
    ∀ t, execLnsCntClear m value env s = .next t → Kept cmds t := by
  intro t ht
  unfold execLnsCntClear at ht
  try dsimp only at ht
  all_goals (repeat' first | (cases ht) | split at ht)
  all_goals (with_reducible repeat' first | assumption | rfl | apply kept_hostWord)

theorem kept_execFrmCntClear (m : Master) (value : Word) (env : Env) {s : State} (hk : Kept cmds s) :
    ∀ t, execFrmCntClear m value env s = .next t → Kept cmds t := by
  intro t ht
  unfold execFrmCntClear at ht
  try dsimp only at ht
  all_goals (repeat' first | (cases ht) | split at ht)
  all_goals (with_reducible repeat' first | assumption | rfl | apply kept_hostWord)

theorem kept_execDecBasicWrite (m : Master) (value : Word) (env : Env) {s : State} (hk : Kept cmds s) :
    ∀ t, execDecBasicWrite m value env s = .next t → Kept cmds t := by
  intro t ht
  unfold execDecBasicWrite at ht
  try dsimp only at ht
  all_goals (repeat' first | (cases ht) | split at ht)
  all_goals (with_reducible repeat' first | assumption | rfl | apply kept_hostWord)

theorem kept_execDecShadowWrite (m : Master) (slot : Fin 256) (word : Fin 16) (value : Word) (env : Env) {s : State} (hk : Kept cmds s) :
    ∀ t, execDecShadowWrite m slot word value env s = .next t → Kept cmds t := by
  intro t ht
  unfold execDecShadowWrite at ht
  try dsimp only at ht
  all_goals (repeat' first | (cases ht) | split at ht)
  all_goals (with_reducible repeat' first | assumption | rfl | apply kept_hostWord)

theorem kept_execDecSyncGo (m : Master) (value : Word) (env : Env) {s : State} (hk : Kept cmds s) :
    ∀ t, execDecSyncGo m value env s = .next t → Kept cmds t := by
  intro t ht
  unfold execDecSyncGo at ht
  try dsimp only at ht
  all_goals (repeat' first | (cases ht) | split at ht)
  all_goals (with_reducible repeat' first | assumption | rfl | apply kept_hostWord)

theorem kept_execDecCntClear (m : Master) (value : Word) (env : Env) {s : State} (hk : Kept cmds s) :
    ∀ t, execDecCntClear m value env s = .next t → Kept cmds t := by
  intro t ht
  unfold execDecCntClear at ht
  try dsimp only at ht
  all_goals (repeat' first | (cases ht) | split at ht)
  all_goals (with_reducible repeat' first | assumption | rfl | apply kept_hostWord)

theorem kept_execChnBasicWrite (m : Master) (value : Word) (env : Env) {s : State} (hk : Kept cmds s) :
    ∀ t, execChnBasicWrite m value env s = .next t → Kept cmds t := by
  intro t ht
  unfold execChnBasicWrite at ht
  try dsimp only at ht
  all_goals (repeat' first | (cases ht) | split at ht)
  all_goals (with_reducible repeat' first | assumption | rfl | apply kept_hostWord)

theorem kept_execChnCfgWrite (m : Master) (value : Word) (env : Env) {s : State} (hk : Kept cmds s) :
    ∀ t, execChnCfgWrite m value env s = .next t → Kept cmds t := by
  intro t ht
  unfold execChnCfgWrite at ht
  try dsimp only at ht
  all_goals (repeat' first | (cases ht) | split at ht)
  all_goals (with_reducible repeat' first | assumption | rfl | apply kept_hostWord)

theorem kept_execChnCoefDataWrite (m : Master) (value : Word) (env : Env) {s : State} (hk : Kept cmds s) :
    ∀ t, execChnCoefDataWrite m value env s = .next t → Kept cmds t := by
  intro t ht
  unfold execChnCoefDataWrite at ht
  try dsimp only at ht
  all_goals (repeat' first | (cases ht) | split at ht)
  all_goals (with_reducible repeat' first | assumption | rfl | apply kept_hostWord)

theorem kept_execChnGainDataWrite (m : Master) (value : Word) (env : Env) {s : State} (hk : Kept cmds s) :
    ∀ t, execChnGainDataWrite m value env s = .next t → Kept cmds t := by
  intro t ht
  unfold execChnGainDataWrite at ht
  try dsimp only at ht
  all_goals (repeat' first | (cases ht) | split at ht)
  all_goals (with_reducible repeat' first | assumption | rfl | apply kept_hostWord)

theorem kept_execChnStart (m : Master) (value : Word) (env : Env) {s : State} (hk : Kept cmds s) :
    ∀ t, execChnStart m value env s = .next t → Kept cmds t := by
  intro t ht
  unfold execChnStart at ht
  try dsimp only at ht
  all_goals (repeat' first | (cases ht) | split at ht)
  all_goals (with_reducible repeat' first | assumption | rfl | apply kept_hostWord)

theorem kept_execChnStop (m : Master) (value : Word) (env : Env) {s : State} (hk : Kept cmds s) :
    ∀ t, execChnStop m value env s = .next t → Kept cmds t := by
  intro t ht
  unfold execChnStop at ht
  try dsimp only at ht
  all_goals (repeat' first | (cases ht) | split at ht)
  all_goals (with_reducible repeat' first | assumption | rfl | apply kept_hostWord)

theorem kept_execChnCntClear (m : Master) (value : Word) (env : Env) {s : State} (hk : Kept cmds s) :
    ∀ t, execChnCntClear m value env s = .next t → Kept cmds t := by
  intro t ht
  unfold execChnCntClear at ht
  try dsimp only at ht
  all_goals (repeat' first | (cases ht) | split at ht)
  all_goals (with_reducible repeat' first | assumption | rfl | apply kept_hostWord)

theorem kept_execRsyBasicWrite (m : Master) (value : Word) (env : Env) {s : State} (hk : Kept cmds s) :
    ∀ t, execRsyBasicWrite m value env s = .next t → Kept cmds t := by
  intro t ht
  unfold execRsyBasicWrite at ht
  try dsimp only at ht
  all_goals (repeat' first | (cases ht) | split at ht)
  all_goals (with_reducible repeat' first | assumption | rfl | apply kept_hostWord)

theorem kept_execRsyCoefDataWrite (m : Master) (value : Word) (env : Env) {s : State} (hk : Kept cmds s) :
    ∀ t, execRsyCoefDataWrite m value env s = .next t → Kept cmds t := by
  intro t ht
  unfold execRsyCoefDataWrite at ht
  try dsimp only at ht
  all_goals (repeat' first | (cases ht) | split at ht)
  all_goals (with_reducible repeat' first | assumption | rfl | apply kept_hostWord)

theorem kept_execRsyStart (m : Master) (value : Word) (env : Env) {s : State} (hk : Kept cmds s) :
    ∀ t, execRsyStart m value env s = .next t → Kept cmds t := by
  intro t ht
  unfold execRsyStart at ht
  try dsimp only at ht
  all_goals (repeat' first | (cases ht) | split at ht)
  all_goals (with_reducible repeat' first | assumption | rfl | apply kept_hostWord)

theorem kept_execRsyStop (m : Master) (value : Word) (env : Env) {s : State} (hk : Kept cmds s) :
    ∀ t, execRsyStop m value env s = .next t → Kept cmds t := by
  intro t ht
  unfold execRsyStop at ht
  try dsimp only at ht
  all_goals (repeat' first | (cases ht) | split at ht)
  all_goals (with_reducible repeat' first | assumption | rfl | apply kept_hostWord)

theorem kept_execRsySliceWrite (m : Master) (slice : Fin 1024) (half : Fin 2) (value : Word) (env : Env) {s : State} (hk : Kept cmds s) :
    ∀ t, execRsySliceWrite m slice half value env s = .next t → Kept cmds t := by
  intro t ht
  unfold execRsySliceWrite at ht
  try dsimp only at ht
  all_goals (repeat' first | (cases ht) | split at ht)
  all_goals (with_reducible repeat' first | assumption | rfl | apply kept_hostWord)

theorem kept_execRsyCntClear (m : Master) (value : Word) (env : Env) {s : State} (hk : Kept cmds s) :
    ∀ t, execRsyCntClear m value env s = .next t → Kept cmds t := by
  intro t ht
  unfold execRsyCntClear at ht
  try dsimp only at ht
  all_goals (repeat' first | (cases ht) | split at ht)
  all_goals (with_reducible repeat' first | assumption | rfl | apply kept_hostWord)

end Sys2Proof.Machine
end

