-- ==== Sys2Proof/Laws/KeptRegPlan.lean ====
section
/-! SUPPORT. What the operations of Machine/RegPlan keep (Laws/Kept). -/

namespace Sys2Proof.Machine

variable {cmds : List Instr}

theorem kept_execSvyBasicWrite (m : Master) (value : Word) (env : Env) {s : State} (hk : Kept cmds s) :
    ∀ t, execSvyBasicWrite m value env s = .next t → Kept cmds t := by
  intro t ht
  unfold execSvyBasicWrite at ht
  try dsimp only at ht
  all_goals (repeat' first | (cases ht) | split at ht)
  all_goals (with_reducible repeat' first | assumption | rfl | apply kept_hostWord)

theorem kept_execSvyLoad (m : Master) (core : Fin 8) (value : Word) (env : Env) {s : State} (hk : Kept cmds s) :
    ∀ t, execSvyLoad m core value env s = .next t → Kept cmds t := by
  intro t ht
  unfold execSvyLoad at ht
  try dsimp only at ht
  all_goals (repeat' first | (cases ht) | split at ht)
  all_goals (with_reducible repeat' first | assumption | rfl | apply kept_hostWord)

theorem kept_execSvyStart (m : Master) (core : Fin 8) (value : Word) (env : Env) {s : State} (hk : Kept cmds s) :
    ∀ t, execSvyStart m core value env s = .next t → Kept cmds t := by
  intro t ht
  unfold execSvyStart at ht
  try dsimp only at ht
  all_goals (repeat' first | (cases ht) | split at ht)
  all_goals (with_reducible repeat' first | assumption | rfl | apply kept_hostWord)

theorem kept_execSvyStop (m : Master) (core : Fin 8) (value : Word) (env : Env) {s : State} (hk : Kept cmds s) :
    ∀ t, execSvyStop m core value env s = .next t → Kept cmds t := by
  intro t ht
  unfold execSvyStop at ht
  try dsimp only at ht
  all_goals (repeat' first | (cases ht) | split at ht)
  all_goals (with_reducible repeat' first | assumption | rfl | apply kept_hostWord)

theorem kept_execSvyKill (m : Master) (core : Fin 8) (value : Word) (env : Env) {s : State} (hk : Kept cmds s) :
    ∀ t, execSvyKill m core value env s = .next t → Kept cmds t := by
  intro t ht
  unfold execSvyKill at ht
  try dsimp only at ht
  all_goals (repeat' first | (cases ht) | split at ht)
  all_goals (with_reducible repeat' first | assumption | rfl | apply kept_hostWord)

theorem kept_execSvySuspend (m : Master) (core : Fin 8) (value : Word) (env : Env) {s : State} (hk : Kept cmds s) :
    ∀ t, execSvySuspend m core value env s = .next t → Kept cmds t := by
  intro t ht
  unfold execSvySuspend at ht
  try dsimp only at ht
  all_goals (repeat' first | (cases ht) | split at ht)
  all_goals (with_reducible repeat' first | assumption | rfl | apply kept_hostWord)

theorem kept_execSvyResume (m : Master) (core : Fin 8) (value : Word) (env : Env) {s : State} (hk : Kept cmds s) :
    ∀ t, execSvyResume m core value env s = .next t → Kept cmds t := by
  intro t ht
  unfold execSvyResume at ht
  try dsimp only at ht
  all_goals (repeat' first | (cases ht) | split at ht)
  all_goals (with_reducible repeat' first | assumption | rfl | apply kept_hostWord)

theorem kept_execSvyUnload (m : Master) (core : Fin 8) (value : Word) (env : Env) {s : State} (hk : Kept cmds s) :
    ∀ t, execSvyUnload m core value env s = .next t → Kept cmds t := by
  intro t ht
  unfold execSvyUnload at ht
  try dsimp only at ht
  all_goals (repeat' first | (cases ht) | split at ht)
  all_goals (with_reducible repeat' first | assumption | rfl | apply kept_hostWord)

theorem kept_execSvyHostAbort (m : Master) (core : Fin 8) (value : Word) (env : Env) {s : State} (hk : Kept cmds s) :
    ∀ t, execSvyHostAbort m core value env s = .next t → Kept cmds t := by
  intro t ht
  unfold execSvyHostAbort at ht
  try dsimp only at ht
  all_goals (repeat' first | (cases ht) | split at ht)
  all_goals (with_reducible repeat' first | assumption | rfl | apply kept_hostWord)

theorem kept_execSvyRegWrite (m : Master) (core : Fin 8) (value : Word) (env : Env) {s : State} (hk : Kept cmds s) :
    ∀ t, execSvyRegWrite m core value env s = .next t → Kept cmds t := by
  intro t ht
  unfold execSvyRegWrite at ht
  try dsimp only at ht
  all_goals (repeat' first | (cases ht) | split at ht)
  all_goals (with_reducible repeat' first | assumption | rfl | apply kept_hostWord)

theorem kept_execSvyCntClear (m : Master) (value : Word) (env : Env) {s : State} (hk : Kept cmds s) :
    ∀ t, execSvyCntClear m value env s = .next t → Kept cmds t := by
  intro t ht
  unfold execSvyCntClear at ht
  try dsimp only at ht
  all_goals (repeat' first | (cases ht) | split at ht)
  all_goals (with_reducible repeat' first | assumption | rfl | apply kept_hostWord)

theorem kept_execTrpBasicWrite (m : Master) (value : Word) (env : Env) {s : State} (hk : Kept cmds s) :
    ∀ t, execTrpBasicWrite m value env s = .next t → Kept cmds t := by
  intro t ht
  unfold execTrpBasicWrite at ht
  try dsimp only at ht
  all_goals (repeat' first | (cases ht) | split at ht)
  all_goals (with_reducible repeat' first | assumption | rfl | apply kept_hostWord)

theorem kept_execTrpApply (m : Master) (value : Word) (env : Env) {s : State} (hk : Kept cmds s) :
    ∀ t, execTrpApply m value env s = .next t → Kept cmds t := by
  intro t ht
  unfold execTrpApply at ht
  try dsimp only at ht
  all_goals (repeat' first | (cases ht) | split at ht)
  all_goals (with_reducible repeat' first | assumption | rfl | apply kept_hostWord)

theorem kept_execLevelReset (m : Master) (value : Word) (env : Env) {s : State} (hk : Kept cmds s) :
    ∀ t, execLevelReset m value env s = .next t → Kept cmds t := by
  intro t ht
  unfold execLevelReset at ht
  try dsimp only at ht
  all_goals (repeat' first | (cases ht) | split at ht)
  all_goals (with_reducible repeat' first | assumption | rfl | apply kept_hostWord)

theorem kept_execRepNext (m : Master) (value : Word) (env : Env) {s : State} (hk : Kept cmds s) :
    ∀ t, execRepNext m value env s = .next t → Kept cmds t := by
  intro t ht
  unfold execRepNext at ht
  try dsimp only at ht
  all_goals (repeat' first | (cases ht) | split at ht)
  all_goals (with_reducible repeat' first | assumption | rfl | apply kept_hostWord)

theorem kept_execCapRelease (m : Master) (value : Word) (env : Env) {s : State} (hk : Kept cmds s) :
    ∀ t, execCapRelease m value env s = .next t → Kept cmds t := by
  intro t ht
  unfold execCapRelease at ht
  try dsimp only at ht
  all_goals (repeat' first | (cases ht) | split at ht)
  all_goals (with_reducible repeat' first | assumption | rfl | apply kept_hostWord)

theorem kept_execTrpDirRecordWrite (m : Master) (word : Fin 512) (value : Word) (env : Env) {s : State} (hk : Kept cmds s) :
    ∀ t, execTrpDirRecordWrite m word value env s = .next t → Kept cmds t := by
  intro t ht
  unfold execTrpDirRecordWrite at ht
  try dsimp only at ht
  all_goals (repeat' first | (cases ht) | split at ht)
  all_goals (with_reducible repeat' first | assumption | rfl | apply kept_hostWord)

theorem kept_execTrpCntClear (m : Master) (value : Word) (env : Env) {s : State} (hk : Kept cmds s) :
    ∀ t, execTrpCntClear m value env s = .next t → Kept cmds t := by
  intro t ht
  unfold execTrpCntClear at ht
  try dsimp only at ht
  all_goals (repeat' first | (cases ht) | split at ht)
  all_goals (with_reducible repeat' first | assumption | rfl | apply kept_hostWord)

theorem kept_execCadBasicWrite (m : Master) (value : Word) (env : Env) {s : State} (hk : Kept cmds s) :
    ∀ t, execCadBasicWrite m value env s = .next t → Kept cmds t := by
  intro t ht
  unfold execCadBasicWrite at ht
  try dsimp only at ht
  all_goals (repeat' first | (cases ht) | split at ht)
  all_goals (with_reducible repeat' first | assumption | rfl | apply kept_hostWord)

theorem kept_execCadShareWrite (m : Master) (cls : Fin 16) (res : Fin 12) (value : Word) (env : Env) {s : State} (hk : Kept cmds s) :
    ∀ t, execCadShareWrite m cls res value env s = .next t → Kept cmds t := by
  intro t ht
  unfold execCadShareWrite at ht
  try dsimp only at ht
  all_goals (repeat' first | (cases ht) | split at ht)
  all_goals (with_reducible repeat' first | assumption | rfl | apply kept_hostWord)

theorem kept_execCadApply (m : Master) (value : Word) (env : Env) {s : State} (hk : Kept cmds s) :
    ∀ t, execCadApply m value env s = .next t → Kept cmds t := by
  intro t ht
  unfold execCadApply at ht
  try dsimp only at ht
  all_goals (repeat' first | (cases ht) | split at ht)
  all_goals (with_reducible repeat' first | assumption | rfl | apply kept_hostWord)

theorem kept_execCadCntClear (m : Master) (value : Word) (env : Env) {s : State} (hk : Kept cmds s) :
    ∀ t, execCadCntClear m value env s = .next t → Kept cmds t := by
  intro t ht
  unfold execCadCntClear at ht
  try dsimp only at ht
  all_goals (repeat' first | (cases ht) | split at ht)
  all_goals (with_reducible repeat' first | assumption | rfl | apply kept_hostWord)

theorem kept_execMemSrEnter (m : Master) (stack : Fin 2) (value : Word) (env : Env) {s : State} (hk : Kept cmds s) :
    ∀ t, execMemSrEnter m stack value env s = .next t → Kept cmds t := by
  intro t ht
  unfold execMemSrEnter at ht
  try dsimp only at ht
  all_goals (repeat' first | (cases ht) | split at ht)
  all_goals (with_reducible repeat' first | assumption | rfl | apply kept_hostWord)

theorem kept_execMemSrExit (m : Master) (stack : Fin 2) (value : Word) (env : Env) {s : State} (hk : Kept cmds s) :
    ∀ t, execMemSrExit m stack value env s = .next t → Kept cmds t := by
  intro t ht
  unfold execMemSrExit at ht
  try dsimp only at ht
  all_goals (repeat' first | (cases ht) | split at ht)
  all_goals (with_reducible repeat' first | assumption | rfl | apply kept_hostWord)

theorem kept_execMemTrain (m : Master) (value : Word) (env : Env) {s : State} (hk : Kept cmds s) :
    ∀ t, execMemTrain m value env s = .next t → Kept cmds t := by
  intro t ht
  unfold execMemTrain at ht
  try dsimp only at ht
  all_goals (repeat' first | (cases ht) | split at ht)
  all_goals (with_reducible repeat' first | assumption | rfl | apply kept_hostWord)

theorem kept_execUeNext (m : Master) (value : Word) (env : Env) {s : State} (hk : Kept cmds s) :
    ∀ t, execUeNext m value env s = .next t → Kept cmds t := by
  intro t ht
  unfold execUeNext at ht
  try dsimp only at ht
  all_goals (repeat' first | (cases ht) | split at ht)
  all_goals (with_reducible repeat' first | assumption | rfl | apply kept_hostWord)

theorem kept_execRetireGo (m : Master) (value : Word) (env : Env) {s : State} (hk : Kept cmds s) :
    ∀ t, execRetireGo m value env s = .next t → Kept cmds t := by
  intro t ht
  unfold execRetireGo at ht
  try dsimp only at ht
  all_goals (repeat' first | (cases ht) | split at ht)
  all_goals (with_reducible repeat' first | assumption | rfl | apply kept_hostWord)

theorem kept_execRetireAbort (m : Master) (value : Word) (env : Env) {s : State} (hk : Kept cmds s) :
    ∀ t, execRetireAbort m value env s = .next t → Kept cmds t := by
  intro t ht
  unfold execRetireAbort at ht
  try dsimp only at ht
  all_goals (repeat' first | (cases ht) | split at ht)
  all_goals (with_reducible repeat' first | assumption | rfl | apply kept_hostWord)

theorem kept_execRetireRestore (m : Master) (value : Word) (env : Env) {s : State} (hk : Kept cmds s) :
    ∀ t, execRetireRestore m value env s = .next t → Kept cmds t := by
  intro t ht
  unfold execRetireRestore at ht
  try dsimp only at ht
  all_goals (repeat' first | (cases ht) | split at ht)
  all_goals (with_reducible repeat' first | assumption | rfl | apply kept_hostWord)

theorem kept_execMemCntClear (m : Master) (value : Word) (env : Env) {s : State} (hk : Kept cmds s) :
    ∀ t, execMemCntClear m value env s = .next t → Kept cmds t := by
  intro t ht
  unfold execMemCntClear at ht
  try dsimp only at ht
  all_goals (repeat' first | (cases ht) | split at ht)
  all_goals (with_reducible repeat' first | assumption | rfl | apply kept_hostWord)

end Sys2Proof.Machine
end

