-- ==== Sys2Proof/Laws/KeptRegTime.lean ====
section
/-! SUPPORT. What the operations of Machine/RegTime keep (Laws/Kept). -/

namespace Sys2Proof.Machine

variable {cmds : List Instr}

theorem kept_execMerBasicWrite (m : Master) (value : Word) (env : Env) {s : State} (hk : Kept cmds s) :
    ∀ t, execMerBasicWrite m value env s = .next t → Kept cmds t := by
  intro t ht
  unfold execMerBasicWrite at ht
  try dsimp only at ht
  all_goals (repeat' first | (cases ht) | split at ht)
  all_goals (with_reducible repeat' first | assumption | rfl | apply kept_hostWord)

theorem kept_execMerSelect (m : Master) (value : Word) (env : Env) {s : State} (hk : Kept cmds s) :
    ∀ t, execMerSelect m value env s = .next t → Kept cmds t := by
  intro t ht
  unfold execMerSelect at ht
  try dsimp only at ht
  all_goals (repeat' first | (cases ht) | split at ht)
  all_goals (with_reducible repeat' first | assumption | rfl | apply kept_hostWord)

theorem kept_execRealign (m : Master) (value : Word) (env : Env) {s : State} (hk : Kept cmds s) :
    ∀ t, execRealign m value env s = .next t → Kept cmds t := by
  intro t ht
  unfold execRealign at ht
  try dsimp only at ht
  all_goals (repeat' first | (cases ht) | split at ht)
  all_goals (with_reducible repeat' first | assumption | rfl | apply kept_hostWord)

theorem kept_execMerEpochRequest (m : Master) (value : Word) (env : Env) {s : State} (hk : Kept cmds s) :
    ∀ t, execMerEpochRequest m value env s = .next t → Kept cmds t := by
  intro t ht
  unfold execMerEpochRequest at ht
  try dsimp only at ht
  all_goals (repeat' first | (cases ht) | split at ht)
  all_goals (with_reducible repeat' first | assumption | rfl | apply kept_hostWord)

theorem kept_execMerFsWrite (m : Master) (value : Word) (env : Env) {s : State} (hk : Kept cmds s) :
    ∀ t, execMerFsWrite m value env s = .next t → Kept cmds t := by
  intro t ht
  unfold execMerFsWrite at ht
  try dsimp only at ht
  all_goals (repeat' first | (cases ht) | split at ht)
  all_goals (with_reducible repeat' first | assumption | rfl | apply kept_hostWord)

theorem kept_execOffsetWrite (m : Master) (output : Fin 8) (half : Fin 2) (value : Word) (env : Env) {s : State} (hk : Kept cmds s) :
    ∀ t, execOffsetWrite m output half value env s = .next t → Kept cmds t := by
  intro t ht
  unfold execOffsetWrite at ht
  try dsimp only at ht
  all_goals (repeat' first | (cases ht) | split at ht)
  all_goals (with_reducible repeat' first | assumption | rfl | apply kept_hostWord)

theorem kept_execTimBasicWrite (m : Master) (value : Word) (env : Env) {s : State} (hk : Kept cmds s) :
    ∀ t, execTimBasicWrite m value env s = .next t → Kept cmds t := by
  intro t ht
  unfold execTimBasicWrite at ht
  try dsimp only at ht
  all_goals (repeat' first | (cases ht) | split at ht)
  all_goals (with_reducible repeat' first | assumption | rfl | apply kept_hostWord)

theorem kept_execSecSet (m : Master) (value : Word) (env : Env) {s : State} (hk : Kept cmds s) :
    ∀ t, execSecSet m value env s = .next t → Kept cmds t := by
  intro t ht
  unfold execSecSet at ht
  try dsimp only at ht
  all_goals (repeat' first | (cases ht) | split at ht)
  all_goals (with_reducible repeat' first | assumption | rfl | apply kept_hostWord)

theorem kept_execTodSet (m : Master) (value : Word) (env : Env) {s : State} (hk : Kept cmds s) :
    ∀ t, execTodSet m value env s = .next t → Kept cmds t := by
  intro t ht
  unfold execTodSet at ht
  try dsimp only at ht
  all_goals (repeat' first | (cases ht) | split at ht)
  all_goals (with_reducible repeat' first | assumption | rfl | apply kept_hostWord)

theorem kept_execPtpAccept (m : Master) (value : Word) (env : Env) {s : State} (hk : Kept cmds s) :
    ∀ t, execPtpAccept m value env s = .next t → Kept cmds t := by
  intro t ht
  unfold execPtpAccept at ht
  try dsimp only at ht
  all_goals (repeat' first | (cases ht) | split at ht)
  all_goals (with_reducible repeat' first | assumption | rfl | apply kept_hostWord)

theorem kept_execPtpReset (m : Master) (value : Word) (env : Env) {s : State} (hk : Kept cmds s) :
    ∀ t, execPtpReset m value env s = .next t → Kept cmds t := by
  intro t ht
  unfold execPtpReset at ht
  try dsimp only at ht
  all_goals (repeat' first | (cases ht) | split at ht)
  all_goals (with_reducible repeat' first | assumption | rfl | apply kept_hostWord)

theorem kept_execTimSelect (m : Master) (value : Word) (env : Env) {s : State} (hk : Kept cmds s) :
    ∀ t, execTimSelect m value env s = .next t → Kept cmds t := by
  intro t ht
  unfold execTimSelect at ht
  try dsimp only at ht
  all_goals (repeat' first | (cases ht) | split at ht)
  all_goals (with_reducible repeat' first | assumption | rfl | apply kept_hostWord)

theorem kept_execIncrHiWrite (m : Master) (value : Word) (env : Env) {s : State} (hk : Kept cmds s) :
    ∀ t, execIncrHiWrite m value env s = .next t → Kept cmds t := by
  intro t ht
  unfold execIncrHiWrite at ht
  try dsimp only at ht
  all_goals (repeat' first | (cases ht) | split at ht)
  all_goals (with_reducible repeat' first | assumption | rfl | apply kept_hostWord)

theorem kept_execIncrLoWrite (m : Master) (value : Word) (env : Env) {s : State} (hk : Kept cmds s) :
    ∀ t, execIncrLoWrite m value env s = .next t → Kept cmds t := by
  intro t ht
  unfold execIncrLoWrite at ht
  try dsimp only at ht
  all_goals (repeat' first | (cases ht) | split at ht)
  all_goals (with_reducible repeat' first | assumption | rfl | apply kept_hostWord)

theorem kept_execEvtCfgWrite (m : Master) (output : Fin 4) (value : Word) (env : Env) {s : State} (hk : Kept cmds s) :
    ∀ t, execEvtCfgWrite m output value env s = .next t → Kept cmds t := by
  intro t ht
  unfold execEvtCfgWrite at ht
  try dsimp only at ht
  all_goals (repeat' first | (cases ht) | split at ht)
  all_goals (with_reducible repeat' first | assumption | rfl | apply kept_hostWord)

theorem kept_execTimCntClear (m : Master) (value : Word) (env : Env) {s : State} (hk : Kept cmds s) :
    ∀ t, execTimCntClear m value env s = .next t → Kept cmds t := by
  intro t ht
  unfold execTimCntClear at ht
  try dsimp only at ht
  all_goals (repeat' first | (cases ht) | split at ht)
  all_goals (with_reducible repeat' first | assumption | rfl | apply kept_hostWord)

end Sys2Proof.Machine
end

