-- ==== Sys2Proof/Laws/Agree.lean ====
section
/-! SUPPORT. What operations leave alone: `Agree P s t` says that `t` is as `s` outside the parts `P`. One lemma per operation, here for the shared ones
and in the other files Agree* for the units: an operation that touches only parts of `P` keeps the agreement. -/

namespace Sys2Proof.Machine

/-- `t` is as `s` outside the parts `P`. -/
structure Agree (P : List Part) (s t : State) : Prop where
  out : SameBut P s t

variable {P : List Part} {s0 s : State}

theorem agree_refl : Agree P s s := ⟨fun p _ => by cases p <;> first | rfl | exact fun _ => rfl⟩

/-- A change inside `P`, given part by part. -/
theorem agree_step {t : State} (h : Agree P s0 s) (ht : ∀ p, p ∉ P → same p s t) : Agree P s0 t := by
  refine ⟨fun p hp => ?_⟩
  have h1 := h.out p hp
  have h2 := ht p hp
  cases p <;> simp only [same] at h1 h2 ⊢ <;> first | exact h2.trans h1 | exact fun a => (h2 a).trans (h1 a)


theorem agree_with_lns (x) (hf : Part.lns ∈ P) (h : Agree P s0 s) : Agree P s0 { s with lns := x } :=
  agree_step h (fun p hp => by cases p <;> first | exact absurd hf hp | rfl | exact fun _ => rfl)
theorem agree_with_frm (x) (hf : Part.frm ∈ P) (h : Agree P s0 s) : Agree P s0 { s with frm := x } :=
  agree_step h (fun p hp => by cases p <;> first | exact absurd hf hp | rfl | exact fun _ => rfl)
theorem agree_with_dec (x) (hf : Part.dec ∈ P) (h : Agree P s0 s) : Agree P s0 { s with dec := x } :=
  agree_step h (fun p hp => by cases p <;> first | exact absurd hf hp | rfl | exact fun _ => rfl)
theorem agree_with_cad (x) (hf : Part.cad ∈ P) (h : Agree P s0 s) : Agree P s0 { s with cad := x } :=
  agree_step h (fun p hp => by cases p <;> first | exact absurd hf hp | rfl | exact fun _ => rfl)
theorem agree_with_wm (x) (hf : Part.wm ∈ P) (h : Agree P s0 s) : Agree P s0 { s with wm := x } :=
  agree_step h (fun p hp => by cases p <;> first | exact absurd hf hp | rfl | exact fun _ => rfl)
theorem agree_with_chn (x) (hf : Part.chn ∈ P) (h : Agree P s0 s) : Agree P s0 { s with chn := x } :=
  agree_step h (fun p hp => by cases p <;> first | exact absurd hf hp | rfl | exact fun _ => rfl)
theorem agree_with_grt (x) (hf : Part.grt ∈ P) (h : Agree P s0 s) : Agree P s0 { s with grt := x } :=
  agree_step h (fun p hp => by cases p <;> first | exact absurd hf hp | rfl | exact fun _ => rfl)
theorem agree_with_stg (x) (hf : Part.stg ∈ P) (h : Agree P s0 s) : Agree P s0 { s with stg := x } :=
  agree_step h (fun p hp => by cases p <;> first | exact absurd hf hp | rfl | exact fun _ => rfl)
theorem agree_with_trp (x) (hf : Part.trp ∈ P) (h : Agree P s0 s) : Agree P s0 { s with trp := x } :=
  agree_step h (fun p hp => by cases p <;> first | exact absurd hf hp | rfl | exact fun _ => rfl)
theorem agree_with_svy (x) (hf : Part.svy ∈ P) (h : Agree P s0 s) : Agree P s0 { s with svy := x } :=
  agree_step h (fun p hp => by cases p <;> first | exact absurd hf hp | rfl | exact fun _ => rfl)
theorem agree_with_brg (x) (hf : Part.brg ∈ P) (h : Agree P s0 s) : Agree P s0 { s with brg := x } :=
  agree_step h (fun p hp => by cases p <;> first | exact absurd hf hp | rfl | exact fun _ => rfl)
theorem agree_with_tru (x) (hf : Part.tru ∈ P) (h : Agree P s0 s) : Agree P s0 { s with tru := x } :=
  agree_step h (fun p hp => by cases p <;> first | exact absurd hf hp | rfl | exact fun _ => rfl)
theorem agree_with_atl (x) (hf : Part.atl ∈ P) (h : Agree P s0 s) : Agree P s0 { s with atl := x } :=
  agree_step h (fun p hp => by cases p <;> first | exact absurd hf hp | rfl | exact fun _ => rfl)
theorem agree_with_xar (x) (hf : Part.xar ∈ P) (h : Agree P s0 s) : Agree P s0 { s with xar := x } :=
  agree_step h (fun p hp => by cases p <;> first | exact absurd hf hp | rfl | exact fun _ => rfl)
theorem agree_with_acc (x) (hf : Part.acc ∈ P) (h : Agree P s0 s) : Agree P s0 { s with acc := x } :=
  agree_step h (fun p hp => by cases p <;> first | exact absurd hf hp | rfl | exact fun _ => rfl)
theorem agree_with_rsy (x) (hf : Part.rsy ∈ P) (h : Agree P s0 s) : Agree P s0 { s with rsy := x } :=
  agree_step h (fun p hp => by cases p <;> first | exact absurd hf hp | rfl | exact fun _ => rfl)
theorem agree_with_hlt (x) (hf : Part.hlt ∈ P) (h : Agree P s0 s) : Agree P s0 { s with hlt := x } :=
  agree_step h (fun p hp => by cases p <;> first | exact absurd hf hp | rfl | exact fun _ => rfl)
theorem agree_with_cmx (x) (hf : Part.cmx ∈ P) (h : Agree P s0 s) : Agree P s0 { s with cmx := x } :=
  agree_step h (fun p hp => by cases p <;> first | exact absurd hf hp | rfl | exact fun _ => rfl)
theorem agree_with_mer (x) (hf : Part.mer ∈ P) (h : Agree P s0 s) : Agree P s0 { s with mer := x } :=
  agree_step h (fun p hp => by cases p <;> first | exact absurd hf hp | rfl | exact fun _ => rfl)
theorem agree_with_tim (x) (hf : Part.tim ∈ P) (h : Agree P s0 s) : Agree P s0 { s with tim := x } :=
  agree_step h (fun p hp => by cases p <;> first | exact absurd hf hp | rfl | exact fun _ => rfl)
theorem agree_with_out (x) (hf : Part.out ∈ P) (h : Agree P s0 s) : Agree P s0 { s with out := x } :=
  agree_step h (fun p hp => by cases p <;> first | exact absurd hf hp | rfl | exact fun _ => rfl)
theorem agree_with_mem (x : MemSt) (hf : Part.mem ∈ P) (h : Agree P s0 s) (hr : x.retired = s.mem.retired) : Agree P s0 { s with mem := x } :=
  agree_step h (fun p hp => by
    cases p <;> first | exact absurd hf hp | rfl | (intro a; simp only [hbmByte, hbmPhys, hr]))
theorem agree_with_mem2 (x : MemSt) (hf : Part.mem ∈ P) (hb : Part.hbm ∈ P) (h : Agree P s0 s) : Agree P s0 { s with mem := x } :=
  agree_step h (fun p hp => by cases p <;> first | exact absurd hf hp | exact absurd hb hp | rfl)
theorem agree_setReg (a n : Nat) (hf : Part.regs ∈ P) (h : Agree P s0 s) : Agree P s0 (s.setReg a n) :=
  agree_step h (fun p hp => by cases p <;> first | exact absurd hf hp | rfl | exact fun _ => rfl)
theorem agree_wf (f : Field) (v : Nat) (hf : Part.regs ∈ P) (h : Agree P s0 s) : Agree P s0 (s.wf f v) := agree_setReg _ _ hf h
theorem agree_inc (a n : Nat) (hf : Part.regs ∈ P) (h : Agree P s0 s) : Agree P s0 (s.inc a n) := agree_setReg _ _ hf h
theorem agree_setReg64 (lo hi n : Nat) (hf : Part.regs ∈ P) (h : Agree P s0 s) : Agree P s0 (s.setReg64 lo hi n) :=
  agree_setReg _ _ hf (agree_setReg _ _ hf h)
theorem agree_emit (o : Output) (hf : Part.out ∈ P) (h : Agree P s0 s) : Agree P s0 (s.emit o) := agree_with_out _ hf h
theorem agree_foldS {α : Type} (f : α → State → State) (l : List α) (hf : ∀ a t, Agree P s0 t → Agree P s0 (f a t)) (h : Agree P s0 s) :
    Agree P s0 (foldS f l s) := foldS_keeps (Agree P s0) f l s hf h
theorem agree_zero (as : List Nat) (hf : Part.regs ∈ P) (h : Agree P s0 s) : Agree P s0 (s.zero as) :=
  agree_foldS _ _ (fun _ _ h => agree_setReg _ _ hf h) h
theorem agree_storeBits (a w v : Nat) (hf : Part.regs ∈ P) (h : Agree P s0 s) : Agree P s0 (storeBits a w v s) := agree_setReg _ _ hf h
theorem agree_setHbmByte (a : Nat) (b : Byte) (hf : Part.hbm ∈ P) (h : Agree P s0 s) : Agree P s0 (setHbmByte a b s) :=
  agree_step h (fun p hp => by cases p <;> first | exact absurd hf hp | rfl)

/-- The state of a pair that a match has taken apart. -/
theorem agree_snd {α : Type} {p : α × State} {a : α} {t : State} (h : Agree P s0 p.2) (e : p = (a, t)) : Agree P s0 t := by subst e; exact h
theorem agree_snd2 {α β : Type} {p : α × β × State} {a : α} {b : β} {t : State} (h : Agree P s0 p.2.2) (e : p = (a, b, t)) : Agree P s0 t := by
  subst e; exact h
theorem agree_st {o : Option WOut} {w : WOut} (h : ∀ r, o = some r → Agree P s0 r.st) (e : o = some w) : Agree P s0 w.st := h w e
theorem agree_get {o : Option State} {t : State} (h : ∀ r, o = some r → Agree P s0 r) (e : o = some t) : Agree P s0 t := h t e
theorem agree_get2 {α : Type} {o : Option (α × State)} {a : α} {t : State} (h : ∀ r, o = some r → Agree P s0 r.2) (e : o = some (a, t)) : Agree P s0 t := h _ e
theorem agree_ite {c : Prop} [Decidable c] {t : State} (h : Agree P s0 s) (h' : Agree P s0 t) : Agree P s0 (if c then s else t) := by
  split <;> assumption
theorem agree_ite_st {c : Prop} [Decidable c] {a b : WOut} (h : Agree P s0 a.st) (h' : Agree P s0 b.st) : Agree P s0 (if c then a else b).st := by
  split <;> assumption
theorem agree_ite_snd {α : Type} {c : Prop} [Decidable c] {a b : α × State} (h : Agree P s0 a.2) (h' : Agree P s0 b.2) :
    Agree P s0 (if c then a else b).2 := by
  split <;> assumption

theorem agree_sendVector (u : Nat) (h1 : Part.out ∈ P) (h2 : Part.regs ∈ P) (h : Agree P s0 s) : Agree P s0 (sendVector u s) := by
  unfold sendVector
  exact agree_ite h (agree_ite (agree_setReg _ _ h2 h) (agree_emit _ h1 h))

theorem agree_withIrq (u : Nat) (f : State → State) (hf : ∀ t, Agree P s0 t → Agree P s0 (f t)) (h1 : Part.out ∈ P) (h2 : Part.regs ∈ P)
    (h : Agree P s0 s) : Agree P s0 (withIrq u f s) := by
  unfold withIrq
  exact agree_ite (agree_sendVector _ h1 h2 (hf _ h)) (hf _ h)

theorem agree_queueRec (r : LogRec) (h1 : Part.hlt ∈ P) (h2 : Part.regs ∈ P) (h : Agree P s0 s) : Agree P s0 (queueRec r s) := by
  unfold queueRec
  refine agree_ite (agree_with_hlt _ h1 h) (agree_ite (agree_with_hlt _ h1 (agree_wf _ _ h2 h)) ?_)
  split
  · exact agree_with_hlt _ h1 (agree_wf _ _ h2 (agree_with_hlt _ h1 h))
  · exact agree_with_hlt _ h1 (agree_wf _ _ h2 h)

theorem agree_countAat (code : Nat) (h1 : Part.hlt ∈ P) (h : Agree P s0 s) : Agree P s0 (countAat code s) := by
  unfold countAat
  refine agree_foldS _ _ (fun a t h => ?_) h
  exact agree_ite (agree_ite (agree_with_hlt _ h1 (agree_with_hlt _ h1 h)) (agree_with_hlt _ h1 h)) h

theorem agree_raise (e : Ev) (a b : Nat) (h1 : Part.hlt ∈ P) (h2 : Part.out ∈ P) (h3 : Part.regs ∈ P) (h : Agree P s0 s) : Agree P s0 (raise e a b s) := by
  unfold raise
  have hi := agree_countAat e.code h1 (agree_withIrq (e.code / 256)
    (fun t => t.setReg (UNIT_EVENT (e.code / 256)) (t.reg (UNIT_EVENT (e.code / 256)) ||| 2 ^ (e.code % 256 - 1)))
    (fun _ h => agree_setReg _ _ h3 h) h2 h3 h)
  exact agree_ite (agree_queueRec _ h1 h3 hi) hi

theorem agree_logOpen (u k : Nat) (sev : Sev) (a0 a1 : Nat) (h1 : Part.hlt ∈ P) (h3 : Part.regs ∈ P) (h : Agree P s0 s) :
    Agree P s0 (logOpen u k sev a0 a1 s) := by
  unfold logOpen
  exact agree_ite (agree_queueRec _ h1 h3 h) h

theorem agree_acc (h : Agree P s0 s) : Agree P s0 (acc s).st := h
theorem agree_refuse (u a0 a1 : Nat) (h1 : Part.hlt ∈ P) (h2 : Part.out ∈ P) (h3 : Part.regs ∈ P) (h : Agree P s0 s) :
    Agree P s0 (refuse u a0 a1 s).st := agree_raise _ _ _ h1 h2 h3 h

end Sys2Proof.Machine
end

