-- ==== Sys2Proof/Laws/AgreeFrames.lean ====
section
/-! SUPPORT. What the operations of Machine/Frames leave alone (Laws/Agree). -/

namespace Sys2Proof.Machine

theorem agree_sigAdd {P : List Part} {s0 : State} (n : Nat) (c : Nat) (p : Nat) (src : Nat) (bs : List Byte) (exempt : Bool) {s : State} (h_acc : Part.acc ∈ P) (hk : Agree P s0 s) :
    Agree P s0 (sigAdd n c p src bs exempt s) := by
  unfold sigAdd
  try dsimp only
  all_goals (with_reducible repeat' first | assumption | rfl | apply agree_ite | apply agree_ite_st | apply agree_ite_snd | apply agree_acc | split | refine agree_snd ?_ (by assumption) | refine agree_snd2 ?_ (by assumption) | refine agree_st ?_ (by assumption) | refine agree_get ?_ (by assumption) | refine agree_get2 ?_ (by assumption) | apply agree_with_acc)

end Sys2Proof.Machine
end

