-- ==== Sys2Proof/Laws/AgreeLanes.lean ====
section
/-! SUPPORT. What the operations of Machine/Lanes leave alone (Laws/Agree). -/

namespace Sys2Proof.Machine

theorem agree_State_setLane {P : List Part} {s0 : State} {s : State} (n : Nat) (l : LaneSt) (h_lns : Part.lns ∈ P) (h_regs : Part.regs ∈ P) (hk : Agree P s0 s) :
    Agree P s0 (State.setLane s n l) := by
  unfold State.setLane
  try dsimp only
  all_goals (with_reducible repeat' first | assumption | rfl | apply agree_wf | split | refine agree_snd ?_ (by assumption) | refine agree_snd2 ?_ (by assumption) | refine agree_st ?_ (by assumption) | refine agree_get ?_ (by assumption) | refine agree_get2 ?_ (by assumption) | apply agree_with_lns)

theorem agree_ckCommit {P : List Part} {s0 : State} (n : Nat) {s : State} (h_frm : Part.frm ∈ P) (h_regs : Part.regs ∈ P) (hk : Agree P s0 s) :
    Agree P s0 (ckCommit n s) := by
  unfold ckCommit
  try dsimp only
  all_goals (with_reducible repeat' first | assumption | rfl | apply agree_wf | split | refine agree_snd ?_ (by assumption) | refine agree_snd2 ?_ (by assumption) | refine agree_st ?_ (by assumption) | refine agree_get ?_ (by assumption) | refine agree_get2 ?_ (by assumption) | apply agree_with_frm)

theorem agree_ckCommitIfQuiet {P : List Part} {s0 : State} (n : Nat) {s : State} (h_frm : Part.frm ∈ P) (h_regs : Part.regs ∈ P) (hk : Agree P s0 s) :
    Agree P s0 (ckCommitIfQuiet n s) := by
  unfold ckCommitIfQuiet
  try dsimp only
  all_goals (with_reducible repeat' first | assumption | rfl | apply agree_ite | apply agree_ite_st | apply agree_ite_snd | apply agree_ckCommit)

theorem agree_ckLoadPreset {P : List Part} {s0 : State} (n : Nat) {s : State} (h_regs : Part.regs ∈ P) (hk : Agree P s0 s) :
    Agree P s0 (ckLoadPreset n s) := by
  unfold ckLoadPreset
  try dsimp only
  all_goals (with_reducible repeat' first | assumption | rfl | apply agree_setReg64 | apply agree_wf)

theorem agree_nextSeq {P : List Part} {s0 : State} (p : Nat) (cls : Nat) {s : State} (h_frm : Part.frm ∈ P) (hk : Agree P s0 s) :
    Agree P s0 (nextSeq p cls s).2 := by
  unfold nextSeq
  try dsimp only
  all_goals (with_reducible repeat' first | assumption | rfl | split | refine agree_snd ?_ (by assumption) | refine agree_snd2 ?_ (by assumption) | refine agree_st ?_ (by assumption) | refine agree_get ?_ (by assumption) | refine agree_get2 ?_ (by assumption) | apply agree_with_frm)

theorem agree_putOnLane {P : List Part} {s0 : State} (n : Nat) (f : Frame) {s : State} (h_out : Part.out ∈ P) (h_regs : Part.regs ∈ P) (hk : Agree P s0 s) :
    Agree P s0 (putOnLane n f s) := by
  unfold putOnLane
  try dsimp only
  all_goals (with_reducible repeat' first | assumption | rfl | apply agree_emit | apply agree_inc)

theorem agree_sendLanes {P : List Part} {s0 : State} (ls : List Nat) (f : Frame) {s : State} (h_frm : Part.frm ∈ P) (h_out : Part.out ∈ P) (h_regs : Part.regs ∈ P) (hk : Agree P s0 s) :
    Agree P s0 (sendLanes ls f s) := by
  unfold sendLanes
  try dsimp only
  all_goals (with_reducible repeat' first | assumption | rfl | apply agree_putOnLane | split | refine agree_snd ?_ (by assumption) | refine agree_snd2 ?_ (by assumption) | refine agree_st ?_ (by assumption) | refine agree_get ?_ (by assumption) | refine agree_get2 ?_ (by assumption) | apply agree_with_frm)

theorem agree_flushWaiting {P : List Part} {s0 : State} (n : Nat) {s : State} (h_frm : Part.frm ∈ P) (h_out : Part.out ∈ P) (h_regs : Part.regs ∈ P) (hk : Agree P s0 s) :
    Agree P s0 (flushWaiting n s) := by
  unfold flushWaiting
  try dsimp only
  all_goals (with_reducible repeat' first | assumption | rfl | apply agree_foldS | apply agree_putOnLane | (intro _ _ _) | (intro _ _) | split | refine agree_snd ?_ (by assumption) | refine agree_snd2 ?_ (by assumption) | refine agree_st ?_ (by assumption) | refine agree_get ?_ (by assumption) | refine agree_get2 ?_ (by assumption) | apply agree_with_frm)

theorem agree_fixGen {P : List Part} {s0 : State} (n : Nat) {s : State} (h_hlt : Part.hlt ∈ P) (h_lns : Part.lns ∈ P) (h_out : Part.out ∈ P) (h_regs : Part.regs ∈ P) (hk : Agree P s0 s) :
    Agree P s0 (fixGen n s) := by
  unfold fixGen
  try dsimp only
  all_goals (with_reducible repeat' first | assumption | rfl | apply agree_State_setLane | apply agree_raise | split)

theorem agree_freshFlows {P : List Part} {s0 : State} (k : Nat) {s : State} (h_frm : Part.frm ∈ P) (hk : Agree P s0 s) :
    Agree P s0 (freshFlows k s) := by
  unfold freshFlows
  try dsimp only
  all_goals (with_reducible repeat' first | assumption | rfl | apply agree_ite | apply agree_ite_st | apply agree_ite_snd | (intro _ _ _) | (intro _ _) | split | refine agree_snd ?_ (by assumption) | refine agree_snd2 ?_ (by assumption) | refine agree_st ?_ (by assumption) | refine agree_get ?_ (by assumption) | refine agree_get2 ?_ (by assumption) | apply agree_with_frm)

theorem agree_enterActive {P : List Part} {s0 : State} (n : Nat) {s : State} (h_frm : Part.frm ∈ P) (h_hlt : Part.hlt ∈ P) (h_lns : Part.lns ∈ P) (h_out : Part.out ∈ P) (h_regs : Part.regs ∈ P) (hk : Agree P s0 s) :
    Agree P s0 (enterActive n s) := by
  unfold enterActive
  try dsimp only
  all_goals (with_reducible repeat' first | assumption | rfl | apply agree_State_setLane | apply agree_fixGen | apply agree_flushWaiting | apply agree_freshFlows | apply agree_wf)

theorem agree_startTraining {P : List Part} {s0 : State} (n : Nat) {s : State} (h_frm : Part.frm ∈ P) (h_lns : Part.lns ∈ P) (h_regs : Part.regs ∈ P) (hk : Agree P s0 s) :
    Agree P s0 (startTraining n s) := by
  unfold startTraining
  try dsimp only
  all_goals (with_reducible repeat' first | assumption | rfl | apply agree_State_setLane | apply agree_ckCommitIfQuiet | apply agree_wf)

theorem agree_disableLane {P : List Part} {s0 : State} (n : Nat) {s : State} (h_lns : Part.lns ∈ P) (h_regs : Part.regs ∈ P) (hk : Agree P s0 s) :
    Agree P s0 (disableLane n s) := by
  unfold disableLane
  try dsimp only
  all_goals (with_reducible repeat' first | assumption | rfl | apply agree_State_setLane | apply agree_wf)

theorem agree_idleEnter {P : List Part} {s0 : State} (n : Nat) (inProgress : Bool) (auto : Bool) {s : State} (h_lns : Part.lns ∈ P) (h_out : Part.out ∈ P) (h_regs : Part.regs ∈ P) (hk : Agree P s0 s) :
    Agree P s0 (idleEnter n inProgress auto s) := by
  unfold idleEnter
  try dsimp only
  all_goals (with_reducible repeat' first | assumption | rfl | apply agree_ite | apply agree_ite_st | apply agree_ite_snd | apply agree_State_setLane | apply agree_emit)

theorem agree_idleEntryDone {P : List Part} {s0 : State} (n : Nat) {s : State} (h_lns : Part.lns ∈ P) (h_out : Part.out ∈ P) (h_regs : Part.regs ∈ P) (hk : Agree P s0 s) :
    Agree P s0 (idleEntryDone n s) := by
  unfold idleEntryDone
  try dsimp only
  all_goals (with_reducible repeat' first | assumption | rfl | apply agree_ite | apply agree_ite_st | apply agree_ite_snd | apply agree_State_setLane | apply agree_emit)

theorem agree_sendLinkInfo {P : List Part} {s0 : State} (n : Nat) {s : State} (h_lns : Part.lns ∈ P) (h_out : Part.out ∈ P) (h_regs : Part.regs ∈ P) (hk : Agree P s0 s) :
    Agree P s0 (sendLinkInfo n s) := by
  unfold sendLinkInfo
  try dsimp only
  all_goals (with_reducible repeat' first | assumption | rfl | apply agree_State_setLane | apply agree_emit)

theorem agree_idleExit {P : List Part} {s0 : State} (n : Nat) {s : State} (h_frm : Part.frm ∈ P) (h_lns : Part.lns ∈ P) (h_out : Part.out ∈ P) (h_regs : Part.regs ∈ P) (hk : Agree P s0 s) :
    Agree P s0 (idleExit n s) := by
  unfold idleExit
  try dsimp only
  all_goals (with_reducible repeat' first | assumption | rfl | apply agree_ite | apply agree_ite_st | apply agree_ite_snd | apply agree_State_setLane | apply agree_ckCommitIfQuiet | apply agree_emit | apply agree_flushWaiting | apply agree_inc | apply agree_sendLinkInfo)

theorem agree_idleExitRequest {P : List Part} {s0 : State} (n : Nat) (firstSleepSent : Bool) {s : State} (h_frm : Part.frm ∈ P) (h_lns : Part.lns ∈ P) (h_out : Part.out ∈ P) (h_regs : Part.regs ∈ P) (hk : Agree P s0 s) :
    Agree P s0 (idleExitRequest n firstSleepSent s) := by
  unfold idleExitRequest
  try dsimp only
  all_goals (with_reducible repeat' first | assumption | rfl | apply agree_ite | apply agree_ite_st | apply agree_ite_snd | apply agree_State_setLane | apply agree_idleEntryDone | apply agree_idleExit)

theorem agree_checkEye {P : List Part} {s0 : State} (n : Nat) {s : State} (h_hlt : Part.hlt ∈ P) (h_out : Part.out ∈ P) (h_regs : Part.regs ∈ P) (hk : Agree P s0 s) :
    Agree P s0 (checkEye n s) := by
  unfold checkEye
  try dsimp only
  all_goals (with_reducible repeat' first | assumption | rfl | apply agree_ite | apply agree_ite_st | apply agree_ite_snd | apply agree_raise)

theorem agree_portDrop {P : List Part} {s0 : State} (p : Nat) (n : Nat) {s : State} (h_hlt : Part.hlt ∈ P) (h_out : Part.out ∈ P) (h_regs : Part.regs ∈ P) (hk : Agree P s0 s) :
    Agree P s0 (portDrop p n s) := by
  unfold portDrop
  try dsimp only
  all_goals (with_reducible repeat' first | assumption | rfl | apply agree_inc | apply agree_raise)

theorem agree_sendPortFor {P : List Part} {s0 : State} (pl : Nat) (p : Nat) (f : Frame) {s : State} (h_frm : Part.frm ∈ P) (h_hlt : Part.hlt ∈ P) (h_out : Part.out ∈ P) (h_regs : Part.regs ∈ P) (hk : Agree P s0 s) :
    Agree P s0 (sendPortFor pl p f s) := by
  unfold sendPortFor
  try dsimp only
  all_goals (with_reducible repeat' first | assumption | rfl | apply agree_ite | apply agree_ite_st | apply agree_ite_snd | apply agree_emit | apply agree_inc | apply agree_nextSeq | apply agree_portDrop | (intro _ _ _) | (intro _ _) | split | refine agree_snd ?_ (by assumption) | refine agree_snd2 ?_ (by assumption) | refine agree_st ?_ (by assumption) | refine agree_get ?_ (by assumption) | refine agree_get2 ?_ (by assumption) | apply agree_with_frm)

theorem agree_sendPort {P : List Part} {s0 : State} (p : Nat) (f : Frame) {s : State} (h_frm : Part.frm ∈ P) (h_hlt : Part.hlt ∈ P) (h_out : Part.out ∈ P) (h_regs : Part.regs ∈ P) (hk : Agree P s0 s) :
    Agree P s0 (sendPort p f s) := by
  unfold sendPort
  try dsimp only
  all_goals (with_reducible repeat' first | assumption | rfl | apply agree_sendPortFor)

theorem agree_setRxBytes {P : List Part} {s0 : State} (k : Nat) (n : Nat) {s : State} (h_cad : Part.cad ∈ P) (h_hlt : Part.hlt ∈ P) (h_out : Part.out ∈ P) (h_regs : Part.regs ∈ P) (hk : Agree P s0 s) :
    Agree P s0 (setRxBytes k n s) := by
  unfold setRxBytes
  try dsimp only
  all_goals (with_reducible repeat' first | assumption | rfl | apply agree_ite | apply agree_ite_st | apply agree_ite_snd | apply agree_raise | apply agree_wf | split | refine agree_snd ?_ (by assumption) | refine agree_snd2 ?_ (by assumption) | refine agree_st ?_ (by assumption) | refine agree_get ?_ (by assumption) | refine agree_get2 ?_ (by assumption) | apply agree_with_cad)

theorem agree_rxRelease {P : List Part} {s0 : State} (k : Nat) (f : Frame) {s : State} (h_cad : Part.cad ∈ P) (h_hlt : Part.hlt ∈ P) (h_out : Part.out ∈ P) (h_regs : Part.regs ∈ P) (hk : Agree P s0 s) :
    Agree P s0 (rxRelease k f s) := by
  unfold rxRelease
  try dsimp only
  all_goals (with_reducible repeat' first | assumption | rfl | apply agree_setRxBytes)

theorem agree_State_setFlow {P : List Part} {s0 : State} {s : State} (k : Nat) (f : FlowSt) (h_frm : Part.frm ∈ P) (hk : Agree P s0 s) :
    Agree P s0 (State.setFlow s k f) := by
  unfold State.setFlow
  try dsimp only
  all_goals (with_reducible repeat' first | assumption | rfl | split | refine agree_snd ?_ (by assumption) | refine agree_snd2 ?_ (by assumption) | refine agree_st ?_ (by assumption) | refine agree_get ?_ (by assumption) | refine agree_get2 ?_ (by assumption) | apply agree_with_frm)

theorem agree_ckFail {P : List Part} {s0 : State} (n : Nat) {s : State} (h_frm : Part.frm ∈ P) (h_hlt : Part.hlt ∈ P) (h_out : Part.out ∈ P) (h_regs : Part.regs ∈ P) (hk : Agree P s0 s) :
    Agree P s0 (ckFail n s) := by
  unfold ckFail
  try dsimp only
  all_goals (with_reducible repeat' first | assumption | rfl | apply agree_ite | apply agree_ite_st | apply agree_ite_snd | apply agree_inc | apply agree_raise | split | refine agree_snd ?_ (by assumption) | refine agree_snd2 ?_ (by assumption) | refine agree_st ?_ (by assumption) | refine agree_get ?_ (by assumption) | refine agree_get2 ?_ (by assumption) | apply agree_with_frm)

theorem agree_ckGood {P : List Part} {s0 : State} (n : Nat) {s : State} (h_frm : Part.frm ∈ P) (hk : Agree P s0 s) :
    Agree P s0 (ckGood n s) := by
  unfold ckGood
  try dsimp only
  all_goals (with_reducible repeat' first | assumption | rfl | split | refine agree_snd ?_ (by assumption) | refine agree_snd2 ?_ (by assumption) | refine agree_st ?_ (by assumption) | refine agree_get ?_ (by assumption) | refine agree_get2 ?_ (by assumption) | apply agree_with_frm)

theorem agree_rxLane {P : List Part} {s0 : State} (n : Nat) (f : Frame) (chk : Nat) {s : State} (h_frm : Part.frm ∈ P) (h_hlt : Part.hlt ∈ P) (h_out : Part.out ∈ P) (h_regs : Part.regs ∈ P) (hk : Agree P s0 s) :
    Agree P s0 (rxLane n f chk s).2 := by
  unfold rxLane
  try dsimp only
  all_goals (with_reducible repeat' first | assumption | rfl | apply agree_ite | apply agree_ite_st | apply agree_ite_snd | apply agree_ckFail | apply agree_ckGood | apply agree_inc | split | refine agree_snd ?_ (by assumption) | refine agree_snd2 ?_ (by assumption) | refine agree_st ?_ (by assumption) | refine agree_get ?_ (by assumption) | refine agree_get2 ?_ (by assumption) | apply agree_with_frm)

theorem agree_queueVoids {P : List Part} {s0 : State} (first : Nat) (count : Nat) (index : Nat) (n : Nat) (timing : Bool) {s : State} (h_dec : Part.dec ∈ P) (hk : Agree P s0 s) :
    Agree P s0 (queueVoids first count index n timing s) := by
  unfold queueVoids
  try dsimp only
  all_goals (with_reducible repeat' first | assumption | rfl | apply agree_ite | apply agree_ite_st | apply agree_ite_snd | split | refine agree_snd ?_ (by assumption) | refine agree_snd2 ?_ (by assumption) | refine agree_st ?_ (by assumption) | refine agree_get ?_ (by assumption) | refine agree_get2 ?_ (by assumption) | apply agree_with_dec)

theorem agree_seqGap {P : List Part} {s0 : State} (k : Nat) (src : Nat) (g : Nat) {s : State} (h_hlt : Part.hlt ∈ P) (h_out : Part.out ∈ P) (h_regs : Part.regs ∈ P) (hk : Agree P s0 s) :
    Agree P s0 (seqGap k src g s) := by
  unfold seqGap
  try dsimp only
  all_goals (with_reducible repeat' first | assumption | rfl | apply agree_ite | apply agree_ite_st | apply agree_ite_snd | apply agree_inc | apply agree_raise)

theorem agree_ingressAccept {P : List Part} {s0 : State} (k : Nat) (n : Nat) (f : Frame) {s : State} (h_cad : Part.cad ∈ P) (h_dec : Part.dec ∈ P) (h_hlt : Part.hlt ∈ P) (h_out : Part.out ∈ P) (h_regs : Part.regs ∈ P) (hk : Agree P s0 s) :
    Agree P s0 (ingressAccept k n f s) := by
  unfold ingressAccept
  try dsimp only
  all_goals (with_reducible repeat' first | assumption | rfl | apply agree_ite | apply agree_ite_st | apply agree_ite_snd | apply agree_inc | apply agree_queueVoids | apply agree_raise | apply agree_setRxBytes | split | refine agree_snd ?_ (by assumption) | refine agree_snd2 ?_ (by assumption) | refine agree_st ?_ (by assumption) | refine agree_get ?_ (by assumption) | refine agree_get2 ?_ (by assumption) | apply agree_with_dec)

theorem agree_voidUpTo {P : List Part} {s0 : State} (fl : FlowSt) (upto : Nat) {s : State} (h_dec : Part.dec ∈ P) (hk : Agree P s0 s) :
    Agree P s0 (voidUpTo fl upto s) := by
  unfold voidUpTo
  try dsimp only
  all_goals (with_reducible repeat' first | assumption | rfl | apply agree_queueVoids)

theorem agree_ingressDeliver {P : List Part} {s0 : State} (k : Nat) (n : Nat) (f : Frame) {s : State} (h_cad : Part.cad ∈ P) (h_dec : Part.dec ∈ P) (h_frm : Part.frm ∈ P) (h_hlt : Part.hlt ∈ P) (h_out : Part.out ∈ P) (h_regs : Part.regs ∈ P) (hk : Agree P s0 s) :
    Agree P s0 (ingressDeliver k n f s) := by
  unfold ingressDeliver
  try dsimp only
  all_goals (with_reducible repeat' first | assumption | rfl | apply agree_ite | apply agree_ite_st | apply agree_ite_snd | apply agree_State_setFlow | apply agree_inc | apply agree_ingressAccept | apply agree_queueVoids | apply agree_seqGap | apply agree_voidUpTo | split)

theorem agree_drainHeld {P : List Part} {s0 : State} (k : Nat) (n : Nat) (key : Nat) (x0 : Nat) {x1 : State} (h_cad : Part.cad ∈ P) (h_dec : Part.dec ∈ P) (h_frm : Part.frm ∈ P) (h_hlt : Part.hlt ∈ P) (h_out : Part.out ∈ P) (h_regs : Part.regs ∈ P) (hk : Agree P s0 x1) :
    Agree P s0 (drainHeld k n key x0 x1) := by
  fun_induction drainHeld
  all_goals (with_reducible repeat' first | assumption | rfl | apply_assumption | apply agree_State_setFlow | apply agree_ingressDeliver)

theorem agree_ingressRx {P : List Part} {s0 : State} (n : Nat) (f : Frame) (chk : Nat) {s : State} (h_cad : Part.cad ∈ P) (h_dec : Part.dec ∈ P) (h_frm : Part.frm ∈ P) (h_hlt : Part.hlt ∈ P) (h_out : Part.out ∈ P) (h_regs : Part.regs ∈ P) (h_wm : Part.wm ∈ P) (hk : Agree P s0 s) :
    Agree P s0 (ingressRx n f chk s) := by
  unfold ingressRx
  try dsimp only
  all_goals (with_reducible repeat' first | assumption | rfl | apply agree_ite | apply agree_ite_st | apply agree_ite_snd | apply agree_State_setFlow | apply agree_drainHeld | apply agree_ingressDeliver | apply agree_queueVoids | apply agree_rxLane | apply agree_seqGap | (intro _ _ _) | (intro _ _) | split | refine agree_snd ?_ (by assumption) | refine agree_snd2 ?_ (by assumption) | refine agree_st ?_ (by assumption) | refine agree_get ?_ (by assumption) | refine agree_get2 ?_ (by assumption) | apply agree_with_wm)

theorem agree_reorderClose {P : List Part} {s0 : State} (k : Nat) (n : Nat) (key : Nat) (x0 : Nat) {x1 : State} (h_cad : Part.cad ∈ P) (h_dec : Part.dec ∈ P) (h_frm : Part.frm ∈ P) (h_hlt : Part.hlt ∈ P) (h_out : Part.out ∈ P) (h_regs : Part.regs ∈ P) (hk : Agree P s0 x1) :
    Agree P s0 (reorderClose k n key x0 x1) := by
  fun_induction reorderClose
  all_goals (with_reducible repeat' first | assumption | rfl | apply_assumption | apply agree_State_setFlow | apply agree_ingressDeliver)

theorem agree_execIngressFrameRx {P : List Part} {s0 : State} (lane : Fin 96) (f : Frame) (check : Nat) {s : State} (h_cad : Part.cad ∈ P) (h_dec : Part.dec ∈ P) (h_frm : Part.frm ∈ P) (h_hlt : Part.hlt ∈ P) (h_out : Part.out ∈ P) (h_regs : Part.regs ∈ P) (h_wm : Part.wm ∈ P) (hk : Agree P s0 s) :
    ∀ t, execIngressFrameRx lane f check s = .next t → Agree P s0 t := by
  intro t ht
  unfold execIngressFrameRx at ht
  try dsimp only at ht
  all_goals (repeat' first | (cases ht) | split at ht)
  all_goals (with_reducible repeat' first | assumption | rfl | apply agree_ite | apply agree_ite_st | apply agree_ite_snd | apply agree_ingressRx)

theorem agree_execIdleTimeout {P : List Part} {s0 : State} (lane : Fin 96) {s : State} (h_lns : Part.lns ∈ P) (h_out : Part.out ∈ P) (h_regs : Part.regs ∈ P) (hk : Agree P s0 s) :
    ∀ t, execIdleTimeout lane s = .next t → Agree P s0 t := by
  intro t ht
  unfold execIdleTimeout at ht
  try dsimp only at ht
  all_goals (repeat' first | (cases ht) | split at ht)
  all_goals (with_reducible repeat' first | assumption | rfl | apply agree_ite | apply agree_ite_st | apply agree_ite_snd | apply agree_idleEnter)

theorem agree_execAutoIdleExit {P : List Part} {s0 : State} (lane : Fin 96) (firstSleepSent : Bool) {s : State} (h_frm : Part.frm ∈ P) (h_lns : Part.lns ∈ P) (h_out : Part.out ∈ P) (h_regs : Part.regs ∈ P) (hk : Agree P s0 s) :
    ∀ t, execAutoIdleExit lane firstSleepSent s = .next t → Agree P s0 t := by
  intro t ht
  unfold execAutoIdleExit at ht
  try dsimp only at ht
  all_goals (repeat' first | (cases ht) | split at ht)
  all_goals (with_reducible repeat' first | assumption | rfl | apply agree_ite | apply agree_ite_st | apply agree_ite_snd | apply agree_idleExitRequest)

theorem agree_execRelockTimeout {P : List Part} {s0 : State} (lane : Fin 96) {s : State} (h_frm : Part.frm ∈ P) (h_hlt : Part.hlt ∈ P) (h_lns : Part.lns ∈ P) (h_out : Part.out ∈ P) (h_regs : Part.regs ∈ P) (hk : Agree P s0 s) :
    ∀ t, execRelockTimeout lane s = .next t → Agree P s0 t := by
  intro t ht
  unfold execRelockTimeout at ht
  try dsimp only at ht
  all_goals (repeat' first | (cases ht) | split at ht)
  all_goals (with_reducible repeat' first | assumption | rfl | apply agree_inc | apply agree_raise | apply agree_startTraining)

theorem agree_execBlockLockLoss {P : List Part} {s0 : State} (lane : Fin 96) {s : State} (h_regs : Part.regs ∈ P) (hk : Agree P s0 s) :
    ∀ t, execBlockLockLoss lane s = .next t → Agree P s0 t := by
  intro t ht
  unfold execBlockLockLoss at ht
  try dsimp only at ht
  all_goals (repeat' first | (cases ht) | split at ht)
  all_goals (with_reducible repeat' first | assumption | rfl | apply agree_wf)

theorem agree_execBlockLockRestored {P : List Part} {s0 : State} (lane : Fin 96) {s : State} (h_hlt : Part.hlt ∈ P) (h_out : Part.out ∈ P) (h_regs : Part.regs ∈ P) (hk : Agree P s0 s) :
    ∀ t, execBlockLockRestored lane s = .next t → Agree P s0 t := by
  intro t ht
  unfold execBlockLockRestored at ht
  try dsimp only at ht
  all_goals (repeat' first | (cases ht) | split at ht)
  all_goals (with_reducible repeat' first | assumption | rfl | apply agree_checkEye | apply agree_inc | apply agree_wf)

theorem agree_execRefLost {P : List Part} {s0 : State} (ref : Fin 2) {s : State} (h_hlt : Part.hlt ∈ P) (h_out : Part.out ∈ P) (h_regs : Part.regs ∈ P) (hk : Agree P s0 s) :
    ∀ t, execRefLost ref s = .next t → Agree P s0 t := by
  intro t ht
  unfold execRefLost at ht
  try dsimp only at ht
  all_goals (repeat' first | (cases ht) | split at ht)
  all_goals (with_reducible repeat' first | assumption | rfl | apply agree_raise | apply agree_setReg)

theorem agree_execLinkinfoTx {P : List Part} {s0 : State} (lane : Fin 96) {s : State} (h_lns : Part.lns ∈ P) (h_out : Part.out ∈ P) (h_regs : Part.regs ∈ P) (hk : Agree P s0 s) :
    ∀ t, execLinkinfoTx lane s = .next t → Agree P s0 t := by
  intro t ht
  unfold execLinkinfoTx at ht
  try dsimp only at ht
  all_goals (repeat' first | (cases ht) | split at ht)
  all_goals (with_reducible repeat' first | assumption | rfl | apply agree_ite | apply agree_ite_st | apply agree_ite_snd | apply agree_sendLinkInfo)

theorem agree_execSleepRx {P : List Part} {s0 : State} (lane : Fin 96) {s : State} (h_lns : Part.lns ∈ P) (h_regs : Part.regs ∈ P) (hk : Agree P s0 s) :
    ∀ t, execSleepRx lane s = .next t → Agree P s0 t := by
  intro t ht
  unfold execSleepRx at ht
  try dsimp only at ht
  all_goals (repeat' first | (cases ht) | split at ht)
  all_goals (with_reducible repeat' first | assumption | rfl | apply agree_ite | apply agree_ite_st | apply agree_ite_snd | apply agree_State_setLane)

theorem agree_execInvalidBlockRx {P : List Part} {s0 : State} (lane : Fin 96) {s : State} (h_regs : Part.regs ∈ P) (hk : Agree P s0 s) :
    ∀ t, execInvalidBlockRx lane s = .next t → Agree P s0 t := by
  intro t ht
  unfold execInvalidBlockRx at ht
  try dsimp only at ht
  all_goals (repeat' first | (cases ht) | split at ht)
  all_goals (with_reducible repeat' first | assumption | rfl | apply agree_inc)

theorem agree_execFecUncorr {P : List Part} {s0 : State} (lane : Fin 96) (corrected : Nat) {s : State} (h_hlt : Part.hlt ∈ P) (h_out : Part.out ∈ P) (h_regs : Part.regs ∈ P) (hk : Agree P s0 s) :
    ∀ t, execFecUncorr lane corrected s = .next t → Agree P s0 t := by
  intro t ht
  unfold execFecUncorr at ht
  try dsimp only at ht
  all_goals (repeat' first | (cases ht) | split at ht)
  all_goals (with_reducible repeat' first | assumption | rfl | apply agree_inc | apply agree_raise)

theorem agree_execCkPresetLoad {P : List Part} {s0 : State} (lane : Fin 96) {s : State} (h_regs : Part.regs ∈ P) (hk : Agree P s0 s) :
    ∀ t, execCkPresetLoad lane s = .next t → Agree P s0 t := by
  intro t ht
  unfold execCkPresetLoad at ht
  try dsimp only at ht
  all_goals (repeat' first | (cases ht) | split at ht)
  all_goals (with_reducible repeat' first | assumption | rfl | apply agree_ite | apply agree_ite_st | apply agree_ite_snd | apply agree_ckLoadPreset)

theorem agree_execEthFrameRx {P : List Part} {s0 : State} (port : Fin 8) (fcsGood : Bool) {s : State} (h_hlt : Part.hlt ∈ P) (h_out : Part.out ∈ P) (h_regs : Part.regs ∈ P) (hk : Agree P s0 s) :
    ∀ t, execEthFrameRx port fcsGood s = .next t → Agree P s0 t := by
  intro t ht
  unfold execEthFrameRx at ht
  try dsimp only at ht
  all_goals (repeat' first | (cases ht) | split at ht)
  all_goals (with_reducible repeat' first | assumption | rfl | apply agree_ite | apply agree_ite_st | apply agree_ite_snd | apply agree_inc | apply agree_raise)

end Sys2Proof.Machine
end

