-- ==== Sys2Proof/Laws/AgreeDec.lean ====
section
/-! SUPPORT. What the operations of Machine/Dec leave alone (Laws/Agree). -/

namespace Sys2Proof.Machine

theorem agree_State_setSlot {P : List Part} {s0 : State} {s : State} (j : Nat) (x : DecSlot) (h_dec : Part.dec ∈ P) (hk : Agree P s0 s) :
    Agree P s0 (State.setSlot s j x) := by
  unfold State.setSlot
  try dsimp only
  all_goals (with_reducible repeat' first | assumption | rfl | split | refine agree_snd ?_ (by assumption) | refine agree_snd2 ?_ (by assumption) | refine agree_st ?_ (by assumption) | refine agree_get ?_ (by assumption) | refine agree_get2 ?_ (by assumption) | apply agree_with_dec)

theorem agree_syncReset {P : List Part} {s0 : State} (j : Nat) (i : Nat) {s : State} (h_dec : Part.dec ∈ P) (h_regs : Part.regs ∈ P) (hk : Agree P s0 s) :
    Agree P s0 (syncReset j i s) := by
  unfold syncReset
  try dsimp only
  all_goals (with_reducible repeat' first | assumption | rfl | apply agree_ite | apply agree_ite_st | apply agree_ite_snd | apply agree_State_setSlot | apply agree_setReg | apply agree_wf)

theorem agree_slotOff {P : List Part} {s0 : State} (j : Nat) {s : State} (h_dec : Part.dec ∈ P) (h_regs : Part.regs ∈ P) (hk : Agree P s0 s) :
    Agree P s0 (slotOff j s) := by
  unfold slotOff
  try dsimp only
  all_goals (with_reducible repeat' first | assumption | rfl | apply agree_State_setSlot | apply agree_setReg)

theorem agree_emitFrame {P : List Part} {s0 : State} (j : Nat) {s : State} (h_chn : Part.chn ∈ P) (h_dec : Part.dec ∈ P) (h_regs : Part.regs ∈ P) (h_trp : Part.trp ∈ P) (hk : Agree P s0 s) :
    Agree P s0 (emitFrame j s) := by
  unfold emitFrame
  try dsimp only
  all_goals (with_reducible repeat' first | assumption | rfl | apply agree_ite | apply agree_ite_st | apply agree_ite_snd | apply agree_State_setSlot | apply agree_inc | apply agree_wf | split | refine agree_snd ?_ (by assumption) | refine agree_snd2 ?_ (by assumption) | refine agree_st ?_ (by assumption) | refine agree_get ?_ (by assumption) | refine agree_get2 ?_ (by assumption) | apply agree_with_chn | apply agree_with_trp)

theorem agree_decSample {P : List Part} {s0 : State} (j : Nat) (i : Nat) (v : Option (Int × Int)) {s : State} (h_chn : Part.chn ∈ P) (h_dec : Part.dec ∈ P) (h_hlt : Part.hlt ∈ P) (h_out : Part.out ∈ P) (h_regs : Part.regs ∈ P) (h_trp : Part.trp ∈ P) (hk : Agree P s0 s) :
    Agree P s0 (decSample j i v s) := by
  unfold decSample
  try dsimp only
  all_goals (with_reducible repeat' first | assumption | rfl | apply agree_ite | apply agree_ite_st | apply agree_ite_snd | apply agree_State_setSlot | apply agree_emitFrame | apply agree_inc | apply agree_raise | apply agree_slotOff | apply agree_syncReset | split)

theorem agree_decVoidRun {P : List Part} {s0 : State} (j : Nat) (x0 : Nat) (x1 : Nat) {x2 : State} (h_chn : Part.chn ∈ P) (h_dec : Part.dec ∈ P) (h_hlt : Part.hlt ∈ P) (h_out : Part.out ∈ P) (h_regs : Part.regs ∈ P) (h_trp : Part.trp ∈ P) (hk : Agree P s0 x2) :
    Agree P s0 (decVoidRun j x0 x1 x2) := by
  fun_induction decVoidRun
  all_goals (with_reducible repeat' first | assumption | rfl | apply_assumption | apply agree_decSample)

theorem agree_decRun {P : List Part} {s0 : State} (j : Nat) (f : Frame) (st : Nat) (x0 : Nat) (x1 : Nat) {x2 : State} (h_chn : Part.chn ∈ P) (h_dec : Part.dec ∈ P) (h_hlt : Part.hlt ∈ P) (h_out : Part.out ∈ P) (h_regs : Part.regs ∈ P) (h_trp : Part.trp ∈ P) (hk : Agree P s0 x2) :
    Agree P s0 (decRun j f st x0 x1 x2) := by
  fun_induction decRun
  all_goals (with_reducible repeat' first | assumption | rfl | apply_assumption | apply agree_decSample)

theorem agree_decCatchUp {P : List Part} {s0 : State} (j : Nat) (i : Nat) {s : State} (h_chn : Part.chn ∈ P) (h_dec : Part.dec ∈ P) (h_hlt : Part.hlt ∈ P) (h_out : Part.out ∈ P) (h_regs : Part.regs ∈ P) (h_trp : Part.trp ∈ P) (hk : Agree P s0 s) :
    Agree P s0 (decCatchUp j i s) := by
  unfold decCatchUp
  try dsimp only
  all_goals (with_reducible repeat' first | assumption | rfl | apply agree_ite | apply agree_ite_st | apply agree_ite_snd | apply agree_decVoidRun | split)

theorem agree_decApply {P : List Part} {s0 : State} (w : Waymark) (g : Nat) {s : State} (h_dec : Part.dec ∈ P) (hk : Agree P s0 s) :
    Agree P s0 (decApply w g s) := by
  unfold decApply
  try dsimp only
  all_goals (with_reducible repeat' first | assumption | rfl | apply agree_ite | apply agree_ite_st | apply agree_ite_snd | apply agree_State_setSlot | apply agree_foldS | (intro _ _ _) | (intro _ _) | split)

end Sys2Proof.Machine
end

