-- ==== Sys2Proof/Laws/AgreeMarks.lean ====
section
/-! SUPPORT. What the operations of Machine/Marks leave alone (Laws/Agree). -/

namespace Sys2Proof.Machine

theorem agree_setHeld {P : List Part} {s0 : State} (u : Nat) (l : List Waymark) {s : State} (h_wm : Part.wm ∈ P) (hk : Agree P s0 s) :
    Agree P s0 (setHeld u l s) := by
  unfold setHeld
  try dsimp only
  all_goals (with_reducible repeat' first | assumption | rfl | split | refine agree_snd ?_ (by assumption) | refine agree_snd2 ?_ (by assumption) | refine agree_st ?_ (by assumption) | refine agree_get ?_ (by assumption) | refine agree_get2 ?_ (by assumption) | apply agree_with_wm)

theorem agree_takeDue {P : List Part} {s0 : State} (u : Nat) (i : Nat) {s : State} (h_wm : Part.wm ∈ P) (hk : Agree P s0 s) :
    Agree P s0 (takeDue u i s).2 := by
  unfold takeDue
  try dsimp only
  all_goals (with_reducible repeat' first | assumption | rfl | apply agree_setHeld)

theorem agree_passMark {P : List Part} {s0 : State} (u : Nat) (w : Waymark) {s : State} (h_wm : Part.wm ∈ P) (hk : Agree P s0 s) :
    Agree P s0 (passMark u w s) := by
  unfold passMark
  try dsimp only
  all_goals (with_reducible repeat' first | assumption | rfl | (intro _ _ _) | (intro _ _) | split | refine agree_snd ?_ (by assumption) | refine agree_snd2 ?_ (by assumption) | refine agree_st ?_ (by assumption) | refine agree_get ?_ (by assumption) | refine agree_get2 ?_ (by assumption) | apply agree_with_wm)

theorem agree_ackMark {P : List Part} {s0 : State} (u : Nat) (w : Waymark) {s : State} (h_hlt : Part.hlt ∈ P) (h_regs : Part.regs ∈ P) (hk : Agree P s0 s) :
    Agree P s0 (ackMark u w s) := by
  unfold ackMark
  try dsimp only
  all_goals (with_reducible repeat' first | assumption | rfl | apply agree_ite | apply agree_ite_st | apply agree_ite_snd | apply agree_logOpen)

theorem agree_noteApplied {P : List Part} {s0 : State} (u : Nat) (w : Waymark) {s : State} (h_hlt : Part.hlt ∈ P) (h_regs : Part.regs ∈ P) (h_wm : Part.wm ∈ P) (hk : Agree P s0 s) :
    Agree P s0 (noteApplied u w s) := by
  unfold noteApplied
  try dsimp only
  all_goals (with_reducible repeat' first | assumption | rfl | apply agree_ackMark | split | refine agree_snd ?_ (by assumption) | refine agree_snd2 ?_ (by assumption) | refine agree_st ?_ (by assumption) | refine agree_get ?_ (by assumption) | refine agree_get2 ?_ (by assumption) | apply agree_with_wm)

theorem agree_applyDue {P : List Part} {s0 : State} (u : Nat) (i : Nat) (f : Waymark → State → State) {s : State} (hf : ∀ y0 t, Agree P s0 t → Agree P s0 (f y0 t)) (h_hlt : Part.hlt ∈ P) (h_regs : Part.regs ∈ P) (h_wm : Part.wm ∈ P) (hk : Agree P s0 s) :
    Agree P s0 (applyDue u i f s) := by
  unfold applyDue
  try dsimp only
  all_goals (with_reducible repeat' first | assumption | rfl | apply agree_ite | apply agree_ite_st | apply agree_ite_snd | apply agree_foldS | apply agree_noteApplied | apply agree_passMark | apply agree_takeDue | apply hf | (intro _ _ _))

theorem agree_genApply {P : List Part} {s0 : State} (w : Waymark) {s : State} (h_hlt : Part.hlt ∈ P) (h_out : Part.out ∈ P) (h_regs : Part.regs ∈ P) (h_tru : Part.tru ∈ P) (hk : Agree P s0 s) :
    Agree P s0 (genApply w s) := by
  unfold genApply
  try dsimp only
  all_goals (with_reducible repeat' first | assumption | rfl | apply agree_ite | apply agree_ite_st | apply agree_ite_snd | apply agree_foldS | apply agree_raise | apply agree_wf | (intro _ _ _) | (intro _ _) | split | refine agree_snd ?_ (by assumption) | refine agree_snd2 ?_ (by assumption) | refine agree_st ?_ (by assumption) | refine agree_get ?_ (by assumption) | refine agree_get2 ?_ (by assumption) | apply agree_with_tru)

theorem agree_decDue {P : List Part} {s0 : State} (i : Nat) {s : State} (h_dec : Part.dec ∈ P) (h_hlt : Part.hlt ∈ P) (h_out : Part.out ∈ P) (h_regs : Part.regs ∈ P) (h_tru : Part.tru ∈ P) (h_wm : Part.wm ∈ P) (hk : Agree P s0 s) :
    Agree P s0 (decDue i s) := by
  unfold decDue
  try dsimp only
  all_goals (with_reducible repeat' first | assumption | rfl | apply agree_ite | apply agree_ite_st | apply agree_ite_snd | apply agree_applyDue | apply agree_decApply | apply agree_genApply | (intro _ _ _))

theorem agree_execDecInputFrame {P : List Part} {s0 : State} {s : State} (h_cad : Part.cad ∈ P) (h_chn : Part.chn ∈ P) (h_dec : Part.dec ∈ P) (h_hlt : Part.hlt ∈ P) (h_out : Part.out ∈ P) (h_regs : Part.regs ∈ P) (h_trp : Part.trp ∈ P) (h_tru : Part.tru ∈ P) (h_wm : Part.wm ∈ P) (hk : Agree P s0 s) :
    ∀ t, execDecInputFrame s = .next t → Agree P s0 t := by
  intro t ht
  unfold execDecInputFrame at ht
  try dsimp only at ht
  all_goals (repeat' first | (cases ht) | split at ht)
  all_goals (with_reducible repeat' first | assumption | rfl | apply agree_ite | apply agree_ite_st | apply agree_ite_snd | apply agree_decCatchUp | apply agree_decDue | apply agree_decRun | apply agree_decVoidRun | apply agree_foldS | apply agree_rxRelease | (intro _ _ _) | (intro _ _) | split | refine agree_snd ?_ (by assumption) | refine agree_snd2 ?_ (by assumption) | refine agree_st ?_ (by assumption) | refine agree_get ?_ (by assumption) | refine agree_get2 ?_ (by assumption) | apply agree_with_dec | apply agree_with_wm)

theorem agree_execSyncReset {P : List Part} {s0 : State} (slot : Fin 256) {s : State} (h_dec : Part.dec ∈ P) (h_regs : Part.regs ∈ P) (hk : Agree P s0 s) :
    ∀ t, execSyncReset slot s = .next t → Agree P s0 t := by
  intro t ht
  unfold execSyncReset at ht
  try dsimp only at ht
  all_goals (repeat' first | (cases ht) | split at ht)
  all_goals (with_reducible repeat' first | assumption | rfl | apply agree_ite | apply agree_ite_st | apply agree_ite_snd | apply agree_syncReset | split)

theorem agree_execSlotDisable {P : List Part} {s0 : State} (slot : Fin 256) {s : State} (h_dec : Part.dec ∈ P) (h_regs : Part.regs ∈ P) (hk : Agree P s0 s) :
    ∀ t, execSlotDisable slot s = .next t → Agree P s0 t := by
  intro t ht
  unfold execSlotDisable at ht
  try dsimp only at ht
  all_goals (repeat' first | (cases ht) | split at ht)
  all_goals (with_reducible repeat' first | assumption | rfl | apply agree_ite | apply agree_ite_st | apply agree_ite_snd | apply agree_slotOff)

end Sys2Proof.Machine
end

