-- ==== Sys2Proof/Laws/AgreeCad.lean ====
section
/-! SUPPORT. What the operations of Machine/Cad leave alone (Laws/Agree). -/

namespace Sys2Proof.Machine

theorem agree_setPend {P : List Part} {s0 : State} (c : Nat) (r : Nat) (v : Nat) {s : State} (h_cad : Part.cad ∈ P) (h_regs : Part.regs ∈ P) (hk : Agree P s0 s) :
    Agree P s0 (setPend c r v s) := by
  unfold setPend
  try dsimp only
  all_goals (with_reducible repeat' first | assumption | rfl | apply agree_setReg | split | refine agree_snd ?_ (by assumption) | refine agree_snd2 ?_ (by assumption) | refine agree_st ?_ (by assumption) | refine agree_get ?_ (by assumption) | refine agree_get2 ?_ (by assumption) | apply agree_with_cad)

theorem agree_cadBudget {P : List Part} {s0 : State} (c : Nat) (r : Nat) (floor : Nat) (ceil : Nat) {s : State} (h_cad : Part.cad ∈ P) (h_regs : Part.regs ∈ P) (hk : Agree P s0 s) :
    Agree P s0 (cadBudget c r floor ceil s).2 := by
  unfold cadBudget
  try dsimp only
  all_goals (with_reducible repeat' first | assumption | rfl | apply agree_ite | apply agree_ite_st | apply agree_ite_snd | apply agree_setPend | apply agree_setReg)

theorem agree_refill {P : List Part} {s0 : State} (us : List Use) (lanes : Nat) (x : Nat × Nat) {s : State} (h_cad : Part.cad ∈ P) (hk : Agree P s0 s) :
    Agree P s0 (refill us lanes x s) := by
  unfold refill
  try dsimp only
  all_goals (with_reducible repeat' first | assumption | rfl | split | refine agree_snd ?_ (by assumption) | refine agree_snd2 ?_ (by assumption) | refine agree_st ?_ (by assumption) | refine agree_get ?_ (by assumption) | refine agree_get2 ?_ (by assumption) | apply agree_with_cad)

theorem agree_periodClass {P : List Part} {s0 : State} (us : List Use) (lanes : Nat) (c : Nat) {s : State} (h_cad : Part.cad ∈ P) (h_hlt : Part.hlt ∈ P) (h_out : Part.out ∈ P) (h_regs : Part.regs ∈ P) (hk : Agree P s0 s) :
    Agree P s0 (periodClass us lanes c s) := by
  unfold periodClass
  try dsimp only
  all_goals (with_reducible repeat' first | assumption | rfl | apply agree_ite | apply agree_ite_st | apply agree_ite_snd | apply agree_foldS | apply agree_inc | apply agree_raise | apply agree_setReg | (intro _ _ _) | (intro _ _) | split | refine agree_snd ?_ (by assumption) | refine agree_snd2 ?_ (by assumption) | refine agree_st ?_ (by assumption) | refine agree_get ?_ (by assumption) | refine agree_get2 ?_ (by assumption) | apply agree_with_cad)

theorem agree_periodHeadroom {P : List Part} {s0 : State} (count : Nat) {s : State} (h_cad : Part.cad ∈ P) (h_hlt : Part.hlt ∈ P) (h_out : Part.out ∈ P) (h_regs : Part.regs ∈ P) (hk : Agree P s0 s) :
    Agree P s0 (periodHeadroom count s) := by
  unfold periodHeadroom
  try dsimp only
  all_goals (with_reducible repeat' first | assumption | rfl | apply agree_ite | apply agree_ite_st | apply agree_ite_snd | apply agree_raise | apply agree_setReg | split | refine agree_snd ?_ (by assumption) | refine agree_snd2 ?_ (by assumption) | refine agree_st ?_ (by assumption) | refine agree_get ?_ (by assumption) | refine agree_get2 ?_ (by assumption) | apply agree_with_cad)

theorem agree_periodUtil {P : List Part} {s0 : State} (us : List Use) (count : Nat) (lanes : Nat) {s : State} (h_regs : Part.regs ∈ P) (hk : Agree P s0 s) :
    Agree P s0 (periodUtil us count lanes s) := by
  unfold periodUtil
  try dsimp only
  all_goals (with_reducible repeat' first | assumption | rfl | apply agree_ite | apply agree_ite_st | apply agree_ite_snd | apply agree_foldS | apply agree_setReg | (intro _ _ _))

theorem agree_cadPeriod {P : List Part} {s0 : State} (count : Nat) (us : List Use) {s : State} (h_cad : Part.cad ∈ P) (h_hlt : Part.hlt ∈ P) (h_out : Part.out ∈ P) (h_regs : Part.regs ∈ P) (hk : Agree P s0 s) :
    Agree P s0 (cadPeriod count us s) := by
  unfold cadPeriod
  try dsimp only
  all_goals (with_reducible repeat' first | assumption | rfl | apply agree_foldS | apply agree_periodClass | apply agree_periodHeadroom | apply agree_periodUtil | apply agree_refill | apply agree_setReg | apply agree_setReg64 | apply agree_wf | (intro _ _ _) | (intro _ _) | split | refine agree_snd ?_ (by assumption) | refine agree_snd2 ?_ (by assumption) | refine agree_st ?_ (by assumption) | refine agree_get ?_ (by assumption) | refine agree_get2 ?_ (by assumption) | apply agree_with_cad)

end Sys2Proof.Machine
end

