-- ==== Sys2Proof/Laws/AgreeChn.lean ====
section
/-! SUPPORT. What the operations of Machine/Chn leave alone (Laws/Agree). -/

namespace Sys2Proof.Machine

theorem agree_State_setCslot {P : List Part} {s0 : State} {s : State} (j : Nat) (x : ChnSlot) (h_chn : Part.chn ∈ P) (hk : Agree P s0 s) :
    Agree P s0 (State.setCslot s j x) := by
  unfold State.setCslot
  try dsimp only
  all_goals (with_reducible repeat' first | assumption | rfl | split | refine agree_snd ?_ (by assumption) | refine agree_snd2 ?_ (by assumption) | refine agree_st ?_ (by assumption) | refine agree_get ?_ (by assumption) | refine agree_get2 ?_ (by assumption) | apply agree_with_chn)

theorem agree_chnHalt {P : List Part} {s0 : State} {s : State} (h_chn : Part.chn ∈ P) (h_regs : Part.regs ∈ P) (hk : Agree P s0 s) :
    Agree P s0 (chnHalt s) := by
  unfold chnHalt
  try dsimp only
  all_goals (with_reducible repeat' first | assumption | rfl | apply agree_foldS | apply agree_wf | (intro _ _ _) | (intro _ _) | split | refine agree_snd ?_ (by assumption) | refine agree_snd2 ?_ (by assumption) | refine agree_st ?_ (by assumption) | refine agree_get ?_ (by assumption) | refine agree_get2 ?_ (by assumption) | apply agree_with_chn)

theorem agree_chnStop {P : List Part} {s0 : State} (now : Bool) {s : State} (h_chn : Part.chn ∈ P) (h_regs : Part.regs ∈ P) (hk : Agree P s0 s) :
    Agree P s0 (chnStop now s) := by
  unfold chnStop
  try dsimp only
  all_goals (with_reducible repeat' first | assumption | rfl | apply agree_ite | apply agree_ite_st | apply agree_ite_snd | apply agree_chnHalt | apply agree_wf | split | refine agree_snd ?_ (by assumption) | refine agree_snd2 ?_ (by assumption) | refine agree_st ?_ (by assumption) | refine agree_get ?_ (by assumption) | refine agree_get2 ?_ (by assumption) | apply agree_with_chn)

theorem agree_chnApply {P : List Part} {s0 : State} (w : Waymark) (g : Nat) {s : State} (h_chn : Part.chn ∈ P) (h_regs : Part.regs ∈ P) (hk : Agree P s0 s) :
    Agree P s0 (chnApply w g s) := by
  unfold chnApply
  try dsimp only
  all_goals (with_reducible repeat' first | assumption | rfl | apply agree_ite | apply agree_ite_st | apply agree_ite_snd | apply agree_wf | (intro _ _ _) | (intro _ _) | split | refine agree_snd ?_ (by assumption) | refine agree_snd2 ?_ (by assumption) | refine agree_st ?_ (by assumption) | refine agree_get ?_ (by assumption) | refine agree_get2 ?_ (by assumption) | apply agree_with_chn)

theorem agree_chnBegin {P : List Part} {s0 : State} (j : Nat) (b : Nat) (capped : Bool) {s : State} (h_chn : Part.chn ∈ P) (h_regs : Part.regs ∈ P) (hk : Agree P s0 s) :
    Agree P s0 (chnBegin j b capped s) := by
  unfold chnBegin
  try dsimp only
  all_goals (with_reducible repeat' first | assumption | rfl | apply agree_ite | apply agree_ite_st | apply agree_ite_snd | apply agree_State_setCslot | apply agree_wf)

theorem agree_chnJoin {P : List Part} {s0 : State} (j : Nat) (i : Nat) {s : State} (h_chn : Part.chn ∈ P) (h_hlt : Part.hlt ∈ P) (h_out : Part.out ∈ P) (h_regs : Part.regs ∈ P) (hk : Agree P s0 s) :
    Agree P s0 (chnJoin j i s) := by
  unfold chnJoin
  try dsimp only
  all_goals (with_reducible repeat' first | assumption | rfl | apply agree_chnBegin | apply agree_raise | split)

theorem agree_chnTake {P : List Part} {s0 : State} (t : TimeIn) {s : State} (h_chn : Part.chn ∈ P) (h_hlt : Part.hlt ∈ P) (h_out : Part.out ∈ P) (h_regs : Part.regs ∈ P) (hk : Agree P s0 s) :
    Agree P s0 (chnTake t s) := by
  unfold chnTake
  try dsimp only
  all_goals (with_reducible repeat' first | assumption | rfl | apply agree_ite | apply agree_ite_st | apply agree_ite_snd | apply agree_State_setCslot | apply agree_chnJoin)

theorem agree_chnFill {P : List Part} {s0 : State} (j : Nat) (x0 : Nat) {x1 : State} (h_chn : Part.chn ∈ P) (h_hlt : Part.hlt ∈ P) (h_out : Part.out ∈ P) (h_regs : Part.regs ∈ P) (hk : Agree P s0 x1) :
    Agree P s0 (chnFill j x0 x1) := by
  fun_induction chnFill <;> grind [agree_chnTake, agree_with_chn]

theorem agree_chnStats {P : List Part} {s0 : State} (j : Nat) (sp : Nat) (valid : Bool) (sat : Nat) (pow : Nat) {s : State} (h_chn : Part.chn ∈ P) (h_hlt : Part.hlt ∈ P) (h_out : Part.out ∈ P) (h_regs : Part.regs ∈ P) (hk : Agree P s0 s) :
    Agree P s0 (chnStats j sp valid sat pow s) := by
  unfold chnStats
  try dsimp only
  all_goals (with_reducible repeat' first | assumption | rfl | apply agree_ite | apply agree_ite_st | apply agree_ite_snd | apply agree_State_setCslot | apply agree_raise | apply agree_setReg | apply agree_setReg64 | apply agree_wf)

theorem agree_chnSpectrum {P : List Part} {s0 : State} (j : Nat) {s : State} (h_chn : Part.chn ∈ P) (h_grt : Part.grt ∈ P) (h_hlt : Part.hlt ∈ P) (h_out : Part.out ∈ P) (h_regs : Part.regs ∈ P) (h_wm : Part.wm ∈ P) (hk : Agree P s0 s) :
    Agree P s0 (chnSpectrum j s) := by
  unfold chnSpectrum
  try dsimp only
  all_goals (with_reducible repeat' first | assumption | rfl | apply agree_ite | apply agree_ite_st | apply agree_ite_snd | apply agree_State_setCslot | apply agree_applyDue | apply agree_chnApply | apply agree_chnStats | apply agree_inc | (intro _ _ _) | (intro _ _) | split | refine agree_snd ?_ (by assumption) | refine agree_snd2 ?_ (by assumption) | refine agree_st ?_ (by assumption) | refine agree_get ?_ (by assumption) | refine agree_get2 ?_ (by assumption) | apply agree_with_grt)

theorem agree_chnFinish {P : List Part} {s0 : State} (j : Nat) (x0 : Nat) {x1 : State} (h_chn : Part.chn ∈ P) (h_grt : Part.grt ∈ P) (h_hlt : Part.hlt ∈ P) (h_out : Part.out ∈ P) (h_regs : Part.regs ∈ P) (h_wm : Part.wm ∈ P) (hk : Agree P s0 x1) :
    Agree P s0 (chnFinish j x0 x1) := by
  fun_induction chnFinish <;> grind [agree_chnFill, agree_chnSpectrum]

theorem agree_execChnStreamBegin {P : List Part} {s0 : State} (slot : Fin 256) {s : State} (h_chn : Part.chn ∈ P) (h_regs : Part.regs ∈ P) (hk : Agree P s0 s) :
    ∀ t, execChnStreamBegin slot s = .next t → Agree P s0 t := by
  intro t ht
  unfold execChnStreamBegin at ht
  try dsimp only at ht
  all_goals (repeat' first | (cases ht) | split at ht)
  all_goals (with_reducible repeat' first | assumption | rfl | apply agree_ite | apply agree_ite_st | apply agree_ite_snd | apply agree_chnBegin)

theorem agree_execChnStopCommit {P : List Part} {s0 : State} {s : State} (h_chn : Part.chn ∈ P) (h_grt : Part.grt ∈ P) (h_hlt : Part.hlt ∈ P) (h_out : Part.out ∈ P) (h_regs : Part.regs ∈ P) (h_wm : Part.wm ∈ P) (hk : Agree P s0 s) :
    ∀ t, execChnStopCommit s = .next t → Agree P s0 t := by
  intro t ht
  unfold execChnStopCommit at ht
  grind [agree_chnFinish, agree_chnHalt, agree_foldS, agree_wf]

theorem agree_execChnSpectrum {P : List Part} {s0 : State} (slot : Fin 256) {s : State} (h_chn : Part.chn ∈ P) (h_grt : Part.grt ∈ P) (h_hlt : Part.hlt ∈ P) (h_out : Part.out ∈ P) (h_regs : Part.regs ∈ P) (h_wm : Part.wm ∈ P) (hk : Agree P s0 s) :
    ∀ t, execChnSpectrum slot s = .next t → Agree P s0 t := by
  intro t ht
  unfold execChnSpectrum at ht
  grind [agree_chnFill, agree_chnHalt, agree_chnSpectrum]

end Sys2Proof.Machine
end

