-- ==== Sys2Proof/Laws/AgreeHbm.lean ====
section
/-! SUPPORT. What the operations of Machine/Hbm leave alone (Laws/Agree). -/

namespace Sys2Proof.Machine

theorem agree_pokeBytes {P : List Part} {s0 : State} (x0 : Nat) (x1 : List Byte) {x2 : State} (h_hbm : Part.hbm ∈ P) (hk : Agree P s0 x2) :
    Agree P s0 (pokeBytes x0 x1 x2) := by
  fun_induction pokeBytes
  all_goals (with_reducible repeat' first | assumption | rfl | apply_assumption | apply agree_setHbmByte)

theorem agree_setEcc {P : List Part} {s0 : State} (a : Nat) (m : Nat) {s : State} (h_mem : Part.mem ∈ P) (hk : Agree P s0 s) :
    Agree P s0 (setEcc a m s) := by
  unfold setEcc
  try dsimp only
  all_goals (with_reducible repeat' first | assumption | rfl | split | refine agree_snd ?_ (by assumption) | refine agree_snd2 ?_ (by assumption) | refine agree_st ?_ (by assumption) | refine agree_get ?_ (by assumption) | refine agree_get2 ?_ (by assumption) | apply agree_with_mem)

theorem agree_logUe {P : List Part} {s0 : State} (e : UeEnt) {s : State} (h_mem : Part.mem ∈ P) (h_regs : Part.regs ∈ P) (hk : Agree P s0 s) :
    Agree P s0 (logUe e s) := by
  unfold logUe
  try dsimp only
  all_goals (with_reducible repeat' first | assumption | rfl | apply agree_ite | apply agree_ite_st | apply agree_ite_snd | apply agree_wf | (intro _ _ _) | (intro _ _) | split | refine agree_snd ?_ (by assumption) | refine agree_snd2 ?_ (by assumption) | refine agree_st ?_ (by assumption) | refine agree_get ?_ (by assumption) | refine agree_get2 ?_ (by assumption) | apply agree_with_mem)

theorem agree_countUe {P : List Part} {s0 : State} (port : Nat) (source : Nat) (a : Nat) {s : State} (h_hlt : Part.hlt ∈ P) (h_mem : Part.mem ∈ P) (h_out : Part.out ∈ P) (h_regs : Part.regs ∈ P) (hk : Agree P s0 s) :
    Agree P s0 (countUe port source a s) := by
  unfold countUe
  try dsimp only
  all_goals (with_reducible repeat' first | assumption | rfl | apply agree_inc | apply agree_logUe | apply agree_raise)

theorem agree_countCe {P : List Part} {s0 : State} (a : Nat) {s : State} (h_mem : Part.mem ∈ P) (h_regs : Part.regs ∈ P) (hk : Agree P s0 s) :
    Agree P s0 (countCe a s) := by
  unfold countCe
  try dsimp only
  all_goals (with_reducible repeat' first | assumption | rfl | apply agree_inc | apply agree_setEcc | split | refine agree_snd ?_ (by assumption) | refine agree_snd2 ?_ (by assumption) | refine agree_st ?_ (by assumption) | refine agree_get ?_ (by assumption) | refine agree_get2 ?_ (by assumption) | apply agree_with_mem)

theorem agree_touchStack {P : List Part} {s0 : State} (port : Nat) (a : Nat) {s : State} (h_hlt : Part.hlt ∈ P) (h_out : Part.out ∈ P) (h_regs : Part.regs ∈ P) (hk : Agree P s0 s) :
    Agree P s0 (touchStack port a s) := by
  unfold touchStack
  try dsimp only
  all_goals (with_reducible repeat' first | assumption | rfl | apply agree_ite | apply agree_ite_st | apply agree_ite_snd | apply agree_inc | apply agree_raise | apply agree_setReg | apply agree_wf | split)

theorem agree_readUnit {P : List Part} {s0 : State} (port : Nat) (a : Nat) (n : Nat) {s : State} (h_hlt : Part.hlt ∈ P) (h_mem : Part.mem ∈ P) (h_out : Part.out ∈ P) (h_regs : Part.regs ∈ P) (hk : Agree P s0 s) :
    Agree P s0 (readUnit port a n s).2 := by
  unfold readUnit
  try dsimp only
  all_goals (with_reducible repeat' first | assumption | rfl | apply agree_ite | apply agree_ite_st | apply agree_ite_snd | apply agree_countCe | apply agree_countUe | apply agree_touchStack | split)

theorem agree_writeUnit {P : List Part} {s0 : State} (port : Nat) (a : Nat) (bs : List Byte) {s : State} (h_hbm : Part.hbm ∈ P) (h_hlt : Part.hlt ∈ P) (h_mem : Part.mem ∈ P) (h_out : Part.out ∈ P) (h_regs : Part.regs ∈ P) (hk : Agree P s0 s) :
    Agree P s0 (writeUnit port a bs s).2 := by
  unfold writeUnit
  try dsimp only
  all_goals (with_reducible repeat' first | assumption | rfl | apply agree_ite | apply agree_ite_st | apply agree_ite_snd | apply agree_countCe | apply agree_countUe | apply agree_pokeBytes | apply agree_setEcc | apply agree_touchStack | split)

theorem agree_hbmRead {P : List Part} {s0 : State} (port : Nat) (x0 : Nat) (x1 : Nat) (x2 : Nat) {x3 : State} (h_hlt : Part.hlt ∈ P) (h_mem : Part.mem ∈ P) (h_out : Part.out ∈ P) (h_regs : Part.regs ∈ P) (hk : Agree P s0 x3) :
    Agree P s0 (hbmRead port x0 x1 x2 x3).2 := by
  fun_induction hbmRead <;> grind [agree_readUnit]

theorem agree_hbmGet {P : List Part} {s0 : State} (port : Nat) (a : Nat) (n : Nat) {s : State} (h_hlt : Part.hlt ∈ P) (h_mem : Part.mem ∈ P) (h_out : Part.out ∈ P) (h_regs : Part.regs ∈ P) (hk : Agree P s0 s) :
    Agree P s0 (hbmGet port a n s).2 := by
  unfold hbmGet
  grind [agree_hbmRead]

theorem agree_hbmWrite {P : List Part} {s0 : State} (port : Nat) (x0 : Nat) (x1 : Nat) (x2 : List Byte) {x3 : State} (h_hbm : Part.hbm ∈ P) (h_hlt : Part.hlt ∈ P) (h_mem : Part.mem ∈ P) (h_out : Part.out ∈ P) (h_regs : Part.regs ∈ P) (hk : Agree P s0 x3) :
    Agree P s0 (hbmWrite port x0 x1 x2 x3).2 := by
  fun_induction hbmWrite <;> grind [agree_writeUnit]

theorem agree_hbmPut {P : List Part} {s0 : State} (port : Nat) (a : Nat) (bs : List Byte) {s : State} (h_hbm : Part.hbm ∈ P) (h_hlt : Part.hlt ∈ P) (h_mem : Part.mem ∈ P) (h_out : Part.out ∈ P) (h_regs : Part.regs ∈ P) (hk : Agree P s0 s) :
    Agree P s0 (hbmPut port a bs s).2 := by
  unfold hbmPut
  grind [agree_hbmWrite]

end Sys2Proof.Machine
end

