-- ==== Sys2Proof/Laws/AgreeTrp.lean ====
section
/-! SUPPORT. What the operations of Machine/Trp leave alone (Laws/Agree). -/

namespace Sys2Proof.Machine

theorem agree_State_setTbeam {P : List Part} {s0 : State} {s : State} (b : Nat) (x : BeamSt) (h_regs : Part.regs ∈ P) (h_trp : Part.trp ∈ P) (hk : Agree P s0 s) :
    Agree P s0 (State.setTbeam s b x) := by
  unfold State.setTbeam
  try dsimp only
  all_goals (with_reducible repeat' first | assumption | rfl | apply agree_setReg64 | split | refine agree_snd ?_ (by assumption) | refine agree_snd2 ?_ (by assumption) | refine agree_st ?_ (by assumption) | refine agree_get ?_ (by assumption) | refine agree_get2 ?_ (by assumption) | apply agree_with_trp)

theorem agree_State_setTrule {P : List Part} {s0 : State} {s : State} (r : Nat) (x : RuleSt) (h_trp : Part.trp ∈ P) (hk : Agree P s0 s) :
    Agree P s0 (State.setTrule s r x) := by
  unfold State.setTrule
  try dsimp only
  all_goals (with_reducible repeat' first | assumption | rfl | split | refine agree_snd ?_ (by assumption) | refine agree_snd2 ?_ (by assumption) | refine agree_st ?_ (by assumption) | refine agree_get ?_ (by assumption) | refine agree_get2 ?_ (by assumption) | apply agree_with_trp)

theorem agree_State_setCap {P : List Part} {s0 : State} {s : State} (e : Nat) (x : CapSt) (h_regs : Part.regs ∈ P) (h_trp : Part.trp ∈ P) (hk : Agree P s0 s) :
    Agree P s0 (State.setCap s e x) := by
  unfold State.setCap
  try dsimp only
  all_goals (with_reducible repeat' first | assumption | rfl | apply agree_ite | apply agree_ite_st | apply agree_ite_snd | apply agree_setReg | apply agree_setReg64 | split | refine agree_snd ?_ (by assumption) | refine agree_snd2 ?_ (by assumption) | refine agree_st ?_ (by assumption) | refine agree_get ?_ (by assumption) | refine agree_get2 ?_ (by assumption) | apply agree_with_trp)

theorem agree_trpDerive {P : List Part} {s0 : State} (i : Nat) (b : Nat) {s : State} (h_hlt : Part.hlt ∈ P) (h_out : Part.out ∈ P) (h_regs : Part.regs ∈ P) (h_trp : Part.trp ∈ P) (hk : Agree P s0 s) :
    Agree P s0 (trpDerive i b s) := by
  unfold trpDerive
  try dsimp only
  all_goals (with_reducible repeat' first | assumption | rfl | apply agree_inc | apply agree_raise | (intro _ _ _) | (intro _ _) | split | refine agree_snd ?_ (by assumption) | refine agree_snd2 ?_ (by assumption) | refine agree_st ?_ (by assumption) | refine agree_get ?_ (by assumption) | refine agree_get2 ?_ (by assumption) | apply agree_with_trp)

theorem agree_trpDirRecord {P : List Part} {s0 : State} (b : Nat) (ws : List Nat) {s : State} (h_hlt : Part.hlt ∈ P) (h_out : Part.out ∈ P) (h_regs : Part.regs ∈ P) (h_trp : Part.trp ∈ P) (hk : Agree P s0 s) :
    Agree P s0 (trpDirRecord b ws s) := by
  unfold trpDirRecord
  try dsimp only
  all_goals (with_reducible repeat' first | assumption | rfl | apply agree_ite | apply agree_ite_st | apply agree_ite_snd | apply agree_foldS | apply agree_setReg | apply agree_trpDerive | (intro _ _ _))

theorem agree_setPin {P : List Part} {s0 : State} (n : Nat) (on : Bool) {s : State} (h_out : Part.out ∈ P) (h_trp : Part.trp ∈ P) (hk : Agree P s0 s) :
    Agree P s0 (setPin n on s) := by
  unfold setPin
  try dsimp only
  all_goals (with_reducible repeat' first | assumption | rfl | apply agree_ite | apply agree_ite_st | apply agree_ite_snd | apply agree_emit | split | refine agree_snd ?_ (by assumption) | refine agree_snd2 ?_ (by assumption) | refine agree_st ?_ (by assumption) | refine agree_get ?_ (by assumption) | refine agree_get2 ?_ (by assumption) | apply agree_with_trp)

theorem agree_pinsRest {P : List Part} {s0 : State} {s : State} (h_out : Part.out ∈ P) (h_trp : Part.trp ∈ P) (hk : Agree P s0 s) :
    Agree P s0 (pinsRest s) := by
  unfold pinsRest
  try dsimp only
  all_goals (with_reducible repeat' first | assumption | rfl | apply agree_foldS | apply agree_setPin | (intro _ _ _))

theorem agree_trpCommit {P : List Part} {s0 : State} {s : State} (h_trp : Part.trp ∈ P) (hk : Agree P s0 s) :
    Agree P s0 (trpCommit s) := by
  unfold trpCommit
  try dsimp only
  all_goals (with_reducible repeat' first | assumption | rfl | apply agree_ite | apply agree_ite_st | apply agree_ite_snd | apply agree_State_setTrule | apply agree_foldS | (intro _ _ _) | (intro _ _) | split | refine agree_snd ?_ (by assumption) | refine agree_snd2 ?_ (by assumption) | refine agree_st ?_ (by assumption) | refine agree_get ?_ (by assumption) | refine agree_get2 ?_ (by assumption) | apply agree_with_trp)

theorem agree_trpCapture {P : List Part} {s0 : State} (r : Nat) (e : Nat) (ws : List Nat) {s : State} (h_hlt : Part.hlt ∈ P) (h_out : Part.out ∈ P) (h_regs : Part.regs ∈ P) (h_trp : Part.trp ∈ P) (hk : Agree P s0 s) :
    Agree P s0 (trpCapture r e ws s).2 := by
  unfold trpCapture
  try dsimp only
  all_goals (with_reducible repeat' first | assumption | rfl | apply agree_ite | apply agree_ite_st | apply agree_ite_snd | apply agree_State_setCap | apply agree_raise | (intro _ _ _) | (intro _ _) | split)

theorem agree_trpDrain {P : List Part} {s0 : State} {s : State} (h_hlt : Part.hlt ∈ P) (h_out : Part.out ∈ P) (h_regs : Part.regs ∈ P) (h_trp : Part.trp ∈ P) (hk : Agree P s0 s) :
    Agree P s0 (trpDrain s) := by
  unfold trpDrain
  try dsimp only
  all_goals (with_reducible repeat' first | assumption | rfl | apply agree_ite | apply agree_ite_st | apply agree_ite_snd | apply agree_foldS | apply agree_raise | (intro _ _ _) | (intro _ _) | split | refine agree_snd ?_ (by assumption) | refine agree_snd2 ?_ (by assumption) | refine agree_st ?_ (by assumption) | refine agree_get ?_ (by assumption) | refine agree_get2 ?_ (by assumption) | apply agree_with_trp)

theorem agree_levelUpdate {P : List Part} {s0 : State} (b : Nat) (p : Nat) (e : Nat) {s : State} (h_hlt : Part.hlt ∈ P) (h_out : Part.out ∈ P) (h_regs : Part.regs ∈ P) (h_trp : Part.trp ∈ P) (hk : Agree P s0 s) :
    Agree P s0 (levelUpdate b p e s) := by
  unfold levelUpdate
  try dsimp only
  all_goals (with_reducible repeat' first | assumption | rfl | apply agree_ite | apply agree_ite_st | apply agree_ite_snd | apply agree_State_setTbeam | apply agree_raise)

theorem agree_trpFire {P : List Part} {s0 : State} (r : Nat) (beam : Nat) (ratio : Nat) (e : Nat) {s : State} (h_hlt : Part.hlt ∈ P) (h_out : Part.out ∈ P) (h_regs : Part.regs ∈ P) (h_trp : Part.trp ∈ P) (hk : Agree P s0 s) :
    Agree P s0 (trpFire r beam ratio e s) := by
  unfold trpFire
  try dsimp only
  all_goals (with_reducible repeat' first | assumption | rfl | apply agree_ite | apply agree_ite_st | apply agree_ite_snd | apply agree_foldS | apply agree_inc | apply agree_setPin | apply agree_trpCapture | (intro _ _ _) | (intro _ _) | split | refine agree_snd ?_ (by assumption) | refine agree_snd2 ?_ (by assumption) | refine agree_st ?_ (by assumption) | refine agree_get ?_ (by assumption) | refine agree_get2 ?_ (by assumption) | apply agree_with_trp)

theorem agree_trpRule {P : List Part} {s0 : State} (k : Nat) (e : Nat) (hit : Nat → Nat → Bool) (ratio : Nat → Nat) (r : Nat) {s : State} (h_hlt : Part.hlt ∈ P) (h_out : Part.out ∈ P) (h_regs : Part.regs ∈ P) (h_trp : Part.trp ∈ P) (hk : Agree P s0 s) :
    Agree P s0 (trpRule k e hit ratio r s) := by
  unfold trpRule
  try dsimp only
  all_goals (with_reducible repeat' first | assumption | rfl | apply agree_ite | apply agree_ite_st | apply agree_ite_snd | apply agree_State_setTrule | apply agree_trpFire | (intro _ _ _) | (intro _ _) | split)

theorem agree_trpMark {P : List Part} {s0 : State} (w : Waymark) {s : State} (h_regs : Part.regs ∈ P) (h_trp : Part.trp ∈ P) (hk : Agree P s0 s) :
    Agree P s0 (trpMark w s) := by
  unfold trpMark
  try dsimp only
  all_goals (with_reducible repeat' first | assumption | rfl | apply agree_ite | apply agree_ite_st | apply agree_ite_snd | apply agree_wf | (intro _ _ _) | (intro _ _) | split | refine agree_snd ?_ (by assumption) | refine agree_snd2 ?_ (by assumption) | refine agree_st ?_ (by assumption) | refine agree_get ?_ (by assumption) | refine agree_get2 ?_ (by assumption) | apply agree_with_trp)

theorem agree_trpTrim {P : List Part} {s0 : State} (lo : Nat) {s : State} (h_trp : Part.trp ∈ P) (hk : Agree P s0 s) :
    Agree P s0 (trpTrim lo s) := by
  unfold trpTrim
  try dsimp only
  all_goals (with_reducible repeat' first | assumption | rfl | (intro _ _ _) | (intro _ _) | split | refine agree_snd ?_ (by assumption) | refine agree_snd2 ?_ (by assumption) | refine agree_st ?_ (by assumption) | refine agree_get ?_ (by assumption) | refine agree_get2 ?_ (by assumption) | apply agree_with_trp)

theorem agree_trpWindow {P : List Part} {s0 : State} {s : State} (h_hlt : Part.hlt ∈ P) (h_out : Part.out ∈ P) (h_regs : Part.regs ∈ P) (h_trp : Part.trp ∈ P) (h_wm : Part.wm ∈ P) (hk : Agree P s0 s) :
    Agree P s0 (trpWindow s) := by
  unfold trpWindow
  try dsimp only
  all_goals (with_reducible repeat' first | assumption | rfl | apply agree_ite | apply agree_ite_st | apply agree_ite_snd | apply agree_applyDue | apply agree_foldS | apply agree_inc | apply agree_levelUpdate | apply agree_setReg | apply agree_trpCommit | apply agree_trpDrain | apply agree_trpMark | apply agree_trpRule | apply agree_trpTrim | (intro _ _ _) | (intro _ _) | split | refine agree_snd ?_ (by assumption) | refine agree_snd2 ?_ (by assumption) | refine agree_st ?_ (by assumption) | refine agree_get ?_ (by assumption) | refine agree_get2 ?_ (by assumption) | apply agree_with_trp)

theorem agree_trpModeChanged {P : List Part} {s0 : State} {s : State} (h_out : Part.out ∈ P) (h_regs : Part.regs ∈ P) (h_trp : Part.trp ∈ P) (hk : Agree P s0 s) :
    Agree P s0 (trpModeChanged s) := by
  unfold trpModeChanged
  try dsimp only
  all_goals (with_reducible repeat' first | assumption | rfl | apply agree_ite | apply agree_ite_st | apply agree_ite_snd | apply agree_State_setTbeam | apply agree_foldS | apply agree_pinsRest | (intro _ _ _) | (intro _ _) | split | refine agree_snd ?_ (by assumption) | refine agree_snd2 ?_ (by assumption) | refine agree_st ?_ (by assumption) | refine agree_get ?_ (by assumption) | refine agree_get2 ?_ (by assumption) | apply agree_with_trp)

theorem agree_rideTrig {P : List Part} {s0 : State} (w : Waymark) {s : State} (h_frm : Part.frm ∈ P) (hk : Agree P s0 s) :
    Agree P s0 (rideTrig w s) := by
  unfold rideTrig
  try dsimp only
  all_goals (with_reducible repeat' first | assumption | rfl | (intro _ _ _) | (intro _ _) | split | refine agree_snd ?_ (by assumption) | refine agree_snd2 ?_ (by assumption) | refine agree_st ?_ (by assumption) | refine agree_get ?_ (by assumption) | refine agree_get2 ?_ (by assumption) | apply agree_with_frm)

theorem agree_trpReport {P : List Part} {s0 : State} (suspect : Bool) {s : State} (h_acc : Part.acc ∈ P) (h_frm : Part.frm ∈ P) (h_hlt : Part.hlt ∈ P) (h_out : Part.out ∈ P) (h_regs : Part.regs ∈ P) (h_trp : Part.trp ∈ P) (hk : Agree P s0 s) :
    Agree P s0 (trpReport suspect s) := by
  unfold trpReport
  try dsimp only
  all_goals (with_reducible repeat' first | assumption | rfl | apply agree_ite | apply agree_ite_st | apply agree_ite_snd | apply agree_inc | apply agree_raise | apply agree_rideTrig | apply agree_sigAdd | split | refine agree_snd ?_ (by assumption) | refine agree_snd2 ?_ (by assumption) | refine agree_st ?_ (by assumption) | refine agree_get ?_ (by assumption) | refine agree_get2 ?_ (by assumption) | apply agree_with_trp)

theorem agree_ringWrite {P : List Part} {s0 : State} {s : State} (h_hbm : Part.hbm ∈ P) (h_hlt : Part.hlt ∈ P) (h_mem : Part.mem ∈ P) (h_out : Part.out ∈ P) (h_regs : Part.regs ∈ P) (h_trp : Part.trp ∈ P) (hk : Agree P s0 s) :
    Agree P s0 (ringWrite s) := by
  unfold ringWrite
  try dsimp only
  all_goals (with_reducible repeat' first | assumption | rfl | apply agree_ite | apply agree_ite_st | apply agree_ite_snd | apply agree_State_setCap | apply agree_foldS | apply agree_hbmPut | apply agree_inc | apply agree_setReg64 | apply agree_trpDrain | (intro _ _ _) | (intro _ _) | split | refine agree_snd ?_ (by assumption) | refine agree_snd2 ?_ (by assumption) | refine agree_st ?_ (by assumption) | refine agree_get ?_ (by assumption) | refine agree_get2 ?_ (by assumption) | apply agree_with_trp)

theorem agree_execTrpWindow {P : List Part} {s0 : State} {s : State} (h_hlt : Part.hlt ∈ P) (h_out : Part.out ∈ P) (h_regs : Part.regs ∈ P) (h_trp : Part.trp ∈ P) (h_wm : Part.wm ∈ P) (hk : Agree P s0 s) :
    ∀ t, execTrpWindow s = .next t → Agree P s0 t := by
  intro t ht
  unfold execTrpWindow at ht
  try dsimp only at ht
  all_goals (repeat' first | (cases ht) | split at ht)
  all_goals (with_reducible repeat' first | assumption | rfl | apply agree_ite | apply agree_ite_st | apply agree_ite_snd | apply agree_trpWindow)

theorem agree_execPinPulseEnd {P : List Part} {s0 : State} (pin : Fin 8) {s : State} (h_out : Part.out ∈ P) (h_trp : Part.trp ∈ P) (hk : Agree P s0 s) :
    ∀ t, execPinPulseEnd pin s = .next t → Agree P s0 t := by
  intro t ht
  unfold execPinPulseEnd at ht
  try dsimp only at ht
  all_goals (repeat' first | (cases ht) | split at ht)
  all_goals (with_reducible repeat' first | assumption | rfl | apply agree_setPin)

theorem agree_execTrpReport {P : List Part} {s0 : State} (suspect : Bool) {s : State} (h_acc : Part.acc ∈ P) (h_frm : Part.frm ∈ P) (h_hlt : Part.hlt ∈ P) (h_out : Part.out ∈ P) (h_regs : Part.regs ∈ P) (h_trp : Part.trp ∈ P) (hk : Agree P s0 s) :
    ∀ t, execTrpReport suspect s = .next t → Agree P s0 t := by
  intro t ht
  unfold execTrpReport at ht
  try dsimp only at ht
  all_goals (repeat' first | (cases ht) | split at ht)
  all_goals (with_reducible repeat' first | assumption | rfl | apply agree_trpReport)

theorem agree_execTrigMarkTimeout {P : List Part} {s0 : State} (port : Fin 8) {s : State} (h_frm : Part.frm ∈ P) (h_hlt : Part.hlt ∈ P) (h_out : Part.out ∈ P) (h_regs : Part.regs ∈ P) (hk : Agree P s0 s) :
    ∀ t, execTrigMarkTimeout port s = .next t → Agree P s0 t := by
  intro t ht
  unfold execTrigMarkTimeout at ht
  try dsimp only at ht
  all_goals (repeat' first | (cases ht) | split at ht)
  all_goals (with_reducible repeat' first | assumption | rfl | apply agree_sendPort | (intro _ _ _) | (intro _ _) | split | refine agree_snd ?_ (by assumption) | refine agree_snd2 ?_ (by assumption) | refine agree_st ?_ (by assumption) | refine agree_get ?_ (by assumption) | refine agree_get2 ?_ (by assumption) | apply agree_with_frm)

theorem agree_execRingFrameWrite {P : List Part} {s0 : State} {s : State} (h_hbm : Part.hbm ∈ P) (h_hlt : Part.hlt ∈ P) (h_mem : Part.mem ∈ P) (h_out : Part.out ∈ P) (h_regs : Part.regs ∈ P) (h_trp : Part.trp ∈ P) (hk : Agree P s0 s) :
    ∀ t, execRingFrameWrite s = .next t → Agree P s0 t := by
  intro t ht
  unfold execRingFrameWrite at ht
  try dsimp only at ht
  all_goals (repeat' first | (cases ht) | split at ht)
  all_goals (with_reducible repeat' first | assumption | rfl | apply agree_ringWrite)

end Sys2Proof.Machine
end

