-- ==== Sys2Proof/Laws/AgreeBrg.lean ====
section
/-! SUPPORT. What the operations of Machine/Brg leave alone (Laws/Agree). -/

namespace Sys2Proof.Machine

theorem agree_State_setCore {P : List Part} {s0 : State} {s : State} (c : Nat) (k : CoreSt) (h_brg : Part.brg ∈ P) (hk : Agree P s0 s) :
    Agree P s0 (State.setCore s c k) := by
  unfold State.setCore
  try dsimp only
  all_goals (with_reducible repeat' first | assumption | rfl | split | refine agree_snd ?_ (by assumption) | refine agree_snd2 ?_ (by assumption) | refine agree_st ?_ (by assumption) | refine agree_get ?_ (by assumption) | refine agree_get2 ?_ (by assumption) | apply agree_with_brg)

theorem agree_retire {P : List Part} {s0 : State} (c : Nat) (upd : BankSt → BankSt) (e : BrgEff) {s : State} (h_brg : Part.brg ∈ P) (hk : Agree P s0 s) :
    Agree P s0 (retire c upd e s) := by
  unfold retire
  try dsimp only
  all_goals (with_reducible repeat' first | assumption | rfl | apply agree_State_setCore)

theorem agree_brgFault {P : List Part} {s0 : State} (c : Nat) (cause : Nat) {s : State} (h_brg : Part.brg ∈ P) (h_hlt : Part.hlt ∈ P) (h_out : Part.out ∈ P) (h_regs : Part.regs ∈ P) (hk : Agree P s0 s) :
    Agree P s0 (brgFault c cause s) := by
  unfold brgFault
  try dsimp only
  all_goals (with_reducible repeat' first | assumption | rfl | apply agree_State_setCore | apply agree_raise)

theorem agree_brgReach {P : List Part} {s0 : State} (c : Nat) {s : State} (h_brg : Part.brg ∈ P) (h_hlt : Part.hlt ∈ P) (h_out : Part.out ∈ P) (h_regs : Part.regs ∈ P) (hk : Agree P s0 s) :
    Agree P s0 (brgReach c s) := by
  unfold brgReach
  try dsimp only
  all_goals (with_reducible repeat' first | assumption | rfl | apply agree_ite | apply agree_ite_st | apply agree_ite_snd | apply agree_brgFault)

theorem agree_tickClosed {P : List Part} {s0 : State} (t : TickSt) {s : State} (h_wm : Part.wm ∈ P) (hk : Agree P s0 s) :
    Agree P s0 (tickClosed t s) := by
  unfold tickClosed
  try dsimp only
  all_goals (with_reducible repeat' first | assumption | rfl | (intro _ _ _) | (intro _ _) | split | refine agree_snd ?_ (by assumption) | refine agree_snd2 ?_ (by assumption) | refine agree_st ?_ (by assumption) | refine agree_get ?_ (by assumption) | refine agree_get2 ?_ (by assumption) | apply agree_with_wm)

theorem agree_brgClose {P : List Part} {s0 : State} {s : State} (h_brg : Part.brg ∈ P) (h_wm : Part.wm ∈ P) (hk : Agree P s0 s) :
    Agree P s0 (brgClose s) := by
  unfold brgClose
  try dsimp only
  all_goals (with_reducible repeat' first | assumption | rfl | apply agree_foldS | apply agree_tickClosed | (intro _ _ _) | (intro _ _) | split | refine agree_snd ?_ (by assumption) | refine agree_snd2 ?_ (by assumption) | refine agree_st ?_ (by assumption) | refine agree_get ?_ (by assumption) | refine agree_get2 ?_ (by assumption) | apply agree_with_brg)

theorem agree_brgPosted {P : List Part} {s0 : State} (c : Nat) (n : Nat) {s : State} (h_brg : Part.brg ∈ P) (h_regs : Part.regs ∈ P) (h_wm : Part.wm ∈ P) (hk : Agree P s0 s) :
    Agree P s0 (brgPosted c n s) := by
  unfold brgPosted
  try dsimp only
  all_goals (with_reducible repeat' first | assumption | rfl | apply agree_ite | apply agree_ite_st | apply agree_ite_snd | apply agree_brgClose | apply agree_setReg | (intro _ _ _) | (intro _ _) | split | refine agree_snd ?_ (by assumption) | refine agree_snd2 ?_ (by assumption) | refine agree_st ?_ (by assumption) | refine agree_get ?_ (by assumption) | refine agree_get2 ?_ (by assumption) | apply agree_with_brg)

theorem agree_brgFlushPosts {P : List Part} {s0 : State} (c : Nat) (x0 : Nat) {x1 : State} (h_brg : Part.brg ∈ P) (h_regs : Part.regs ∈ P) (h_wm : Part.wm ∈ P) (hk : Agree P s0 x1) :
    Agree P s0 (brgFlushPosts c x0 x1) := by
  fun_induction brgFlushPosts
  all_goals (try dsimp only)
  all_goals (with_reducible repeat' first | assumption | rfl | apply_assumption | apply agree_State_setCore | apply agree_brgPosted)

theorem agree_brgWritten {P : List Part} {s0 : State} (c : Nat) {s : State} (h_brg : Part.brg ∈ P) (h_hbm : Part.hbm ∈ P) (h_hlt : Part.hlt ∈ P) (h_mem : Part.mem ∈ P) (h_out : Part.out ∈ P) (h_regs : Part.regs ∈ P) (h_wm : Part.wm ∈ P) (hk : Agree P s0 s) :
    Agree P s0 (brgWritten c s) := by
  unfold brgWritten
  try dsimp only
  all_goals (with_reducible repeat' first | assumption | rfl | apply agree_State_setCore | apply agree_brgFlushPosts | apply agree_hbmPut | split)

theorem agree_brgRenumber {P : List Part} {s0 : State} {s : State} (h_brg : Part.brg ∈ P) (hk : Agree P s0 s) :
    Agree P s0 (brgRenumber s) := by
  unfold brgRenumber
  try dsimp only
  all_goals (with_reducible repeat' first | assumption | rfl | apply agree_ite | apply agree_ite_st | apply agree_ite_snd | split | refine agree_snd ?_ (by assumption) | refine agree_snd2 ?_ (by assumption) | refine agree_st ?_ (by assumption) | refine agree_get ?_ (by assumption) | refine agree_get2 ?_ (by assumption) | apply agree_with_brg)

theorem agree_brgFire {P : List Part} {s0 : State} (n : Nat) {s : State} (h_brg : Part.brg ∈ P) (h_hlt : Part.hlt ∈ P) (h_out : Part.out ∈ P) (h_regs : Part.regs ∈ P) (h_wm : Part.wm ∈ P) (hk : Agree P s0 s) :
    Agree P s0 (brgFire n s) := by
  unfold brgFire
  try dsimp only
  all_goals (with_reducible repeat' first | assumption | rfl | apply agree_ite | apply agree_ite_st | apply agree_ite_snd | apply agree_State_setCore | apply agree_brgClose | apply agree_foldS | apply agree_inc | apply agree_raise | apply agree_wf | (intro _ _ _) | (intro _ _) | split | refine agree_snd ?_ (by assumption) | refine agree_snd2 ?_ (by assumption) | refine agree_st ?_ (by assumption) | refine agree_get ?_ (by assumption) | refine agree_get2 ?_ (by assumption) | apply agree_with_brg)

theorem agree_brgTick {P : List Part} {s0 : State} {s : State} (h_brg : Part.brg ∈ P) (h_hlt : Part.hlt ∈ P) (h_out : Part.out ∈ P) (h_regs : Part.regs ∈ P) (h_wm : Part.wm ∈ P) (hk : Agree P s0 s) :
    Agree P s0 (brgTick s) := by
  unfold brgTick
  try dsimp only
  all_goals (with_reducible repeat' first | assumption | rfl | apply agree_ite | apply agree_ite_st | apply agree_ite_snd | apply agree_brgFire | split)

theorem agree_brgAlu {P : List Part} {s0 : State} (c : Nat) (d : Nat) (v : Nat) {s : State} (h_brg : Part.brg ∈ P) (hk : Agree P s0 s) :
    Agree P s0 (brgAlu c d v s) := by
  unfold brgAlu
  try dsimp only
  all_goals (with_reducible repeat' first | assumption | rfl | apply agree_retire)

theorem agree_brgLate {P : List Part} {s0 : State} (c : Nat) (d : Nat) (v : Nat) (upd : BankSt → BankSt) {s : State} (h_brg : Part.brg ∈ P) (hk : Agree P s0 s) :
    Agree P s0 (brgLate c d v upd s) := by
  unfold brgLate
  try dsimp only
  all_goals (with_reducible repeat' first | assumption | rfl | apply agree_retire)

theorem agree_iNop {P : List Part} {s0 : State} (c : Nat) {s : State} (h_brg : Part.brg ∈ P) (hk : Agree P s0 s) :
    Agree P s0 (iNop c s) := by
  unfold iNop
  try dsimp only
  all_goals (with_reducible repeat' first | assumption | rfl | apply agree_retire)

theorem agree_iAdd {P : List Part} {s0 : State} (c : Nat) (w : Nat) {s : State} (h_brg : Part.brg ∈ P) (hk : Agree P s0 s) :
    Agree P s0 (iAdd c w s) := by
  unfold iAdd
  try dsimp only
  all_goals (with_reducible repeat' first | assumption | rfl | apply agree_brgAlu)

theorem agree_iSub {P : List Part} {s0 : State} (c : Nat) (w : Nat) {s : State} (h_brg : Part.brg ∈ P) (hk : Agree P s0 s) :
    Agree P s0 (iSub c w s) := by
  unfold iSub
  try dsimp only
  all_goals (with_reducible repeat' first | assumption | rfl | apply agree_brgAlu)

theorem agree_iAnd {P : List Part} {s0 : State} (c : Nat) (w : Nat) {s : State} (h_brg : Part.brg ∈ P) (hk : Agree P s0 s) :
    Agree P s0 (iAnd c w s) := by
  unfold iAnd
  try dsimp only
  all_goals (with_reducible repeat' first | assumption | rfl | apply agree_brgAlu)

theorem agree_iOr {P : List Part} {s0 : State} (c : Nat) (w : Nat) {s : State} (h_brg : Part.brg ∈ P) (hk : Agree P s0 s) :
    Agree P s0 (iOr c w s) := by
  unfold iOr
  try dsimp only
  all_goals (with_reducible repeat' first | assumption | rfl | apply agree_brgAlu)

theorem agree_iXor {P : List Part} {s0 : State} (c : Nat) (w : Nat) {s : State} (h_brg : Part.brg ∈ P) (hk : Agree P s0 s) :
    Agree P s0 (iXor c w s) := by
  unfold iXor
  try dsimp only
  all_goals (with_reducible repeat' first | assumption | rfl | apply agree_brgAlu)

theorem agree_iShl {P : List Part} {s0 : State} (c : Nat) (w : Nat) {s : State} (h_brg : Part.brg ∈ P) (hk : Agree P s0 s) :
    Agree P s0 (iShl c w s) := by
  unfold iShl
  try dsimp only
  all_goals (with_reducible repeat' first | assumption | rfl | apply agree_brgAlu)

theorem agree_iShr {P : List Part} {s0 : State} (c : Nat) (w : Nat) {s : State} (h_brg : Part.brg ∈ P) (hk : Agree P s0 s) :
    Agree P s0 (iShr c w s) := by
  unfold iShr
  try dsimp only
  all_goals (with_reducible repeat' first | assumption | rfl | apply agree_brgAlu)

theorem agree_iSra {P : List Part} {s0 : State} (c : Nat) (w : Nat) {s : State} (h_brg : Part.brg ∈ P) (hk : Agree P s0 s) :
    Agree P s0 (iSra c w s) := by
  unfold iSra
  try dsimp only
  all_goals (with_reducible repeat' first | assumption | rfl | apply agree_brgAlu)

theorem agree_iMul {P : List Part} {s0 : State} (c : Nat) (w : Nat) {s : State} (h_brg : Part.brg ∈ P) (hk : Agree P s0 s) :
    Agree P s0 (iMul c w s) := by
  unfold iMul
  try dsimp only
  all_goals (with_reducible repeat' first | assumption | rfl | apply agree_brgAlu)

theorem agree_iAddi {P : List Part} {s0 : State} (c : Nat) (w : Nat) {s : State} (h_brg : Part.brg ∈ P) (hk : Agree P s0 s) :
    Agree P s0 (iAddi c w s) := by
  unfold iAddi
  try dsimp only
  all_goals (with_reducible repeat' first | assumption | rfl | apply agree_brgAlu)

theorem agree_iOri {P : List Part} {s0 : State} (c : Nat) (w : Nat) {s : State} (h_brg : Part.brg ∈ P) (hk : Agree P s0 s) :
    Agree P s0 (iOri c w s) := by
  unfold iOri
  try dsimp only
  all_goals (with_reducible repeat' first | assumption | rfl | apply agree_brgAlu)

theorem agree_iLui {P : List Part} {s0 : State} (c : Nat) (w : Nat) {s : State} (h_brg : Part.brg ∈ P) (hk : Agree P s0 s) :
    Agree P s0 (iLui c w s) := by
  unfold iLui
  try dsimp only
  all_goals (with_reducible repeat' first | assumption | rfl | apply agree_brgAlu)

theorem agree_iLd {P : List Part} {s0 : State} (c : Nat) (w : Nat) {s : State} (h_brg : Part.brg ∈ P) (hk : Agree P s0 s) :
    Agree P s0 (iLd c w s) := by
  unfold iLd
  try dsimp only
  all_goals (with_reducible repeat' first | assumption | rfl | apply agree_ite | apply agree_ite_st | apply agree_ite_snd | apply agree_brgLate)

theorem agree_iSt {P : List Part} {s0 : State} (c : Nat) (w : Nat) {s : State} (h_brg : Part.brg ∈ P) (h_mem : Part.mem ∈ P) (h_regs : Part.regs ∈ P) (hk : Agree P s0 s) :
    Agree P s0 (iSt c w s) := by
  unfold iSt
  try dsimp only
  all_goals (with_reducible repeat' first | assumption | rfl | apply agree_ite | apply agree_ite_st | apply agree_ite_snd | apply agree_retire | apply agree_setReg)

theorem agree_iSetp {P : List Part} {s0 : State} (c : Nat) (w : Nat) {s : State} (h_brg : Part.brg ∈ P) (hk : Agree P s0 s) :
    Agree P s0 (iSetp c w s) := by
  unfold iSetp
  try dsimp only
  all_goals (with_reducible repeat' first | assumption | rfl | apply agree_ite | apply agree_ite_st | apply agree_ite_snd | apply agree_retire)

theorem agree_iSetm {P : List Part} {s0 : State} (c : Nat) (w : Nat) {s : State} (h_brg : Part.brg ∈ P) (hk : Agree P s0 s) :
    Agree P s0 (iSetm c w s) := by
  unfold iSetm
  try dsimp only
  all_goals (with_reducible repeat' first | assumption | rfl | apply agree_retire)

theorem agree_iMfs {P : List Part} {s0 : State} (c : Nat) (w : Nat) {s : State} (h_brg : Part.brg ∈ P) (hk : Agree P s0 s) :
    Agree P s0 (iMfs c w s) := by
  unfold iMfs
  try dsimp only
  all_goals (with_reducible repeat' first | assumption | rfl | apply agree_brgLate)

theorem agree_brgMac {P : List Part} {s0 : State} (c : Nat) (w : Nat) (prods : List (Nat × Int)) {s : State} (h_brg : Part.brg ∈ P) (hk : Agree P s0 s) :
    Agree P s0 (brgMac c w prods s) := by
  unfold brgMac
  try dsimp only
  all_goals (with_reducible repeat' first | assumption | rfl | apply agree_ite | apply agree_ite_st | apply agree_ite_snd | apply agree_foldS | apply agree_retire)

theorem agree_iOmac {P : List Part} {s0 : State} (c : Nat) (w : Nat) {s : State} (h_brg : Part.brg ∈ P) (hk : Agree P s0 s) :
    Agree P s0 (iOmac c w s) := by
  unfold iOmac
  try dsimp only
  all_goals (with_reducible repeat' first | assumption | rfl | apply agree_brgMac)

theorem agree_iCmac {P : List Part} {s0 : State} (c : Nat) (w : Nat) {s : State} (h_brg : Part.brg ∈ P) (hk : Agree P s0 s) :
    Agree P s0 (iCmac c w s) := by
  unfold iCmac
  try dsimp only
  all_goals (with_reducible repeat' first | assumption | rfl | apply agree_brgMac)

theorem agree_iDmac {P : List Part} {s0 : State} (c : Nat) (w : Nat) {s : State} (h_brg : Part.brg ∈ P) (hk : Agree P s0 s) :
    Agree P s0 (iDmac c w s) := by
  unfold iDmac
  try dsimp only
  all_goals (with_reducible repeat' first | assumption | rfl | apply agree_brgMac)

theorem agree_iExt {P : List Part} {s0 : State} (c : Nat) (w : Nat) {s : State} (h_brg : Part.brg ∈ P) (hk : Agree P s0 s) :
    Agree P s0 (iExt c w s) := by
  unfold iExt
  try dsimp only
  all_goals (with_reducible repeat' first | assumption | rfl | apply agree_ite | apply agree_ite_st | apply agree_ite_snd | apply agree_State_setCore | apply agree_brgLate)

theorem agree_iMova {P : List Part} {s0 : State} (c : Nat) (w : Nat) {s : State} (h_brg : Part.brg ∈ P) (hk : Agree P s0 s) :
    Agree P s0 (iMova c w s) := by
  unfold iMova
  try dsimp only
  all_goals (with_reducible repeat' first | assumption | rfl | apply agree_retire)

theorem agree_brgBranch {P : List Part} {s0 : State} (c : Nat) (taken : Bool) (t : Nat) (fast : List (Nat × Nat)) {s : State} (h_brg : Part.brg ∈ P) (h_hlt : Part.hlt ∈ P) (h_out : Part.out ∈ P) (h_regs : Part.regs ∈ P) (hk : Agree P s0 s) :
    Agree P s0 (brgBranch c taken t fast s) := by
  unfold brgBranch
  try dsimp only
  all_goals (with_reducible repeat' first | assumption | rfl | apply agree_ite | apply agree_ite_st | apply agree_ite_snd | apply agree_brgFault | apply agree_retire)

theorem agree_iBeq {P : List Part} {s0 : State} (c : Nat) (w : Nat) {s : State} (h_brg : Part.brg ∈ P) (h_hlt : Part.hlt ∈ P) (h_out : Part.out ∈ P) (h_regs : Part.regs ∈ P) (hk : Agree P s0 s) :
    Agree P s0 (iBeq c w s) := by
  unfold iBeq
  try dsimp only
  all_goals (with_reducible repeat' first | assumption | rfl | apply agree_brgBranch)

theorem agree_iBne {P : List Part} {s0 : State} (c : Nat) (w : Nat) {s : State} (h_brg : Part.brg ∈ P) (h_hlt : Part.hlt ∈ P) (h_out : Part.out ∈ P) (h_regs : Part.regs ∈ P) (hk : Agree P s0 s) :
    Agree P s0 (iBne c w s) := by
  unfold iBne
  try dsimp only
  all_goals (with_reducible repeat' first | assumption | rfl | apply agree_brgBranch)

theorem agree_iBlt {P : List Part} {s0 : State} (c : Nat) (w : Nat) {s : State} (h_brg : Part.brg ∈ P) (h_hlt : Part.hlt ∈ P) (h_out : Part.out ∈ P) (h_regs : Part.regs ∈ P) (hk : Agree P s0 s) :
    Agree P s0 (iBlt c w s) := by
  unfold iBlt
  try dsimp only
  all_goals (with_reducible repeat' first | assumption | rfl | apply agree_brgBranch)

theorem agree_iBge {P : List Part} {s0 : State} (c : Nat) (w : Nat) {s : State} (h_brg : Part.brg ∈ P) (h_hlt : Part.hlt ∈ P) (h_out : Part.out ∈ P) (h_regs : Part.regs ∈ P) (hk : Agree P s0 s) :
    Agree P s0 (iBge c w s) := by
  unfold iBge
  try dsimp only
  all_goals (with_reducible repeat' first | assumption | rfl | apply agree_brgBranch)

theorem agree_iJmp {P : List Part} {s0 : State} (c : Nat) (w : Nat) {s : State} (h_brg : Part.brg ∈ P) (h_hlt : Part.hlt ∈ P) (h_out : Part.out ∈ P) (h_regs : Part.regs ∈ P) (hk : Agree P s0 s) :
    Agree P s0 (iJmp c w s) := by
  unfold iJmp
  try dsimp only
  all_goals (with_reducible repeat' first | assumption | rfl | apply agree_brgBranch)

theorem agree_iCall {P : List Part} {s0 : State} (c : Nat) (w : Nat) {s : State} (h_brg : Part.brg ∈ P) (h_hlt : Part.hlt ∈ P) (h_out : Part.out ∈ P) (h_regs : Part.regs ∈ P) (hk : Agree P s0 s) :
    Agree P s0 (iCall c w s) := by
  unfold iCall
  try dsimp only
  all_goals (with_reducible repeat' first | assumption | rfl | apply agree_brgBranch)

theorem agree_iRet {P : List Part} {s0 : State} (c : Nat) {s : State} (h_brg : Part.brg ∈ P) (h_hlt : Part.hlt ∈ P) (h_out : Part.out ∈ P) (h_regs : Part.regs ∈ P) (hk : Agree P s0 s) :
    Agree P s0 (iRet c s) := by
  unfold iRet
  try dsimp only
  all_goals (with_reducible repeat' first | assumption | rfl | apply agree_brgBranch)

theorem agree_iLoop {P : List Part} {s0 : State} (c : Nat) (w : Nat) {s : State} (h_brg : Part.brg ∈ P) (h_hlt : Part.hlt ∈ P) (h_out : Part.out ∈ P) (h_regs : Part.regs ∈ P) (hk : Agree P s0 s) :
    Agree P s0 (iLoop c w s) := by
  unfold iLoop
  try dsimp only
  all_goals (with_reducible repeat' first | assumption | rfl | apply agree_ite | apply agree_ite_st | apply agree_ite_snd | apply agree_State_setCore | apply agree_brgFault | apply agree_retire)

theorem agree_iPut {P : List Part} {s0 : State} (c : Nat) (w : Nat) {s : State} (h_brg : Part.brg ∈ P) (h_hlt : Part.hlt ∈ P) (h_out : Part.out ∈ P) (h_regs : Part.regs ∈ P) (hk : Agree P s0 s) :
    Agree P s0 (iPut c w s) := by
  unfold iPut
  try dsimp only
  all_goals (with_reducible repeat' first | assumption | rfl | apply agree_ite | apply agree_ite_st | apply agree_ite_snd | apply agree_State_setCore | apply agree_brgFault | apply agree_retire)

theorem agree_iDir {P : List Part} {s0 : State} (c : Nat) (w : Nat) {s : State} (h_brg : Part.brg ∈ P) (h_hlt : Part.hlt ∈ P) (h_out : Part.out ∈ P) (h_regs : Part.regs ∈ P) (h_trp : Part.trp ∈ P) (hk : Agree P s0 s) :
    Agree P s0 (iDir c w s) := by
  unfold iDir
  try dsimp only
  all_goals (with_reducible repeat' first | assumption | rfl | apply agree_ite | apply agree_ite_st | apply agree_ite_snd | apply agree_State_setCore | apply agree_brgFault | apply agree_foldS | apply agree_retire | apply agree_setReg | apply agree_trpDirRecord | (intro _ _ _))

theorem agree_iPost {P : List Part} {s0 : State} (c : Nat) (w : Nat) {s : State} (h_brg : Part.brg ∈ P) (h_regs : Part.regs ∈ P) (h_wm : Part.wm ∈ P) (hk : Agree P s0 s) :
    Agree P s0 (iPost c w s) := by
  unfold iPost
  try dsimp only
  all_goals (with_reducible repeat' first | assumption | rfl | apply agree_ite | apply agree_ite_st | apply agree_ite_snd | apply agree_State_setCore | apply agree_brgFlushPosts | apply agree_retire | (intro _ _ _) | (intro _ _) | split | refine agree_snd ?_ (by assumption) | refine agree_snd2 ?_ (by assumption) | refine agree_st ?_ (by assumption) | refine agree_get ?_ (by assumption) | refine agree_get2 ?_ (by assumption) | apply agree_with_brg)

theorem agree_iWaitt {P : List Part} {s0 : State} (c : Nat) {s : State} (h_brg : Part.brg ∈ P) (hk : Agree P s0 s) :
    Agree P s0 (iWaitt c s) := by
  unfold iWaitt
  try dsimp only
  all_goals (with_reducible repeat' first | assumption | rfl | apply agree_ite | apply agree_ite_st | apply agree_ite_snd | apply agree_State_setCore | apply agree_retire | split)

theorem agree_iWaiti {P : List Part} {s0 : State} (c : Nat) {s : State} (h_brg : Part.brg ∈ P) (hk : Agree P s0 s) :
    Agree P s0 (iWaiti c s) := by
  unfold iWaiti
  try dsimp only
  all_goals (with_reducible repeat' first | assumption | rfl | apply agree_ite | apply agree_ite_st | apply agree_ite_snd | apply agree_State_setCore | apply agree_retire)

theorem agree_iReti {P : List Part} {s0 : State} (c : Nat) {s : State} (h_brg : Part.brg ∈ P) (h_hlt : Part.hlt ∈ P) (h_out : Part.out ∈ P) (h_regs : Part.regs ∈ P) (hk : Agree P s0 s) :
    Agree P s0 (iReti c s) := by
  unfold iReti
  try dsimp only
  all_goals (with_reducible repeat' first | assumption | rfl | apply agree_ite | apply agree_ite_st | apply agree_ite_snd | apply agree_State_setCore | apply agree_brgFault | apply agree_setReg)

theorem agree_iEi {P : List Part} {s0 : State} (c : Nat) {s : State} (h_brg : Part.brg ∈ P) (hk : Agree P s0 s) :
    Agree P s0 (iEi c s) := by
  unfold iEi
  try dsimp only
  all_goals (with_reducible repeat' first | assumption | rfl | apply agree_State_setCore | apply agree_retire)

theorem agree_iDi {P : List Part} {s0 : State} (c : Nat) {s : State} (h_brg : Part.brg ∈ P) (hk : Agree P s0 s) :
    Agree P s0 (iDi c s) := by
  unfold iDi
  try dsimp only
  all_goals (with_reducible repeat' first | assumption | rfl | apply agree_State_setCore | apply agree_retire)

theorem agree_iHalt {P : List Part} {s0 : State} (c : Nat) {s : State} (h_brg : Part.brg ∈ P) (h_hlt : Part.hlt ∈ P) (h_out : Part.out ∈ P) (h_regs : Part.regs ∈ P) (hk : Agree P s0 s) :
    Agree P s0 (iHalt c s) := by
  unfold iHalt
  try dsimp only
  all_goals (with_reducible repeat' first | assumption | rfl | apply agree_State_setCore | apply agree_raise | apply agree_retire)

theorem agree_brgInstr {P : List Part} {s0 : State} (c : Nat) (w : Nat) {s : State} (h_brg : Part.brg ∈ P) (h_hlt : Part.hlt ∈ P) (h_mem : Part.mem ∈ P) (h_out : Part.out ∈ P) (h_regs : Part.regs ∈ P) (h_trp : Part.trp ∈ P) (h_wm : Part.wm ∈ P) (hk : Agree P s0 s) :
    Agree P s0 (brgInstr c w s) := by
  unfold brgInstr
  try dsimp only
  all_goals (with_reducible repeat' first | assumption | rfl | apply agree_ite | apply agree_ite_st | apply agree_ite_snd | apply agree_brgFault | apply agree_iAdd | apply agree_iAddi | apply agree_iAnd | apply agree_iBeq | apply agree_iBge | apply agree_iBlt | apply agree_iBne | apply agree_iCall | apply agree_iCmac | apply agree_iDi | apply agree_iDir | apply agree_iDmac | apply agree_iEi | apply agree_iExt | apply agree_iHalt | apply agree_iJmp | apply agree_iLd | apply agree_iLoop | apply agree_iLui | apply agree_iMfs | apply agree_iMova | apply agree_iMul | apply agree_iNop | apply agree_iOmac | apply agree_iOr | apply agree_iOri | apply agree_iPost | apply agree_iPut | apply agree_iRet | apply agree_iReti | apply agree_iSetm | apply agree_iSetp | apply agree_iShl | apply agree_iShr | apply agree_iSra | apply agree_iSt | apply agree_iSub | apply agree_iWaiti | apply agree_iWaitt | apply agree_iXor | split)

theorem agree_brgExec {P : List Part} {s0 : State} (op : Nat) (c : Nat) (run : State → State) {s : State} (hrun : ∀  t, Agree P s0 t → Agree P s0 (run  t)) (h_brg : Part.brg ∈ P) (h_hlt : Part.hlt ∈ P) (h_out : Part.out ∈ P) (h_regs : Part.regs ∈ P) (hk : Agree P s0 s) :
    Agree P s0 (brgExec op c run s) := by
  unfold brgExec
  try dsimp only
  all_goals (with_reducible repeat' first | assumption | rfl | apply agree_ite | apply agree_ite_st | apply agree_ite_snd | apply agree_brgReach | apply hrun)

theorem agree_brgWaitEnd {P : List Part} {s0 : State} (c : Nat) {s : State} (h_brg : Part.brg ∈ P) (h_hlt : Part.hlt ∈ P) (h_mem : Part.mem ∈ P) (h_out : Part.out ∈ P) (h_regs : Part.regs ∈ P) (h_trp : Part.trp ∈ P) (h_wm : Part.wm ∈ P) (hk : Agree P s0 s) :
    Agree P s0 (brgWaitEnd c s) := by
  unfold brgWaitEnd
  try dsimp only
  all_goals (with_reducible repeat' first | assumption | rfl | apply agree_ite | apply agree_ite_st | apply agree_ite_snd | apply agree_State_setCore | apply agree_brgInstr | apply agree_brgReach)

theorem agree_brgAccept {P : List Part} {s0 : State} (c : Nat) {s : State} (h_brg : Part.brg ∈ P) (h_hlt : Part.hlt ∈ P) (h_out : Part.out ∈ P) (h_regs : Part.regs ∈ P) (hk : Agree P s0 s) :
    Agree P s0 (brgAccept c s) := by
  unfold brgAccept
  try dsimp only
  all_goals (with_reducible repeat' first | assumption | rfl | apply agree_ite | apply agree_ite_st | apply agree_ite_snd | apply agree_State_setCore | apply agree_brgReach)

theorem agree_execBrgTickFire {P : List Part} {s0 : State} {s : State} (h_brg : Part.brg ∈ P) (h_hlt : Part.hlt ∈ P) (h_out : Part.out ∈ P) (h_regs : Part.regs ∈ P) (h_wm : Part.wm ∈ P) (hk : Agree P s0 s) :
    ∀ t, execBrgTickFire s = .next t → Agree P s0 t := by
  intro t ht
  unfold execBrgTickFire at ht
  try dsimp only at ht
  all_goals (repeat' first | (cases ht) | split at ht)
  all_goals (with_reducible repeat' first | assumption | rfl | apply agree_brgTick)

theorem agree_execBrgInterruptAccept {P : List Part} {s0 : State} (core : Fin 16) {s : State} (h_brg : Part.brg ∈ P) (h_hlt : Part.hlt ∈ P) (h_out : Part.out ∈ P) (h_regs : Part.regs ∈ P) (hk : Agree P s0 s) :
    ∀ t, execBrgInterruptAccept core s = .next t → Agree P s0 t := by
  intro t ht
  unfold execBrgInterruptAccept at ht
  try dsimp only at ht
  all_goals (repeat' first | (cases ht) | split at ht)
  all_goals (with_reducible repeat' first | assumption | rfl | apply agree_brgAccept)

theorem agree_execBrgWaitEnd {P : List Part} {s0 : State} (core : Fin 16) {s : State} (h_brg : Part.brg ∈ P) (h_hlt : Part.hlt ∈ P) (h_mem : Part.mem ∈ P) (h_out : Part.out ∈ P) (h_regs : Part.regs ∈ P) (h_trp : Part.trp ∈ P) (h_wm : Part.wm ∈ P) (hk : Agree P s0 s) :
    ∀ t, execBrgWaitEnd core s = .next t → Agree P s0 t := by
  intro t ht
  unfold execBrgWaitEnd at ht
  try dsimp only at ht
  all_goals (repeat' first | (cases ht) | split at ht)
  all_goals (with_reducible repeat' first | assumption | rfl | apply agree_brgWaitEnd)

theorem agree_execBrgPutWritten {P : List Part} {s0 : State} (core : Fin 16) {s : State} (h_brg : Part.brg ∈ P) (h_hbm : Part.hbm ∈ P) (h_hlt : Part.hlt ∈ P) (h_mem : Part.mem ∈ P) (h_out : Part.out ∈ P) (h_regs : Part.regs ∈ P) (h_wm : Part.wm ∈ P) (hk : Agree P s0 s) :
    ∀ t, execBrgPutWritten core s = .next t → Agree P s0 t := by
  intro t ht
  unfold execBrgPutWritten at ht
  try dsimp only at ht
  all_goals (repeat' first | (cases ht) | split at ht)
  all_goals (with_reducible repeat' first | assumption | rfl | apply agree_brgWritten)

theorem agree_execBrgNop {P : List Part} {s0 : State} (core : Fin 16) {s : State} (h_brg : Part.brg ∈ P) (h_hlt : Part.hlt ∈ P) (h_out : Part.out ∈ P) (h_regs : Part.regs ∈ P) (hk : Agree P s0 s) :
    ∀ t, execBrgNop core s = .next t → Agree P s0 t := by
  intro t ht
  unfold execBrgNop at ht
  try dsimp only at ht
  all_goals (repeat' first | (cases ht) | split at ht)
  all_goals (with_reducible repeat' first | assumption | rfl | apply agree_brgExec | apply agree_iNop | (intro _ _ _) | (intro _ _))

theorem agree_execBrgAdd {P : List Part} {s0 : State} (core : Fin 16) {s : State} (h_brg : Part.brg ∈ P) (h_hlt : Part.hlt ∈ P) (h_out : Part.out ∈ P) (h_regs : Part.regs ∈ P) (hk : Agree P s0 s) :
    ∀ t, execBrgAdd core s = .next t → Agree P s0 t := by
  intro t ht
  unfold execBrgAdd at ht
  try dsimp only at ht
  all_goals (repeat' first | (cases ht) | split at ht)
  all_goals (with_reducible repeat' first | assumption | rfl | apply agree_brgExec | apply agree_iAdd | (intro _ _ _) | (intro _ _))

theorem agree_execBrgSub {P : List Part} {s0 : State} (core : Fin 16) {s : State} (h_brg : Part.brg ∈ P) (h_hlt : Part.hlt ∈ P) (h_out : Part.out ∈ P) (h_regs : Part.regs ∈ P) (hk : Agree P s0 s) :
    ∀ t, execBrgSub core s = .next t → Agree P s0 t := by
  intro t ht
  unfold execBrgSub at ht
  try dsimp only at ht
  all_goals (repeat' first | (cases ht) | split at ht)
  all_goals (with_reducible repeat' first | assumption | rfl | apply agree_brgExec | apply agree_iSub | (intro _ _ _) | (intro _ _))

theorem agree_execBrgAnd {P : List Part} {s0 : State} (core : Fin 16) {s : State} (h_brg : Part.brg ∈ P) (h_hlt : Part.hlt ∈ P) (h_out : Part.out ∈ P) (h_regs : Part.regs ∈ P) (hk : Agree P s0 s) :
    ∀ t, execBrgAnd core s = .next t → Agree P s0 t := by
  intro t ht
  unfold execBrgAnd at ht
  try dsimp only at ht
  all_goals (repeat' first | (cases ht) | split at ht)
  all_goals (with_reducible repeat' first | assumption | rfl | apply agree_brgExec | apply agree_iAnd | (intro _ _ _) | (intro _ _))

theorem agree_execBrgOr {P : List Part} {s0 : State} (core : Fin 16) {s : State} (h_brg : Part.brg ∈ P) (h_hlt : Part.hlt ∈ P) (h_out : Part.out ∈ P) (h_regs : Part.regs ∈ P) (hk : Agree P s0 s) :
    ∀ t, execBrgOr core s = .next t → Agree P s0 t := by
  intro t ht
  unfold execBrgOr at ht
  try dsimp only at ht
  all_goals (repeat' first | (cases ht) | split at ht)
  all_goals (with_reducible repeat' first | assumption | rfl | apply agree_brgExec | apply agree_iOr | (intro _ _ _) | (intro _ _))

theorem agree_execBrgXor {P : List Part} {s0 : State} (core : Fin 16) {s : State} (h_brg : Part.brg ∈ P) (h_hlt : Part.hlt ∈ P) (h_out : Part.out ∈ P) (h_regs : Part.regs ∈ P) (hk : Agree P s0 s) :
    ∀ t, execBrgXor core s = .next t → Agree P s0 t := by
  intro t ht
  unfold execBrgXor at ht
  try dsimp only at ht
  all_goals (repeat' first | (cases ht) | split at ht)
  all_goals (with_reducible repeat' first | assumption | rfl | apply agree_brgExec | apply agree_iXor | (intro _ _ _) | (intro _ _))

theorem agree_execBrgShl {P : List Part} {s0 : State} (core : Fin 16) {s : State} (h_brg : Part.brg ∈ P) (h_hlt : Part.hlt ∈ P) (h_out : Part.out ∈ P) (h_regs : Part.regs ∈ P) (hk : Agree P s0 s) :
    ∀ t, execBrgShl core s = .next t → Agree P s0 t := by
  intro t ht
  unfold execBrgShl at ht
  try dsimp only at ht
  all_goals (repeat' first | (cases ht) | split at ht)
  all_goals (with_reducible repeat' first | assumption | rfl | apply agree_brgExec | apply agree_iShl | (intro _ _ _) | (intro _ _))

theorem agree_execBrgShr {P : List Part} {s0 : State} (core : Fin 16) {s : State} (h_brg : Part.brg ∈ P) (h_hlt : Part.hlt ∈ P) (h_out : Part.out ∈ P) (h_regs : Part.regs ∈ P) (hk : Agree P s0 s) :
    ∀ t, execBrgShr core s = .next t → Agree P s0 t := by
  intro t ht
  unfold execBrgShr at ht
  try dsimp only at ht
  all_goals (repeat' first | (cases ht) | split at ht)
  all_goals (with_reducible repeat' first | assumption | rfl | apply agree_brgExec | apply agree_iShr | (intro _ _ _) | (intro _ _))

theorem agree_execBrgSra {P : List Part} {s0 : State} (core : Fin 16) {s : State} (h_brg : Part.brg ∈ P) (h_hlt : Part.hlt ∈ P) (h_out : Part.out ∈ P) (h_regs : Part.regs ∈ P) (hk : Agree P s0 s) :
    ∀ t, execBrgSra core s = .next t → Agree P s0 t := by
  intro t ht
  unfold execBrgSra at ht
  try dsimp only at ht
  all_goals (repeat' first | (cases ht) | split at ht)
  all_goals (with_reducible repeat' first | assumption | rfl | apply agree_brgExec | apply agree_iSra | (intro _ _ _) | (intro _ _))

theorem agree_execBrgMul {P : List Part} {s0 : State} (core : Fin 16) {s : State} (h_brg : Part.brg ∈ P) (h_hlt : Part.hlt ∈ P) (h_out : Part.out ∈ P) (h_regs : Part.regs ∈ P) (hk : Agree P s0 s) :
    ∀ t, execBrgMul core s = .next t → Agree P s0 t := by
  intro t ht
  unfold execBrgMul at ht
  try dsimp only at ht
  all_goals (repeat' first | (cases ht) | split at ht)
  all_goals (with_reducible repeat' first | assumption | rfl | apply agree_brgExec | apply agree_iMul | (intro _ _ _) | (intro _ _))

theorem agree_execBrgAddi {P : List Part} {s0 : State} (core : Fin 16) {s : State} (h_brg : Part.brg ∈ P) (h_hlt : Part.hlt ∈ P) (h_out : Part.out ∈ P) (h_regs : Part.regs ∈ P) (hk : Agree P s0 s) :
    ∀ t, execBrgAddi core s = .next t → Agree P s0 t := by
  intro t ht
  unfold execBrgAddi at ht
  try dsimp only at ht
  all_goals (repeat' first | (cases ht) | split at ht)
  all_goals (with_reducible repeat' first | assumption | rfl | apply agree_brgExec | apply agree_iAddi | (intro _ _ _) | (intro _ _))

theorem agree_execBrgOri {P : List Part} {s0 : State} (core : Fin 16) {s : State} (h_brg : Part.brg ∈ P) (h_hlt : Part.hlt ∈ P) (h_out : Part.out ∈ P) (h_regs : Part.regs ∈ P) (hk : Agree P s0 s) :
    ∀ t, execBrgOri core s = .next t → Agree P s0 t := by
  intro t ht
  unfold execBrgOri at ht
  try dsimp only at ht
  all_goals (repeat' first | (cases ht) | split at ht)
  all_goals (with_reducible repeat' first | assumption | rfl | apply agree_brgExec | apply agree_iOri | (intro _ _ _) | (intro _ _))

theorem agree_execBrgLui {P : List Part} {s0 : State} (core : Fin 16) {s : State} (h_brg : Part.brg ∈ P) (h_hlt : Part.hlt ∈ P) (h_out : Part.out ∈ P) (h_regs : Part.regs ∈ P) (hk : Agree P s0 s) :
    ∀ t, execBrgLui core s = .next t → Agree P s0 t := by
  intro t ht
  unfold execBrgLui at ht
  try dsimp only at ht
  all_goals (repeat' first | (cases ht) | split at ht)
  all_goals (with_reducible repeat' first | assumption | rfl | apply agree_brgExec | apply agree_iLui | (intro _ _ _) | (intro _ _))

theorem agree_execBrgLd {P : List Part} {s0 : State} (core : Fin 16) {s : State} (h_brg : Part.brg ∈ P) (h_hlt : Part.hlt ∈ P) (h_out : Part.out ∈ P) (h_regs : Part.regs ∈ P) (hk : Agree P s0 s) :
    ∀ t, execBrgLd core s = .next t → Agree P s0 t := by
  intro t ht
  unfold execBrgLd at ht
  try dsimp only at ht
  all_goals (repeat' first | (cases ht) | split at ht)
  all_goals (with_reducible repeat' first | assumption | rfl | apply agree_brgExec | apply agree_iLd | (intro _ _ _) | (intro _ _))

theorem agree_execBrgSt {P : List Part} {s0 : State} (core : Fin 16) {s : State} (h_brg : Part.brg ∈ P) (h_hlt : Part.hlt ∈ P) (h_mem : Part.mem ∈ P) (h_out : Part.out ∈ P) (h_regs : Part.regs ∈ P) (hk : Agree P s0 s) :
    ∀ t, execBrgSt core s = .next t → Agree P s0 t := by
  intro t ht
  unfold execBrgSt at ht
  try dsimp only at ht
  all_goals (repeat' first | (cases ht) | split at ht)
  all_goals (with_reducible repeat' first | assumption | rfl | apply agree_brgExec | apply agree_iSt | (intro _ _ _) | (intro _ _))

theorem agree_execBrgSetp {P : List Part} {s0 : State} (core : Fin 16) {s : State} (h_brg : Part.brg ∈ P) (h_hlt : Part.hlt ∈ P) (h_out : Part.out ∈ P) (h_regs : Part.regs ∈ P) (hk : Agree P s0 s) :
    ∀ t, execBrgSetp core s = .next t → Agree P s0 t := by
  intro t ht
  unfold execBrgSetp at ht
  try dsimp only at ht
  all_goals (repeat' first | (cases ht) | split at ht)
  all_goals (with_reducible repeat' first | assumption | rfl | apply agree_brgExec | apply agree_iSetp | (intro _ _ _) | (intro _ _))

theorem agree_execBrgSetm {P : List Part} {s0 : State} (core : Fin 16) {s : State} (h_brg : Part.brg ∈ P) (h_hlt : Part.hlt ∈ P) (h_out : Part.out ∈ P) (h_regs : Part.regs ∈ P) (hk : Agree P s0 s) :
    ∀ t, execBrgSetm core s = .next t → Agree P s0 t := by
  intro t ht
  unfold execBrgSetm at ht
  try dsimp only at ht
  all_goals (repeat' first | (cases ht) | split at ht)
  all_goals (with_reducible repeat' first | assumption | rfl | apply agree_brgExec | apply agree_iSetm | (intro _ _ _) | (intro _ _))

theorem agree_execBrgMfs {P : List Part} {s0 : State} (core : Fin 16) {s : State} (h_brg : Part.brg ∈ P) (h_hlt : Part.hlt ∈ P) (h_out : Part.out ∈ P) (h_regs : Part.regs ∈ P) (hk : Agree P s0 s) :
    ∀ t, execBrgMfs core s = .next t → Agree P s0 t := by
  intro t ht
  unfold execBrgMfs at ht
  try dsimp only at ht
  all_goals (repeat' first | (cases ht) | split at ht)
  all_goals (with_reducible repeat' first | assumption | rfl | apply agree_brgExec | apply agree_iMfs | (intro _ _ _) | (intro _ _))

theorem agree_execBrgOmac {P : List Part} {s0 : State} (core : Fin 16) {s : State} (h_brg : Part.brg ∈ P) (h_hlt : Part.hlt ∈ P) (h_out : Part.out ∈ P) (h_regs : Part.regs ∈ P) (hk : Agree P s0 s) :
    ∀ t, execBrgOmac core s = .next t → Agree P s0 t := by
  intro t ht
  unfold execBrgOmac at ht
  try dsimp only at ht
  all_goals (repeat' first | (cases ht) | split at ht)
  all_goals (with_reducible repeat' first | assumption | rfl | apply agree_brgExec | apply agree_iOmac | (intro _ _ _) | (intro _ _))

theorem agree_execBrgCmac {P : List Part} {s0 : State} (core : Fin 16) {s : State} (h_brg : Part.brg ∈ P) (h_hlt : Part.hlt ∈ P) (h_out : Part.out ∈ P) (h_regs : Part.regs ∈ P) (hk : Agree P s0 s) :
    ∀ t, execBrgCmac core s = .next t → Agree P s0 t := by
  intro t ht
  unfold execBrgCmac at ht
  try dsimp only at ht
  all_goals (repeat' first | (cases ht) | split at ht)
  all_goals (with_reducible repeat' first | assumption | rfl | apply agree_brgExec | apply agree_iCmac | (intro _ _ _) | (intro _ _))

theorem agree_execBrgDmac {P : List Part} {s0 : State} (core : Fin 16) {s : State} (h_brg : Part.brg ∈ P) (h_hlt : Part.hlt ∈ P) (h_out : Part.out ∈ P) (h_regs : Part.regs ∈ P) (hk : Agree P s0 s) :
    ∀ t, execBrgDmac core s = .next t → Agree P s0 t := by
  intro t ht
  unfold execBrgDmac at ht
  try dsimp only at ht
  all_goals (repeat' first | (cases ht) | split at ht)
  all_goals (with_reducible repeat' first | assumption | rfl | apply agree_brgExec | apply agree_iDmac | (intro _ _ _) | (intro _ _))

theorem agree_execBrgExt {P : List Part} {s0 : State} (core : Fin 16) {s : State} (h_brg : Part.brg ∈ P) (h_hlt : Part.hlt ∈ P) (h_out : Part.out ∈ P) (h_regs : Part.regs ∈ P) (hk : Agree P s0 s) :
    ∀ t, execBrgExt core s = .next t → Agree P s0 t := by
  intro t ht
  unfold execBrgExt at ht
  try dsimp only at ht
  all_goals (repeat' first | (cases ht) | split at ht)
  all_goals (with_reducible repeat' first | assumption | rfl | apply agree_brgExec | apply agree_iExt | (intro _ _ _) | (intro _ _))

theorem agree_execBrgMova {P : List Part} {s0 : State} (core : Fin 16) {s : State} (h_brg : Part.brg ∈ P) (h_hlt : Part.hlt ∈ P) (h_out : Part.out ∈ P) (h_regs : Part.regs ∈ P) (hk : Agree P s0 s) :
    ∀ t, execBrgMova core s = .next t → Agree P s0 t := by
  intro t ht
  unfold execBrgMova at ht
  try dsimp only at ht
  all_goals (repeat' first | (cases ht) | split at ht)
  all_goals (with_reducible repeat' first | assumption | rfl | apply agree_brgExec | apply agree_iMova | (intro _ _ _) | (intro _ _))

theorem agree_execBrgBeq {P : List Part} {s0 : State} (core : Fin 16) {s : State} (h_brg : Part.brg ∈ P) (h_hlt : Part.hlt ∈ P) (h_out : Part.out ∈ P) (h_regs : Part.regs ∈ P) (hk : Agree P s0 s) :
    ∀ t, execBrgBeq core s = .next t → Agree P s0 t := by
  intro t ht
  unfold execBrgBeq at ht
  try dsimp only at ht
  all_goals (repeat' first | (cases ht) | split at ht)
  all_goals (with_reducible repeat' first | assumption | rfl | apply agree_brgExec | apply agree_iBeq | (intro _ _ _) | (intro _ _))

theorem agree_execBrgBne {P : List Part} {s0 : State} (core : Fin 16) {s : State} (h_brg : Part.brg ∈ P) (h_hlt : Part.hlt ∈ P) (h_out : Part.out ∈ P) (h_regs : Part.regs ∈ P) (hk : Agree P s0 s) :
    ∀ t, execBrgBne core s = .next t → Agree P s0 t := by
  intro t ht
  unfold execBrgBne at ht
  try dsimp only at ht
  all_goals (repeat' first | (cases ht) | split at ht)
  all_goals (with_reducible repeat' first | assumption | rfl | apply agree_brgExec | apply agree_iBne | (intro _ _ _) | (intro _ _))

theorem agree_execBrgBlt {P : List Part} {s0 : State} (core : Fin 16) {s : State} (h_brg : Part.brg ∈ P) (h_hlt : Part.hlt ∈ P) (h_out : Part.out ∈ P) (h_regs : Part.regs ∈ P) (hk : Agree P s0 s) :
    ∀ t, execBrgBlt core s = .next t → Agree P s0 t := by
  intro t ht
  unfold execBrgBlt at ht
  try dsimp only at ht
  all_goals (repeat' first | (cases ht) | split at ht)
  all_goals (with_reducible repeat' first | assumption | rfl | apply agree_brgExec | apply agree_iBlt | (intro _ _ _) | (intro _ _))

theorem agree_execBrgBge {P : List Part} {s0 : State} (core : Fin 16) {s : State} (h_brg : Part.brg ∈ P) (h_hlt : Part.hlt ∈ P) (h_out : Part.out ∈ P) (h_regs : Part.regs ∈ P) (hk : Agree P s0 s) :
    ∀ t, execBrgBge core s = .next t → Agree P s0 t := by
  intro t ht
  unfold execBrgBge at ht
  try dsimp only at ht
  all_goals (repeat' first | (cases ht) | split at ht)
  all_goals (with_reducible repeat' first | assumption | rfl | apply agree_brgExec | apply agree_iBge | (intro _ _ _) | (intro _ _))

theorem agree_execBrgJmp {P : List Part} {s0 : State} (core : Fin 16) {s : State} (h_brg : Part.brg ∈ P) (h_hlt : Part.hlt ∈ P) (h_out : Part.out ∈ P) (h_regs : Part.regs ∈ P) (hk : Agree P s0 s) :
    ∀ t, execBrgJmp core s = .next t → Agree P s0 t := by
  intro t ht
  unfold execBrgJmp at ht
  try dsimp only at ht
  all_goals (repeat' first | (cases ht) | split at ht)
  all_goals (with_reducible repeat' first | assumption | rfl | apply agree_brgExec | apply agree_iJmp | (intro _ _ _) | (intro _ _))

theorem agree_execBrgCall {P : List Part} {s0 : State} (core : Fin 16) {s : State} (h_brg : Part.brg ∈ P) (h_hlt : Part.hlt ∈ P) (h_out : Part.out ∈ P) (h_regs : Part.regs ∈ P) (hk : Agree P s0 s) :
    ∀ t, execBrgCall core s = .next t → Agree P s0 t := by
  intro t ht
  unfold execBrgCall at ht
  try dsimp only at ht
  all_goals (repeat' first | (cases ht) | split at ht)
  all_goals (with_reducible repeat' first | assumption | rfl | apply agree_brgExec | apply agree_iCall | (intro _ _ _) | (intro _ _))

theorem agree_execBrgRet {P : List Part} {s0 : State} (core : Fin 16) {s : State} (h_brg : Part.brg ∈ P) (h_hlt : Part.hlt ∈ P) (h_out : Part.out ∈ P) (h_regs : Part.regs ∈ P) (hk : Agree P s0 s) :
    ∀ t, execBrgRet core s = .next t → Agree P s0 t := by
  intro t ht
  unfold execBrgRet at ht
  try dsimp only at ht
  all_goals (repeat' first | (cases ht) | split at ht)
  all_goals (with_reducible repeat' first | assumption | rfl | apply agree_brgExec | apply agree_iRet | (intro _ _ _) | (intro _ _))

theorem agree_execBrgLoop {P : List Part} {s0 : State} (core : Fin 16) {s : State} (h_brg : Part.brg ∈ P) (h_hlt : Part.hlt ∈ P) (h_out : Part.out ∈ P) (h_regs : Part.regs ∈ P) (hk : Agree P s0 s) :
    ∀ t, execBrgLoop core s = .next t → Agree P s0 t := by
  intro t ht
  unfold execBrgLoop at ht
  try dsimp only at ht
  all_goals (repeat' first | (cases ht) | split at ht)
  all_goals (with_reducible repeat' first | assumption | rfl | apply agree_brgExec | apply agree_iLoop | (intro _ _ _) | (intro _ _))

theorem agree_execBrgPut {P : List Part} {s0 : State} (core : Fin 16) {s : State} (h_brg : Part.brg ∈ P) (h_hlt : Part.hlt ∈ P) (h_out : Part.out ∈ P) (h_regs : Part.regs ∈ P) (hk : Agree P s0 s) :
    ∀ t, execBrgPut core s = .next t → Agree P s0 t := by
  intro t ht
  unfold execBrgPut at ht
  try dsimp only at ht
  all_goals (repeat' first | (cases ht) | split at ht)
  all_goals (with_reducible repeat' first | assumption | rfl | apply agree_brgExec | apply agree_iPut | (intro _ _ _) | (intro _ _))

theorem agree_execBrgDir {P : List Part} {s0 : State} (core : Fin 16) {s : State} (h_brg : Part.brg ∈ P) (h_hlt : Part.hlt ∈ P) (h_out : Part.out ∈ P) (h_regs : Part.regs ∈ P) (h_trp : Part.trp ∈ P) (hk : Agree P s0 s) :
    ∀ t, execBrgDir core s = .next t → Agree P s0 t := by
  intro t ht
  unfold execBrgDir at ht
  try dsimp only at ht
  all_goals (repeat' first | (cases ht) | split at ht)
  all_goals (with_reducible repeat' first | assumption | rfl | apply agree_brgExec | apply agree_iDir | (intro _ _ _) | (intro _ _))

theorem agree_execBrgPost {P : List Part} {s0 : State} (core : Fin 16) {s : State} (h_brg : Part.brg ∈ P) (h_hlt : Part.hlt ∈ P) (h_out : Part.out ∈ P) (h_regs : Part.regs ∈ P) (h_wm : Part.wm ∈ P) (hk : Agree P s0 s) :
    ∀ t, execBrgPost core s = .next t → Agree P s0 t := by
  intro t ht
  unfold execBrgPost at ht
  try dsimp only at ht
  all_goals (repeat' first | (cases ht) | split at ht)
  all_goals (with_reducible repeat' first | assumption | rfl | apply agree_brgExec | apply agree_iPost | (intro _ _ _) | (intro _ _))

theorem agree_execBrgWaitt {P : List Part} {s0 : State} (core : Fin 16) {s : State} (h_brg : Part.brg ∈ P) (h_hlt : Part.hlt ∈ P) (h_out : Part.out ∈ P) (h_regs : Part.regs ∈ P) (hk : Agree P s0 s) :
    ∀ t, execBrgWaitt core s = .next t → Agree P s0 t := by
  intro t ht
  unfold execBrgWaitt at ht
  try dsimp only at ht
  all_goals (repeat' first | (cases ht) | split at ht)
  all_goals (with_reducible repeat' first | assumption | rfl | apply agree_brgExec | apply agree_iWaitt | (intro _ _ _) | (intro _ _))

theorem agree_execBrgWaiti {P : List Part} {s0 : State} (core : Fin 16) {s : State} (h_brg : Part.brg ∈ P) (h_hlt : Part.hlt ∈ P) (h_out : Part.out ∈ P) (h_regs : Part.regs ∈ P) (hk : Agree P s0 s) :
    ∀ t, execBrgWaiti core s = .next t → Agree P s0 t := by
  intro t ht
  unfold execBrgWaiti at ht
  try dsimp only at ht
  all_goals (repeat' first | (cases ht) | split at ht)
  all_goals (with_reducible repeat' first | assumption | rfl | apply agree_brgExec | apply agree_iWaiti | (intro _ _ _) | (intro _ _))

theorem agree_execBrgReti {P : List Part} {s0 : State} (core : Fin 16) {s : State} (h_brg : Part.brg ∈ P) (h_hlt : Part.hlt ∈ P) (h_out : Part.out ∈ P) (h_regs : Part.regs ∈ P) (hk : Agree P s0 s) :
    ∀ t, execBrgReti core s = .next t → Agree P s0 t := by
  intro t ht
  unfold execBrgReti at ht
  try dsimp only at ht
  all_goals (repeat' first | (cases ht) | split at ht)
  all_goals (with_reducible repeat' first | assumption | rfl | apply agree_brgExec | apply agree_iReti | (intro _ _ _) | (intro _ _))

theorem agree_execBrgEi {P : List Part} {s0 : State} (core : Fin 16) {s : State} (h_brg : Part.brg ∈ P) (h_hlt : Part.hlt ∈ P) (h_out : Part.out ∈ P) (h_regs : Part.regs ∈ P) (hk : Agree P s0 s) :
    ∀ t, execBrgEi core s = .next t → Agree P s0 t := by
  intro t ht
  unfold execBrgEi at ht
  try dsimp only at ht
  all_goals (repeat' first | (cases ht) | split at ht)
  all_goals (with_reducible repeat' first | assumption | rfl | apply agree_brgExec | apply agree_iEi | (intro _ _ _) | (intro _ _))

theorem agree_execBrgDi {P : List Part} {s0 : State} (core : Fin 16) {s : State} (h_brg : Part.brg ∈ P) (h_hlt : Part.hlt ∈ P) (h_out : Part.out ∈ P) (h_regs : Part.regs ∈ P) (hk : Agree P s0 s) :
    ∀ t, execBrgDi core s = .next t → Agree P s0 t := by
  intro t ht
  unfold execBrgDi at ht
  try dsimp only at ht
  all_goals (repeat' first | (cases ht) | split at ht)
  all_goals (with_reducible repeat' first | assumption | rfl | apply agree_brgExec | apply agree_iDi | (intro _ _ _) | (intro _ _))

theorem agree_execBrgHalt {P : List Part} {s0 : State} (core : Fin 16) {s : State} (h_brg : Part.brg ∈ P) (h_hlt : Part.hlt ∈ P) (h_out : Part.out ∈ P) (h_regs : Part.regs ∈ P) (hk : Agree P s0 s) :
    ∀ t, execBrgHalt core s = .next t → Agree P s0 t := by
  intro t ht
  unfold execBrgHalt at ht
  try dsimp only at ht
  all_goals (repeat' first | (cases ht) | split at ht)
  all_goals (with_reducible repeat' first | assumption | rfl | apply agree_brgExec | apply agree_iHalt | (intro _ _ _) | (intro _ _))

end Sys2Proof.Machine
end

