-- ==== Sys2Proof/Laws/AgreeGrt.lean ====
section
/-! SUPPORT. What the operations of Machine/Grt leave alone (Laws/Agree). -/

namespace Sys2Proof.Machine

theorem agree_grtReview {P : List Part} {s0 : State} (d : Nat) {s : State} (h_grt : Part.grt ∈ P) (h_hlt : Part.hlt ∈ P) (h_out : Part.out ∈ P) (h_regs : Part.regs ∈ P) (hk : Agree P s0 s) :
    Agree P s0 (grtReview d s) := by
  unfold grtReview
  try dsimp only
  all_goals (with_reducible repeat' first | assumption | rfl | apply agree_ite | apply agree_ite_st | apply agree_ite_snd | apply agree_raise | (intro _ _ _) | (intro _ _) | split | refine agree_snd ?_ (by assumption) | refine agree_snd2 ?_ (by assumption) | refine agree_st ?_ (by assumption) | refine agree_get ?_ (by assumption) | refine agree_get2 ?_ (by assumption) | apply agree_with_grt)

theorem agree_grtReviewAll {P : List Part} {s0 : State} {s : State} (h_grt : Part.grt ∈ P) (h_hlt : Part.hlt ∈ P) (h_out : Part.out ∈ P) (h_regs : Part.regs ∈ P) (hk : Agree P s0 s) :
    Agree P s0 (grtReviewAll s) := by
  unfold grtReviewAll
  try dsimp only
  all_goals (with_reducible repeat' first | assumption | rfl | apply agree_foldS | apply agree_grtReview | (intro _ _ _))

theorem agree_grtOnRoute {P : List Part} {s0 : State} (t : RouteTab) (d : Nat) (r : Nat) (f : Frame) {s : State} (h_frm : Part.frm ∈ P) (h_grt : Part.grt ∈ P) (h_hlt : Part.hlt ∈ P) (h_out : Part.out ∈ P) (h_regs : Part.regs ∈ P) (hk : Agree P s0 s) :
    Agree P s0 (grtOnRoute t d r f s) := by
  unfold grtOnRoute
  try dsimp only
  all_goals (with_reducible repeat' first | assumption | rfl | apply agree_ite | apply agree_ite_st | apply agree_ite_snd | apply agree_inc | apply agree_nextSeq | apply agree_raise | apply agree_sendLanes | split | refine agree_snd ?_ (by assumption) | refine agree_snd2 ?_ (by assumption) | refine agree_st ?_ (by assumption) | refine agree_get ?_ (by assumption) | refine agree_get2 ?_ (by assumption) | apply agree_with_grt)

theorem agree_grtSend {P : List Part} {s0 : State} (t : RouteTab) (d : Nat) (f : Frame) {s : State} (h_frm : Part.frm ∈ P) (h_grt : Part.grt ∈ P) (h_hlt : Part.hlt ∈ P) (h_out : Part.out ∈ P) (h_regs : Part.regs ∈ P) (hk : Agree P s0 s) :
    Agree P s0 (grtSend t d f s) := by
  unfold grtSend
  try dsimp only
  all_goals (with_reducible repeat' first | assumption | rfl | apply agree_grtOnRoute | apply agree_grtReview)

theorem agree_toStaging {P : List Part} {s0 : State} (octet : Option Nat) (link : Nat) (f : Frame) {s : State} (h_stg : Part.stg ∈ P) (hk : Agree P s0 s) :
    Agree P s0 (toStaging octet link f s) := by
  unfold toStaging
  try dsimp only
  all_goals (with_reducible repeat' first | assumption | rfl | split | refine agree_snd ?_ (by assumption) | refine agree_snd2 ?_ (by assumption) | refine agree_st ?_ (by assumption) | refine agree_get ?_ (by assumption) | refine agree_get2 ?_ (by assumption) | apply agree_with_stg)

theorem agree_arrayForward {P : List Part} {s0 : State} (w : Waymark) {s : State} (h_frm : Part.frm ∈ P) (h_grt : Part.grt ∈ P) (h_hlt : Part.hlt ∈ P) (h_out : Part.out ∈ P) (h_regs : Part.regs ∈ P) (hk : Agree P s0 s) :
    Agree P s0 (arrayForward w s) := by
  unfold arrayForward
  try dsimp only
  all_goals (with_reducible repeat' first | assumption | rfl | apply agree_ite | apply agree_ite_st | apply agree_ite_snd | apply agree_foldS | apply agree_grtSend | (intro _ _ _))

theorem agree_grtMark {P : List Part} {s0 : State} (w : Waymark) {s : State} (h_frm : Part.frm ∈ P) (h_grt : Part.grt ∈ P) (h_hlt : Part.hlt ∈ P) (h_out : Part.out ∈ P) (h_regs : Part.regs ∈ P) (h_wm : Part.wm ∈ P) (hk : Agree P s0 s) :
    Agree P s0 (grtMark w s) := by
  unfold grtMark
  try dsimp only
  all_goals (with_reducible repeat' first | assumption | rfl | apply agree_ite | apply agree_ite_st | apply agree_ite_snd | apply agree_arrayForward | apply agree_passMark)

theorem agree_grtCommit {P : List Part} {s0 : State} {s : State} (h_grt : Part.grt ∈ P) (h_regs : Part.regs ∈ P) (hk : Agree P s0 s) :
    Agree P s0 (grtCommit s) := by
  unfold grtCommit
  try dsimp only
  all_goals (with_reducible repeat' first | assumption | rfl | apply agree_wf | split | refine agree_snd ?_ (by assumption) | refine agree_snd2 ?_ (by assumption) | refine agree_st ?_ (by assumption) | refine agree_get ?_ (by assumption) | refine agree_get2 ?_ (by assumption) | apply agree_with_grt)

theorem agree_grtCommitAt {P : List Part} {s0 : State} (i : Nat) {s : State} (h_grt : Part.grt ∈ P) (h_regs : Part.regs ∈ P) (hk : Agree P s0 s) :
    Agree P s0 (grtCommitAt i s) := by
  unfold grtCommitAt
  try dsimp only
  all_goals (with_reducible repeat' first | assumption | rfl | apply agree_ite | apply agree_ite_st | apply agree_ite_snd | apply agree_grtCommit | split | refine agree_snd ?_ (by assumption) | refine agree_snd2 ?_ (by assumption) | refine agree_st ?_ (by assumption) | refine agree_get ?_ (by assumption) | refine agree_get2 ?_ (by assumption) | apply agree_with_grt)

theorem agree_grtSendRun {P : List Part} {s0 : State} (run : List SpecIn) {s : State} (h_frm : Part.frm ∈ P) (h_grt : Part.grt ∈ P) (h_hlt : Part.hlt ∈ P) (h_out : Part.out ∈ P) (h_regs : Part.regs ∈ P) (h_stg : Part.stg ∈ P) (hk : Agree P s0 s) :
    Agree P s0 (grtSendRun run s) := by
  unfold grtSendRun
  try dsimp only
  all_goals (with_reducible repeat' first | assumption | rfl | apply agree_ite | apply agree_ite_st | apply agree_ite_snd | apply agree_foldS | apply agree_grtOnRoute | apply agree_grtSend | apply agree_inc | apply agree_toStaging | (intro _ _ _) | (intro _ _) | split)

theorem agree_grtTake {P : List Part} {s0 : State} (n : Nat) (link : Nat) (f : Frame) {s : State} (h_cad : Part.cad ∈ P) (h_hlt : Part.hlt ∈ P) (h_out : Part.out ∈ P) (h_regs : Part.regs ∈ P) (h_stg : Part.stg ∈ P) (h_wm : Part.wm ∈ P) (hk : Agree P s0 s) :
    Agree P s0 (grtTake n link f s) := by
  unfold grtTake
  try dsimp only
  all_goals (with_reducible repeat' first | assumption | rfl | apply agree_ite | apply agree_ite_st | apply agree_ite_snd | apply agree_inc | apply agree_raise | apply agree_setRxBytes | apply agree_toStaging | (intro _ _ _) | (intro _ _) | split | refine agree_snd ?_ (by assumption) | refine agree_snd2 ?_ (by assumption) | refine agree_st ?_ (by assumption) | refine agree_get ?_ (by assumption) | refine agree_get2 ?_ (by assumption) | apply agree_with_wm)

theorem agree_grtRelay {P : List Part} {s0 : State} (d : Nat) (f : Frame) {s : State} (h_frm : Part.frm ∈ P) (h_out : Part.out ∈ P) (h_regs : Part.regs ∈ P) (hk : Agree P s0 s) :
    Agree P s0 (grtRelay d f s) := by
  unfold grtRelay
  try dsimp only
  all_goals (with_reducible repeat' first | assumption | rfl | apply agree_ite | apply agree_ite_st | apply agree_ite_snd | apply agree_inc | apply agree_sendLanes | split)

theorem agree_grtDeliver {P : List Part} {s0 : State} (n : Nat) (link : Nat) (dest : Nat) (key : Nat) (f : Frame) {s : State} (h_cad : Part.cad ∈ P) (h_frm : Part.frm ∈ P) (h_hlt : Part.hlt ∈ P) (h_out : Part.out ∈ P) (h_regs : Part.regs ∈ P) (h_stg : Part.stg ∈ P) (h_wm : Part.wm ∈ P) (hk : Agree P s0 s) :
    Agree P s0 (grtDeliver n link dest key f s) := by
  unfold grtDeliver
  try dsimp only
  all_goals (with_reducible repeat' first | assumption | rfl | apply agree_ite | apply agree_ite_st | apply agree_ite_snd | apply agree_State_setFlow | apply agree_grtRelay | apply agree_grtTake | apply agree_seqGap)

theorem agree_grtDrain {P : List Part} {s0 : State} (link : Nat) (dest : Nat) (key : Nat) (x0 : Nat) {x1 : State} (h_cad : Part.cad ∈ P) (h_frm : Part.frm ∈ P) (h_hlt : Part.hlt ∈ P) (h_out : Part.out ∈ P) (h_regs : Part.regs ∈ P) (h_stg : Part.stg ∈ P) (h_wm : Part.wm ∈ P) (hk : Agree P s0 x1) :
    Agree P s0 (grtDrain link dest key x0 x1) := by
  fun_induction grtDrain
  all_goals (with_reducible repeat' first | assumption | rfl | apply_assumption | apply agree_State_setFlow | apply agree_grtDeliver)

theorem agree_grtRx {P : List Part} {s0 : State} (n : Nat) (f : Frame) (chk : Nat) {s : State} (h_cad : Part.cad ∈ P) (h_frm : Part.frm ∈ P) (h_hlt : Part.hlt ∈ P) (h_out : Part.out ∈ P) (h_regs : Part.regs ∈ P) (h_stg : Part.stg ∈ P) (h_wm : Part.wm ∈ P) (hk : Agree P s0 s) :
    Agree P s0 (grtRx n f chk s) := by
  unfold grtRx
  try dsimp only
  all_goals (with_reducible repeat' first | assumption | rfl | apply agree_ite | apply agree_ite_st | apply agree_ite_snd | apply agree_State_setFlow | apply agree_grtDeliver | apply agree_grtDrain | apply agree_inc | apply agree_raise | apply agree_rxLane | split | refine agree_snd ?_ (by assumption))

theorem agree_grtReorderClose {P : List Part} {s0 : State} (link : Nat) (dest : Nat) (key : Nat) (x0 : Nat) {x1 : State} (h_cad : Part.cad ∈ P) (h_frm : Part.frm ∈ P) (h_hlt : Part.hlt ∈ P) (h_out : Part.out ∈ P) (h_regs : Part.regs ∈ P) (h_stg : Part.stg ∈ P) (h_wm : Part.wm ∈ P) (hk : Agree P s0 x1) :
    Agree P s0 (grtReorderClose link dest key x0 x1) := by
  fun_induction grtReorderClose
  all_goals (with_reducible repeat' first | assumption | rfl | apply_assumption | apply agree_State_setFlow | apply agree_grtDeliver)

theorem agree_execReorderTimeout {P : List Part} {s0 : State} (path : Fin 80) (dest : Fin 64) (control : Bool) (chip : Fin 64) {s : State} (h_cad : Part.cad ∈ P) (h_dec : Part.dec ∈ P) (h_frm : Part.frm ∈ P) (h_hlt : Part.hlt ∈ P) (h_out : Part.out ∈ P) (h_regs : Part.regs ∈ P) (h_stg : Part.stg ∈ P) (h_wm : Part.wm ∈ P) (hk : Agree P s0 s) :
    ∀ t, execReorderTimeout path dest control chip s = .next t → Agree P s0 t := by
  intro t ht
  unfold execReorderTimeout at ht
  try dsimp only at ht
  all_goals (repeat' first | (cases ht) | split at ht)
  all_goals (with_reducible repeat' first | assumption | rfl | apply agree_ite | apply agree_ite_st | apply agree_ite_snd | apply agree_grtReorderClose | apply agree_reorderClose)

theorem agree_execLaneTrainComplete {P : List Part} {s0 : State} (lane : Fin 96) (lock : Bool) (height : BitVec 8) (width : BitVec 8) {s : State} (h_frm : Part.frm ∈ P) (h_grt : Part.grt ∈ P) (h_hlt : Part.hlt ∈ P) (h_lns : Part.lns ∈ P) (h_out : Part.out ∈ P) (h_regs : Part.regs ∈ P) (hk : Agree P s0 s) :
    ∀ t, execLaneTrainComplete lane lock height width s = .next t → Agree P s0 t := by
  intro t ht
  unfold execLaneTrainComplete at ht
  try dsimp only at ht
  all_goals (repeat' first | (cases ht) | split at ht)
  all_goals (with_reducible repeat' first | assumption | rfl | apply agree_ite | apply agree_ite_st | apply agree_ite_snd | apply agree_State_setLane | apply agree_checkEye | apply agree_enterActive | apply agree_grtReviewAll | apply agree_raise | apply agree_wf)

theorem agree_execLaneDown {P : List Part} {s0 : State} (lane : Fin 96) {s : State} (h_frm : Part.frm ∈ P) (h_grt : Part.grt ∈ P) (h_hlt : Part.hlt ∈ P) (h_lns : Part.lns ∈ P) (h_out : Part.out ∈ P) (h_regs : Part.regs ∈ P) (hk : Agree P s0 s) :
    ∀ t, execLaneDown lane s = .next t → Agree P s0 t := by
  intro t ht
  unfold execLaneDown at ht
  try dsimp only at ht
  all_goals (repeat' first | (cases ht) | split at ht)
  all_goals (with_reducible repeat' first | assumption | rfl | apply agree_ite | apply agree_ite_st | apply agree_ite_snd | apply agree_State_setLane | apply agree_grtReviewAll | apply agree_raise | apply agree_startTraining | apply agree_wf)

theorem agree_execLinkinfoRx {P : List Part} {s0 : State} (lane : Fin 96) (offer : Fin 16) (chip : Fin 64) {s : State} (h_hlt : Part.hlt ∈ P) (h_lns : Part.lns ∈ P) (h_out : Part.out ∈ P) (h_regs : Part.regs ∈ P) (hk : Agree P s0 s) :
    ∀ t, execLinkinfoRx lane offer chip s = .next t → Agree P s0 t := by
  intro t ht
  unfold execLinkinfoRx at ht
  try dsimp only at ht
  all_goals (repeat' first | (cases ht) | split at ht)
  all_goals (with_reducible repeat' first | assumption | rfl | apply agree_ite | apply agree_ite_st | apply agree_ite_snd | apply agree_State_setLane | apply agree_fixGen | apply agree_raise | apply agree_setReg)

theorem agree_execGraticuleFrameRx {P : List Part} {s0 : State} (lane : Fin 96) (f : Frame) (check : Nat) {s : State} (h_cad : Part.cad ∈ P) (h_frm : Part.frm ∈ P) (h_hlt : Part.hlt ∈ P) (h_out : Part.out ∈ P) (h_regs : Part.regs ∈ P) (h_stg : Part.stg ∈ P) (h_wm : Part.wm ∈ P) (hk : Agree P s0 s) :
    ∀ t, execGraticuleFrameRx lane f check s = .next t → Agree P s0 t := by
  intro t ht
  unfold execGraticuleFrameRx at ht
  try dsimp only at ht
  all_goals (repeat' first | (cases ht) | split at ht)
  all_goals (with_reducible repeat' first | assumption | rfl | apply agree_ite | apply agree_ite_st | apply agree_ite_snd | apply agree_grtRx)

theorem agree_execGrtApplyCommit {P : List Part} {s0 : State} {s : State} (h_grt : Part.grt ∈ P) (h_regs : Part.regs ∈ P) (hk : Agree P s0 s) :
    ∀ t, execGrtApplyCommit s = .next t → Agree P s0 t := by
  intro t ht
  unfold execGrtApplyCommit at ht
  try dsimp only at ht
  all_goals (repeat' first | (cases ht) | split at ht)
  all_goals (with_reducible repeat' first | assumption | rfl | apply agree_grtCommit)

theorem agree_execGrtSpectrumSend {P : List Part} {s0 : State} {s : State} (h_frm : Part.frm ∈ P) (h_grt : Part.grt ∈ P) (h_hlt : Part.hlt ∈ P) (h_out : Part.out ∈ P) (h_regs : Part.regs ∈ P) (h_stg : Part.stg ∈ P) (hk : Agree P s0 s) :
    ∀ t, execGrtSpectrumSend s = .next t → Agree P s0 t := by
  intro t ht
  unfold execGrtSpectrumSend at ht
  try dsimp only at ht
  all_goals (repeat' first | (cases ht) | split at ht)
  all_goals (with_reducible repeat' first | assumption | rfl | apply agree_foldS | apply agree_grtCommitAt | apply agree_grtSendRun | (intro _ _ _) | (intro _ _) | split | refine agree_snd ?_ (by assumption) | refine agree_snd2 ?_ (by assumption) | refine agree_st ?_ (by assumption) | refine agree_get ?_ (by assumption) | refine agree_get2 ?_ (by assumption) | apply agree_with_grt)

end Sys2Proof.Machine
end

