-- ==== Sys2Proof/Laws/AgreeStg.lean ====
section
/-! SUPPORT. What the operations of Machine/Stg leave alone (Laws/Agree). -/

namespace Sys2Proof.Machine

theorem agree_setStgState {P : List Part} {s0 : State} (n : Nat) {s : State} (h_regs : Part.regs ∈ P) (hk : Agree P s0 s) :
    Agree P s0 (setStgState n s) := by
  unfold setStgState
  try dsimp only
  all_goals (with_reducible repeat' first | assumption | rfl | apply agree_setReg)

theorem agree_writeMask {P : List Part} {s0 : State} (n : Nat) {s : State} (h_hbm : Part.hbm ∈ P) (h_hlt : Part.hlt ∈ P) (h_mem : Part.mem ∈ P) (h_out : Part.out ∈ P) (h_regs : Part.regs ∈ P) (hk : Agree P s0 s) :
    Agree P s0 (writeMask n s) := by
  unfold writeMask
  try dsimp only
  all_goals (with_reducible repeat' first | assumption | rfl | apply agree_hbmPut)

theorem agree_withRemask {P : List Part} {s0 : State} (f : State → State) {s : State} (hf : ∀  t, Agree P s0 t → Agree P s0 (f  t)) (h_hbm : Part.hbm ∈ P) (h_hlt : Part.hlt ∈ P) (h_mem : Part.mem ∈ P) (h_out : Part.out ∈ P) (h_regs : Part.regs ∈ P) (hk : Agree P s0 s) :
    Agree P s0 (withRemask f s) := by
  unfold withRemask
  try dsimp only
  all_goals (with_reducible repeat' first | assumption | rfl | apply agree_ite | apply agree_ite_st | apply agree_ite_snd | apply agree_foldS | apply agree_inc | apply agree_writeMask | apply hf | (intro _ _ _))

theorem agree_stgModel {P : List Part} {s0 : State} (w : Waymark) {s : State} (h_hlt : Part.hlt ∈ P) (h_out : Part.out ∈ P) (h_regs : Part.regs ∈ P) (h_stg : Part.stg ∈ P) (hk : Agree P s0 s) :
    Agree P s0 (stgModel w s) := by
  unfold stgModel
  try dsimp only
  all_goals (with_reducible repeat' first | assumption | rfl | apply agree_ite | apply agree_ite_st | apply agree_ite_snd | apply agree_raise | apply agree_setReg64 | (intro _ _ _) | (intro _ _) | split | refine agree_snd ?_ (by assumption) | refine agree_snd2 ?_ (by assumption) | refine agree_st ?_ (by assumption) | refine agree_get ?_ (by assumption) | refine agree_get2 ?_ (by assumption) | apply agree_with_stg)

theorem agree_addVoids {P : List Part} {s0 : State} (js : List Nat) (lo : Nat) (hi : Option Nat) {s : State} (h_stg : Part.stg ∈ P) (hk : Agree P s0 s) :
    Agree P s0 (addVoids js lo hi s) := by
  unfold addVoids
  try dsimp only
  all_goals (with_reducible repeat' first | assumption | rfl | apply agree_foldS | (intro _ _ _) | (intro _ _) | split | refine agree_snd ?_ (by assumption) | refine agree_snd2 ?_ (by assumption) | refine agree_st ?_ (by assumption) | refine agree_get ?_ (by assumption) | refine agree_get2 ?_ (by assumption) | apply agree_with_stg)

theorem agree_endVoids {P : List Part} {s0 : State} (js : List Nat) (sp : Nat) {s : State} (h_stg : Part.stg ∈ P) (hk : Agree P s0 s) :
    Agree P s0 (endVoids js sp s) := by
  unfold endVoids
  try dsimp only
  all_goals (with_reducible repeat' first | assumption | rfl | apply agree_foldS | (intro _ _ _) | (intro _ _) | split | refine agree_snd ?_ (by assumption) | refine agree_snd2 ?_ (by assumption) | refine agree_st ?_ (by assumption) | refine agree_get ?_ (by assumption) | refine agree_get2 ?_ (by assumption) | apply agree_with_stg)

theorem agree_stgApply {P : List Part} {s0 : State} (w : Waymark) {s : State} (h_hbm : Part.hbm ∈ P) (h_hlt : Part.hlt ∈ P) (h_mem : Part.mem ∈ P) (h_out : Part.out ∈ P) (h_regs : Part.regs ∈ P) (h_stg : Part.stg ∈ P) (h_tru : Part.tru ∈ P) (hk : Agree P s0 s) :
    Agree P s0 (stgApply w s) := by
  unfold stgApply
  grind [agree_addVoids, agree_endVoids, agree_genApply, agree_withRemask, agree_with_stg]

theorem agree_stgForward {P : List Part} {s0 : State} (w : Waymark) {s : State} (h_stg : Part.stg ∈ P) (hk : Agree P s0 s) :
    Agree P s0 (stgForward w s) := by
  unfold stgForward
  try dsimp only
  all_goals (with_reducible repeat' first | assumption | rfl | split | refine agree_snd ?_ (by assumption) | refine agree_snd2 ?_ (by assumption) | refine agree_st ?_ (by assumption) | refine agree_get ?_ (by assumption) | refine agree_get2 ?_ (by assumption) | apply agree_with_stg)

theorem agree_stgDue {P : List Part} {s0 : State} {s : State} (h_hbm : Part.hbm ∈ P) (h_hlt : Part.hlt ∈ P) (h_mem : Part.mem ∈ P) (h_out : Part.out ∈ P) (h_regs : Part.regs ∈ P) (h_stg : Part.stg ∈ P) (h_tru : Part.tru ∈ P) (h_wm : Part.wm ∈ P) (hk : Agree P s0 s) :
    Agree P s0 (stgDue s) := by
  unfold stgDue
  try dsimp only
  all_goals (with_reducible repeat' first | assumption | rfl | apply agree_ite | apply agree_ite_st | apply agree_ite_snd | apply agree_foldS | apply agree_noteApplied | apply agree_stgApply | apply agree_stgForward | apply agree_takeDue | (intro _ _ _))

theorem agree_stgHalt {P : List Part} {s0 : State} {s : State} (h_cad : Part.cad ∈ P) (h_hlt : Part.hlt ∈ P) (h_out : Part.out ∈ P) (h_regs : Part.regs ∈ P) (h_stg : Part.stg ∈ P) (h_wm : Part.wm ∈ P) (hk : Agree P s0 s) :
    Agree P s0 (stgHalt s) := by
  unfold stgHalt
  refine agree_foldS _ _ (fun x t h => ?_) (agree_setStgState _ h_regs (agree_step hk (fun p hp => by cases p <;> first | exact absurd h_wm hp | exact absurd h_stg hp | rfl | exact fun _ => rfl)))
  split
  · exact agree_rxRelease _ _ h_cad h_hlt h_out h_regs h
  · exact h

theorem agree_stgStop {P : List Part} {s0 : State} (now : Bool) {s : State} (h_cad : Part.cad ∈ P) (h_hlt : Part.hlt ∈ P) (h_out : Part.out ∈ P) (h_regs : Part.regs ∈ P) (h_stg : Part.stg ∈ P) (h_wm : Part.wm ∈ P) (hk : Agree P s0 s) :
    Agree P s0 (stgStop now s) := by
  unfold stgStop
  try dsimp only
  all_goals (with_reducible repeat' first | assumption | rfl | apply agree_ite | apply agree_ite_st | apply agree_ite_snd | apply agree_setReg | apply agree_stgHalt | (intro _ _ _) | (intro _ _) | split | refine agree_snd ?_ (by assumption) | refine agree_snd2 ?_ (by assumption) | refine agree_st ?_ (by assumption) | refine agree_get ?_ (by assumption) | refine agree_get2 ?_ (by assumption) | apply agree_with_stg)

theorem agree_stgFinish {P : List Part} {s0 : State} {s : State} (h_cad : Part.cad ∈ P) (h_hlt : Part.hlt ∈ P) (h_out : Part.out ∈ P) (h_regs : Part.regs ∈ P) (h_stg : Part.stg ∈ P) (h_wm : Part.wm ∈ P) (hk : Agree P s0 s) :
    Agree P s0 (stgFinish s) := by
  unfold stgFinish
  try dsimp only
  all_goals (with_reducible repeat' first | assumption | rfl | apply agree_ite | apply agree_ite_st | apply agree_ite_snd | apply agree_stgHalt | split)

theorem agree_stgBoundary {P : List Part} {s0 : State} {s : State} (h_cad : Part.cad ∈ P) (h_hlt : Part.hlt ∈ P) (h_out : Part.out ∈ P) (h_regs : Part.regs ∈ P) (h_stg : Part.stg ∈ P) (h_wm : Part.wm ∈ P) (hk : Agree P s0 s) :
    Agree P s0 (stgBoundary s) := by
  unfold stgBoundary
  try dsimp only
  all_goals (with_reducible repeat' first | assumption | rfl | apply agree_ite | apply agree_ite_st | apply agree_ite_snd | apply agree_setStgState | apply agree_stgFinish | split | refine agree_snd ?_ (by assumption) | refine agree_snd2 ?_ (by assumption) | refine agree_st ?_ (by assumption) | refine agree_get ?_ (by assumption) | refine agree_get2 ?_ (by assumption) | apply agree_with_stg)

theorem agree_noteSource {P : List Part} {s0 : State} (f : Frame) (link : Nat) {s : State} (h_stg : Part.stg ∈ P) (hk : Agree P s0 s) :
    Agree P s0 (noteSource f link s) := by
  unfold noteSource
  try dsimp only
  all_goals (with_reducible repeat' first | assumption | rfl | split | refine agree_snd ?_ (by assumption) | refine agree_snd2 ?_ (by assumption) | refine agree_st ?_ (by assumption) | refine agree_get ?_ (by assumption) | refine agree_get2 ?_ (by assumption) | apply agree_with_stg)

theorem agree_ringStore {P : List Part} {s0 : State} (f : Frame) {s : State} (h_hbm : Part.hbm ∈ P) (h_hlt : Part.hlt ∈ P) (h_mem : Part.mem ∈ P) (h_out : Part.out ∈ P) (h_regs : Part.regs ∈ P) (h_stg : Part.stg ∈ P) (hk : Agree P s0 s) :
    Agree P s0 (ringStore f s) := by
  unfold ringStore
  try dsimp only
  all_goals (with_reducible repeat' first | assumption | rfl | apply agree_ite | apply agree_ite_st | apply agree_ite_snd | apply agree_foldS | apply agree_hbmPut | (intro _ _ _) | (intro _ _) | split | refine agree_snd ?_ (by assumption) | refine agree_snd2 ?_ (by assumption) | refine agree_st ?_ (by assumption) | refine agree_get ?_ (by assumption) | refine agree_get2 ?_ (by assumption) | apply agree_with_stg)

theorem agree_ringHold {P : List Part} {s0 : State} (n : Nat) (cs : List Nat) {s : State} (h_hlt : Part.hlt ∈ P) (h_out : Part.out ∈ P) (h_regs : Part.regs ∈ P) (h_stg : Part.stg ∈ P) (hk : Agree P s0 s) :
    Agree P s0 (ringHold n cs s) := by
  unfold ringHold
  try dsimp only
  all_goals (with_reducible repeat' first | assumption | rfl | apply agree_ite | apply agree_ite_st | apply agree_ite_snd | apply agree_foldS | apply agree_inc | apply agree_raise | (intro _ _ _) | (intro _ _) | split | refine agree_snd ?_ (by assumption) | refine agree_snd2 ?_ (by assumption) | refine agree_st ?_ (by assumption) | refine agree_get ?_ (by assumption) | refine agree_get2 ?_ (by assumption) | apply agree_with_stg)

theorem agree_stgTake {P : List Part} {s0 : State} {s : State} (h_cad : Part.cad ∈ P) (h_hbm : Part.hbm ∈ P) (h_hlt : Part.hlt ∈ P) (h_mem : Part.mem ∈ P) (h_out : Part.out ∈ P) (h_regs : Part.regs ∈ P) (h_stg : Part.stg ∈ P) (h_wm : Part.wm ∈ P) (hk : Agree P s0 s) :
    Agree P s0 (stgTake s) := by
  unfold stgTake
  try dsimp only
  all_goals (with_reducible repeat' first | assumption | rfl | apply agree_ite | apply agree_ite_st | apply agree_ite_snd | apply agree_inc | apply agree_noteSource | apply agree_raise | apply agree_ringHold | apply agree_ringStore | apply agree_rxRelease | apply agree_stgBoundary | (intro _ _ _) | (intro _ _) | split | refine agree_snd ?_ (by assumption) | refine agree_snd2 ?_ (by assumption) | refine agree_st ?_ (by assumption) | refine agree_get ?_ (by assumption) | refine agree_get2 ?_ (by assumption) | apply agree_with_stg)

theorem agree_closeBlock {P : List Part} {s0 : State} {s : State} (h_hbm : Part.hbm ∈ P) (h_hlt : Part.hlt ∈ P) (h_mem : Part.mem ∈ P) (h_out : Part.out ∈ P) (h_regs : Part.regs ∈ P) (h_stg : Part.stg ∈ P) (h_tru : Part.tru ∈ P) (h_wm : Part.wm ∈ P) (hk : Agree P s0 s) :
    Agree P s0 (closeBlock s) := by
  unfold closeBlock
  try dsimp only
  all_goals (with_reducible repeat' first | assumption | rfl | apply agree_inc | apply agree_stgDue | apply agree_writeMask | split | refine agree_snd ?_ (by assumption) | refine agree_snd2 ?_ (by assumption) | refine agree_st ?_ (by assumption) | refine agree_get ?_ (by assumption) | refine agree_get2 ?_ (by assumption) | apply agree_with_stg)

theorem agree_blockClose {P : List Part} {s0 : State} {s : State} (h_hbm : Part.hbm ∈ P) (h_hlt : Part.hlt ∈ P) (h_mem : Part.mem ∈ P) (h_out : Part.out ∈ P) (h_regs : Part.regs ∈ P) (h_stg : Part.stg ∈ P) (h_tru : Part.tru ∈ P) (h_wm : Part.wm ∈ P) (hk : Agree P s0 s) :
    Agree P s0 (blockClose s) := by
  unfold blockClose
  try dsimp only
  all_goals (with_reducible repeat' first | assumption | rfl | apply agree_ite | apply agree_ite_st | apply agree_ite_snd | apply agree_closeBlock)

theorem agree_closeTimeout {P : List Part} {s0 : State} {s : State} (h_hbm : Part.hbm ∈ P) (h_hlt : Part.hlt ∈ P) (h_mem : Part.mem ∈ P) (h_out : Part.out ∈ P) (h_regs : Part.regs ∈ P) (h_stg : Part.stg ∈ P) (h_tru : Part.tru ∈ P) (h_wm : Part.wm ∈ P) (hk : Agree P s0 s) :
    Agree P s0 (closeTimeout s) := by
  unfold closeTimeout
  try dsimp only
  all_goals (with_reducible repeat' first | assumption | rfl | apply agree_ite | apply agree_ite_st | apply agree_ite_snd | apply agree_closeBlock | apply agree_raise)

theorem agree_readModels {P : List Part} {s0 : State} (q : Nat) {s : State} (h_hlt : Part.hlt ∈ P) (h_mem : Part.mem ∈ P) (h_out : Part.out ∈ P) (h_regs : Part.regs ∈ P) (hk : Agree P s0 s) :
    Agree P s0 (readModels q s).2 := by
  unfold readModels
  try dsimp only
  all_goals (with_reducible repeat' first | assumption | rfl | apply agree_ite | apply agree_ite_st | apply agree_ite_snd | apply agree_hbmGet)

theorem agree_readGains {P : List Part} {s0 : State} (b : Nat) (c : Nat) {s : State} (h_hlt : Part.hlt ∈ P) (h_mem : Part.mem ∈ P) (h_out : Part.out ∈ P) (h_regs : Part.regs ∈ P) (hk : Agree P s0 s) :
    Agree P s0 (readGains b c s).2 := by
  unfold readGains
  try dsimp only
  all_goals (with_reducible repeat' first | assumption | rfl | apply agree_ite | apply agree_ite_st | apply agree_ite_snd | apply agree_hbmGet)

theorem agree_readEach {P : List Part} {s0 : State} {α : Type} (f : Nat → State → α × State) (x0 : List Nat) {x1 : State} (hf : ∀ y0 t, Agree P s0 t → Agree P s0 (f y0 t).2)  (hk : Agree P s0 x1) :
    Agree P s0 (readEach f x0 x1).2 := by
  fun_induction readEach
  all_goals (try dsimp only)
  all_goals (with_reducible repeat' first | assumption | rfl | apply_assumption | apply hf | split | refine agree_snd ?_ (by assumption))

theorem agree_voidUncovered {P : List Part} {s0 : State} (n : Nat) (k : Nat) {s : State} (h_hbm : Part.hbm ∈ P) (h_hlt : Part.hlt ∈ P) (h_mem : Part.mem ∈ P) (h_out : Part.out ∈ P) (h_regs : Part.regs ∈ P) (h_stg : Part.stg ∈ P) (hk : Agree P s0 s) :
    Agree P s0 (voidUncovered n k s) := by
  unfold voidUncovered
  try dsimp only
  all_goals (with_reducible repeat' first | assumption | rfl | apply agree_ite | apply agree_ite_st | apply agree_ite_snd | apply agree_addVoids | apply agree_raise | apply agree_withRemask | (intro _ _ _) | (intro _ _) | split)

theorem agree_readMask {P : List Part} {s0 : State} (n : Nat) (k : Nat) {s : State} (h_hlt : Part.hlt ∈ P) (h_mem : Part.mem ∈ P) (h_out : Part.out ∈ P) (h_regs : Part.regs ∈ P) (hk : Agree P s0 s) :
    Agree P s0 (readMask n k s).2.2 := by
  unfold readMask
  try dsimp only
  all_goals (with_reducible repeat' first | assumption | rfl | apply agree_ite | apply agree_ite_st | apply agree_ite_snd | apply agree_hbmGet | (intro _ _ _) | (intro _ _) | split)

theorem agree_stageData {P : List Part} {s0 : State} {s : State} (h_hbm : Part.hbm ∈ P) (h_hlt : Part.hlt ∈ P) (h_mem : Part.mem ∈ P) (h_out : Part.out ∈ P) (h_regs : Part.regs ∈ P) (h_stg : Part.stg ∈ P) (hk : Agree P s0 s) :
    Agree P s0 (stageData s).2 := by
  unfold stageData
  try dsimp only
  all_goals (with_reducible repeat' first | assumption | rfl | apply agree_ite | apply agree_ite_st | apply agree_ite_snd | apply agree_hbmGet | apply agree_inc | apply agree_raise | apply agree_readEach | apply agree_readGains | apply agree_readMask | apply agree_readModels | apply agree_voidUncovered | (intro _ _ _) | (intro _ _) | split | refine agree_snd ?_ (by assumption) | refine agree_snd2 ?_ (by assumption) | refine agree_st ?_ (by assumption) | refine agree_get ?_ (by assumption) | refine agree_get2 ?_ (by assumption) | apply agree_with_stg)

theorem agree_stgAdvance {P : List Part} {s0 : State} {s : State} (h_cad : Part.cad ∈ P) (h_hlt : Part.hlt ∈ P) (h_out : Part.out ∈ P) (h_regs : Part.regs ∈ P) (h_stg : Part.stg ∈ P) (h_wm : Part.wm ∈ P) (hk : Agree P s0 s) :
    Agree P s0 (stgAdvance s) := by
  unfold stgAdvance
  try dsimp only
  all_goals (with_reducible repeat' first | assumption | rfl | apply agree_ite | apply agree_ite_st | apply agree_ite_snd | apply agree_stgFinish | (intro _ _ _) | (intro _ _) | split | refine agree_snd ?_ (by assumption) | refine agree_snd2 ?_ (by assumption) | refine agree_st ?_ (by assumption) | refine agree_get ?_ (by assumption) | refine agree_get2 ?_ (by assumption) | apply agree_with_stg)

theorem agree_execStgBlockBoundary {P : List Part} {s0 : State} {s : State} (h_cad : Part.cad ∈ P) (h_hlt : Part.hlt ∈ P) (h_out : Part.out ∈ P) (h_regs : Part.regs ∈ P) (h_stg : Part.stg ∈ P) (h_wm : Part.wm ∈ P) (hk : Agree P s0 s) :
    ∀ t, execStgBlockBoundary s = .next t → Agree P s0 t := by
  intro t ht
  unfold execStgBlockBoundary at ht
  try dsimp only at ht
  all_goals (repeat' first | (cases ht) | split at ht)
  all_goals (with_reducible repeat' first | assumption | rfl | apply agree_stgBoundary)

theorem agree_execStgFrameWrite {P : List Part} {s0 : State} {s : State} (h_cad : Part.cad ∈ P) (h_hbm : Part.hbm ∈ P) (h_hlt : Part.hlt ∈ P) (h_mem : Part.mem ∈ P) (h_out : Part.out ∈ P) (h_regs : Part.regs ∈ P) (h_stg : Part.stg ∈ P) (h_wm : Part.wm ∈ P) (hk : Agree P s0 s) :
    ∀ t, execStgFrameWrite s = .next t → Agree P s0 t := by
  intro t ht
  unfold execStgFrameWrite at ht
  try dsimp only at ht
  all_goals (repeat' first | (cases ht) | split at ht)
  all_goals (with_reducible repeat' first | assumption | rfl | apply agree_stgTake)

theorem agree_execRingHoldRelease {P : List Part} {s0 : State} {s : State} (h_cad : Part.cad ∈ P) (h_hbm : Part.hbm ∈ P) (h_hlt : Part.hlt ∈ P) (h_mem : Part.mem ∈ P) (h_out : Part.out ∈ P) (h_regs : Part.regs ∈ P) (h_stg : Part.stg ∈ P) (h_wm : Part.wm ∈ P) (hk : Agree P s0 s) :
    ∀ t, execRingHoldRelease s = .next t → Agree P s0 t := by
  intro t ht
  unfold execRingHoldRelease at ht
  try dsimp only at ht
  all_goals (repeat' first | (cases ht) | split at ht)
  all_goals (with_reducible repeat' first | assumption | rfl | apply agree_ite | apply agree_ite_st | apply agree_ite_snd | apply agree_stgTake)

end Sys2Proof.Machine
end

