-- ==== Sys2Proof/Laws/AgreeAtl.lean ====
section
/-! SUPPORT. What the operations of Machine/Atl leave alone (Laws/Agree). -/

namespace Sys2Proof.Machine

theorem agree_State_setDesc {P : List Part} {s0 : State} (i : Nat) (d : Desc) {s : State} (h_atl : Part.atl ∈ P) (hk : Agree P s0 s) :
    Agree P s0 (State.setDesc i d s) := by
  unfold State.setDesc
  try dsimp only
  all_goals (with_reducible repeat' first | assumption | rfl | split | refine agree_snd ?_ (by assumption) | refine agree_snd2 ?_ (by assumption) | refine agree_st ?_ (by assumption) | refine agree_get ?_ (by assumption) | refine agree_get2 ?_ (by assumption) | apply agree_with_atl)

theorem agree_State_modDesc {P : List Part} {s0 : State} (i : Nat) (f : Desc → Desc) {s : State} (h_atl : Part.atl ∈ P) (hk : Agree P s0 s) :
    Agree P s0 (State.modDesc i f s) := by
  unfold State.modDesc
  try dsimp only
  all_goals (with_reducible repeat' first | assumption | rfl | apply agree_State_setDesc)

theorem agree_notePeak {P : List Part} {s0 : State} {s : State} (h_regs : Part.regs ∈ P) (hk : Agree P s0 s) :
    Agree P s0 (notePeak s) := by
  unfold notePeak
  try dsimp only
  all_goals (with_reducible repeat' first | assumption | rfl | apply agree_ite | apply agree_ite_st | apply agree_ite_snd | apply agree_setReg)

theorem agree_setSlot {P : List Part} {s0 : State} (n : Nat) (l : List (Nat × Nat)) {s : State} (h_atl : Part.atl ∈ P) (hk : Agree P s0 s) :
    Agree P s0 (setSlot n l s) := by
  unfold setSlot
  try dsimp only
  all_goals (with_reducible repeat' first | assumption | rfl | split | refine agree_snd ?_ (by assumption) | refine agree_snd2 ?_ (by assumption) | refine agree_st ?_ (by assumption) | refine agree_get ?_ (by assumption) | refine agree_get2 ?_ (by assumption) | apply agree_with_atl)

theorem agree_setExcl {P : List Part} {s0 : State} (n : Nat) (b : Bool) {s : State} (h_regs : Part.regs ∈ P) (hk : Agree P s0 s) :
    Agree P s0 (setExcl n b s) := by
  unfold setExcl
  try dsimp only
  all_goals (with_reducible repeat' first | assumption | rfl | apply agree_ite | apply agree_ite_st | apply agree_ite_snd | apply agree_setReg)

theorem agree_allocPage {P : List Part} {s0 : State} (p : Nat) (fast : Nat) {s : State} (h_atl : Part.atl ∈ P) (hk : Agree P s0 s) :
    ∀ r, allocPage p fast s = some r → Agree P s0 r.2 := by
  intro t ht
  unfold allocPage at ht
  try dsimp only at ht
  all_goals (repeat' first | (cases ht) | split at ht)
  all_goals (with_reducible repeat' first | assumption | rfl | apply agree_ite | apply agree_ite_st | apply agree_ite_snd | (intro _ _ _) | (intro _ _) | split | refine agree_snd ?_ (by assumption) | refine agree_snd2 ?_ (by assumption) | refine agree_st ?_ (by assumption) | refine agree_get ?_ (by assumption) | refine agree_get2 ?_ (by assumption) | apply agree_with_atl)

theorem agree_poisonTile {P : List Part} {s0 : State} (i : Nat) (cause : Nat) {s : State} (h_atl : Part.atl ∈ P) (h_hlt : Part.hlt ∈ P) (h_out : Part.out ∈ P) (h_regs : Part.regs ∈ P) (hk : Agree P s0 s) :
    Agree P s0 (poisonTile i cause s) := by
  unfold poisonTile
  try dsimp only
  all_goals (with_reducible repeat' first | assumption | rfl | apply agree_ite | apply agree_ite_st | apply agree_ite_snd | apply agree_State_setDesc | apply agree_inc | apply agree_raise)

theorem agree_toZero {P : List Part} {s0 : State} (i : Nat) {s : State} (h_atl : Part.atl ∈ P) (hk : Agree P s0 s) :
    Agree P s0 (toZero i s) := by
  unfold toZero
  try dsimp only
  all_goals (with_reducible repeat' first | assumption | rfl | apply agree_ite | apply agree_ite_st | apply agree_ite_snd | apply agree_State_setDesc | apply agree_setSlot)

theorem agree_unown {P : List Part} {s0 : State} (i : Nat) {s : State} (h_atl : Part.atl ∈ P) (hk : Agree P s0 s) :
    Agree P s0 (unown i s) := by
  unfold unown
  try dsimp only
  all_goals (with_reducible repeat' first | assumption | rfl | apply agree_State_modDesc)

theorem agree_dropTiles {P : List Part} {s0 : State} (p : Nat) {s : State} (h_atl : Part.atl ∈ P) (hk : Agree P s0 s) :
    Agree P s0 (dropTiles p s) := by
  unfold dropTiles
  try dsimp only
  all_goals (with_reducible repeat' first | assumption | rfl | (intro _ _ _) | (intro _ _) | split | refine agree_snd ?_ (by assumption) | refine agree_snd2 ?_ (by assumption) | refine agree_st ?_ (by assumption) | refine agree_get ?_ (by assumption) | refine agree_get2 ?_ (by assumption) | apply agree_with_atl)

theorem agree_statsReset {P : List Part} {s0 : State} (p : Nat) {s : State} (h_atl : Part.atl ∈ P) (hk : Agree P s0 s) :
    Agree P s0 (statsReset p s) := by
  unfold statsReset
  try dsimp only
  all_goals (with_reducible repeat' first | assumption | rfl | apply agree_ite | apply agree_ite_st | apply agree_ite_snd | (intro _ _ _) | (intro _ _) | split | refine agree_snd ?_ (by assumption) | refine agree_snd2 ?_ (by assumption) | refine agree_st ?_ (by assumption) | refine agree_get ?_ (by assumption) | refine agree_get2 ?_ (by assumption) | apply agree_with_atl)

theorem agree_setRegion {P : List Part} {s0 : State} (p : Nat) (base : Nat) (shape : Nat) {s : State} (h_atl : Part.atl ∈ P) (h_regs : Part.regs ∈ P) (hk : Agree P s0 s) :
    Agree P s0 (setRegion p base shape s) := by
  unfold setRegion
  try dsimp only
  all_goals (with_reducible repeat' first | assumption | rfl | apply agree_ite | apply agree_ite_st | apply agree_ite_snd | apply agree_dropTiles | apply agree_setReg | apply agree_statsReset)

theorem agree_declare {P : List Part} {s0 : State} (p : Nat) (ts : List (Nat × Nat × Nat)) {s : State} (h_atl : Part.atl ∈ P) (hk : Agree P s0 s) :
    Agree P s0 (declare p ts s) := by
  unfold declare
  try dsimp only
  all_goals (with_reducible repeat' first | assumption | rfl | apply agree_ite | apply agree_ite_st | apply agree_ite_snd | apply agree_State_setDesc | apply agree_foldS | (intro _ _ _) | (intro _ _) | split | refine agree_snd ?_ (by assumption) | refine agree_snd2 ?_ (by assumption) | refine agree_st ?_ (by assumption) | refine agree_get ?_ (by assumption) | refine agree_get2 ?_ (by assumption) | apply agree_with_atl)

theorem agree_opTake {P : List Part} {s0 : State} (o : TileOp) {s : State} (h_atl : Part.atl ∈ P) (hk : Agree P s0 s) :
    Agree P s0 (opTake o s) := by
  unfold opTake
  try dsimp only
  all_goals (with_reducible repeat' first | assumption | rfl | apply agree_State_modDesc | apply agree_foldS | (intro _ _ _) | (intro _ _) | split | refine agree_snd ?_ (by assumption) | refine agree_snd2 ?_ (by assumption) | refine agree_st ?_ (by assumption) | refine agree_get ?_ (by assumption) | refine agree_get2 ?_ (by assumption) | apply agree_with_atl)

theorem agree_opIssue {P : List Part} {s0 : State} (o : TileOp) {s : State} (h_atl : Part.atl ∈ P) (h_hlt : Part.hlt ∈ P) (h_out : Part.out ∈ P) (h_regs : Part.regs ∈ P) (hk : Agree P s0 s) :
    Agree P s0 (opIssue o s).2 := by
  unfold opIssue
  try dsimp only
  all_goals (with_reducible repeat' first | assumption | rfl | apply agree_ite | apply agree_ite_st | apply agree_ite_snd | apply agree_inc | apply agree_opTake | apply agree_raise | split | refine agree_snd ?_ (by assumption) | refine agree_snd2 ?_ (by assumption) | refine agree_st ?_ (by assumption) | refine agree_get ?_ (by assumption) | refine agree_get2 ?_ (by assumption) | apply agree_with_atl)

theorem agree_opWithdraw {P : List Part} {s0 : State} (id : Nat) {s : State} (h_atl : Part.atl ∈ P) (hk : Agree P s0 s) :
    Agree P s0 (opWithdraw id s) := by
  unfold opWithdraw
  try dsimp only
  all_goals (with_reducible repeat' first | assumption | rfl | (intro _ _ _) | (intro _ _) | split | refine agree_snd ?_ (by assumption) | refine agree_snd2 ?_ (by assumption) | refine agree_st ?_ (by assumption) | refine agree_get ?_ (by assumption) | refine agree_get2 ?_ (by assumption) | apply agree_with_atl)

theorem agree_opRetire {P : List Part} {s0 : State} (id : Nat) {s : State} (h_atl : Part.atl ∈ P) (hk : Agree P s0 s) :
    Agree P s0 (opRetire id s) := by
  unfold opRetire
  try dsimp only
  all_goals (with_reducible repeat' first | assumption | rfl | apply agree_foldS | apply agree_unown | (intro _ _ _) | (intro _ _) | split | refine agree_snd ?_ (by assumption) | refine agree_snd2 ?_ (by assumption) | refine agree_st ?_ (by assumption) | refine agree_get ?_ (by assumption) | refine agree_get2 ?_ (by assumption) | apply agree_with_atl)

theorem agree_opUndo {P : List Part} {s0 : State} (id : Nat) {s : State} (h_atl : Part.atl ∈ P) (hk : Agree P s0 s) :
    Agree P s0 (opUndo id s) := by
  unfold opUndo
  try dsimp only
  all_goals (with_reducible repeat' first | assumption | rfl | apply agree_ite | apply agree_ite_st | apply agree_ite_snd | apply agree_State_setDesc | apply agree_foldS | apply agree_opRetire | apply agree_toZero | (intro _ _ _) | (intro _ _) | split | refine agree_snd ?_ (by assumption) | refine agree_snd2 ?_ (by assumption) | refine agree_st ?_ (by assumption) | refine agree_get ?_ (by assumption) | refine agree_get2 ?_ (by assumption) | apply agree_with_atl)

theorem agree_setHost {P : List Part} {s0 : State} (n : Nat) {s : State} (h_atl : Part.atl ∈ P) (hk : Agree P s0 s) :
    Agree P s0 (setHost n s) := by
  unfold setHost
  try dsimp only
  all_goals (with_reducible repeat' first | assumption | rfl | split | refine agree_snd ?_ (by assumption) | refine agree_snd2 ?_ (by assumption) | refine agree_st ?_ (by assumption) | refine agree_get ?_ (by assumption) | refine agree_get2 ?_ (by assumption) | apply agree_with_atl)

theorem agree_hostResult {P : List Part} {s0 : State} (r : Nat) {s : State} (h_regs : Part.regs ∈ P) (hk : Agree P s0 s) :
    Agree P s0 (hostResult r s) := by
  unfold hostResult
  try dsimp only
  all_goals (with_reducible repeat' first | assumption | rfl | apply agree_wf)

theorem agree_hostStart {P : List Part} {s0 : State} (fast : Nat) {s : State} (h_atl : Part.atl ∈ P) (h_regs : Part.regs ∈ P) (hk : Agree P s0 s) :
    Agree P s0 (hostStart fast s) := by
  unfold hostStart
  try dsimp only
  all_goals (with_reducible repeat' first | assumption | rfl | apply agree_ite | apply agree_ite_st | apply agree_ite_snd | apply agree_State_setDesc | refine agree_allocPage _ _ (by assumption) ?_ | apply agree_hostResult | apply agree_opRetire | apply agree_setHost | split | refine agree_snd ?_ (by assumption) | refine agree_snd2 ?_ (by assumption) | refine agree_st ?_ (by assumption) | refine agree_get ?_ (by assumption) | refine agree_get2 ?_ (by assumption))

theorem agree_ownershipGrant {P : List Part} {s0 : State} (k : Nat) (fast : Nat) {s : State} (h_atl : Part.atl ∈ P) (h_regs : Part.regs ∈ P) (hk : Agree P s0 s) :
    Agree P s0 (ownershipGrant k fast s) := by
  unfold ownershipGrant
  try dsimp only
  all_goals (with_reducible repeat' first | assumption | rfl | apply agree_ite | apply agree_ite_st | apply agree_ite_snd | apply agree_hostStart | apply agree_opTake | apply agree_opWithdraw | split)

theorem agree_tileValue {P : List Part} {s0 : State} (port : Nat) (i : Nat) {s : State} (h_hlt : Part.hlt ∈ P) (h_mem : Part.mem ∈ P) (h_out : Part.out ∈ P) (h_regs : Part.regs ∈ P) (hk : Agree P s0 s) :
    Agree P s0 (tileValue port i s).2.2 := by
  unfold tileValue
  try dsimp only
  all_goals (with_reducible repeat' first | assumption | rfl | apply agree_ite | apply agree_ite_st | apply agree_ite_snd | apply agree_hbmGet | split)

theorem agree_pageOutDone {P : List Part} {s0 : State} (i : Nat) {s : State} (h_atl : Part.atl ∈ P) (h_hbm : Part.hbm ∈ P) (h_hlt : Part.hlt ∈ P) (h_mem : Part.mem ∈ P) (h_out : Part.out ∈ P) (h_regs : Part.regs ∈ P) (hk : Agree P s0 s) :
    Agree P s0 (pageOutDone i s) := by
  unfold pageOutDone
  try dsimp only
  all_goals (with_reducible repeat' first | assumption | rfl | apply agree_ite | apply agree_ite_st | apply agree_ite_snd | apply agree_State_setDesc | apply agree_hbmPut | apply agree_inc | apply agree_setSlot | apply agree_toZero)

theorem agree_hostComplete {P : List Part} {s0 : State} (fast : Nat) {s : State} (h_atl : Part.atl ∈ P) (h_hbm : Part.hbm ∈ P) (h_hlt : Part.hlt ∈ P) (h_mem : Part.mem ∈ P) (h_out : Part.out ∈ P) (h_regs : Part.regs ∈ P) (hk : Agree P s0 s) :
    Agree P s0 (hostComplete fast s) := by
  unfold hostComplete
  try dsimp only
  all_goals (with_reducible repeat' first | assumption | rfl | apply agree_ite | apply agree_ite_st | apply agree_ite_snd | apply agree_hbmPut | apply agree_hostResult | apply agree_hostStart | apply agree_opRetire | apply agree_pageOutDone | apply agree_poisonTile | apply agree_setHost | apply agree_tileValue | split)

theorem agree_pageOutStart {P : List Part} {s0 : State} (fast : Nat) {s : State} (h_atl : Part.atl ∈ P) (h_hlt : Part.hlt ∈ P) (h_out : Part.out ∈ P) (h_regs : Part.regs ∈ P) (hk : Agree P s0 s) :
    Agree P s0 (pageOutStart fast s) := by
  unfold pageOutStart
  try dsimp only
  all_goals (with_reducible repeat' first | assumption | rfl | apply agree_ite | apply agree_ite_st | apply agree_ite_snd | apply agree_State_setDesc | refine agree_allocPage _ _ (by assumption) ?_ | apply agree_raise | split | refine agree_snd ?_ (by assumption) | refine agree_snd2 ?_ (by assumption) | refine agree_st ?_ (by assumption) | refine agree_get ?_ (by assumption) | refine agree_get2 ?_ (by assumption) | apply agree_with_atl)

theorem agree_pageInStart {P : List Part} {s0 : State} {s : State} (h_atl : Part.atl ∈ P) (h_regs : Part.regs ∈ P) (hk : Agree P s0 s) :
    Agree P s0 (pageInStart s) := by
  unfold pageInStart
  try dsimp only
  all_goals (with_reducible repeat' first | assumption | rfl | apply agree_State_modDesc | apply agree_notePeak | (intro _ _ _) | (intro _ _) | split)

theorem agree_pageInDone {P : List Part} {s0 : State} (i : Nat) {s : State} (h_atl : Part.atl ∈ P) (h_hlt : Part.hlt ∈ P) (h_mem : Part.mem ∈ P) (h_out : Part.out ∈ P) (h_regs : Part.regs ∈ P) (hk : Agree P s0 s) :
    Agree P s0 (pageInDone i s) := by
  unfold pageInDone
  try dsimp only
  all_goals (with_reducible repeat' first | assumption | rfl | apply agree_ite | apply agree_ite_st | apply agree_ite_snd | apply agree_State_setDesc | apply agree_inc | apply agree_poisonTile | apply agree_raise | apply agree_setSlot | apply agree_tileValue | apply agree_toZero)

theorem agree_quarCheck {P : List Part} {s0 : State} (x0 : Nat) {x1 : State} (h_atl : Part.atl ∈ P) (h_hlt : Part.hlt ∈ P) (h_out : Part.out ∈ P) (h_regs : Part.regs ∈ P) (hk : Agree P s0 x1) :
    Agree P s0 (quarCheck x0 x1) := by
  fun_induction quarCheck
  all_goals (try dsimp only)
  all_goals (with_reducible repeat' first | assumption | rfl | apply_assumption | apply agree_ite | apply agree_ite_st | apply agree_ite_snd | apply agree_raise | apply agree_wf | split | refine agree_snd ?_ (by assumption) | refine agree_snd2 ?_ (by assumption) | refine agree_st ?_ (by assumption) | refine agree_get ?_ (by assumption) | refine agree_get2 ?_ (by assumption) | apply agree_with_atl)

theorem agree_quarantine {P : List Part} {s0 : State} (n : Nat) (host : Bool) {s : State} (h_atl : Part.atl ∈ P) (h_hlt : Part.hlt ∈ P) (h_out : Part.out ∈ P) (h_regs : Part.regs ∈ P) (hk : Agree P s0 s) :
    Agree P s0 (quarantine n host s) := by
  unfold quarantine
  try dsimp only
  all_goals (with_reducible repeat' first | assumption | rfl | apply agree_ite | apply agree_ite_st | apply agree_ite_snd | apply agree_quarCheck | apply agree_raise | apply agree_setExcl | split | refine agree_snd ?_ (by assumption) | refine agree_snd2 ?_ (by assumption) | refine agree_st ?_ (by assumption) | refine agree_get ?_ (by assumption) | refine agree_get2 ?_ (by assumption) | apply agree_with_atl)

theorem agree_atlDegraded {P : List Part} {s0 : State} (n : Nat) {s : State} (h_atl : Part.atl ∈ P) (h_hlt : Part.hlt ∈ P) (h_out : Part.out ∈ P) (h_regs : Part.regs ∈ P) (hk : Agree P s0 s) :
    Agree P s0 (atlDegraded n s) := by
  unfold atlDegraded
  try dsimp only
  all_goals (with_reducible repeat' first | assumption | rfl | apply agree_ite | apply agree_ite_st | apply agree_ite_snd | apply agree_quarantine)

theorem agree_moveStart {P : List Part} {s0 : State} (fast : Nat) (i : Nat) {s : State} (h_atl : Part.atl ∈ P) (hk : Agree P s0 s) :
    ∀ r, moveStart fast i s = some r → Agree P s0 r := by
  intro t ht
  unfold moveStart at ht
  try dsimp only at ht
  all_goals (repeat' first | (cases ht) | split at ht)
  all_goals (with_reducible repeat' first | assumption | rfl | apply agree_State_setDesc | refine agree_allocPage _ _ (by assumption) ?_ | split | refine agree_snd ?_ (by assumption) | refine agree_snd2 ?_ (by assumption) | refine agree_st ?_ (by assumption) | refine agree_get ?_ (by assumption) | refine agree_get2 ?_ (by assumption))

theorem agree_movesStart {P : List Part} {s0 : State} (fast : Nat) (x0 : List Nat) {x1 : State} (h_atl : Part.atl ∈ P) (hk : Agree P s0 x1) :
    Agree P s0 (movesStart fast x0 x1).2 := by
  fun_induction movesStart
  all_goals (try dsimp only)
  all_goals (with_reducible repeat' first | assumption | rfl | apply_assumption | refine agree_moveStart _ _ (by assumption) ?_ | split | refine agree_snd ?_ (by assumption) | refine agree_snd2 ?_ (by assumption) | refine agree_st ?_ (by assumption) | refine agree_get ?_ (by assumption))

theorem agree_quarStep {P : List Part} {s0 : State} (fast : Nat) {s : State} (h_atl : Part.atl ∈ P) (h_hlt : Part.hlt ∈ P) (h_out : Part.out ∈ P) (h_regs : Part.regs ∈ P) (hk : Agree P s0 s) :
    Agree P s0 (quarStep fast s) := by
  unfold quarStep
  try dsimp only
  all_goals (with_reducible repeat' first | assumption | rfl | apply agree_ite | apply agree_ite_st | apply agree_ite_snd | apply agree_movesStart | apply agree_raise | apply agree_wf | (intro _ _ _) | (intro _ _) | split | refine agree_snd ?_ (by assumption) | refine agree_snd2 ?_ (by assumption) | refine agree_st ?_ (by assumption) | refine agree_get ?_ (by assumption) | refine agree_get2 ?_ (by assumption) | apply agree_with_atl)

theorem agree_moveCommit {P : List Part} {s0 : State} (i : Nat) {s : State} (h_atl : Part.atl ∈ P) (h_hbm : Part.hbm ∈ P) (h_hlt : Part.hlt ∈ P) (h_mem : Part.mem ∈ P) (h_out : Part.out ∈ P) (h_regs : Part.regs ∈ P) (hk : Agree P s0 s) :
    Agree P s0 (moveCommit i s) := by
  unfold moveCommit
  try dsimp only
  all_goals (with_reducible repeat' first | assumption | rfl | apply agree_ite | apply agree_ite_st | apply agree_ite_snd | apply agree_State_setDesc | apply agree_hbmPut | apply agree_inc | apply agree_poisonTile | apply agree_quarCheck | apply agree_raise | apply agree_tileValue | apply agree_toZero | split | refine agree_snd ?_ (by assumption) | refine agree_snd2 ?_ (by assumption) | refine agree_st ?_ (by assumption) | refine agree_get ?_ (by assumption) | refine agree_get2 ?_ (by assumption) | apply agree_with_atl)

theorem agree_statsCheck {P : List Part} {s0 : State} {s : State} (h_atl : Part.atl ∈ P) (h_hlt : Part.hlt ∈ P) (h_out : Part.out ∈ P) (h_regs : Part.regs ∈ P) (hk : Agree P s0 s) :
    Agree P s0 (statsCheck s) := by
  unfold statsCheck
  try dsimp only
  all_goals (with_reducible repeat' first | assumption | rfl | apply agree_ite | apply agree_ite_st | apply agree_ite_snd | apply agree_foldS | apply agree_raise | (intro _ _ _) | (intro _ _) | split | refine agree_snd ?_ (by assumption) | refine agree_snd2 ?_ (by assumption) | refine agree_st ?_ (by assumption) | refine agree_get ?_ (by assumption) | refine agree_get2 ?_ (by assumption) | apply agree_with_atl)

theorem agree_statsBlock {P : List Part} {s0 : State} (n : Nat) {s : State} (h_atl : Part.atl ∈ P) (h_hlt : Part.hlt ∈ P) (h_out : Part.out ∈ P) (h_regs : Part.regs ∈ P) (hk : Agree P s0 s) :
    Agree P s0 (statsBlock n s) := by
  unfold statsBlock
  try dsimp only
  all_goals (with_reducible repeat' first | assumption | rfl | apply agree_statsCheck | (intro _ _ _) | (intro _ _) | split | refine agree_snd ?_ (by assumption) | refine agree_snd2 ?_ (by assumption) | refine agree_st ?_ (by assumption) | refine agree_get ?_ (by assumption) | refine agree_get2 ?_ (by assumption) | apply agree_with_atl)

theorem agree_descError {P : List Part} {s0 : State} (i : Nat) (err : Nat) {s : State} (h_atl : Part.atl ∈ P) (h_hlt : Part.hlt ∈ P) (h_out : Part.out ∈ P) (h_regs : Part.regs ∈ P) (hk : Agree P s0 s) :
    Agree P s0 (descError i err s) := by
  unfold descError
  try dsimp only
  all_goals (with_reducible repeat' first | assumption | rfl | apply agree_ite | apply agree_ite_st | apply agree_ite_snd | apply agree_State_modDesc | apply agree_inc | apply agree_poisonTile | apply agree_raise | apply agree_toZero | (intro _ _ _) | (intro _ _) | split)

theorem agree_execOwnershipGrant {P : List Part} {s0 : State} (cls : Fin 16) (fast : Fin 64) {s : State} (h_atl : Part.atl ∈ P) (h_regs : Part.regs ∈ P) (hk : Agree P s0 s) :
    ∀ t, execOwnershipGrant cls fast s = .next t → Agree P s0 t := by
  intro t ht
  unfold execOwnershipGrant at ht
  try dsimp only at ht
  all_goals (repeat' first | (cases ht) | split at ht)
  all_goals (with_reducible repeat' first | assumption | rfl | apply agree_ownershipGrant)

theorem agree_execPageOutStart {P : List Part} {s0 : State} (fast : Fin 64) {s : State} (h_atl : Part.atl ∈ P) (h_hlt : Part.hlt ∈ P) (h_out : Part.out ∈ P) (h_regs : Part.regs ∈ P) (hk : Agree P s0 s) :
    ∀ t, execPageOutStart fast s = .next t → Agree P s0 t := by
  intro t ht
  unfold execPageOutStart at ht
  try dsimp only at ht
  all_goals (repeat' first | (cases ht) | split at ht)
  all_goals (with_reducible repeat' first | assumption | rfl | apply agree_pageOutStart)

theorem agree_execPageOutComplete {P : List Part} {s0 : State} (index : Fin 4194304) {s : State} (h_atl : Part.atl ∈ P) (h_hbm : Part.hbm ∈ P) (h_hlt : Part.hlt ∈ P) (h_mem : Part.mem ∈ P) (h_out : Part.out ∈ P) (h_regs : Part.regs ∈ P) (hk : Agree P s0 s) :
    ∀ t, execPageOutComplete index s = .next t → Agree P s0 t := by
  intro t ht
  unfold execPageOutComplete at ht
  try dsimp only at ht
  all_goals (repeat' first | (cases ht) | split at ht)
  all_goals (with_reducible repeat' first | assumption | rfl | apply agree_pageOutDone)

theorem agree_execPageInStart {P : List Part} {s0 : State} {s : State} (h_atl : Part.atl ∈ P) (h_regs : Part.regs ∈ P) (hk : Agree P s0 s) :
    ∀ t, execPageInStart s = .next t → Agree P s0 t := by
  intro t ht
  unfold execPageInStart at ht
  try dsimp only at ht
  all_goals (repeat' first | (cases ht) | split at ht)
  all_goals (with_reducible repeat' first | assumption | rfl | apply agree_pageInStart)

theorem agree_execPageInComplete {P : List Part} {s0 : State} (index : Fin 4194304) {s : State} (h_atl : Part.atl ∈ P) (h_hlt : Part.hlt ∈ P) (h_mem : Part.mem ∈ P) (h_out : Part.out ∈ P) (h_regs : Part.regs ∈ P) (hk : Agree P s0 s) :
    ∀ t, execPageInComplete index s = .next t → Agree P s0 t := by
  intro t ht
  unfold execPageInComplete at ht
  try dsimp only at ht
  all_goals (repeat' first | (cases ht) | split at ht)
  all_goals (with_reducible repeat' first | assumption | rfl | apply agree_pageInDone)

theorem agree_execQuarantineMoveStep {P : List Part} {s0 : State} (fast : Fin 64) {s : State} (h_atl : Part.atl ∈ P) (h_hlt : Part.hlt ∈ P) (h_out : Part.out ∈ P) (h_regs : Part.regs ∈ P) (hk : Agree P s0 s) :
    ∀ t, execQuarantineMoveStep fast s = .next t → Agree P s0 t := by
  intro t ht
  unfold execQuarantineMoveStep at ht
  try dsimp only at ht
  all_goals (repeat' first | (cases ht) | split at ht)
  all_goals (with_reducible repeat' first | assumption | rfl | apply agree_quarStep)

theorem agree_execMoveCommit {P : List Part} {s0 : State} (index : Fin 4194304) {s : State} (h_atl : Part.atl ∈ P) (h_hbm : Part.hbm ∈ P) (h_hlt : Part.hlt ∈ P) (h_mem : Part.mem ∈ P) (h_out : Part.out ∈ P) (h_regs : Part.regs ∈ P) (hk : Agree P s0 s) :
    ∀ t, execMoveCommit index s = .next t → Agree P s0 t := by
  intro t ht
  unfold execMoveCommit at ht
  try dsimp only at ht
  all_goals (repeat' first | (cases ht) | split at ht)
  all_goals (with_reducible repeat' first | assumption | rfl | apply agree_moveCommit)

theorem agree_execHostOpComplete {P : List Part} {s0 : State} (fast : Fin 64) {s : State} (h_atl : Part.atl ∈ P) (h_hbm : Part.hbm ∈ P) (h_hlt : Part.hlt ∈ P) (h_mem : Part.mem ∈ P) (h_out : Part.out ∈ P) (h_regs : Part.regs ∈ P) (hk : Agree P s0 s) :
    ∀ t, execHostOpComplete fast s = .next t → Agree P s0 t := by
  intro t ht
  unfold execHostOpComplete at ht
  try dsimp only at ht
  all_goals (repeat' first | (cases ht) | split at ht)
  all_goals (with_reducible repeat' first | assumption | rfl | apply agree_hostComplete)

end Sys2Proof.Machine
end

