-- ==== Sys2Proof/Laws/AgreeXar.lean ====
section
/-! SUPPORT. What the operations of Machine/Xar leave alone (Laws/Agree). -/

namespace Sys2Proof.Machine

theorem agree_State_setArr {P : List Part} {s0 : State} (a : Nat) (x : ArrSt) {s : State} (h_atl : Part.atl ∈ P) (hk : Agree P s0 s) :
    Agree P s0 (State.setArr a x s) := by
  unfold State.setArr
  try dsimp only
  all_goals (with_reducible repeat' first | assumption | rfl | split | refine agree_snd ?_ (by assumption) | refine agree_snd2 ?_ (by assumption) | refine agree_st ?_ (by assumption) | refine agree_get ?_ (by assumption) | refine agree_get2 ?_ (by assumption) | apply agree_with_atl)

theorem agree_freeBufs {P : List Part} {s0 : State} {s : State} (h_stg : Part.stg ∈ P) (hk : Agree P s0 s) :
    Agree P s0 (freeBufs s) := by
  unfold freeBufs
  try dsimp only
  all_goals (with_reducible repeat' first | assumption | rfl | split | refine agree_snd ?_ (by assumption) | refine agree_snd2 ?_ (by assumption) | refine agree_st ?_ (by assumption) | refine agree_get ?_ (by assumption) | refine agree_get2 ?_ (by assumption) | apply agree_with_stg)

theorem agree_countWaits {P : List Part} {s0 : State} {s : State} (h_atl : Part.atl ∈ P) (h_regs : Part.regs ∈ P) (hk : Agree P s0 s) :
    Agree P s0 (countWaits s) := by
  unfold countWaits
  try dsimp only
  all_goals (with_reducible repeat' first | assumption | rfl | apply agree_ite | apply agree_ite_st | apply agree_ite_snd | apply agree_inc | (intro _ _ _) | (intro _ _) | split | refine agree_snd ?_ (by assumption) | refine agree_snd2 ?_ (by assumption) | refine agree_st ?_ (by assumption) | refine agree_get ?_ (by assumption) | refine agree_get2 ?_ (by assumption) | apply agree_with_atl)

theorem agree_givePass {P : List Part} {s0 : State} (a : Nat) (p : Pass) (corr : Nat) (ue : List Nat) {s : State} (h_atl : Part.atl ∈ P) (h_hlt : Part.hlt ∈ P) (h_out : Part.out ∈ P) (h_regs : Part.regs ∈ P) (hk : Agree P s0 s) :
    Agree P s0 (givePass a p corr ue s) := by
  unfold givePass
  try dsimp only
  all_goals (with_reducible repeat' first | assumption | rfl | apply agree_ite | apply agree_ite_st | apply agree_ite_snd | apply agree_State_modDesc | apply agree_State_setArr | apply agree_inc | apply agree_notePeak | apply agree_raise | apply agree_statsCheck | (intro _ _ _) | (intro _ _) | split | refine agree_snd ?_ (by assumption) | refine agree_snd2 ?_ (by assumption) | refine agree_st ?_ (by assumption) | refine agree_get ?_ (by assumption) | refine agree_get2 ?_ (by assumption) | apply agree_with_atl)

theorem agree_passDispatch {P : List Part} {s0 : State} (desc : Nat) (corr : Nat) (ue : List Nat) {s : State} (h_atl : Part.atl ∈ P) (h_hlt : Part.hlt ∈ P) (h_out : Part.out ∈ P) (h_regs : Part.regs ∈ P) (hk : Agree P s0 s) :
    Agree P s0 (passDispatch desc corr ue s) := by
  unfold passDispatch
  try dsimp only
  all_goals (with_reducible repeat' first | assumption | rfl | apply agree_ite | apply agree_ite_st | apply agree_ite_snd | apply agree_countWaits | apply agree_descError | apply agree_givePass | split)

theorem agree_operandErr {P : List Part} {s0 : State} (a : Nat) (b : SubBuf) (p : Pass) (parity : Option (Nat × Nat)) {s : State} (h_hlt : Part.hlt ∈ P) (h_out : Part.out ∈ P) (h_regs : Part.regs ∈ P) (hk : Agree P s0 s) :
    Agree P s0 (operandErr a b p parity s).2 := by
  unfold operandErr
  try dsimp only
  all_goals (with_reducible repeat' first | assumption | rfl | apply agree_ite | apply agree_ite_st | apply agree_ite_snd | apply agree_inc | apply agree_raise)

theorem agree_splitNote {P : List Part} {s0 : State} (p : Pass) {s : State} (h_hlt : Part.hlt ∈ P) (h_out : Part.out ∈ P) (h_regs : Part.regs ∈ P) (hk : Agree P s0 s) :
    Agree P s0 (splitNote p s) := by
  unfold splitNote
  try dsimp only
  all_goals (with_reducible repeat' first | assumption | rfl | apply agree_ite | apply agree_ite_st | apply agree_ite_snd | apply agree_inc | apply agree_raise | (intro _ _ _) | (intro _ _) | split)

theorem agree_passFillEnd {P : List Part} {s0 : State} (a : Nat) (parity : Option (Nat × Nat)) {s : State} (h_atl : Part.atl ∈ P) (h_hlt : Part.hlt ∈ P) (h_out : Part.out ∈ P) (h_regs : Part.regs ∈ P) (h_stg : Part.stg ∈ P) (hk : Agree P s0 s) :
    Agree P s0 (passFillEnd a parity s) := by
  unfold passFillEnd
  try dsimp only
  all_goals (with_reducible repeat' first | assumption | rfl | apply agree_ite | apply agree_ite_st | apply agree_ite_snd | apply agree_State_modDesc | apply agree_State_setArr | apply agree_freeBufs | apply agree_inc | apply agree_operandErr | apply agree_splitNote | (intro _ _ _) | (intro _ _) | split)

theorem agree_isolateIfEmpty {P : List Part} {s0 : State} (a : Nat) {s : State} (h_atl : Part.atl ∈ P) (h_hlt : Part.hlt ∈ P) (h_out : Part.out ∈ P) (h_regs : Part.regs ∈ P) (hk : Agree P s0 s) :
    Agree P s0 (isolateIfEmpty a s) := by
  unfold isolateIfEmpty
  try dsimp only
  all_goals (with_reducible repeat' first | assumption | rfl | apply agree_ite | apply agree_ite_st | apply agree_ite_snd | apply agree_State_setArr | apply agree_raise | apply agree_setReg)

theorem agree_exchangeEnd {P : List Part} {s0 : State} (a : Nat) (upset : Option (Nat × Nat × Nat)) {s : State} (h_atl : Part.atl ∈ P) (h_hlt : Part.hlt ∈ P) (h_out : Part.out ∈ P) (h_regs : Part.regs ∈ P) (hk : Agree P s0 s) :
    Agree P s0 (exchangeEnd a upset s) := by
  unfold exchangeEnd
  try dsimp only
  all_goals (with_reducible repeat' first | assumption | rfl | apply agree_ite | apply agree_ite_st | apply agree_ite_snd | apply agree_State_modDesc | apply agree_State_setArr | apply agree_inc | apply agree_isolateIfEmpty | apply agree_poisonTile | apply agree_raise | apply agree_setSlot | apply agree_toZero | apply agree_unown | (intro _ _ _) | (intro _ _) | split)

theorem agree_xarApply {P : List Part} {s0 : State} (w : Waymark) {s : State} (h_regs : Part.regs ∈ P) (h_xar : Part.xar ∈ P) (hk : Agree P s0 s) :
    Agree P s0 (xarApply w s) := by
  unfold xarApply
  try dsimp only
  all_goals (with_reducible repeat' first | assumption | rfl | apply agree_ite | apply agree_ite_st | apply agree_ite_snd | apply agree_setReg | apply agree_setReg64 | apply agree_wf | split | refine agree_snd ?_ (by assumption) | refine agree_snd2 ?_ (by assumption) | refine agree_st ?_ (by assumption) | refine agree_get ?_ (by assumption) | refine agree_get2 ?_ (by assumption) | apply agree_with_xar)

theorem agree_execExchangeEnd {P : List Part} {s0 : State} (array : Fin 80) (upset : Option (Fin 1024 × Word × Word)) {s : State} (h_atl : Part.atl ∈ P) (h_hlt : Part.hlt ∈ P) (h_out : Part.out ∈ P) (h_regs : Part.regs ∈ P) (hk : Agree P s0 s) :
    ∀ t, execExchangeEnd array upset s = .next t → Agree P s0 t := by
  intro t ht
  unfold execExchangeEnd at ht
  try dsimp only at ht
  all_goals (repeat' first | (cases ht) | split at ht)
  all_goals (with_reducible repeat' first | assumption | rfl | apply agree_exchangeEnd)

end Sys2Proof.Machine
end

