-- ==== Sys2Proof/Laws/AgreeAcc.lean ====
section
/-! SUPPORT. What the operations of Machine/Acc leave alone (Laws/Agree). -/

namespace Sys2Proof.Machine

theorem agree_State_setAplan {P : List Part} {s0 : State} (p : Nat) (x : AccPlan) {s : State} (h_acc : Part.acc ∈ P) (hk : Agree P s0 s) :
    Agree P s0 (State.setAplan p x s) := by
  unfold State.setAplan
  try dsimp only
  all_goals (with_reducible repeat' first | assumption | rfl | apply agree_acc | split | refine agree_snd ?_ (by assumption) | refine agree_snd2 ?_ (by assumption) | refine agree_st ?_ (by assumption) | refine agree_get ?_ (by assumption) | refine agree_get2 ?_ (by assumption) | apply agree_with_acc)

theorem agree_countSat {P : List Part} {s0 : State} (p : Nat) (num : Nat) (n : Nat) {s : State} (h_hlt : Part.hlt ∈ P) (h_out : Part.out ∈ P) (h_regs : Part.regs ∈ P) (hk : Agree P s0 s) :
    Agree P s0 (countSat p num n s) := by
  unfold countSat
  try dsimp only
  all_goals (with_reducible repeat' first | assumption | rfl | apply agree_ite | apply agree_ite_st | apply agree_ite_snd | apply agree_inc | apply agree_raise)

theorem agree_noteBlock {P : List Part} {s0 : State} (p : Nat) (row : BlockRow) {s : State} (h_acc : Part.acc ∈ P) (h_hlt : Part.hlt ∈ P) (h_out : Part.out ∈ P) (h_regs : Part.regs ∈ P) (hk : Agree P s0 s) :
    Agree P s0 (noteBlock p row s) := by
  unfold noteBlock
  try dsimp only
  all_goals (with_reducible repeat' first | assumption | rfl | apply agree_ite | apply agree_ite_st | apply agree_ite_snd | apply agree_State_setAplan | apply agree_inc | apply agree_raise)

theorem agree_accBlockClose {P : List Part} {s0 : State} {s : State} (h_acc : Part.acc ∈ P) (h_hlt : Part.hlt ∈ P) (h_out : Part.out ∈ P) (h_regs : Part.regs ∈ P) (hk : Agree P s0 s) :
    Agree P s0 (accBlockClose s) := by
  unfold accBlockClose
  try dsimp only
  all_goals (with_reducible repeat' first | assumption | rfl | apply agree_ite | apply agree_ite_st | apply agree_ite_snd | apply agree_foldS | apply agree_noteBlock | (intro _ _ _))

theorem agree_accReduce {P : List Part} {s0 : State} (p : Nat) (vis : Bool) (b : SubBuf) {s : State} (h_acc : Part.acc ∈ P) (hk : Agree P s0 s) :
    Agree P s0 (accReduce p vis b s) := by
  unfold accReduce
  try dsimp only
  all_goals (with_reducible repeat' first | assumption | rfl | apply agree_ite | apply agree_ite_st | apply agree_ite_snd | apply agree_State_setAplan)

theorem agree_markFed {P : List Part} {s0 : State} (id : Nat) {s : State} (h_atl : Part.atl ∈ P) (hk : Agree P s0 s) :
    Agree P s0 (markFed id s) := by
  unfold markFed
  try dsimp only
  all_goals (with_reducible repeat' first | assumption | rfl | apply agree_ite | apply agree_ite_st | apply agree_ite_snd | (intro _ _ _) | (intro _ _) | split | refine agree_snd ?_ (by assumption) | refine agree_snd2 ?_ (by assumption) | refine agree_st ?_ (by assumption) | refine agree_get ?_ (by assumption) | refine agree_get2 ?_ (by assumption) | apply agree_with_atl)

theorem agree_takeResult {P : List Part} {s0 : State} (i : Nat) (p : Nat) (n : Nat) {s : State} (h_acc : Part.acc ∈ P) (h_atl : Part.atl ∈ P) (h_hbm : Part.hbm ∈ P) (h_hlt : Part.hlt ∈ P) (h_mem : Part.mem ∈ P) (h_out : Part.out ∈ P) (h_regs : Part.regs ∈ P) (hk : Agree P s0 s) :
    Agree P s0 (takeResult i p n s) := by
  unfold takeResult
  try dsimp only
  all_goals (with_reducible repeat' first | assumption | rfl | apply agree_ite | apply agree_ite_st | apply agree_ite_snd | apply agree_State_setAplan | apply agree_countSat | apply agree_hbmGet | apply agree_hbmPut | apply agree_inc | apply agree_markFed | apply agree_raise | apply agree_sigAdd | apply agree_toZero | apply agree_unown)

theorem agree_blockResult {P : List Part} {s0 : State} (i : Nat) {s : State} (h_acc : Part.acc ∈ P) (h_atl : Part.atl ∈ P) (h_hbm : Part.hbm ∈ P) (h_hlt : Part.hlt ∈ P) (h_mem : Part.mem ∈ P) (h_out : Part.out ∈ P) (h_regs : Part.regs ∈ P) (hk : Agree P s0 s) :
    Agree P s0 (blockResult i s) := by
  unfold blockResult
  try dsimp only
  all_goals (with_reducible repeat' first | assumption | rfl | apply agree_ite | apply agree_ite_st | apply agree_ite_snd | apply agree_State_setAplan | apply agree_inc | apply agree_raise | apply agree_takeResult | apply agree_toZero)

theorem agree_endMerges {P : List Part} {s0 : State} (p : Nat) (status : Nat) {s : State} (h_svy : Part.svy ∈ P) (hk : Agree P s0 s) :
    Agree P s0 (endMerges p status s) := by
  unfold endMerges
  try dsimp only
  all_goals (with_reducible repeat' first | assumption | rfl | apply agree_ite | apply agree_ite_st | apply agree_ite_snd | (intro _ _ _) | (intro _ _) | split | refine agree_snd ?_ (by assumption) | refine agree_snd2 ?_ (by assumption) | refine agree_st ?_ (by assumption) | refine agree_get ?_ (by assumption) | refine agree_get2 ?_ (by assumption) | apply agree_with_svy)

theorem agree_rebind {P : List Part} {s0 : State} (p : Nat) (a : Option Nat) (b : Option Nat) {s : State} (h_svy : Part.svy ∈ P) (hk : Agree P s0 s) :
    Agree P s0 (rebind p a b s) := by
  unfold rebind
  try dsimp only
  all_goals (with_reducible repeat' first | assumption | rfl | apply agree_ite | apply agree_ite_st | apply agree_ite_snd | (intro _ _ _) | (intro _ _) | split | refine agree_snd ?_ (by assumption) | refine agree_snd2 ?_ (by assumption) | refine agree_st ?_ (by assumption) | refine agree_get ?_ (by assumption) | refine agree_get2 ?_ (by assumption) | apply agree_with_svy)

theorem agree_emptySet {P : List Part} {s0 : State} (p : Nat) {s : State} (h_acc : Part.acc ∈ P) (hk : Agree P s0 s) :
    Agree P s0 (emptySet p s) := by
  unfold emptySet
  try dsimp only
  all_goals (with_reducible repeat' first | assumption | rfl | apply agree_State_setAplan)

theorem agree_writePlanes {P : List Part} {s0 : State} (p : Nat) (set : Nat) (rows : List BlockRow) (ps : List PlanePos) {s : State} (h_hbm : Part.hbm ∈ P) (h_hlt : Part.hlt ∈ P) (h_mem : Part.mem ∈ P) (h_out : Part.out ∈ P) (h_regs : Part.regs ∈ P) (hk : Agree P s0 s) :
    Agree P s0 (writePlanes p set rows ps s) := by
  unfold writePlanes
  grind [agree_foldS, agree_hbmPut]

theorem agree_closeInteg {P : List Part} {s0 : State} (p : Nat) (w : Waymark) (m : Nat) {s : State} (h_acc : Part.acc ∈ P) (h_hbm : Part.hbm ∈ P) (h_hlt : Part.hlt ∈ P) (h_mem : Part.mem ∈ P) (h_out : Part.out ∈ P) (h_regs : Part.regs ∈ P) (h_svy : Part.svy ∈ P) (hk : Agree P s0 s) :
    Agree P s0 (closeInteg p w m s) := by
  unfold closeInteg
  try dsimp only
  all_goals (with_reducible repeat' first | assumption | rfl | apply agree_ite | apply agree_ite_st | apply agree_ite_snd | apply agree_State_setAplan | apply agree_endMerges | apply agree_raise | apply agree_setReg | apply agree_wf | apply agree_writePlanes)

theorem agree_dumpDone {P : List Part} {s0 : State} (w : Waymark) {s : State} (h_hlt : Part.hlt ∈ P) (h_regs : Part.regs ∈ P) (h_wm : Part.wm ∈ P) (hk : Agree P s0 s) :
    Agree P s0 (dumpDone w s) := by
  unfold dumpDone
  try dsimp only
  all_goals (with_reducible repeat' first | assumption | rfl | apply agree_ite | apply agree_ite_st | apply agree_ite_snd | apply agree_noteApplied | apply agree_setHeld)

theorem agree_applyDump {P : List Part} {s0 : State} (p : Nat) {s : State} (h_acc : Part.acc ∈ P) (h_hbm : Part.hbm ∈ P) (h_hlt : Part.hlt ∈ P) (h_mem : Part.mem ∈ P) (h_out : Part.out ∈ P) (h_regs : Part.regs ∈ P) (h_svy : Part.svy ∈ P) (h_wm : Part.wm ∈ P) (hk : Agree P s0 s) :
    Agree P s0 (applyDump p s) := by
  unfold applyDump
  try dsimp only
  all_goals (with_reducible repeat' first | assumption | rfl | apply agree_ite | apply agree_ite_st | apply agree_ite_snd | apply agree_State_setAplan | apply agree_closeInteg | apply agree_dumpDone | apply agree_raise | apply agree_rebind | (intro _ _ _) | (intro _ _) | split)

theorem agree_abortInteg {P : List Part} {s0 : State} (p : Nat) (status : Nat) {s : State} (h_acc : Part.acc ∈ P) (h_svy : Part.svy ∈ P) (hk : Agree P s0 s) :
    Agree P s0 (abortInteg p status s) := by
  unfold abortInteg
  try dsimp only
  all_goals (with_reducible repeat' first | assumption | rfl | apply agree_emptySet | apply agree_endMerges)

theorem agree_accCarry {P : List Part} {s0 : State} (w : Waymark) {s : State} (h_frm : Part.frm ∈ P) (hk : Agree P s0 s) :
    Agree P s0 (accCarry w s) := by
  unfold accCarry
  try dsimp only
  all_goals (with_reducible repeat' first | assumption | rfl | (intro _ _ _) | (intro _ _) | split | refine agree_snd ?_ (by assumption) | refine agree_snd2 ?_ (by assumption) | refine agree_st ?_ (by assumption) | refine agree_get ?_ (by assumption) | refine agree_get2 ?_ (by assumption) | apply agree_with_frm)

theorem agree_dumpArrive {P : List Part} {s0 : State} (w : Waymark) {s : State} (h_acc : Part.acc ∈ P) (h_hlt : Part.hlt ∈ P) (h_regs : Part.regs ∈ P) (h_svy : Part.svy ∈ P) (h_wm : Part.wm ∈ P) (hk : Agree P s0 s) :
    Agree P s0 (dumpArrive w s) := by
  unfold dumpArrive
  try dsimp only
  all_goals (with_reducible repeat' first | assumption | rfl | apply agree_ite | apply agree_ite_st | apply agree_ite_snd | apply agree_State_setAplan | apply agree_dumpDone | apply agree_foldS | apply agree_logOpen | apply agree_rebind | apply agree_setHeld | (intro _ _ _))

theorem agree_sendPlan {P : List Part} {s0 : State} (p : Nat) (q : Nat) (f : Frame) {s : State} (h_frm : Part.frm ∈ P) (h_hlt : Part.hlt ∈ P) (h_out : Part.out ∈ P) (h_regs : Part.regs ∈ P) (hk : Agree P s0 s) :
    Agree P s0 (sendPlan p q f s) := by
  unfold sendPlan
  try dsimp only
  all_goals (with_reducible repeat' first | assumption | rfl | apply agree_ite | apply agree_ite_st | apply agree_ite_snd | apply agree_inc | apply agree_sendPortFor)

theorem agree_dropNote {P : List Part} {s0 : State} (q : Nat) (n : Nat) {s : State} (h_hlt : Part.hlt ∈ P) (h_out : Part.out ∈ P) (h_regs : Part.regs ∈ P) (hk : Agree P s0 s) :
    Agree P s0 (dropNote q n s) := by
  unfold dropNote
  try dsimp only
  all_goals (with_reducible repeat' first | assumption | rfl | apply agree_ite | apply agree_ite_st | apply agree_ite_snd | apply agree_raise)

theorem agree_sendLegend {P : List Part} {s0 : State} (p : Nat) (q : Nat) (hdr : Frame) (x0 : Nat) (x1 : List LegRec) {x2 : State} (h_frm : Part.frm ∈ P) (h_hlt : Part.hlt ∈ P) (h_out : Part.out ∈ P) (h_regs : Part.regs ∈ P) (hk : Agree P s0 x2) :
    Agree P s0 (sendLegend p q hdr x0 x1 x2).2.2 := by
  fun_induction sendLegend <;> grind [agree_sendPlan]

theorem agree_drainTile {P : List Part} {s0 : State} (p : Nat) (g : AccInteg) (x : Nat × Nat × Nat) {s : State} (h_hlt : Part.hlt ∈ P) (h_mem : Part.mem ∈ P) (h_out : Part.out ∈ P) (h_regs : Part.regs ∈ P) (hk : Agree P s0 s) :
    Agree P s0 (drainTile p g x s).2 := by
  unfold drainTile
  try dsimp only
  all_goals (with_reducible repeat' first | assumption | rfl | apply agree_ite | apply agree_ite_st | apply agree_ite_snd | apply agree_countSat | apply agree_hbmGet | apply agree_inc | apply agree_raise)

theorem agree_drainTiles {P : List Part} {s0 : State} (p : Nat) (g : AccInteg) (x0 : List (Nat × Nat × Nat)) {x1 : State} (h_hlt : Part.hlt ∈ P) (h_mem : Part.mem ∈ P) (h_out : Part.out ∈ P) (h_regs : Part.regs ∈ P) (hk : Agree P s0 x1) :
    Agree P s0 (drainTiles p g x0 x1).2 := by
  fun_induction drainTiles
  all_goals (try dsimp only)
  all_goals (with_reducible repeat' first | assumption | rfl | apply_assumption | apply agree_drainTile | split | refine agree_snd ?_ (by assumption))

theorem agree_sendTile {P : List Part} {s0 : State} (p : Nat) (q : Nat) (sp : Nat) (t : OutTile) (x0 : Nat) (x1 : Nat) {x2 : State} (h_frm : Part.frm ∈ P) (h_hlt : Part.hlt ∈ P) (h_out : Part.out ∈ P) (h_regs : Part.regs ∈ P) (hk : Agree P s0 x2) :
    Agree P s0 (sendTile p q sp t x0 x1 x2).2 := by
  fun_induction sendTile <;> grind [agree_inc, agree_sendPlan]

theorem agree_sendTiles {P : List Part} {s0 : State} (p : Nat) (q : Nat) (sp : Nat) (x0 : List OutTile) {x1 : State} (h_frm : Part.frm ∈ P) (h_hlt : Part.hlt ∈ P) (h_out : Part.out ∈ P) (h_regs : Part.regs ∈ P) (hk : Agree P s0 x1) :
    Agree P s0 (sendTiles p q sp x0 x1).2 := by
  fun_induction sendTiles <;> grind [agree_sendTile]

theorem agree_drainPort {P : List Part} {s0 : State} (p : Nat) (q : Nat) (g : AccInteg) (tiles : List (Nat × Nat × Nat)) (mine : List OutTile) (bad : List OutTile) (frames : Nat) {s : State} (h_frm : Part.frm ∈ P) (h_hlt : Part.hlt ∈ P) (h_out : Part.out ∈ P) (h_regs : Part.regs ∈ P) (hk : Agree P s0 s) :
    Agree P s0 (drainPort p q g tiles mine bad frames s).2 := by
  unfold drainPort
  grind [agree_dropNote, agree_sendLegend, agree_sendTiles]

theorem agree_setDrain {P : List Part} {s0 : State} (p : Nat) {s : State} (h_acc : Part.acc ∈ P) (h_frm : Part.frm ∈ P) (h_hlt : Part.hlt ∈ P) (h_mem : Part.mem ∈ P) (h_out : Part.out ∈ P) (h_regs : Part.regs ∈ P) (hk : Agree P s0 s) :
    Agree P s0 (setDrain p s) := by
  unfold setDrain
  try dsimp only
  all_goals (with_reducible repeat' first | assumption | rfl | apply agree_ite | apply agree_ite_st | apply agree_ite_snd | apply agree_State_setAplan | apply agree_acc | apply agree_drainPort | apply agree_drainTiles | apply agree_foldS | (intro _ _ _) | (intro _ _) | split | refine agree_snd ?_ (by assumption) | refine agree_snd2 ?_ (by assumption) | refine agree_st ?_ (by assumption) | refine agree_get ?_ (by assumption) | refine agree_get2 ?_ (by assumption) | apply agree_with_acc)

theorem agree_drainEnd {P : List Part} {s0 : State} (p : Nat) {s : State} (h_acc : Part.acc ∈ P) (hk : Agree P s0 s) :
    Agree P s0 (drainEnd p s) := by
  unfold drainEnd
  try dsimp only
  all_goals (with_reducible repeat' first | assumption | rfl | apply agree_ite | apply agree_ite_st | apply agree_ite_snd | apply agree_State_setAplan | split)

theorem agree_sendBeams {P : List Part} {s0 : State} (p : Nat) (q : Nat) (c : Nat) (sp : Nat) (void : Bool) (fl : Nat) (x0 : Nat) (x1 : List BeamEl) {x2 : State} (h_frm : Part.frm ∈ P) (h_hlt : Part.hlt ∈ P) (h_out : Part.out ∈ P) (h_regs : Part.regs ∈ P) (hk : Agree P s0 x2) :
    Agree P s0 (sendBeams p q c sp void fl x0 x1 x2).2 := by
  fun_induction sendBeams
  all_goals (try dsimp only)
  all_goals (with_reducible repeat' first | assumption | rfl | apply_assumption | apply agree_ite | apply agree_ite_st | apply agree_ite_snd | apply agree_sendPlan)

theorem agree_noteBeamTile {P : List Part} {s0 : State} (p : Nat) (n : Nat) (key : Nat) (k : Nat) (fl : Nat) (excl : Nat) {s : State} (h_acc : Part.acc ∈ P) (hk : Agree P s0 s) :
    Agree P s0 (noteBeamTile p n key k fl excl s) := by
  unfold noteBeamTile
  try dsimp only
  all_goals (with_reducible repeat' first | assumption | rfl | apply agree_ite | apply agree_ite_st | apply agree_ite_snd | apply agree_State_setAplan)

theorem agree_beamCommit {P : List Part} {s0 : State} (o : TileOp) (st : BeamStep) {s : State} (h_acc : Part.acc ∈ P) (h_atl : Part.atl ∈ P) (h_frm : Part.frm ∈ P) (h_hbm : Part.hbm ∈ P) (h_hlt : Part.hlt ∈ P) (h_mem : Part.mem ∈ P) (h_out : Part.out ∈ P) (h_regs : Part.regs ∈ P) (hk : Agree P s0 s) :
    Agree P s0 (beamCommit o st s) := by
  unfold beamCommit
  try dsimp only
  all_goals (with_reducible repeat' first | assumption | rfl | apply agree_ite | apply agree_ite_st | apply agree_ite_snd | apply agree_State_setAplan | apply agree_acc | apply agree_countSat | apply agree_dropNote | apply agree_foldS | apply agree_hbmPut | apply agree_noteBeamTile | apply agree_sendBeams | apply agree_sigAdd | apply agree_toZero | (intro _ _ _) | (intro _ _) | split | refine agree_snd ?_ (by assumption) | refine agree_snd2 ?_ (by assumption) | refine agree_st ?_ (by assumption) | refine agree_get ?_ (by assumption) | refine agree_get2 ?_ (by assumption) | apply agree_with_atl | apply agree_with_acc)

theorem agree_beamUndone {P : List Part} {s0 : State} (p : Nat) (row : Nat) (rows : Nat) (st : BeamStep) {s : State} (h_acc : Part.acc ∈ P) (h_atl : Part.atl ∈ P) (hk : Agree P s0 s) :
    Agree P s0 (beamUndone p row rows st s) := by
  unfold beamUndone
  try dsimp only
  all_goals (with_reducible repeat' first | assumption | rfl | apply agree_ite | apply agree_ite_st | apply agree_ite_snd | apply agree_foldS | apply agree_noteBeamTile | (intro _ _ _) | (intro _ _) | split | refine agree_snd ?_ (by assumption) | refine agree_snd2 ?_ (by assumption) | refine agree_st ?_ (by assumption) | refine agree_get ?_ (by assumption) | refine agree_get2 ?_ (by assumption) | apply agree_with_atl)

theorem agree_beamLegendTo {P : List Part} {s0 : State} (p : Nat) (n : Nat) (lf : Nat) (els : List (List Byte)) (a : AccPlan) (q : Nat) {s : State} (h_frm : Part.frm ∈ P) (h_hlt : Part.hlt ∈ P) (h_out : Part.out ∈ P) (h_regs : Part.regs ∈ P) (hk : Agree P s0 s) :
    Agree P s0 (beamLegendTo p n lf els a q s) := by
  unfold beamLegendTo
  grind [agree_dropNote, agree_sendLegend]

theorem agree_beamLegendEnd {P : List Part} {s0 : State} (p : Nat) (n : Nat) {s : State} (h_acc : Part.acc ∈ P) (h_atl : Part.atl ∈ P) (hk : Agree P s0 s) :
    Agree P s0 (beamLegendEnd p n s) := by
  unfold beamLegendEnd
  try dsimp only
  all_goals (with_reducible repeat' first | assumption | rfl | apply agree_ite | apply agree_ite_st | apply agree_ite_snd | apply agree_State_setAplan | (intro _ _ _) | (intro _ _) | split | refine agree_snd ?_ (by assumption) | refine agree_snd2 ?_ (by assumption) | refine agree_st ?_ (by assumption) | refine agree_get ?_ (by assumption) | refine agree_get2 ?_ (by assumption) | apply agree_with_atl)

theorem agree_beamLegend {P : List Part} {s0 : State} (p : Nat) (n : Nat) {s : State} (h_acc : Part.acc ∈ P) (h_atl : Part.atl ∈ P) (h_frm : Part.frm ∈ P) (h_hlt : Part.hlt ∈ P) (h_out : Part.out ∈ P) (h_regs : Part.regs ∈ P) (hk : Agree P s0 s) :
    Agree P s0 (beamLegend p n s) := by
  unfold beamLegend
  try dsimp only
  all_goals (with_reducible repeat' first | assumption | rfl | apply agree_ite | apply agree_ite_st | apply agree_ite_snd | apply agree_beamLegendEnd | apply agree_beamLegendTo | apply agree_foldS | (intro _ _ _))

theorem agree_execAccBlockClose {P : List Part} {s0 : State} {s : State} (h_acc : Part.acc ∈ P) (h_hlt : Part.hlt ∈ P) (h_out : Part.out ∈ P) (h_regs : Part.regs ∈ P) (hk : Agree P s0 s) :
    ∀ t, execAccBlockClose s = .next t → Agree P s0 t := by
  intro t ht
  unfold execAccBlockClose at ht
  try dsimp only at ht
  all_goals (repeat' first | (cases ht) | split at ht)
  all_goals (with_reducible repeat' first | assumption | rfl | apply agree_accBlockClose)

theorem agree_execBlockResultMerge {P : List Part} {s0 : State} (index : Fin 4194304) {s : State} (h_acc : Part.acc ∈ P) (h_atl : Part.atl ∈ P) (h_hbm : Part.hbm ∈ P) (h_hlt : Part.hlt ∈ P) (h_mem : Part.mem ∈ P) (h_out : Part.out ∈ P) (h_regs : Part.regs ∈ P) (hk : Agree P s0 s) :
    ∀ t, execBlockResultMerge index s = .next t → Agree P s0 t := by
  intro t ht
  unfold execBlockResultMerge at ht
  try dsimp only at ht
  all_goals (repeat' first | (cases ht) | split at ht)
  all_goals (with_reducible repeat' first | assumption | rfl | apply agree_blockResult)

theorem agree_execSetDrain {P : List Part} {s0 : State} (plan : Fin 16) {s : State} (h_acc : Part.acc ∈ P) (h_frm : Part.frm ∈ P) (h_hlt : Part.hlt ∈ P) (h_mem : Part.mem ∈ P) (h_out : Part.out ∈ P) (h_regs : Part.regs ∈ P) (hk : Agree P s0 s) :
    ∀ t, execSetDrain plan s = .next t → Agree P s0 t := by
  intro t ht
  unfold execSetDrain at ht
  try dsimp only at ht
  all_goals (repeat' first | (cases ht) | split at ht)
  all_goals (with_reducible repeat' first | assumption | rfl | apply agree_setDrain)

theorem agree_execDrainEnd {P : List Part} {s0 : State} (plan : Fin 16) {s : State} (h_acc : Part.acc ∈ P) (hk : Agree P s0 s) :
    ∀ t, execDrainEnd plan s = .next t → Agree P s0 t := by
  intro t ht
  unfold execDrainEnd at ht
  try dsimp only at ht
  all_goals (repeat' first | (cases ht) | split at ht)
  all_goals (with_reducible repeat' first | assumption | rfl | apply agree_drainEnd)

end Sys2Proof.Machine
end

