-- ==== Sys2Proof/Laws/AgreeSvy.lean ====
section
/-! SUPPORT. What the operations of Machine/Svy leave alone (Laws/Agree). -/

namespace Sys2Proof.Machine

theorem agree_State_setScore {P : List Part} {s0 : State} (c : Nat) (k : SvyCore) {s : State} (h_svy : Part.svy ∈ P) (hk : Agree P s0 s) :
    Agree P s0 (State.setScore c k s) := by
  unfold State.setScore
  try dsimp only
  all_goals (with_reducible repeat' first | assumption | rfl | split | refine agree_snd ?_ (by assumption) | refine agree_snd2 ?_ (by assumption) | refine agree_st ?_ (by assumption) | refine agree_get ?_ (by assumption) | refine agree_get2 ?_ (by assumption) | apply agree_with_svy)

theorem agree_trimHandles {P : List Part} {s0 : State} (c : Nat) {s : State} (h_svy : Part.svy ∈ P) (hk : Agree P s0 s) :
    Agree P s0 (trimHandles c s) := by
  unfold trimHandles
  try dsimp only
  all_goals (with_reducible repeat' first | assumption | rfl | (intro _ _ _) | (intro _ _) | split | refine agree_snd ?_ (by assumption) | refine agree_snd2 ?_ (by assumption) | refine agree_st ?_ (by assumption) | refine agree_get ?_ (by assumption) | refine agree_get2 ?_ (by assumption) | apply agree_with_svy)

theorem agree_newHandle {P : List Part} {s0 : State} (c : Nat) (kind : Nat) (plan : Nat) (bound : Option Nat) (status : Option Nat) {s : State} (h_svy : Part.svy ∈ P) (hk : Agree P s0 s) :
    Agree P s0 (newHandle c kind plan bound status s).2 := by
  unfold newHandle
  try dsimp only
  all_goals (with_reducible repeat' first | assumption | rfl | apply agree_State_setScore | apply agree_trimHandles | split | refine agree_snd ?_ (by assumption) | refine agree_snd2 ?_ (by assumption) | refine agree_st ?_ (by assumption) | refine agree_get ?_ (by assumption) | refine agree_get2 ?_ (by assumption) | apply agree_with_svy)

theorem agree_endHandle {P : List Part} {s0 : State} (id : Nat) (status : Nat) (stood : Nat) {s : State} (h_svy : Part.svy ∈ P) (hk : Agree P s0 s) :
    Agree P s0 (endHandle id status stood s) := by
  unfold endHandle
  try dsimp only
  all_goals (with_reducible repeat' first | assumption | rfl | apply agree_ite | apply agree_ite_st | apply agree_ite_snd | (intro _ _ _) | (intro _ _) | split | refine agree_snd ?_ (by assumption) | refine agree_snd2 ?_ (by assumption) | refine agree_st ?_ (by assumption) | refine agree_get ?_ (by assumption) | refine agree_get2 ?_ (by assumption) | apply agree_with_svy)

theorem agree_svyFault {P : List Part} {s0 : State} (c : Nat) (cause : Nat) {s : State} (h_hlt : Part.hlt ∈ P) (h_out : Part.out ∈ P) (h_regs : Part.regs ∈ P) (h_svy : Part.svy ∈ P) (hk : Agree P s0 s) :
    Agree P s0 (svyFault c cause s) := by
  unfold svyFault
  try dsimp only
  all_goals (with_reducible repeat' first | assumption | rfl | apply agree_State_setScore | apply agree_raise)

theorem agree_svyReach {P : List Part} {s0 : State} (c : Nat) {s : State} (h_hlt : Part.hlt ∈ P) (h_out : Part.out ∈ P) (h_regs : Part.regs ∈ P) (h_svy : Part.svy ∈ P) (hk : Agree P s0 s) :
    Agree P s0 (svyReach c s) := by
  unfold svyReach
  try dsimp only
  all_goals (with_reducible repeat' first | assumption | rfl | apply agree_ite | apply agree_ite_st | apply agree_ite_snd | apply agree_svyFault)

theorem agree_svyResult {P : List Part} {s0 : State} (c : Nat) (d : Nat) (st : Nat) (h : Nat) (stood : Nat) {s : State} (h_hlt : Part.hlt ∈ P) (h_out : Part.out ∈ P) (h_regs : Part.regs ∈ P) (h_svy : Part.svy ∈ P) (hk : Agree P s0 s) :
    Agree P s0 (svyResult c d st h stood s) := by
  unfold svyResult
  try dsimp only
  all_goals (with_reducible repeat' first | assumption | rfl | apply agree_ite | apply agree_ite_st | apply agree_ite_snd | apply agree_State_setScore | apply agree_inc | apply agree_raise)

theorem agree_svyAbort {P : List Part} {s0 : State} (c : Nat) (h : Nat) (killed : Bool) {s : State} (h_acc : Part.acc ∈ P) (h_atl : Part.atl ∈ P) (h_frm : Part.frm ∈ P) (h_hlt : Part.hlt ∈ P) (h_out : Part.out ∈ P) (h_regs : Part.regs ∈ P) (h_svy : Part.svy ∈ P) (hk : Agree P s0 s) :
    Agree P s0 (svyAbort c h killed s).2.2 := by
  unfold svyAbort
  try dsimp only
  all_goals (with_reducible repeat' first | assumption | rfl | apply agree_ite | apply agree_ite_st | apply agree_ite_snd | apply agree_abortInteg | apply agree_beamLegend | apply agree_beamUndone | apply agree_endHandle | apply agree_foldS | apply agree_opUndo | apply agree_opWithdraw | apply agree_raise | (intro _ _ _) | (intro _ _) | split)

theorem agree_svyKillAll {P : List Part} {s0 : State} (c : Nat) {s : State} (h_acc : Part.acc ∈ P) (h_atl : Part.atl ∈ P) (h_frm : Part.frm ∈ P) (h_hlt : Part.hlt ∈ P) (h_out : Part.out ∈ P) (h_regs : Part.regs ∈ P) (h_svy : Part.svy ∈ P) (hk : Agree P s0 s) :
    Agree P s0 (svyKillAll c s) := by
  unfold svyKillAll
  try dsimp only
  all_goals (with_reducible repeat' first | assumption | rfl | apply agree_foldS | apply agree_svyAbort | (intro _ _ _))

theorem agree_svyStopping {P : List Part} {s0 : State} (c : Nat) (how : Nat) {s : State} (h_atl : Part.atl ∈ P) (h_svy : Part.svy ∈ P) (hk : Agree P s0 s) :
    Agree P s0 (svyStopping c how s) := by
  unfold svyStopping
  try dsimp only
  all_goals (with_reducible repeat' first | assumption | rfl | apply agree_ite | apply agree_ite_st | apply agree_ite_snd | apply agree_State_setScore | apply agree_endHandle | apply agree_opWithdraw)

theorem agree_svyRequest {P : List Part} {s0 : State} (c : Nat) (r : SvyReq) {s : State} (h_acc : Part.acc ∈ P) (h_atl : Part.atl ∈ P) (h_frm : Part.frm ∈ P) (h_hlt : Part.hlt ∈ P) (h_out : Part.out ∈ P) (h_regs : Part.regs ∈ P) (h_svy : Part.svy ∈ P) (hk : Agree P s0 s) :
    Agree P s0 (svyRequest c r s) := by
  unfold svyRequest
  try dsimp only
  all_goals (with_reducible repeat' first | assumption | rfl | apply agree_ite | apply agree_ite_st | apply agree_ite_snd | apply agree_State_setScore | apply agree_setReg | apply agree_svyAbort | apply agree_svyKillAll | apply agree_svyStopping | split)

theorem agree_svyStepPoint {P : List Part} {s0 : State} (c : Nat) {s : State} (h_acc : Part.acc ∈ P) (h_atl : Part.atl ∈ P) (h_frm : Part.frm ∈ P) (h_hlt : Part.hlt ∈ P) (h_out : Part.out ∈ P) (h_regs : Part.regs ∈ P) (h_svy : Part.svy ∈ P) (hk : Agree P s0 s) :
    Agree P s0 (svyStepPoint c s) := by
  unfold svyStepPoint
  try dsimp only
  all_goals (with_reducible repeat' first | assumption | rfl | apply agree_State_setScore | apply agree_foldS | apply agree_svyRequest | (intro _ _ _))

theorem agree_svyGo {P : List Part} {s0 : State} (c : Nat) (pc : Nat) (loops : List (Nat × Nat × Nat)) {s : State} (h_acc : Part.acc ∈ P) (h_atl : Part.atl ∈ P) (h_frm : Part.frm ∈ P) (h_hlt : Part.hlt ∈ P) (h_out : Part.out ∈ P) (h_regs : Part.regs ∈ P) (h_svy : Part.svy ∈ P) (hk : Agree P s0 s) :
    Agree P s0 (svyGo c pc loops s) := by
  unfold svyGo
  try dsimp only
  all_goals (with_reducible repeat' first | assumption | rfl | apply agree_ite | apply agree_ite_st | apply agree_ite_snd | apply agree_State_setScore | apply agree_inc | apply agree_raise | apply agree_svyReach | apply agree_svyStepPoint)

theorem agree_svyNext {P : List Part} {s0 : State} (c : Nat) {s : State} (h_acc : Part.acc ∈ P) (h_atl : Part.atl ∈ P) (h_frm : Part.frm ∈ P) (h_hlt : Part.hlt ∈ P) (h_out : Part.out ∈ P) (h_regs : Part.regs ∈ P) (h_svy : Part.svy ∈ P) (hk : Agree P s0 s) :
    Agree P s0 (svyNext c s) := by
  unfold svyNext
  try dsimp only
  all_goals (with_reducible repeat' first | assumption | rfl | apply agree_svyGo)

theorem agree_svyWait {P : List Part} {s0 : State} (c : Nat) (kind : Nat) (h : Nat) {s : State} (h_acc : Part.acc ∈ P) (h_atl : Part.atl ∈ P) (h_frm : Part.frm ∈ P) (h_hlt : Part.hlt ∈ P) (h_out : Part.out ∈ P) (h_regs : Part.regs ∈ P) (h_svy : Part.svy ∈ P) (hk : Agree P s0 s) :
    Agree P s0 (svyWait c kind h s) := by
  unfold svyWait
  try dsimp only
  all_goals (with_reducible repeat' first | assumption | rfl | apply agree_State_setScore | apply agree_svyStepPoint)

theorem agree_svyDone {P : List Part} {s0 : State} (c : Nat) (w : Nat) (st : Nat) (h : Nat) (stood : Nat) {s : State} (h_acc : Part.acc ∈ P) (h_atl : Part.atl ∈ P) (h_frm : Part.frm ∈ P) (h_hlt : Part.hlt ∈ P) (h_out : Part.out ∈ P) (h_regs : Part.regs ∈ P) (h_svy : Part.svy ∈ P) (hk : Agree P s0 s) :
    Agree P s0 (svyDone c w st h stood s) := by
  unfold svyDone
  try dsimp only
  all_goals (with_reducible repeat' first | assumption | rfl | apply agree_svyNext | apply agree_svyResult)

theorem agree_svyAlu {P : List Part} {s0 : State} (f : SvyCore → Nat → Nat) (c : Nat) (w : Nat) {s : State} (h_acc : Part.acc ∈ P) (h_atl : Part.atl ∈ P) (h_frm : Part.frm ∈ P) (h_hlt : Part.hlt ∈ P) (h_out : Part.out ∈ P) (h_regs : Part.regs ∈ P) (h_svy : Part.svy ∈ P) (hk : Agree P s0 s) :
    Agree P s0 (svyAlu f c w s) := by
  unfold svyAlu
  try dsimp only
  all_goals (with_reducible repeat' first | assumption | rfl | apply agree_State_setScore | apply agree_svyNext)

theorem agree_piBranch {P : List Part} {s0 : State} (c : Nat) (w : Nat) {s : State} (h_acc : Part.acc ∈ P) (h_atl : Part.atl ∈ P) (h_frm : Part.frm ∈ P) (h_hlt : Part.hlt ∈ P) (h_out : Part.out ∈ P) (h_regs : Part.regs ∈ P) (h_svy : Part.svy ∈ P) (hk : Agree P s0 s) :
    Agree P s0 (piBranch c w s) := by
  unfold piBranch
  try dsimp only
  all_goals (with_reducible repeat' first | assumption | rfl | apply agree_ite | apply agree_ite_st | apply agree_ite_snd | apply agree_svyFault | apply agree_svyGo | apply agree_svyNext)

theorem agree_piLoop {P : List Part} {s0 : State} (c : Nat) (w : Nat) {s : State} (h_acc : Part.acc ∈ P) (h_atl : Part.atl ∈ P) (h_frm : Part.frm ∈ P) (h_hlt : Part.hlt ∈ P) (h_out : Part.out ∈ P) (h_regs : Part.regs ∈ P) (h_svy : Part.svy ∈ P) (hk : Agree P s0 s) :
    Agree P s0 (piLoop c w s) := by
  unfold piLoop
  try dsimp only
  all_goals (with_reducible repeat' first | assumption | rfl | apply agree_ite | apply agree_ite_st | apply agree_ite_snd | apply agree_svyFault | apply agree_svyGo)

theorem agree_piCall {P : List Part} {s0 : State} (c : Nat) (w : Nat) {s : State} (h_acc : Part.acc ∈ P) (h_atl : Part.atl ∈ P) (h_frm : Part.frm ∈ P) (h_hlt : Part.hlt ∈ P) (h_out : Part.out ∈ P) (h_regs : Part.regs ∈ P) (h_svy : Part.svy ∈ P) (hk : Agree P s0 s) :
    Agree P s0 (piCall c w s) := by
  unfold piCall
  try dsimp only
  all_goals (with_reducible repeat' first | assumption | rfl | apply agree_ite | apply agree_ite_st | apply agree_ite_snd | apply agree_State_setScore | apply agree_svyFault | apply agree_svyGo)

theorem agree_piRet {P : List Part} {s0 : State} (c : Nat) {s : State} (h_acc : Part.acc ∈ P) (h_atl : Part.atl ∈ P) (h_frm : Part.frm ∈ P) (h_hlt : Part.hlt ∈ P) (h_out : Part.out ∈ P) (h_regs : Part.regs ∈ P) (h_svy : Part.svy ∈ P) (hk : Agree P s0 s) :
    Agree P s0 (piRet c s) := by
  unfold piRet
  try dsimp only
  all_goals (with_reducible repeat' first | assumption | rfl | apply agree_State_setScore | apply agree_svyFault | apply agree_svyGo | split)

theorem agree_piStream {P : List Part} {s0 : State} (c : Nat) (w : Nat) {s : State} (h_acc : Part.acc ∈ P) (h_atl : Part.atl ∈ P) (h_frm : Part.frm ∈ P) (h_hlt : Part.hlt ∈ P) (h_out : Part.out ∈ P) (h_regs : Part.regs ∈ P) (h_svy : Part.svy ∈ P) (hk : Agree P s0 s) :
    Agree P s0 (piStream c w s) := by
  unfold piStream
  try dsimp only
  all_goals (with_reducible repeat' first | assumption | rfl | apply agree_ite | apply agree_ite_st | apply agree_ite_snd | apply agree_foldS | apply agree_raise | apply agree_svyDone | apply agree_wf | (intro _ _ _) | (intro _ _) | split | refine agree_snd ?_ (by assumption) | refine agree_snd2 ?_ (by assumption) | refine agree_st ?_ (by assumption) | refine agree_get ?_ (by assumption) | refine agree_get2 ?_ (by assumption) | apply agree_with_svy)

theorem agree_piSpectra {P : List Part} {s0 : State} (c : Nat) (w : Nat) {s : State} (h_acc : Part.acc ∈ P) (h_atl : Part.atl ∈ P) (h_frm : Part.frm ∈ P) (h_hlt : Part.hlt ∈ P) (h_out : Part.out ∈ P) (h_regs : Part.regs ∈ P) (h_svy : Part.svy ∈ P) (hk : Agree P s0 s) :
    Agree P s0 (piSpectra c w s) := by
  unfold piSpectra
  try dsimp only
  all_goals (with_reducible repeat' first | assumption | rfl | apply agree_ite | apply agree_ite_st | apply agree_ite_snd | apply agree_State_setScore | apply agree_svyDone)

theorem agree_piTileset {P : List Part} {s0 : State} (c : Nat) (w : Nat) {s : State} (h_acc : Part.acc ∈ P) (h_atl : Part.atl ∈ P) (h_frm : Part.frm ∈ P) (h_hlt : Part.hlt ∈ P) (h_out : Part.out ∈ P) (h_regs : Part.regs ∈ P) (h_svy : Part.svy ∈ P) (hk : Agree P s0 s) :
    Agree P s0 (piTileset c w s) := by
  unfold piTileset
  try dsimp only
  all_goals (with_reducible repeat' first | assumption | rfl | apply agree_ite | apply agree_ite_st | apply agree_ite_snd | apply agree_declare | apply agree_svyDone)

theorem agree_piBudget {P : List Part} {s0 : State} (c : Nat) (w : Nat) {s : State} (h_acc : Part.acc ∈ P) (h_atl : Part.atl ∈ P) (h_cad : Part.cad ∈ P) (h_frm : Part.frm ∈ P) (h_hlt : Part.hlt ∈ P) (h_out : Part.out ∈ P) (h_regs : Part.regs ∈ P) (h_svy : Part.svy ∈ P) (hk : Agree P s0 s) :
    Agree P s0 (piBudget c w s) := by
  unfold piBudget
  try dsimp only
  all_goals (with_reducible repeat' first | assumption | rfl | apply agree_ite | apply agree_ite_st | apply agree_ite_snd | apply agree_State_setScore | apply agree_cadBudget | apply agree_svyDone)

theorem agree_piIssue {P : List Part} {s0 : State} (c : Nat) (w : Nat) (kind : Nat) (o : TileOp) {s : State} (h_acc : Part.acc ∈ P) (h_atl : Part.atl ∈ P) (h_frm : Part.frm ∈ P) (h_hlt : Part.hlt ∈ P) (h_out : Part.out ∈ P) (h_regs : Part.regs ∈ P) (h_svy : Part.svy ∈ P) (hk : Agree P s0 s) :
    Agree P s0 (piIssue c w kind o s) := by
  unfold piIssue
  try dsimp only
  all_goals (with_reducible repeat' first | assumption | rfl | apply agree_ite | apply agree_ite_st | apply agree_ite_snd | apply agree_inc | apply agree_newHandle | apply agree_opIssue | apply agree_svyDone | apply agree_svyWait)

theorem agree_piOperation {P : List Part} {s0 : State} (c : Nat) (w : Nat) (beam : Bool) (row : Nat) (rows : Nat) {s : State} (h_acc : Part.acc ∈ P) (h_atl : Part.atl ∈ P) (h_frm : Part.frm ∈ P) (h_hlt : Part.hlt ∈ P) (h_out : Part.out ∈ P) (h_regs : Part.regs ∈ P) (h_svy : Part.svy ∈ P) (hk : Agree P s0 s) :
    Agree P s0 (piOperation c w beam row rows s) := by
  unfold piOperation
  grind [agree_piIssue, agree_step, agree_svyDone, agree_svyWait]

theorem agree_piCorr {P : List Part} {s0 : State} (c : Nat) (w : Nat) {s : State} (h_acc : Part.acc ∈ P) (h_atl : Part.atl ∈ P) (h_frm : Part.frm ∈ P) (h_hlt : Part.hlt ∈ P) (h_out : Part.out ∈ P) (h_regs : Part.regs ∈ P) (h_svy : Part.svy ∈ P) (hk : Agree P s0 s) :
    Agree P s0 (piCorr c w s) := by
  unfold piCorr
  try dsimp only
  all_goals (with_reducible repeat' first | assumption | rfl | apply agree_piOperation)

theorem agree_piBeam {P : List Part} {s0 : State} (c : Nat) (w : Nat) {s : State} (h_acc : Part.acc ∈ P) (h_atl : Part.atl ∈ P) (h_frm : Part.frm ∈ P) (h_hlt : Part.hlt ∈ P) (h_out : Part.out ∈ P) (h_regs : Part.regs ∈ P) (h_svy : Part.svy ∈ P) (hk : Agree P s0 s) :
    Agree P s0 (piBeam c w s) := by
  unfold piBeam
  try dsimp only
  all_goals (with_reducible repeat' first | assumption | rfl | apply agree_piOperation)

theorem agree_piMerge {P : List Part} {s0 : State} (c : Nat) (w : Nat) {s : State} (h_acc : Part.acc ∈ P) (h_atl : Part.atl ∈ P) (h_frm : Part.frm ∈ P) (h_hlt : Part.hlt ∈ P) (h_out : Part.out ∈ P) (h_regs : Part.regs ∈ P) (h_svy : Part.svy ∈ P) (hk : Agree P s0 s) :
    Agree P s0 (piMerge c w s) := by
  unfold piMerge
  try dsimp only
  all_goals (with_reducible repeat' first | assumption | rfl | apply agree_ite | apply agree_ite_st | apply agree_ite_snd | apply agree_inc | apply agree_newHandle | apply agree_svyDone | apply agree_svyWait | (intro _ _ _) | (intro _ _) | split)

theorem agree_insertMark {P : List Part} {s0 : State} (point : Nat) (plan : Nat) (w : Waymark) {s : State} (h_frm : Part.frm ∈ P) (h_wm : Part.wm ∈ P) (hk : Agree P s0 s) :
    Agree P s0 (insertMark point plan w s) := by
  unfold insertMark
  try dsimp only
  all_goals (with_reducible repeat' first | assumption | rfl | apply agree_ite | apply agree_ite_st | apply agree_ite_snd | (intro _ _ _) | (intro _ _) | split | refine agree_snd ?_ (by assumption) | refine agree_snd2 ?_ (by assumption) | refine agree_st ?_ (by assumption) | refine agree_get ?_ (by assumption) | refine agree_get2 ?_ (by assumption) | apply agree_with_frm | apply agree_with_wm)

theorem agree_noteDump {P : List Part} {s0 : State} (tag : Nat) (anchor : Nat) {s : State} (h_svy : Part.svy ∈ P) (hk : Agree P s0 s) :
    Agree P s0 (noteDump tag anchor s) := by
  unfold noteDump
  try dsimp only
  all_goals (with_reducible repeat' first | assumption | rfl | (intro _ _ _) | (intro _ _) | split | refine agree_snd ?_ (by assumption) | refine agree_snd2 ?_ (by assumption) | refine agree_st ?_ (by assumption) | refine agree_get ?_ (by assumption) | refine agree_get2 ?_ (by assumption) | apply agree_with_svy)

theorem agree_svyMark {P : List Part} {s0 : State} (c : Nat) (wd : Nat) (point : Nat) (m : Waymark) {s : State} (h_acc : Part.acc ∈ P) (h_atl : Part.atl ∈ P) (h_frm : Part.frm ∈ P) (h_hlt : Part.hlt ∈ P) (h_out : Part.out ∈ P) (h_regs : Part.regs ∈ P) (h_svy : Part.svy ∈ P) (h_wm : Part.wm ∈ P) (hk : Agree P s0 s) :
    Agree P s0 (svyMark c wd point m s) := by
  unfold svyMark
  try dsimp only
  all_goals (with_reducible repeat' first | assumption | rfl | apply agree_ite | apply agree_ite_st | apply agree_ite_snd | apply agree_inc | apply agree_insertMark | apply agree_newHandle | apply agree_noteDump | apply agree_svyDone | apply agree_svyWait)

theorem agree_piDump {P : List Part} {s0 : State} (c : Nat) (w : Nat) {s : State} (h_acc : Part.acc ∈ P) (h_atl : Part.atl ∈ P) (h_frm : Part.frm ∈ P) (h_hlt : Part.hlt ∈ P) (h_out : Part.out ∈ P) (h_regs : Part.regs ∈ P) (h_svy : Part.svy ∈ P) (h_wm : Part.wm ∈ P) (hk : Agree P s0 s) :
    Agree P s0 (piDump c w s) := by
  unfold piDump
  try dsimp only
  all_goals (with_reducible repeat' first | assumption | rfl | apply agree_ite | apply agree_ite_st | apply agree_ite_snd | apply agree_svyMark)

theorem agree_piMark {P : List Part} {s0 : State} (c : Nat) (w : Nat) {s : State} (h_acc : Part.acc ∈ P) (h_atl : Part.atl ∈ P) (h_frm : Part.frm ∈ P) (h_hlt : Part.hlt ∈ P) (h_out : Part.out ∈ P) (h_regs : Part.regs ∈ P) (h_svy : Part.svy ∈ P) (h_wm : Part.wm ∈ P) (hk : Agree P s0 s) :
    Agree P s0 (piMark c w s) := by
  unfold piMark
  try dsimp only
  all_goals (with_reducible repeat' first | assumption | rfl | apply agree_ite | apply agree_ite_st | apply agree_ite_snd | apply agree_svyDone | apply agree_svyMark)

theorem agree_piWaitmark {P : List Part} {s0 : State} (c : Nat) (w : Nat) {s : State} (h_acc : Part.acc ∈ P) (h_atl : Part.atl ∈ P) (h_frm : Part.frm ∈ P) (h_hlt : Part.hlt ∈ P) (h_out : Part.out ∈ P) (h_regs : Part.regs ∈ P) (h_svy : Part.svy ∈ P) (hk : Agree P s0 s) :
    Agree P s0 (piWaitmark c w s) := by
  unfold piWaitmark
  try dsimp only
  all_goals (with_reducible repeat' first | assumption | rfl | apply agree_State_setScore | apply agree_svyNext | apply agree_svyWait | (intro _ _ _) | (intro _ _) | split)

theorem agree_piWaitidx {P : List Part} {s0 : State} (c : Nat) (w : Nat) {s : State} (h_acc : Part.acc ∈ P) (h_atl : Part.atl ∈ P) (h_frm : Part.frm ∈ P) (h_hlt : Part.hlt ∈ P) (h_out : Part.out ∈ P) (h_regs : Part.regs ∈ P) (h_svy : Part.svy ∈ P) (hk : Agree P s0 s) :
    Agree P s0 (piWaitidx c w s) := by
  unfold piWaitidx
  try dsimp only
  all_goals (with_reducible repeat' first | assumption | rfl | apply agree_ite | apply agree_ite_st | apply agree_ite_snd | apply agree_State_setScore | apply agree_svyNext | apply agree_svyWait)

theorem agree_piFence {P : List Part} {s0 : State} (c : Nat) (w : Nat) {s : State} (h_acc : Part.acc ∈ P) (h_atl : Part.atl ∈ P) (h_frm : Part.frm ∈ P) (h_hlt : Part.hlt ∈ P) (h_out : Part.out ∈ P) (h_regs : Part.regs ∈ P) (h_svy : Part.svy ∈ P) (hk : Agree P s0 s) :
    Agree P s0 (piFence c w s) := by
  unfold piFence
  try dsimp only
  all_goals (with_reducible repeat' first | assumption | rfl | apply agree_ite | apply agree_ite_st | apply agree_ite_snd | apply agree_svyNext | apply agree_svyWait)

theorem agree_piCommit {P : List Part} {s0 : State} (c : Nat) (w : Nat) {s : State} (h_acc : Part.acc ∈ P) (h_atl : Part.atl ∈ P) (h_frm : Part.frm ∈ P) (h_hlt : Part.hlt ∈ P) (h_out : Part.out ∈ P) (h_regs : Part.regs ∈ P) (h_svy : Part.svy ∈ P) (hk : Agree P s0 s) :
    Agree P s0 (piCommit c w s) := by
  unfold piCommit
  try dsimp only
  all_goals (with_reducible repeat' first | assumption | rfl | apply agree_ite | apply agree_ite_st | apply agree_ite_snd | apply agree_svyDone | apply agree_svyWait | split)

theorem agree_piAbort {P : List Part} {s0 : State} (c : Nat) (w : Nat) {s : State} (h_acc : Part.acc ∈ P) (h_atl : Part.atl ∈ P) (h_frm : Part.frm ∈ P) (h_hlt : Part.hlt ∈ P) (h_out : Part.out ∈ P) (h_regs : Part.regs ∈ P) (h_svy : Part.svy ∈ P) (hk : Agree P s0 s) :
    Agree P s0 (piAbort c w s) := by
  unfold piAbort
  try dsimp only
  all_goals (with_reducible repeat' first | assumption | rfl | apply agree_ite | apply agree_ite_st | apply agree_ite_snd | apply agree_svyAbort | apply agree_svyDone)

theorem agree_piStep {P : List Part} {s0 : State} (c : Nat) (w : Nat) {s : State} (h_acc : Part.acc ∈ P) (h_atl : Part.atl ∈ P) (h_frm : Part.frm ∈ P) (h_hlt : Part.hlt ∈ P) (h_out : Part.out ∈ P) (h_regs : Part.regs ∈ P) (h_svy : Part.svy ∈ P) (h_wm : Part.wm ∈ P) (hk : Agree P s0 s) :
    Agree P s0 (piStep c w s) := by
  unfold piStep
  try dsimp only
  all_goals (with_reducible repeat' first | assumption | rfl | apply agree_State_setScore | apply agree_insertMark | apply agree_svyReach | apply agree_svyStepPoint)

theorem agree_piHalt {P : List Part} {s0 : State} (c : Nat) (w : Nat) {s : State} (h_acc : Part.acc ∈ P) (h_atl : Part.atl ∈ P) (h_frm : Part.frm ∈ P) (h_hlt : Part.hlt ∈ P) (h_out : Part.out ∈ P) (h_regs : Part.regs ∈ P) (h_svy : Part.svy ∈ P) (hk : Agree P s0 s) :
    Agree P s0 (piHalt c w s) := by
  unfold piHalt
  try dsimp only
  all_goals (with_reducible repeat' first | assumption | rfl | apply agree_ite | apply agree_ite_st | apply agree_ite_snd | apply agree_svyKillAll | apply agree_svyStopping)

theorem agree_svyExec {P : List Part} {s0 : State} (op : Nat) (f : Nat → Nat → State → State) (c : Nat) {s : State} (hf : ∀ y0 y1 t, Agree P s0 t → Agree P s0 (f y0 y1 t))  (hk : Agree P s0 s) :
    Agree P s0 (svyExec op f c s) := by
  unfold svyExec
  try dsimp only
  all_goals (with_reducible repeat' first | assumption | rfl | apply agree_ite | apply agree_ite_st | apply agree_ite_snd | apply hf)

theorem agree_svyRetry {P : List Part} {s0 : State} (c : Nat) (w : Nat) {s : State} (h_acc : Part.acc ∈ P) (h_atl : Part.atl ∈ P) (h_frm : Part.frm ∈ P) (h_hlt : Part.hlt ∈ P) (h_out : Part.out ∈ P) (h_regs : Part.regs ∈ P) (h_svy : Part.svy ∈ P) (h_wm : Part.wm ∈ P) (hk : Agree P s0 s) :
    Agree P s0 (svyRetry c w s) := by
  unfold svyRetry
  try dsimp only
  all_goals (with_reducible repeat' first | assumption | rfl | apply agree_piBeam | apply agree_piCommit | apply agree_piCorr | apply agree_piDump | apply agree_piFence | apply agree_piMark | apply agree_piMerge | apply agree_piWaitidx | apply agree_piWaitmark | split)

theorem agree_svyWaitEnd {P : List Part} {s0 : State} (c : Nat) {s : State} (h_acc : Part.acc ∈ P) (h_atl : Part.atl ∈ P) (h_frm : Part.frm ∈ P) (h_hlt : Part.hlt ∈ P) (h_out : Part.out ∈ P) (h_regs : Part.regs ∈ P) (h_svy : Part.svy ∈ P) (h_wm : Part.wm ∈ P) (hk : Agree P s0 s) :
    Agree P s0 (svyWaitEnd c s) := by
  unfold svyWaitEnd
  try dsimp only
  all_goals (with_reducible repeat' first | assumption | rfl | apply agree_ite | apply agree_ite_st | apply agree_ite_snd | apply agree_svyDone | apply agree_svyRetry | split)

theorem agree_accStep {P : List Part} {s0 : State} {s : State} (h_acc : Part.acc ∈ P) (h_atl : Part.atl ∈ P) (h_frm : Part.frm ∈ P) (h_hbm : Part.hbm ∈ P) (h_hlt : Part.hlt ∈ P) (h_mem : Part.mem ∈ P) (h_out : Part.out ∈ P) (h_regs : Part.regs ∈ P) (h_svy : Part.svy ∈ P) (h_wm : Part.wm ∈ P) (hk : Agree P s0 s) :
    Agree P s0 (accStep s) := by
  unfold accStep
  try dsimp only
  all_goals (with_reducible repeat' first | assumption | rfl | apply agree_ite | apply agree_ite_st | apply agree_ite_snd | apply agree_State_setAplan | apply agree_beamCommit | apply agree_beamLegend | apply agree_endHandle | apply agree_inc | apply agree_noteApplied | apply agree_opRetire | apply agree_raise | apply agree_setHeld | (intro _ _ _) | (intro _ _) | split | refine agree_snd ?_ (by assumption) | refine agree_snd2 ?_ (by assumption) | refine agree_st ?_ (by assumption) | refine agree_get ?_ (by assumption) | refine agree_get2 ?_ (by assumption) | apply agree_with_atl)

theorem agree_loadImage {P : List Part} {s0 : State} (c : Nat) (h : List Byte) (code : List Byte) (data : List Byte) {s : State} (h_atl : Part.atl ∈ P) (h_regs : Part.regs ∈ P) (h_svy : Part.svy ∈ P) (hk : Agree P s0 s) :
    Agree P s0 (loadImage c h code data s) := by
  unfold loadImage
  try dsimp only
  all_goals (with_reducible repeat' first | assumption | rfl | apply agree_State_setScore | apply agree_foldS | apply agree_setReg | apply agree_setRegion | (intro _ _ _) | (intro _ _) | split | refine agree_snd ?_ (by assumption) | refine agree_snd2 ?_ (by assumption) | refine agree_st ?_ (by assumption) | refine agree_get ?_ (by assumption) | refine agree_get2 ?_ (by assumption) | apply agree_with_svy)

theorem agree_loadRefused {P : List Part} {s0 : State} (c : Nat) (cause : Nat) {s : State} (h_hlt : Part.hlt ∈ P) (h_out : Part.out ∈ P) (h_regs : Part.regs ∈ P) (hk : Agree P s0 s) :
    Agree P s0 (loadRefused c cause s) := by
  unfold loadRefused
  try dsimp only
  all_goals (with_reducible repeat' first | assumption | rfl | apply agree_raise)

theorem agree_loadDone {P : List Part} {s0 : State} (c : Nat) {s : State} (h_atl : Part.atl ∈ P) (h_hlt : Part.hlt ∈ P) (h_mem : Part.mem ∈ P) (h_out : Part.out ∈ P) (h_regs : Part.regs ∈ P) (h_svy : Part.svy ∈ P) (hk : Agree P s0 s) :
    Agree P s0 (loadDone c s) := by
  unfold loadDone
  try dsimp only
  all_goals (with_reducible repeat' first | assumption | rfl | apply agree_ite | apply agree_ite_st | apply agree_ite_snd | apply agree_State_setScore | apply agree_hbmGet | apply agree_loadImage | apply agree_loadRefused | apply agree_raise | apply agree_setReg | split)

theorem agree_svyStopDone {P : List Part} {s0 : State} (c : Nat) {s : State} (h_hlt : Part.hlt ∈ P) (h_out : Part.out ∈ P) (h_regs : Part.regs ∈ P) (h_svy : Part.svy ∈ P) (hk : Agree P s0 s) :
    Agree P s0 (svyStopDone c s) := by
  unfold svyStopDone
  try dsimp only
  all_goals (with_reducible repeat' first | assumption | rfl | apply agree_ite | apply agree_ite_st | apply agree_ite_snd | apply agree_State_setScore | apply agree_raise)

theorem agree_execPlanLoadDone {P : List Part} {s0 : State} (core : Fin 8) {s : State} (h_atl : Part.atl ∈ P) (h_hlt : Part.hlt ∈ P) (h_mem : Part.mem ∈ P) (h_out : Part.out ∈ P) (h_regs : Part.regs ∈ P) (h_svy : Part.svy ∈ P) (hk : Agree P s0 s) :
    ∀ t, execPlanLoadDone core s = .next t → Agree P s0 t := by
  intro t ht
  unfold execPlanLoadDone at ht
  try dsimp only at ht
  all_goals (repeat' first | (cases ht) | split at ht)
  all_goals (with_reducible repeat' first | assumption | rfl | apply agree_loadDone)

theorem agree_execStepPoint {P : List Part} {s0 : State} (core : Fin 8) {s : State} (h_acc : Part.acc ∈ P) (h_atl : Part.atl ∈ P) (h_frm : Part.frm ∈ P) (h_hlt : Part.hlt ∈ P) (h_out : Part.out ∈ P) (h_regs : Part.regs ∈ P) (h_svy : Part.svy ∈ P) (hk : Agree P s0 s) :
    ∀ t, execStepPoint core s = .next t → Agree P s0 t := by
  intro t ht
  unfold execStepPoint at ht
  try dsimp only at ht
  all_goals (repeat' first | (cases ht) | split at ht)
  all_goals (with_reducible repeat' first | assumption | rfl | apply agree_ite | apply agree_ite_st | apply agree_ite_snd | apply agree_svyStepPoint)

theorem agree_execPlanWaitEnd {P : List Part} {s0 : State} (core : Fin 8) {s : State} (h_acc : Part.acc ∈ P) (h_atl : Part.atl ∈ P) (h_frm : Part.frm ∈ P) (h_hlt : Part.hlt ∈ P) (h_out : Part.out ∈ P) (h_regs : Part.regs ∈ P) (h_svy : Part.svy ∈ P) (h_wm : Part.wm ∈ P) (hk : Agree P s0 s) :
    ∀ t, execPlanWaitEnd core s = .next t → Agree P s0 t := by
  intro t ht
  unfold execPlanWaitEnd at ht
  try dsimp only at ht
  all_goals (repeat' first | (cases ht) | split at ht)
  all_goals (with_reducible repeat' first | assumption | rfl | apply agree_svyWaitEnd)

theorem agree_execStepWaymark {P : List Part} {s0 : State} {s : State} (h_acc : Part.acc ∈ P) (h_atl : Part.atl ∈ P) (h_frm : Part.frm ∈ P) (h_hbm : Part.hbm ∈ P) (h_hlt : Part.hlt ∈ P) (h_mem : Part.mem ∈ P) (h_out : Part.out ∈ P) (h_regs : Part.regs ∈ P) (h_svy : Part.svy ∈ P) (h_wm : Part.wm ∈ P) (hk : Agree P s0 s) :
    ∀ t, execStepWaymark s = .next t → Agree P s0 t := by
  intro t ht
  unfold execStepWaymark at ht
  try dsimp only at ht
  all_goals (repeat' first | (cases ht) | split at ht)
  all_goals (with_reducible repeat' first | assumption | rfl | apply agree_accStep)

theorem agree_execPlanNop {P : List Part} {s0 : State} (core : Fin 8) {s : State} (h_acc : Part.acc ∈ P) (h_atl : Part.atl ∈ P) (h_frm : Part.frm ∈ P) (h_hlt : Part.hlt ∈ P) (h_out : Part.out ∈ P) (h_regs : Part.regs ∈ P) (h_svy : Part.svy ∈ P) (hk : Agree P s0 s) :
    ∀ t, execPlanNop core s = .next t → Agree P s0 t := by
  intro t ht
  unfold execPlanNop at ht
  try dsimp only at ht
  all_goals (repeat' first | (cases ht) | split at ht)
  all_goals (with_reducible repeat' first | assumption | rfl | apply agree_svyExec | apply agree_svyNext | (intro _ _ _))

theorem agree_execPlanSet {P : List Part} {s0 : State} (core : Fin 8) {s : State} (h_acc : Part.acc ∈ P) (h_atl : Part.atl ∈ P) (h_frm : Part.frm ∈ P) (h_hlt : Part.hlt ∈ P) (h_out : Part.out ∈ P) (h_regs : Part.regs ∈ P) (h_svy : Part.svy ∈ P) (hk : Agree P s0 s) :
    ∀ t, execPlanSet core s = .next t → Agree P s0 t := by
  intro t ht
  unfold execPlanSet at ht
  try dsimp only at ht
  all_goals (repeat' first | (cases ht) | split at ht)
  all_goals (with_reducible repeat' first | assumption | rfl | apply agree_svyAlu | apply agree_svyExec | (intro _ _ _))

theorem agree_execPlanSethi {P : List Part} {s0 : State} (core : Fin 8) {s : State} (h_acc : Part.acc ∈ P) (h_atl : Part.atl ∈ P) (h_frm : Part.frm ∈ P) (h_hlt : Part.hlt ∈ P) (h_out : Part.out ∈ P) (h_regs : Part.regs ∈ P) (h_svy : Part.svy ∈ P) (hk : Agree P s0 s) :
    ∀ t, execPlanSethi core s = .next t → Agree P s0 t := by
  intro t ht
  unfold execPlanSethi at ht
  try dsimp only at ht
  all_goals (repeat' first | (cases ht) | split at ht)
  all_goals (with_reducible repeat' first | assumption | rfl | apply agree_svyAlu | apply agree_svyExec | (intro _ _ _))

theorem agree_execPlanAdd {P : List Part} {s0 : State} (core : Fin 8) {s : State} (h_acc : Part.acc ∈ P) (h_atl : Part.atl ∈ P) (h_frm : Part.frm ∈ P) (h_hlt : Part.hlt ∈ P) (h_out : Part.out ∈ P) (h_regs : Part.regs ∈ P) (h_svy : Part.svy ∈ P) (hk : Agree P s0 s) :
    ∀ t, execPlanAdd core s = .next t → Agree P s0 t := by
  intro t ht
  unfold execPlanAdd at ht
  try dsimp only at ht
  all_goals (repeat' first | (cases ht) | split at ht)
  all_goals (with_reducible repeat' first | assumption | rfl | apply agree_svyAlu | apply agree_svyExec | (intro _ _ _))

theorem agree_execPlanSub {P : List Part} {s0 : State} (core : Fin 8) {s : State} (h_acc : Part.acc ∈ P) (h_atl : Part.atl ∈ P) (h_frm : Part.frm ∈ P) (h_hlt : Part.hlt ∈ P) (h_out : Part.out ∈ P) (h_regs : Part.regs ∈ P) (h_svy : Part.svy ∈ P) (hk : Agree P s0 s) :
    ∀ t, execPlanSub core s = .next t → Agree P s0 t := by
  intro t ht
  unfold execPlanSub at ht
  try dsimp only at ht
  all_goals (repeat' first | (cases ht) | split at ht)
  all_goals (with_reducible repeat' first | assumption | rfl | apply agree_svyAlu | apply agree_svyExec | (intro _ _ _))

theorem agree_execPlanMul {P : List Part} {s0 : State} (core : Fin 8) {s : State} (h_acc : Part.acc ∈ P) (h_atl : Part.atl ∈ P) (h_frm : Part.frm ∈ P) (h_hlt : Part.hlt ∈ P) (h_out : Part.out ∈ P) (h_regs : Part.regs ∈ P) (h_svy : Part.svy ∈ P) (hk : Agree P s0 s) :
    ∀ t, execPlanMul core s = .next t → Agree P s0 t := by
  intro t ht
  unfold execPlanMul at ht
  try dsimp only at ht
  all_goals (repeat' first | (cases ht) | split at ht)
  all_goals (with_reducible repeat' first | assumption | rfl | apply agree_svyAlu | apply agree_svyExec | (intro _ _ _))

theorem agree_execPlanAnd {P : List Part} {s0 : State} (core : Fin 8) {s : State} (h_acc : Part.acc ∈ P) (h_atl : Part.atl ∈ P) (h_frm : Part.frm ∈ P) (h_hlt : Part.hlt ∈ P) (h_out : Part.out ∈ P) (h_regs : Part.regs ∈ P) (h_svy : Part.svy ∈ P) (hk : Agree P s0 s) :
    ∀ t, execPlanAnd core s = .next t → Agree P s0 t := by
  intro t ht
  unfold execPlanAnd at ht
  try dsimp only at ht
  all_goals (repeat' first | (cases ht) | split at ht)
  all_goals (with_reducible repeat' first | assumption | rfl | apply agree_svyAlu | apply agree_svyExec | (intro _ _ _))

theorem agree_execPlanOr {P : List Part} {s0 : State} (core : Fin 8) {s : State} (h_acc : Part.acc ∈ P) (h_atl : Part.atl ∈ P) (h_frm : Part.frm ∈ P) (h_hlt : Part.hlt ∈ P) (h_out : Part.out ∈ P) (h_regs : Part.regs ∈ P) (h_svy : Part.svy ∈ P) (hk : Agree P s0 s) :
    ∀ t, execPlanOr core s = .next t → Agree P s0 t := by
  intro t ht
  unfold execPlanOr at ht
  try dsimp only at ht
  all_goals (repeat' first | (cases ht) | split at ht)
  all_goals (with_reducible repeat' first | assumption | rfl | apply agree_svyAlu | apply agree_svyExec | (intro _ _ _))

theorem agree_execPlanShl {P : List Part} {s0 : State} (core : Fin 8) {s : State} (h_acc : Part.acc ∈ P) (h_atl : Part.atl ∈ P) (h_frm : Part.frm ∈ P) (h_hlt : Part.hlt ∈ P) (h_out : Part.out ∈ P) (h_regs : Part.regs ∈ P) (h_svy : Part.svy ∈ P) (hk : Agree P s0 s) :
    ∀ t, execPlanShl core s = .next t → Agree P s0 t := by
  intro t ht
  unfold execPlanShl at ht
  try dsimp only at ht
  all_goals (repeat' first | (cases ht) | split at ht)
  all_goals (with_reducible repeat' first | assumption | rfl | apply agree_svyAlu | apply agree_svyExec | (intro _ _ _))

theorem agree_execPlanShr {P : List Part} {s0 : State} (core : Fin 8) {s : State} (h_acc : Part.acc ∈ P) (h_atl : Part.atl ∈ P) (h_frm : Part.frm ∈ P) (h_hlt : Part.hlt ∈ P) (h_out : Part.out ∈ P) (h_regs : Part.regs ∈ P) (h_svy : Part.svy ∈ P) (hk : Agree P s0 s) :
    ∀ t, execPlanShr core s = .next t → Agree P s0 t := by
  intro t ht
  unfold execPlanShr at ht
  try dsimp only at ht
  all_goals (repeat' first | (cases ht) | split at ht)
  all_goals (with_reducible repeat' first | assumption | rfl | apply agree_svyAlu | apply agree_svyExec | (intro _ _ _))

theorem agree_execPlanBranch {P : List Part} {s0 : State} (core : Fin 8) {s : State} (h_acc : Part.acc ∈ P) (h_atl : Part.atl ∈ P) (h_frm : Part.frm ∈ P) (h_hlt : Part.hlt ∈ P) (h_out : Part.out ∈ P) (h_regs : Part.regs ∈ P) (h_svy : Part.svy ∈ P) (hk : Agree P s0 s) :
    ∀ t, execPlanBranch core s = .next t → Agree P s0 t := by
  intro t ht
  unfold execPlanBranch at ht
  grind [agree_piBranch, agree_svyExec]

theorem agree_execPlanLoop {P : List Part} {s0 : State} (core : Fin 8) {s : State} (h_acc : Part.acc ∈ P) (h_atl : Part.atl ∈ P) (h_frm : Part.frm ∈ P) (h_hlt : Part.hlt ∈ P) (h_out : Part.out ∈ P) (h_regs : Part.regs ∈ P) (h_svy : Part.svy ∈ P) (hk : Agree P s0 s) :
    ∀ t, execPlanLoop core s = .next t → Agree P s0 t := by
  intro t ht
  unfold execPlanLoop at ht
  grind [agree_piLoop, agree_svyExec]

theorem agree_execPlanCall {P : List Part} {s0 : State} (core : Fin 8) {s : State} (h_acc : Part.acc ∈ P) (h_atl : Part.atl ∈ P) (h_frm : Part.frm ∈ P) (h_hlt : Part.hlt ∈ P) (h_out : Part.out ∈ P) (h_regs : Part.regs ∈ P) (h_svy : Part.svy ∈ P) (hk : Agree P s0 s) :
    ∀ t, execPlanCall core s = .next t → Agree P s0 t := by
  intro t ht
  unfold execPlanCall at ht
  grind [agree_piCall, agree_svyExec]

theorem agree_execPlanRet {P : List Part} {s0 : State} (core : Fin 8) {s : State} (h_acc : Part.acc ∈ P) (h_atl : Part.atl ∈ P) (h_frm : Part.frm ∈ P) (h_hlt : Part.hlt ∈ P) (h_out : Part.out ∈ P) (h_regs : Part.regs ∈ P) (h_svy : Part.svy ∈ P) (hk : Agree P s0 s) :
    ∀ t, execPlanRet core s = .next t → Agree P s0 t := by
  intro t ht
  unfold execPlanRet at ht
  try dsimp only at ht
  all_goals (repeat' first | (cases ht) | split at ht)
  all_goals (with_reducible repeat' first | assumption | rfl | apply agree_piRet | apply agree_svyExec | (intro _ _ _))

theorem agree_execPlanStream {P : List Part} {s0 : State} (core : Fin 8) {s : State} (h_acc : Part.acc ∈ P) (h_atl : Part.atl ∈ P) (h_frm : Part.frm ∈ P) (h_hlt : Part.hlt ∈ P) (h_out : Part.out ∈ P) (h_regs : Part.regs ∈ P) (h_svy : Part.svy ∈ P) (hk : Agree P s0 s) :
    ∀ t, execPlanStream core s = .next t → Agree P s0 t := by
  intro t ht
  unfold execPlanStream at ht
  grind [agree_piStream, agree_svyExec]

theorem agree_execPlanSpectra {P : List Part} {s0 : State} (core : Fin 8) {s : State} (h_acc : Part.acc ∈ P) (h_atl : Part.atl ∈ P) (h_frm : Part.frm ∈ P) (h_hlt : Part.hlt ∈ P) (h_out : Part.out ∈ P) (h_regs : Part.regs ∈ P) (h_svy : Part.svy ∈ P) (hk : Agree P s0 s) :
    ∀ t, execPlanSpectra core s = .next t → Agree P s0 t := by
  intro t ht
  unfold execPlanSpectra at ht
  grind [agree_piSpectra, agree_svyExec]

theorem agree_execPlanTileset {P : List Part} {s0 : State} (core : Fin 8) {s : State} (h_acc : Part.acc ∈ P) (h_atl : Part.atl ∈ P) (h_frm : Part.frm ∈ P) (h_hlt : Part.hlt ∈ P) (h_out : Part.out ∈ P) (h_regs : Part.regs ∈ P) (h_svy : Part.svy ∈ P) (hk : Agree P s0 s) :
    ∀ t, execPlanTileset core s = .next t → Agree P s0 t := by
  intro t ht
  unfold execPlanTileset at ht
  grind [agree_piTileset, agree_svyExec]

theorem agree_execPlanBudget {P : List Part} {s0 : State} (core : Fin 8) {s : State} (h_acc : Part.acc ∈ P) (h_atl : Part.atl ∈ P) (h_cad : Part.cad ∈ P) (h_frm : Part.frm ∈ P) (h_hlt : Part.hlt ∈ P) (h_out : Part.out ∈ P) (h_regs : Part.regs ∈ P) (h_svy : Part.svy ∈ P) (hk : Agree P s0 s) :
    ∀ t, execPlanBudget core s = .next t → Agree P s0 t := by
  intro t ht
  unfold execPlanBudget at ht
  grind [agree_piBudget, agree_svyExec]

theorem agree_execPlanCorr {P : List Part} {s0 : State} (core : Fin 8) {s : State} (h_acc : Part.acc ∈ P) (h_atl : Part.atl ∈ P) (h_frm : Part.frm ∈ P) (h_hlt : Part.hlt ∈ P) (h_out : Part.out ∈ P) (h_regs : Part.regs ∈ P) (h_svy : Part.svy ∈ P) (hk : Agree P s0 s) :
    ∀ t, execPlanCorr core s = .next t → Agree P s0 t := by
  intro t ht
  unfold execPlanCorr at ht
  grind [agree_piCorr, agree_svyExec]

theorem agree_execPlanBeam {P : List Part} {s0 : State} (core : Fin 8) {s : State} (h_acc : Part.acc ∈ P) (h_atl : Part.atl ∈ P) (h_frm : Part.frm ∈ P) (h_hlt : Part.hlt ∈ P) (h_out : Part.out ∈ P) (h_regs : Part.regs ∈ P) (h_svy : Part.svy ∈ P) (hk : Agree P s0 s) :
    ∀ t, execPlanBeam core s = .next t → Agree P s0 t := by
  intro t ht
  unfold execPlanBeam at ht
  grind [agree_piBeam, agree_svyExec]

theorem agree_execPlanMerge {P : List Part} {s0 : State} (core : Fin 8) {s : State} (h_acc : Part.acc ∈ P) (h_atl : Part.atl ∈ P) (h_frm : Part.frm ∈ P) (h_hlt : Part.hlt ∈ P) (h_out : Part.out ∈ P) (h_regs : Part.regs ∈ P) (h_svy : Part.svy ∈ P) (hk : Agree P s0 s) :
    ∀ t, execPlanMerge core s = .next t → Agree P s0 t := by
  intro t ht
  unfold execPlanMerge at ht
  grind [agree_piMerge, agree_svyExec]

theorem agree_execPlanDump {P : List Part} {s0 : State} (core : Fin 8) {s : State} (h_acc : Part.acc ∈ P) (h_atl : Part.atl ∈ P) (h_frm : Part.frm ∈ P) (h_hlt : Part.hlt ∈ P) (h_out : Part.out ∈ P) (h_regs : Part.regs ∈ P) (h_svy : Part.svy ∈ P) (h_wm : Part.wm ∈ P) (hk : Agree P s0 s) :
    ∀ t, execPlanDump core s = .next t → Agree P s0 t := by
  intro t ht
  unfold execPlanDump at ht
  grind [agree_piDump, agree_svyExec]

theorem agree_execPlanMark {P : List Part} {s0 : State} (core : Fin 8) {s : State} (h_acc : Part.acc ∈ P) (h_atl : Part.atl ∈ P) (h_frm : Part.frm ∈ P) (h_hlt : Part.hlt ∈ P) (h_out : Part.out ∈ P) (h_regs : Part.regs ∈ P) (h_svy : Part.svy ∈ P) (h_wm : Part.wm ∈ P) (hk : Agree P s0 s) :
    ∀ t, execPlanMark core s = .next t → Agree P s0 t := by
  intro t ht
  unfold execPlanMark at ht
  grind [agree_piMark, agree_svyExec]

theorem agree_execPlanWaitmark {P : List Part} {s0 : State} (core : Fin 8) {s : State} (h_acc : Part.acc ∈ P) (h_atl : Part.atl ∈ P) (h_frm : Part.frm ∈ P) (h_hlt : Part.hlt ∈ P) (h_out : Part.out ∈ P) (h_regs : Part.regs ∈ P) (h_svy : Part.svy ∈ P) (hk : Agree P s0 s) :
    ∀ t, execPlanWaitmark core s = .next t → Agree P s0 t := by
  intro t ht
  unfold execPlanWaitmark at ht
  grind [agree_piWaitmark, agree_svyExec]

theorem agree_execPlanWaitidx {P : List Part} {s0 : State} (core : Fin 8) {s : State} (h_acc : Part.acc ∈ P) (h_atl : Part.atl ∈ P) (h_frm : Part.frm ∈ P) (h_hlt : Part.hlt ∈ P) (h_out : Part.out ∈ P) (h_regs : Part.regs ∈ P) (h_svy : Part.svy ∈ P) (hk : Agree P s0 s) :
    ∀ t, execPlanWaitidx core s = .next t → Agree P s0 t := by
  intro t ht
  unfold execPlanWaitidx at ht
  grind [agree_piWaitidx, agree_svyExec]

theorem agree_execPlanStep {P : List Part} {s0 : State} (core : Fin 8) {s : State} (h_acc : Part.acc ∈ P) (h_atl : Part.atl ∈ P) (h_frm : Part.frm ∈ P) (h_hlt : Part.hlt ∈ P) (h_out : Part.out ∈ P) (h_regs : Part.regs ∈ P) (h_svy : Part.svy ∈ P) (h_wm : Part.wm ∈ P) (hk : Agree P s0 s) :
    ∀ t, execPlanStep core s = .next t → Agree P s0 t := by
  intro t ht
  unfold execPlanStep at ht
  grind [agree_piStep, agree_svyExec]

theorem agree_execPlanFence {P : List Part} {s0 : State} (core : Fin 8) {s : State} (h_acc : Part.acc ∈ P) (h_atl : Part.atl ∈ P) (h_frm : Part.frm ∈ P) (h_hlt : Part.hlt ∈ P) (h_out : Part.out ∈ P) (h_regs : Part.regs ∈ P) (h_svy : Part.svy ∈ P) (hk : Agree P s0 s) :
    ∀ t, execPlanFence core s = .next t → Agree P s0 t := by
  intro t ht
  unfold execPlanFence at ht
  grind [agree_piFence, agree_svyExec]

theorem agree_execPlanCommit {P : List Part} {s0 : State} (core : Fin 8) {s : State} (h_acc : Part.acc ∈ P) (h_atl : Part.atl ∈ P) (h_frm : Part.frm ∈ P) (h_hlt : Part.hlt ∈ P) (h_out : Part.out ∈ P) (h_regs : Part.regs ∈ P) (h_svy : Part.svy ∈ P) (hk : Agree P s0 s) :
    ∀ t, execPlanCommit core s = .next t → Agree P s0 t := by
  intro t ht
  unfold execPlanCommit at ht
  grind [agree_piCommit, agree_svyExec]

theorem agree_execPlanAbort {P : List Part} {s0 : State} (core : Fin 8) {s : State} (h_acc : Part.acc ∈ P) (h_atl : Part.atl ∈ P) (h_frm : Part.frm ∈ P) (h_hlt : Part.hlt ∈ P) (h_out : Part.out ∈ P) (h_regs : Part.regs ∈ P) (h_svy : Part.svy ∈ P) (hk : Agree P s0 s) :
    ∀ t, execPlanAbort core s = .next t → Agree P s0 t := by
  intro t ht
  unfold execPlanAbort at ht
  grind [agree_piAbort, agree_svyExec]

theorem agree_execPlanHalt {P : List Part} {s0 : State} (core : Fin 8) {s : State} (h_acc : Part.acc ∈ P) (h_atl : Part.atl ∈ P) (h_frm : Part.frm ∈ P) (h_hlt : Part.hlt ∈ P) (h_out : Part.out ∈ P) (h_regs : Part.regs ∈ P) (h_svy : Part.svy ∈ P) (hk : Agree P s0 s) :
    ∀ t, execPlanHalt core s = .next t → Agree P s0 t := by
  intro t ht
  unfold execPlanHalt at ht
  grind [agree_piHalt, agree_svyExec]

end Sys2Proof.Machine
end

