-- ==== Sys2Proof/Laws/AgreeFlow.lean ====
section
/-! SUPPORT. What the operations of Machine/Flow leave alone (Laws/Agree). -/

namespace Sys2Proof.Machine

theorem agree_xarArrive {P : List Part} {s0 : State} (pos : Nat) (w : Waymark) {s : State} (h_hlt : Part.hlt ∈ P) (h_regs : Part.regs ∈ P) (h_wm : Part.wm ∈ P) (hk : Agree P s0 s) :
    Agree P s0 (xarArrive pos w s) := by
  unfold xarArrive
  try dsimp only
  all_goals (with_reducible repeat' first | assumption | rfl | apply agree_ite | apply agree_ite_st | apply agree_ite_snd | apply agree_logOpen | apply agree_passMark | apply agree_setHeld)

theorem agree_xarDue {P : List Part} {s0 : State} (pos : Nat) {s : State} (h_hlt : Part.hlt ∈ P) (h_regs : Part.regs ∈ P) (h_wm : Part.wm ∈ P) (h_xar : Part.xar ∈ P) (hk : Agree P s0 s) :
    Agree P s0 (xarDue pos s) := by
  unfold xarDue
  grind [agree_applyDue, agree_xarApply]

theorem agree_addPasses {P : List Part} {s0 : State} (b : SubBuf) {s : State} (h_atl : Part.atl ∈ P) (h_hlt : Part.hlt ∈ P) (h_out : Part.out ∈ P) (h_regs : Part.regs ∈ P) (hk : Agree P s0 s) :
    Agree P s0 (addPasses b s) := by
  unfold addPasses
  try dsimp only
  all_goals (with_reducible repeat' first | assumption | rfl | apply agree_ite | apply agree_ite_st | apply agree_ite_snd | apply agree_foldS | apply agree_raise | (intro _ _ _) | (intro _ _) | split | refine agree_snd ?_ (by assumption) | refine agree_snd2 ?_ (by assumption) | refine agree_st ?_ (by assumption) | refine agree_get ?_ (by assumption) | refine agree_get2 ?_ (by assumption) | apply agree_with_atl)

theorem agree_completionMarks {P : List Part} {s0 : State} (b : SubBuf) {s : State} (h_wm : Part.wm ∈ P) (hk : Agree P s0 s) :
    Agree P s0 (completionMarks b s) := by
  unfold completionMarks
  try dsimp only
  all_goals (with_reducible repeat' first | assumption | rfl | apply agree_foldS | apply agree_passMark | (intro _ _ _))

theorem agree_reduceAll {P : List Part} {s0 : State} (b : SubBuf) {s : State} (h_acc : Part.acc ∈ P) (hk : Agree P s0 s) :
    Agree P s0 (reduceAll b s) := by
  unfold reduceAll
  try dsimp only
  all_goals (with_reducible repeat' first | assumption | rfl | apply agree_accReduce | apply agree_foldS | (intro _ _ _))

theorem agree_notesOf {P : List Part} {s0 : State} (n : Nat) {s : State} (h_acc : Part.acc ∈ P) (h_hlt : Part.hlt ∈ P) (h_out : Part.out ∈ P) (h_regs : Part.regs ∈ P) (hk : Agree P s0 s) :
    Agree P s0 (notesOf n s) := by
  unfold notesOf
  try dsimp only
  all_goals (with_reducible repeat' first | assumption | rfl | apply agree_foldS | apply agree_noteBlock | (intro _ _ _))

theorem agree_legendsDue {P : List Part} {s0 : State} (n : Nat) {s : State} (h_acc : Part.acc ∈ P) (h_atl : Part.atl ∈ P) (h_frm : Part.frm ∈ P) (h_hlt : Part.hlt ∈ P) (h_out : Part.out ∈ P) (h_regs : Part.regs ∈ P) (hk : Agree P s0 s) :
    Agree P s0 (legendsDue n s) := by
  unfold legendsDue
  try dsimp only
  all_goals (with_reducible repeat' first | assumption | rfl | apply agree_beamLegend | apply agree_foldS | (intro _ _ _))

theorem agree_subBlockStage {P : List Part} {s0 : State} {s : State} (h_acc : Part.acc ∈ P) (h_atl : Part.atl ∈ P) (h_cad : Part.cad ∈ P) (h_frm : Part.frm ∈ P) (h_hbm : Part.hbm ∈ P) (h_hlt : Part.hlt ∈ P) (h_mem : Part.mem ∈ P) (h_out : Part.out ∈ P) (h_regs : Part.regs ∈ P) (h_stg : Part.stg ∈ P) (h_wm : Part.wm ∈ P) (hk : Agree P s0 s) :
    Agree P s0 (subBlockStage s) := by
  unfold subBlockStage
  try dsimp only
  all_goals (with_reducible repeat' first | assumption | rfl | apply agree_ite | apply agree_ite_st | apply agree_ite_snd | apply agree_addPasses | apply agree_completionMarks | apply agree_foldS | apply agree_freeBufs | apply agree_legendsDue | apply agree_notesOf | apply agree_reduceAll | apply agree_stageData | apply agree_stgAdvance | apply agree_xarArrive | (intro _ _ _) | (intro _ _) | split | refine agree_snd ?_ (by assumption) | refine agree_snd2 ?_ (by assumption) | refine agree_st ?_ (by assumption) | refine agree_get ?_ (by assumption) | refine agree_get2 ?_ (by assumption) | apply agree_with_stg)

theorem agree_fillEnd {P : List Part} {s0 : State} (a : Nat) (parity : Option (Nat × Nat)) {s : State} (h_atl : Part.atl ∈ P) (h_hlt : Part.hlt ∈ P) (h_out : Part.out ∈ P) (h_regs : Part.regs ∈ P) (h_stg : Part.stg ∈ P) (h_wm : Part.wm ∈ P) (h_xar : Part.xar ∈ P) (hk : Agree P s0 s) :
    Agree P s0 (fillEnd a parity s) := by
  unfold fillEnd
  try dsimp only
  all_goals (with_reducible repeat' first | assumption | rfl | apply agree_ite | apply agree_ite_st | apply agree_ite_snd | apply agree_passFillEnd | apply agree_xarDue | split)

theorem agree_closing {P : List Part} {s0 : State} (f : State → State) {s : State} (hf : ∀  t, Agree P s0 t → Agree P s0 (f  t)) (h_atl : Part.atl ∈ P) (h_hlt : Part.hlt ∈ P) (h_out : Part.out ∈ P) (h_regs : Part.regs ∈ P) (hk : Agree P s0 s) :
    Agree P s0 (closing f s) := by
  unfold closing
  try dsimp only
  all_goals (with_reducible repeat' first | assumption | rfl | apply agree_ite | apply agree_ite_st | apply agree_ite_snd | apply agree_statsBlock | apply hf)

theorem agree_execSubBlockStage {P : List Part} {s0 : State} {s : State} (h_acc : Part.acc ∈ P) (h_atl : Part.atl ∈ P) (h_cad : Part.cad ∈ P) (h_frm : Part.frm ∈ P) (h_hbm : Part.hbm ∈ P) (h_hlt : Part.hlt ∈ P) (h_mem : Part.mem ∈ P) (h_out : Part.out ∈ P) (h_regs : Part.regs ∈ P) (h_stg : Part.stg ∈ P) (h_wm : Part.wm ∈ P) (hk : Agree P s0 s) :
    ∀ t, execSubBlockStage s = .next t → Agree P s0 t := by
  intro t ht
  unfold execSubBlockStage at ht
  try dsimp only at ht
  all_goals (repeat' first | (cases ht) | split at ht)
  all_goals (with_reducible repeat' first | assumption | rfl | apply agree_subBlockStage)

theorem agree_execBlockClose {P : List Part} {s0 : State} {s : State} (h_atl : Part.atl ∈ P) (h_hbm : Part.hbm ∈ P) (h_hlt : Part.hlt ∈ P) (h_mem : Part.mem ∈ P) (h_out : Part.out ∈ P) (h_regs : Part.regs ∈ P) (h_stg : Part.stg ∈ P) (h_tru : Part.tru ∈ P) (h_wm : Part.wm ∈ P) (hk : Agree P s0 s) :
    ∀ t, execBlockClose s = .next t → Agree P s0 t := by
  intro t ht
  unfold execBlockClose at ht
  grind [agree_blockClose, agree_closing]

theorem agree_execCloseTimeout {P : List Part} {s0 : State} {s : State} (h_atl : Part.atl ∈ P) (h_hbm : Part.hbm ∈ P) (h_hlt : Part.hlt ∈ P) (h_mem : Part.mem ∈ P) (h_out : Part.out ∈ P) (h_regs : Part.regs ∈ P) (h_stg : Part.stg ∈ P) (h_tru : Part.tru ∈ P) (h_wm : Part.wm ∈ P) (hk : Agree P s0 s) :
    ∀ t, execCloseTimeout s = .next t → Agree P s0 t := by
  intro t ht
  unfold execCloseTimeout at ht
  grind [agree_closeTimeout, agree_closing]

theorem agree_execPassDispatch {P : List Part} {s0 : State} (desc : Fin 3) (corr : Nat) (ue : List (Fin 1024)) {s : State} (h_atl : Part.atl ∈ P) (h_hlt : Part.hlt ∈ P) (h_out : Part.out ∈ P) (h_regs : Part.regs ∈ P) (hk : Agree P s0 s) :
    ∀ t, execPassDispatch desc corr ue s = .next t → Agree P s0 t := by
  intro t ht
  unfold execPassDispatch at ht
  try dsimp only at ht
  all_goals (repeat' first | (cases ht) | split at ht)
  all_goals (with_reducible repeat' first | assumption | rfl | apply agree_passDispatch)

theorem agree_execPassFillEnd {P : List Part} {s0 : State} (array : Fin 80) (parity : Option (Fin 4096 × Fin 4096)) {s : State} (h_atl : Part.atl ∈ P) (h_hlt : Part.hlt ∈ P) (h_out : Part.out ∈ P) (h_regs : Part.regs ∈ P) (h_stg : Part.stg ∈ P) (h_wm : Part.wm ∈ P) (h_xar : Part.xar ∈ P) (hk : Agree P s0 s) :
    ∀ t, execPassFillEnd array parity s = .next t → Agree P s0 t := by
  intro t ht
  unfold execPassFillEnd at ht
  try dsimp only at ht
  all_goals (repeat' first | (cases ht) | split at ht)
  all_goals (with_reducible repeat' first | assumption | rfl | apply agree_fillEnd)

end Sys2Proof.Machine
end

