-- ==== Sys2Proof/Laws/AgreeMem.lean ====
section
/-! SUPPORT. What the operations of Machine/Mem leave alone (Laws/Agree). -/

namespace Sys2Proof.Machine

theorem agree_setStack {P : List Part} {s0 : State} (k : Nat) (n : Nat) {s : State} (h_regs : Part.regs ∈ P) (hk : Agree P s0 s) :
    Agree P s0 (setStack k n s) := by
  unfold setStack
  try dsimp only
  all_goals (with_reducible repeat' first | assumption | rfl | apply agree_wf)

theorem agree_setHostEntry {P : List Part} {s0 : State} (k : Nat) (b : Bool) {s : State} (h_mem : Part.mem ∈ P) (hk : Agree P s0 s) :
    Agree P s0 (setHostEntry k b s) := by
  unfold setHostEntry
  try dsimp only
  all_goals (with_reducible repeat' first | assumption | rfl | split | refine agree_snd ?_ (by assumption) | refine agree_snd2 ?_ (by assumption) | refine agree_st ?_ (by assumption) | refine agree_get ?_ (by assumption) | refine agree_get2 ?_ (by assumption) | apply agree_with_mem)

theorem agree_setBankQueue {P : List Part} {s0 : State} (pc : Nat) (b : Nat) (l : List HbmQ) {s : State} (h_mem : Part.mem ∈ P) (hk : Agree P s0 s) :
    Agree P s0 (setBankQueue pc b l s) := by
  unfold setBankQueue
  try dsimp only
  all_goals (with_reducible repeat' first | assumption | rfl | split | refine agree_snd ?_ (by assumption) | refine agree_snd2 ?_ (by assumption) | refine agree_st ?_ (by assumption) | refine agree_get ?_ (by assumption) | refine agree_get2 ?_ (by assumption) | apply agree_with_mem)

theorem agree_giveAnswers {P : List Part} {s0 : State} (p : Nat) (x0 : Nat) {x1 : State} (h_mem : Part.mem ∈ P) (hk : Agree P s0 x1) :
    Agree P s0 (giveAnswers p x0 x1) := by
  fun_induction giveAnswers
  all_goals (try dsimp only)
  all_goals (with_reducible repeat' first | assumption | rfl | apply_assumption | (intro _ _ _) | (intro _ _) | split | refine agree_snd ?_ (by assumption) | refine agree_snd2 ?_ (by assumption) | refine agree_st ?_ (by assumption) | refine agree_get ?_ (by assumption) | refine agree_get2 ?_ (by assumption) | apply agree_with_mem)

theorem agree_wakeStack {P : List Part} {s0 : State} (port : Nat) (k : Nat) {s : State} (h_hlt : Part.hlt ∈ P) (h_out : Part.out ∈ P) (h_regs : Part.regs ∈ P) (hk : Agree P s0 s) :
    Agree P s0 (wakeStack port k s) := by
  unfold wakeStack
  try dsimp only
  all_goals (with_reducible repeat' first | assumption | rfl | apply agree_inc | apply agree_raise | apply agree_setStack | split)

theorem agree_present {P : List Part} {s0 : State} (r : HbmReq) {s : State} (h_hlt : Part.hlt ∈ P) (h_mem : Part.mem ∈ P) (h_out : Part.out ∈ P) (h_regs : Part.regs ∈ P) (hk : Agree P s0 s) :
    Agree P s0 (present r s) := by
  unfold present
  try dsimp only
  all_goals (with_reducible repeat' first | assumption | rfl | apply agree_ite | apply agree_ite_st | apply agree_ite_snd | apply agree_inc | apply agree_wakeStack | split | refine agree_snd ?_ (by assumption) | refine agree_snd2 ?_ (by assumption) | refine agree_st ?_ (by assumption) | refine agree_get ?_ (by assumption) | refine agree_get2 ?_ (by assumption) | apply agree_with_mem)

theorem agree_acceptReq {P : List Part} {s0 : State} (r : HbmReq) {s : State} (h_hbm : Part.hbm ∈ P) (h_hlt : Part.hlt ∈ P) (h_mem : Part.mem ∈ P) (h_out : Part.out ∈ P) (h_regs : Part.regs ∈ P) (hk : Agree P s0 s) :
    Agree P s0 (acceptReq r s) := by
  unfold acceptReq
  try dsimp only
  all_goals (with_reducible repeat' first | assumption | rfl | apply agree_ite | apply agree_ite_st | apply agree_ite_snd | refine agree_readUnit _ _ _ (by assumption) (by assumption) (by assumption) (by assumption) ?_ | apply agree_setBankQueue | apply agree_writeUnit | split | refine agree_snd ?_ (by assumption) | refine agree_snd2 ?_ (by assumption) | refine agree_st ?_ (by assumption) | refine agree_get ?_ (by assumption) | refine agree_get2 ?_ (by assumption) | apply agree_with_mem)

theorem agree_hbmRequest {P : List Part} {s0 : State} (pc : Nat) (presented : List HbmReq) {s : State} (h_hbm : Part.hbm ∈ P) (h_hlt : Part.hlt ∈ P) (h_mem : Part.mem ∈ P) (h_out : Part.out ∈ P) (h_regs : Part.regs ∈ P) (hk : Agree P s0 s) :
    Agree P s0 (hbmRequest pc presented s) := by
  unfold hbmRequest
  try dsimp only
  all_goals (with_reducible repeat' first | assumption | rfl | apply agree_acceptReq | apply agree_foldS | apply agree_present | (intro _ _ _) | (intro _ _) | split)

theorem agree_issueHead {P : List Part} {s0 : State} (pc : Nat) (b : Nat) {s : State} (h_mem : Part.mem ∈ P) (hk : Agree P s0 s) :
    Agree P s0 (issueHead pc b s) := by
  unfold issueHead
  try dsimp only
  all_goals (with_reducible repeat' first | assumption | rfl | apply agree_ite | apply agree_ite_st | apply agree_ite_snd | apply agree_giveAnswers | apply agree_setBankQueue | split | refine agree_snd ?_ (by assumption) | refine agree_snd2 ?_ (by assumption) | refine agree_st ?_ (by assumption) | refine agree_get ?_ (by assumption) | refine agree_get2 ?_ (by assumption) | apply agree_with_mem)

theorem agree_commandSlot {P : List Part} {s0 : State} (pc : Nat) (open_ : List Nat) {s : State} (h_mem : Part.mem ∈ P) (hk : Agree P s0 s) :
    Agree P s0 (commandSlot pc open_ s) := by
  unfold commandSlot
  try dsimp only
  all_goals (with_reducible repeat' first | assumption | rfl | apply agree_ite | apply agree_ite_st | apply agree_ite_snd | apply agree_issueHead | (intro _ _ _) | (intro _ _) | split | refine agree_snd ?_ (by assumption) | refine agree_snd2 ?_ (by assumption) | refine agree_st ?_ (by assumption) | refine agree_get ?_ (by assumption) | refine agree_get2 ?_ (by assumption) | apply agree_with_mem)

theorem agree_refreshDue {P : List Part} {s0 : State} (pc : Nat) {s : State} (h_mem : Part.mem ∈ P) (hk : Agree P s0 s) :
    Agree P s0 (refreshDue pc s) := by
  unfold refreshDue
  try dsimp only
  all_goals (with_reducible repeat' first | assumption | rfl | apply agree_ite | apply agree_ite_st | apply agree_ite_snd | split | refine agree_snd ?_ (by assumption) | refine agree_snd2 ?_ (by assumption) | refine agree_st ?_ (by assumption) | refine agree_get ?_ (by assumption) | refine agree_get2 ?_ (by assumption) | apply agree_with_mem)

theorem agree_stackTemp {P : List Part} {s0 : State} (k : Nat) (t : Nat) {s : State} (h_hlt : Part.hlt ∈ P) (h_out : Part.out ∈ P) (h_regs : Part.regs ∈ P) (hk : Agree P s0 s) :
    Agree P s0 (stackTemp k t s) := by
  unfold stackTemp
  try dsimp only
  all_goals (with_reducible repeat' first | assumption | rfl | apply agree_ite | apply agree_ite_st | apply agree_ite_snd | apply agree_raise | apply agree_wf)

theorem agree_srIdle {P : List Part} {s0 : State} (k : Nat) {s : State} (h_regs : Part.regs ∈ P) (hk : Agree P s0 s) :
    Agree P s0 (srIdle k s) := by
  unfold srIdle
  try dsimp only
  all_goals (with_reducible repeat' first | assumption | rfl | apply agree_ite | apply agree_ite_st | apply agree_ite_snd | apply agree_setStack)

theorem agree_srEntered {P : List Part} {s0 : State} (k : Nat) {s : State} (h_mem : Part.mem ∈ P) (h_regs : Part.regs ∈ P) (hk : Agree P s0 s) :
    Agree P s0 (srEntered k s) := by
  unfold srEntered
  try dsimp only
  all_goals (with_reducible repeat' first | assumption | rfl | apply agree_ite | apply agree_ite_st | apply agree_ite_snd | apply agree_setHostEntry | apply agree_setStack)

theorem agree_srExited {P : List Part} {s0 : State} (k : Nat) (wait : Nat) {s : State} (h_regs : Part.regs ∈ P) (hk : Agree P s0 s) :
    Agree P s0 (srExited k wait s) := by
  unfold srExited
  try dsimp only
  all_goals (with_reducible repeat' first | assumption | rfl | apply agree_ite | apply agree_ite_st | apply agree_ite_snd | apply agree_setReg | apply agree_setStack)

theorem agree_noteTemp {P : List Part} {s0 : State} (n : Nat) {s : State} (h_mem : Part.mem ∈ P) (hk : Agree P s0 s) :
    Agree P s0 (noteTemp n s) := by
  unfold noteTemp
  try dsimp only
  all_goals (with_reducible repeat' first | assumption | rfl | split | refine agree_snd ?_ (by assumption) | refine agree_snd2 ?_ (by assumption) | refine agree_st ?_ (by assumption) | refine agree_get ?_ (by assumption) | refine agree_get2 ?_ (by assumption) | apply agree_with_mem)

theorem agree_setBench {P : List Part} {s0 : State} (n : Nat) (m : Nat) {s : State} (h_mem : Part.mem ∈ P) (h_regs : Part.regs ∈ P) (hk : Agree P s0 s) :
    Agree P s0 (setBench n m s) := by
  unfold setBench
  try dsimp only
  all_goals (with_reducible repeat' first | assumption | rfl | apply agree_setReg | apply agree_wf | split | refine agree_snd ?_ (by assumption) | refine agree_snd2 ?_ (by assumption) | refine agree_st ?_ (by assumption) | refine agree_get ?_ (by assumption) | refine agree_get2 ?_ (by assumption) | apply agree_with_mem)

theorem agree_trainPc {P : List Part} {s0 : State} (n : Nat) (m : Nat) {s : State} (h_atl : Part.atl ∈ P) (h_hlt : Part.hlt ∈ P) (h_mem : Part.mem ∈ P) (h_out : Part.out ∈ P) (h_regs : Part.regs ∈ P) (hk : Agree P s0 s) :
    Agree P s0 (trainPc n m s) := by
  unfold trainPc
  try dsimp only
  all_goals (with_reducible repeat' first | assumption | rfl | apply agree_ite | apply agree_ite_st | apply agree_ite_snd | apply agree_atlDegraded | apply agree_noteTemp | apply agree_raise | apply agree_setBench | apply agree_setReg | apply agree_wf | (intro _ _ _) | (intro _ _) | split)

theorem agree_trainDone {P : List Part} {s0 : State} (n : Nat) (m : Nat) {s : State} (h_atl : Part.atl ∈ P) (h_hlt : Part.hlt ∈ P) (h_mem : Part.mem ∈ P) (h_out : Part.out ∈ P) (h_regs : Part.regs ∈ P) (hk : Agree P s0 s) :
    Agree P s0 (trainDone n m s) := by
  unfold trainDone
  try dsimp only
  all_goals (with_reducible repeat' first | assumption | rfl | apply agree_ite | apply agree_ite_st | apply agree_ite_snd | apply agree_setStack | apply agree_trainPc | (intro _ _ _) | (intro _ _) | split | refine agree_snd ?_ (by assumption) | refine agree_snd2 ?_ (by assumption) | refine agree_st ?_ (by assumption) | refine agree_get ?_ (by assumption) | refine agree_get2 ?_ (by assumption) | apply agree_with_mem)

theorem agree_retrainDue {P : List Part} {s0 : State} (n : Nat) {s : State} (h_regs : Part.regs ∈ P) (hk : Agree P s0 s) :
    Agree P s0 (retrainDue n s) := by
  unfold retrainDue
  try dsimp only
  all_goals (with_reducible repeat' first | assumption | rfl | apply agree_ite | apply agree_ite_st | apply agree_ite_snd | apply agree_wf)

theorem agree_retrainStep {P : List Part} {s0 : State} (n : Nat) (count : Nat) (m : Nat) {s : State} (h_atl : Part.atl ∈ P) (h_hlt : Part.hlt ∈ P) (h_mem : Part.mem ∈ P) (h_out : Part.out ∈ P) (h_regs : Part.regs ∈ P) (hk : Agree P s0 s) :
    Agree P s0 (retrainStep n count m s) := by
  unfold retrainStep
  try dsimp only
  all_goals (with_reducible repeat' first | assumption | rfl | apply agree_ite | apply agree_ite_st | apply agree_ite_snd | apply agree_atlDegraded | apply agree_inc | apply agree_noteTemp | apply agree_raise | apply agree_setBench | apply agree_setReg | apply agree_wf)

theorem agree_fillSpare {P : List Part} {s0 : State} (n : Nat) {s : State} (h_hbm : Part.hbm ∈ P) (h_mem : Part.mem ∈ P) (hk : Agree P s0 s) :
    Agree P s0 (fillSpare n s) := by
  exact agree_step hk (fun p hp => by cases p <;> first | exact absurd h_hbm hp | exact absurd h_mem hp | rfl)

theorem agree_emptySpare {P : List Part} {s0 : State} (n : Nat) {s : State} (h_hbm : Part.hbm ∈ P) (h_mem : Part.mem ∈ P) (hk : Agree P s0 s) :
    Agree P s0 (emptySpare n s) := by
  exact agree_step hk (fun p hp => by cases p <;> first | exact absurd h_hbm hp | exact absurd h_mem hp | rfl)

theorem agree_retireCommit {P : List Part} {s0 : State} {s : State} (h_hbm : Part.hbm ∈ P) (h_hlt : Part.hlt ∈ P) (h_mem : Part.mem ∈ P) (h_out : Part.out ∈ P) (h_regs : Part.regs ∈ P) (hk : Agree P s0 s) :
    Agree P s0 (retireCommit s) := by
  unfold retireCommit
  split
  · exact hk
  · exact agree_raise _ _ _ h_hlt h_out h_regs (agree_setExcl _ _ h_regs (agree_with_mem2 _ h_mem h_hbm (agree_fillSpare _ h_hbm h_mem hk)))
  · exact agree_raise _ _ _ h_hlt h_out h_regs (agree_setExcl _ _ h_regs (agree_with_mem2 _ h_mem h_hbm (agree_emptySpare _ h_hbm h_mem hk)))

theorem agree_ceSecond {P : List Part} {s0 : State} {s : State} (h_hlt : Part.hlt ∈ P) (h_mem : Part.mem ∈ P) (h_out : Part.out ∈ P) (h_regs : Part.regs ∈ P) (hk : Agree P s0 s) :
    Agree P s0 (ceSecond s) := by
  unfold ceSecond
  try dsimp only
  all_goals (with_reducible repeat' first | assumption | rfl | apply agree_ite | apply agree_ite_st | apply agree_ite_snd | apply agree_foldS | apply agree_raise | apply agree_setReg | (intro _ _ _) | (intro _ _) | split | refine agree_snd ?_ (by assumption) | refine agree_snd2 ?_ (by assumption) | refine agree_st ?_ (by assumption) | refine agree_get ?_ (by assumption) | refine agree_get2 ?_ (by assumption) | apply agree_with_mem)

theorem agree_scrubNext {P : List Part} {s0 : State} (pos : Nat) {s : State} (h_hlt : Part.hlt ∈ P) (h_mem : Part.mem ∈ P) (h_out : Part.out ∈ P) (h_regs : Part.regs ∈ P) (hk : Agree P s0 s) :
    Agree P s0 (scrubNext pos s) := by
  unfold scrubNext
  try dsimp only
  all_goals (with_reducible repeat' first | assumption | rfl | apply agree_ite | apply agree_ite_st | apply agree_ite_snd | apply agree_raise | apply agree_setReg | split | refine agree_snd ?_ (by assumption) | refine agree_snd2 ?_ (by assumption) | refine agree_st ?_ (by assumption) | refine agree_get ?_ (by assumption) | refine agree_get2 ?_ (by assumption) | apply agree_with_mem)

theorem agree_scrub {P : List Part} {s0 : State} {s : State} (h_hlt : Part.hlt ∈ P) (h_mem : Part.mem ∈ P) (h_out : Part.out ∈ P) (h_regs : Part.regs ∈ P) (hk : Agree P s0 s) :
    Agree P s0 (scrub s) := by
  unfold scrub
  try dsimp only
  all_goals (with_reducible repeat' first | assumption | rfl | apply agree_ite | apply agree_ite_st | apply agree_ite_snd | apply agree_countCe | apply agree_countUe | apply agree_raise | apply agree_scrubNext | split | refine agree_snd ?_ (by assumption) | refine agree_snd2 ?_ (by assumption) | refine agree_st ?_ (by assumption) | refine agree_get ?_ (by assumption) | refine agree_get2 ?_ (by assumption) | apply agree_with_mem)

theorem agree_cmdFailed {P : List Part} {s0 : State} (f : CmdFail) {s : State} (h_hlt : Part.hlt ∈ P) (h_mem : Part.mem ∈ P) (h_out : Part.out ∈ P) (h_regs : Part.regs ∈ P) (hk : Agree P s0 s) :
    Agree P s0 (cmdFailed f s) := by
  unfold cmdFailed
  try dsimp only
  all_goals (with_reducible repeat' first | assumption | rfl | apply agree_ite | apply agree_ite_st | apply agree_ite_snd | apply agree_countUe | apply agree_logUe | apply agree_setEcc | (intro _ _ _) | (intro _ _) | split | refine agree_snd ?_ (by assumption) | refine agree_snd2 ?_ (by assumption) | refine agree_st ?_ (by assumption) | refine agree_get ?_ (by assumption) | refine agree_get2 ?_ (by assumption) | apply agree_with_mem)

theorem agree_cmdParity {P : List Part} {s0 : State} (pc : Nat) (n : Nat) (fs : List CmdFail) {s : State} (h_hlt : Part.hlt ∈ P) (h_mem : Part.mem ∈ P) (h_out : Part.out ∈ P) (h_regs : Part.regs ∈ P) (hk : Agree P s0 s) :
    Agree P s0 (cmdParity pc n fs s) := by
  unfold cmdParity
  try dsimp only
  all_goals (with_reducible repeat' first | assumption | rfl | apply agree_cmdFailed | apply agree_foldS | apply agree_inc | apply agree_raise | (intro _ _ _))

theorem agree_execHbmRequest {P : List Part} {s0 : State} (pc : Fin 64) (presented : List HbmReq) {s : State} (h_hbm : Part.hbm ∈ P) (h_hlt : Part.hlt ∈ P) (h_mem : Part.mem ∈ P) (h_out : Part.out ∈ P) (h_regs : Part.regs ∈ P) (hk : Agree P s0 s) :
    ∀ t, execHbmRequest pc presented s = .next t → Agree P s0 t := by
  intro t ht
  unfold execHbmRequest at ht
  try dsimp only at ht
  all_goals (repeat' first | (cases ht) | split at ht)
  all_goals (with_reducible repeat' first | assumption | rfl | apply agree_hbmRequest)

theorem agree_execHbmCommandSlot {P : List Part} {s0 : State} (pc : Fin 64) (banks : List (Fin 64)) {s : State} (h_mem : Part.mem ∈ P) (hk : Agree P s0 s) :
    ∀ t, execHbmCommandSlot pc banks s = .next t → Agree P s0 t := by
  intro t ht
  unfold execHbmCommandSlot at ht
  try dsimp only at ht
  all_goals (repeat' first | (cases ht) | split at ht)
  all_goals (with_reducible repeat' first | assumption | rfl | apply agree_commandSlot)

theorem agree_execRefreshDue {P : List Part} {s0 : State} (pc : Fin 64) {s : State} (h_mem : Part.mem ∈ P) (hk : Agree P s0 s) :
    ∀ t, execRefreshDue pc s = .next t → Agree P s0 t := by
  intro t ht
  unfold execRefreshDue at ht
  try dsimp only at ht
  all_goals (repeat' first | (cases ht) | split at ht)
  all_goals (with_reducible repeat' first | assumption | rfl | apply agree_refreshDue)

theorem agree_execStackTempReport {P : List Part} {s0 : State} (stack : Fin 2) (temp : BitVec 8) {s : State} (h_hlt : Part.hlt ∈ P) (h_out : Part.out ∈ P) (h_regs : Part.regs ∈ P) (hk : Agree P s0 s) :
    ∀ t, execStackTempReport stack temp s = .next t → Agree P s0 t := by
  intro t ht
  unfold execStackTempReport at ht
  try dsimp only at ht
  all_goals (repeat' first | (cases ht) | split at ht)
  all_goals (with_reducible repeat' first | assumption | rfl | apply agree_stackTemp)

theorem agree_execSrIdleTimeout {P : List Part} {s0 : State} (stack : Fin 2) {s : State} (h_regs : Part.regs ∈ P) (hk : Agree P s0 s) :
    ∀ t, execSrIdleTimeout stack s = .next t → Agree P s0 t := by
  intro t ht
  unfold execSrIdleTimeout at ht
  try dsimp only at ht
  all_goals (repeat' first | (cases ht) | split at ht)
  all_goals (with_reducible repeat' first | assumption | rfl | apply agree_srIdle)

theorem agree_execRetrainDue {P : List Part} {s0 : State} (pc : Fin 64) {s : State} (h_regs : Part.regs ∈ P) (hk : Agree P s0 s) :
    ∀ t, execRetrainDue pc s = .next t → Agree P s0 t := by
  intro t ht
  unfold execRetrainDue at ht
  try dsimp only at ht
  all_goals (repeat' first | (cases ht) | split at ht)
  all_goals (with_reducible repeat' first | assumption | rfl | apply agree_retrainDue)

theorem agree_execRetrainStep {P : List Part} {s0 : State} (pc : Fin 64) (count : Word) (margin : BitVec 16) {s : State} (h_atl : Part.atl ∈ P) (h_hlt : Part.hlt ∈ P) (h_mem : Part.mem ∈ P) (h_out : Part.out ∈ P) (h_regs : Part.regs ∈ P) (hk : Agree P s0 s) :
    ∀ t, execRetrainStep pc count margin s = .next t → Agree P s0 t := by
  intro t ht
  unfold execRetrainStep at ht
  try dsimp only at ht
  all_goals (repeat' first | (cases ht) | split at ht)
  all_goals (with_reducible repeat' first | assumption | rfl | apply agree_retrainStep)

theorem agree_execCeRateSecond {P : List Part} {s0 : State} {s : State} (h_hlt : Part.hlt ∈ P) (h_mem : Part.mem ∈ P) (h_out : Part.out ∈ P) (h_regs : Part.regs ∈ P) (hk : Agree P s0 s) :
    ∀ t, execCeRateSecond s = .next t → Agree P s0 t := by
  intro t ht
  unfold execCeRateSecond at ht
  grind [agree_ceSecond]

theorem agree_execPatrolScrub {P : List Part} {s0 : State} {s : State} (h_hlt : Part.hlt ∈ P) (h_mem : Part.mem ∈ P) (h_out : Part.out ∈ P) (h_regs : Part.regs ∈ P) (hk : Agree P s0 s) :
    ∀ t, execPatrolScrub s = .next t → Agree P s0 t := by
  intro t ht
  unfold execPatrolScrub at ht
  try dsimp only at ht
  all_goals (repeat' first | (cases ht) | split at ht)
  all_goals (with_reducible repeat' first | assumption | rfl | apply agree_scrub)

theorem agree_execCmdParityError {P : List Part} {s0 : State} (pc : Fin 64) (reissues : Nat) (failed : List CmdFail) {s : State} (h_hlt : Part.hlt ∈ P) (h_mem : Part.mem ∈ P) (h_out : Part.out ∈ P) (h_regs : Part.regs ∈ P) (hk : Agree P s0 s) :
    ∀ t, execCmdParityError pc reissues failed s = .next t → Agree P s0 t := by
  intro t ht
  unfold execCmdParityError at ht
  try dsimp only at ht
  all_goals (repeat' first | (cases ht) | split at ht)
  all_goals (with_reducible repeat' first | assumption | rfl | apply agree_cmdParity)

theorem agree_execRetireCommit {P : List Part} {s0 : State} {s : State} (h_hbm : Part.hbm ∈ P) (h_hlt : Part.hlt ∈ P) (h_mem : Part.mem ∈ P) (h_out : Part.out ∈ P) (h_regs : Part.regs ∈ P) (hk : Agree P s0 s) :
    ∀ t, execRetireCommit s = .next t → Agree P s0 t := by
  intro t ht
  unfold execRetireCommit at ht
  try dsimp only at ht
  all_goals (repeat' first | (cases ht) | split at ht)
  all_goals (with_reducible repeat' first | assumption | rfl | apply agree_retireCommit)

end Sys2Proof.Machine
end

