-- ==== Sys2Proof/Laws/AgreeMer.lean ====
section
/-! SUPPORT. What the operations of Machine/Mer leave alone (Laws/Agree). -/

namespace Sys2Proof.Machine

theorem agree_State_setRef {P : List Part} {s0 : State} (e : Nat) (x : RefSt) {s : State} (h_mer : Part.mer ∈ P) (hk : Agree P s0 s) :
    Agree P s0 (State.setRef e x s) := by
  unfold State.setRef
  try dsimp only
  all_goals (with_reducible repeat' first | assumption | rfl | split | refine agree_snd ?_ (by assumption) | refine agree_snd2 ?_ (by assumption) | refine agree_st ?_ (by assumption) | refine agree_get ?_ (by assumption) | refine agree_get2 ?_ (by assumption) | apply agree_with_mer)

theorem agree_setLoop {P : List Part} {s0 : State} (l : Nat) {s : State} (h_regs : Part.regs ∈ P) (hk : Agree P s0 s) :
    Agree P s0 (setLoop l s) := by
  unfold setLoop
  try dsimp only
  all_goals (with_reducible repeat' first | assumption | rfl | apply agree_wf)

theorem agree_setBw {P : List Part} {s0 : State} (b : Nat) {s : State} (h_mer : Part.mer ∈ P) (h_regs : Part.regs ∈ P) (hk : Agree P s0 s) :
    Agree P s0 (setBw b s) := by
  unfold setBw
  try dsimp only
  all_goals (with_reducible repeat' first | assumption | rfl | apply agree_setReg | split | refine agree_snd ?_ (by assumption) | refine agree_snd2 ?_ (by assumption) | refine agree_st ?_ (by assumption) | refine agree_get ?_ (by assumption) | refine agree_get2 ?_ (by assumption) | apply agree_with_mer)

theorem agree_dqEntry {P : List Part} {s0 : State} (e : Nat) (cause : Nat) {s : State} (h_hlt : Part.hlt ∈ P) (h_mer : Part.mer ∈ P) (h_out : Part.out ∈ P) (h_regs : Part.regs ∈ P) (hk : Agree P s0 s) :
    Agree P s0 (dqEntry e cause s) := by
  unfold dqEntry
  try dsimp only
  all_goals (with_reducible repeat' first | assumption | rfl | apply agree_ite | apply agree_ite_st | apply agree_ite_snd | apply agree_State_setRef | apply agree_raise | apply agree_wf | split | refine agree_snd ?_ (by assumption) | refine agree_snd2 ?_ (by assumption) | refine agree_st ?_ (by assumption) | refine agree_get ?_ (by assumption) | refine agree_get2 ?_ (by assumption) | apply agree_with_mer)

theorem agree_updateQl {P : List Part} {s0 : State} (e : Nat) {s : State} (h_hlt : Part.hlt ∈ P) (h_mer : Part.mer ∈ P) (h_out : Part.out ∈ P) (h_regs : Part.regs ∈ P) (hk : Agree P s0 s) :
    Agree P s0 (updateQl e s) := by
  unfold updateQl
  try dsimp only
  all_goals (with_reducible repeat' first | assumption | rfl | apply agree_ite | apply agree_ite_st | apply agree_ite_snd | apply agree_dqEntry | apply agree_raise | apply agree_wf)

theorem agree_enterHoldover {P : List Part} {s0 : State} {s : State} (h_hlt : Part.hlt ∈ P) (h_out : Part.out ∈ P) (h_regs : Part.regs ∈ P) (hk : Agree P s0 s) :
    Agree P s0 (enterHoldover s) := by
  unfold enterHoldover
  try dsimp only
  all_goals (with_reducible repeat' first | assumption | rfl | apply agree_ite | apply agree_ite_st | apply agree_ite_snd | apply agree_raise | apply agree_setLoop | apply agree_setReg)

theorem agree_holdOnOsc {P : List Part} {s0 : State} {s : State} (h_hlt : Part.hlt ∈ P) (h_out : Part.out ∈ P) (h_regs : Part.regs ∈ P) (hk : Agree P s0 s) :
    Agree P s0 (holdOnOsc s) := by
  unfold holdOnOsc
  try dsimp only
  all_goals (with_reducible repeat' first | assumption | rfl | apply agree_ite | apply agree_ite_st | apply agree_ite_snd | apply agree_enterHoldover | apply agree_setLoop)

theorem agree_setSelected {P : List Part} {s0 : State} (e : Nat) {s : State} (h_regs : Part.regs ∈ P) (hk : Agree P s0 s) :
    Agree P s0 (setSelected e s) := by
  unfold setSelected
  try dsimp only
  all_goals (with_reducible repeat' first | assumption | rfl | apply agree_foldS | apply agree_wf | (intro _ _ _))

theorem agree_askBuildout {P : List Part} {s0 : State} (e : Nat) (cause : Nat) {s : State} (h_mer : Part.mer ∈ P) (hk : Agree P s0 s) :
    Agree P s0 (askBuildout e cause s) := by
  unfold askBuildout
  try dsimp only
  all_goals (with_reducible repeat' first | assumption | rfl | split | refine agree_snd ?_ (by assumption) | refine agree_snd2 ?_ (by assumption) | refine agree_st ?_ (by assumption) | refine agree_get ?_ (by assumption) | refine agree_get2 ?_ (by assumption) | apply agree_with_mer)

theorem agree_acquire {P : List Part} {s0 : State} (e : Nat) {s : State} (h_mer : Part.mer ∈ P) (h_regs : Part.regs ∈ P) (hk : Agree P s0 s) :
    Agree P s0 (acquire e s) := by
  unfold acquire
  try dsimp only
  all_goals (with_reducible repeat' first | assumption | rfl | apply agree_ite | apply agree_ite_st | apply agree_ite_snd | apply agree_askBuildout | apply agree_setBw | apply agree_setLoop)

theorem agree_resume {P : List Part} {s0 : State} (e : Nat) {s : State} (h_mer : Part.mer ∈ P) (h_regs : Part.regs ∈ P) (hk : Agree P s0 s) :
    Agree P s0 (resume e s) := by
  unfold resume
  try dsimp only
  all_goals (with_reducible repeat' first | assumption | rfl | apply agree_askBuildout | apply agree_setBw | apply agree_setLoop)

theorem agree_firstSelect {P : List Part} {s0 : State} (e : Nat) {s : State} (h_hlt : Part.hlt ∈ P) (h_mer : Part.mer ∈ P) (h_out : Part.out ∈ P) (h_regs : Part.regs ∈ P) (hk : Agree P s0 s) :
    Agree P s0 (firstSelect e s) := by
  unfold firstSelect
  try dsimp only
  all_goals (with_reducible repeat' first | assumption | rfl | apply agree_ite | apply agree_ite_st | apply agree_ite_snd | apply agree_acquire | apply agree_holdOnOsc | apply agree_setSelected | split | refine agree_snd ?_ (by assumption) | refine agree_snd2 ?_ (by assumption) | refine agree_st ?_ (by assumption) | refine agree_get ?_ (by assumption) | refine agree_get2 ?_ (by assumption) | apply agree_with_mer)

theorem agree_switchTo {P : List Part} {s0 : State} (e : Nat) (cause : Nat) {s : State} (h_hlt : Part.hlt ∈ P) (h_mer : Part.mer ∈ P) (h_out : Part.out ∈ P) (h_regs : Part.regs ∈ P) (hk : Agree P s0 s) :
    Agree P s0 (switchTo e cause s) := by
  unfold switchTo
  try dsimp only
  all_goals (with_reducible repeat' first | assumption | rfl | apply agree_ite | apply agree_ite_st | apply agree_ite_snd | apply agree_askBuildout | apply agree_enterHoldover | apply agree_holdOnOsc | apply agree_raise | apply agree_setSelected | split | refine agree_snd ?_ (by assumption) | refine agree_snd2 ?_ (by assumption) | refine agree_st ?_ (by assumption) | refine agree_get ?_ (by assumption) | refine agree_get2 ?_ (by assumption) | apply agree_with_mer)

theorem agree_autoSwitch {P : List Part} {s0 : State} (cause : Nat) (es : List Nat) (hold : Bool) {s : State} (h_hlt : Part.hlt ∈ P) (h_mer : Part.mer ∈ P) (h_out : Part.out ∈ P) (h_regs : Part.regs ∈ P) (hk : Agree P s0 s) :
    Agree P s0 (autoSwitch cause es hold s) := by
  unfold autoSwitch
  try dsimp only
  all_goals (with_reducible repeat' first | assumption | rfl | apply agree_ite | apply agree_ite_st | apply agree_ite_snd | apply agree_enterHoldover | apply agree_raise | apply agree_switchTo | split)

theorem agree_evalSelection {P : List Part} {s0 : State} {s : State} (h_hlt : Part.hlt ∈ P) (h_mer : Part.mer ∈ P) (h_out : Part.out ∈ P) (h_regs : Part.regs ∈ P) (hk : Agree P s0 s) :
    Agree P s0 (evalSelection s) := by
  unfold evalSelection
  try dsimp only
  all_goals (with_reducible repeat' first | assumption | rfl | apply agree_ite | apply agree_ite_st | apply agree_ite_snd | apply agree_autoSwitch | apply agree_enterHoldover | apply agree_firstSelect | apply agree_raise | apply agree_resume | (intro _ _ _) | (intro _ _) | split | refine agree_snd ?_ (by assumption) | refine agree_snd2 ?_ (by assumption) | refine agree_st ?_ (by assumption) | refine agree_get ?_ (by assumption) | refine agree_get2 ?_ (by assumption) | apply agree_with_mer)

theorem agree_buildoutLatch {P : List Part} {s0 : State} (steps : Int) {s : State} (h_hlt : Part.hlt ∈ P) (h_mer : Part.mer ∈ P) (h_out : Part.out ∈ P) (h_regs : Part.regs ∈ P) (hk : Agree P s0 s) :
    Agree P s0 (buildoutLatch steps s) := by
  unfold buildoutLatch
  try dsimp only
  all_goals (with_reducible repeat' first | assumption | rfl | apply agree_ite | apply agree_ite_st | apply agree_ite_snd | apply agree_raise | apply agree_setBw | apply agree_setLoop | apply agree_setReg64 | apply agree_setSelected | apply agree_wf | split | refine agree_snd ?_ (by assumption) | refine agree_snd2 ?_ (by assumption) | refine agree_st ?_ (by assumption) | refine agree_get ?_ (by assumption) | refine agree_get2 ?_ (by assumption) | apply agree_with_mer)

theorem agree_goodSecond {P : List Part} {s0 : State} (e : Nat) {s : State} (h_hlt : Part.hlt ∈ P) (h_mer : Part.mer ∈ P) (h_out : Part.out ∈ P) (h_regs : Part.regs ∈ P) (hk : Agree P s0 s) :
    Agree P s0 (goodSecond e s) := by
  unfold goodSecond
  try dsimp only
  all_goals (with_reducible repeat' first | assumption | rfl | apply agree_ite | apply agree_ite_st | apply agree_ite_snd | apply agree_State_setRef | apply agree_raise | apply agree_wf)

theorem agree_badSecond {P : List Part} {s0 : State} (e : Nat) (cause : Nat) {s : State} (h_hlt : Part.hlt ∈ P) (h_mer : Part.mer ∈ P) (h_out : Part.out ∈ P) (h_regs : Part.regs ∈ P) (hk : Agree P s0 s) :
    Agree P s0 (badSecond e cause s) := by
  unfold badSecond
  try dsimp only
  all_goals (with_reducible repeat' first | assumption | rfl | apply agree_ite | apply agree_ite_st | apply agree_ite_snd | apply agree_dqEntry | apply agree_wf)

theorem agree_refSecond {P : List Part} {s0 : State} (e : Nat) (m : RefMeas) {s : State} (h_hlt : Part.hlt ∈ P) (h_mer : Part.mer ∈ P) (h_out : Part.out ∈ P) (h_regs : Part.regs ∈ P) (hk : Agree P s0 s) :
    Agree P s0 (refSecond e m s) := by
  unfold refSecond
  try dsimp only
  all_goals (with_reducible repeat' first | assumption | rfl | apply agree_ite | apply agree_ite_st | apply agree_ite_snd | apply agree_State_setRef | apply agree_badSecond | apply agree_goodSecond | apply agree_updateQl)

theorem agree_driftFlag {P : List Part} {s0 : State} (f : Field) (ev : Ev) (e : Nat) (limit : Nat) (d : Int) {s : State} (h_hlt : Part.hlt ∈ P) (h_out : Part.out ∈ P) (h_regs : Part.regs ∈ P) (hk : Agree P s0 s) :
    Agree P s0 (driftFlag f ev e limit d s) := by
  unfold driftFlag
  try dsimp only
  all_goals (with_reducible repeat' first | assumption | rfl | apply agree_ite | apply agree_ite_st | apply agree_ite_snd | apply agree_raise | apply agree_wf)

theorem agree_refDrift {P : List Part} {s0 : State} (e : Nat) {s : State} (h_hlt : Part.hlt ∈ P) (h_out : Part.out ∈ P) (h_regs : Part.regs ∈ P) (hk : Agree P s0 s) :
    Agree P s0 (refDrift e s) := by
  unfold refDrift
  try dsimp only
  all_goals (with_reducible repeat' first | assumption | rfl | apply agree_ite | apply agree_ite_st | apply agree_ite_snd | apply agree_driftFlag | apply agree_setReg)

theorem agree_disagreePair {P : List Part} {s0 : State} (a : Nat) (b : Nat) {s : State} (h_hlt : Part.hlt ∈ P) (h_mer : Part.mer ∈ P) (h_out : Part.out ∈ P) (h_regs : Part.regs ∈ P) (hk : Agree P s0 s) :
    Agree P s0 (disagreePair a b s) := by
  unfold disagreePair
  try dsimp only
  all_goals (with_reducible repeat' first | assumption | rfl | apply agree_ite | apply agree_ite_st | apply agree_ite_snd | apply agree_dqEntry | apply agree_raise | apply agree_switchTo | split | refine agree_snd ?_ (by assumption) | refine agree_snd2 ?_ (by assumption) | refine agree_st ?_ (by assumption) | refine agree_get ?_ (by assumption) | refine agree_get2 ?_ (by assumption) | apply agree_with_mer)

theorem agree_disagreements {P : List Part} {s0 : State} {s : State} (h_hlt : Part.hlt ∈ P) (h_mer : Part.mer ∈ P) (h_out : Part.out ∈ P) (h_regs : Part.regs ∈ P) (hk : Agree P s0 s) :
    Agree P s0 (disagreements s) := by
  unfold disagreements
  try dsimp only
  all_goals (with_reducible repeat' first | assumption | rfl | apply agree_disagreePair | apply agree_foldS | apply agree_wf | (intro _ _ _))

theorem agree_loopSecond {P : List Part} {s0 : State} (y : Int) (phase : Int) {s : State} (h_hlt : Part.hlt ∈ P) (h_mer : Part.mer ∈ P) (h_out : Part.out ∈ P) (h_regs : Part.regs ∈ P) (hk : Agree P s0 s) :
    Agree P s0 (loopSecond y phase s) := by
  unfold loopSecond
  try dsimp only
  all_goals (with_reducible repeat' first | assumption | rfl | apply agree_ite | apply agree_ite_st | apply agree_ite_snd | apply agree_raise | apply agree_setReg | apply agree_wf | split | refine agree_snd ?_ (by assumption) | refine agree_snd2 ?_ (by assumption) | refine agree_st ?_ (by assumption) | refine agree_get ?_ (by assumption) | refine agree_get2 ?_ (by assumption) | apply agree_with_mer)

theorem agree_slewSecond {P : List Part} {s0 : State} {s : State} (h_mer : Part.mer ∈ P) (h_regs : Part.regs ∈ P) (hk : Agree P s0 s) :
    Agree P s0 (slewSecond s) := by
  unfold slewSecond
  grind [agree_setReg64, agree_step, agree_wf, agree_with_mer]

theorem agree_refSeconds {P : List Part} {s0 : State} (ms : List (Nat × RefMeas)) (y : Int) (phase : Int) {s : State} (h_hlt : Part.hlt ∈ P) (h_mer : Part.mer ∈ P) (h_out : Part.out ∈ P) (h_regs : Part.regs ∈ P) (hk : Agree P s0 s) :
    Agree P s0 (refSeconds ms y phase s) := by
  unfold refSeconds
  try dsimp only
  all_goals (with_reducible repeat' first | assumption | rfl | apply agree_disagreements | apply agree_evalSelection | apply agree_foldS | apply agree_loopSecond | apply agree_refDrift | apply agree_refSecond | apply agree_slewSecond | apply agree_updateQl | (intro _ _ _))

theorem agree_edgeLoss {P : List Part} {s0 : State} (e : Nat) (companion : Bool) {s : State} (h_hlt : Part.hlt ∈ P) (h_mer : Part.mer ∈ P) (h_out : Part.out ∈ P) (h_regs : Part.regs ∈ P) (hk : Agree P s0 s) :
    Agree P s0 (edgeLoss e companion s) := by
  unfold edgeLoss
  try dsimp only
  all_goals (with_reducible repeat' first | assumption | rfl | apply agree_ite | apply agree_ite_st | apply agree_ite_snd | apply agree_dqEntry | apply agree_evalSelection)

theorem agree_bwStep {P : List Part} {s0 : State} (phase : Int) {s : State} (h_hlt : Part.hlt ∈ P) (h_mer : Part.mer ∈ P) (h_out : Part.out ∈ P) (h_regs : Part.regs ∈ P) (hk : Agree P s0 s) :
    Agree P s0 (bwStep phase s) := by
  unfold bwStep
  try dsimp only
  all_goals (with_reducible repeat' first | assumption | rfl | apply agree_ite | apply agree_ite_st | apply agree_ite_snd | apply agree_raise | apply agree_setBw | apply agree_setLoop | split)

theorem agree_execLoopBwStep {P : List Part} {s0 : State} (phase : Int) {s : State} (h_hlt : Part.hlt ∈ P) (h_mer : Part.mer ∈ P) (h_out : Part.out ∈ P) (h_regs : Part.regs ∈ P) (hk : Agree P s0 s) :
    ∀ t, execLoopBwStep phase s = .next t → Agree P s0 t := by
  intro t ht
  unfold execLoopBwStep at ht
  try dsimp only at ht
  all_goals (repeat' first | (cases ht) | split at ht)
  all_goals (with_reducible repeat' first | assumption | rfl | apply agree_bwStep)

end Sys2Proof.Machine
end

