-- ==== Sys2Proof/Laws/AgreeRsy.lean ====
section
/-! SUPPORT. What the operations of Machine/Rsy leave alone (Laws/Agree). -/

namespace Sys2Proof.Machine

theorem agree_setRsyState {P : List Part} {s0 : State} (n : Nat) {s : State} (h_regs : Part.regs ∈ P) (hk : Agree P s0 s) :
    Agree P s0 (setRsyState n s) := by
  unfold setRsyState
  try dsimp only
  all_goals (with_reducible repeat' first | assumption | rfl | apply agree_setReg)

theorem agree_rsyHalt {P : List Part} {s0 : State} {s : State} (h_regs : Part.regs ∈ P) (h_rsy : Part.rsy ∈ P) (hk : Agree P s0 s) :
    Agree P s0 (rsyHalt s) := by
  unfold rsyHalt
  try dsimp only
  all_goals (with_reducible repeat' first | assumption | rfl | apply agree_setRsyState | split | refine agree_snd ?_ (by assumption) | refine agree_snd2 ?_ (by assumption) | refine agree_st ?_ (by assumption) | refine agree_get ?_ (by assumption) | refine agree_get2 ?_ (by assumption) | apply agree_with_rsy)

theorem agree_rsyStop {P : List Part} {s0 : State} (now : Bool) {s : State} (h_regs : Part.regs ∈ P) (h_rsy : Part.rsy ∈ P) (hk : Agree P s0 s) :
    Agree P s0 (rsyStop now s) := by
  unfold rsyStop
  try dsimp only
  all_goals (with_reducible repeat' first | assumption | rfl | apply agree_ite | apply agree_ite_st | apply agree_ite_snd | apply agree_rsyHalt | apply agree_setReg | split | refine agree_snd ?_ (by assumption) | refine agree_snd2 ?_ (by assumption) | refine agree_st ?_ (by assumption) | refine agree_get ?_ (by assumption) | refine agree_get2 ?_ (by assumption) | apply agree_with_rsy)

theorem agree_rsyHalfRead {P : List Part} {s0 : State} (p : Nat) {s : State} (h_rsy : Part.rsy ∈ P) (hk : Agree P s0 s) :
    Agree P s0 (rsyHalfRead p s) := by
  unfold rsyHalfRead
  try dsimp only
  all_goals (with_reducible repeat' first | assumption | rfl | apply agree_ite | apply agree_ite_st | apply agree_ite_snd | (intro _ _ _) | (intro _ _) | split | refine agree_snd ?_ (by assumption) | refine agree_snd2 ?_ (by assumption) | refine agree_st ?_ (by assumption) | refine agree_get ?_ (by assumption) | refine agree_get2 ?_ (by assumption) | apply agree_with_rsy)

theorem agree_readElem {P : List Part} {s0 : State} (p : Nat) (n : Nat) (nb : Nat) (i : Nat) (c : Nat) (t : Nat) {s : State} (h_hlt : Part.hlt ∈ P) (h_mem : Part.mem ∈ P) (h_out : Part.out ∈ P) (h_regs : Part.regs ∈ P) (hk : Agree P s0 s) :
    Agree P s0 (readElem p n nb i c t s).2 := by
  unfold readElem
  try dsimp only
  all_goals (with_reducible repeat' first | assumption | rfl | apply agree_ite | apply agree_ite_st | apply agree_ite_snd | apply agree_hbmGet)

theorem agree_readElems {P : List Part} {s0 : State} (p : Nat) (n : Nat) (nb : Nat) (i : Nat) (t : Nat) (x0 : List Nat) {x1 : State} (h_hlt : Part.hlt ∈ P) (h_mem : Part.mem ∈ P) (h_out : Part.out ∈ P) (h_regs : Part.regs ∈ P) (hk : Agree P s0 x1) :
    Agree P s0 (readElems p n nb i t x0 x1).2 := by
  fun_induction readElems
  all_goals (try dsimp only)
  all_goals (with_reducible repeat' first | assumption | rfl | apply_assumption | refine agree_readElem _ _ _ _ _ _ (by assumption) (by assumption) (by assumption) (by assumption) ?_ | split | refine agree_snd ?_ (by assumption))

theorem agree_rsySat {P : List Part} {s0 : State} (n : Nat) (i : Nat) (k : Nat) {s : State} (h_hlt : Part.hlt ∈ P) (h_out : Part.out ∈ P) (h_regs : Part.regs ∈ P) (hk : Agree P s0 s) :
    Agree P s0 (rsySat n i k s) := by
  unfold rsySat
  try dsimp only
  all_goals (with_reducible repeat' first | assumption | rfl | apply agree_ite | apply agree_ite_st | apply agree_ite_snd | apply agree_inc | apply agree_raise)

theorem agree_sliceStep {P : List Part} {s0 : State} (p : Nat) (blk : Nat) (t : Nat) (nb : Nat) (ok : Bool) (n : Nat) {s : State} (h_hlt : Part.hlt ∈ P) (h_mem : Part.mem ∈ P) (h_out : Part.out ∈ P) (h_regs : Part.regs ∈ P) (h_rsy : Part.rsy ∈ P) (hk : Agree P s0 s) :
    Agree P s0 (sliceStep p blk t nb ok n s).2 := by
  unfold sliceStep
  try dsimp only
  all_goals (with_reducible repeat' first | assumption | rfl | apply agree_ite | apply agree_ite_st | apply agree_ite_snd | apply agree_readElems | apply agree_rsySat | (intro _ _ _) | (intro _ _) | split | refine agree_snd ?_ (by assumption) | refine agree_snd2 ?_ (by assumption) | refine agree_st ?_ (by assumption) | refine agree_get ?_ (by assumption) | refine agree_get2 ?_ (by assumption) | apply agree_with_rsy)

theorem agree_sliceSteps {P : List Part} {s0 : State} (p : Nat) (blk : Nat) (t : Nat) (nb : Nat) (ok : Bool) (x0 : List Nat) {x1 : State} (h_hlt : Part.hlt ∈ P) (h_mem : Part.mem ∈ P) (h_out : Part.out ∈ P) (h_regs : Part.regs ∈ P) (h_rsy : Part.rsy ∈ P) (hk : Agree P s0 x1) :
    Agree P s0 (sliceSteps p blk t nb ok x0 x1).2 := by
  fun_induction sliceSteps
  all_goals (try dsimp only)
  all_goals (with_reducible repeat' first | assumption | rfl | apply_assumption | apply agree_sliceStep | split | refine agree_snd ?_ (by assumption))

theorem agree_sendSeries {P : List Part} {s0 : State} (p : Nat) (blk : Nat) (x0 : Nat) (x1 : List Grain) {x2 : State} (h_acc : Part.acc ∈ P) (h_frm : Part.frm ∈ P) (h_hlt : Part.hlt ∈ P) (h_out : Part.out ∈ P) (h_regs : Part.regs ∈ P) (hk : Agree P s0 x2) :
    Agree P s0 (sendSeries p blk x0 x1 x2) := by
  fun_induction sendSeries
  all_goals (try dsimp only)
  all_goals (with_reducible repeat' first | assumption | rfl | apply_assumption | apply agree_ite | apply agree_ite_st | apply agree_ite_snd | apply agree_dropNote | apply agree_sendPlan | apply agree_sigAdd)

theorem agree_sendGrains {P : List Part} {s0 : State} (p : Nat) (blk : Nat) (gs : List Grain) {s : State} (h_acc : Part.acc ∈ P) (h_frm : Part.frm ∈ P) (h_hlt : Part.hlt ∈ P) (h_out : Part.out ∈ P) (h_regs : Part.regs ∈ P) (hk : Agree P s0 s) :
    Agree P s0 (sendGrains p blk gs s) := by
  unfold sendGrains
  try dsimp only
  all_goals (with_reducible repeat' first | assumption | rfl | apply agree_foldS | apply agree_inc | apply agree_sendSeries | (intro _ _ _))

theorem agree_halfDone {P : List Part} {s0 : State} (p : Nat) (n : Nat) {s : State} (h_acc : Part.acc ∈ P) (h_atl : Part.atl ∈ P) (h_rsy : Part.rsy ∈ P) (hk : Agree P s0 s) :
    Agree P s0 (halfDone p n s) := by
  unfold halfDone
  have h := agree_State_setAplan p { (s.aplan p) with beamTiles := (s.aplan p).beamTiles.filter (fun x => decide (x.n ≠ n)), rows := (s.aplan p).rows.filter (fun r => decide (n < r.n)) } h_acc hk
  exact agree_step h (fun p hp => by cases p <;> first | exact absurd h_rsy hp | exact absurd h_acc hp | exact absurd h_atl hp | rfl | exact fun _ => rfl)

theorem agree_mismatchNotes {P : List Part} {s0 : State} (p : Nat) {s : State} (h_hlt : Part.hlt ∈ P) (h_out : Part.out ∈ P) (h_regs : Part.regs ∈ P) (hk : Agree P s0 s) :
    Agree P s0 (mismatchNotes p s) := by
  unfold mismatchNotes
  try dsimp only
  all_goals (with_reducible repeat' first | assumption | rfl | apply agree_foldS | apply agree_raise | (intro _ _ _))

theorem agree_rsyFinish {P : List Part} {s0 : State} (sp : Nat) {s : State} (h_regs : Part.regs ∈ P) (h_rsy : Part.rsy ∈ P) (hk : Agree P s0 s) :
    Agree P s0 (rsyFinish sp s) := by
  unfold rsyFinish
  try dsimp only
  all_goals (with_reducible repeat' first | assumption | rfl | apply agree_ite | apply agree_ite_st | apply agree_ite_snd | apply agree_rsyHalt | split)

theorem agree_rsySynthStep {P : List Part} {s0 : State} (p : Nat) {s : State} (h_acc : Part.acc ∈ P) (h_atl : Part.atl ∈ P) (h_frm : Part.frm ∈ P) (h_hlt : Part.hlt ∈ P) (h_mem : Part.mem ∈ P) (h_out : Part.out ∈ P) (h_regs : Part.regs ∈ P) (h_rsy : Part.rsy ∈ P) (hk : Agree P s0 s) :
    Agree P s0 (rsySynthStep p s) := by
  unfold rsySynthStep
  try dsimp only
  all_goals (with_reducible repeat' first | assumption | rfl | apply agree_ite | apply agree_ite_st | apply agree_ite_snd | apply agree_halfDone | apply agree_mismatchNotes | apply agree_rsyFinish | apply agree_sendGrains | apply agree_setRsyState | apply agree_sliceSteps | (intro _ _ _) | (intro _ _) | split | refine agree_snd ?_ (by assumption) | refine agree_snd2 ?_ (by assumption) | refine agree_st ?_ (by assumption) | refine agree_get ?_ (by assumption) | refine agree_get2 ?_ (by assumption) | apply agree_with_rsy)

theorem agree_rsyStopCommit {P : List Part} {s0 : State} {s : State} (h_regs : Part.regs ∈ P) (h_rsy : Part.rsy ∈ P) (hk : Agree P s0 s) :
    Agree P s0 (rsyStopCommit s) := by
  unfold rsyStopCommit
  try dsimp only
  all_goals (with_reducible repeat' first | assumption | rfl | apply agree_ite | apply agree_ite_st | apply agree_ite_snd | apply agree_rsyFinish | apply agree_setRsyState | split)

theorem agree_execRsyStopCommit {P : List Part} {s0 : State} {s : State} (h_regs : Part.regs ∈ P) (h_rsy : Part.rsy ∈ P) (hk : Agree P s0 s) :
    ∀ t, execRsyStopCommit s = .next t → Agree P s0 t := by
  intro t ht
  unfold execRsyStopCommit at ht
  try dsimp only at ht
  all_goals (repeat' first | (cases ht) | split at ht)
  all_goals (with_reducible repeat' first | assumption | rfl | apply agree_rsyStopCommit)

theorem agree_execRsyHalfRead {P : List Part} {s0 : State} (plan : Fin 16) {s : State} (h_rsy : Part.rsy ∈ P) (hk : Agree P s0 s) :
    ∀ t, execRsyHalfRead plan s = .next t → Agree P s0 t := by
  intro t ht
  unfold execRsyHalfRead at ht
  try dsimp only at ht
  all_goals (repeat' first | (cases ht) | split at ht)
  all_goals (with_reducible repeat' first | assumption | rfl | apply agree_rsyHalfRead)

theorem agree_execRsySynthStep {P : List Part} {s0 : State} (plan : Fin 16) {s : State} (h_acc : Part.acc ∈ P) (h_atl : Part.atl ∈ P) (h_frm : Part.frm ∈ P) (h_hlt : Part.hlt ∈ P) (h_mem : Part.mem ∈ P) (h_out : Part.out ∈ P) (h_regs : Part.regs ∈ P) (h_rsy : Part.rsy ∈ P) (hk : Agree P s0 s) :
    ∀ t, execRsySynthStep plan s = .next t → Agree P s0 t := by
  intro t ht
  unfold execRsySynthStep at ht
  try dsimp only at ht
  all_goals (repeat' first | (cases ht) | split at ht)
  all_goals (with_reducible repeat' first | assumption | rfl | apply agree_rsySynthStep)

end Sys2Proof.Machine
end

