-- ==== Sys2Proof/Laws/AgreeReply.lean ====
section
/-! SUPPORT. What the operations of Machine/Reply leave alone (Laws/Agree). -/

namespace Sys2Proof.Machine

theorem agree_sendReply {P : List Part} {s0 : State} (c : Nat) (seq : Nat) (cmd : Nat) (status : Nat) (res : List Nat) {s : State} (h_cmx : Part.cmx ∈ P) (h_out : Part.out ∈ P) (hk : Agree P s0 s) :
    Agree P s0 (sendReply c seq cmd status res s) := by
  unfold sendReply
  try dsimp only
  all_goals (with_reducible repeat' first | assumption | rfl | apply agree_ite | apply agree_ite_st | apply agree_ite_snd | apply agree_emit | split | refine agree_snd ?_ (by assumption) | refine agree_snd2 ?_ (by assumption) | refine agree_st ?_ (by assumption) | refine agree_get ?_ (by assumption) | refine agree_get2 ?_ (by assumption) | apply agree_with_cmx)

theorem agree_mboxDone {P : List Part} {s0 : State} (c : Nat) (status : Nat) (res : List Nat) {s : State} (h_cmx : Part.cmx ∈ P) (h_out : Part.out ∈ P) (h_regs : Part.regs ∈ P) (hk : Agree P s0 s) :
    Agree P s0 (mboxDone c status res s) := by
  unfold mboxDone
  try dsimp only
  all_goals (with_reducible repeat' first | assumption | rfl | apply agree_ite | apply agree_ite_st | apply agree_ite_snd | apply agree_foldS | apply agree_sendReply | apply agree_setReg | apply agree_withIrq | (intro _ _ _) | (intro _ _) | split | refine agree_snd ?_ (by assumption) | refine agree_snd2 ?_ (by assumption) | refine agree_st ?_ (by assumption) | refine agree_get ?_ (by assumption) | refine agree_get2 ?_ (by assumption) | apply agree_with_cmx)

theorem agree_stepEnds {P : List Part} {s0 : State} (code : Nat) (status : Nat) (res : List Nat) {s : State} (h_cmx : Part.cmx ∈ P) (h_out : Part.out ∈ P) (h_regs : Part.regs ∈ P) (hk : Agree P s0 s) :
    Agree P s0 (stepEnds code status res s) := by
  unfold stepEnds
  try dsimp only
  all_goals (with_reducible repeat' first | assumption | rfl | apply agree_mboxDone | split)

end Sys2Proof.Machine
end

