-- ==== Sys2Proof/Laws/AgreeSurvey.lean ====
section
/-! SUPPORT. What the operations of Machine/Survey leave alone (Laws/Agree). -/

namespace Sys2Proof.Machine

theorem agree_keepRecord {P : List Part} {s0 : State} (x : SurveyRec) {s : State} (h_hlt : Part.hlt ∈ P) (hk : Agree P s0 s) :
    Agree P s0 (keepRecord x s) := by
  unfold keepRecord
  try dsimp only
  all_goals (with_reducible repeat' first | assumption | rfl | apply agree_ite | apply agree_ite_st | apply agree_ite_snd | split | refine agree_snd ?_ (by assumption) | refine agree_snd2 ?_ (by assumption) | refine agree_st ?_ (by assumption) | refine agree_get ?_ (by assumption) | refine agree_get2 ?_ (by assumption) | apply agree_with_hlt)

theorem agree_surveyShow {P : List Part} {s0 : State} {s : State} (h_regs : Part.regs ∈ P) (hk : Agree P s0 s) :
    Agree P s0 (surveyShow s) := by
  unfold surveyShow
  try dsimp only
  all_goals (with_reducible repeat' first | assumption | rfl | apply agree_setReg | (intro _ _ _) | (intro _ _) | split)

theorem agree_surveyBegin {P : List Part} {s0 : State} (kind : Nat) (fw : Nat) (todo : List Nat) {s : State} (h_hlt : Part.hlt ∈ P) (h_regs : Part.regs ∈ P) (hk : Agree P s0 s) :
    Agree P s0 (surveyBegin kind fw todo s) := by
  unfold surveyBegin
  try dsimp only
  all_goals (with_reducible repeat' first | assumption | rfl | apply agree_ite | apply agree_ite_st | apply agree_ite_snd | apply agree_keepRecord | apply agree_surveyShow | split | refine agree_snd ?_ (by assumption) | refine agree_snd2 ?_ (by assumption) | refine agree_st ?_ (by assumption) | refine agree_get ?_ (by assumption) | refine agree_get2 ?_ (by assumption) | apply agree_with_hlt)

end Sys2Proof.Machine
end

