-- ==== Sys2Proof/Laws/AgreeTim.lean ====
section
/-! SUPPORT. What the operations of Machine/Tim leave alone (Laws/Agree). -/

namespace Sys2Proof.Machine

theorem agree_State_setDom {P : List Part} {s0 : State} (d : Nat) (x : DomSt) {s : State} (h_tim : Part.tim ∈ P) (hk : Agree P s0 s) :
    Agree P s0 (State.setDom d x s) := by
  unfold State.setDom
  try dsimp only
  all_goals (with_reducible repeat' first | assumption | rfl | split | refine agree_snd ?_ (by assumption) | refine agree_snd2 ?_ (by assumption) | refine agree_st ?_ (by assumption) | refine agree_get ?_ (by assumption) | refine agree_get2 ?_ (by assumption) | apply agree_with_tim)

theorem agree_noteAgree {P : List Part} {s0 : State} {s : State} (h_hlt : Part.hlt ∈ P) (h_out : Part.out ∈ P) (h_regs : Part.regs ∈ P) (h_tim : Part.tim ∈ P) (hk : Agree P s0 s) :
    Agree P s0 (noteAgree s) := by
  unfold noteAgree
  try dsimp only
  all_goals (with_reducible repeat' first | assumption | rfl | apply agree_ite | apply agree_ite_st | apply agree_ite_snd | apply agree_raise | apply agree_wf | split | refine agree_snd ?_ (by assumption) | refine agree_snd2 ?_ (by assumption) | refine agree_st ?_ (by assumption) | refine agree_get ?_ (by assumption) | refine agree_get2 ?_ (by assumption) | apply agree_with_tim)

theorem agree_setPtp {P : List Part} {s0 : State} (d : Nat) (n : Nat) {s : State} (h_hlt : Part.hlt ∈ P) (h_out : Part.out ∈ P) (h_regs : Part.regs ∈ P) (h_tim : Part.tim ∈ P) (hk : Agree P s0 s) :
    Agree P s0 (setPtp d n s) := by
  unfold setPtp
  try dsimp only
  all_goals (with_reducible repeat' first | assumption | rfl | apply agree_ite | apply agree_ite_st | apply agree_ite_snd | apply agree_noteAgree | apply agree_wf | split | refine agree_snd ?_ (by assumption) | refine agree_snd2 ?_ (by assumption) | refine agree_st ?_ (by assumption) | refine agree_get ?_ (by assumption) | refine agree_get2 ?_ (by assumption) | apply agree_with_tim)

theorem agree_acceptDelay {P : List Part} {s0 : State} (d : Nat) (z : Int) {s : State} (h_regs : Part.regs ∈ P) (h_tim : Part.tim ∈ P) (hk : Agree P s0 s) :
    Agree P s0 (acceptDelay d z s) := by
  unfold acceptDelay
  try dsimp only
  all_goals (with_reducible repeat' first | assumption | rfl | apply agree_State_setDom | apply agree_setReg)

theorem agree_ptpExchange {P : List Part} {s0 : State} (d : Nat) (z : Int) {s : State} (h_hlt : Part.hlt ∈ P) (h_out : Part.out ∈ P) (h_regs : Part.regs ∈ P) (h_tim : Part.tim ∈ P) (hk : Agree P s0 s) :
    Agree P s0 (ptpExchange d z s) := by
  unfold ptpExchange
  try dsimp only
  all_goals (with_reducible repeat' first | assumption | rfl | apply agree_ite | apply agree_ite_st | apply agree_ite_snd | apply agree_State_setDom | apply agree_acceptDelay | apply agree_raise | apply agree_setPtp | apply agree_setReg | split)

theorem agree_ptpAnnounce {P : List Part} {s0 : State} (d : Nat) (rank : List Nat) (gm : Nat) {s : State} (h_hlt : Part.hlt ∈ P) (h_out : Part.out ∈ P) (h_regs : Part.regs ∈ P) (h_tim : Part.tim ∈ P) (hk : Agree P s0 s) :
    Agree P s0 (ptpAnnounce d rank gm s) := by
  unfold ptpAnnounce
  try dsimp only
  all_goals (with_reducible repeat' first | assumption | rfl | apply agree_ite | apply agree_ite_st | apply agree_ite_snd | apply agree_State_setDom | apply agree_raise | apply agree_setPtp | apply agree_setReg64)

theorem agree_ptpMessage {P : List Part} {s0 : State} (d : Nat) (m : PtpMsg) {s : State} (h_hlt : Part.hlt ∈ P) (h_out : Part.out ∈ P) (h_regs : Part.regs ∈ P) (h_tim : Part.tim ∈ P) (hk : Agree P s0 s) :
    Agree P s0 (ptpMessage d m s) := by
  unfold ptpMessage
  try dsimp only
  all_goals (with_reducible repeat' first | assumption | rfl | apply agree_ite | apply agree_ite_st | apply agree_ite_snd | apply agree_State_setDom | apply agree_inc | apply agree_ptpAnnounce | apply agree_ptpExchange | apply agree_setPtp | apply agree_setReg64 | split)

theorem agree_irigBad {P : List Part} {s0 : State} (e : Nat) (cause : Nat) {s : State} (h_hlt : Part.hlt ∈ P) (h_mer : Part.mer ∈ P) (h_out : Part.out ∈ P) (h_regs : Part.regs ∈ P) (hk : Agree P s0 s) :
    Agree P s0 (irigBad e cause s) := by
  unfold irigBad
  try dsimp only
  all_goals (with_reducible repeat' first | assumption | rfl | apply agree_ite | apply agree_ite_st | apply agree_ite_snd | apply agree_State_setRef | apply agree_dqEntry | apply agree_evalSelection | apply agree_inc | apply agree_raise)

theorem agree_irigFrame {P : List Part} {s0 : State} (e : Nat) (f : Irig) {s : State} (h_hlt : Part.hlt ∈ P) (h_mer : Part.mer ∈ P) (h_out : Part.out ∈ P) (h_regs : Part.regs ∈ P) (h_tim : Part.tim ∈ P) (hk : Agree P s0 s) :
    Agree P s0 (irigFrame e f s) := by
  unfold irigFrame
  try dsimp only
  all_goals (with_reducible repeat' first | assumption | rfl | apply agree_ite | apply agree_ite_st | apply agree_ite_snd | apply agree_State_setRef | apply agree_evalSelection | apply agree_irigBad | apply agree_updateQl | split | refine agree_snd ?_ (by assumption) | refine agree_snd2 ?_ (by assumption) | refine agree_st ?_ (by assumption) | refine agree_get ?_ (by assumption) | refine agree_get2 ?_ (by assumption) | apply agree_with_tim)

theorem agree_setSource {P : List Part} {s0 : State} (n : Nat) {s : State} (h_regs : Part.regs ∈ P) (h_tim : Part.tim ∈ P) (hk : Agree P s0 s) :
    Agree P s0 (setSource n s) := by
  unfold setSource
  try dsimp only
  all_goals (with_reducible repeat' first | assumption | rfl | apply agree_wf | split | refine agree_snd ?_ (by assumption) | refine agree_snd2 ?_ (by assumption) | refine agree_st ?_ (by assumption) | refine agree_get ?_ (by assumption) | refine agree_get2 ?_ (by assumption) | apply agree_with_tim)

theorem agree_edgeSource {P : List Part} {s0 : State} {s : State} (h_hlt : Part.hlt ∈ P) (h_out : Part.out ∈ P) (h_regs : Part.regs ∈ P) (h_tim : Part.tim ∈ P) (hk : Agree P s0 s) :
    Agree P s0 (edgeSource s) := by
  unfold edgeSource
  try dsimp only
  all_goals (with_reducible repeat' first | assumption | rfl | apply agree_ite | apply agree_ite_st | apply agree_ite_snd | apply agree_raise | apply agree_setSource | split | refine agree_snd ?_ (by assumption) | refine agree_snd2 ?_ (by assumption) | refine agree_st ?_ (by assumption) | refine agree_get ?_ (by assumption) | refine agree_get2 ?_ (by assumption) | apply agree_with_tim)

theorem agree_setLabel {P : List Part} {s0 : State} (n : Nat) {s : State} (h_regs : Part.regs ∈ P) (hk : Agree P s0 s) :
    Agree P s0 (setLabel n s) := by
  unfold setLabel
  try dsimp only
  all_goals (with_reducible repeat' first | assumption | rfl | apply agree_setReg64)

theorem agree_nameSecond {P : List Part} {s0 : State} (n : Nat) (src : Nat) {s : State} (h_hlt : Part.hlt ∈ P) (h_out : Part.out ∈ P) (h_regs : Part.regs ∈ P) (h_tim : Part.tim ∈ P) (hk : Agree P s0 s) :
    Agree P s0 (nameSecond n src s) := by
  unfold nameSecond
  try dsimp only
  all_goals (with_reducible repeat' first | assumption | rfl | apply agree_ite | apply agree_ite_st | apply agree_ite_snd | apply agree_raise | apply agree_setLabel | apply agree_wf | split | refine agree_snd ?_ (by assumption) | refine agree_snd2 ?_ (by assumption) | refine agree_st ?_ (by assumption) | refine agree_get ?_ (by assumption) | refine agree_get2 ?_ (by assumption) | apply agree_with_tim)

theorem agree_judgeCandidate {P : List Part} {s0 : State} (c : Nat) {s : State} (h_hlt : Part.hlt ∈ P) (h_out : Part.out ∈ P) (h_regs : Part.regs ∈ P) (h_tim : Part.tim ∈ P) (hk : Agree P s0 s) :
    Agree P s0 (judgeCandidate c s) := by
  unfold judgeCandidate
  try dsimp only
  all_goals (with_reducible repeat' first | assumption | rfl | apply agree_ite | apply agree_ite_st | apply agree_ite_snd | apply agree_nameSecond | apply agree_raise | apply agree_wf | split | refine agree_snd ?_ (by assumption) | refine agree_snd2 ?_ (by assumption) | refine agree_st ?_ (by assumption) | refine agree_get ?_ (by assumption) | refine agree_get2 ?_ (by assumption) | apply agree_with_tim)

theorem agree_noCandidate {P : List Part} {s0 : State} {s : State} (h_tim : Part.tim ∈ P) (hk : Agree P s0 s) :
    Agree P s0 (noCandidate s) := by
  unfold noCandidate
  try dsimp only
  all_goals (with_reducible repeat' first | assumption | rfl | split | refine agree_snd ?_ (by assumption) | refine agree_snd2 ?_ (by assumption) | refine agree_st ?_ (by assumption) | refine agree_get ?_ (by assumption) | refine agree_get2 ?_ (by assumption) | apply agree_with_tim)

theorem agree_edgeCandidate {P : List Part} {s0 : State} {s : State} (h_hlt : Part.hlt ∈ P) (h_out : Part.out ∈ P) (h_regs : Part.regs ∈ P) (h_tim : Part.tim ∈ P) (hk : Agree P s0 s) :
    Agree P s0 (edgeCandidate s) := by
  unfold edgeCandidate
  try dsimp only
  all_goals (with_reducible repeat' first | assumption | rfl | apply agree_ite | apply agree_ite_st | apply agree_ite_snd | apply agree_judgeCandidate | apply agree_noCandidate | apply agree_raise | split)

theorem agree_edgeLabel {P : List Part} {s0 : State} {s : State} (h_hlt : Part.hlt ∈ P) (h_out : Part.out ∈ P) (h_regs : Part.regs ∈ P) (h_tim : Part.tim ∈ P) (hk : Agree P s0 s) :
    Agree P s0 (edgeLabel s) := by
  unfold edgeLabel
  try dsimp only
  all_goals (with_reducible repeat' first | assumption | rfl | apply agree_ite | apply agree_ite_st | apply agree_ite_snd | apply agree_nameSecond | apply agree_setLabel | apply agree_wf | split | refine agree_snd ?_ (by assumption) | refine agree_snd2 ?_ (by assumption) | refine agree_st ?_ (by assumption) | refine agree_get ?_ (by assumption) | refine agree_get2 ?_ (by assumption) | apply agree_with_tim)

theorem agree_edgeTod {P : List Part} {s0 : State} {s : State} (h_regs : Part.regs ∈ P) (h_tim : Part.tim ∈ P) (hk : Agree P s0 s) :
    Agree P s0 (edgeTod s) := by
  unfold edgeTod
  try dsimp only
  all_goals (with_reducible repeat' first | assumption | rfl | apply agree_ite | apply agree_ite_st | apply agree_ite_snd | apply agree_setReg64 | apply agree_wf | split | refine agree_snd ?_ (by assumption) | refine agree_snd2 ?_ (by assumption) | refine agree_st ?_ (by assumption) | refine agree_get ?_ (by assumption) | refine agree_get2 ?_ (by assumption) | apply agree_with_tim)

theorem agree_timEdge {P : List Part} {s0 : State} {s : State} (h_hlt : Part.hlt ∈ P) (h_out : Part.out ∈ P) (h_regs : Part.regs ∈ P) (h_tim : Part.tim ∈ P) (hk : Agree P s0 s) :
    Agree P s0 (timEdge s) := by
  unfold timEdge
  try dsimp only
  all_goals (with_reducible repeat' first | assumption | rfl | apply agree_ite | apply agree_ite_st | apply agree_ite_snd | apply agree_edgeCandidate | apply agree_edgeLabel | apply agree_edgeSource | apply agree_edgeTod | split | refine agree_snd ?_ (by assumption) | refine agree_snd2 ?_ (by assumption) | refine agree_st ?_ (by assumption) | refine agree_get ?_ (by assumption) | refine agree_get2 ?_ (by assumption) | apply agree_with_tim)

theorem agree_evtTick {P : List Part} {s0 : State} (i : Nat) (k : Nat) {s : State} (h_out : Part.out ∈ P) (h_regs : Part.regs ∈ P) (h_tim : Part.tim ∈ P) (hk : Agree P s0 s) :
    Agree P s0 (evtTick i k s) := by
  unfold evtTick
  try dsimp only
  all_goals (with_reducible repeat' first | assumption | rfl | apply agree_ite | apply agree_ite_st | apply agree_ite_snd | apply agree_emit | apply agree_inc | split | refine agree_snd ?_ (by assumption) | refine agree_snd2 ?_ (by assumption) | refine agree_st ?_ (by assumption) | refine agree_get ?_ (by assumption) | refine agree_get2 ?_ (by assumption) | apply agree_with_tim)

theorem agree_execPtpMessageRx {P : List Part} {s0 : State} (domain : Fin 2) (msg : PtpMsg) {s : State} (h_hlt : Part.hlt ∈ P) (h_out : Part.out ∈ P) (h_regs : Part.regs ∈ P) (h_tim : Part.tim ∈ P) (hk : Agree P s0 s) :
    ∀ t, execPtpMessageRx domain msg s = .next t → Agree P s0 t := by
  intro t ht
  unfold execPtpMessageRx at ht
  try dsimp only at ht
  all_goals (repeat' first | (cases ht) | split at ht)
  all_goals (with_reducible repeat' first | assumption | rfl | apply agree_ptpMessage)

theorem agree_execIrigFrame {P : List Part} {s0 : State} (entry : Fin 4) (f : Irig) {s : State} (h_hlt : Part.hlt ∈ P) (h_mer : Part.mer ∈ P) (h_out : Part.out ∈ P) (h_regs : Part.regs ∈ P) (h_tim : Part.tim ∈ P) (hk : Agree P s0 s) :
    ∀ t, execIrigFrame entry f s = .next t → Agree P s0 t := by
  intro t ht
  unfold execIrigFrame at ht
  try dsimp only at ht
  all_goals (repeat' first | (cases ht) | split at ht)
  all_goals (with_reducible repeat' first | assumption | rfl | apply agree_irigFrame)

end Sys2Proof.Machine
end

