-- ==== Sys2Proof/Laws/AgreeTrust.lean ====
section
/-! SUPPORT. What the operations of Machine/Trust leave alone (Laws/Agree). -/

namespace Sys2Proof.Machine

theorem agree_flashPut {P : List Part} {s0 : State} (a : Nat) (bs : List Byte) {s : State} (h_tru : Part.tru ∈ P) (hk : Agree P s0 s) :
    Agree P s0 (flashPut a bs s) := by
  unfold flashPut
  try dsimp only
  all_goals (with_reducible repeat' first | assumption | rfl | apply agree_foldS | (intro _ _ _) | (intro _ _) | split | refine agree_snd ?_ (by assumption) | refine agree_snd2 ?_ (by assumption) | refine agree_st ?_ (by assumption) | refine agree_get ?_ (by assumption) | refine agree_get2 ?_ (by assumption) | apply agree_with_tru)

theorem agree_flashErase {P : List Part} {s0 : State} (a : Nat) (n : Nat) {s : State} (h_tru : Part.tru ∈ P) (hk : Agree P s0 s) :
    Agree P s0 (flashErase a n s) := by
  unfold flashErase
  try dsimp only
  all_goals (with_reducible repeat' first | assumption | rfl | (intro _ _ _) | (intro _ _) | split | refine agree_snd ?_ (by assumption) | refine agree_snd2 ?_ (by assumption) | refine agree_st ?_ (by assumption) | refine agree_get ?_ (by assumption) | refine agree_get2 ?_ (by assumption) | apply agree_with_tru)

theorem agree_setSlotSt {P : List Part} {s0 : State} (k : Nat) (st : Nat) (tries : Nat) {s : State} (h_tru : Part.tru ∈ P) (hk : Agree P s0 s) :
    Agree P s0 (setSlotSt k st tries s) := by
  unfold setSlotSt
  try dsimp only
  all_goals (with_reducible repeat' first | assumption | rfl | split | refine agree_snd ?_ (by assumption) | refine agree_snd2 ?_ (by assumption) | refine agree_st ?_ (by assumption) | refine agree_get ?_ (by assumption) | refine agree_get2 ?_ (by assumption) | apply agree_with_tru)

theorem agree_flashBusy {P : List Part} {s0 : State} (b : Bool) {s : State} (h_regs : Part.regs ∈ P) (hk : Agree P s0 s) :
    Agree P s0 (flashBusy b s) := by
  unfold flashBusy
  try dsimp only
  all_goals (with_reducible repeat' first | assumption | rfl | apply agree_wf)

theorem agree_writeFails {P : List Part} {s0 : State} (k : Nat) {s : State} (h_regs : Part.regs ∈ P) (h_tru : Part.tru ∈ P) (hk : Agree P s0 s) :
    Agree P s0 (writeFails k s) := by
  unfold writeFails
  try dsimp only
  all_goals (with_reducible repeat' first | assumption | rfl | apply agree_flashBusy | apply agree_flashErase | apply agree_setSlotSt | split | refine agree_snd ?_ (by assumption) | refine agree_snd2 ?_ (by assumption) | refine agree_st ?_ (by assumption) | refine agree_get ?_ (by assumption) | refine agree_get2 ?_ (by assumption) | apply agree_with_tru)

theorem agree_programEnd {P : List Part} {s0 : State} (good : Bool) {s : State} (h_cmx : Part.cmx ∈ P) (h_out : Part.out ∈ P) (h_regs : Part.regs ∈ P) (h_tru : Part.tru ∈ P) (hk : Agree P s0 s) :
    Agree P s0 (programEnd good s) := by
  unfold programEnd
  try dsimp only
  all_goals (with_reducible repeat' first | assumption | rfl | apply agree_ite | apply agree_ite_st | apply agree_ite_snd | apply agree_flashBusy | apply agree_flashPut | apply agree_setSlotSt | apply agree_stepEnds | apply agree_writeFails | split | refine agree_snd ?_ (by assumption) | refine agree_snd2 ?_ (by assumption) | refine agree_st ?_ (by assumption) | refine agree_get ?_ (by assumption) | refine agree_get2 ?_ (by assumption) | apply agree_with_tru)

end Sys2Proof.Machine
end

