-- ==== Sys2Proof/Laws/AgreeWaymarks.lean ====
section
/-! SUPPORT. What the operations of Machine/Waymarks leave alone (Laws/Agree). -/

namespace Sys2Proof.Machine

theorem agree_rsyApply {P : List Part} {s0 : State} (w : Waymark) {s : State} (h_hlt : Part.hlt ∈ P) (h_out : Part.out ∈ P) (h_regs : Part.regs ∈ P) (h_rsy : Part.rsy ∈ P) (h_tru : Part.tru ∈ P) (hk : Agree P s0 s) :
    Agree P s0 (rsyApply w s) := by
  unfold rsyApply
  try dsimp only
  all_goals (with_reducible repeat' first | assumption | rfl | apply agree_ite | apply agree_ite_st | apply agree_ite_snd | apply agree_genApply | (intro _ _ _) | (intro _ _) | split | refine agree_snd ?_ (by assumption) | refine agree_snd2 ?_ (by assumption) | refine agree_st ?_ (by assumption) | refine agree_get ?_ (by assumption) | refine agree_get2 ?_ (by assumption) | apply agree_with_rsy)

theorem agree_calWindow {P : List Part} {s0 : State} (w : Waymark) {s : State} (h_acc : Part.acc ∈ P) (hk : Agree P s0 s) :
    Agree P s0 (calWindow w s) := by
  unfold calWindow
  try dsimp only
  all_goals (with_reducible repeat' first | assumption | rfl | apply agree_acc | split | refine agree_snd ?_ (by assumption) | refine agree_snd2 ?_ (by assumption) | refine agree_st ?_ (by assumption) | refine agree_get ?_ (by assumption) | refine agree_get2 ?_ (by assumption) | apply agree_with_acc)

theorem agree_accApply {P : List Part} {s0 : State} (w : Waymark) {s : State} (h_hlt : Part.hlt ∈ P) (h_out : Part.out ∈ P) (h_regs : Part.regs ∈ P) (h_tru : Part.tru ∈ P) (hk : Agree P s0 s) :
    Agree P s0 (accApply w s) := by
  unfold accApply
  try dsimp only
  all_goals (with_reducible repeat' first | assumption | rfl | apply agree_ite | apply agree_ite_st | apply agree_ite_snd | apply agree_genApply)

theorem agree_unitApply {P : List Part} {s0 : State} (u : Nat) (w : Waymark) {s : State} (h_chn : Part.chn ∈ P) (h_dec : Part.dec ∈ P) (h_hbm : Part.hbm ∈ P) (h_hlt : Part.hlt ∈ P) (h_mem : Part.mem ∈ P) (h_out : Part.out ∈ P) (h_regs : Part.regs ∈ P) (h_rsy : Part.rsy ∈ P) (h_stg : Part.stg ∈ P) (h_trp : Part.trp ∈ P) (h_tru : Part.tru ∈ P) (h_xar : Part.xar ∈ P) (hk : Agree P s0 s) :
    Agree P s0 (unitApply u w s) := by
  unfold unitApply
  try dsimp only
  all_goals (with_reducible repeat' first | assumption | rfl | apply agree_ite | apply agree_ite_st | apply agree_ite_snd | apply agree_accApply | apply agree_chnApply | apply agree_decApply | apply agree_genApply | apply agree_rsyApply | apply agree_stgApply | apply agree_trpMark | apply agree_xarApply | split)

theorem agree_handOn {P : List Part} {s0 : State} (u : Nat) (w : Waymark) {s : State} (h_frm : Part.frm ∈ P) (h_grt : Part.grt ∈ P) (h_hlt : Part.hlt ∈ P) (h_out : Part.out ∈ P) (h_regs : Part.regs ∈ P) (h_stg : Part.stg ∈ P) (h_wm : Part.wm ∈ P) (hk : Agree P s0 s) :
    Agree P s0 (handOn u w s) := by
  unfold handOn
  try dsimp only
  all_goals (with_reducible repeat' first | assumption | rfl | apply agree_ite | apply agree_ite_st | apply agree_ite_snd | apply agree_accCarry | apply agree_grtMark | apply agree_passMark | apply agree_stgForward)

theorem agree_applyAt {P : List Part} {s0 : State} (u : Nat) (w : Waymark) {s : State} (h_chn : Part.chn ∈ P) (h_dec : Part.dec ∈ P) (h_frm : Part.frm ∈ P) (h_grt : Part.grt ∈ P) (h_hbm : Part.hbm ∈ P) (h_hlt : Part.hlt ∈ P) (h_mem : Part.mem ∈ P) (h_out : Part.out ∈ P) (h_regs : Part.regs ∈ P) (h_rsy : Part.rsy ∈ P) (h_stg : Part.stg ∈ P) (h_trp : Part.trp ∈ P) (h_tru : Part.tru ∈ P) (h_wm : Part.wm ∈ P) (h_xar : Part.xar ∈ P) (hk : Agree P s0 s) :
    Agree P s0 (applyAt u w s) := by
  unfold applyAt
  try dsimp only
  all_goals (with_reducible repeat' first | assumption | rfl | apply agree_ite | apply agree_ite_st | apply agree_ite_snd | apply agree_handOn | apply agree_noteApplied | apply agree_unitApply)

theorem agree_applyKind {P : List Part} {s0 : State} (u : Nat) (kind : Nat) {s : State} (h_chn : Part.chn ∈ P) (h_dec : Part.dec ∈ P) (h_frm : Part.frm ∈ P) (h_grt : Part.grt ∈ P) (h_hbm : Part.hbm ∈ P) (h_hlt : Part.hlt ∈ P) (h_mem : Part.mem ∈ P) (h_out : Part.out ∈ P) (h_regs : Part.regs ∈ P) (h_rsy : Part.rsy ∈ P) (h_stg : Part.stg ∈ P) (h_trp : Part.trp ∈ P) (h_tru : Part.tru ∈ P) (h_wm : Part.wm ∈ P) (h_xar : Part.xar ∈ P) (hk : Agree P s0 s) :
    Agree P s0 (applyKind u kind s) := by
  unfold applyKind
  try dsimp only
  all_goals (with_reducible repeat' first | assumption | rfl | apply agree_ite | apply agree_ite_st | apply agree_ite_snd | apply agree_applyAt | apply agree_setHeld | split)

theorem agree_dropStartStop {P : List Part} {s0 : State} (f : Field) {s : State} (h_regs : Part.regs ∈ P) (hk : Agree P s0 s) :
    Agree P s0 (dropStartStop f s) := by
  unfold dropStartStop
  try dsimp only
  all_goals (with_reducible repeat' first | assumption | rfl | apply agree_ite | apply agree_ite_st | apply agree_ite_snd | apply agree_wf)

theorem agree_epochDiscard {P : List Part} {s0 : State} (u : Nat) {s : State} (h_acc : Part.acc ∈ P) (h_brg : Part.brg ∈ P) (h_chn : Part.chn ∈ P) (h_dec : Part.dec ∈ P) (h_grt : Part.grt ∈ P) (h_regs : Part.regs ∈ P) (h_rsy : Part.rsy ∈ P) (h_stg : Part.stg ∈ P) (h_svy : Part.svy ∈ P) (h_trp : Part.trp ∈ P) (h_wm : Part.wm ∈ P) (h_xar : Part.xar ∈ P) (hk : Agree P s0 s) :
    Agree P s0 (epochDiscard u s) := by
  unfold epochDiscard
  try dsimp only
  all_goals (with_reducible repeat' first | assumption | rfl | apply agree_ite | apply agree_ite_st | apply agree_ite_snd | apply agree_State_setAplan | apply agree_abortInteg | apply agree_acc | apply agree_dropStartStop | apply agree_foldS | apply agree_setHeld | (intro _ _ _) | (intro _ _) | split | refine agree_snd ?_ (by assumption) | refine agree_snd2 ?_ (by assumption) | refine agree_st ?_ (by assumption) | refine agree_get ?_ (by assumption) | refine agree_get2 ?_ (by assumption) | apply agree_with_dec | apply agree_with_wm | apply agree_with_chn | apply agree_with_grt | apply agree_with_stg | apply agree_with_trp | apply agree_with_brg | apply agree_with_xar | apply agree_with_acc | apply agree_with_rsy)

theorem agree_epochApply {P : List Part} {s0 : State} (u : Nat) {s : State} (h_brg : Part.brg ∈ P) (h_dec : Part.dec ∈ P) (h_frm : Part.frm ∈ P) (h_mer : Part.mer ∈ P) (h_regs : Part.regs ∈ P) (hk : Agree P s0 s) :
    Agree P s0 (epochApply u s) := by
  unfold epochApply
  refine agree_ite (agree_foldS _ _ (fun x t h => agree_syncReset _ _ h_dec h_regs h) (agree_with_frm _ h_frm (agree_with_mer _ h_mer hk))) (agree_ite ?_ hk)
  exact agree_brgRenumber h_brg hk

theorem agree_epochMark {P : List Part} {s0 : State} (u : Nat) (w : Waymark) {s : State} (h_acc : Part.acc ∈ P) (h_brg : Part.brg ∈ P) (h_chn : Part.chn ∈ P) (h_dec : Part.dec ∈ P) (h_frm : Part.frm ∈ P) (h_grt : Part.grt ∈ P) (h_hlt : Part.hlt ∈ P) (h_mer : Part.mer ∈ P) (h_out : Part.out ∈ P) (h_regs : Part.regs ∈ P) (h_rsy : Part.rsy ∈ P) (h_stg : Part.stg ∈ P) (h_svy : Part.svy ∈ P) (h_trp : Part.trp ∈ P) (h_wm : Part.wm ∈ P) (h_xar : Part.xar ∈ P) (hk : Agree P s0 s) :
    Agree P s0 (epochMark u w s) := by
  unfold epochMark
  try dsimp only
  all_goals (with_reducible repeat' first | assumption | rfl | apply agree_ite | apply agree_ite_st | apply agree_ite_snd | apply agree_epochApply | apply agree_epochDiscard | apply agree_handOn | apply agree_logOpen | apply agree_noteApplied | split | refine agree_snd ?_ (by assumption) | refine agree_snd2 ?_ (by assumption) | refine agree_st ?_ (by assumption) | refine agree_get ?_ (by assumption) | refine agree_get2 ?_ (by assumption) | apply agree_with_mer)

theorem agree_epochZero {P : List Part} {s0 : State} {s : State} (h_mer : Part.mer ∈ P) (h_regs : Part.regs ∈ P) (h_tim : Part.tim ∈ P) (hk : Agree P s0 s) :
    Agree P s0 (epochZero s) := by
  unfold epochZero
  try dsimp only
  all_goals (with_reducible repeat' first | assumption | rfl | apply agree_foldS | apply agree_wf | (intro _ _ _) | (intro _ _) | split | refine agree_snd ?_ (by assumption) | refine agree_snd2 ?_ (by assumption) | refine agree_st ?_ (by assumption) | refine agree_get ?_ (by assumption) | refine agree_get2 ?_ (by assumption) | apply agree_with_mer | apply agree_with_tim)

theorem agree_epochSend {P : List Part} {s0 : State} (label : Nat) {s : State} (h_tru : Part.tru ∈ P) (h_wm : Part.wm ∈ P) (hk : Agree P s0 s) :
    Agree P s0 (epochSend label s) := by
  unfold epochSend
  exact agree_step hk (fun p hp => by cases p <;> first | exact absurd h_wm hp | exact absurd h_tru hp | rfl | exact fun _ => rfl)

theorem agree_epochBegin {P : List Part} {s0 : State} (label : Nat) {s : State} (h_acc : Part.acc ∈ P) (h_brg : Part.brg ∈ P) (h_chn : Part.chn ∈ P) (h_dec : Part.dec ∈ P) (h_grt : Part.grt ∈ P) (h_hlt : Part.hlt ∈ P) (h_mer : Part.mer ∈ P) (h_out : Part.out ∈ P) (h_regs : Part.regs ∈ P) (h_rsy : Part.rsy ∈ P) (h_stg : Part.stg ∈ P) (h_svy : Part.svy ∈ P) (h_tim : Part.tim ∈ P) (h_trp : Part.trp ∈ P) (h_tru : Part.tru ∈ P) (h_wm : Part.wm ∈ P) (h_xar : Part.xar ∈ P) (hk : Agree P s0 s) :
    Agree P s0 (epochBegin label s) := by
  unfold epochBegin
  try dsimp only
  all_goals (with_reducible repeat' first | assumption | rfl | apply agree_epochDiscard | apply agree_epochSend | apply agree_epochZero | apply agree_foldS | apply agree_raise | (intro _ _ _))

theorem agree_epochDrop {P : List Part} {s0 : State} (c : Nat) (label : Nat) {s : State} (h_hlt : Part.hlt ∈ P) (h_mer : Part.mer ∈ P) (h_out : Part.out ∈ P) (h_regs : Part.regs ∈ P) (hk : Agree P s0 s) :
    Agree P s0 (epochDrop c label s) := by
  unfold epochDrop
  try dsimp only
  all_goals (with_reducible repeat' first | assumption | rfl | apply agree_raise | apply agree_wf | split | refine agree_snd ?_ (by assumption) | refine agree_snd2 ?_ (by assumption) | refine agree_st ?_ (by assumption) | refine agree_get ?_ (by assumption) | refine agree_get2 ?_ (by assumption) | apply agree_with_mer)

theorem agree_epochEdge {P : List Part} {s0 : State} {s : State} (h_acc : Part.acc ∈ P) (h_brg : Part.brg ∈ P) (h_chn : Part.chn ∈ P) (h_dec : Part.dec ∈ P) (h_grt : Part.grt ∈ P) (h_hlt : Part.hlt ∈ P) (h_mer : Part.mer ∈ P) (h_out : Part.out ∈ P) (h_regs : Part.regs ∈ P) (h_rsy : Part.rsy ∈ P) (h_stg : Part.stg ∈ P) (h_svy : Part.svy ∈ P) (h_tim : Part.tim ∈ P) (h_trp : Part.trp ∈ P) (h_tru : Part.tru ∈ P) (h_wm : Part.wm ∈ P) (h_xar : Part.xar ∈ P) (hk : Agree P s0 s) :
    Agree P s0 (epochEdge s) := by
  unfold epochEdge
  try dsimp only
  all_goals (with_reducible repeat' first | assumption | rfl | apply agree_ite | apply agree_ite_st | apply agree_ite_snd | apply agree_epochBegin | apply agree_epochDrop | split)

theorem agree_offsetEdge {P : List Part} {s0 : State} {s : State} (h_mer : Part.mer ∈ P) (hk : Agree P s0 s) :
    Agree P s0 (offsetEdge s) := by
  unfold offsetEdge
  try dsimp only
  all_goals (with_reducible repeat' first | assumption | rfl | apply agree_ite | apply agree_ite_st | apply agree_ite_snd | apply agree_foldS | (intro _ _ _) | (intro _ _) | split | refine agree_snd ?_ (by assumption) | refine agree_snd2 ?_ (by assumption) | refine agree_st ?_ (by assumption) | refine agree_get ?_ (by assumption) | refine agree_get2 ?_ (by assumption) | apply agree_with_mer)

theorem agree_ppsEdge {P : List Part} {s0 : State} {s : State} (h_mer : Part.mer ∈ P) (h_out : Part.out ∈ P) (hk : Agree P s0 s) :
    Agree P s0 (ppsEdge s) := by
  unfold ppsEdge
  try dsimp only
  all_goals (with_reducible repeat' first | assumption | rfl | apply agree_ite | apply agree_ite_st | apply agree_ite_snd | apply agree_emit | apply agree_foldS | (intro _ _ _) | (intro _ _) | split | refine agree_snd ?_ (by assumption) | refine agree_snd2 ?_ (by assumption) | refine agree_st ?_ (by assumption) | refine agree_get ?_ (by assumption) | refine agree_get2 ?_ (by assumption) | apply agree_with_mer)

theorem agree_internalEdge {P : List Part} {s0 : State} {s : State} (h_acc : Part.acc ∈ P) (h_brg : Part.brg ∈ P) (h_chn : Part.chn ∈ P) (h_dec : Part.dec ∈ P) (h_grt : Part.grt ∈ P) (h_hlt : Part.hlt ∈ P) (h_mer : Part.mer ∈ P) (h_out : Part.out ∈ P) (h_regs : Part.regs ∈ P) (h_rsy : Part.rsy ∈ P) (h_stg : Part.stg ∈ P) (h_svy : Part.svy ∈ P) (h_tim : Part.tim ∈ P) (h_trp : Part.trp ∈ P) (h_tru : Part.tru ∈ P) (h_wm : Part.wm ∈ P) (h_xar : Part.xar ∈ P) (hk : Agree P s0 s) :
    Agree P s0 (internalEdge s) := by
  unfold internalEdge
  try dsimp only
  all_goals (with_reducible repeat' first | assumption | rfl | apply agree_ite | apply agree_ite_st | apply agree_ite_snd | apply agree_epochEdge | apply agree_offsetEdge | apply agree_ppsEdge | apply agree_timEdge | split | refine agree_snd ?_ (by assumption) | refine agree_snd2 ?_ (by assumption) | refine agree_st ?_ (by assumption) | refine agree_get ?_ (by assumption) | refine agree_get2 ?_ (by assumption) | apply agree_with_mer)

theorem agree_noteLate {P : List Part} {s0 : State} (w : Waymark) {s : State} (h_acc : Part.acc ∈ P) (hk : Agree P s0 s) :
    Agree P s0 (noteLate w s) := by
  unfold noteLate
  try dsimp only
  all_goals (with_reducible repeat' first | assumption | rfl | apply agree_State_setAplan | apply agree_foldS | (intro _ _ _))

theorem agree_storeMark {P : List Part} {s0 : State} (u : Nat) (w : Waymark) {s : State} (h_acc : Part.acc ∈ P) (h_frm : Part.frm ∈ P) (h_grt : Part.grt ∈ P) (h_hlt : Part.hlt ∈ P) (h_out : Part.out ∈ P) (h_regs : Part.regs ∈ P) (h_stg : Part.stg ∈ P) (h_wm : Part.wm ∈ P) (hk : Agree P s0 s) :
    Agree P s0 (storeMark u w s) := by
  unfold storeMark
  try dsimp only
  all_goals (with_reducible repeat' first | assumption | rfl | apply agree_ite | apply agree_ite_st | apply agree_ite_snd | apply agree_calWindow | apply agree_handOn | apply agree_logOpen | apply agree_noteLate | apply agree_setHeld)

theorem agree_takeMark {P : List Part} {s0 : State} (u : Nat) (w : Waymark) {s : State} (h_acc : Part.acc ∈ P) (h_frm : Part.frm ∈ P) (h_grt : Part.grt ∈ P) (h_hlt : Part.hlt ∈ P) (h_out : Part.out ∈ P) (h_regs : Part.regs ∈ P) (h_stg : Part.stg ∈ P) (h_svy : Part.svy ∈ P) (h_wm : Part.wm ∈ P) (hk : Agree P s0 s) :
    Agree P s0 (takeMark u w s) := by
  unfold takeMark
  try dsimp only
  all_goals (with_reducible repeat' first | assumption | rfl | apply agree_ite | apply agree_ite_st | apply agree_ite_snd | apply agree_dumpArrive | apply agree_handOn | apply agree_noteApplied | apply agree_stgModel | apply agree_storeMark | apply agree_xarArrive)

theorem agree_meetMark {P : List Part} {s0 : State} (u : Nat) (w : Waymark) {s : State} (h_acc : Part.acc ∈ P) (h_brg : Part.brg ∈ P) (h_chn : Part.chn ∈ P) (h_dec : Part.dec ∈ P) (h_frm : Part.frm ∈ P) (h_grt : Part.grt ∈ P) (h_hlt : Part.hlt ∈ P) (h_mer : Part.mer ∈ P) (h_out : Part.out ∈ P) (h_regs : Part.regs ∈ P) (h_rsy : Part.rsy ∈ P) (h_stg : Part.stg ∈ P) (h_svy : Part.svy ∈ P) (h_trp : Part.trp ∈ P) (h_wm : Part.wm ∈ P) (h_xar : Part.xar ∈ P) (hk : Agree P s0 s) :
    Agree P s0 (meetMark u w s) := by
  unfold meetMark
  try dsimp only
  all_goals (with_reducible repeat' first | assumption | rfl | apply agree_ite | apply agree_ite_st | apply agree_ite_snd | apply agree_epochMark | apply agree_logOpen | apply agree_takeMark | split | refine agree_snd ?_ (by assumption) | refine agree_snd2 ?_ (by assumption) | refine agree_st ?_ (by assumption) | refine agree_get ?_ (by assumption) | refine agree_get2 ?_ (by assumption) | apply agree_with_wm)

theorem agree_markArrive {P : List Part} {s0 : State} (u : Nat) {s : State} (h_acc : Part.acc ∈ P) (h_brg : Part.brg ∈ P) (h_chn : Part.chn ∈ P) (h_dec : Part.dec ∈ P) (h_frm : Part.frm ∈ P) (h_grt : Part.grt ∈ P) (h_hlt : Part.hlt ∈ P) (h_mer : Part.mer ∈ P) (h_out : Part.out ∈ P) (h_regs : Part.regs ∈ P) (h_rsy : Part.rsy ∈ P) (h_stg : Part.stg ∈ P) (h_svy : Part.svy ∈ P) (h_trp : Part.trp ∈ P) (h_wm : Part.wm ∈ P) (h_xar : Part.xar ∈ P) (hk : Agree P s0 s) :
    Agree P s0 (markArrive u s) := by
  unfold markArrive
  try dsimp only
  all_goals (with_reducible repeat' first | assumption | rfl | apply agree_ite | apply agree_ite_st | apply agree_ite_snd | apply agree_meetMark | apply agree_takeMark | (intro _ _ _) | (intro _ _) | split | refine agree_snd ?_ (by assumption) | refine agree_snd2 ?_ (by assumption) | refine agree_st ?_ (by assumption) | refine agree_get ?_ (by assumption) | refine agree_get2 ?_ (by assumption) | apply agree_with_wm)

theorem agree_meetKind {P : List Part} {s0 : State} (u : Nat) (kind : Nat) {s : State} (h_acc : Part.acc ∈ P) (h_brg : Part.brg ∈ P) (h_chn : Part.chn ∈ P) (h_dec : Part.dec ∈ P) (h_frm : Part.frm ∈ P) (h_grt : Part.grt ∈ P) (h_hlt : Part.hlt ∈ P) (h_mer : Part.mer ∈ P) (h_out : Part.out ∈ P) (h_regs : Part.regs ∈ P) (h_rsy : Part.rsy ∈ P) (h_stg : Part.stg ∈ P) (h_svy : Part.svy ∈ P) (h_trp : Part.trp ∈ P) (h_wm : Part.wm ∈ P) (h_xar : Part.xar ∈ P) (hk : Agree P s0 s) :
    Agree P s0 (meetKind u kind s) := by
  unfold meetKind
  try dsimp only
  all_goals (with_reducible repeat' first | assumption | rfl | apply agree_meetMark | (intro _ _ _) | (intro _ _) | split | refine agree_snd ?_ (by assumption) | refine agree_snd2 ?_ (by assumption) | refine agree_st ?_ (by assumption) | refine agree_get ?_ (by assumption) | refine agree_get2 ?_ (by assumption) | apply agree_with_wm)

theorem agree_probeMark {P : List Part} {s0 : State} (u : Nat) {s : State} (h_chn : Part.chn ∈ P) (h_dec : Part.dec ∈ P) (h_frm : Part.frm ∈ P) (h_grt : Part.grt ∈ P) (h_hbm : Part.hbm ∈ P) (h_hlt : Part.hlt ∈ P) (h_mem : Part.mem ∈ P) (h_out : Part.out ∈ P) (h_regs : Part.regs ∈ P) (h_rsy : Part.rsy ∈ P) (h_stg : Part.stg ∈ P) (h_trp : Part.trp ∈ P) (h_tru : Part.tru ∈ P) (h_wm : Part.wm ∈ P) (h_xar : Part.xar ∈ P) (hk : Agree P s0 s) :
    Agree P s0 (probeMark u s) := by
  unfold probeMark
  try dsimp only
  all_goals (with_reducible repeat' first | assumption | rfl | apply agree_applyKind)

theorem agree_execEpochWaymark {P : List Part} {s0 : State} (unit : Fin 21) {s : State} (h_acc : Part.acc ∈ P) (h_brg : Part.brg ∈ P) (h_chn : Part.chn ∈ P) (h_dec : Part.dec ∈ P) (h_frm : Part.frm ∈ P) (h_grt : Part.grt ∈ P) (h_hlt : Part.hlt ∈ P) (h_mer : Part.mer ∈ P) (h_out : Part.out ∈ P) (h_regs : Part.regs ∈ P) (h_rsy : Part.rsy ∈ P) (h_stg : Part.stg ∈ P) (h_svy : Part.svy ∈ P) (h_trp : Part.trp ∈ P) (h_wm : Part.wm ∈ P) (h_xar : Part.xar ∈ P) (hk : Agree P s0 s) :
    ∀ t, execEpochWaymark unit s = .next t → Agree P s0 t := by
  intro t ht
  unfold execEpochWaymark at ht
  try dsimp only at ht
  all_goals (repeat' first | (cases ht) | split at ht)
  all_goals (with_reducible repeat' first | assumption | rfl | apply agree_meetKind)

theorem agree_execDumpWaymark {P : List Part} {s0 : State} (plan : Fin 16) {s : State} (h_acc : Part.acc ∈ P) (h_hbm : Part.hbm ∈ P) (h_hlt : Part.hlt ∈ P) (h_mem : Part.mem ∈ P) (h_out : Part.out ∈ P) (h_regs : Part.regs ∈ P) (h_svy : Part.svy ∈ P) (h_wm : Part.wm ∈ P) (hk : Agree P s0 s) :
    ∀ t, execDumpWaymark plan s = .next t → Agree P s0 t := by
  intro t ht
  unfold execDumpWaymark at ht
  try dsimp only at ht
  all_goals (repeat' first | (cases ht) | split at ht)
  all_goals (with_reducible repeat' first | assumption | rfl | apply agree_applyDump)

theorem agree_execFlushWaymark {P : List Part} {s0 : State} (unit : Fin 21) {s : State} (h_chn : Part.chn ∈ P) (h_dec : Part.dec ∈ P) (h_frm : Part.frm ∈ P) (h_grt : Part.grt ∈ P) (h_hbm : Part.hbm ∈ P) (h_hlt : Part.hlt ∈ P) (h_mem : Part.mem ∈ P) (h_out : Part.out ∈ P) (h_regs : Part.regs ∈ P) (h_rsy : Part.rsy ∈ P) (h_stg : Part.stg ∈ P) (h_trp : Part.trp ∈ P) (h_tru : Part.tru ∈ P) (h_wm : Part.wm ∈ P) (h_xar : Part.xar ∈ P) (hk : Agree P s0 s) :
    ∀ t, execFlushWaymark unit s = .next t → Agree P s0 t := by
  intro t ht
  unfold execFlushWaymark at ht
  try dsimp only at ht
  all_goals (repeat' first | (cases ht) | split at ht)
  all_goals (with_reducible repeat' first | assumption | rfl | apply agree_applyKind)

theorem agree_execGainWaymark {P : List Part} {s0 : State} (unit : Fin 21) {s : State} (h_chn : Part.chn ∈ P) (h_dec : Part.dec ∈ P) (h_frm : Part.frm ∈ P) (h_grt : Part.grt ∈ P) (h_hbm : Part.hbm ∈ P) (h_hlt : Part.hlt ∈ P) (h_mem : Part.mem ∈ P) (h_out : Part.out ∈ P) (h_regs : Part.regs ∈ P) (h_rsy : Part.rsy ∈ P) (h_stg : Part.stg ∈ P) (h_trp : Part.trp ∈ P) (h_tru : Part.tru ∈ P) (h_wm : Part.wm ∈ P) (h_xar : Part.xar ∈ P) (hk : Agree P s0 s) :
    ∀ t, execGainWaymark unit s = .next t → Agree P s0 t := by
  intro t ht
  unfold execGainWaymark at ht
  try dsimp only at ht
  all_goals (repeat' first | (cases ht) | split at ht)
  all_goals (with_reducible repeat' first | assumption | rfl | apply agree_applyKind)

theorem agree_execWswapWaymark {P : List Part} {s0 : State} (unit : Fin 21) {s : State} (h_chn : Part.chn ∈ P) (h_dec : Part.dec ∈ P) (h_frm : Part.frm ∈ P) (h_grt : Part.grt ∈ P) (h_hbm : Part.hbm ∈ P) (h_hlt : Part.hlt ∈ P) (h_mem : Part.mem ∈ P) (h_out : Part.out ∈ P) (h_regs : Part.regs ∈ P) (h_rsy : Part.rsy ∈ P) (h_stg : Part.stg ∈ P) (h_trp : Part.trp ∈ P) (h_tru : Part.tru ∈ P) (h_wm : Part.wm ∈ P) (h_xar : Part.xar ∈ P) (hk : Agree P s0 s) :
    ∀ t, execWswapWaymark unit s = .next t → Agree P s0 t := by
  intro t ht
  unfold execWswapWaymark at ht
  try dsimp only at ht
  all_goals (repeat' first | (cases ht) | split at ht)
  all_goals (with_reducible repeat' first | assumption | rfl | apply agree_applyKind)

theorem agree_execHaltWaymark {P : List Part} {s0 : State} (unit : Fin 21) {s : State} (h_chn : Part.chn ∈ P) (h_dec : Part.dec ∈ P) (h_frm : Part.frm ∈ P) (h_grt : Part.grt ∈ P) (h_hbm : Part.hbm ∈ P) (h_hlt : Part.hlt ∈ P) (h_mem : Part.mem ∈ P) (h_out : Part.out ∈ P) (h_regs : Part.regs ∈ P) (h_rsy : Part.rsy ∈ P) (h_stg : Part.stg ∈ P) (h_trp : Part.trp ∈ P) (h_tru : Part.tru ∈ P) (h_wm : Part.wm ∈ P) (h_xar : Part.xar ∈ P) (hk : Agree P s0 s) :
    ∀ t, execHaltWaymark unit s = .next t → Agree P s0 t := by
  intro t ht
  unfold execHaltWaymark at ht
  try dsimp only at ht
  all_goals (repeat' first | (cases ht) | split at ht)
  all_goals (with_reducible repeat' first | assumption | rfl | apply agree_applyKind)

theorem agree_execResumeWaymark {P : List Part} {s0 : State} (unit : Fin 21) {s : State} (h_chn : Part.chn ∈ P) (h_dec : Part.dec ∈ P) (h_frm : Part.frm ∈ P) (h_grt : Part.grt ∈ P) (h_hbm : Part.hbm ∈ P) (h_hlt : Part.hlt ∈ P) (h_mem : Part.mem ∈ P) (h_out : Part.out ∈ P) (h_regs : Part.regs ∈ P) (h_rsy : Part.rsy ∈ P) (h_stg : Part.stg ∈ P) (h_trp : Part.trp ∈ P) (h_tru : Part.tru ∈ P) (h_wm : Part.wm ∈ P) (h_xar : Part.xar ∈ P) (hk : Agree P s0 s) :
    ∀ t, execResumeWaymark unit s = .next t → Agree P s0 t := by
  intro t ht
  unfold execResumeWaymark at ht
  try dsimp only at ht
  all_goals (repeat' first | (cases ht) | split at ht)
  all_goals (with_reducible repeat' first | assumption | rfl | apply agree_applyKind)

theorem agree_execVoidrunWaymark {P : List Part} {s0 : State} (unit : Fin 21) {s : State} (h_chn : Part.chn ∈ P) (h_dec : Part.dec ∈ P) (h_frm : Part.frm ∈ P) (h_grt : Part.grt ∈ P) (h_hbm : Part.hbm ∈ P) (h_hlt : Part.hlt ∈ P) (h_mem : Part.mem ∈ P) (h_out : Part.out ∈ P) (h_regs : Part.regs ∈ P) (h_rsy : Part.rsy ∈ P) (h_stg : Part.stg ∈ P) (h_trp : Part.trp ∈ P) (h_tru : Part.tru ∈ P) (h_wm : Part.wm ∈ P) (h_xar : Part.xar ∈ P) (hk : Agree P s0 s) :
    ∀ t, execVoidrunWaymark unit s = .next t → Agree P s0 t := by
  intro t ht
  unfold execVoidrunWaymark at ht
  try dsimp only at ht
  all_goals (repeat' first | (cases ht) | split at ht)
  all_goals (with_reducible repeat' first | assumption | rfl | apply agree_applyKind)

theorem agree_execTrigWaymark {P : List Part} {s0 : State} {s : State} (h_acc : Part.acc ∈ P) (h_brg : Part.brg ∈ P) (h_chn : Part.chn ∈ P) (h_dec : Part.dec ∈ P) (h_frm : Part.frm ∈ P) (h_grt : Part.grt ∈ P) (h_hlt : Part.hlt ∈ P) (h_mer : Part.mer ∈ P) (h_out : Part.out ∈ P) (h_regs : Part.regs ∈ P) (h_rsy : Part.rsy ∈ P) (h_stg : Part.stg ∈ P) (h_svy : Part.svy ∈ P) (h_trp : Part.trp ∈ P) (h_wm : Part.wm ∈ P) (h_xar : Part.xar ∈ P) (hk : Agree P s0 s) :
    ∀ t, execTrigWaymark s = .next t → Agree P s0 t := by
  intro t ht
  unfold execTrigWaymark at ht
  try dsimp only at ht
  all_goals (repeat' first | (cases ht) | split at ht)
  all_goals (with_reducible repeat' first | assumption | rfl | apply agree_meetKind)

theorem agree_execGenWaymark {P : List Part} {s0 : State} (unit : Fin 21) {s : State} (h_chn : Part.chn ∈ P) (h_dec : Part.dec ∈ P) (h_frm : Part.frm ∈ P) (h_grt : Part.grt ∈ P) (h_hbm : Part.hbm ∈ P) (h_hlt : Part.hlt ∈ P) (h_mem : Part.mem ∈ P) (h_out : Part.out ∈ P) (h_regs : Part.regs ∈ P) (h_rsy : Part.rsy ∈ P) (h_stg : Part.stg ∈ P) (h_trp : Part.trp ∈ P) (h_tru : Part.tru ∈ P) (h_wm : Part.wm ∈ P) (h_xar : Part.xar ∈ P) (hk : Agree P s0 s) :
    ∀ t, execGenWaymark unit s = .next t → Agree P s0 t := by
  intro t ht
  unfold execGenWaymark at ht
  try dsimp only at ht
  all_goals (repeat' first | (cases ht) | split at ht)
  all_goals (with_reducible repeat' first | assumption | rfl | apply agree_applyKind)

theorem agree_execModelWaymark {P : List Part} {s0 : State} {s : State} (h_acc : Part.acc ∈ P) (h_brg : Part.brg ∈ P) (h_chn : Part.chn ∈ P) (h_dec : Part.dec ∈ P) (h_frm : Part.frm ∈ P) (h_grt : Part.grt ∈ P) (h_hlt : Part.hlt ∈ P) (h_mer : Part.mer ∈ P) (h_out : Part.out ∈ P) (h_regs : Part.regs ∈ P) (h_rsy : Part.rsy ∈ P) (h_stg : Part.stg ∈ P) (h_svy : Part.svy ∈ P) (h_trp : Part.trp ∈ P) (h_wm : Part.wm ∈ P) (h_xar : Part.xar ∈ P) (hk : Agree P s0 s) :
    ∀ t, execModelWaymark s = .next t → Agree P s0 t := by
  intro t ht
  unfold execModelWaymark at ht
  try dsimp only at ht
  all_goals (repeat' first | (cases ht) | split at ht)
  all_goals (with_reducible repeat' first | assumption | rfl | apply agree_meetKind)

theorem agree_execCalWaymark {P : List Part} {s0 : State} (unit : Fin 21) {s : State} (h_chn : Part.chn ∈ P) (h_dec : Part.dec ∈ P) (h_frm : Part.frm ∈ P) (h_grt : Part.grt ∈ P) (h_hbm : Part.hbm ∈ P) (h_hlt : Part.hlt ∈ P) (h_mem : Part.mem ∈ P) (h_out : Part.out ∈ P) (h_regs : Part.regs ∈ P) (h_rsy : Part.rsy ∈ P) (h_stg : Part.stg ∈ P) (h_trp : Part.trp ∈ P) (h_tru : Part.tru ∈ P) (h_wm : Part.wm ∈ P) (h_xar : Part.xar ∈ P) (hk : Agree P s0 s) :
    ∀ t, execCalWaymark unit s = .next t → Agree P s0 t := by
  intro t ht
  unfold execCalWaymark at ht
  try dsimp only at ht
  all_goals (repeat' first | (cases ht) | split at ht)
  all_goals (with_reducible repeat' first | assumption | rfl | apply agree_applyKind)

theorem agree_execProbeWaymark {P : List Part} {s0 : State} (unit : Fin 21) {s : State} (h_chn : Part.chn ∈ P) (h_dec : Part.dec ∈ P) (h_frm : Part.frm ∈ P) (h_grt : Part.grt ∈ P) (h_hbm : Part.hbm ∈ P) (h_hlt : Part.hlt ∈ P) (h_mem : Part.mem ∈ P) (h_out : Part.out ∈ P) (h_regs : Part.regs ∈ P) (h_rsy : Part.rsy ∈ P) (h_stg : Part.stg ∈ P) (h_trp : Part.trp ∈ P) (h_tru : Part.tru ∈ P) (h_wm : Part.wm ∈ P) (h_xar : Part.xar ∈ P) (hk : Agree P s0 s) :
    ∀ t, execProbeWaymark unit s = .next t → Agree P s0 t := by
  intro t ht
  unfold execProbeWaymark at ht
  try dsimp only at ht
  all_goals (repeat' first | (cases ht) | split at ht)
  all_goals (with_reducible repeat' first | assumption | rfl | apply agree_probeMark)

theorem agree_execWaymarkArrive {P : List Part} {s0 : State} (unit : Fin 21) {s : State} (h_acc : Part.acc ∈ P) (h_brg : Part.brg ∈ P) (h_chn : Part.chn ∈ P) (h_dec : Part.dec ∈ P) (h_frm : Part.frm ∈ P) (h_grt : Part.grt ∈ P) (h_hlt : Part.hlt ∈ P) (h_mer : Part.mer ∈ P) (h_out : Part.out ∈ P) (h_regs : Part.regs ∈ P) (h_rsy : Part.rsy ∈ P) (h_stg : Part.stg ∈ P) (h_svy : Part.svy ∈ P) (h_trp : Part.trp ∈ P) (h_wm : Part.wm ∈ P) (h_xar : Part.xar ∈ P) (hk : Agree P s0 s) :
    ∀ t, execWaymarkArrive unit s = .next t → Agree P s0 t := by
  intro t ht
  unfold execWaymarkArrive at ht
  try dsimp only at ht
  all_goals (repeat' first | (cases ht) | split at ht)
  all_goals (with_reducible repeat' first | assumption | rfl | apply agree_markArrive)

end Sys2Proof.Machine
end

