-- ==== Sys2Proof/Laws/AgreeModes.lean ====
section
/-! SUPPORT. What the operations of Machine/Modes leave alone (Laws/Agree). -/

namespace Sys2Proof.Machine

theorem agree_roleShow {P : List Part} {s0 : State} {s : State} (h_regs : Part.regs ∈ P) (hk : Agree P s0 s) :
    Agree P s0 (roleShow s) := by
  unfold roleShow
  try dsimp only
  all_goals (with_reducible repeat' first | assumption | rfl | apply agree_ite | apply agree_ite_st | apply agree_ite_snd | apply agree_wf)

theorem agree_driveAct {P : List Part} {s0 : State} (high : Bool) {s : State} (h_hlt : Part.hlt ∈ P) (h_out : Part.out ∈ P) (h_regs : Part.regs ∈ P) (hk : Agree P s0 s) :
    Agree P s0 (driveAct high s) := by
  unfold driveAct
  try dsimp only
  all_goals (with_reducible repeat' first | assumption | rfl | apply agree_ite | apply agree_ite_st | apply agree_ite_snd | apply agree_emit | apply agree_roleShow | apply agree_wf | split | refine agree_snd ?_ (by assumption) | refine agree_snd2 ?_ (by assumption) | refine agree_st ?_ (by assumption) | refine agree_get ?_ (by assumption) | refine agree_get2 ?_ (by assumption) | apply agree_with_hlt)

theorem agree_commitMode {P : List Part} {s0 : State} (m : Nat) (cause : Nat) {s : State} (h_hlt : Part.hlt ∈ P) (h_out : Part.out ∈ P) (h_regs : Part.regs ∈ P) (h_trp : Part.trp ∈ P) (hk : Agree P s0 s) :
    Agree P s0 (commitMode m cause s) := by
  unfold commitMode
  try dsimp only
  all_goals (with_reducible repeat' first | assumption | rfl | apply agree_raise | apply agree_roleShow | apply agree_setReg | apply agree_trpModeChanged | apply agree_wf)

theorem agree_modeReply {P : List Part} {s0 : State} (src : Nat) (m : Nat) (status : Nat) (cause : Nat) (res : List Nat) {s : State} (h_cmx : Part.cmx ∈ P) (h_out : Part.out ∈ P) (h_regs : Part.regs ∈ P) (hk : Agree P s0 s) :
    Agree P s0 (modeReply src m status cause res s) := by
  unfold modeReply
  try dsimp only
  all_goals (with_reducible repeat' first | assumption | rfl | apply agree_ite | apply agree_ite_st | apply agree_ite_snd | apply agree_mboxDone | apply agree_setReg)

theorem agree_transEnd {P : List Part} {s0 : State} (status : Nat) (cause : Nat) (res : List Nat) {s : State} (h_cmx : Part.cmx ∈ P) (h_hlt : Part.hlt ∈ P) (h_out : Part.out ∈ P) (h_regs : Part.regs ∈ P) (hk : Agree P s0 s) :
    Agree P s0 (transEnd status cause res s) := by
  unfold transEnd
  try dsimp only
  all_goals (with_reducible repeat' first | assumption | rfl | apply agree_modeReply | apply agree_wf | split | refine agree_snd ?_ (by assumption) | refine agree_snd2 ?_ (by assumption) | refine agree_st ?_ (by assumption) | refine agree_get ?_ (by assumption) | refine agree_get2 ?_ (by assumption) | apply agree_with_hlt)

theorem agree_closingBegin {P : List Part} {s0 : State} {s : State} (h_hlt : Part.hlt ∈ P) (h_lns : Part.lns ∈ P) (h_out : Part.out ∈ P) (h_regs : Part.regs ∈ P) (h_trp : Part.trp ∈ P) (hk : Agree P s0 s) :
    Agree P s0 (closingBegin s) := by
  unfold closingBegin
  try dsimp only
  all_goals (with_reducible repeat' first | assumption | rfl | apply agree_disableLane | apply agree_driveAct | apply agree_foldS | apply agree_pinsRest | apply agree_surveyBegin | (intro _ _ _))

theorem agree_drainPlan {P : List Part} {s0 : State} (p : Nat) {s : State} (h_wm : Part.wm ∈ P) (hk : Agree P s0 s) :
    Agree P s0 (drainPlan p s) := by
  unfold drainPlan
  try dsimp only
  all_goals (with_reducible repeat' first | assumption | rfl | split | refine agree_snd ?_ (by assumption) | refine agree_snd2 ?_ (by assumption) | refine agree_st ?_ (by assumption) | refine agree_get ?_ (by assumption) | refine agree_get2 ?_ (by assumption) | apply agree_with_wm)

theorem agree_exitFinish {P : List Part} {s0 : State} {s : State} (h_cmx : Part.cmx ∈ P) (h_hlt : Part.hlt ∈ P) (h_lns : Part.lns ∈ P) (h_out : Part.out ∈ P) (h_regs : Part.regs ∈ P) (h_trp : Part.trp ∈ P) (hk : Agree P s0 s) :
    Agree P s0 (exitFinish s) := by
  unfold exitFinish
  try dsimp only
  all_goals (with_reducible repeat' first | assumption | rfl | apply agree_ite | apply agree_ite_st | apply agree_ite_snd | apply agree_closingBegin | apply agree_driveAct | apply agree_transEnd | split)

theorem agree_exitAdvance {P : List Part} {s0 : State} {s : State} (h_cad : Part.cad ∈ P) (h_chn : Part.chn ∈ P) (h_cmx : Part.cmx ∈ P) (h_hlt : Part.hlt ∈ P) (h_lns : Part.lns ∈ P) (h_out : Part.out ∈ P) (h_regs : Part.regs ∈ P) (h_rsy : Part.rsy ∈ P) (h_stg : Part.stg ∈ P) (h_trp : Part.trp ∈ P) (h_wm : Part.wm ∈ P) (hk : Agree P s0 s) :
    Agree P s0 (exitAdvance s) := by
  unfold exitAdvance
  grind [agree_chnStop, agree_drainPlan, agree_exitFinish, agree_foldS, agree_rsyStop, agree_step, agree_stgStop, agree_with_hlt]

theorem agree_modeSettle {P : List Part} {s0 : State} {s : State} (h_cmx : Part.cmx ∈ P) (h_hlt : Part.hlt ∈ P) (h_lns : Part.lns ∈ P) (h_out : Part.out ∈ P) (h_regs : Part.regs ∈ P) (h_trp : Part.trp ∈ P) (hk : Agree P s0 s) :
    Agree P s0 (modeSettle s) := by
  unfold modeSettle
  try dsimp only
  all_goals (with_reducible repeat' first | assumption | rfl | apply agree_ite | apply agree_ite_st | apply agree_ite_snd | apply agree_commitMode | apply agree_exitFinish | apply agree_transEnd | split)

theorem agree_shadowEntered {P : List Part} {s0 : State} {s : State} (h_hlt : Part.hlt ∈ P) (h_regs : Part.regs ∈ P) (hk : Agree P s0 s) :
    Agree P s0 (shadowEntered s) := by
  unfold shadowEntered
  try dsimp only
  all_goals (with_reducible repeat' first | assumption | rfl | apply agree_wf | split | refine agree_snd ?_ (by assumption) | refine agree_snd2 ?_ (by assumption) | refine agree_st ?_ (by assumption) | refine agree_get ?_ (by assumption) | refine agree_get2 ?_ (by assumption) | apply agree_with_hlt)

theorem agree_periodCommit {P : List Part} {s0 : State} {s : State} (h_cmx : Part.cmx ∈ P) (h_hlt : Part.hlt ∈ P) (h_out : Part.out ∈ P) (h_regs : Part.regs ∈ P) (h_trp : Part.trp ∈ P) (hk : Agree P s0 s) :
    Agree P s0 (periodCommit s) := by
  unfold periodCommit
  try dsimp only
  all_goals (with_reducible repeat' first | assumption | rfl | apply agree_ite | apply agree_ite_st | apply agree_ite_snd | apply agree_commitMode | apply agree_transEnd | split)

end Sys2Proof.Machine
end

