-- ==== Sys2Proof/Laws/AgreeHealth.lean ====
section
/-! SUPPORT. What the operations of Machine/Health leave alone (Laws/Agree). -/

namespace Sys2Proof.Machine

theorem agree_tempLevel {P : List Part} {s0 : State} (e : Ev) (thr : Nat) (was : Bool) (hot : Nat × Int) {s : State} (h_hlt : Part.hlt ∈ P) (h_out : Part.out ∈ P) (h_regs : Part.regs ∈ P) (hk : Agree P s0 s) :
    Agree P s0 (tempLevel e thr was hot s).2 := by
  unfold tempLevel
  try dsimp only
  all_goals (with_reducible repeat' first | assumption | rfl | apply agree_ite | apply agree_ite_st | apply agree_ite_snd | apply agree_raise)

theorem agree_tempSample {P : List Part} {s0 : State} (ts : List Int) {s : State} (h_hlt : Part.hlt ∈ P) (h_out : Part.out ∈ P) (h_regs : Part.regs ∈ P) (hk : Agree P s0 s) :
    Agree P s0 (tempSample ts s) := by
  unfold tempSample
  try dsimp only
  all_goals (with_reducible repeat' first | assumption | rfl | apply agree_foldS | apply agree_setReg | apply agree_tempLevel | (intro _ _ _) | (intro _ _) | split | refine agree_snd ?_ (by assumption) | refine agree_snd2 ?_ (by assumption) | refine agree_st ?_ (by assumption) | refine agree_get ?_ (by assumption) | refine agree_get2 ?_ (by assumption) | apply agree_with_hlt)

theorem agree_lifeStore {P : List Part} {s0 : State} {s : State} (h_hlt : Part.hlt ∈ P) (hk : Agree P s0 s) :
    Agree P s0 (lifeStore s) := by
  unfold lifeStore
  try dsimp only
  all_goals (with_reducible repeat' first | assumption | rfl | split | refine agree_snd ?_ (by assumption) | refine agree_snd2 ?_ (by assumption) | refine agree_st ?_ (by assumption) | refine agree_get ?_ (by assumption) | refine agree_get2 ?_ (by assumption) | apply agree_with_hlt)

theorem agree_supplyRead {P : List Part} {s0 : State} (v : Nat) (mv : Int) {s : State} (h_hlt : Part.hlt ∈ P) (h_out : Part.out ∈ P) (h_regs : Part.regs ∈ P) (hk : Agree P s0 s) :
    Agree P s0 (supplyRead v mv s) := by
  unfold supplyRead
  try dsimp only
  all_goals (with_reducible repeat' first | assumption | rfl | apply agree_ite | apply agree_ite_st | apply agree_ite_snd | apply agree_raise | apply agree_setReg | split | refine agree_snd ?_ (by assumption) | refine agree_snd2 ?_ (by assumption) | refine agree_st ?_ (by assumption) | refine agree_get ?_ (by assumption) | refine agree_get2 ?_ (by assumption) | apply agree_with_hlt)

theorem agree_supplySample {P : List Part} {s0 : State} (mvs : List Int) {s : State} (h_hlt : Part.hlt ∈ P) (h_out : Part.out ∈ P) (h_regs : Part.regs ∈ P) (hk : Agree P s0 s) :
    Agree P s0 (supplySample mvs s) := by
  unfold supplySample
  try dsimp only
  all_goals (with_reducible repeat' first | assumption | rfl | apply agree_foldS | apply agree_supplyRead | (intro _ _ _) | (intro _ _) | split | refine agree_snd ?_ (by assumption) | refine agree_snd2 ?_ (by assumption) | refine agree_st ?_ (by assumption) | refine agree_get ?_ (by assumption) | refine agree_get2 ?_ (by assumption) | apply agree_with_hlt)

theorem agree_fabricPeriod {P : List Part} {s0 : State} {s : State} (h_hlt : Part.hlt ∈ P) (hk : Agree P s0 s) :
    Agree P s0 (fabricPeriod s) := by
  unfold fabricPeriod
  try dsimp only
  all_goals (with_reducible repeat' first | assumption | rfl | split | refine agree_snd ?_ (by assumption) | refine agree_snd2 ?_ (by assumption) | refine agree_st ?_ (by assumption) | refine agree_get ?_ (by assumption) | refine agree_get2 ?_ (by assumption) | apply agree_with_hlt)

theorem agree_fabricSecond {P : List Part} {s0 : State} {s : State} (h_hlt : Part.hlt ∈ P) (h_regs : Part.regs ∈ P) (hk : Agree P s0 s) :
    Agree P s0 (fabricSecond s) := by
  unfold fabricSecond
  try dsimp only
  all_goals (with_reducible repeat' first | assumption | rfl | apply agree_ite | apply agree_ite_st | apply agree_ite_snd | apply agree_setReg | apply agree_wf | split | refine agree_snd ?_ (by assumption) | refine agree_snd2 ?_ (by assumption) | refine agree_st ?_ (by assumption) | refine agree_get ?_ (by assumption) | refine agree_get2 ?_ (by assumption) | apply agree_with_hlt)

theorem agree_sendTwin {P : List Part} {s0 : State} (index : Nat) (ws : List Waymark) (body : List Byte) {s : State} (h_frm : Part.frm ∈ P) (h_out : Part.out ∈ P) (h_regs : Part.regs ∈ P) (hk : Agree P s0 s) :
    Agree P s0 (sendTwin index ws body s) := by
  unfold sendTwin
  try dsimp only
  all_goals (with_reducible repeat' first | assumption | rfl | apply agree_ite | apply agree_ite_st | apply agree_ite_snd | apply agree_nextSeq | apply agree_sendLanes)

theorem agree_sigCompare {P : List Part} {s0 : State} (k : Nat) (a : SigSum) (b : SigSum) {s : State} (h_hlt : Part.hlt ∈ P) (h_out : Part.out ∈ P) (h_regs : Part.regs ∈ P) (hk : Agree P s0 s) :
    Agree P s0 (sigCompare k a b s) := by
  unfold sigCompare
  try dsimp only
  all_goals (with_reducible repeat' first | assumption | rfl | apply agree_ite | apply agree_ite_st | apply agree_ite_snd | apply agree_inc | apply agree_raise | apply agree_wf | split | refine agree_snd ?_ (by assumption) | refine agree_snd2 ?_ (by assumption) | refine agree_st ?_ (by assumption) | refine agree_get ?_ (by assumption) | refine agree_get2 ?_ (by assumption) | apply agree_with_hlt)

theorem agree_sigBegin {P : List Part} {s0 : State} (k : Nat) (other : List (Nat × SigSum)) {s : State} (h_hlt : Part.hlt ∈ P) (h_regs : Part.regs ∈ P) (hk : Agree P s0 s) :
    Agree P s0 (sigBegin k other s) := by
  unfold sigBegin
  try dsimp only
  all_goals (with_reducible repeat' first | assumption | rfl | apply agree_ite | apply agree_ite_st | apply agree_ite_snd | apply agree_setReg64 | (intro _ _ _) | (intro _ _) | split | refine agree_snd ?_ (by assumption) | refine agree_snd2 ?_ (by assumption) | refine agree_st ?_ (by assumption) | refine agree_get ?_ (by assumption) | refine agree_get2 ?_ (by assumption) | apply agree_with_hlt)

theorem agree_sigArrive {P : List Part} {s0 : State} (own : Bool) (k : Nat) (x : SigSum) {s : State} (h_hlt : Part.hlt ∈ P) (h_out : Part.out ∈ P) (h_regs : Part.regs ∈ P) (hk : Agree P s0 s) :
    Agree P s0 (sigArrive own k x s) := by
  unfold sigArrive
  try dsimp only
  all_goals (with_reducible repeat' first | assumption | rfl | apply agree_ite | apply agree_ite_st | apply agree_ite_snd | apply agree_sigBegin | apply agree_sigCompare | (intro _ _ _) | (intro _ _) | split | refine agree_snd ?_ (by assumption) | refine agree_snd2 ?_ (by assumption) | refine agree_st ?_ (by assumption) | refine agree_get ?_ (by assumption) | refine agree_get2 ?_ (by assumption) | apply agree_with_hlt)

theorem agree_sigMissing {P : List Part} {s0 : State} (own : Bool) {s : State} (h_hlt : Part.hlt ∈ P) (h_out : Part.out ∈ P) (h_regs : Part.regs ∈ P) (hk : Agree P s0 s) :
    Agree P s0 (sigMissing own s) := by
  unfold sigMissing
  try dsimp only
  all_goals (with_reducible repeat' first | assumption | rfl | apply agree_ite | apply agree_ite_st | apply agree_ite_snd | apply agree_inc | apply agree_raise | apply agree_wf | (intro _ _ _) | (intro _ _) | split | refine agree_snd ?_ (by assumption) | refine agree_snd2 ?_ (by assumption) | refine agree_st ?_ (by assumption) | refine agree_get ?_ (by assumption) | refine agree_get2 ?_ (by assumption) | apply agree_with_hlt)

theorem agree_sendSigs {P : List Part} {s0 : State} (n : Nat) (x0 : Nat) (x1 : List (Nat × SigSum)) {x2 : State} (h_frm : Part.frm ∈ P) (h_out : Part.out ∈ P) (h_regs : Part.regs ∈ P) (hk : Agree P s0 x2) :
    Agree P s0 (sendSigs n x0 x1 x2) := by
  fun_induction sendSigs <;> grind [agree_sendTwin]

theorem agree_sigPeriod {P : List Part} {s0 : State} {s : State} (h_acc : Part.acc ∈ P) (h_frm : Part.frm ∈ P) (h_hlt : Part.hlt ∈ P) (h_out : Part.out ∈ P) (h_regs : Part.regs ∈ P) (hk : Agree P s0 s) :
    Agree P s0 (sigPeriod s) := by
  unfold sigPeriod
  try dsimp only
  all_goals (with_reducible repeat' first | assumption | rfl | apply agree_ite | apply agree_ite_st | apply agree_ite_snd | apply agree_acc | apply agree_foldS | apply agree_sendSigs | apply agree_sigArrive | (intro _ _ _) | (intro _ _) | split | refine agree_snd ?_ (by assumption) | refine agree_snd2 ?_ (by assumption) | refine agree_st ?_ (by assumption) | refine agree_get ?_ (by assumption) | refine agree_get2 ?_ (by assumption) | apply agree_with_acc)

theorem agree_twinPeriod {P : List Part} {s0 : State} (peerAct : Bool) {s : State} (h_acc : Part.acc ∈ P) (h_frm : Part.frm ∈ P) (h_hlt : Part.hlt ∈ P) (h_out : Part.out ∈ P) (h_regs : Part.regs ∈ P) (hk : Agree P s0 s) :
    Agree P s0 (twinPeriod peerAct s) := by
  unfold twinPeriod
  try dsimp only
  all_goals (with_reducible repeat' first | assumption | rfl | apply agree_ite | apply agree_ite_st | apply agree_ite_snd | apply agree_sendTwin | apply agree_sigPeriod | apply agree_wf | split | refine agree_snd ?_ (by assumption) | refine agree_snd2 ?_ (by assumption) | refine agree_st ?_ (by assumption) | refine agree_get ?_ (by assumption) | refine agree_get2 ?_ (by assumption) | apply agree_with_hlt)

theorem agree_takeover {P : List Part} {s0 : State} (cause : Nat) {s : State} (h_frm : Part.frm ∈ P) (h_hlt : Part.hlt ∈ P) (h_out : Part.out ∈ P) (h_regs : Part.regs ∈ P) (h_trp : Part.trp ∈ P) (h_wm : Part.wm ∈ P) (hk : Agree P s0 s) :
    Agree P s0 (takeover cause s) := by
  unfold takeover
  try dsimp only
  all_goals (with_reducible repeat' first | assumption | rfl | apply agree_ite | apply agree_ite_st | apply agree_ite_snd | apply agree_commitMode | apply agree_driveAct | apply agree_emit | apply agree_foldS | apply agree_insertMark | apply agree_raise | apply agree_wf | (intro _ _ _) | (intro _ _) | split | refine agree_snd ?_ (by assumption) | refine agree_snd2 ?_ (by assumption) | refine agree_st ?_ (by assumption) | refine agree_get ?_ (by assumption) | refine agree_get2 ?_ (by assumption) | apply agree_with_hlt)

theorem agree_beaconLost {P : List Part} {s0 : State} (peerAct : Bool) {s : State} (h_frm : Part.frm ∈ P) (h_hlt : Part.hlt ∈ P) (h_out : Part.out ∈ P) (h_regs : Part.regs ∈ P) (h_trp : Part.trp ∈ P) (h_wm : Part.wm ∈ P) (hk : Agree P s0 s) :
    Agree P s0 (beaconLost peerAct s) := by
  unfold beaconLost
  try dsimp only
  all_goals (with_reducible repeat' first | assumption | rfl | apply agree_ite | apply agree_ite_st | apply agree_ite_snd | apply agree_inc | apply agree_raise | apply agree_takeover | apply agree_wf | split | refine agree_snd ?_ (by assumption) | refine agree_snd2 ?_ (by assumption) | refine agree_st ?_ (by assumption) | refine agree_get ?_ (by assumption) | refine agree_get2 ?_ (by assumption) | apply agree_with_hlt)

theorem agree_yieldTwin {P : List Part} {s0 : State} {s : State} (h_cmx : Part.cmx ∈ P) (h_hlt : Part.hlt ∈ P) (h_out : Part.out ∈ P) (h_regs : Part.regs ∈ P) (h_trp : Part.trp ∈ P) (hk : Agree P s0 s) :
    Agree P s0 (yieldTwin s) := by
  unfold yieldTwin
  try dsimp only
  all_goals (with_reducible repeat' first | assumption | rfl | apply agree_ite | apply agree_ite_st | apply agree_ite_snd | apply agree_commitMode | apply agree_driveAct | apply agree_pinsRest | apply agree_raise | apply agree_shadowEntered | apply agree_transEnd | split | refine agree_snd ?_ (by assumption) | refine agree_snd2 ?_ (by assumption) | refine agree_st ?_ (by assumption) | refine agree_get ?_ (by assumption) | refine agree_get2 ?_ (by assumption) | apply agree_with_hlt)

theorem agree_peerRise {P : List Part} {s0 : State} {s : State} (h_cmx : Part.cmx ∈ P) (h_hlt : Part.hlt ∈ P) (h_out : Part.out ∈ P) (h_regs : Part.regs ∈ P) (h_trp : Part.trp ∈ P) (hk : Agree P s0 s) :
    Agree P s0 (peerRise s) := by
  unfold peerRise
  try dsimp only
  all_goals (with_reducible repeat' first | assumption | rfl | apply agree_ite | apply agree_ite_st | apply agree_ite_snd | apply agree_wf | apply agree_yieldTwin)

theorem agree_handoverTimeout {P : List Part} {s0 : State} {s : State} (h_cmx : Part.cmx ∈ P) (h_hlt : Part.hlt ∈ P) (h_out : Part.out ∈ P) (h_regs : Part.regs ∈ P) (hk : Agree P s0 s) :
    Agree P s0 (handoverTimeout s) := by
  unfold handoverTimeout
  try dsimp only
  all_goals (with_reducible repeat' first | assumption | rfl | apply agree_ite | apply agree_ite_st | apply agree_ite_snd | apply agree_transEnd | split | refine agree_snd ?_ (by assumption) | refine agree_snd2 ?_ (by assumption) | refine agree_st ?_ (by assumption) | refine agree_get ?_ (by assumption) | refine agree_get2 ?_ (by assumption) | apply agree_with_hlt)

theorem agree_holdExpiry {P : List Part} {s0 : State} {s : State} (h_hlt : Part.hlt ∈ P) (hk : Agree P s0 s) :
    Agree P s0 (holdExpiry s) := by
  unfold holdExpiry
  try dsimp only
  all_goals (with_reducible repeat' first | assumption | rfl | apply agree_ite | apply agree_ite_st | apply agree_ite_snd | split | refine agree_snd ?_ (by assumption) | refine agree_snd2 ?_ (by assumption) | refine agree_st ?_ (by assumption) | refine agree_get ?_ (by assumption) | refine agree_get2 ?_ (by assumption) | apply agree_with_hlt)

theorem agree_revertExpiry {P : List Part} {s0 : State} {s : State} (h_frm : Part.frm ∈ P) (h_hlt : Part.hlt ∈ P) (h_out : Part.out ∈ P) (h_regs : Part.regs ∈ P) (h_trp : Part.trp ∈ P) (h_wm : Part.wm ∈ P) (hk : Agree P s0 s) :
    Agree P s0 (revertExpiry s) := by
  unfold revertExpiry
  try dsimp only
  all_goals (with_reducible repeat' first | assumption | rfl | apply agree_ite | apply agree_ite_st | apply agree_ite_snd | apply agree_takeover)

theorem agree_beaconTake {P : List Part} {s0 : State} (b : Beacon) {s : State} (h_frm : Part.frm ∈ P) (h_hlt : Part.hlt ∈ P) (h_mer : Part.mer ∈ P) (h_out : Part.out ∈ P) (h_regs : Part.regs ∈ P) (h_trp : Part.trp ∈ P) (h_wm : Part.wm ∈ P) (hk : Agree P s0 s) :
    Agree P s0 (beaconTake b s) := by
  unfold beaconTake
  try dsimp only
  all_goals (with_reducible repeat' first | assumption | rfl | apply agree_ite | apply agree_ite_st | apply agree_ite_snd | apply agree_State_setRef | apply agree_raise | apply agree_takeover | apply agree_updateQl | split | refine agree_snd ?_ (by assumption) | refine agree_snd2 ?_ (by assumption) | refine agree_st ?_ (by assumption) | refine agree_get ?_ (by assumption) | refine agree_get2 ?_ (by assumption) | apply agree_with_hlt)

theorem agree_twinElements {P : List Part} {s0 : State} (src : Nat) (n : Nat) (x0 : Nat) (x1 : List Byte) {x2 : State} (h_frm : Part.frm ∈ P) (h_hlt : Part.hlt ∈ P) (h_mer : Part.mer ∈ P) (h_out : Part.out ∈ P) (h_regs : Part.regs ∈ P) (h_trp : Part.trp ∈ P) (h_wm : Part.wm ∈ P) (hk : Agree P s0 x2) :
    Agree P s0 (twinElements src n x0 x1 x2) := by
  fun_induction twinElements <;> grind [agree_beaconTake, agree_sigArrive]

theorem agree_copyMark {P : List Part} {s0 : State} (w : Waymark) {s : State} (h_frm : Part.frm ∈ P) (h_wm : Part.wm ∈ P) (hk : Agree P s0 s) :
    Agree P s0 (copyMark w s) := by
  unfold copyMark
  try dsimp only
  all_goals (with_reducible repeat' first | assumption | rfl | apply agree_ite | apply agree_ite_st | apply agree_ite_snd | apply agree_insertMark)

theorem agree_twinRx {P : List Part} {s0 : State} (n : Nat) (f : Frame) (chk : Nat) (fits : Bool) {s : State} (h_frm : Part.frm ∈ P) (h_hlt : Part.hlt ∈ P) (h_mer : Part.mer ∈ P) (h_out : Part.out ∈ P) (h_regs : Part.regs ∈ P) (h_trp : Part.trp ∈ P) (h_wm : Part.wm ∈ P) (hk : Agree P s0 s) :
    Agree P s0 (twinRx n f chk fits s) := by
  unfold twinRx
  grind [agree_State_setFlow, agree_copyMark, agree_foldS, agree_inc, agree_raise, agree_rxLane, agree_seqGap, agree_twinElements]

theorem agree_twinMark {P : List Part} {s0 : State} (c : Nat) (g : Nat) {s : State} (h_frm : Part.frm ∈ P) (h_regs : Part.regs ∈ P) (hk : Agree P s0 s) :
    Agree P s0 (twinMark c g s) := by
  unfold twinMark
  try dsimp only
  all_goals (with_reducible repeat' first | assumption | rfl | apply agree_ite | apply agree_ite_st | apply agree_ite_snd | apply agree_wf | split | refine agree_snd ?_ (by assumption) | refine agree_snd2 ?_ (by assumption) | refine agree_st ?_ (by assumption) | refine agree_get ?_ (by assumption) | refine agree_get2 ?_ (by assumption) | apply agree_with_frm)

theorem agree_unlessOff {P : List Part} {s0 : State} (f : State → State) {s : State} (hf : ∀  t, Agree P s0 t → Agree P s0 (f  t))  (hk : Agree P s0 s) :
    Agree P s0 (unlessOff f s) := by
  unfold unlessOff
  try dsimp only
  all_goals (with_reducible repeat' first | assumption | rfl | apply agree_ite | apply agree_ite_st | apply agree_ite_snd | apply hf)

theorem agree_execTempSample {P : List Part} {s0 : State} (temps : List (BitVec 8)) {s : State} (h_hlt : Part.hlt ∈ P) (h_out : Part.out ∈ P) (h_regs : Part.regs ∈ P) (hk : Agree P s0 s) :
    ∀ t, execTempSample temps s = .next t → Agree P s0 t := by
  intro t ht
  unfold execTempSample at ht
  try dsimp only at ht
  all_goals (repeat' first | (cases ht) | split at ht)
  all_goals (with_reducible repeat' first | assumption | rfl | apply agree_ite | apply agree_ite_st | apply agree_ite_snd | apply agree_tempSample | apply agree_unlessOff | (intro _ _ _) | (intro _ _))

theorem agree_execLifeHoursStore {P : List Part} {s0 : State} {s : State} (h_hlt : Part.hlt ∈ P) (hk : Agree P s0 s) :
    ∀ t, execLifeHoursStore s = .next t → Agree P s0 t := by
  intro t ht
  unfold execLifeHoursStore at ht
  grind [agree_lifeStore, agree_unlessOff]

theorem agree_execSupplySample {P : List Part} {s0 : State} (mvs : List Int) {s : State} (h_hlt : Part.hlt ∈ P) (h_out : Part.out ∈ P) (h_regs : Part.regs ∈ P) (hk : Agree P s0 s) :
    ∀ t, execSupplySample mvs s = .next t → Agree P s0 t := by
  intro t ht
  unfold execSupplySample at ht
  try dsimp only at ht
  all_goals (repeat' first | (cases ht) | split at ht)
  all_goals (with_reducible repeat' first | assumption | rfl | apply agree_ite | apply agree_ite_st | apply agree_ite_snd | apply agree_supplySample | apply agree_unlessOff | (intro _ _ _) | (intro _ _))

theorem agree_execFabricSecond {P : List Part} {s0 : State} {s : State} (h_hlt : Part.hlt ∈ P) (h_regs : Part.regs ∈ P) (hk : Agree P s0 s) :
    ∀ t, execFabricSecond s = .next t → Agree P s0 t := by
  intro t ht
  unfold execFabricSecond at ht
  grind [agree_fabricSecond, agree_unlessOff]

theorem agree_execTwinWaymark {P : List Part} {s0 : State} (chip : Fin 64) (gen : Fin 16) {s : State} (h_frm : Part.frm ∈ P) (h_regs : Part.regs ∈ P) (hk : Agree P s0 s) :
    ∀ t, execTwinWaymark chip gen s = .next t → Agree P s0 t := by
  intro t ht
  unfold execTwinWaymark at ht
  try dsimp only at ht
  all_goals (repeat' first | (cases ht) | split at ht)
  all_goals (with_reducible repeat' first | assumption | rfl | apply agree_twinMark)

theorem agree_execTwinFrameRx {P : List Part} {s0 : State} (lane : Fin 96) (f : Frame) (check : Nat) (fits : Bool) {s : State} (h_frm : Part.frm ∈ P) (h_hlt : Part.hlt ∈ P) (h_mer : Part.mer ∈ P) (h_out : Part.out ∈ P) (h_regs : Part.regs ∈ P) (h_trp : Part.trp ∈ P) (h_wm : Part.wm ∈ P) (hk : Agree P s0 s) :
    ∀ t, execTwinFrameRx lane f check fits s = .next t → Agree P s0 t := by
  intro t ht
  unfold execTwinFrameRx at ht
  try dsimp only at ht
  all_goals (repeat' first | (cases ht) | split at ht)
  all_goals (with_reducible repeat' first | assumption | rfl | apply agree_ite | apply agree_ite_st | apply agree_ite_snd | apply agree_twinRx)

theorem agree_execMarkOutputTimeout {P : List Part} {s0 : State} (port : Fin 8) {s : State} (h_frm : Part.frm ∈ P) (h_hlt : Part.hlt ∈ P) (h_out : Part.out ∈ P) (h_regs : Part.regs ∈ P) (hk : Agree P s0 s) :
    ∀ t, execMarkOutputTimeout port s = .next t → Agree P s0 t := by
  intro t ht
  unfold execMarkOutputTimeout at ht
  try dsimp only at ht
  all_goals (repeat' first | (cases ht) | split at ht)
  all_goals (with_reducible repeat' first | assumption | rfl | apply agree_sendPort | (intro _ _ _) | (intro _ _) | split | refine agree_snd ?_ (by assumption) | refine agree_snd2 ?_ (by assumption) | refine agree_st ?_ (by assumption) | refine agree_get ?_ (by assumption) | refine agree_get2 ?_ (by assumption) | apply agree_with_frm)

theorem agree_execReadyExitProgress {P : List Part} {s0 : State} {s : State} (h_cad : Part.cad ∈ P) (h_chn : Part.chn ∈ P) (h_cmx : Part.cmx ∈ P) (h_hlt : Part.hlt ∈ P) (h_lns : Part.lns ∈ P) (h_out : Part.out ∈ P) (h_regs : Part.regs ∈ P) (h_rsy : Part.rsy ∈ P) (h_stg : Part.stg ∈ P) (h_trp : Part.trp ∈ P) (h_wm : Part.wm ∈ P) (hk : Agree P s0 s) :
    ∀ t, execReadyExitProgress s = .next t → Agree P s0 t := by
  intro t ht
  unfold execReadyExitProgress at ht
  try dsimp only at ht
  all_goals (repeat' first | (cases ht) | split at ht)
  all_goals (with_reducible repeat' first | assumption | rfl | apply agree_exitAdvance)

theorem agree_execBeaconLost {P : List Part} {s0 : State} (peerAct : Bool) {s : State} (h_frm : Part.frm ∈ P) (h_hlt : Part.hlt ∈ P) (h_out : Part.out ∈ P) (h_regs : Part.regs ∈ P) (h_trp : Part.trp ∈ P) (h_wm : Part.wm ∈ P) (hk : Agree P s0 s) :
    ∀ t, execBeaconLost peerAct s = .next t → Agree P s0 t := by
  intro t ht
  unfold execBeaconLost at ht
  try dsimp only at ht
  all_goals (repeat' first | (cases ht) | split at ht)
  all_goals (with_reducible repeat' first | assumption | rfl | apply agree_beaconLost)

theorem agree_execPeerActRise {P : List Part} {s0 : State} {s : State} (h_cmx : Part.cmx ∈ P) (h_hlt : Part.hlt ∈ P) (h_out : Part.out ∈ P) (h_regs : Part.regs ∈ P) (h_trp : Part.trp ∈ P) (hk : Agree P s0 s) :
    ∀ t, execPeerActRise s = .next t → Agree P s0 t := by
  intro t ht
  unfold execPeerActRise at ht
  try dsimp only at ht
  all_goals (repeat' first | (cases ht) | split at ht)
  all_goals (with_reducible repeat' first | assumption | rfl | apply agree_peerRise)

theorem agree_execHandoverTimeout {P : List Part} {s0 : State} {s : State} (h_cmx : Part.cmx ∈ P) (h_hlt : Part.hlt ∈ P) (h_out : Part.out ∈ P) (h_regs : Part.regs ∈ P) (hk : Agree P s0 s) :
    ∀ t, execHandoverTimeout s = .next t → Agree P s0 t := by
  intro t ht
  unfold execHandoverTimeout at ht
  try dsimp only at ht
  all_goals (repeat' first | (cases ht) | split at ht)
  all_goals (with_reducible repeat' first | assumption | rfl | apply agree_handoverTimeout)

theorem agree_execSwitchbackHoldExpiry {P : List Part} {s0 : State} {s : State} (h_hlt : Part.hlt ∈ P) (hk : Agree P s0 s) :
    ∀ t, execSwitchbackHoldExpiry s = .next t → Agree P s0 t := by
  intro t ht
  unfold execSwitchbackHoldExpiry at ht
  try dsimp only at ht
  all_goals (repeat' first | (cases ht) | split at ht)
  all_goals (with_reducible repeat' first | assumption | rfl | apply agree_holdExpiry)

theorem agree_execRevertDelayExpiry {P : List Part} {s0 : State} {s : State} (h_frm : Part.frm ∈ P) (h_hlt : Part.hlt ∈ P) (h_out : Part.out ∈ P) (h_regs : Part.regs ∈ P) (h_trp : Part.trp ∈ P) (h_wm : Part.wm ∈ P) (hk : Agree P s0 s) :
    ∀ t, execRevertDelayExpiry s = .next t → Agree P s0 t := by
  intro t ht
  unfold execRevertDelayExpiry at ht
  try dsimp only at ht
  all_goals (repeat' first | (cases ht) | split at ht)
  all_goals (with_reducible repeat' first | assumption | rfl | apply agree_revertExpiry)

theorem agree_execSigMissingTimeout {P : List Part} {s0 : State} (own : Bool) {s : State} (h_hlt : Part.hlt ∈ P) (h_out : Part.out ∈ P) (h_regs : Part.regs ∈ P) (hk : Agree P s0 s) :
    ∀ t, execSigMissingTimeout own s = .next t → Agree P s0 t := by
  intro t ht
  unfold execSigMissingTimeout at ht
  try dsimp only at ht
  all_goals (repeat' first | (cases ht) | split at ht)
  all_goals (with_reducible repeat' first | assumption | rfl | apply agree_sigMissing)

theorem agree_execLogRecordWrite {P : List Part} {s0 : State} {s : State} (h_hlt : Part.hlt ∈ P) (h_out : Part.out ∈ P) (h_regs : Part.regs ∈ P) (hk : Agree P s0 s) :
    ∀ t, execLogRecordWrite s = .next t → Agree P s0 t := by
  intro t ht
  unfold execLogRecordWrite at ht
  grind [agree_logWrite, agree_unlessOff]

theorem agree_execSrEntryComplete {P : List Part} {s0 : State} (stack : Fin 2) {s : State} (h_cmx : Part.cmx ∈ P) (h_hlt : Part.hlt ∈ P) (h_lns : Part.lns ∈ P) (h_mem : Part.mem ∈ P) (h_out : Part.out ∈ P) (h_regs : Part.regs ∈ P) (h_trp : Part.trp ∈ P) (hk : Agree P s0 s) :
    ∀ t, execSrEntryComplete stack s = .next t → Agree P s0 t := by
  intro t ht
  unfold execSrEntryComplete at ht
  try dsimp only at ht
  all_goals (repeat' first | (cases ht) | split at ht)
  all_goals (with_reducible repeat' first | assumption | rfl | apply agree_modeSettle | apply agree_srEntered)

theorem agree_execSrExitComplete {P : List Part} {s0 : State} (stack : Fin 2) (wait : Fin 1601) {s : State} (h_cmx : Part.cmx ∈ P) (h_hlt : Part.hlt ∈ P) (h_lns : Part.lns ∈ P) (h_out : Part.out ∈ P) (h_regs : Part.regs ∈ P) (h_trp : Part.trp ∈ P) (hk : Agree P s0 s) :
    ∀ t, execSrExitComplete stack wait s = .next t → Agree P s0 t := by
  intro t ht
  unfold execSrExitComplete at ht
  try dsimp only at ht
  all_goals (repeat' first | (cases ht) | split at ht)
  all_goals (with_reducible repeat' first | assumption | rfl | apply agree_modeSettle | apply agree_srExited)

end Sys2Proof.Machine
end

