-- ==== Sys2Proof/Laws/AgreeAccess.lean ====
section
/-! SUPPORT. What the operations of Machine/Access leave alone (Laws/Agree). -/

namespace Sys2Proof.Machine

theorem agree_setVout {P : List Part} {s0 : State} (mv : Nat) {s : State} (h_hlt : Part.hlt ∈ P) (h_out : Part.out ∈ P) (h_regs : Part.regs ∈ P) (hk : Agree P s0 s) :
    Agree P s0 (setVout mv s) := by
  unfold setVout
  try dsimp only
  all_goals (with_reducible repeat' first | assumption | rfl | apply agree_emit | apply agree_setReg | split | refine agree_snd ?_ (by assumption) | refine agree_snd2 ?_ (by assumption) | refine agree_st ?_ (by assumption) | refine agree_get ?_ (by assumption) | refine agree_get2 ?_ (by assumption) | apply agree_with_hlt)

theorem agree_msixFlush {P : List Part} {s0 : State} {s : State} (h_out : Part.out ∈ P) (h_regs : Part.regs ∈ P) (hk : Agree P s0 s) :
    Agree P s0 (msixFlush s) := by
  unfold msixFlush
  try dsimp only
  all_goals (with_reducible repeat' first | assumption | rfl | apply agree_ite | apply agree_ite_st | apply agree_ite_snd | apply agree_emit | apply agree_foldS | apply agree_wf | (intro _ _ _))

theorem agree_busError {P : List Part} {s0 : State} (m : Master) (a : Nat) (write : Bool) (cause : Nat) {s : State} (h_hlt : Part.hlt ∈ P) (h_out : Part.out ∈ P) (h_regs : Part.regs ∈ P) (hk : Agree P s0 s) :
    Agree P s0 (busError m a write cause s) := by
  unfold busError
  try dsimp only
  all_goals (with_reducible repeat' first | assumption | rfl | apply agree_ite | apply agree_ite_st | apply agree_ite_snd | apply agree_inc | apply agree_raise | apply agree_setReg)

theorem agree_answered {P : List Part} {s0 : State} (m : Master) (a : Nat) (write : Bool) (r : Resp) {s : State} (h_hlt : Part.hlt ∈ P) (h_out : Part.out ∈ P) (h_regs : Part.regs ∈ P) (hk : Agree P s0 s) :
    Agree P s0 (answered m a write r s) := by
  unfold answered
  try dsimp only
  all_goals (with_reducible repeat' first | assumption | rfl | apply agree_ite | apply agree_ite_st | apply agree_ite_snd | apply agree_busError)

theorem agree_busRead {P : List Part} {s0 : State} (m : Master) (a : Nat) {s : State} (h_hlt : Part.hlt ∈ P) (h_out : Part.out ∈ P) (h_regs : Part.regs ∈ P) (hk : Agree P s0 s) :
    Agree P s0 (busRead m a s).2.2 := by
  unfold busRead
  try dsimp only
  all_goals (with_reducible repeat' first | assumption | rfl | apply agree_ite | apply agree_ite_st | apply agree_ite_snd | apply agree_answered | apply agree_wf | split)

end Sys2Proof.Machine
end

