-- ==== Sys2Proof/Laws/AgreeMailbox.lean ====
section
/-! SUPPORT. What the operations of Machine/Mailbox leave alone (Laws/Agree). -/

namespace Sys2Proof.Machine

theorem agree_trainNext {P : List Part} {s0 : State} {s : State} (h_cmx : Part.cmx ∈ P) (h_mem : Part.mem ∈ P) (h_out : Part.out ∈ P) (h_regs : Part.regs ∈ P) (hk : Agree P s0 s) :
    Agree P s0 (trainNext s) := by
  unfold trainNext
  try dsimp only
  all_goals (with_reducible repeat' first | assumption | rfl | apply agree_setStack | apply agree_stepEnds | split | refine agree_snd ?_ (by assumption) | refine agree_snd2 ?_ (by assumption) | refine agree_st ?_ (by assumption) | refine agree_get ?_ (by assumption) | refine agree_get2 ?_ (by assumption) | apply agree_with_cmx | apply agree_with_mem)

theorem agree_trainGoesOn {P : List Part} {s0 : State} (n : Nat) (m : Nat) {s : State} (h_atl : Part.atl ∈ P) (h_cmx : Part.cmx ∈ P) (h_hlt : Part.hlt ∈ P) (h_mem : Part.mem ∈ P) (h_out : Part.out ∈ P) (h_regs : Part.regs ∈ P) (hk : Agree P s0 s) :
    Agree P s0 (trainGoesOn n m s) := by
  unfold trainGoesOn
  try dsimp only
  all_goals (with_reducible repeat' first | assumption | rfl | apply agree_ite | apply agree_ite_st | apply agree_ite_snd | apply agree_trainDone | apply agree_trainNext | split | refine agree_snd ?_ (by assumption) | refine agree_snd2 ?_ (by assumption) | refine agree_st ?_ (by assumption) | refine agree_get ?_ (by assumption) | refine agree_get2 ?_ (by assumption) | apply agree_with_cmx)

theorem agree_pollSelect {P : List Part} {s0 : State} {s : State} (h_cmx : Part.cmx ∈ P) (h_out : Part.out ∈ P) (h_regs : Part.regs ∈ P) (hk : Agree P s0 s) :
    Agree P s0 (pollSelect s) := by
  unfold pollSelect
  try dsimp only
  all_goals (with_reducible repeat' first | assumption | rfl | apply agree_ite | apply agree_ite_st | apply agree_ite_snd | apply agree_mboxDone | (intro _ _ _) | (intro _ _) | split)

theorem agree_pollStop {P : List Part} {s0 : State} {s : State} (h_cmx : Part.cmx ∈ P) (h_out : Part.out ∈ P) (h_regs : Part.regs ∈ P) (hk : Agree P s0 s) :
    Agree P s0 (pollStop s) := by
  unfold pollStop
  try dsimp only
  all_goals (with_reducible repeat' first | assumption | rfl | apply agree_ite | apply agree_ite_st | apply agree_ite_snd | apply agree_mboxDone | split)

theorem agree_pollEpoch {P : List Part} {s0 : State} (made : Nat → Bool) {s : State} (h_cmx : Part.cmx ∈ P) (h_out : Part.out ∈ P) (h_regs : Part.regs ∈ P) (hk : Agree P s0 s) :
    Agree P s0 (pollEpoch made s) := by
  unfold pollEpoch
  try dsimp only
  all_goals (with_reducible repeat' first | assumption | rfl | apply agree_ite | apply agree_ite_st | apply agree_ite_snd | apply agree_mboxDone | split)

theorem agree_mboxPoll {P : List Part} {s0 : State} {s : State} (h_cmx : Part.cmx ∈ P) (h_out : Part.out ∈ P) (h_regs : Part.regs ∈ P) (hk : Agree P s0 s) :
    Agree P s0 (mboxPoll s) := by
  unfold mboxPoll
  try dsimp only
  all_goals (with_reducible repeat' first | assumption | rfl | apply agree_ite | apply agree_ite_st | apply agree_ite_snd | apply agree_pollEpoch | apply agree_pollSelect | apply agree_pollStop)

theorem agree_mboxPollEdge {P : List Part} {s0 : State} {s : State} (h_cmx : Part.cmx ∈ P) (h_out : Part.out ∈ P) (h_regs : Part.regs ∈ P) (hk : Agree P s0 s) :
    Agree P s0 (mboxPollEdge s) := by
  unfold mboxPollEdge
  try dsimp only
  all_goals (with_reducible repeat' first | assumption | rfl | apply agree_ite | apply agree_ite_st | apply agree_ite_snd | apply agree_pollEpoch | apply agree_pollSelect | apply agree_pollStop)

theorem agree_execInternalPpsEdge {P : List Part} {s0 : State} {s : State} (h_acc : Part.acc ∈ P) (h_brg : Part.brg ∈ P) (h_chn : Part.chn ∈ P) (h_cmx : Part.cmx ∈ P) (h_dec : Part.dec ∈ P) (h_grt : Part.grt ∈ P) (h_hlt : Part.hlt ∈ P) (h_mer : Part.mer ∈ P) (h_out : Part.out ∈ P) (h_regs : Part.regs ∈ P) (h_rsy : Part.rsy ∈ P) (h_stg : Part.stg ∈ P) (h_svy : Part.svy ∈ P) (h_tim : Part.tim ∈ P) (h_trp : Part.trp ∈ P) (h_tru : Part.tru ∈ P) (h_wm : Part.wm ∈ P) (h_xar : Part.xar ∈ P) (hk : Agree P s0 s) :
    ∀ t, execInternalPpsEdge s = .next t → Agree P s0 t := by
  intro t ht
  unfold execInternalPpsEdge at ht
  try dsimp only at ht
  all_goals (repeat' first | (cases ht) | split at ht)
  all_goals (with_reducible repeat' first | assumption | rfl | apply agree_internalEdge | apply agree_mboxPollEdge)

theorem agree_execBuildoutLatch {P : List Part} {s0 : State} (steps : BitVec 40) {s : State} (h_cmx : Part.cmx ∈ P) (h_hlt : Part.hlt ∈ P) (h_mer : Part.mer ∈ P) (h_out : Part.out ∈ P) (h_regs : Part.regs ∈ P) (hk : Agree P s0 s) :
    ∀ t, execBuildoutLatch steps s = .next t → Agree P s0 t := by
  intro t ht
  unfold execBuildoutLatch at ht
  try dsimp only at ht
  all_goals (repeat' first | (cases ht) | split at ht)
  all_goals (with_reducible repeat' first | assumption | rfl | apply agree_buildoutLatch | apply agree_mboxPoll)

theorem agree_execRefSecond {P : List Part} {s0 : State} (a : RefMeas) (b : RefMeas) (c : RefMeas) (d : RefMeas) (twin : RefMeas) (y : Int) (phase : Int) {s : State} (h_cmx : Part.cmx ∈ P) (h_hlt : Part.hlt ∈ P) (h_mer : Part.mer ∈ P) (h_out : Part.out ∈ P) (h_regs : Part.regs ∈ P) (hk : Agree P s0 s) :
    ∀ t, execRefSecond a b c d twin y phase s = .next t → Agree P s0 t := by
  intro t ht
  unfold execRefSecond at ht
  try dsimp only at ht
  all_goals (repeat' first | (cases ht) | split at ht)
  all_goals (with_reducible repeat' first | assumption | rfl | apply agree_mboxPoll | apply agree_refSeconds)

theorem agree_execRefEdgeLoss {P : List Part} {s0 : State} (entry : Fin 5) (companion : Bool) {s : State} (h_cmx : Part.cmx ∈ P) (h_hlt : Part.hlt ∈ P) (h_mer : Part.mer ∈ P) (h_out : Part.out ∈ P) (h_regs : Part.regs ∈ P) (hk : Agree P s0 s) :
    ∀ t, execRefEdgeLoss entry companion s = .next t → Agree P s0 t := by
  intro t ht
  unfold execRefEdgeLoss at ht
  try dsimp only at ht
  all_goals (repeat' first | (cases ht) | split at ht)
  all_goals (with_reducible repeat' first | assumption | rfl | apply agree_edgeLoss | apply agree_mboxPoll)

theorem agree_execCoreStopComplete {P : List Part} {s0 : State} (core : Fin 8) {s : State} (h_cmx : Part.cmx ∈ P) (h_hlt : Part.hlt ∈ P) (h_out : Part.out ∈ P) (h_regs : Part.regs ∈ P) (h_svy : Part.svy ∈ P) (hk : Agree P s0 s) :
    ∀ t, execCoreStopComplete core s = .next t → Agree P s0 t := by
  intro t ht
  unfold execCoreStopComplete at ht
  try dsimp only at ht
  all_goals (repeat' first | (cases ht) | split at ht)
  all_goals (with_reducible repeat' first | assumption | rfl | apply agree_mboxPoll | apply agree_svyStopDone)

theorem agree_execTrainComplete {P : List Part} {s0 : State} (pc : Fin 64) (margin : BitVec 16) {s : State} (h_atl : Part.atl ∈ P) (h_cmx : Part.cmx ∈ P) (h_hlt : Part.hlt ∈ P) (h_lns : Part.lns ∈ P) (h_mem : Part.mem ∈ P) (h_out : Part.out ∈ P) (h_regs : Part.regs ∈ P) (h_trp : Part.trp ∈ P) (hk : Agree P s0 s) :
    ∀ t, execTrainComplete pc margin s = .next t → Agree P s0 t := by
  intro t ht
  unfold execTrainComplete at ht
  try dsimp only at ht
  all_goals (repeat' first | (cases ht) | split at ht)
  all_goals (with_reducible repeat' first | assumption | rfl | apply agree_modeSettle | apply agree_trainGoesOn)

theorem agree_execFlashProgramEnd {P : List Part} {s0 : State} (good : Bool) {s : State} (h_cmx : Part.cmx ∈ P) (h_out : Part.out ∈ P) (h_regs : Part.regs ∈ P) (h_tru : Part.tru ∈ P) (hk : Agree P s0 s) :
    ∀ t, execFlashProgramEnd good s = .next t → Agree P s0 t := by
  intro t ht
  unfold execFlashProgramEnd at ht
  try dsimp only at ht
  all_goals (repeat' first | (cases ht) | split at ht)
  all_goals (with_reducible repeat' first | assumption | rfl | apply agree_programEnd)

end Sys2Proof.Machine
end

