-- ==== Sys2Proof/Laws/AgreePorts.lean ====
section
/-! SUPPORT. What the operations of Machine/Ports leave alone (Laws/Agree). -/

namespace Sys2Proof.Machine

theorem agree_pcieConfig {P : List Part} {s0 : State} (early : Bool) (bars : Option Bool) (msix : Option Bool) {s : State} (h_cmx : Part.cmx ∈ P) (h_out : Part.out ∈ P) (h_regs : Part.regs ∈ P) (hk : Agree P s0 s) :
    Agree P s0 (pcieConfig early bars msix s) := by
  unfold pcieConfig
  try dsimp only
  all_goals (with_reducible repeat' first | assumption | rfl | apply agree_ite | apply agree_ite_st | apply agree_ite_snd | apply agree_emit | apply agree_msixFlush | apply agree_wf | split | refine agree_snd ?_ (by assumption) | refine agree_snd2 ?_ (by assumption) | refine agree_st ?_ (by assumption) | refine agree_get ?_ (by assumption) | refine agree_get2 ?_ (by assumption) | apply agree_with_cmx)

theorem agree_bar2Error {P : List Part} {s0 : State} (a : Nat) (cause : Nat) (write : Bool) {s : State} (h_hlt : Part.hlt ∈ P) (h_out : Part.out ∈ P) (h_regs : Part.regs ∈ P) (hk : Agree P s0 s) :
    Agree P s0 (bar2Error a cause write s) := by
  unfold bar2Error
  try dsimp only
  all_goals (with_reducible repeat' first | assumption | rfl | apply agree_inc | apply agree_raise)

theorem agree_bar2Read {P : List Part} {s0 : State} (a : Nat) (n : Nat) {s : State} (h_hlt : Part.hlt ∈ P) (h_mem : Part.mem ∈ P) (h_out : Part.out ∈ P) (h_regs : Part.regs ∈ P) (hk : Agree P s0 s) :
    Agree P s0 (bar2Read a n s) := by
  unfold bar2Read
  try dsimp only
  all_goals (with_reducible repeat' first | assumption | rfl | apply agree_ite | apply agree_ite_st | apply agree_ite_snd | apply agree_bar2Error | apply agree_emit | apply agree_hbmGet)

theorem agree_bar2Write {P : List Part} {s0 : State} (a : Nat) (bs : List Byte) {s : State} (h_hbm : Part.hbm ∈ P) (h_hlt : Part.hlt ∈ P) (h_mem : Part.mem ∈ P) (h_out : Part.out ∈ P) (h_regs : Part.regs ∈ P) (hk : Agree P s0 s) :
    Agree P s0 (bar2Write a bs s) := by
  unfold bar2Write
  have h := agree_hbmPut 5 a bs h_hbm h_hlt h_mem h_out h_regs hk
  generalize hbmPut 5 a bs s = p at h ⊢
  obtain ⟨ok, t⟩ := p
  have h2 : Agree P s0 { t with hbm := s.hbm, mem := { t.mem with ecc := s.mem.ecc } } :=
    agree_step h (fun p hp => by cases p <;> first | exact absurd h_hbm hp | exact absurd h_mem hp | rfl)
  have e : ∀ x y z {w : State}, Agree P s0 w → Agree P s0 (bar2Error x y z w) := fun x y z w hw => agree_bar2Error x y z h_hlt h_out h_regs hw
  exact agree_ite hk (agree_ite (e _ _ _ hk) (agree_ite (e _ _ _ hk) (agree_ite (e _ _ _ hk) (agree_ite h (e _ _ _ h2)))))

theorem agree_mgtPacket {P : List Part} {s0 : State} (p : MgtPkt) {s : State} (h_out : Part.out ∈ P) (hk : Agree P s0 s) :
    Agree P s0 (mgtPacket p s) := by
  unfold mgtPacket
  try dsimp only
  all_goals (with_reducible repeat' first | assumption | rfl | apply agree_ite | apply agree_ite_st | apply agree_ite_snd | apply agree_emit | split)

theorem agree_smbReadWord {P : List Part} {s0 : State} (a : Nat) {s : State} (h_out : Part.out ∈ P) (hk : Agree P s0 s) :
    Agree P s0 (smbReadWord a s) := by
  unfold smbReadWord
  try dsimp only
  all_goals (with_reducible repeat' first | assumption | rfl | apply agree_ite | apply agree_ite_st | apply agree_ite_snd | apply agree_emit)

theorem agree_smbBlockRead {P : List Part} {s0 : State} (a : Nat) {s : State} (h_out : Part.out ∈ P) (hk : Agree P s0 s) :
    Agree P s0 (smbBlockRead a s) := by
  unfold smbBlockRead
  try dsimp only
  all_goals (with_reducible repeat' first | assumption | rfl | apply agree_ite | apply agree_ite_st | apply agree_ite_snd | apply agree_emit)

theorem agree_avsStep {P : List Part} {s0 : State} {s : State} (h_hlt : Part.hlt ∈ P) (h_out : Part.out ∈ P) (h_regs : Part.regs ∈ P) (hk : Agree P s0 s) :
    Agree P s0 (avsStep s) := by
  unfold avsStep
  try dsimp only
  all_goals (with_reducible repeat' first | assumption | rfl | apply agree_ite | apply agree_ite_st | apply agree_ite_snd | apply agree_setVout)

theorem agree_pmbusPoll {P : List Part} {s0 : State} (fault : Option (BitVec 8 × Nat)) (v : Nat) (i : Nat) (st : Nat) {s : State} (h_hlt : Part.hlt ∈ P) (h_out : Part.out ∈ P) (h_regs : Part.regs ∈ P) (hk : Agree P s0 s) :
    Agree P s0 (pmbusPoll fault v i st s) := by
  unfold pmbusPoll
  try dsimp only
  all_goals (with_reducible repeat' first | assumption | rfl | apply agree_ite | apply agree_ite_st | apply agree_ite_snd | apply agree_avsStep | apply agree_raise | apply agree_setReg | split)

theorem agree_tapLoad {P : List Part} {s0 : State} (i : TapInstr) {s : State} (h_cmx : Part.cmx ∈ P) (h_out : Part.out ∈ P) (hk : Agree P s0 s) :
    Agree P s0 (tapLoad i s) := by
  unfold tapLoad
  try dsimp only
  all_goals (with_reducible repeat' first | assumption | rfl | apply agree_emit | split | refine agree_snd ?_ (by assumption) | refine agree_snd2 ?_ (by assumption) | refine agree_st ?_ (by assumption) | refine agree_get ?_ (by assumption) | refine agree_get2 ?_ (by assumption) | apply agree_with_cmx)

theorem agree_execPcieConfigRequest {P : List Part} {s0 : State} (early : Bool) (bars : Option Bool) (msix : Option Bool) {s : State} (h_cmx : Part.cmx ∈ P) (h_out : Part.out ∈ P) (h_regs : Part.regs ∈ P) (hk : Agree P s0 s) :
    ∀ t, execPcieConfigRequest early bars msix s = .next t → Agree P s0 t := by
  intro t ht
  unfold execPcieConfigRequest at ht
  try dsimp only at ht
  all_goals (repeat' first | (cases ht) | split at ht)
  all_goals (with_reducible repeat' first | assumption | rfl | apply agree_pcieConfig)

theorem agree_execBar2Read {P : List Part} {s0 : State} (addr : BitVec 36) (len : Fin 4097) {s : State} (h_hlt : Part.hlt ∈ P) (h_mem : Part.mem ∈ P) (h_out : Part.out ∈ P) (h_regs : Part.regs ∈ P) (hk : Agree P s0 s) :
    ∀ t, execBar2Read addr len s = .next t → Agree P s0 t := by
  intro t ht
  unfold execBar2Read at ht
  try dsimp only at ht
  all_goals (repeat' first | (cases ht) | split at ht)
  all_goals (with_reducible repeat' first | assumption | rfl | apply agree_bar2Read)

theorem agree_execBar2Write {P : List Part} {s0 : State} (addr : BitVec 36) (data : List Byte) {s : State} (h_hbm : Part.hbm ∈ P) (h_hlt : Part.hlt ∈ P) (h_mem : Part.mem ∈ P) (h_out : Part.out ∈ P) (h_regs : Part.regs ∈ P) (hk : Agree P s0 s) :
    ∀ t, execBar2Write addr data s = .next t → Agree P s0 t := by
  intro t ht
  unfold execBar2Write at ht
  try dsimp only at ht
  all_goals (repeat' first | (cases ht) | split at ht)
  all_goals (with_reducible repeat' first | assumption | rfl | apply agree_bar2Write)

theorem agree_execMgtPacketRx {P : List Part} {s0 : State} (pkt : MgtPkt) {s : State} (h_out : Part.out ∈ P) (hk : Agree P s0 s) :
    ∀ t, execMgtPacketRx pkt s = .next t → Agree P s0 t := by
  intro t ht
  unfold execMgtPacketRx at ht
  try dsimp only at ht
  all_goals (repeat' first | (cases ht) | split at ht)
  all_goals (with_reducible repeat' first | assumption | rfl | apply agree_mgtPacket)

theorem agree_execSmbReadWord {P : List Part} {s0 : State} (addr : BitVec 7) {s : State} (h_out : Part.out ∈ P) (hk : Agree P s0 s) :
    ∀ t, execSmbReadWord addr s = .next t → Agree P s0 t := by
  intro t ht
  unfold execSmbReadWord at ht
  try dsimp only at ht
  all_goals (repeat' first | (cases ht) | split at ht)
  all_goals (with_reducible repeat' first | assumption | rfl | apply agree_smbReadWord)

theorem agree_execSmbBlockRead {P : List Part} {s0 : State} (addr : BitVec 7) {s : State} (h_out : Part.out ∈ P) (hk : Agree P s0 s) :
    ∀ t, execSmbBlockRead addr s = .next t → Agree P s0 t := by
  intro t ht
  unfold execSmbBlockRead at ht
  try dsimp only at ht
  all_goals (repeat' first | (cases ht) | split at ht)
  all_goals (with_reducible repeat' first | assumption | rfl | apply agree_smbBlockRead)

theorem agree_execPmbusPoll {P : List Part} {s0 : State} (failed : Option (BitVec 8 × Bool)) (vout : BitVec 10) (iout : BitVec 20) (status : BitVec 16) {s : State} (h_hlt : Part.hlt ∈ P) (h_out : Part.out ∈ P) (h_regs : Part.regs ∈ P) (hk : Agree P s0 s) :
    ∀ t, execPmbusPoll failed vout iout status s = .next t → Agree P s0 t := by
  intro t ht
  unfold execPmbusPoll at ht
  try dsimp only at ht
  all_goals (repeat' first | (cases ht) | split at ht)
  all_goals (with_reducible repeat' first | assumption | rfl | apply agree_pmbusPoll)

theorem agree_execTapInstruction {P : List Part} {s0 : State} (instruction : TapInstr) {s : State} (h_cmx : Part.cmx ∈ P) (h_out : Part.out ∈ P) (hk : Agree P s0 s) :
    ∀ t, execTapInstruction instruction s = .next t → Agree P s0 t := by
  intro t ht
  unfold execTapInstruction at ht
  try dsimp only at ht
  all_goals (repeat' first | (cases ht) | split at ht)
  all_goals (with_reducible repeat' first | assumption | rfl | apply agree_tapLoad)

end Sys2Proof.Machine
end

