-- ==== Sys2Proof/Laws/AgreeProgress.lean ====
section
/-! SUPPORT. What the operations of Machine/Progress leave alone (Laws/Agree). -/

namespace Sys2Proof.Machine

theorem agree_budgetPeriod {P : List Part} {s0 : State} (count : Nat) (us : List Use) (peerAct : Bool) {s : State} (h_acc : Part.acc ∈ P) (h_atl : Part.atl ∈ P) (h_cad : Part.cad ∈ P) (h_cmx : Part.cmx ∈ P) (h_frm : Part.frm ∈ P) (h_hlt : Part.hlt ∈ P) (h_out : Part.out ∈ P) (h_regs : Part.regs ∈ P) (h_trp : Part.trp ∈ P) (hk : Agree P s0 s) :
    Agree P s0 (budgetPeriod count us peerAct s) := by
  unfold budgetPeriod
  try dsimp only
  all_goals (with_reducible repeat' first | assumption | rfl | apply agree_cadPeriod | apply agree_fabricPeriod | apply agree_mboxPoll | apply agree_periodCommit | apply agree_twinPeriod | split | refine agree_snd ?_ (by assumption) | refine agree_snd2 ?_ (by assumption) | refine agree_st ?_ (by assumption) | refine agree_get ?_ (by assumption) | refine agree_get2 ?_ (by assumption) | apply agree_with_atl)

theorem agree_piLoad {P : List Part} {s0 : State} (c : Nat) (w : Nat) {s : State} (h_acc : Part.acc ∈ P) (h_atl : Part.atl ∈ P) (h_frm : Part.frm ∈ P) (h_hlt : Part.hlt ∈ P) (h_out : Part.out ∈ P) (h_regs : Part.regs ∈ P) (h_svy : Part.svy ∈ P) (hk : Agree P s0 s) :
    Agree P s0 (piLoad c w s) := by
  unfold piLoad
  try dsimp only
  all_goals (with_reducible repeat' first | assumption | rfl | apply agree_ite | apply agree_ite_st | apply agree_ite_snd | apply agree_State_setScore | apply agree_busRead | apply agree_svyFault | apply agree_svyNext)

theorem agree_domainLeaves {P : List Part} {s0 : State} (d : Nat) {s : State} (h_hlt : Part.hlt ∈ P) (h_out : Part.out ∈ P) (h_regs : Part.regs ∈ P) (h_tim : Part.tim ∈ P) (hk : Agree P s0 s) :
    Agree P s0 (domainLeaves d s) := by
  unfold domainLeaves
  try dsimp only
  all_goals (with_reducible repeat' first | assumption | rfl | apply agree_ite | apply agree_ite_st | apply agree_ite_snd | apply agree_ptpMessage)

theorem agree_slewEnd {P : List Part} {s0 : State} {s : State} (h_mer : Part.mer ∈ P) (h_regs : Part.regs ∈ P) (hk : Agree P s0 s) :
    Agree P s0 (slewEnd s) := by
  unfold slewEnd
  try dsimp only
  all_goals (with_reducible repeat' first | assumption | rfl | apply agree_ite | apply agree_ite_st | apply agree_ite_snd | apply agree_setReg64 | apply agree_wf | split | refine agree_snd ?_ (by assumption) | refine agree_snd2 ?_ (by assumption) | refine agree_st ?_ (by assumption) | refine agree_get ?_ (by assumption) | refine agree_get2 ?_ (by assumption) | apply agree_with_mer)

theorem agree_execPlanLoad {P : List Part} {s0 : State} (core : Fin 8) {s : State} (h_acc : Part.acc ∈ P) (h_atl : Part.atl ∈ P) (h_frm : Part.frm ∈ P) (h_hlt : Part.hlt ∈ P) (h_out : Part.out ∈ P) (h_regs : Part.regs ∈ P) (h_svy : Part.svy ∈ P) (hk : Agree P s0 s) :
    ∀ t, execPlanLoad core s = .next t → Agree P s0 t := by
  intro t ht
  unfold execPlanLoad at ht
  grind [agree_piLoad, agree_svyExec]

theorem agree_execBudgetPeriod {P : List Part} {s0 : State} (count : Nat) (uses : List Use) (peerAct : Bool) {s : State} (h_acc : Part.acc ∈ P) (h_atl : Part.atl ∈ P) (h_cad : Part.cad ∈ P) (h_cmx : Part.cmx ∈ P) (h_frm : Part.frm ∈ P) (h_hlt : Part.hlt ∈ P) (h_out : Part.out ∈ P) (h_regs : Part.regs ∈ P) (h_trp : Part.trp ∈ P) (hk : Agree P s0 s) :
    ∀ t, execBudgetPeriod count uses peerAct s = .next t → Agree P s0 t := by
  intro t ht
  unfold execBudgetPeriod at ht
  grind [agree_budgetPeriod, agree_unlessOff]

theorem agree_execDomainLeavesSlave {P : List Part} {s0 : State} (domain : Fin 2) {s : State} (h_hlt : Part.hlt ∈ P) (h_out : Part.out ∈ P) (h_regs : Part.regs ∈ P) (h_tim : Part.tim ∈ P) (hk : Agree P s0 s) :
    ∀ t, execDomainLeavesSlave domain s = .next t → Agree P s0 t := by
  intro t ht
  unfold execDomainLeavesSlave at ht
  try dsimp only at ht
  all_goals (repeat' first | (cases ht) | split at ht)
  all_goals (with_reducible repeat' first | assumption | rfl | apply agree_domainLeaves)

theorem agree_execEvtOutPulse {P : List Part} {s0 : State} (output : Fin 4) {s : State} (h_out : Part.out ∈ P) (h_regs : Part.regs ∈ P) (h_tim : Part.tim ∈ P) (hk : Agree P s0 s) :
    ∀ t, execEvtOutPulse output s = .next t → Agree P s0 t := by
  intro t ht
  unfold execEvtOutPulse at ht
  try dsimp only at ht
  all_goals (repeat' first | (cases ht) | split at ht)
  all_goals (with_reducible repeat' first | assumption | rfl | apply agree_ite | apply agree_ite_st | apply agree_ite_snd | apply agree_evtTick)

theorem agree_execSlewEnd {P : List Part} {s0 : State} {s : State} (h_mer : Part.mer ∈ P) (h_regs : Part.regs ∈ P) (hk : Agree P s0 s) :
    ∀ t, execSlewEnd s = .next t → Agree P s0 t := by
  intro t ht
  unfold execSlewEnd at ht
  try dsimp only at ht
  all_goals (repeat' first | (cases ht) | split at ht)
  all_goals (with_reducible repeat' first | assumption | rfl | apply agree_slewEnd)

end Sys2Proof.Machine
end

