-- ==== Sys2Proof/Laws/Events.lean ====
section
/-! SUPPORT. What raising an event does to the registers and to the rest of the state. -/

namespace Sys2Proof.Machine

variable (s : State)

theorem reg_sendVector (u x : Nat) (hx : ¬(0x12011000 ≤ x ∧ x < 0x12012000)) : (sendVector u s).reg x = s.reg x := by
  unfold sendVector
  split
  · rfl
  · dsimp only
    split
    · rw [reg_setReg, if_neg]
      have h : s.rf (CMX_INT_ROUTE_VECTOR u) < 256 := bits_lt _ _ 8
      unfold CMX_MSIX_PBA
      omega
    · rfl

theorem reg_withIrq (u x : Nat) (f : State → State) (hx : ¬(0x12011000 ≤ x ∧ x < 0x12012000)) : (withIrq u f s).reg x = (f s).reg x := by
  unfold withIrq
  dsimp only
  split
  · exact reg_sendVector _ _ _ hx
  · rfl

theorem reg_queueRec (r : LogRec) (x : Nat) (hx : x ≠ HLT_LOG_LOST) : (queueRec r s).reg x = s.reg x := by
  have e : ∀ (t : State) v, (t.wf HLT_LOG_LOST_DROPPED v).reg x = t.reg x := fun t v => reg_wf_other _ hx
  unfold queueRec
  split
  · rfl
  · dsimp only
    split
    · exact e _ _
    · split
      · exact e _ _
      · exact e _ _

theorem reg_countAat (code x : Nat) : (countAat code s).reg x = s.reg x := by
  unfold countAat
  refine foldS_same (fun t : State => t.reg x) _ _ s (fun a t => ?_)
  dsimp only
  split
  · split <;> rfl
  · rfl

/-- An event shows nowhere else. -/
theorem reg_raise (e : Ev) (a b x : Nat) (hx : ¬shows (e.code / 256) x) : (raise e a b s).reg x = s.reg x := by
  simp only [shows, not_or] at hx
  unfold raise
  have h : ∀ r t, (queueRec r t).reg x = t.reg x := fun r t => reg_queueRec t r x hx.2.2
  dsimp only
  split
  · rw [h, reg_countAat, reg_withIrq _ _ _ _ hx.2.1, reg_setReg_other _ hx.1]
  · rw [reg_countAat, reg_withIrq _ _ _ _ hx.2.1, reg_setReg_other _ hx.1]

theorem rf_raise (e : Ev) (a b : Nat) (f : Field) (hx : ¬shows (e.code / 256) f.addr) : (raise e a b s).rf f = s.rf f := by
  unfold State.rf; rw [reg_raise _ _ _ _ _ hx]

theorem testBit_or_lt (n b : Nat) (h : b < 32) : bit ((n ||| 2 ^ b) % 2 ^ 32) b = true := by
  unfold bit
  have : ((n ||| 2 ^ b) % 2 ^ 32).testBit b = true := by
    rw [Nat.testBit_mod_two_pow, Nat.testBit_or, Nat.testBit_two_pow_self]; simp [h]
  rw [Nat.testBit_eq_decide_div_mod_eq] at this
  rw [Nat.shiftRight_eq_div_pow]
  simpa using this

/-- The unit's bit of an event stands after it is raised (R14). -/
theorem raise_sets (e : Ev) (a b u k : Nat) (hu : e.code / 256 = u) (hk : e.code % 256 - 1 = k) (hk2 : k < 32) (h20 : u ≤ 20) :
    bit ((raise e a b s).reg (UNIT_EVENT u)) k = true := by
  have h1 : ¬(0x12011000 ≤ UNIT_EVENT u ∧ UNIT_EVENT u < 0x12012000) := by unfold UNIT_EVENT; omega
  have h2 : UNIT_EVENT u ≠ HLT_LOG_LOST := by unfold UNIT_EVENT HLT_LOG_LOST; omega
  unfold raise
  have h : ∀ r t, (queueRec r t).reg (UNIT_EVENT u) = t.reg (UNIT_EVENT u) := fun r t => reg_queueRec t r _ h2
  subst hu hk
  dsimp only
  split
  · rw [h, reg_countAat, reg_withIrq _ _ _ _ h1, reg_setReg_same]; exact testBit_or_lt _ _ hk2
  · rw [reg_countAat, reg_withIrq _ _ _ _ h1, reg_setReg_same]; exact testBit_or_lt _ _ hk2

/-- What raising an event leaves alone, part by part. -/
theorem raise_same (e : Ev) (a b : Nat) (p : Part) (hp : p ∉ [Part.regs, Part.hlt, Part.out]) : same p s (raise e a b s) :=
  (agree_raise (P := [Part.regs, Part.hlt, Part.out]) e a b (by decide) (by decide) (by decide) agree_refl).out p hp

@[simp] theorem raise_lns (e : Ev) (a b : Nat) : (raise e a b s).lns = s.lns := raise_same s e a b .lns (by decide)
@[simp] theorem raise_frm (e : Ev) (a b : Nat) : (raise e a b s).frm = s.frm := raise_same s e a b .frm (by decide)
@[simp] theorem raise_dec (e : Ev) (a b : Nat) : (raise e a b s).dec = s.dec := raise_same s e a b .dec (by decide)
@[simp] theorem raise_cad (e : Ev) (a b : Nat) : (raise e a b s).cad = s.cad := raise_same s e a b .cad (by decide)
@[simp] theorem raise_wm (e : Ev) (a b : Nat) : (raise e a b s).wm = s.wm := raise_same s e a b .wm (by decide)
@[simp] theorem raise_chn (e : Ev) (a b : Nat) : (raise e a b s).chn = s.chn := raise_same s e a b .chn (by decide)
@[simp] theorem raise_grt (e : Ev) (a b : Nat) : (raise e a b s).grt = s.grt := raise_same s e a b .grt (by decide)
@[simp] theorem raise_stg (e : Ev) (a b : Nat) : (raise e a b s).stg = s.stg := raise_same s e a b .stg (by decide)
@[simp] theorem raise_trp (e : Ev) (a b : Nat) : (raise e a b s).trp = s.trp := raise_same s e a b .trp (by decide)
@[simp] theorem raise_svy (e : Ev) (a b : Nat) : (raise e a b s).svy = s.svy := raise_same s e a b .svy (by decide)
@[simp] theorem raise_mem (e : Ev) (a b : Nat) : (raise e a b s).mem = s.mem := raise_same s e a b .mem (by decide)
@[simp] theorem raise_brg (e : Ev) (a b : Nat) : (raise e a b s).brg = s.brg := raise_same s e a b .brg (by decide)
@[simp] theorem raise_tru (e : Ev) (a b : Nat) : (raise e a b s).tru = s.tru := raise_same s e a b .tru (by decide)
@[simp] theorem raise_atl (e : Ev) (a b : Nat) : (raise e a b s).atl = s.atl := raise_same s e a b .atl (by decide)
@[simp] theorem raise_xar (e : Ev) (a b : Nat) : (raise e a b s).xar = s.xar := raise_same s e a b .xar (by decide)
@[simp] theorem raise_acc (e : Ev) (a b : Nat) : (raise e a b s).acc = s.acc := raise_same s e a b .acc (by decide)
@[simp] theorem raise_rsy (e : Ev) (a b : Nat) : (raise e a b s).rsy = s.rsy := raise_same s e a b .rsy (by decide)
@[simp] theorem raise_cmx (e : Ev) (a b : Nat) : (raise e a b s).cmx = s.cmx := raise_same s e a b .cmx (by decide)
@[simp] theorem raise_mer (e : Ev) (a b : Nat) : (raise e a b s).mer = s.mer := raise_same s e a b .mer (by decide)
@[simp] theorem raise_tim (e : Ev) (a b : Nat) : (raise e a b s).tim = s.tim := raise_same s e a b .tim (by decide)
@[simp] theorem raise_pending (e : Ev) (a b : Nat) : (raise e a b s).pending = s.pending := raise_same s e a b .pending (by decide)

end Sys2Proof.Machine
end

