-- ==== Sys2Proof/Laws/Rows.lean ====
section
/-! SUPPORT. Every register row of the opcode table, carried out at once: the unit's own rule acts on the register's implemented bits, and the response
leaves. -/

namespace Sys2Proof.Machine

/-! The rows of the register map that the commands reach. -/

theorem look1 :
    (∀ (octet : Fin 12), (unitRegs 1).find? (fun d => d.covers (0x100 + 4 * octet.val)) = some ⟨0x100, 0x4, 12, 1, .rw, 0x0, 0x7, 0x7⟩) ∧
    ((unitRegs 1).find? (fun d => d.covers 0x18) = some ⟨0x18, 0x1000000, 1, 1, .rw, 0x0, 0x1FFF, 0x1FFF⟩) ∧
    (∀ (lane : Fin 96), (unitRegs 1).find? (fun d => d.covers (0x100C + 64 * lane.val)) = some ⟨0x100C, 0x40, 96, 1, .rw, 0x604, 0xF0F, 0xF0F⟩) ∧
    (∀ (lane : Fin 96), (unitRegs 1).find? (fun d => d.covers (0x1000 + 64 * lane.val)) = some ⟨0x1000, 0x40, 96, 1, .rw, 0x0, 0xFF09, 0xFF0F⟩) ∧
    ((unitRegs 1).find? (fun d => d.covers 0x144) = some ⟨0x144, 0x1000000, 1, 1, .wo, 0x0, 0x0, 0xFFFFFFFF⟩) := by decide +kernel

theorem look2 :
    ((unitRegs 2).find? (fun d => d.covers 0x18) = some ⟨0x18, 0x1000000, 1, 1, .rw, 0x0, 0x7, 0x7⟩) ∧
    (∀ (port : Fin 8), (unitRegs 2).find? (fun d => d.covers (0x5000 + 256 * port.val)) = some ⟨0x5000, 0x100, 8, 1, .rw, 0x24000000, 0x3FFF001F, 0x3FFF001F⟩) ∧
    ((unitRegs 2).find? (fun d => d.covers 0x108) = some ⟨0x108, 0x1000000, 1, 1, .wo, 0x0, 0x0, 0xFFFFFFFF⟩) := by decide +kernel

theorem look3 :
    ((unitRegs 3).find? (fun d => d.covers 0x18) = some ⟨0x18, 0x1000000, 1, 1, .rw, 0x401, 0x1F7F, 0x1F7F⟩) ∧
    ((unitRegs 3).find? (fun d => d.covers 0x108) = some ⟨0x108, 0x1000000, 1, 1, .wo, 0x0, 0x0, 0xFFFFFFFF⟩) ∧
    ((unitRegs 3).find? (fun d => d.covers 0x110) = some ⟨0x110, 0x1000000, 1, 1, .wo, 0x0, 0x0, 0xFFFFFFFF⟩) := by decide +kernel

theorem look4 :
    ((unitRegs 4).find? (fun d => d.covers 0x18) = some ⟨0x18, 0x1000000, 1, 1, .rw, 0x10E080C, 0x11F7F1F, 0x11F7F1F⟩) ∧
    ((unitRegs 4).find? (fun d => d.covers 0x110) = some ⟨0x110, 0x1000000, 1, 1, .rw, 0xE080C, 0x1F7F1F, 0x1F7F1F⟩) ∧
    ((unitRegs 4).find? (fun d => d.covers 0x12C) = some ⟨0x12C, 0x1000000, 1, 1, .rw, 0x0, 0x3FFFF, 0x3FFFF⟩) ∧
    ((unitRegs 4).find? (fun d => d.covers 0x124) = some ⟨0x124, 0x1000000, 1, 1, .rw, 0x1000, 0xFFFF, 0xFFFF⟩) ∧
    ((unitRegs 4).find? (fun d => d.covers 0x100) = some ⟨0x100, 0x1000000, 1, 1, .wo, 0x0, 0x0, 0x7⟩) ∧
    ((unitRegs 4).find? (fun d => d.covers 0x140) = some ⟨0x140, 0x1000000, 1, 1, .wo, 0x0, 0x0, 0xFFFFFFFF⟩) := by decide +kernel

theorem look5 :
    ((unitRegs 5).find? (fun d => d.covers 0x18) = some ⟨0x18, 0x1000000, 1, 1, .rw, 0x1002800, 0x1007F00, 0x1007F00⟩) ∧
    ((unitRegs 5).find? (fun d => d.covers 0x11C) = some ⟨0x11C, 0x1000000, 1, 1, .rw, 0x0, 0x3FFFF, 0x3FFFF⟩) ∧
    ((unitRegs 5).find? (fun d => d.covers 0x100) = some ⟨0x100, 0x1000000, 1, 1, .wo, 0x0, 0x0, 0x7⟩) ∧
    ((unitRegs 5).find? (fun d => d.covers 0x128) = some ⟨0x128, 0x1000000, 1, 1, .wo, 0x0, 0x0, 0xFFFFFFFF⟩) := by decide +kernel

theorem look6 :
    ((unitRegs 6).find? (fun d => d.covers 0x18) = some ⟨0x18, 0x1000000, 1, 1, .rw, 0x802000, 0xFFFF7F03, 0xFFFF7F03⟩) ∧
    ((unitRegs 6).find? (fun d => d.covers 0x100) = some ⟨0x100, 0x1000000, 1, 1, .rw, 0x0, 0x3F, 0x3F⟩) ∧
    ((unitRegs 6).find? (fun d => d.covers 0x104) = some ⟨0x104, 0x1000000, 1, 1, .wo, 0x0, 0x0, 0xFFFFFFFF⟩) ∧
    ((unitRegs 6).find? (fun d => d.covers 0x118) = some ⟨0x118, 0x1000000, 1, 1, .wo, 0x0, 0x0, 0xFFFFFFFF⟩) := by decide +kernel

theorem look7 :
    ((unitRegs 7).find? (fun d => d.covers 0x18) = some ⟨0x18, 0x1000000, 1, 1, .rw, 0x404002E, 0x1F0F33FF, 0x1F0F33FF⟩) ∧
    ((unitRegs 7).find? (fun d => d.covers 0x100) = some ⟨0x100, 0x1000000, 1, 1, .wo, 0x0, 0x0, 0x7⟩) ∧
    ((unitRegs 7).find? (fun d => d.covers 0x154) = some ⟨0x154, 0x1000000, 1, 1, .wo, 0x0, 0x0, 0xFFFFFFFF⟩) := by decide +kernel

theorem look8 :
    ((unitRegs 8).find? (fun d => d.covers 0x18) = some ⟨0x18, 0x1000000, 1, 1, .rw, 0xFFFF0B02, 0xFFFF0F03, 0xFFFF0F03⟩) ∧
    (∀ (core : Fin 16), (unitRegs 8).find? (fun d => d.covers (0x1000 + 64 * core.val)) = some ⟨0x1000, 0x40, 16, 1, .wo, 0x0, 0x0, 0xF⟩) ∧
    (∀ (core : Fin 16), (unitRegs 8).find? (fun d => d.covers (0x1014 + 64 * core.val)) = some ⟨0x1014, 0x40, 16, 1, .ws, 0x0, 0x0, 0x1⟩) ∧
    ((unitRegs 8).find? (fun d => d.covers 0x11C) = some ⟨0x11C, 0x1000000, 1, 1, .rw, 0x0, 0x1, 0x301⟩) ∧
    ((unitRegs 8).find? (fun d => d.covers 0x120) = some ⟨0x120, 0x1000000, 1, 1, .wo, 0x0, 0x0, 0xFFFFFFFF⟩) := by decide +kernel

theorem look9 :
    ((unitRegs 9).find? (fun d => d.covers 0x18) = some ⟨0x18, 0x1000000, 1, 1, .rw, 0x101, 0x131, 0x131⟩) ∧
    ((unitRegs 9).find? (fun d => d.covers 0x130) = some ⟨0x130, 0x1000000, 1, 1, .wo, 0x0, 0x0, 0xFFFFFFFF⟩) := by decide +kernel

theorem look10 :
    ((unitRegs 10).find? (fun d => d.covers 0x18) = some ⟨0x18, 0x1000000, 1, 1, .rw, 0x11067, 0xFF3F7F, 0xFF3F7F⟩) ∧
    ((unitRegs 10).find? (fun d => d.covers 0x100) = some ⟨0x100, 0x1000000, 1, 1, .wo, 0x0, 0x0, 0x3F⟩) ∧
    ((unitRegs 10).find? (fun d => d.covers 0x10C) = some ⟨0x10C, 0x1000000, 1, 1, .wo, 0x0, 0x0, 0xFFFFFFFF⟩) := by decide +kernel

theorem look11 :
    ((unitRegs 11).find? (fun d => d.covers 0x18) = some ⟨0x18, 0x1000000, 1, 1, .rw, 0x4007, 0xFF07, 0xFF07⟩) ∧
    ((unitRegs 11).find? (fun d => d.covers 0x100) = some ⟨0x100, 0x1000000, 1, 1, .wo, 0x0, 0x0, 0x3F⟩) ∧
    ((unitRegs 11).find? (fun d => d.covers 0x148) = some ⟨0x148, 0x1000000, 1, 1, .wo, 0x0, 0x0, 0x3F3⟩) ∧
    ((unitRegs 11).find? (fun d => d.covers 0x12C) = some ⟨0x12C, 0x1000000, 1, 1, .rw, 0x0, 0x3FFFFF, 0x3FFFFF⟩) ∧
    ((unitRegs 11).find? (fun d => d.covers 0x124) = some ⟨0x124, 0x1000000, 1, 1, .wo, 0x0, 0x0, 0x33F⟩) ∧
    ((unitRegs 11).find? (fun d => d.covers 0x150) = some ⟨0x150, 0x1000000, 1, 1, .wo, 0x0, 0x0, 0xFFFFFFFF⟩) := by decide +kernel

theorem look12 :
    ((unitRegs 12).find? (fun d => d.covers 0x100) = some ⟨0x100, 0x1000000, 1, 1, .wo, 0x0, 0x0, 0x11F⟩) ∧
    ((unitRegs 12).find? (fun d => d.covers 0x148) = some ⟨0x148, 0x1000000, 1, 1, .rw, 0x0, 0x3F, 0x3073F⟩) ∧
    ((unitRegs 12).find? (fun d => d.covers 0x134) = some ⟨0x134, 0x1000000, 1, 1, .wo, 0x0, 0x0, 0xFFFFFFFF⟩) := by decide +kernel

theorem look13 :
    ((unitRegs 13).find? (fun d => d.covers 0x18) = some ⟨0x18, 0x1000000, 1, 1, .rw, 0xB00, 0xFF01, 0xFF01⟩) ∧
    (∀ (core : Fin 8), (unitRegs 13).find? (fun d => d.covers (0x1000 + 128 * core.val)) = some ⟨0x1000, 0x80, 8, 1, .wo, 0x0, 0x0, 0x7F⟩) ∧
    (∀ (core : Fin 8), (unitRegs 13).find? (fun d => d.covers (0x1014 + 128 * core.val)) = some ⟨0x1014, 0x80, 8, 1, .wo, 0x0, 0x0, 0xFFFFFFFF⟩) ∧
    (∀ (core : Fin 8), (unitRegs 13).find? (fun d => d.covers (0x1020 + 128 * core.val)) = some ⟨0x1020, 0x80, 8, 1, .rw, 0x0, 0xFFFFFFFF, 0xFFFFFFFF⟩) ∧
    ((unitRegs 13).find? (fun d => d.covers 0x100) = some ⟨0x100, 0x1000000, 1, 1, .wo, 0x0, 0x0, 0xFFFFFFFF⟩) := by decide +kernel

theorem look14 :
    ((unitRegs 14).find? (fun d => d.covers 0x18) = some ⟨0x18, 0x1000000, 1, 1, .rw, 0x2801, 0x7F07, 0x7F07⟩) ∧
    (∀ (cls : Fin 16) (res : Fin 12), (unitRegs 14).find? (fun d => d.covers (0x1000 + 64 * cls.val + 4 * res.val)) = some ⟨0x1000, 0x40, 16, 12, .rw, 0x0, 0x7FF07FF, 0x7FF07FF⟩) ∧
    ((unitRegs 14).find? (fun d => d.covers 0x100) = some ⟨0x100, 0x1000000, 1, 1, .wo, 0x0, 0x0, 0xFFFFFFFF⟩) ∧
    ((unitRegs 14).find? (fun d => d.covers 0x128) = some ⟨0x128, 0x1000000, 1, 1, .wo, 0x0, 0x0, 0xFFFFFFFF⟩) := by decide +kernel

theorem look15 :
    ((unitRegs 15).find? (fun d => d.covers 0x18) = some ⟨0x18, 0x1000000, 1, 1, .rw, 0x4, 0xF1F, 0xF1F⟩) ∧
    ((unitRegs 15).find? (fun d => d.covers 0x100) = some ⟨0x100, 0x1000000, 1, 1, .wo, 0x0, 0x0, 0x77⟩) ∧
    ((unitRegs 15).find? (fun d => d.covers 0x140) = some ⟨0x140, 0x1000000, 1, 1, .rw, 0xBB800, 0xFFFFFFFF, 0xFFFFFFFF⟩) := by decide +kernel

theorem look16 :
    ((unitRegs 16).find? (fun d => d.covers 0x18) = some ⟨0x18, 0x1000000, 1, 1, .rw, 0xC, 0x7F, 0x7F⟩) ∧
    ((unitRegs 16).find? (fun d => d.covers 0x100) = some ⟨0x100, 0x1000000, 1, 1, .wo, 0x0, 0x0, 0x33F⟩) ∧
    ((unitRegs 16).find? (fun d => d.covers 0x124) = some ⟨0x124, 0x1000000, 1, 1, .rw, 0xA, 0xFF, 0xFF⟩) ∧
    ((unitRegs 16).find? (fun d => d.covers 0x120) = some ⟨0x120, 0x1000000, 1, 1, .rw, 0x0, 0xFFFFFFFF, 0xFFFFFFFF⟩) ∧
    (∀ (output : Fin 4), (unitRegs 16).find? (fun d => d.covers (0x30C + 32 * output.val)) = some ⟨0x30C, 0x20, 4, 1, .rw, 0xA00, 0xFFFF03, 0xFFFF03⟩) ∧
    ((unitRegs 16).find? (fun d => d.covers 0x148) = some ⟨0x148, 0x1000000, 1, 1, .wo, 0x0, 0x0, 0xFFFFFFFF⟩) := by decide +kernel

theorem look17 :
    ((unitRegs 17).find? (fun d => d.covers 0x18) = some ⟨0x18, 0x1000000, 1, 1, .rw, 0x6001004, 0xFFFF7F07, 0xFFFF7F07⟩) ∧
    ((unitRegs 17).find? (fun d => d.covers 0x100) = some ⟨0x100, 0x1000000, 1, 1, .wo, 0x0, 0x0, 0x7⟩) ∧
    ((unitRegs 17).find? (fun d => d.covers 0x15C) = some ⟨0x15C, 0x1000000, 1, 1, .wo, 0x0, 0x0, 0xFFFFFFFF⟩) ∧
    (∀ (word : Fin 512), (unitRegs 17).find? (fun d => d.covers (0x100000 + 4 * word.val)) = some ⟨0x100000, 0x400, 2, 256, .rw, 0x0, 0xFFFFFFFF, 0xFFFFFFFF⟩) ∧
    ((unitRegs 17).find? (fun d => d.covers 0x160) = some ⟨0x160, 0x1000000, 1, 1, .wo, 0x0, 0x0, 0xFFFFFFFF⟩) := by decide +kernel

theorem look18 :
    ((unitRegs 18).find? (fun d => d.covers 0x140) = some ⟨0x140, 0x1000000, 1, 1, .rw, 0x2D0, 0x3FF, 0x3FF⟩) ∧
    ((unitRegs 18).find? (fun d => d.covers 0x108) = some ⟨0x108, 0x1000000, 1, 1, .wo, 0x0, 0x0, 0xFFFFFFFF⟩) ∧
    ((unitRegs 18).find? (fun d => d.covers 0x12C) = some ⟨0x12C, 0x1000000, 1, 1, .rw, 0x3E8, 65535, 0x8000FFFF⟩) := by decide +kernel

theorem look19 :
    (∀ (word : Fin 52), (unitRegs 19).find? (fun d => d.covers (0x200 + 4 * word.val)) = some ⟨0x200, 0x1000000, 1, 52, .wo, 0x0, 0x0, 0xFFFFFFFF⟩) ∧
    ((unitRegs 19).find? (fun d => d.covers 0x304) = some ⟨0x304, 0x1000000, 1, 1, .wo, 0x0, 0x0, 0xFFFFFFFF⟩) ∧
    ((unitRegs 19).find? (fun d => d.covers 0x300) = some ⟨0x300, 0x1000000, 1, 1, .rw, 0x0, 0x0, 0xF2⟩) := by decide +kernel

theorem look20 :
    ((unitRegs 20).find? (fun d => d.covers 0x104) = some ⟨0x104, 0x1000000, 1, 1, .wo, 0x0, 0x0, 0x30F⟩) ∧
    ((unitRegs 20).find? (fun d => d.covers 0x10C) = some ⟨0x10C, 0x1000000, 1, 1, .wo, 0x0, 0x0, 0x1⟩) ∧
    ((unitRegs 20).find? (fun d => d.covers 0x300) = some ⟨0x300, 0x1000000, 1, 1, .wo, 0x0, 0x0, 0xFFFFFFFF⟩) ∧
    ((unitRegs 20).find? (fun d => d.covers 0x404) = some ⟨0x404, 0x1000000, 1, 1, .rw, 0x0, 0x1FFFF, 0x1FFFF⟩) ∧
    ((unitRegs 20).find? (fun d => d.covers 0x18) = some ⟨0x18, 0x1000000, 1, 1, .rw, 0x0, 0x37, 0x37⟩) ∧
    ((unitRegs 20).find? (fun d => d.covers 0x328) = some ⟨0x328, 0x1000000, 1, 1, .wo, 0x0, 0x0, 0xFFFFFFFF⟩) := by decide +kernel

theorem row_octetRoleWrite {m : Master} {octet : Fin 12} {value : Word} {env : Env} {s : State} (g : Granted m (LNS_OCTET_ROLE octet.val) s) :
    exec (.octetRoleWrite m octet value env) s = .next (replied m (LNS_OCTET_ROLE octet.val) (octetRoleWrite octet.val (value.toNat % 2 ^ 32 &&& 7) (picked m (LNS_OCTET_ROLE octet.val) s))) := by
  have hd : ∀ (octet : Fin 12), (unitRegs 1).find? (fun d => d.covers (0x100 + 4 * octet.val)) = some ⟨0x100, 0x4, 12, 1, .rw, 0x0, 0x7, 0x7⟩ := (look1.1)
  have hw : ∀ v s', unitWrite m 1 (0x100 + 4 * octet.val) 7 v env s' = some (octetRoleWrite octet.val v s') := by
    intro v s'
    have := octet.isLt
    unfold unitWrite lnsWrite
    grind
  exact congrArg Host.Outcome.next (write_rule g (u := 1) (off := 0x100 + 4 * octet.val) (by unfold LNS_OCTET_ROLE; omega) (by omega) (hd octet) (by decide) (by unfold LNS_OCTET_ROLE; omega) (hw _ _))

theorem row_lnsBasicWrite {m : Master} {value : Word} {env : Env} {s : State} (g : Granted m (UNIT_BASIC uLNS) s) :
    exec (.lnsBasicWrite m value env) s = .next (replied m (UNIT_BASIC uLNS) (acc (lnsBasicWrite (value.toNat % 2 ^ 32 &&& 8191) (picked m (UNIT_BASIC uLNS) s)))) := by
  have hw : ∀ v s', unitWrite m 1 0x18 8191 v env s' = some (acc (lnsBasicWrite v s')) := fun _ _ => rfl
  exact congrArg Host.Outcome.next (write_rule g (u := 1) (off := 0x18) (d := ⟨0x18, 0x1000000, 1, 1, .rw, 0x0, 0x1FFF, 0x1FFF⟩) rfl (by decide) (look1.2.1) (by decide) (by decide) (hw _ _))

theorem row_txFirWrite {m : Master} {lane : Fin 96} {value : Word} {env : Env} {s : State} (g : Granted m (LNS_TX_FIR lane.val) s) :
    exec (.txFirWrite m lane value env) s = .next (replied m (LNS_TX_FIR lane.val) (txFirWrite lane.val (value.toNat % 2 ^ 32 &&& 3855) (picked m (LNS_TX_FIR lane.val) s))) := by
  have hd : ∀ (lane : Fin 96), (unitRegs 1).find? (fun d => d.covers (0x100C + 64 * lane.val)) = some ⟨0x100C, 0x40, 96, 1, .rw, 0x604, 0xF0F, 0xF0F⟩ := (look1.2.2.1)
  have hw : ∀ v s', unitWrite m 1 (0x100C + 64 * lane.val) 3855 v env s' = some (txFirWrite lane.val v s') := by
    intro v s'
    have := lane.isLt
    unfold unitWrite lnsWrite
    grind
  exact congrArg Host.Outcome.next (write_rule g (u := 1) (off := 0x100C + 64 * lane.val) (by unfold LNS_TX_FIR; omega) (by omega) (hd lane) (by decide) (by unfold LNS_TX_FIR; omega) (hw _ _))

theorem row_laneIdleSet {m : Master} {lane : Fin 96} {value : Word} {env : Env} {s : State} (g : Granted m (LNS_LANE_CTRL lane.val) s) :
    exec (.laneIdleSet m lane value env) s = .next (replied m (LNS_LANE_CTRL lane.val) (laneCtrlWrite lane.val ((setBits value.toNat 0 1 1) % 2 ^ 32 &&& 65295) env.inProgress env.sleepSent (env.eyes.getD lane.val []) (picked m (LNS_LANE_CTRL lane.val) s))) := by
  have hd : ∀ (lane : Fin 96), (unitRegs 1).find? (fun d => d.covers (0x1000 + 64 * lane.val)) = some ⟨0x1000, 0x40, 96, 1, .rw, 0x0, 0xFF09, 0xFF0F⟩ := (look1.2.2.2.1)
  have hw : ∀ v s', unitWrite m 1 (0x1000 + 64 * lane.val) 65289 v env s' = some (laneCtrlWrite lane.val v env.inProgress env.sleepSent (env.eyes.getD lane.val []) s') := by
    intro v s'
    have := lane.isLt
    unfold unitWrite lnsWrite
    grind
  exact congrArg Host.Outcome.next (write_rule g (u := 1) (off := 0x1000 + 64 * lane.val) (by unfold LNS_LANE_CTRL; omega) (by omega) (hd lane) (by decide) (by unfold LNS_LANE_CTRL; omega) (hw _ _))

theorem row_laneIdleClear {m : Master} {lane : Fin 96} {value : Word} {env : Env} {s : State} (g : Granted m (LNS_LANE_CTRL lane.val) s) :
    exec (.laneIdleClear m lane value env) s = .next (replied m (LNS_LANE_CTRL lane.val) (laneCtrlWrite lane.val ((setBits value.toNat 0 1 0) % 2 ^ 32 &&& 65295) env.inProgress env.sleepSent (env.eyes.getD lane.val []) (picked m (LNS_LANE_CTRL lane.val) s))) := by
  have hd : ∀ (lane : Fin 96), (unitRegs 1).find? (fun d => d.covers (0x1000 + 64 * lane.val)) = some ⟨0x1000, 0x40, 96, 1, .rw, 0x0, 0xFF09, 0xFF0F⟩ := (look1.2.2.2.1)
  have hw : ∀ v s', unitWrite m 1 (0x1000 + 64 * lane.val) 65289 v env s' = some (laneCtrlWrite lane.val v env.inProgress env.sleepSent (env.eyes.getD lane.val []) s') := by
    intro v s'
    have := lane.isLt
    unfold unitWrite lnsWrite
    grind
  exact congrArg Host.Outcome.next (write_rule g (u := 1) (off := 0x1000 + 64 * lane.val) (by unfold LNS_LANE_CTRL; omega) (by omega) (hd lane) (by decide) (by unfold LNS_LANE_CTRL; omega) (hw _ _))

theorem row_laneRetrain {m : Master} {lane : Fin 96} {value : Word} {env : Env} {s : State} (g : Granted m (LNS_LANE_CTRL lane.val) s) :
    exec (.laneRetrain m lane value env) s = .next (replied m (LNS_LANE_CTRL lane.val) (laneCtrlWrite lane.val ((setBits value.toNat 1 1 1) % 2 ^ 32 &&& 65295) env.inProgress env.sleepSent (env.eyes.getD lane.val []) (picked m (LNS_LANE_CTRL lane.val) s))) := by
  have hd : ∀ (lane : Fin 96), (unitRegs 1).find? (fun d => d.covers (0x1000 + 64 * lane.val)) = some ⟨0x1000, 0x40, 96, 1, .rw, 0x0, 0xFF09, 0xFF0F⟩ := (look1.2.2.2.1)
  have hw : ∀ v s', unitWrite m 1 (0x1000 + 64 * lane.val) 65289 v env s' = some (laneCtrlWrite lane.val v env.inProgress env.sleepSent (env.eyes.getD lane.val []) s') := by
    intro v s'
    have := lane.isLt
    unfold unitWrite lnsWrite
    grind
  exact congrArg Host.Outcome.next (write_rule g (u := 1) (off := 0x1000 + 64 * lane.val) (by unfold LNS_LANE_CTRL; omega) (by omega) (hd lane) (by decide) (by unfold LNS_LANE_CTRL; omega) (hw _ _))

theorem row_laneAdapt {m : Master} {lane : Fin 96} {value : Word} {env : Env} {s : State} (g : Granted m (LNS_LANE_CTRL lane.val) s) :
    exec (.laneAdapt m lane value env) s = .next (replied m (LNS_LANE_CTRL lane.val) (laneCtrlWrite lane.val ((setBits value.toNat 2 1 1) % 2 ^ 32 &&& 65295) env.inProgress env.sleepSent (env.eyes.getD lane.val []) (picked m (LNS_LANE_CTRL lane.val) s))) := by
  have hd : ∀ (lane : Fin 96), (unitRegs 1).find? (fun d => d.covers (0x1000 + 64 * lane.val)) = some ⟨0x1000, 0x40, 96, 1, .rw, 0x0, 0xFF09, 0xFF0F⟩ := (look1.2.2.2.1)
  have hw : ∀ v s', unitWrite m 1 (0x1000 + 64 * lane.val) 65289 v env s' = some (laneCtrlWrite lane.val v env.inProgress env.sleepSent (env.eyes.getD lane.val []) s') := by
    intro v s'
    have := lane.isLt
    unfold unitWrite lnsWrite
    grind
  exact congrArg Host.Outcome.next (write_rule g (u := 1) (off := 0x1000 + 64 * lane.val) (by unfold LNS_LANE_CTRL; omega) (by omega) (hd lane) (by decide) (by unfold LNS_LANE_CTRL; omega) (hw _ _))

theorem row_ckShadowWrite {m : Master} {lane : Fin 96} {word : Fin 8} {value : Word} {env : Env} {s : State} {d : RegDesc} (g : Granted m (FRM_CK_CFG lane.val + 4 * word.val) s) (hd : (unitRegs 2).find? (fun d => d.covers (0x1000 + 32 * lane.val + 4 * word.val)) = some d) (hacc : d.acc ≠ .ro ∧ d.acc ≠ .wc) :
    exec (.ckShadowWrite m lane word value env) s = .next (replied m (FRM_CK_CFG lane.val + 4 * word.val) (Sys2Proof.Machine.ckShadowWrite lane.val word.val (value.toNat % 2 ^ 32 &&& d.vmask) (picked m (FRM_CK_CFG lane.val + 4 * word.val) s))) := by
  have hw : ∀ v s', unitWrite m 2 (0x1000 + 32 * lane.val + 4 * word.val) d.wmask v env s' = some (Sys2Proof.Machine.ckShadowWrite lane.val word.val v s') := by
    intro v s'
    have := lane.isLt
    unfold unitWrite frmWrite
    grind
  exact congrArg Host.Outcome.next (write_rule g (u := 2) (off := 0x1000 + 32 * lane.val + 4 * word.val) (by unfold FRM_CK_CFG; omega) (by omega) hd hacc (by unfold FRM_CK_CFG; omega) (hw _ _))

theorem row_ckPresetWrite {m : Master} {value : Word} {env : Env} {s : State} (g : Granted m (UNIT_BASIC uFRM) s) :
    exec (.ckPresetWrite m value env) s = .next (replied m (UNIT_BASIC uFRM) (ckPresetWrite (value.toNat % 2 ^ 32 &&& 7) (picked m (UNIT_BASIC uFRM) s))) := by
  have hw : ∀ v s', unitWrite m 2 0x18 7 v env s' = some (ckPresetWrite v s') := fun _ _ => rfl
  exact congrArg Host.Outcome.next (write_rule g (u := 2) (off := 0x18) (d := ⟨0x18, 0x1000000, 1, 1, .rw, 0x0, 0x7, 0x7⟩) rfl (by decide) (look2.1) (by decide) (by decide) (hw _ _))

theorem row_portCfgWrite {m : Master} {port : Fin 8} {value : Word} {env : Env} {s : State} (g : Granted m (FRM_PORT_CFG port.val) s) :
    exec (.portCfgWrite m port value env) s = .next (replied m (FRM_PORT_CFG port.val) (portCfgWrite port.val (value.toNat % 2 ^ 32 &&& 1073676319) (picked m (FRM_PORT_CFG port.val) s))) := by
  have hd : ∀ (port : Fin 8), (unitRegs 2).find? (fun d => d.covers (0x5000 + 256 * port.val)) = some ⟨0x5000, 0x100, 8, 1, .rw, 0x24000000, 0x3FFF001F, 0x3FFF001F⟩ := (look2.2.1)
  have hw : ∀ v s', unitWrite m 2 (0x5000 + 256 * port.val) 1073676319 v env s' = some (portCfgWrite port.val v s') := by
    intro v s'
    have := port.isLt
    unfold unitWrite frmWrite
    grind
  exact congrArg Host.Outcome.next (write_rule g (u := 2) (off := 0x5000 + 256 * port.val) (by unfold FRM_PORT_CFG; omega) (by omega) (hd port) (by decide) (by unfold FRM_PORT_CFG; omega) (hw _ _))

theorem row_lnsCntClear {m : Master} {value : Word} {env : Env} {s : State} (g : Granted m LNS_CNT_CLEAR s) :
    exec (.lnsCntClear m value env) s = .next (replied m LNS_CNT_CLEAR (acc (lnsCntClear (value.toNat % 2 ^ 32 &&& 4294967295) (picked m LNS_CNT_CLEAR s)))) := by
  have hw : ∀ v s', unitWrite m 1 0x144 0 v env s' = some (acc (lnsCntClear v s')) := fun _ _ => rfl
  exact congrArg Host.Outcome.next (write_rule g (u := 1) (off := 0x144) (d := ⟨0x144, 0x1000000, 1, 1, .wo, 0x0, 0x0, 0xFFFFFFFF⟩) rfl (by decide) (look1.2.2.2.2) (by decide) (by decide) (hw _ _))

theorem row_frmCntClear {m : Master} {value : Word} {env : Env} {s : State} (g : Granted m FRM_CNT_CLEAR s) :
    exec (.frmCntClear m value env) s = .next (replied m FRM_CNT_CLEAR (acc (frmCntClear (value.toNat % 2 ^ 32 &&& 4294967295) (picked m FRM_CNT_CLEAR s)))) := by
  have hw : ∀ v s', unitWrite m 2 0x108 0 v env s' = some (acc (frmCntClear v s')) := fun _ _ => rfl
  exact congrArg Host.Outcome.next (write_rule g (u := 2) (off := 0x108) (d := ⟨0x108, 0x1000000, 1, 1, .wo, 0x0, 0x0, 0xFFFFFFFF⟩) rfl (by decide) (look2.2.2) (by decide) (by decide) (hw _ _))

theorem row_decBasicWrite {m : Master} {value : Word} {env : Env} {s : State} (g : Granted m (UNIT_BASIC uDEC) s) :
    exec (.decBasicWrite m value env) s = .next (replied m (UNIT_BASIC uDEC) (decBasicWrite (value.toNat % 2 ^ 32 &&& 8063) (picked m (UNIT_BASIC uDEC) s))) := by
  have hw : ∀ v s', unitWrite m 3 0x18 8063 v env s' = some (decBasicWrite v s') := fun _ _ => rfl
  exact congrArg Host.Outcome.next (write_rule g (u := 3) (off := 0x18) (d := ⟨0x18, 0x1000000, 1, 1, .rw, 0x401, 0x1F7F, 0x1F7F⟩) rfl (by decide) (look3.1) (by decide) (by decide) (hw _ _))

theorem row_decShadowWrite {m : Master} {slot : Fin 256} {word : Fin 16} {value : Word} {env : Env} {s : State} {d : RegDesc} (g : Granted m (DEC_STREAM_CFG slot.val + 4 * word.val) s) (hd : (unitRegs 3).find? (fun d => d.covers (0x1000 + 64 * slot.val + 4 * word.val)) = some d) (hacc : d.acc ≠ .ro ∧ d.acc ≠ .wc) :
    exec (.decShadowWrite m slot word value env) s = .next (replied m (DEC_STREAM_CFG slot.val + 4 * word.val) (Sys2Proof.Machine.decShadowWrite (0x1000 + 4 * word.val) slot.val (value.toNat % 2 ^ 32 &&& d.vmask) d.wmask (picked m (DEC_STREAM_CFG slot.val + 4 * word.val) s))) := by
  have hw : ∀ v s', unitWrite m 3 (0x1000 + 64 * slot.val + 4 * word.val) d.wmask v env s' = some (Sys2Proof.Machine.decShadowWrite (0x1000 + 4 * word.val) slot.val v d.wmask s') := by
    intro v s'
    have := slot.isLt
    unfold unitWrite decWrite
    grind
  exact congrArg Host.Outcome.next (write_rule g (u := 3) (off := 0x1000 + 64 * slot.val + 4 * word.val) (by unfold DEC_STREAM_CFG; omega) (by omega) hd hacc (by unfold DEC_STREAM_CFG; omega) (hw _ _))

theorem row_decSyncGo {m : Master} {value : Word} {env : Env} {s : State} (g : Granted m DEC_SYNC_CTRL s) :
    exec (.decSyncGo m value env) s = .next (replied m DEC_SYNC_CTRL (acc (decSyncWrite ((setBits value.toNat 0 1 1) % 2 ^ 32 &&& 4294967295) (picked m DEC_SYNC_CTRL s)))) := by
  have hw : ∀ v s', unitWrite m 3 0x108 0 v env s' = some (acc (decSyncWrite v s')) := fun _ _ => rfl
  exact congrArg Host.Outcome.next (write_rule g (u := 3) (off := 0x108) (d := ⟨0x108, 0x1000000, 1, 1, .wo, 0x0, 0x0, 0xFFFFFFFF⟩) rfl (by decide) (look3.2.1) (by decide) (by decide) (hw _ _))

theorem row_decCntClear {m : Master} {value : Word} {env : Env} {s : State} (g : Granted m DEC_CNT_CLEAR s) :
    exec (.decCntClear m value env) s = .next (replied m DEC_CNT_CLEAR (acc (decCntClear (value.toNat % 2 ^ 32 &&& 4294967295) (picked m DEC_CNT_CLEAR s)))) := by
  have hw : ∀ v s', unitWrite m 3 0x110 0 v env s' = some (acc (decCntClear v s')) := fun _ _ => rfl
  exact congrArg Host.Outcome.next (write_rule g (u := 3) (off := 0x110) (d := ⟨0x110, 0x1000000, 1, 1, .wo, 0x0, 0x0, 0xFFFFFFFF⟩) rfl (by decide) (look3.2.2) (by decide) (by decide) (hw _ _))

theorem row_chnBasicWrite {m : Master} {value : Word} {env : Env} {s : State} (g : Granted m (UNIT_BASIC uCHN) s) :
    exec (.chnBasicWrite m value env) s = .next (replied m (UNIT_BASIC uCHN) (chnBasicWrite (value.toNat % 2 ^ 32 &&& 18841375) (picked m (UNIT_BASIC uCHN) s))) := by
  have hw : ∀ v s', unitWrite m 4 0x18 18841375 v env s' = some (chnBasicWrite v s') := fun _ _ => rfl
  exact congrArg Host.Outcome.next (write_rule g (u := 4) (off := 0x18) (d := ⟨0x18, 0x1000000, 1, 1, .rw, 0x10E080C, 0x11F7F1F, 0x11F7F1F⟩) rfl (by decide) (look4.1) (by decide) (by decide) (hw _ _))

theorem row_chnCfgWrite {m : Master} {value : Word} {env : Env} {s : State} (g : Granted m CHN_CFG s) :
    exec (.chnCfgWrite m value env) s = .next (replied m CHN_CFG (chnCfgWrite (value.toNat % 2 ^ 32 &&& 2064159) (picked m CHN_CFG s))) := by
  have hw : ∀ v s', unitWrite m 4 0x110 2064159 v env s' = some (chnCfgWrite v s') := fun _ _ => rfl
  exact congrArg Host.Outcome.next (write_rule g (u := 4) (off := 0x110) (d := ⟨0x110, 0x1000000, 1, 1, .rw, 0xE080C, 0x1F7F1F, 0x1F7F1F⟩) rfl (by decide) (look4.2.1) (by decide) (by decide) (hw _ _))

theorem row_chnCoefDataWrite {m : Master} {value : Word} {env : Env} {s : State} (g : Granted m CHN_COEF_DATA s) :
    exec (.chnCoefDataWrite m value env) s = .next (replied m CHN_COEF_DATA (chnCoefDataWrite (value.toNat % 2 ^ 32 &&& 262143) (picked m CHN_COEF_DATA s))) := by
  have hw : ∀ v s', unitWrite m 4 0x12C 262143 v env s' = some (chnCoefDataWrite v s') := fun _ _ => rfl
  exact congrArg Host.Outcome.next (write_rule g (u := 4) (off := 0x12C) (d := ⟨0x12C, 0x1000000, 1, 1, .rw, 0x0, 0x3FFFF, 0x3FFFF⟩) rfl (by decide) (look4.2.2.1) (by decide) (by decide) (hw _ _))

theorem row_chnGainDataWrite {m : Master} {value : Word} {env : Env} {s : State} (g : Granted m CHN_GAIN_DATA s) :
    exec (.chnGainDataWrite m value env) s = .next (replied m CHN_GAIN_DATA (chnGainDataWrite (value.toNat % 2 ^ 32 &&& 65535) (picked m CHN_GAIN_DATA s))) := by
  have hw : ∀ v s', unitWrite m 4 0x124 65535 v env s' = some (chnGainDataWrite v s') := fun _ _ => rfl
  exact congrArg Host.Outcome.next (write_rule g (u := 4) (off := 0x124) (d := ⟨0x124, 0x1000000, 1, 1, .rw, 0x1000, 0xFFFF, 0xFFFF⟩) rfl (by decide) (look4.2.2.2.1) (by decide) (by decide) (hw _ _))

theorem row_chnStart {m : Master} {value : Word} {env : Env} {s : State} (g : Granted m CHN_CTRL s) :
    exec (.chnStart m value env) s = .next (replied m CHN_CTRL (chnCtrlWrite ((setBits value.toNat 0 1 1) % 2 ^ 32 &&& 7) (picked m CHN_CTRL s))) := by
  have hw : ∀ v s', unitWrite m 4 0x100 0 v env s' = some (chnCtrlWrite v s') := fun _ _ => rfl
  exact congrArg Host.Outcome.next (write_rule g (u := 4) (off := 0x100) (d := ⟨0x100, 0x1000000, 1, 1, .wo, 0x0, 0x0, 0x7⟩) rfl (by decide) (look4.2.2.2.2.1) (by decide) (by decide) (hw _ _))

theorem row_chnStop {m : Master} {value : Word} {env : Env} {s : State} (g : Granted m CHN_CTRL s) :
    exec (.chnStop m value env) s = .next (replied m CHN_CTRL (chnCtrlWrite ((setBits value.toNat 1 1 1) % 2 ^ 32 &&& 7) (picked m CHN_CTRL s))) := by
  have hw : ∀ v s', unitWrite m 4 0x100 0 v env s' = some (chnCtrlWrite v s') := fun _ _ => rfl
  exact congrArg Host.Outcome.next (write_rule g (u := 4) (off := 0x100) (d := ⟨0x100, 0x1000000, 1, 1, .wo, 0x0, 0x0, 0x7⟩) rfl (by decide) (look4.2.2.2.2.1) (by decide) (by decide) (hw _ _))

theorem row_chnCntClear {m : Master} {value : Word} {env : Env} {s : State} (g : Granted m CHN_CNT_CLEAR s) :
    exec (.chnCntClear m value env) s = .next (replied m CHN_CNT_CLEAR (acc (chnCntClear (value.toNat % 2 ^ 32 &&& 4294967295) (picked m CHN_CNT_CLEAR s)))) := by
  have hw : ∀ v s', unitWrite m 4 0x140 0 v env s' = some (acc (chnCntClear v s')) := fun _ _ => rfl
  exact congrArg Host.Outcome.next (write_rule g (u := 4) (off := 0x140) (d := ⟨0x140, 0x1000000, 1, 1, .wo, 0x0, 0x0, 0xFFFFFFFF⟩) rfl (by decide) (look4.2.2.2.2.2) (by decide) (by decide) (hw _ _))

theorem row_rsyBasicWrite {m : Master} {value : Word} {env : Env} {s : State} (g : Granted m (UNIT_BASIC uRSY) s) :
    exec (.rsyBasicWrite m value env) s = .next (replied m (UNIT_BASIC uRSY) (rsyBasicWrite (value.toNat % 2 ^ 32 &&& 16809728) (picked m (UNIT_BASIC uRSY) s))) := by
  have hw : ∀ v s', unitWrite m 5 0x18 16809728 v env s' = some (rsyBasicWrite v s') := fun _ _ => rfl
  exact congrArg Host.Outcome.next (write_rule g (u := 5) (off := 0x18) (d := ⟨0x18, 0x1000000, 1, 1, .rw, 0x1002800, 0x1007F00, 0x1007F00⟩) rfl (by decide) (look5.1) (by decide) (by decide) (hw _ _))

theorem row_rsyCoefDataWrite {m : Master} {value : Word} {env : Env} {s : State} (g : Granted m RSY_COEF_DATA s) :
    exec (.rsyCoefDataWrite m value env) s = .next (replied m RSY_COEF_DATA (rsyCoefDataWrite (value.toNat % 2 ^ 32 &&& 262143) (picked m RSY_COEF_DATA s))) := by
  have hw : ∀ v s', unitWrite m 5 0x11C 262143 v env s' = some (rsyCoefDataWrite v s') := fun _ _ => rfl
  exact congrArg Host.Outcome.next (write_rule g (u := 5) (off := 0x11C) (d := ⟨0x11C, 0x1000000, 1, 1, .rw, 0x0, 0x3FFFF, 0x3FFFF⟩) rfl (by decide) (look5.2.1) (by decide) (by decide) (hw _ _))

theorem row_rsyStart {m : Master} {value : Word} {env : Env} {s : State} (g : Granted m RSY_CTRL s) :
    exec (.rsyStart m value env) s = .next (replied m RSY_CTRL (rsyCtrlWrite ((setBits value.toNat 0 1 1) % 2 ^ 32 &&& 7) (picked m RSY_CTRL s))) := by
  have hw : ∀ v s', unitWrite m 5 0x100 0 v env s' = some (rsyCtrlWrite v s') := fun _ _ => rfl
  exact congrArg Host.Outcome.next (write_rule g (u := 5) (off := 0x100) (d := ⟨0x100, 0x1000000, 1, 1, .wo, 0x0, 0x0, 0x7⟩) rfl (by decide) (look5.2.2.1) (by decide) (by decide) (hw _ _))

theorem row_rsyStop {m : Master} {value : Word} {env : Env} {s : State} (g : Granted m RSY_CTRL s) :
    exec (.rsyStop m value env) s = .next (replied m RSY_CTRL (rsyCtrlWrite ((setBits value.toNat 1 1 1) % 2 ^ 32 &&& 7) (picked m RSY_CTRL s))) := by
  have hw : ∀ v s', unitWrite m 5 0x100 0 v env s' = some (rsyCtrlWrite v s') := fun _ _ => rfl
  exact congrArg Host.Outcome.next (write_rule g (u := 5) (off := 0x100) (d := ⟨0x100, 0x1000000, 1, 1, .wo, 0x0, 0x0, 0x7⟩) rfl (by decide) (look5.2.2.1) (by decide) (by decide) (hw _ _))

theorem row_rsySliceWrite {m : Master} {slice : Fin 1024} {half : Fin 2} {value : Word} {env : Env} {s : State} {d : RegDesc} (g : Granted m (0x5001000 + 8 * slice.val + 4 * half.val) s) (hd : (unitRegs 5).find? (fun d => d.covers (0x1000 + 8 * slice.val + 4 * half.val)) = some d) (hacc : d.acc ≠ .ro ∧ d.acc ≠ .wc) :
    exec (.rsySliceWrite m slice half value env) s = .next (replied m (0x5001000 + 8 * slice.val + 4 * half.val) ((if half.val = 0 then Sys2Proof.Machine.rsySliceWrite slice.val (value.toNat % 2 ^ 32 &&& d.vmask) (picked m (0x5001000 + 8 * slice.val + 4 * half.val) s) else rsyChanWrite slice.val (value.toNat % 2 ^ 32 &&& d.vmask) (picked m (0x5001000 + 8 * slice.val + 4 * half.val) s)))) := by
  have hw : ∀ v s', unitWrite m 5 (0x1000 + 8 * slice.val + 4 * half.val) d.wmask v env s' = some ((if half.val = 0 then Sys2Proof.Machine.rsySliceWrite slice.val v s' else rsyChanWrite slice.val v s')) := by
    intro v s'
    have := slice.isLt
    unfold unitWrite rsyWrite
    grind
  exact congrArg Host.Outcome.next (write_rule g (u := 5) (off := 0x1000 + 8 * slice.val + 4 * half.val) (by omega) (by omega) hd hacc (by omega) (hw _ _))

theorem row_rsyCntClear {m : Master} {value : Word} {env : Env} {s : State} (g : Granted m RSY_CNT_CLEAR s) :
    exec (.rsyCntClear m value env) s = .next (replied m RSY_CNT_CLEAR (acc (rsyCntClear (value.toNat % 2 ^ 32 &&& 4294967295) (picked m RSY_CNT_CLEAR s)))) := by
  have hw : ∀ v s', unitWrite m 5 0x128 0 v env s' = some (acc (rsyCntClear v s')) := fun _ _ => rfl
  exact congrArg Host.Outcome.next (write_rule g (u := 5) (off := 0x128) (d := ⟨0x128, 0x1000000, 1, 1, .wo, 0x0, 0x0, 0xFFFFFFFF⟩) rfl (by decide) (look5.2.2.2) (by decide) (by decide) (hw _ _))

theorem row_grtBasicWrite {m : Master} {value : Word} {env : Env} {s : State} (g : Granted m (UNIT_BASIC uGRT) s) :
    exec (.grtBasicWrite m value env) s = .next (replied m (UNIT_BASIC uGRT) (grtBasicWrite (value.toNat % 2 ^ 32 &&& 4294934275) (picked m (UNIT_BASIC uGRT) s))) := by
  have hw : ∀ v s', unitWrite m 6 0x18 4294934275 v env s' = some (grtBasicWrite v s') := fun _ _ => rfl
  exact congrArg Host.Outcome.next (write_rule g (u := 6) (off := 0x18) (d := ⟨0x18, 0x1000000, 1, 1, .rw, 0x802000, 0xFFFF7F03, 0xFFFF7F03⟩) rfl (by decide) (look6.1) (by decide) (by decide) (hw _ _))

theorem row_grtChipWrite {m : Master} {value : Word} {env : Env} {s : State} (g : Granted m GRT_CHIP s) :
    exec (.grtChipWrite m value env) s = .next (replied m GRT_CHIP (grtChipWrite (value.toNat % 2 ^ 32 &&& 63) (picked m GRT_CHIP s))) := by
  have hw : ∀ v s', unitWrite m 6 0x100 63 v env s' = some (grtChipWrite v s') := fun _ _ => rfl
  exact congrArg Host.Outcome.next (write_rule g (u := 6) (off := 0x100) (d := ⟨0x100, 0x1000000, 1, 1, .rw, 0x0, 0x3F, 0x3F⟩) rfl (by decide) (look6.2.1) (by decide) (by decide) (hw _ _))

theorem row_grtApply {m : Master} {value : Word} {env : Env} {s : State} (g : Granted m GRT_CTRL s) :
    exec (.grtApply m value env) s = .next (replied m GRT_CTRL ((if bit (((setBits value.toNat 0 1 1) % 2 ^ 32 &&& 4294967295)) 0 then Sys2Proof.Machine.grtApply 0x104 (bit (((setBits value.toNat 0 1 1) % 2 ^ 32 &&& 4294967295)) 1) (picked m GRT_CTRL s) (picked m GRT_CTRL s) else acc (picked m GRT_CTRL s)))) := by
  have hw : ∀ v s', unitWrite m 6 0x104 0 v env s' = some ((if bit (v) 0 then Sys2Proof.Machine.grtApply 0x104 (bit (v) 1) s' s' else acc s')) := fun _ _ => rfl
  exact congrArg Host.Outcome.next (write_rule g (u := 6) (off := 0x104) (d := ⟨0x104, 0x1000000, 1, 1, .wo, 0x0, 0x0, 0xFFFFFFFF⟩) rfl (by decide) (look6.2.2.1) (by decide) (by decide) (hw _ _))

theorem row_grtCntClear {m : Master} {value : Word} {env : Env} {s : State} (g : Granted m GRT_CNT_CLEAR s) :
    exec (.grtCntClear m value env) s = .next (replied m GRT_CNT_CLEAR (acc (grtCntClear (value.toNat % 2 ^ 32 &&& 4294967295) (picked m GRT_CNT_CLEAR s)))) := by
  have hw : ∀ v s', unitWrite m 6 0x118 0 v env s' = some (acc (grtCntClear v s')) := fun _ _ => rfl
  exact congrArg Host.Outcome.next (write_rule g (u := 6) (off := 0x118) (d := ⟨0x118, 0x1000000, 1, 1, .wo, 0x0, 0x0, 0xFFFFFFFF⟩) rfl (by decide) (look6.2.2.2) (by decide) (by decide) (hw _ _))

theorem row_stgBasicWrite {m : Master} {value : Word} {env : Env} {s : State} (g : Granted m (UNIT_BASIC uSTG) s) :
    exec (.stgBasicWrite m value env) s = .next (replied m (UNIT_BASIC uSTG) (stgBasicWrite (value.toNat % 2 ^ 32 &&& 521090047) (picked m (UNIT_BASIC uSTG) s))) := by
  have hw : ∀ v s', unitWrite m 7 0x18 521090047 v env s' = some (stgBasicWrite v s') := fun _ _ => rfl
  exact congrArg Host.Outcome.next (write_rule g (u := 7) (off := 0x18) (d := ⟨0x18, 0x1000000, 1, 1, .rw, 0x404002E, 0x1F0F33FF, 0x1F0F33FF⟩) rfl (by decide) (look7.1) (by decide) (by decide) (hw _ _))

theorem row_stgStart {m : Master} {value : Word} {env : Env} {s : State} (g : Granted m STG_CTRL s) :
    exec (.stgStart m value env) s = .next (replied m STG_CTRL (stgCtrlWrite ((setBits value.toNat 0 1 1) % 2 ^ 32 &&& 7) (picked m STG_CTRL s))) := by
  have hw : ∀ v s', unitWrite m 7 0x100 0 v env s' = some (stgCtrlWrite v s') := fun _ _ => rfl
  exact congrArg Host.Outcome.next (write_rule g (u := 7) (off := 0x100) (d := ⟨0x100, 0x1000000, 1, 1, .wo, 0x0, 0x0, 0x7⟩) rfl (by decide) (look7.2.1) (by decide) (by decide) (hw _ _))

theorem row_stgStop {m : Master} {value : Word} {env : Env} {s : State} (g : Granted m STG_CTRL s) :
    exec (.stgStop m value env) s = .next (replied m STG_CTRL (stgCtrlWrite ((setBits value.toNat 1 1 1) % 2 ^ 32 &&& 7) (picked m STG_CTRL s))) := by
  have hw : ∀ v s', unitWrite m 7 0x100 0 v env s' = some (stgCtrlWrite v s') := fun _ _ => rfl
  exact congrArg Host.Outcome.next (write_rule g (u := 7) (off := 0x100) (d := ⟨0x100, 0x1000000, 1, 1, .wo, 0x0, 0x0, 0x7⟩) rfl (by decide) (look7.2.1) (by decide) (by decide) (hw _ _))

theorem row_stgCntClear {m : Master} {value : Word} {env : Env} {s : State} (g : Granted m STG_CNT_CLEAR s) :
    exec (.stgCntClear m value env) s = .next (replied m STG_CNT_CLEAR (acc (stgCntClear (value.toNat % 2 ^ 32 &&& 4294967295) (picked m STG_CNT_CLEAR s)))) := by
  have hw : ∀ v s', unitWrite m 7 0x154 0 v env s' = some (acc (stgCntClear v s')) := fun _ _ => rfl
  exact congrArg Host.Outcome.next (write_rule g (u := 7) (off := 0x154) (d := ⟨0x154, 0x1000000, 1, 1, .wo, 0x0, 0x0, 0xFFFFFFFF⟩) rfl (by decide) (look7.2.2) (by decide) (by decide) (hw _ _))

theorem row_brgBasicWrite {m : Master} {value : Word} {env : Env} {s : State} (g : Granted m (UNIT_BASIC uBRG) s) :
    exec (.brgBasicWrite m value env) s = .next (replied m (UNIT_BASIC uBRG) (brgBasicWrite (value.toNat % 2 ^ 32 &&& 4294905603) (picked m (UNIT_BASIC uBRG) s))) := by
  have hw : ∀ v s', unitWrite m 8 0x18 4294905603 v env s' = some (brgBasicWrite v s') := fun _ _ => rfl
  exact congrArg Host.Outcome.next (write_rule g (u := 8) (off := 0x18) (d := ⟨0x18, 0x1000000, 1, 1, .rw, 0xFFFF0B02, 0xFFFF0F03, 0xFFFF0F03⟩) rfl (by decide) (look8.1) (by decide) (by decide) (hw _ _))

theorem row_brgCoreRun {m : Master} {core : Fin 16} {value : Word} {env : Env} {s : State} (g : Granted m (BRG_CORE_CTRL core.val) s) :
    exec (.brgCoreRun m core value env) s = .next (replied m (BRG_CORE_CTRL core.val) (brgCtrlWrite (0x1000 + 0x40 * core.val) core.val ((setBits value.toNat 0 1 1) % 2 ^ 32 &&& 15) (picked m (BRG_CORE_CTRL core.val) s))) := by
  have hd : ∀ (core : Fin 16), (unitRegs 8).find? (fun d => d.covers (0x1000 + 64 * core.val)) = some ⟨0x1000, 0x40, 16, 1, .wo, 0x0, 0x0, 0xF⟩ := (look8.2.1)
  have hw : ∀ v s', unitWrite m 8 (0x1000 + 64 * core.val) 0 v env s' = some (brgCtrlWrite (0x1000 + 0x40 * core.val) core.val v s') := by
    intro v s'
    have := core.isLt
    have h1 : (0x1000 + 64 * core.val - 0x1000) / 0x40 = core.val := by omega
    have h2 : (0x1000 + 64 * core.val) % 0x40 = 0 := by omega
    have h3 : (0x1000 ≤ 0x1000 + 64 * core.val && decide (0x1000 + 64 * core.val < 0x1400)) = true := by simp; omega
    show brgWrite (0x1000 + 64 * core.val) v s' = _
    unfold brgWrite
    generalize ho : 0x1000 + 64 * core.val = o at *
    split
    all_goals first | omega | skip
    simp only [h3, h1, h2, if_true]
  exact congrArg Host.Outcome.next (write_rule g (u := 8) (off := 0x1000 + 64 * core.val) (by unfold BRG_CORE_CTRL; omega) (by omega) (hd core) (by decide) (by unfold BRG_CORE_CTRL; omega) (hw _ _))

theorem row_brgCoreHalt {m : Master} {core : Fin 16} {value : Word} {env : Env} {s : State} (g : Granted m (BRG_CORE_CTRL core.val) s) :
    exec (.brgCoreHalt m core value env) s = .next (replied m (BRG_CORE_CTRL core.val) (brgCtrlWrite (0x1000 + 0x40 * core.val) core.val ((setBits value.toNat 1 1 1) % 2 ^ 32 &&& 15) (picked m (BRG_CORE_CTRL core.val) s))) := by
  have hd : ∀ (core : Fin 16), (unitRegs 8).find? (fun d => d.covers (0x1000 + 64 * core.val)) = some ⟨0x1000, 0x40, 16, 1, .wo, 0x0, 0x0, 0xF⟩ := (look8.2.1)
  have hw : ∀ v s', unitWrite m 8 (0x1000 + 64 * core.val) 0 v env s' = some (brgCtrlWrite (0x1000 + 0x40 * core.val) core.val v s') := by
    intro v s'
    have := core.isLt
    have h1 : (0x1000 + 64 * core.val - 0x1000) / 0x40 = core.val := by omega
    have h2 : (0x1000 + 64 * core.val) % 0x40 = 0 := by omega
    have h3 : (0x1000 ≤ 0x1000 + 64 * core.val && decide (0x1000 + 64 * core.val < 0x1400)) = true := by simp; omega
    show brgWrite (0x1000 + 64 * core.val) v s' = _
    unfold brgWrite
    generalize ho : 0x1000 + 64 * core.val = o at *
    split
    all_goals first | omega | skip
    simp only [h3, h1, h2, if_true]
  exact congrArg Host.Outcome.next (write_rule g (u := 8) (off := 0x1000 + 64 * core.val) (by unfold BRG_CORE_CTRL; omega) (by omega) (hd core) (by decide) (by unfold BRG_CORE_CTRL; omega) (hw _ _))

theorem row_brgCoreStep {m : Master} {core : Fin 16} {value : Word} {env : Env} {s : State} (g : Granted m (BRG_CORE_CTRL core.val) s) :
    exec (.brgCoreStep m core value env) s = .next (replied m (BRG_CORE_CTRL core.val) (brgCtrlWrite (0x1000 + 0x40 * core.val) core.val ((setBits value.toNat 2 1 1) % 2 ^ 32 &&& 15) (picked m (BRG_CORE_CTRL core.val) s))) := by
  have hd : ∀ (core : Fin 16), (unitRegs 8).find? (fun d => d.covers (0x1000 + 64 * core.val)) = some ⟨0x1000, 0x40, 16, 1, .wo, 0x0, 0x0, 0xF⟩ := (look8.2.1)
  have hw : ∀ v s', unitWrite m 8 (0x1000 + 64 * core.val) 0 v env s' = some (brgCtrlWrite (0x1000 + 0x40 * core.val) core.val v s') := by
    intro v s'
    have := core.isLt
    have h1 : (0x1000 + 64 * core.val - 0x1000) / 0x40 = core.val := by omega
    have h2 : (0x1000 + 64 * core.val) % 0x40 = 0 := by omega
    have h3 : (0x1000 ≤ 0x1000 + 64 * core.val && decide (0x1000 + 64 * core.val < 0x1400)) = true := by simp; omega
    show brgWrite (0x1000 + 64 * core.val) v s' = _
    unfold brgWrite
    generalize ho : 0x1000 + 64 * core.val = o at *
    split
    all_goals first | omega | skip
    simp only [h3, h1, h2, if_true]
  exact congrArg Host.Outcome.next (write_rule g (u := 8) (off := 0x1000 + 64 * core.val) (by unfold BRG_CORE_CTRL; omega) (by omega) (hd core) (by decide) (by unfold BRG_CORE_CTRL; omega) (hw _ _))

theorem row_brgCoreLoadbi {m : Master} {core : Fin 16} {value : Word} {env : Env} {s : State} (g : Granted m (BRG_CORE_CTRL core.val) s) :
    exec (.brgCoreLoadbi m core value env) s = .next (replied m (BRG_CORE_CTRL core.val) (brgCtrlWrite (0x1000 + 0x40 * core.val) core.val ((setBits value.toNat 3 1 1) % 2 ^ 32 &&& 15) (picked m (BRG_CORE_CTRL core.val) s))) := by
  have hd : ∀ (core : Fin 16), (unitRegs 8).find? (fun d => d.covers (0x1000 + 64 * core.val)) = some ⟨0x1000, 0x40, 16, 1, .wo, 0x0, 0x0, 0xF⟩ := (look8.2.1)
  have hw : ∀ v s', unitWrite m 8 (0x1000 + 64 * core.val) 0 v env s' = some (brgCtrlWrite (0x1000 + 0x40 * core.val) core.val v s') := by
    intro v s'
    have := core.isLt
    have h1 : (0x1000 + 64 * core.val - 0x1000) / 0x40 = core.val := by omega
    have h2 : (0x1000 + 64 * core.val) % 0x40 = 0 := by omega
    have h3 : (0x1000 ≤ 0x1000 + 64 * core.val && decide (0x1000 + 64 * core.val < 0x1400)) = true := by simp; omega
    show brgWrite (0x1000 + 64 * core.val) v s' = _
    unfold brgWrite
    generalize ho : 0x1000 + 64 * core.val = o at *
    split
    all_goals first | omega | skip
    simp only [h3, h1, h2, if_true]
  exact congrArg Host.Outcome.next (write_rule g (u := 8) (off := 0x1000 + 64 * core.val) (by unfold BRG_CORE_CTRL; omega) (by omega) (hd core) (by decide) (by unfold BRG_CORE_CTRL; omega) (hw _ _))

theorem row_brgDoorbell {m : Master} {core : Fin 16} {value : Word} {env : Env} {s : State} (g : Granted m (BRG_CORE_DOORBELL core.val) s) :
    exec (.brgDoorbell m core value env) s = .next (replied m (BRG_CORE_DOORBELL core.val) (acc (if bit ((value.toNat % 2 ^ 32 &&& 1)) 0 then (picked m (BRG_CORE_DOORBELL core.val) s).setReg (BRG_CORE_DOORBELL core.val) 1 else (picked m (BRG_CORE_DOORBELL core.val) s)))) := by
  have hd : ∀ (core : Fin 16), (unitRegs 8).find? (fun d => d.covers (0x1014 + 64 * core.val)) = some ⟨0x1014, 0x40, 16, 1, .ws, 0x0, 0x0, 0x1⟩ := (look8.2.2.1)
  have hw : ∀ v s', unitWrite m 8 (0x1014 + 64 * core.val) 0 v env s' = some (acc (if bit (v) 0 then s'.setReg (BRG_CORE_DOORBELL core.val) 1 else s')) := by
    intro v s'
    have := core.isLt
    have h1 : (0x1014 + 64 * core.val - 0x1000) / 0x40 = core.val := by omega
    have h2 : (0x1014 + 64 * core.val) % 0x40 = 0x14 := by omega
    have h3 : (0x1000 ≤ 0x1014 + 64 * core.val && decide (0x1014 + 64 * core.val < 0x1400)) = true := by simp; omega
    show brgWrite (0x1014 + 64 * core.val) v s' = _
    unfold brgWrite
    generalize ho : 0x1014 + 64 * core.val = o at *
    split
    all_goals first | omega | skip
    simp only [h3, h1, h2, if_true]
  exact congrArg Host.Outcome.next (write_rule g (u := 8) (off := 0x1014 + 64 * core.val) (by unfold BRG_CORE_DOORBELL; omega) (by omega) (hd core) (by decide) (by unfold BRG_CORE_DOORBELL; omega) (hw _ _))

theorem row_brgDirSwitchArm {m : Master} {value : Word} {env : Env} {s : State} (g : Granted m BRG_DIR_CTRL s) :
    exec (.brgDirSwitchArm m value env) s = .next (replied m BRG_DIR_CTRL (acc (brgDirArm (value.toNat % 2 ^ 32 &&& 769) (picked m BRG_DIR_CTRL s)))) := by
  have hw : ∀ v s', unitWrite m 8 0x11C 1 v env s' = some (acc (brgDirArm v s')) := fun _ _ => rfl
  exact congrArg Host.Outcome.next (write_rule g (u := 8) (off := 0x11C) (d := ⟨0x11C, 0x1000000, 1, 1, .rw, 0x0, 0x1, 0x301⟩) rfl (by decide) (look8.2.2.2.1) (by decide) (by decide) (hw _ _))

theorem row_brgCntClear {m : Master} {value : Word} {env : Env} {s : State} (g : Granted m BRG_CNT_CLEAR s) :
    exec (.brgCntClear m value env) s = .next (replied m BRG_CNT_CLEAR (acc (brgCntClear (value.toNat % 2 ^ 32 &&& 4294967295) (picked m BRG_CNT_CLEAR s)))) := by
  have hw : ∀ v s', unitWrite m 8 0x120 0 v env s' = some (acc (brgCntClear v s')) := fun _ _ => rfl
  exact congrArg Host.Outcome.next (write_rule g (u := 8) (off := 0x120) (d := ⟨0x120, 0x1000000, 1, 1, .wo, 0x0, 0x0, 0xFFFFFFFF⟩) rfl (by decide) (look8.2.2.2.2) (by decide) (by decide) (hw _ _))

theorem row_xarBasicWrite {m : Master} {value : Word} {env : Env} {s : State} (g : Granted m (UNIT_BASIC uXAR) s) :
    exec (.xarBasicWrite m value env) s = .next (replied m (UNIT_BASIC uXAR) (xarBasicWrite (value.toNat % 2 ^ 32 &&& 305) (picked m (UNIT_BASIC uXAR) s))) := by
  have hw : ∀ v s', unitWrite m 9 0x18 305 v env s' = some (xarBasicWrite v s') := fun _ _ => rfl
  exact congrArg Host.Outcome.next (write_rule g (u := 9) (off := 0x18) (d := ⟨0x18, 0x1000000, 1, 1, .rw, 0x101, 0x131, 0x131⟩) rfl (by decide) (look9.1) (by decide) (by decide) (hw _ _))

theorem row_xarEnableWrite {m : Master} {reg : Fin 3} {value : Word} {env : Env} {s : State} {d : RegDesc} (g : Granted m (XAR_ENABLE_0 + 4 * reg.val) s) (hd : (unitRegs 9).find? (fun d => d.covers (0x100 + 4 * reg.val)) = some d) (hacc : d.acc ≠ .ro ∧ d.acc ≠ .wc) :
    exec (.xarEnableWrite m reg value env) s = .next (replied m (XAR_ENABLE_0 + 4 * reg.val) (acc (Sys2Proof.Machine.xarEnableWrite reg.val (value.toNat % 2 ^ 32 &&& d.vmask) (picked m (XAR_ENABLE_0 + 4 * reg.val) s)))) := by
  have hw : ∀ v s', unitWrite m 9 (0x100 + 4 * reg.val) d.wmask v env s' = some (acc (Sys2Proof.Machine.xarEnableWrite reg.val v s')) := by
    intro v s'
    have := reg.isLt
    clear hd hacc g
    obtain ⟨r, hr⟩ := reg
    have : r = 0 ∨ r = 1 ∨ r = 2 := by omega
    rcases this with rfl | rfl | rfl <;> rfl
  exact congrArg Host.Outcome.next (write_rule g (u := 9) (off := 0x100 + 4 * reg.val) (by unfold XAR_ENABLE_0; omega) (by omega) hd hacc (by unfold XAR_ENABLE_0; omega) (hw _ _))

theorem row_xarCntClear {m : Master} {value : Word} {env : Env} {s : State} (g : Granted m XAR_CNT_CLEAR s) :
    exec (.xarCntClear m value env) s = .next (replied m XAR_CNT_CLEAR (acc (xarCntClear (value.toNat % 2 ^ 32 &&& 4294967295) (picked m XAR_CNT_CLEAR s)))) := by
  have hw : ∀ v s', unitWrite m 9 0x130 0 v env s' = some (acc (xarCntClear v s')) := fun _ _ => rfl
  exact congrArg Host.Outcome.next (write_rule g (u := 9) (off := 0x130) (d := ⟨0x130, 0x1000000, 1, 1, .wo, 0x0, 0x0, 0xFFFFFFFF⟩) rfl (by decide) (look9.2) (by decide) (by decide) (hw _ _))

theorem row_accBasicWrite {m : Master} {value : Word} {env : Env} {s : State} (g : Granted m (UNIT_BASIC uACC) s) :
    exec (.accBasicWrite m value env) s = .next (replied m (UNIT_BASIC uACC) (accBasicWrite (value.toNat % 2 ^ 32 &&& 16727935) (picked m (UNIT_BASIC uACC) s))) := by
  have hw : ∀ v s', unitWrite m 10 0x18 16727935 v env s' = some (accBasicWrite v s') := fun _ _ => rfl
  exact congrArg Host.Outcome.next (write_rule g (u := 10) (off := 0x18) (d := ⟨0x18, 0x1000000, 1, 1, .rw, 0x11067, 0xFF3F7F, 0xFF3F7F⟩) rfl (by decide) (look10.1) (by decide) (by decide) (hw _ _))

theorem row_accDrain {m : Master} {value : Word} {env : Env} {s : State} (g : Granted m ACC_CTRL s) :
    exec (.accDrain m value env) s = .next (replied m ACC_CTRL (acc (drainCtrl ((setBits value.toNat 4 1 1) % 2 ^ 32 &&& 63) (picked m ACC_CTRL s)))) := by
  have hw : ∀ v s', unitWrite m 10 0x100 0 v env s' = some (acc (drainCtrl v s')) := fun _ _ => rfl
  exact congrArg Host.Outcome.next (write_rule g (u := 10) (off := 0x100) (d := ⟨0x100, 0x1000000, 1, 1, .wo, 0x0, 0x0, 0x3F⟩) rfl (by decide) (look10.2.1) (by decide) (by decide) (hw _ _))

theorem row_skReset {m : Master} {value : Word} {env : Env} {s : State} (g : Granted m ACC_CTRL s) :
    exec (.skReset m value env) s = .next (replied m ACC_CTRL (acc (drainCtrl ((setBits value.toNat 5 1 1) % 2 ^ 32 &&& 63) (picked m ACC_CTRL s)))) := by
  have hw : ∀ v s', unitWrite m 10 0x100 0 v env s' = some (acc (drainCtrl v s')) := fun _ _ => rfl
  exact congrArg Host.Outcome.next (write_rule g (u := 10) (off := 0x100) (d := ⟨0x100, 0x1000000, 1, 1, .wo, 0x0, 0x0, 0x3F⟩) rfl (by decide) (look10.2.1) (by decide) (by decide) (hw _ _))

theorem row_accCntClear {m : Master} {value : Word} {env : Env} {s : State} (g : Granted m ACC_CNT_CLEAR s) :
    exec (.accCntClear m value env) s = .next (replied m ACC_CNT_CLEAR (acc (accCntClear (value.toNat % 2 ^ 32 &&& 4294967295) (picked m ACC_CNT_CLEAR s)))) := by
  have hw : ∀ v s', unitWrite m 10 0x10C 0 v env s' = some (acc (accCntClear v s')) := fun _ _ => rfl
  exact congrArg Host.Outcome.next (write_rule g (u := 10) (off := 0x10C) (d := ⟨0x10C, 0x1000000, 1, 1, .wo, 0x0, 0x0, 0xFFFFFFFF⟩) rfl (by decide) (look10.2.2) (by decide) (by decide) (hw _ _))

theorem row_atlBasicWrite {m : Master} {value : Word} {env : Env} {s : State} (g : Granted m (UNIT_BASIC uATL) s) :
    exec (.atlBasicWrite m value env) s = .next (replied m (UNIT_BASIC uATL) (atlBasicWrite (value.toNat % 2 ^ 32 &&& 65287) (picked m (UNIT_BASIC uATL) s))) := by
  have hw : ∀ v s', unitWrite m 11 0x18 65287 v env s' = some (atlBasicWrite v s') := fun _ _ => rfl
  exact congrArg Host.Outcome.next (write_rule g (u := 11) (off := 0x18) (d := ⟨0x18, 0x1000000, 1, 1, .rw, 0x4007, 0xFF07, 0xFF07⟩) rfl (by decide) (look11.1) (by decide) (by decide) (hw _ _))

theorem row_atlRegionWrite {m : Master} {plan : Fin 16} {reg : Fin 2} {value : Word} {env : Env} {s : State} {d : RegDesc} (g : Granted m (ATL_PLAN_BASE plan.val + 4 * reg.val) s) (hd : (unitRegs 11).find? (fun d => d.covers (0x1000 + 16 * plan.val + 4 * reg.val)) = some d) (hacc : d.acc ≠ .ro ∧ d.acc ≠ .wc) :
    exec (.atlRegionWrite m plan reg value env) s = .next (replied m (ATL_PLAN_BASE plan.val + 4 * reg.val) (Sys2Proof.Machine.atlRegionWrite plan.val (0x1000 + 16 * plan.val + 4 * reg.val) (decide (reg.val = 1)) (value.toNat % 2 ^ 32 &&& d.vmask) (picked m (ATL_PLAN_BASE plan.val + 4 * reg.val) s))) := by
  have hw : ∀ v s', unitWrite m 11 (0x1000 + 16 * plan.val + 4 * reg.val) d.wmask v env s' = some (Sys2Proof.Machine.atlRegionWrite plan.val (0x1000 + 16 * plan.val + 4 * reg.val) (decide (reg.val = 1)) v s') := by
    intro v s'
    have := plan.isLt
    clear hd hacc g
    have hp := plan.isLt
    show atlWriteWith _ _ (0x1000 + 16 * plan.val + 4 * reg.val) v s' = _
    unfold atlWriteWith
    have h3 : (0x1000 + 16 * plan.val + 4 * reg.val - 0x1000) / 16 = plan.val := by omega
    have h4 : (0x1000 + 16 * plan.val + 4 * reg.val) % 16 = 4 * reg.val := by omega
    have h5 : 0x1000 ≤ 0x1000 + 16 * plan.val + 4 * reg.val := by omega
    have h6 : 0x1000 + 16 * plan.val + 4 * reg.val < 0x1100 := by omega
    generalize 0x1000 + 16 * plan.val + 4 * reg.val = o at *
    split
    all_goals first | omega | skip
    simp only [h3, h4, h5, h6, decide_true, Bool.and_true, Bool.true_and, decide_eq_true_eq]
    have : reg.val = 0 ∨ reg.val = 1 := by omega
    rcases this with e | e <;> simp [e]
  exact congrArg Host.Outcome.next (write_rule g (u := 11) (off := 0x1000 + 16 * plan.val + 4 * reg.val) (by unfold ATL_PLAN_BASE; omega) (by omega) hd hacc (by unfold ATL_PLAN_BASE; omega) (hw _ _))

theorem row_statsReset {m : Master} {value : Word} {env : Env} {s : State} (g : Granted m ATL_CTRL s) :
    exec (.statsReset m value env) s = .next (replied m ATL_CTRL (atlCtrlWrite ((setBits value.toNat 4 1 1) % 2 ^ 32 &&& 63) (picked m ATL_CTRL s))) := by
  have hw : ∀ v s', unitWrite m 11 0x100 0 v env s' = some (atlCtrlWrite v s') := fun _ _ => rfl
  exact congrArg Host.Outcome.next (write_rule g (u := 11) (off := 0x100) (d := ⟨0x100, 0x1000000, 1, 1, .wo, 0x0, 0x0, 0x3F⟩) rfl (by decide) (look11.2.1) (by decide) (by decide) (hw _ _))

theorem row_atlUnload {m : Master} {value : Word} {env : Env} {s : State} (g : Granted m ATL_CTRL s) :
    exec (.atlUnload m value env) s = .next (replied m ATL_CTRL (atlCtrlWrite ((setBits value.toNat 5 1 1) % 2 ^ 32 &&& 63) (picked m ATL_CTRL s))) := by
  have hw : ∀ v s', unitWrite m 11 0x100 0 v env s' = some (atlCtrlWrite v s') := fun _ _ => rfl
  exact congrArg Host.Outcome.next (write_rule g (u := 11) (off := 0x100) (d := ⟨0x100, 0x1000000, 1, 1, .wo, 0x0, 0x0, 0x3F⟩) rfl (by decide) (look11.2.1) (by decide) (by decide) (hw _ _))

theorem row_atlRead {m : Master} {value : Word} {env : Env} {s : State} (g : Granted m ATL_OP_CTRL s) :
    exec (.atlRead m value env) s = .next (replied m ATL_OP_CTRL (atlOpWrite ((setBits (setBits value.toNat 0 2 1) 8 1 1) % 2 ^ 32 &&& 1011) env.fast.val (picked m ATL_OP_CTRL s))) := by
  have hw : ∀ v s', unitWrite m 11 0x148 0 v env s' = some (atlOpWrite v env.fast.val s') := fun _ _ => rfl
  exact congrArg Host.Outcome.next (write_rule g (u := 11) (off := 0x148) (d := ⟨0x148, 0x1000000, 1, 1, .wo, 0x0, 0x0, 0x3F3⟩) rfl (by decide) (look11.2.2.1) (by decide) (by decide) (hw _ _))

theorem row_atlEvict {m : Master} {value : Word} {env : Env} {s : State} (g : Granted m ATL_OP_CTRL s) :
    exec (.atlEvict m value env) s = .next (replied m ATL_OP_CTRL (atlOpWrite ((setBits (setBits value.toNat 0 2 2) 8 1 1) % 2 ^ 32 &&& 1011) env.fast.val (picked m ATL_OP_CTRL s))) := by
  have hw : ∀ v s', unitWrite m 11 0x148 0 v env s' = some (atlOpWrite v env.fast.val s') := fun _ _ => rfl
  exact congrArg Host.Outcome.next (write_rule g (u := 11) (off := 0x148) (d := ⟨0x148, 0x1000000, 1, 1, .wo, 0x0, 0x0, 0x3F3⟩) rfl (by decide) (look11.2.2.1) (by decide) (by decide) (hw _ _))

theorem row_atlOpAbort {m : Master} {value : Word} {env : Env} {s : State} (g : Granted m ATL_OP_CTRL s) :
    exec (.atlOpAbort m value env) s = .next (replied m ATL_OP_CTRL (atlOpWrite ((setBits value.toNat 9 1 1) % 2 ^ 32 &&& 1011) env.fast.val (picked m ATL_OP_CTRL s))) := by
  have hw : ∀ v s', unitWrite m 11 0x148 0 v env s' = some (atlOpWrite v env.fast.val s') := fun _ _ => rfl
  exact congrArg Host.Outcome.next (write_rule g (u := 11) (off := 0x148) (d := ⟨0x148, 0x1000000, 1, 1, .wo, 0x0, 0x0, 0x3F3⟩) rfl (by decide) (look11.2.2.1) (by decide) (by decide) (hw _ _))

theorem row_descSnapshot {m : Master} {value : Word} {env : Env} {s : State} (g : Granted m ATL_DESC_INDEX s) :
    exec (.descSnapshot m value env) s = .next (replied m ATL_DESC_INDEX ((⟨decide (env.err.val ≠ 2), Sys2Proof.Machine.descSnapshot (((value.toNat % 2 ^ 32 &&& 4194303)) % 2 ^ 22) env.err.val (picked m ATL_DESC_INDEX s)⟩ : WOut))) := by
  have hw : ∀ v s', unitWrite m 11 0x12C 4194303 v env s' = some ((⟨decide (env.err.val ≠ 2), Sys2Proof.Machine.descSnapshot ((v) % 2 ^ 22) env.err.val s'⟩ : WOut)) := fun _ _ => rfl
  exact congrArg Host.Outcome.next (write_rule g (u := 11) (off := 0x12C) (d := ⟨0x12C, 0x1000000, 1, 1, .rw, 0x0, 0x3FFFFF, 0x3FFFFF⟩) rfl (by decide) (look11.2.2.2.1) (by decide) (by decide) (hw _ _))

theorem row_atlQuarantine {m : Master} {value : Word} {env : Env} {s : State} (g : Granted m ATL_QUAR_CTRL s) :
    exec (.atlQuarantine m value env) s = .next (replied m ATL_QUAR_CTRL (acc (quarCtrlWrite ((setBits value.toNat 8 1 1) % 2 ^ 32 &&& 831) (picked m ATL_QUAR_CTRL s)))) := by
  have hw : ∀ v s', unitWrite m 11 0x124 0 v env s' = some (acc (quarCtrlWrite v s')) := fun _ _ => rfl
  exact congrArg Host.Outcome.next (write_rule g (u := 11) (off := 0x124) (d := ⟨0x124, 0x1000000, 1, 1, .wo, 0x0, 0x0, 0x33F⟩) rfl (by decide) (look11.2.2.2.2.1) (by decide) (by decide) (hw _ _))

theorem row_atlRelease {m : Master} {value : Word} {env : Env} {s : State} (g : Granted m ATL_QUAR_CTRL s) :
    exec (.atlRelease m value env) s = .next (replied m ATL_QUAR_CTRL (acc (quarCtrlWrite ((setBits value.toNat 9 1 1) % 2 ^ 32 &&& 831) (picked m ATL_QUAR_CTRL s)))) := by
  have hw : ∀ v s', unitWrite m 11 0x124 0 v env s' = some (acc (quarCtrlWrite v s')) := fun _ _ => rfl
  exact congrArg Host.Outcome.next (write_rule g (u := 11) (off := 0x124) (d := ⟨0x124, 0x1000000, 1, 1, .wo, 0x0, 0x0, 0x33F⟩) rfl (by decide) (look11.2.2.2.2.1) (by decide) (by decide) (hw _ _))

theorem row_atlCntClear {m : Master} {value : Word} {env : Env} {s : State} (g : Granted m ATL_CNT_CLEAR s) :
    exec (.atlCntClear m value env) s = .next (replied m ATL_CNT_CLEAR (acc (atlCntClear (value.toNat % 2 ^ 32 &&& 4294967295) (picked m ATL_CNT_CLEAR s)))) := by
  have hw : ∀ v s', unitWrite m 11 0x150 0 v env s' = some (acc (atlCntClear v s')) := fun _ _ => rfl
  exact congrArg Host.Outcome.next (write_rule g (u := 11) (off := 0x150) (d := ⟨0x150, 0x1000000, 1, 1, .wo, 0x0, 0x0, 0xFFFFFFFF⟩) rfl (by decide) (look11.2.2.2.2.2) (by decide) (by decide) (hw _ _))

theorem row_svyBasicWrite {m : Master} {value : Word} {env : Env} {s : State} (g : Granted m (UNIT_BASIC uSVY) s) :
    exec (.svyBasicWrite m value env) s = .next (replied m (UNIT_BASIC uSVY) (svyBasicWrite (value.toNat % 2 ^ 32 &&& 65281) (picked m (UNIT_BASIC uSVY) s))) := by
  have hw : ∀ v s', unitWrite m 13 0x18 65281 v env s' = some (svyBasicWrite v s') := fun _ _ => rfl
  exact congrArg Host.Outcome.next (write_rule g (u := 13) (off := 0x18) (d := ⟨0x18, 0x1000000, 1, 1, .rw, 0xB00, 0xFF01, 0xFF01⟩) rfl (by decide) (look13.1) (by decide) (by decide) (hw _ _))

theorem row_svyLoad {m : Master} {core : Fin 8} {value : Word} {env : Env} {s : State} (g : Granted m (SVY_CORE_CTRL core.val) s) :
    exec (.svyLoad m core value env) s = .next (replied m (SVY_CORE_CTRL core.val) (svyCtrlWrite core.val ((setBits value.toNat 0 1 1) % 2 ^ 32 &&& 127) (picked m (SVY_CORE_CTRL core.val) s))) := by
  have hd : ∀ (core : Fin 8), (unitRegs 13).find? (fun d => d.covers (0x1000 + 128 * core.val)) = some ⟨0x1000, 0x80, 8, 1, .wo, 0x0, 0x0, 0x7F⟩ := (look13.2.1)
  have hw : ∀ v s', unitWrite m 13 (0x1000 + 128 * core.val) 0 v env s' = some (svyCtrlWrite core.val v s') := by
    intro v s'
    have := core.isLt
    unfold unitWrite svyWrite
    grind
  exact congrArg Host.Outcome.next (write_rule g (u := 13) (off := 0x1000 + 128 * core.val) (by unfold SVY_CORE_CTRL; omega) (by omega) (hd core) (by decide) (by unfold SVY_CORE_CTRL; omega) (hw _ _))

theorem row_svyStart {m : Master} {core : Fin 8} {value : Word} {env : Env} {s : State} (g : Granted m (SVY_CORE_CTRL core.val) s) :
    exec (.svyStart m core value env) s = .next (replied m (SVY_CORE_CTRL core.val) (svyCtrlWrite core.val ((setBits value.toNat 1 1 1) % 2 ^ 32 &&& 127) (picked m (SVY_CORE_CTRL core.val) s))) := by
  have hd : ∀ (core : Fin 8), (unitRegs 13).find? (fun d => d.covers (0x1000 + 128 * core.val)) = some ⟨0x1000, 0x80, 8, 1, .wo, 0x0, 0x0, 0x7F⟩ := (look13.2.1)
  have hw : ∀ v s', unitWrite m 13 (0x1000 + 128 * core.val) 0 v env s' = some (svyCtrlWrite core.val v s') := by
    intro v s'
    have := core.isLt
    unfold unitWrite svyWrite
    grind
  exact congrArg Host.Outcome.next (write_rule g (u := 13) (off := 0x1000 + 128 * core.val) (by unfold SVY_CORE_CTRL; omega) (by omega) (hd core) (by decide) (by unfold SVY_CORE_CTRL; omega) (hw _ _))

theorem row_svyStop {m : Master} {core : Fin 8} {value : Word} {env : Env} {s : State} (g : Granted m (SVY_CORE_CTRL core.val) s) :
    exec (.svyStop m core value env) s = .next (replied m (SVY_CORE_CTRL core.val) (svyCtrlWrite core.val ((setBits value.toNat 2 1 1) % 2 ^ 32 &&& 127) (picked m (SVY_CORE_CTRL core.val) s))) := by
  have hd : ∀ (core : Fin 8), (unitRegs 13).find? (fun d => d.covers (0x1000 + 128 * core.val)) = some ⟨0x1000, 0x80, 8, 1, .wo, 0x0, 0x0, 0x7F⟩ := (look13.2.1)
  have hw : ∀ v s', unitWrite m 13 (0x1000 + 128 * core.val) 0 v env s' = some (svyCtrlWrite core.val v s') := by
    intro v s'
    have := core.isLt
    unfold unitWrite svyWrite
    grind
  exact congrArg Host.Outcome.next (write_rule g (u := 13) (off := 0x1000 + 128 * core.val) (by unfold SVY_CORE_CTRL; omega) (by omega) (hd core) (by decide) (by unfold SVY_CORE_CTRL; omega) (hw _ _))

theorem row_svyKill {m : Master} {core : Fin 8} {value : Word} {env : Env} {s : State} (g : Granted m (SVY_CORE_CTRL core.val) s) :
    exec (.svyKill m core value env) s = .next (replied m (SVY_CORE_CTRL core.val) (svyCtrlWrite core.val ((setBits value.toNat 3 1 1) % 2 ^ 32 &&& 127) (picked m (SVY_CORE_CTRL core.val) s))) := by
  have hd : ∀ (core : Fin 8), (unitRegs 13).find? (fun d => d.covers (0x1000 + 128 * core.val)) = some ⟨0x1000, 0x80, 8, 1, .wo, 0x0, 0x0, 0x7F⟩ := (look13.2.1)
  have hw : ∀ v s', unitWrite m 13 (0x1000 + 128 * core.val) 0 v env s' = some (svyCtrlWrite core.val v s') := by
    intro v s'
    have := core.isLt
    unfold unitWrite svyWrite
    grind
  exact congrArg Host.Outcome.next (write_rule g (u := 13) (off := 0x1000 + 128 * core.val) (by unfold SVY_CORE_CTRL; omega) (by omega) (hd core) (by decide) (by unfold SVY_CORE_CTRL; omega) (hw _ _))

theorem row_svySuspend {m : Master} {core : Fin 8} {value : Word} {env : Env} {s : State} (g : Granted m (SVY_CORE_CTRL core.val) s) :
    exec (.svySuspend m core value env) s = .next (replied m (SVY_CORE_CTRL core.val) (svyCtrlWrite core.val ((setBits value.toNat 4 1 1) % 2 ^ 32 &&& 127) (picked m (SVY_CORE_CTRL core.val) s))) := by
  have hd : ∀ (core : Fin 8), (unitRegs 13).find? (fun d => d.covers (0x1000 + 128 * core.val)) = some ⟨0x1000, 0x80, 8, 1, .wo, 0x0, 0x0, 0x7F⟩ := (look13.2.1)
  have hw : ∀ v s', unitWrite m 13 (0x1000 + 128 * core.val) 0 v env s' = some (svyCtrlWrite core.val v s') := by
    intro v s'
    have := core.isLt
    unfold unitWrite svyWrite
    grind
  exact congrArg Host.Outcome.next (write_rule g (u := 13) (off := 0x1000 + 128 * core.val) (by unfold SVY_CORE_CTRL; omega) (by omega) (hd core) (by decide) (by unfold SVY_CORE_CTRL; omega) (hw _ _))

theorem row_svyResume {m : Master} {core : Fin 8} {value : Word} {env : Env} {s : State} (g : Granted m (SVY_CORE_CTRL core.val) s) :
    exec (.svyResume m core value env) s = .next (replied m (SVY_CORE_CTRL core.val) (svyCtrlWrite core.val ((setBits value.toNat 5 1 1) % 2 ^ 32 &&& 127) (picked m (SVY_CORE_CTRL core.val) s))) := by
  have hd : ∀ (core : Fin 8), (unitRegs 13).find? (fun d => d.covers (0x1000 + 128 * core.val)) = some ⟨0x1000, 0x80, 8, 1, .wo, 0x0, 0x0, 0x7F⟩ := (look13.2.1)
  have hw : ∀ v s', unitWrite m 13 (0x1000 + 128 * core.val) 0 v env s' = some (svyCtrlWrite core.val v s') := by
    intro v s'
    have := core.isLt
    unfold unitWrite svyWrite
    grind
  exact congrArg Host.Outcome.next (write_rule g (u := 13) (off := 0x1000 + 128 * core.val) (by unfold SVY_CORE_CTRL; omega) (by omega) (hd core) (by decide) (by unfold SVY_CORE_CTRL; omega) (hw _ _))

theorem row_svyUnload {m : Master} {core : Fin 8} {value : Word} {env : Env} {s : State} (g : Granted m (SVY_CORE_CTRL core.val) s) :
    exec (.svyUnload m core value env) s = .next (replied m (SVY_CORE_CTRL core.val) (svyCtrlWrite core.val ((setBits value.toNat 6 1 1) % 2 ^ 32 &&& 127) (picked m (SVY_CORE_CTRL core.val) s))) := by
  have hd : ∀ (core : Fin 8), (unitRegs 13).find? (fun d => d.covers (0x1000 + 128 * core.val)) = some ⟨0x1000, 0x80, 8, 1, .wo, 0x0, 0x0, 0x7F⟩ := (look13.2.1)
  have hw : ∀ v s', unitWrite m 13 (0x1000 + 128 * core.val) 0 v env s' = some (svyCtrlWrite core.val v s') := by
    intro v s'
    have := core.isLt
    unfold unitWrite svyWrite
    grind
  exact congrArg Host.Outcome.next (write_rule g (u := 13) (off := 0x1000 + 128 * core.val) (by unfold SVY_CORE_CTRL; omega) (by omega) (hd core) (by decide) (by unfold SVY_CORE_CTRL; omega) (hw _ _))

theorem row_svyHostAbort {m : Master} {core : Fin 8} {value : Word} {env : Env} {s : State} (g : Granted m (SVY_CORE_ABORT core.val) s) :
    exec (.svyHostAbort m core value env) s = .next (replied m (SVY_CORE_ABORT core.val) (acc (Sys2Proof.Machine.svyHostAbort core.val (value.toNat % 2 ^ 32 &&& 4294967295) (picked m (SVY_CORE_ABORT core.val) s)))) := by
  have hd : ∀ (core : Fin 8), (unitRegs 13).find? (fun d => d.covers (0x1014 + 128 * core.val)) = some ⟨0x1014, 0x80, 8, 1, .wo, 0x0, 0x0, 0xFFFFFFFF⟩ := (look13.2.2.1)
  have hw : ∀ v s', unitWrite m 13 (0x1014 + 128 * core.val) 0 v env s' = some (acc (Sys2Proof.Machine.svyHostAbort core.val v s')) := by
    intro v s'
    have := core.isLt
    unfold unitWrite svyWrite
    grind
  exact congrArg Host.Outcome.next (write_rule g (u := 13) (off := 0x1014 + 128 * core.val) (by unfold SVY_CORE_ABORT; omega) (by omega) (hd core) (by decide) (by unfold SVY_CORE_ABORT; omega) (hw _ _))

theorem row_svyRegWrite {m : Master} {core : Fin 8} {value : Word} {env : Env} {s : State} (g : Granted m (SVY_CORE_REG_LO core.val) s) :
    exec (.svyRegWrite m core value env) s = .next (replied m (SVY_CORE_REG_LO core.val) (acc (Sys2Proof.Machine.svyRegWrite core.val (value.toNat % 2 ^ 32 &&& 4294967295) (picked m (SVY_CORE_REG_LO core.val) s)))) := by
  have hd : ∀ (core : Fin 8), (unitRegs 13).find? (fun d => d.covers (0x1020 + 128 * core.val)) = some ⟨0x1020, 0x80, 8, 1, .rw, 0x0, 0xFFFFFFFF, 0xFFFFFFFF⟩ := (look13.2.2.2.1)
  have hw : ∀ v s', unitWrite m 13 (0x1020 + 128 * core.val) 4294967295 v env s' = some (acc (Sys2Proof.Machine.svyRegWrite core.val v s')) := by
    intro v s'
    have := core.isLt
    unfold unitWrite svyWrite
    grind
  exact congrArg Host.Outcome.next (write_rule g (u := 13) (off := 0x1020 + 128 * core.val) (by unfold SVY_CORE_REG_LO; omega) (by omega) (hd core) (by decide) (by unfold SVY_CORE_REG_LO; omega) (hw _ _))

theorem row_svyCntClear {m : Master} {value : Word} {env : Env} {s : State} (g : Granted m SVY_CNT_CLEAR s) :
    exec (.svyCntClear m value env) s = .next (replied m SVY_CNT_CLEAR (acc (svyCntClear (value.toNat % 2 ^ 32 &&& 4294967295) (picked m SVY_CNT_CLEAR s)))) := by
  have hw : ∀ v s', unitWrite m 13 0x100 0 v env s' = some (acc (svyCntClear v s')) := fun _ _ => rfl
  exact congrArg Host.Outcome.next (write_rule g (u := 13) (off := 0x100) (d := ⟨0x100, 0x1000000, 1, 1, .wo, 0x0, 0x0, 0xFFFFFFFF⟩) rfl (by decide) (look13.2.2.2.2) (by decide) (by decide) (hw _ _))

theorem row_trpBasicWrite {m : Master} {value : Word} {env : Env} {s : State} (g : Granted m (UNIT_BASIC uTRP) s) :
    exec (.trpBasicWrite m value env) s = .next (replied m (UNIT_BASIC uTRP) (trpBasicWrite (value.toNat % 2 ^ 32 &&& 4294934279) (picked m (UNIT_BASIC uTRP) s))) := by
  have hw : ∀ v s', unitWrite m 17 0x18 4294934279 v env s' = some (trpBasicWrite v s') := fun _ _ => rfl
  exact congrArg Host.Outcome.next (write_rule g (u := 17) (off := 0x18) (d := ⟨0x18, 0x1000000, 1, 1, .rw, 0x6001004, 0xFFFF7F07, 0xFFFF7F07⟩) rfl (by decide) (look17.1) (by decide) (by decide) (hw _ _))

theorem row_trpApply {m : Master} {value : Word} {env : Env} {s : State} (g : Granted m TRP_CTRL s) :
    exec (.trpApply m value env) s = .next (replied m TRP_CTRL (trpCtrlWrite ((setBits value.toNat 0 1 1) % 2 ^ 32 &&& 7) (picked m TRP_CTRL s))) := by
  have hw : ∀ v s', unitWrite m 17 0x100 0 v env s' = some (trpCtrlWrite v s') := fun _ _ => rfl
  exact congrArg Host.Outcome.next (write_rule g (u := 17) (off := 0x100) (d := ⟨0x100, 0x1000000, 1, 1, .wo, 0x0, 0x0, 0x7⟩) rfl (by decide) (look17.2.1) (by decide) (by decide) (hw _ _))

theorem row_levelReset {m : Master} {value : Word} {env : Env} {s : State} (g : Granted m TRP_CTRL s) :
    exec (.levelReset m value env) s = .next (replied m TRP_CTRL (trpCtrlWrite ((setBits value.toNat 1 1 1) % 2 ^ 32 &&& 7) (picked m TRP_CTRL s))) := by
  have hw : ∀ v s', unitWrite m 17 0x100 0 v env s' = some (trpCtrlWrite v s') := fun _ _ => rfl
  exact congrArg Host.Outcome.next (write_rule g (u := 17) (off := 0x100) (d := ⟨0x100, 0x1000000, 1, 1, .wo, 0x0, 0x0, 0x7⟩) rfl (by decide) (look17.2.1) (by decide) (by decide) (hw _ _))

theorem row_repNext {m : Master} {value : Word} {env : Env} {s : State} (g : Granted m TRP_CTRL s) :
    exec (.repNext m value env) s = .next (replied m TRP_CTRL (trpCtrlWrite ((setBits value.toNat 2 1 1) % 2 ^ 32 &&& 7) (picked m TRP_CTRL s))) := by
  have hw : ∀ v s', unitWrite m 17 0x100 0 v env s' = some (trpCtrlWrite v s') := fun _ _ => rfl
  exact congrArg Host.Outcome.next (write_rule g (u := 17) (off := 0x100) (d := ⟨0x100, 0x1000000, 1, 1, .wo, 0x0, 0x0, 0x7⟩) rfl (by decide) (look17.2.1) (by decide) (by decide) (hw _ _))

theorem row_capRelease {m : Master} {value : Word} {env : Env} {s : State} (g : Granted m TRP_CAP_RELEASE s) :
    exec (.capRelease m value env) s = .next (replied m TRP_CAP_RELEASE (acc (if bit ((value.toNat % 2 ^ 32 &&& 4294967295)) 4 then foldS trpRelease (List.range 16) (picked m TRP_CAP_RELEASE s) else trpRelease (((value.toNat % 2 ^ 32 &&& 4294967295)) % 16) (picked m TRP_CAP_RELEASE s)))) := by
  have hw : ∀ v s', unitWrite m 17 0x15C 0 v env s' = some (acc (if bit (v) 4 then foldS trpRelease (List.range 16) s' else trpRelease ((v) % 16) s')) := fun _ _ => rfl
  exact congrArg Host.Outcome.next (write_rule g (u := 17) (off := 0x15C) (d := ⟨0x15C, 0x1000000, 1, 1, .wo, 0x0, 0x0, 0xFFFFFFFF⟩) rfl (by decide) (look17.2.2.1) (by decide) (by decide) (hw _ _))

theorem row_trpDirRecordWrite {m : Master} {word : Fin 512} {value : Word} {env : Env} {s : State} (g : Granted m (0x11100000 + 4 * word.val) s) :
    exec (.trpDirRecordWrite m word value env) s = .next (replied m (0x11100000 + 4 * word.val) (trpDirWrite (0x100000 + 4 * word.val) (value.toNat % 2 ^ 32 &&& 4294967295) (picked m (0x11100000 + 4 * word.val) s))) := by
  have hd : ∀ (word : Fin 512), (unitRegs 17).find? (fun d => d.covers (0x100000 + 4 * word.val)) = some ⟨0x100000, 0x400, 2, 256, .rw, 0x0, 0xFFFFFFFF, 0xFFFFFFFF⟩ := (look17.2.2.2.1)
  have hw : ∀ v s', unitWrite m 17 (0x100000 + 4 * word.val) 4294967295 v env s' = some (trpDirWrite (0x100000 + 4 * word.val) v s') := by
    intro v s'
    have := word.isLt
    unfold unitWrite trpWrite
    grind
  exact congrArg Host.Outcome.next (write_rule g (u := 17) (off := 0x100000 + 4 * word.val) (by omega) (by omega) (hd word) (by decide) (by omega) (hw _ _))

theorem row_trpCntClear {m : Master} {value : Word} {env : Env} {s : State} (g : Granted m TRP_CNT_CLEAR s) :
    exec (.trpCntClear m value env) s = .next (replied m TRP_CNT_CLEAR (acc (trpCntClear (value.toNat % 2 ^ 32 &&& 4294967295) (picked m TRP_CNT_CLEAR s)))) := by
  have hw : ∀ v s', unitWrite m 17 0x160 0 v env s' = some (acc (trpCntClear v s')) := fun _ _ => rfl
  exact congrArg Host.Outcome.next (write_rule g (u := 17) (off := 0x160) (d := ⟨0x160, 0x1000000, 1, 1, .wo, 0x0, 0x0, 0xFFFFFFFF⟩) rfl (by decide) (look17.2.2.2.2) (by decide) (by decide) (hw _ _))

theorem row_cadBasicWrite {m : Master} {value : Word} {env : Env} {s : State} (g : Granted m (UNIT_BASIC uCAD) s) :
    exec (.cadBasicWrite m value env) s = .next (replied m (UNIT_BASIC uCAD) (cadBasicWrite (value.toNat % 2 ^ 32 &&& 32519) (picked m (UNIT_BASIC uCAD) s))) := by
  have hw : ∀ v s', unitWrite m 14 0x18 32519 v env s' = some (cadBasicWrite v s') := fun _ _ => rfl
  exact congrArg Host.Outcome.next (write_rule g (u := 14) (off := 0x18) (d := ⟨0x18, 0x1000000, 1, 1, .rw, 0x2801, 0x7F07, 0x7F07⟩) rfl (by decide) (look14.1) (by decide) (by decide) (hw _ _))

theorem row_cadShareWrite {m : Master} {cls : Fin 16} {res : Fin 12} {value : Word} {env : Env} {s : State} (g : Granted m (CAD_SHARE cls.val res.val) s) :
    exec (.cadShareWrite m cls res value env) s = .next (replied m (CAD_SHARE cls.val res.val) (Sys2Proof.Machine.cadShareWrite cls.val res.val (value.toNat % 2 ^ 32 &&& 134154239) (picked m (CAD_SHARE cls.val res.val) s))) := by
  have hd : ∀ (cls : Fin 16) (res : Fin 12), (unitRegs 14).find? (fun d => d.covers (0x1000 + 64 * cls.val + 4 * res.val)) = some ⟨0x1000, 0x40, 16, 12, .rw, 0x0, 0x7FF07FF, 0x7FF07FF⟩ := (look14.2.1)
  have hw : ∀ v s', unitWrite m 14 (0x1000 + 64 * cls.val + 4 * res.val) 134154239 v env s' = some (Sys2Proof.Machine.cadShareWrite cls.val res.val v s') := by
    intro v s'
    have := cls.isLt
    unfold unitWrite cadWrite
    grind
  exact congrArg Host.Outcome.next (write_rule g (u := 14) (off := 0x1000 + 64 * cls.val + 4 * res.val) (by unfold CAD_SHARE; omega) (by omega) (hd cls res) (by decide) (by unfold CAD_SHARE; omega) (hw _ _))

theorem row_cadApply {m : Master} {value : Word} {env : Env} {s : State} (g : Granted m CAD_CTRL s) :
    exec (.cadApply m value env) s = .next (replied m CAD_CTRL (cadCtrlWrite ((setBits value.toNat 0 1 1) % 2 ^ 32 &&& 4294967295) (picked m CAD_CTRL s))) := by
  have hw : ∀ v s', unitWrite m 14 0x100 0 v env s' = some (cadCtrlWrite v s') := fun _ _ => rfl
  exact congrArg Host.Outcome.next (write_rule g (u := 14) (off := 0x100) (d := ⟨0x100, 0x1000000, 1, 1, .wo, 0x0, 0x0, 0xFFFFFFFF⟩) rfl (by decide) (look14.2.2.1) (by decide) (by decide) (hw _ _))

theorem row_cadCntClear {m : Master} {value : Word} {env : Env} {s : State} (g : Granted m CAD_CNT_CLEAR s) :
    exec (.cadCntClear m value env) s = .next (replied m CAD_CNT_CLEAR (acc (cadCntClear (value.toNat % 2 ^ 32 &&& 4294967295) (picked m CAD_CNT_CLEAR s)))) := by
  have hw : ∀ v s', unitWrite m 14 0x128 0 v env s' = some (acc (cadCntClear v s')) := fun _ _ => rfl
  exact congrArg Host.Outcome.next (write_rule g (u := 14) (off := 0x128) (d := ⟨0x128, 0x1000000, 1, 1, .wo, 0x0, 0x0, 0xFFFFFFFF⟩) rfl (by decide) (look14.2.2.2) (by decide) (by decide) (hw _ _))

theorem row_memSrEnter {m : Master} {stack : Fin 2} {value : Word} {env : Env} {s : State} (g : Granted m MEM_CTRL s) :
    exec (.memSrEnter m stack value env) s = .next (replied m MEM_CTRL (memCtrlWrite ((setBits value.toNat (1 + stack.val) 1 1) % 2 ^ 32 &&& 287) (picked m MEM_CTRL s))) := by
  have hw : ∀ v s', unitWrite m 12 0x100 0 v env s' = some (memCtrlWrite v s') := fun _ _ => rfl
  exact congrArg Host.Outcome.next (write_rule g (u := 12) (off := 0x100) (d := ⟨0x100, 0x1000000, 1, 1, .wo, 0x0, 0x0, 0x11F⟩) rfl (by decide) (look12.1) (by decide) (by decide) (hw _ _))

theorem row_memSrExit {m : Master} {stack : Fin 2} {value : Word} {env : Env} {s : State} (g : Granted m MEM_CTRL s) :
    exec (.memSrExit m stack value env) s = .next (replied m MEM_CTRL (memCtrlWrite ((setBits value.toNat (3 + stack.val) 1 1) % 2 ^ 32 &&& 287) (picked m MEM_CTRL s))) := by
  have hw : ∀ v s', unitWrite m 12 0x100 0 v env s' = some (memCtrlWrite v s') := fun _ _ => rfl
  exact congrArg Host.Outcome.next (write_rule g (u := 12) (off := 0x100) (d := ⟨0x100, 0x1000000, 1, 1, .wo, 0x0, 0x0, 0x11F⟩) rfl (by decide) (look12.1) (by decide) (by decide) (hw _ _))

theorem row_memTrain {m : Master} {value : Word} {env : Env} {s : State} (g : Granted m MEM_CTRL s) :
    exec (.memTrain m value env) s = .next (replied m MEM_CTRL (memCtrlWrite ((setBits value.toNat 0 1 1) % 2 ^ 32 &&& 287) (picked m MEM_CTRL s))) := by
  have hw : ∀ v s', unitWrite m 12 0x100 0 v env s' = some (memCtrlWrite v s') := fun _ _ => rfl
  exact congrArg Host.Outcome.next (write_rule g (u := 12) (off := 0x100) (d := ⟨0x100, 0x1000000, 1, 1, .wo, 0x0, 0x0, 0x11F⟩) rfl (by decide) (look12.1) (by decide) (by decide) (hw _ _))

theorem row_ueNext {m : Master} {value : Word} {env : Env} {s : State} (g : Granted m MEM_CTRL s) :
    exec (.ueNext m value env) s = .next (replied m MEM_CTRL (memCtrlWrite ((setBits value.toNat 8 1 1) % 2 ^ 32 &&& 287) (picked m MEM_CTRL s))) := by
  have hw : ∀ v s', unitWrite m 12 0x100 0 v env s' = some (memCtrlWrite v s') := fun _ _ => rfl
  exact congrArg Host.Outcome.next (write_rule g (u := 12) (off := 0x100) (d := ⟨0x100, 0x1000000, 1, 1, .wo, 0x0, 0x0, 0x11F⟩) rfl (by decide) (look12.1) (by decide) (by decide) (hw _ _))

theorem row_retireGo {m : Master} {value : Word} {env : Env} {s : State} (g : Granted m MEM_RETIRE s) :
    exec (.retireGo m value env) s = .next (replied m MEM_RETIRE (retireWrite ((setBits value.toNat 8 1 1) % 2 ^ 32 &&& 198463) (picked m MEM_RETIRE s))) := by
  have hw : ∀ v s', unitWrite m 12 0x148 63 v env s' = some (retireWrite v s') := fun _ _ => rfl
  exact congrArg Host.Outcome.next (write_rule g (u := 12) (off := 0x148) (d := ⟨0x148, 0x1000000, 1, 1, .rw, 0x0, 0x3F, 0x3073F⟩) rfl (by decide) (look12.2.1) (by decide) (by decide) (hw _ _))

theorem row_retireAbort {m : Master} {value : Word} {env : Env} {s : State} (g : Granted m MEM_RETIRE s) :
    exec (.retireAbort m value env) s = .next (replied m MEM_RETIRE (retireWrite ((setBits value.toNat 9 1 1) % 2 ^ 32 &&& 198463) (picked m MEM_RETIRE s))) := by
  have hw : ∀ v s', unitWrite m 12 0x148 63 v env s' = some (retireWrite v s') := fun _ _ => rfl
  exact congrArg Host.Outcome.next (write_rule g (u := 12) (off := 0x148) (d := ⟨0x148, 0x1000000, 1, 1, .rw, 0x0, 0x3F, 0x3073F⟩) rfl (by decide) (look12.2.1) (by decide) (by decide) (hw _ _))

theorem row_retireRestore {m : Master} {value : Word} {env : Env} {s : State} (g : Granted m MEM_RETIRE s) :
    exec (.retireRestore m value env) s = .next (replied m MEM_RETIRE (retireWrite ((setBits value.toNat 10 1 1) % 2 ^ 32 &&& 198463) (picked m MEM_RETIRE s))) := by
  have hw : ∀ v s', unitWrite m 12 0x148 63 v env s' = some (retireWrite v s') := fun _ _ => rfl
  exact congrArg Host.Outcome.next (write_rule g (u := 12) (off := 0x148) (d := ⟨0x148, 0x1000000, 1, 1, .rw, 0x0, 0x3F, 0x3073F⟩) rfl (by decide) (look12.2.1) (by decide) (by decide) (hw _ _))

theorem row_memCntClear {m : Master} {value : Word} {env : Env} {s : State} (g : Granted m MEM_CNT_CLEAR s) :
    exec (.memCntClear m value env) s = .next (replied m MEM_CNT_CLEAR (acc (memCntClear (value.toNat % 2 ^ 32 &&& 4294967295) (picked m MEM_CNT_CLEAR s)))) := by
  have hw : ∀ v s', unitWrite m 12 0x134 0 v env s' = some (acc (memCntClear v s')) := fun _ _ => rfl
  exact congrArg Host.Outcome.next (write_rule g (u := 12) (off := 0x134) (d := ⟨0x134, 0x1000000, 1, 1, .wo, 0x0, 0x0, 0xFFFFFFFF⟩) rfl (by decide) (look12.2.2) (by decide) (by decide) (hw _ _))

theorem row_merBasicWrite {m : Master} {value : Word} {env : Env} {s : State} (g : Granted m (UNIT_BASIC uMER) s) :
    exec (.merBasicWrite m value env) s = .next (replied m (UNIT_BASIC uMER) (merBasicWrite (value.toNat % 2 ^ 32 &&& 3871) (picked m (UNIT_BASIC uMER) s))) := by
  have hw : ∀ v s', unitWrite m 15 0x18 3871 v env s' = some (merBasicWrite v s') := fun _ _ => rfl
  exact congrArg Host.Outcome.next (write_rule g (u := 15) (off := 0x18) (d := ⟨0x18, 0x1000000, 1, 1, .rw, 0x4, 0xF1F, 0xF1F⟩) rfl (by decide) (look15.1) (by decide) (by decide) (hw _ _))

theorem row_merSelect {m : Master} {value : Word} {env : Env} {s : State} (g : Granted m MER_CTRL s) :
    exec (.merSelect m value env) s = .next (replied m MER_CTRL (merCtrlWrite env.ns ((setBits value.toNat 0 1 1) % 2 ^ 32 &&& 119) (picked m MER_CTRL s))) := by
  have hw : ∀ v s', unitWrite m 15 0x100 0 v env s' = some (merCtrlWrite env.ns v s') := fun _ _ => rfl
  exact congrArg Host.Outcome.next (write_rule g (u := 15) (off := 0x100) (d := ⟨0x100, 0x1000000, 1, 1, .wo, 0x0, 0x0, 0x77⟩) rfl (by decide) (look15.2.1) (by decide) (by decide) (hw _ _))

theorem row_realign {m : Master} {value : Word} {env : Env} {s : State} (g : Granted m MER_CTRL s) :
    exec (.realign m value env) s = .next (replied m MER_CTRL (merCtrlWrite env.ns ((setBits value.toNat 1 1 1) % 2 ^ 32 &&& 119) (picked m MER_CTRL s))) := by
  have hw : ∀ v s', unitWrite m 15 0x100 0 v env s' = some (merCtrlWrite env.ns v s') := fun _ _ => rfl
  exact congrArg Host.Outcome.next (write_rule g (u := 15) (off := 0x100) (d := ⟨0x100, 0x1000000, 1, 1, .wo, 0x0, 0x0, 0x77⟩) rfl (by decide) (look15.2.1) (by decide) (by decide) (hw _ _))

theorem row_merEpochRequest {m : Master} {value : Word} {env : Env} {s : State} (g : Granted m MER_CTRL s) :
    exec (.merEpochRequest m value env) s = .next (replied m MER_CTRL (merCtrlWrite env.ns ((setBits value.toNat 2 1 1) % 2 ^ 32 &&& 119) (picked m MER_CTRL s))) := by
  have hw : ∀ v s', unitWrite m 15 0x100 0 v env s' = some (merCtrlWrite env.ns v s') := fun _ _ => rfl
  exact congrArg Host.Outcome.next (write_rule g (u := 15) (off := 0x100) (d := ⟨0x100, 0x1000000, 1, 1, .wo, 0x0, 0x0, 0x77⟩) rfl (by decide) (look15.2.1) (by decide) (by decide) (hw _ _))

theorem row_merFsWrite {m : Master} {value : Word} {env : Env} {s : State} (g : Granted m MER_FS s) :
    exec (.merFsWrite m value env) s = .next (replied m MER_FS (merFsWrite (value.toNat % 2 ^ 32 &&& 4294967295) (picked m MER_FS s))) := by
  have hw : ∀ v s', unitWrite m 15 0x140 4294967295 v env s' = some (merFsWrite v s') := fun _ _ => rfl
  exact congrArg Host.Outcome.next (write_rule g (u := 15) (off := 0x140) (d := ⟨0x140, 0x1000000, 1, 1, .rw, 0xBB800, 0xFFFFFFFF, 0xFFFFFFFF⟩) rfl (by decide) (look15.2.2) (by decide) (by decide) (hw _ _))

theorem row_offsetWrite {m : Master} {output : Fin 8} {half : Fin 2} {value : Word} {env : Env} {s : State} {d : RegDesc} (g : Granted m (MER_PPS_OFS_LO output.val + 4 * half.val) s) (hd : (unitRegs 15).find? (fun d => d.covers (0x200 + 8 * output.val + 4 * half.val)) = some d) (hacc : d.acc ≠ .ro ∧ d.acc ≠ .wc) :
    exec (.offsetWrite m output half value env) s = .next (replied m (MER_PPS_OFS_LO output.val + 4 * half.val) (Sys2Proof.Machine.offsetWrite (0x200 + 8 * output.val + 4 * half.val) (value.toNat % 2 ^ 32 &&& d.vmask) (picked m (MER_PPS_OFS_LO output.val + 4 * half.val) s))) := by
  have hw : ∀ v s', unitWrite m 15 (0x200 + 8 * output.val + 4 * half.val) d.wmask v env s' = some (Sys2Proof.Machine.offsetWrite (0x200 + 8 * output.val + 4 * half.val) v s') := by
    intro v s'
    have := output.isLt
    unfold unitWrite merWriteWith
    grind
  exact congrArg Host.Outcome.next (write_rule g (u := 15) (off := 0x200 + 8 * output.val + 4 * half.val) (by unfold MER_PPS_OFS_LO; omega) (by omega) hd hacc (by unfold MER_PPS_OFS_LO; omega) (hw _ _))

theorem row_timBasicWrite {m : Master} {value : Word} {env : Env} {s : State} (g : Granted m (UNIT_BASIC uTIM) s) :
    exec (.timBasicWrite m value env) s = .next (replied m (UNIT_BASIC uTIM) (timBasicWrite (value.toNat % 2 ^ 32 &&& 127) (picked m (UNIT_BASIC uTIM) s))) := by
  have hw : ∀ v s', unitWrite m 16 0x18 127 v env s' = some (timBasicWrite v s') := fun _ _ => rfl
  exact congrArg Host.Outcome.next (write_rule g (u := 16) (off := 0x18) (d := ⟨0x18, 0x1000000, 1, 1, .rw, 0xC, 0x7F, 0x7F⟩) rfl (by decide) (look16.1) (by decide) (by decide) (hw _ _))

theorem row_secSet {m : Master} {value : Word} {env : Env} {s : State} (g : Granted m TIM_CTRL s) :
    exec (.secSet m value env) s = .next (replied m TIM_CTRL (acc (timCtrlWrite ((setBits value.toNat 0 1 1) % 2 ^ 32 &&& 831) (picked m TIM_CTRL s)))) := by
  have hw : ∀ v s', unitWrite m 16 0x100 0 v env s' = some (acc (timCtrlWrite v s')) := fun _ _ => rfl
  exact congrArg Host.Outcome.next (write_rule g (u := 16) (off := 0x100) (d := ⟨0x100, 0x1000000, 1, 1, .wo, 0x0, 0x0, 0x33F⟩) rfl (by decide) (look16.2.1) (by decide) (by decide) (hw _ _))

theorem row_todSet {m : Master} {value : Word} {env : Env} {s : State} (g : Granted m TIM_CTRL s) :
    exec (.todSet m value env) s = .next (replied m TIM_CTRL (acc (timCtrlWrite ((setBits value.toNat 1 1 1) % 2 ^ 32 &&& 831) (picked m TIM_CTRL s)))) := by
  have hw : ∀ v s', unitWrite m 16 0x100 0 v env s' = some (acc (timCtrlWrite v s')) := fun _ _ => rfl
  exact congrArg Host.Outcome.next (write_rule g (u := 16) (off := 0x100) (d := ⟨0x100, 0x1000000, 1, 1, .wo, 0x0, 0x0, 0x33F⟩) rfl (by decide) (look16.2.1) (by decide) (by decide) (hw _ _))

theorem row_ptpAccept {m : Master} {value : Word} {env : Env} {s : State} (g : Granted m TIM_CTRL s) :
    exec (.ptpAccept m value env) s = .next (replied m TIM_CTRL (acc (timCtrlWrite ((setBits value.toNat 2 1 1) % 2 ^ 32 &&& 831) (picked m TIM_CTRL s)))) := by
  have hw : ∀ v s', unitWrite m 16 0x100 0 v env s' = some (acc (timCtrlWrite v s')) := fun _ _ => rfl
  exact congrArg Host.Outcome.next (write_rule g (u := 16) (off := 0x100) (d := ⟨0x100, 0x1000000, 1, 1, .wo, 0x0, 0x0, 0x33F⟩) rfl (by decide) (look16.2.1) (by decide) (by decide) (hw _ _))

theorem row_ptpReset {m : Master} {value : Word} {env : Env} {s : State} (g : Granted m TIM_CTRL s) :
    exec (.ptpReset m value env) s = .next (replied m TIM_CTRL (acc (timCtrlWrite ((setBits value.toNat 3 1 1) % 2 ^ 32 &&& 831) (picked m TIM_CTRL s)))) := by
  have hw : ∀ v s', unitWrite m 16 0x100 0 v env s' = some (acc (timCtrlWrite v s')) := fun _ _ => rfl
  exact congrArg Host.Outcome.next (write_rule g (u := 16) (off := 0x100) (d := ⟨0x100, 0x1000000, 1, 1, .wo, 0x0, 0x0, 0x33F⟩) rfl (by decide) (look16.2.1) (by decide) (by decide) (hw _ _))

theorem row_timSelect {m : Master} {value : Word} {env : Env} {s : State} (g : Granted m TIM_CTRL s) :
    exec (.timSelect m value env) s = .next (replied m TIM_CTRL (acc (timCtrlWrite ((setBits value.toNat 5 1 1) % 2 ^ 32 &&& 831) (picked m TIM_CTRL s)))) := by
  have hw : ∀ v s', unitWrite m 16 0x100 0 v env s' = some (acc (timCtrlWrite v s')) := fun _ _ => rfl
  exact congrArg Host.Outcome.next (write_rule g (u := 16) (off := 0x100) (d := ⟨0x100, 0x1000000, 1, 1, .wo, 0x0, 0x0, 0x33F⟩) rfl (by decide) (look16.2.1) (by decide) (by decide) (hw _ _))

theorem row_incrHiWrite {m : Master} {value : Word} {env : Env} {s : State} (g : Granted m TIM_INCR_HI s) :
    exec (.incrHiWrite m value env) s = .next (replied m TIM_INCR_HI (acc { (picked m TIM_INCR_HI s) with tim := { (picked m TIM_INCR_HI s).tim with incrHeld := some (((value.toNat % 2 ^ 32 &&& 255)) % 256) } })) := by
  have hw : ∀ v s', unitWrite m 16 0x124 255 v env s' = some (acc { s' with tim := { s'.tim with incrHeld := some ((v) % 256) } }) := fun _ _ => rfl
  exact congrArg Host.Outcome.next (write_rule g (u := 16) (off := 0x124) (d := ⟨0x124, 0x1000000, 1, 1, .rw, 0xA, 0xFF, 0xFF⟩) rfl (by decide) (look16.2.2.1) (by decide) (by decide) (hw _ _))

theorem row_incrLoWrite {m : Master} {value : Word} {env : Env} {s : State} (g : Granted m TIM_INCR_LO s) :
    exec (.incrLoWrite m value env) s = .next (replied m TIM_INCR_LO (incrCommit (value.toNat % 2 ^ 32 &&& 4294967295) (picked m TIM_INCR_LO s))) := by
  have hw : ∀ v s', unitWrite m 16 0x120 4294967295 v env s' = some (incrCommit v s') := fun _ _ => rfl
  exact congrArg Host.Outcome.next (write_rule g (u := 16) (off := 0x120) (d := ⟨0x120, 0x1000000, 1, 1, .rw, 0x0, 0xFFFFFFFF, 0xFFFFFFFF⟩) rfl (by decide) (look16.2.2.2.1) (by decide) (by decide) (hw _ _))

theorem row_evtCfgWrite {m : Master} {output : Fin 4} {value : Word} {env : Env} {s : State} (g : Granted m (TIM_EVT_CFG output.val) s) :
    exec (.evtCfgWrite m output value env) s = .next (replied m (TIM_EVT_CFG output.val) (Sys2Proof.Machine.evtCfgWrite output.val (value.toNat % 2 ^ 32 &&& 16776963) (picked m (TIM_EVT_CFG output.val) s))) := by
  have hd : ∀ (output : Fin 4), (unitRegs 16).find? (fun d => d.covers (0x30C + 32 * output.val)) = some ⟨0x30C, 0x20, 4, 1, .rw, 0xA00, 0xFFFF03, 0xFFFF03⟩ := (look16.2.2.2.2.1)
  have hw : ∀ v s', unitWrite m 16 (0x30C + 32 * output.val) 16776963 v env s' = some (Sys2Proof.Machine.evtCfgWrite output.val v s') := by
    intro v s'
    have := output.isLt
    unfold unitWrite timWrite
    grind
  exact congrArg Host.Outcome.next (write_rule g (u := 16) (off := 0x30C + 32 * output.val) (by unfold TIM_EVT_CFG; omega) (by omega) (hd output) (by decide) (by unfold TIM_EVT_CFG; omega) (hw _ _))

theorem row_timCntClear {m : Master} {value : Word} {env : Env} {s : State} (g : Granted m TIM_CNT_CLEAR s) :
    exec (.timCntClear m value env) s = .next (replied m TIM_CNT_CLEAR (acc (timCntClear (value.toNat % 2 ^ 32 &&& 4294967295) (picked m TIM_CNT_CLEAR s)))) := by
  have hw : ∀ v s', unitWrite m 16 0x148 0 v env s' = some (acc (timCntClear v s')) := fun _ _ => rfl
  exact congrArg Host.Outcome.next (write_rule g (u := 16) (off := 0x148) (d := ⟨0x148, 0x1000000, 1, 1, .wo, 0x0, 0x0, 0xFFFFFFFF⟩) rfl (by decide) (look16.2.2.2.2.2) (by decide) (by decide) (hw _ _))

theorem row_pmbVoutWrite {m : Master} {value : Word} {env : Env} {s : State} (g : Granted m CMX_PMB_VOUT s) :
    exec (.pmbVoutWrite m value env) s = .next (replied m CMX_PMB_VOUT (voutWrite (value.toNat % 2 ^ 32 &&& 1023) (picked m CMX_PMB_VOUT s))) := by
  have hw : ∀ v s', unitWrite m 18 0x140 1023 v env s' = some (voutWrite v s') := fun _ _ => rfl
  exact congrArg Host.Outcome.next (write_rule g (u := 18) (off := 0x140) (d := ⟨0x140, 0x1000000, 1, 1, .rw, 0x2D0, 0x3FF, 0x3FF⟩) rfl (by decide) (look18.1) (by decide) (by decide) (hw _ _))

theorem row_cmxCntClear {m : Master} {value : Word} {env : Env} {s : State} (g : Granted m CMX_CNT_CLEAR s) :
    exec (.cmxCntClear m value env) s = .next (replied m CMX_CNT_CLEAR (acc (if bit ((value.toNat % 2 ^ 32 &&& 4294967295)) 0 then (picked m CMX_CNT_CLEAR s).zero cmxCounters else (picked m CMX_CNT_CLEAR s)))) := by
  have hw : ∀ v s', unitWrite m 18 0x108 0 v env s' = some (acc (if bit (v) 0 then s'.zero cmxCounters else s')) := fun _ _ => rfl
  exact congrArg Host.Outcome.next (write_rule g (u := 18) (off := 0x108) (d := ⟨0x108, 0x1000000, 1, 1, .wo, 0x0, 0x0, 0xFFFFFFFF⟩) rfl (by decide) (look18.2.1) (by decide) (by decide) (hw _ _))

theorem row_modeCtrlGo {m : Master} {value : Word} {env : Env} {s : State} (g : Granted m HLT_MODE_CTRL s) :
    exec (.modeCtrlGo m value env) s = .next (replied m HLT_MODE_CTRL (acc (modeCtrlWrite ((setBits value.toNat 8 1 1) % 2 ^ 32 &&& 783) env (picked m HLT_MODE_CTRL s)))) := by
  have hw : ∀ v s', unitWrite m 20 0x104 0 v env s' = some (acc (modeCtrlWrite v env s')) := fun _ _ => rfl
  exact congrArg Host.Outcome.next (write_rule g (u := 20) (off := 0x104) (d := ⟨0x104, 0x1000000, 1, 1, .wo, 0x0, 0x0, 0x30F⟩) rfl (by decide) (look20.1) (by decide) (by decide) (hw _ _))

theorem row_modeCtrlAbort {m : Master} {value : Word} {env : Env} {s : State} (g : Granted m HLT_MODE_CTRL s) :
    exec (.modeCtrlAbort m value env) s = .next (replied m HLT_MODE_CTRL (acc (modeCtrlWrite ((setBits value.toNat 9 1 1) % 2 ^ 32 &&& 783) env (picked m HLT_MODE_CTRL s)))) := by
  have hw : ∀ v s', unitWrite m 20 0x104 0 v env s' = some (acc (modeCtrlWrite v env s')) := fun _ _ => rfl
  exact congrArg Host.Outcome.next (write_rule g (u := 20) (off := 0x104) (d := ⟨0x104, 0x1000000, 1, 1, .wo, 0x0, 0x0, 0x30F⟩) rfl (by decide) (look20.1) (by decide) (by decide) (hw _ _))

theorem row_surveyCut {m : Master} {value : Word} {env : Env} {s : State} (g : Granted m HLT_SURVEY_CTRL s) :
    exec (.surveyCut m value env) s = .next (replied m HLT_SURVEY_CTRL (acc (if bit (((setBits value.toNat 0 1 1) % 2 ^ 32 &&& 1)) 0 then Sys2Proof.Machine.surveyCut (picked m HLT_SURVEY_CTRL s) else (picked m HLT_SURVEY_CTRL s)))) := by
  have hw : ∀ v s', unitWrite m 20 0x10C 0 v env s' = some (acc (if bit (v) 0 then Sys2Proof.Machine.surveyCut s' else s')) := fun _ _ => rfl
  exact congrArg Host.Outcome.next (write_rule g (u := 20) (off := 0x10C) (d := ⟨0x10C, 0x1000000, 1, 1, .wo, 0x0, 0x0, 0x1⟩) rfl (by decide) (look20.2.1) (by decide) (by decide) (hw _ _))

theorem row_twinCtrlTakeover {m : Master} {value : Word} {env : Env} {s : State} (g : Granted m HLT_TWIN_CTRL s) :
    exec (.twinCtrlTakeover m value env) s = .next (replied m HLT_TWIN_CTRL (twinCtrlWrite ((setBits value.toNat 0 1 1) % 2 ^ 32 &&& 4294967295) (picked m HLT_TWIN_CTRL s))) := by
  have hw : ∀ v s', unitWrite m 20 0x300 0 v env s' = some (twinCtrlWrite v s') := fun _ _ => rfl
  exact congrArg Host.Outcome.next (write_rule g (u := 20) (off := 0x300) (d := ⟨0x300, 0x1000000, 1, 1, .wo, 0x0, 0x0, 0xFFFFFFFF⟩) rfl (by decide) (look20.2.2.1) (by decide) (by decide) (hw _ _))

theorem row_twinCtrlAbort {m : Master} {value : Word} {env : Env} {s : State} (g : Granted m HLT_TWIN_CTRL s) :
    exec (.twinCtrlAbort m value env) s = .next (replied m HLT_TWIN_CTRL (twinCtrlWrite ((setBits value.toNat 1 1 1) % 2 ^ 32 &&& 4294967295) (picked m HLT_TWIN_CTRL s))) := by
  have hw : ∀ v s', unitWrite m 20 0x300 0 v env s' = some (twinCtrlWrite v s') := fun _ _ => rfl
  exact congrArg Host.Outcome.next (write_rule g (u := 20) (off := 0x300) (d := ⟨0x300, 0x1000000, 1, 1, .wo, 0x0, 0x0, 0xFFFFFFFF⟩) rfl (by decide) (look20.2.2.1) (by decide) (by decide) (hw _ _))

theorem row_logReadWrite {m : Master} {value : Word} {env : Env} {s : State} (g : Granted m HLT_LOG_READ s) :
    exec (.logReadWrite m value env) s = .next (replied m HLT_LOG_READ (Sys2Proof.Machine.logReadWrite (value.toNat % 2 ^ 32 &&& 131071) (picked m HLT_LOG_READ s))) := by
  have hw : ∀ v s', unitWrite m 20 0x404 131071 v env s' = some (Sys2Proof.Machine.logReadWrite v s') := fun _ _ => rfl
  exact congrArg Host.Outcome.next (write_rule g (u := 20) (off := 0x404) (d := ⟨0x404, 0x1000000, 1, 1, .rw, 0x0, 0x1FFFF, 0x1FFFF⟩) rfl (by decide) (look20.2.2.2.1) (by decide) (by decide) (hw _ _))

theorem row_hltBasicWrite {m : Master} {value : Word} {env : Env} {s : State} (g : Granted m (UNIT_BASIC uHLT) s) :
    exec (.hltBasicWrite m value env) s = .next (replied m (UNIT_BASIC uHLT) (Sys2Proof.Machine.hltBasicWrite (value.toNat % 2 ^ 32 &&& 55) (picked m (UNIT_BASIC uHLT) s))) := by
  have hw : ∀ v s', unitWrite m 20 0x18 55 v env s' = some (Sys2Proof.Machine.hltBasicWrite v s') := fun _ _ => rfl
  exact congrArg Host.Outcome.next (write_rule g (u := 20) (off := 0x18) (d := ⟨0x18, 0x1000000, 1, 1, .rw, 0x0, 0x37, 0x37⟩) rfl (by decide) (look20.2.2.2.2.1) (by decide) (by decide) (hw _ _))

theorem row_hltCntClear {m : Master} {value : Word} {env : Env} {s : State} (g : Granted m HLT_CNT_CLEAR s) :
    exec (.hltCntClear m value env) s = .next (replied m HLT_CNT_CLEAR (acc (Sys2Proof.Machine.hltCntClear (value.toNat % 2 ^ 32 &&& 4294967295) (picked m HLT_CNT_CLEAR s)))) := by
  have hw : ∀ v s', unitWrite m 20 0x328 0 v env s' = some (acc (Sys2Proof.Machine.hltCntClear v s')) := fun _ _ => rfl
  exact congrArg Host.Outcome.next (write_rule g (u := 20) (off := 0x328) (d := ⟨0x328, 0x1000000, 1, 1, .wo, 0x0, 0x0, 0xFFFFFFFF⟩) rfl (by decide) (look20.2.2.2.2.2) (by decide) (by decide) (hw _ _))

theorem row_debugTokenWrite {m : Master} {word : Fin 52} {value : Word} {env : Env} {s : State} (g : Granted m (TRU_DEBUG_TOKEN word.val) s) :
    exec (.debugTokenWrite m word value env) s = .next (replied m (TRU_DEBUG_TOKEN word.val) (acc (tokenWrite word.val (value.toNat % 2 ^ 32 &&& 4294967295) (picked m (TRU_DEBUG_TOKEN word.val) s)))) := by
  have hd : ∀ (word : Fin 52), (unitRegs 19).find? (fun d => d.covers (0x200 + 4 * word.val)) = some ⟨0x200, 0x1000000, 1, 52, .wo, 0x0, 0x0, 0xFFFFFFFF⟩ := (look19.1)
  have hw : ∀ v s', unitWrite m 19 (0x200 + 4 * word.val) 0 v env s' = some (acc (tokenWrite word.val v s')) := by
    intro v s'
    have := word.isLt
    unfold unitWrite truWrite
    grind
  exact congrArg Host.Outcome.next (write_rule g (u := 19) (off := 0x200 + 4 * word.val) (by unfold TRU_DEBUG_TOKEN; omega) (by omega) (hd word) (by decide) (by unfold TRU_DEBUG_TOKEN; omega) (hw _ _))

theorem row_recDataWrite {m : Master} {value : Word} {env : Env} {s : State} (g : Granted m TRU_REC_DATA s) :
    exec (.recDataWrite m value env) s = .next (replied m TRU_REC_DATA (recData (value.toNat % 2 ^ 32 &&& 4294967295) (picked m TRU_REC_DATA s))) := by
  have hw : ∀ v s', unitWrite m 19 0x304 0 v env s' = some (recData v s') := fun _ _ => rfl
  exact congrArg Host.Outcome.next (write_rule g (u := 19) (off := 0x304) (d := ⟨0x304, 0x1000000, 1, 1, .wo, 0x0, 0x0, 0xFFFFFFFF⟩) rfl (by decide) (look19.2.1) (by decide) (by decide) (hw _ _))

theorem row_recGo {m : Master} {value : Word} {env : Env} {s : State} (g : Granted m TRU_REC_CTRL s) :
    exec (.recGo m value env) s = .next (replied m TRU_REC_CTRL ((if bit (((setBits value.toNat 0 1 1) % 2 ^ 32 &&& 242)) 0 then Sys2Proof.Machine.recGo env.margins (picked m TRU_REC_CTRL s) else acc (picked m TRU_REC_CTRL s)))) := by
  have hw : ∀ v s', unitWrite m 19 0x300 0 v env s' = some ((if bit (v) 0 then Sys2Proof.Machine.recGo env.margins s' else acc s')) := fun _ _ => rfl
  exact congrArg Host.Outcome.next (write_rule g (u := 19) (off := 0x300) (d := ⟨0x300, 0x1000000, 1, 1, .rw, 0x0, 0x0, 0xF2⟩) rfl (by decide) (look19.2.2) (by decide) (by decide) (hw _ _))

theorem row_wdogKick {m : Master} {value : Word} {env : Env} {s : State} (g : Granted m CMX_WDOG s) :
    exec (.wdogKick m value env) s = .next (replied m CMX_WDOG (acc (storeBits CMX_WDOG 65535 (setBits value.toNat 31 1 1 % 2 ^ 32) (picked m CMX_WDOG s)))) := by
  have hw : ∀ v s', unitWrite m 18 0x12C 65535 v env s' = none := fun _ _ => rfl
  exact congrArg Host.Outcome.next (write_store g (u := 18) (off := 0x12C) (d := ⟨0x12C, 0x1000000, 1, 1, .rw, 0x3E8, 65535, 0x8000FFFF⟩) rfl (by decide)
    (look18.2.2) (by decide) (by decide) (hw _ _))

theorem row_xarTableWrite {m : Master} {off : BitVec 24} {value : Word} {env : Env} {s : State} {d : RegDesc} (g : Granted m (0x9000000 + off.toNat) s)
    (ho : 0x100000 ≤ off.toNat) (h4 : off.toNat % 4 = 0) (hd : (unitRegs 9).find? (fun d => d.covers off.toNat) = some d) (hacc : d.acc ≠ .ro ∧ d.acc ≠ .wc) :
    exec (.xarTableWrite m off value env) s = .next (replied m (0x9000000 + off.toNat)
      (Sys2Proof.Machine.xarTableWrite off.toNat (value.toNat % 2 ^ 32 &&& d.vmask) (picked m (0x9000000 + off.toNat) s))) := by
  have hl := off.isLt
  have hw : ∀ v s', unitWrite m 9 off.toNat d.wmask v env s' = some (Sys2Proof.Machine.xarTableWrite off.toNat v s') := by
    intro v s'
    show xarWrite off.toNat v s' = _
    unfold xarWrite
    split
    all_goals first | omega | skip
    simp only [ho, if_true]
  exact congrArg Host.Outcome.next (write_rule g (u := 9) (off := off.toNat) rfl (by omega) hd hacc (by omega) (hw _ _))

/-- Every channel but those that the PCIe host does not hold takes an abort (R400). -/
theorem row_mboxAbort {m : Master} {channel : Fin 3} {value : Word} {env : Env} {s : State} (g : Granted m (CMX_MBOX_ABORT channel.val) s)
    (hm : m ≠ .m0 ∨ channel.val = 0) :
    exec (.mboxAbort m channel value env) s = .next (Sys2Proof.Machine.mboxAbort channel.val env
      ((picked m (CMX_MBOX_ABORT channel.val) s).emit (.writeResp m (CMX_MBOX_ABORT channel.val) .okay))) := by
  have hb : bit (setBits value.toNat 0 1 1 % 2 ^ 32) 0 = true := by
    rw [bit_eq_testBit, Nat.testBit_mod_two_pow, ← bit_eq_testBit, bit_setBits]; rfl
  have hg : hostWord m (CMX_MBOX_ABORT channel.val) (setBits value.toNat 0 1 1) env s = _ := hostWord_granted g
  refine congrArg Host.Outcome.next (hg.trans ?_)
  generalize setBits value.toNat 0 1 1 % 2 ^ 32 = w at hb
  have hr : routeResp m (CMX_MBOX_ABORT channel.val) (picked m (CMX_MBOX_ABORT channel.val) s) = .okay := g.routed
  generalize picked m (CMX_MBOX_ABORT channel.val) s = p at hr ⊢
  have e : busWrite m (CMX_MBOX_ABORT channel.val) w env p = (.okay, p) := by
    obtain ⟨c, hc⟩ := channel
    have : c = 0 ∨ c = 1 ∨ c = 2 := by omega
    have hc4 : CMX_MBOX_ABORT c % 4 = 0 := by unfold CMX_MBOX_ABORT; omega
    have ht : targetOf (CMX_MBOX_ABORT c) = .unit 18 := targetOf_unit (by decide) (by decide) (by unfold CMX_MBOX_ABORT; omega)
    have hrw : regWrite m 18 (CMX_MBOX_ABORT c % 0x1000000) w env p = some (acc p) := by
      rcases this with rfl | rfl | rfl <;> cases m <;> rfl
    unfold busWrite
    simp only [hr, ht, hrw, hc4, ne_eq, not_true, if_false, if_true, acc, answered]
  rw [e]
  simp only [if_true]
  unfold mboxActs
  obtain ⟨c, hc⟩ := channel
  have : c = 0 ∨ c = 1 ∨ c = 2 := by omega
  rcases this with rfl | rfl | rfl
  · have f : (List.range 3).find? (fun c => decide (CMX_MBOX_ABORT 0 = CMX_MBOX_CMD c) || decide (CMX_MBOX_ABORT 0 = CMX_MBOX_ABORT c)) = some 0 := by decide
    simp only [f]
    simp [hb, CMX_MBOX_ABORT, CMX_MBOX_CMD]
  · have f : (List.range 3).find? (fun c => decide (CMX_MBOX_ABORT 1 = CMX_MBOX_CMD c) || decide (CMX_MBOX_ABORT 1 = CMX_MBOX_ABORT c)) = some 1 := by decide
    simp only [f]
    have : m ≠ .m0 := by simpa using hm
    simp [hb, CMX_MBOX_ABORT, CMX_MBOX_CMD, this]
  · have f : (List.range 3).find? (fun c => decide (CMX_MBOX_ABORT 2 = CMX_MBOX_CMD c) || decide (CMX_MBOX_ABORT 2 = CMX_MBOX_ABORT c)) = some 2 := by decide
    simp only [f]
    have : m ≠ .m0 := by simpa using hm
    simp [hb, CMX_MBOX_ABORT, CMX_MBOX_CMD, this]

end Sys2Proof.Machine
end

