-- ==== Sys2Proof/Laws/Answers.lean ====
section
/-! SUPPORT. How an event's bit stands and stays, and what an error response changes. -/

namespace Sys2Proof.Machine

variable {s : State}

/-! ### Event bits -/

theorem bit_or_left (n k b : Nat) (hb : b < 32) (h : bit n b = true) : bit ((n ||| 2 ^ k) % 2 ^ 32) b = true := by
  rw [bit_eq_testBit] at *
  rw [Nat.testBit_mod_two_pow, Nat.testBit_or, h]
  simp [hb]

/-- Raising an event clears no bit of any UNIT_EVENT. -/
theorem raise_keeps (e : Ev) (x y u k : Nat) (hu : u ≤ 20) (hk : k < 32) (h : bit (s.reg (UNIT_EVENT u)) k = true) :
    bit ((raise e x y s).reg (UNIT_EVENT u)) k = true := by
  by_cases hs : e.code / 256 = u
  · have h1 : ¬(0x12011000 ≤ UNIT_EVENT u ∧ UNIT_EVENT u < 0x12012000) := by unfold UNIT_EVENT; omega
    have h2 : UNIT_EVENT u ≠ HLT_LOG_LOST := by unfold UNIT_EVENT HLT_LOG_LOST; omega
    have hq : ∀ r t, (queueRec r t).reg (UNIT_EVENT u) = t.reg (UNIT_EVENT u) := fun r t => reg_queueRec t r _ h2
    unfold raise
    subst hs
    dsimp only
    split
    · rw [hq, reg_countAat, reg_withIrq _ _ _ _ h1, reg_setReg_same]; exact bit_or_left _ _ _ hk h
    · rw [reg_countAat, reg_withIrq _ _ _ _ h1, reg_setReg_same]; exact bit_or_left _ _ _ hk h
  · rw [reg_raise]
    · exact h
    · unfold shows UNIT_EVENT HLT_LOG_LOST; omega

/-- An event that was raised shows (R14). -/
theorem signals_raise (e : Ev) (x y : Nat) (hu : e.code / 256 ≤ 20) (hk : e.code % 256 - 1 < 32) : Signals e (raise e x y s) :=
  raise_sets s e x y _ _ rfl rfl hk hu

theorem signals_keep {e : Ev} (f : Ev) (x y : Nat) (hu : e.code / 256 ≤ 20) (hk : e.code % 256 - 1 < 32) (h : Signals e s) :
    Signals e (raise f x y s) := raise_keeps f x y _ _ hu hk h

theorem signals_of_reg {e : Ev} {t : State} (h : Signals e s) (hr : t.reg (UNIT_EVENT (e.code / 256)) = s.reg (UNIT_EVENT (e.code / 256))) :
    Signals e t := by unfold Signals at *; rw [hr]; exact h

/-! ### Frames put together -/

theorem same_refl (p : Part) (s : State) : same p s s := by cases p <;> simp [same]

theorem same_trans {p : Part} {s t u : State} (h : same p s t) (k : same p t u) : same p s u := by
  cases p <;> first | exact k.trans h | exact fun a => (k a).trans (h a)

theorem sameBut_refl (ps : List Part) (s : State) : SameBut ps s s := fun p _ => same_refl p s

theorem sameBut_trans {ps : List Part} {s t u : State} (h : SameBut ps s t) (k : SameBut ps t u) : SameBut ps s u :=
  fun p hp => same_trans (h p hp) (k p hp)

theorem sameBut_mono {ps qs : List Part} {s t : State} (h : SameBut ps s t) (hs : ∀ p ∈ ps, p ∈ qs) : SameBut qs s t := fun p hp => h p (fun m => hp (hs p m))

/-- States that agree but for `ps` have every other part in common. -/
theorem sameBut_agree {ps : List Part} {s t : State} (h : Agree ps s t) : SameBut ps s t := fun p hp => h.out p hp

theorem sameBut_raise (e : Ev) (x y : Nat) (ps : List Part) (h : ∀ p ∈ [Part.regs, Part.hlt, Part.out], p ∈ ps) : SameBut ps s (raise e x y s) :=
  sameBut_mono (fun p hp => raise_same s e x y p hp) h

theorem sameBut_setReg (a n : Nat) (ps : List Part) (h : Part.regs ∈ ps) : SameBut ps s (s.setReg a n) := by
  intro p hp
  cases p <;> first | rfl | exact fun _ => rfl | exact absurd h hp

theorem sameBut_emit (o : Output) (ps : List Part) (h : Part.out ∈ ps) : SameBut ps s (s.emit o) := by
  intro p hp
  cases p <;> first | rfl | exact fun _ => rfl | exact absurd h hp

theorem sameBut_picked (m : Master) (a : Nat) (ps : List Part) (h : Part.cmx ∈ ps) : SameBut ps s (picked m a s) := by
  intro p hp
  cases p <;> first | rfl | exact fun _ => rfl | exact absurd h hp

theorem sameBut_afterSetting (a : Nat) (ps : List Part) (h : Part.tru ∈ ps) : SameBut ps s (afterSetting a s) := by
  intro p hp
  cases p
  case hbm => intro x; unfold hbmByte hbmPhys; simp
  case tru => exact absurd h hp
  case regs => exact afterSetting_regs a s
  all_goals simp [same]

/-! ### Answered writes -/

/-- A register that is no setting leaves the settings store alone. -/
theorem afterSetting_id {a : Nat} {s : State} (h : isSetting a = false) : afterSetting a s = s := by unfold afterSetting; rw [h]; rfl

theorem replied_acc (m : Master) (a : Nat) (t : State) : replied m a (acc t) = (afterSetting a t).emit (.writeResp m a .okay) := rfl

theorem foldS_zero (f : Nat → List Nat) (l : List Nat) (s : State) : foldS (fun n t => t.zero (f n)) l s = s.zero (l.flatMap f) := by
  induction l generalizing s with
  | nil => rfl
  | cons a l ih =>
    have : ∀ (x y : List Nat) (u : State), (u.zero x).zero y = u.zero (x ++ y) := by
      intro x y
      induction x with
      | nil => intro u; rfl
      | cons b x ih2 => intro u; exact ih2 _
    show foldS _ l (s.zero (f a)) = _
    rw [ih, List.flatMap_cons, this]

theorem zero_zero (x y : List Nat) (u : State) : (u.zero x).zero y = u.zero (x ++ y) := by
  induction x generalizing u with
  | nil => rfl
  | cons b x ih2 => exact ih2 _

theorem sameBut_zero (as : List Nat) (ps : List Part) (s : State) (h : Part.regs ∈ ps) : SameBut ps s (s.zero as) := by
  induction as generalizing s with
  | nil => exact sameBut_refl _ _
  | cons a t ih => exact sameBut_trans (sameBut_setReg a 0 ps h) (ih _)

/-- A register with every bit implemented takes the written word. -/
theorem full_mask (v : Word) : v.toNat % 2 ^ 32 &&& 4294967295 = v.toNat := by
  have : (4294967295 : Nat) = 2 ^ 32 - 1 := by decide
  rw [this, Nat.and_two_pow_sub_one_eq_mod, Nat.mod_mod]; exact Nat.mod_eq_of_lt v.isLt

/-- A field that a granted write of a word covers. -/
theorem rf_written {s : State} (a w v vm : Nat) (f : Field) (ha : f.addr = a) (hl : f.lo + f.width ≤ 32) (h : bits w f.lo f.width = 2 ^ f.width - 1)
    (hv : bits vm f.lo f.width = 2 ^ f.width - 1) : (storeBits a w (v % 2 ^ 32 &&& vm) s).rf f = bits v f.lo f.width := by
  rw [rf_storeBits s a w _ f ha hl h, bits_written _ _ _ _ hv hl]

theorem regsBut_trans {as : List Nat} {s t u : State} (h : RegsBut as s t) (k : RegsBut as t u) : RegsBut as s u := fun x hx => (k x hx).trans (h x hx)

theorem regsBut_mono {as bs : List Nat} {s t : State} (h : RegsBut as s t) (hs : ∀ x ∈ as, x ∈ bs) : RegsBut bs s t := fun x hx => h x (fun m => hx (hs x m))

/-! ### Error responses (R387, R388, R393) -/

/-- What an error response changes: its counters, the latch of the first error, and events of CMX. -/
theorem busError_facts (m : Master) (a : Nat) (w : Bool) (c : Nat) (s : State) :
    SameBut [.regs, .hlt, .out] s (busError m a w c s) ∧ RegsButEv [18] (busErrorRegs c) s (busError m a w c s) := by
  have hsh : ∀ x, (∀ u ∈ [18], ¬shows u x) → ¬shows 18 x := fun x h => h 18 (by decide)
  unfold busError
  dsimp only
  generalize hs1 : s.inc (if c = 1 then CMX_CNT_DECERR else CMX_CNT_SLVERR) 1 = s1
  generalize hs2 : (if s1.rf CMX_ERR_INFO_VALID = 1 then s1
      else (s1.setReg CMX_ERR_ADDR a).setReg CMX_ERR_INFO (m.num + 8 * c + 32 * b2n w + 2 ^ 31)) = s2
  have e1 : SameBut [.regs, .hlt, .out] s s1 := by subst hs1; exact sameBut_setReg _ _ _ (by decide)
  have e2 : SameBut [.regs, .hlt, .out] s1 s2 := by
    subst hs2; split
    · exact sameBut_refl _ _
    · exact sameBut_trans (sameBut_setReg _ _ _ (by decide)) (sameBut_setReg _ _ _ (by decide))
  have r1 : ∀ x, x ∉ busErrorRegs c → s1.reg x = s.reg x := by
    intro x hx; subst hs1; rw [reg_inc, if_neg]; intro h; exact hx (h ▸ List.mem_cons_self)
  have r2 : ∀ x, x ∉ busErrorRegs c → s2.reg x = s1.reg x := by
    intro x hx; subst hs2
    split
    · rfl
    · rw [reg_setReg_other _ (fun h : x = CMX_ERR_INFO => hx (by subst h; simp [busErrorRegs])), reg_setReg_other _ (fun h : x = CMX_ERR_ADDR => hx (by subst h; simp [busErrorRegs]))]
  have ev : ∀ x, ¬shows 18 x → (raise (if c = 1 then EV_CMX_DECODE_ERR else if c = 2 then EV_CMX_SLAVE_ERR else EV_CMX_TARGET_TIMEOUT) a m.num s2).reg x
      = s2.reg x := by
    intro x hx
    split
    · exact reg_raise _ _ _ _ _ hx
    · split
      · exact reg_raise _ _ _ _ _ hx
      · exact reg_raise _ _ _ _ _ hx
  refine ⟨sameBut_trans (sameBut_trans e1 e2) ?_, ?_⟩
  · split
    · exact sameBut_trans (sameBut_trans (sameBut_raise _ _ _ _ (by simp)) (sameBut_setReg _ _ _ (by decide))) (sameBut_raise _ _ _ _ (by simp))
    · exact sameBut_raise _ _ _ _ (by simp)
  · intro x hx hu
    have hx' := hsh x hu
    split
    · rw [reg_raise _ EV_CMX_WRITE_ERR _ _ _ hx', reg_inc, if_neg (fun h : x = CMX_CNT_WR_ERR => hx (by subst h; simp [busErrorRegs])), ev x hx', r2 x hx, r1 x hx]
    · rw [ev x hx', r2 x hx, r1 x hx]

/-- SLVERR raises SLAVE_ERR (R387). -/
theorem busError_signals (m : Master) (a : Nat) (w : Bool) (s : State) : Signals EV_CMX_SLAVE_ERR (busError m a w 2 s) := by
  unfold busError
  dsimp only
  simp only [show ¬(2 : Nat) = 1 by decide, if_false, if_true]
  generalize (if (s.inc CMX_CNT_SLVERR 1).rf CMX_ERR_INFO_VALID = 1 then s.inc CMX_CNT_SLVERR 1
    else ((s.inc CMX_CNT_SLVERR 1).setReg CMX_ERR_ADDR a).setReg CMX_ERR_INFO (m.num + 8 * 2 + 32 * b2n w + 2 ^ 31)) = u
  have h : Signals EV_CMX_SLAVE_ERR (raise EV_CMX_SLAVE_ERR a m.num u) := signals_raise _ _ _ (by decide) (by decide)
  split
  · refine signals_keep _ _ _ (by decide) (by decide) (signals_of_reg h ?_)
    rw [reg_inc, if_neg (by decide)]
  · exact h

end Sys2Proof.Machine
end

