-- ==== Sys2Proof/Laws/UnitLanes.lean ====
section
/-! SUPPORT. What the operations of the lanes do: the lane's record, its STATE field, and what leaves. -/

namespace Sys2Proof.Machine

variable {s : State}

theorem lane_of {s t : State} (h : t.lns = s.lns) (n : Nat) : t.lane n = s.lane n := by unfold State.lane; rw [h]

@[simp] theorem lane_wf (f : Field) (v n : Nat) : (s.wf f v).lane n = s.lane n := rfl
@[simp] theorem lane_setReg (a v n : Nat) : (s.setReg a v).lane n = s.lane n := rfl
@[simp] theorem lane_inc (a v n : Nat) : (s.inc a v).lane n = s.lane n := rfl
@[simp] theorem lane_emit (o : Output) (n : Nat) : (s.emit o).lane n = s.lane n := rfl
@[simp] theorem lane_picked (m : Master) (a n : Nat) : (picked m a s).lane n = s.lane n := rfl
@[simp] theorem lane_storeBits (a w v n : Nat) : (storeBits a w v s).lane n = s.lane n := rfl
@[simp] theorem lane_afterSetting (a n : Nat) : (afterSetting a s).lane n = s.lane n := lane_of (afterSetting_lns a s) n
@[simp] theorem lane_raise (e : Ev) (a b n : Nat) : (raise e a b s).lane n = s.lane n := lane_of (raise_lns s e a b) n

theorem lane_setLane (n m : Nat) (l : LaneSt) : (s.setLane n l).lane m = if m = n then l else s.lane m := by
  unfold State.setLane
  rw [lane_wf]
  unfold State.lane
  rw [sget_sset]

@[simp] theorem lane_setLane_same (n : Nat) (l : LaneSt) : (s.setLane n l).lane n = l := by rw [lane_setLane, if_pos rfl]

theorem reg_setLane (n : Nat) (l : LaneSt) {x : Nat} (hx : x ≠ LNS_LANE_STATUS n) : (s.setLane n l).reg x = s.reg x := by
  unfold State.setLane
  exact reg_setReg_other _ hx

/-- The STATE field follows the lane's record. -/
theorem state_setLane (n : Nat) (l : LaneSt) : (s.setLane n l).rf (LNS_LANE_STATUS_STATE n) = laneCode l % 8 := by
  unfold State.setLane
  exact rf_wf_same _ (LNS_LANE_STATUS_STATE n) _ (by show 0 + 3 ≤ 32; decide)

theorem rf_setLane (n : Nat) (l : LaneSt) (f : Field) (h : f.addr ≠ LNS_LANE_STATUS n) : (s.setLane n l).rf f = s.rf f := by
  unfold State.rf; rw [reg_setLane _ _ h]

@[simp] theorem setLane_out (n : Nat) (l : LaneSt) : (s.setLane n l).out = s.out := rfl
@[simp] theorem setLane_frm (n : Nat) (l : LaneSt) : (s.setLane n l).frm = s.frm := rfl

theorem sameBut_setLane (n : Nat) (l : LaneSt) (ps : List Part) (h1 : Part.lns ∈ ps) (h2 : Part.regs ∈ ps) : SameBut ps s (s.setLane n l) := by
  intro p hp
  cases p <;> first | rfl | exact fun _ => rfl | exact absurd h1 hp | exact absurd h2 hp

/-! ### Sending what waits -/

theorem flushWaiting_lns (n : Nat) : (flushWaiting n s).lns = s.lns := by
  unfold flushWaiting
  exact foldS_same (fun t : State => t.lns) _ _ _ (fun _ _ => rfl)

@[simp] theorem lane_flushWaiting (n m : Nat) : (flushWaiting n s).lane m = s.lane m := lane_of (flushWaiting_lns n) m

theorem reg_flushWaiting (n : Nat) {x : Nat} (hx : x ≠ FRM_CNT_TX_FRAMES n) : (flushWaiting n s).reg x = s.reg x := by
  unfold flushWaiting
  refine (foldS_same (fun t : State => t.reg x) _ _ _ (fun _ t => ?_)).trans rfl
  unfold putOnLane
  exact reg_setReg_other _ hx

theorem rf_flushWaiting (n : Nat) (f : Field) (hx : f.addr ≠ FRM_CNT_TX_FRAMES n) : (flushWaiting n s).rf f = s.rf f := by
  unfold State.rf; rw [reg_flushWaiting n hx]

/-- What has left stays. -/
theorem out_flushWaiting (n : Nat) (o : Output) (h : o ∈ s.out) : o ∈ (flushWaiting n s).out := by
  unfold flushWaiting
  exact foldS_keeps (fun t : State => o ∈ t.out) _ _ _ (fun _ _ h => List.mem_cons_of_mem _ h) h

/-! ### The check engine's commit (R78) -/

theorem ckCommitIfQuiet_lns (n : Nat) : (ckCommitIfQuiet n s).lns = s.lns := by
  unfold ckCommitIfQuiet; split <;> rfl

@[simp] theorem lane_ckCommitIfQuiet (n m : Nat) : (ckCommitIfQuiet n s).lane m = s.lane m := lane_of (ckCommitIfQuiet_lns n) m

@[simp] theorem out_ckCommitIfQuiet (n : Nat) : (ckCommitIfQuiet n s).out = s.out := by
  unfold ckCommitIfQuiet; split <;> rfl

theorem reg_ckCommitIfQuiet (n : Nat) {x : Nat} (hx : x ≠ FRM_CK_STATUS n) : (ckCommitIfQuiet n s).reg x = s.reg x := by
  unfold ckCommitIfQuiet
  split
  · unfold ckCommit
    exact (reg_setReg_other _ hx).trans (reg_setReg_other _ hx)
  · rfl

theorem rf_ckCommitIfQuiet (n : Nat) (f : Field) (hx : f.addr ≠ FRM_CK_STATUS n) : (ckCommitIfQuiet n s).rf f = s.rf f := by
  unfold State.rf; rw [reg_ckCommitIfQuiet n hx]

end Sys2Proof.Machine
end

