-- ==== Sys2Proof/Laws/Refusals.lean ====
section
/-! SUPPORT. A write that its unit refuses: the event stands, the response is an error, and nothing else changes. -/

namespace Sys2Proof.Machine

variable {s : State}

/-- An error response clears no event. -/
theorem busError_keeps {e : Ev} (m : Master) (a c : Nat) (w : Bool) (hu : e.code / 256 ≤ 20) (hk : e.code % 256 - 1 < 32) (h : Signals e s) :
    Signals e (busError m a w c s) := by
  have key : ∀ (f : Ev) (x y : Nat) (u : State), Signals e u → Signals e (raise f x y u) := fun f x y u hs => signals_keep f x y hu hk hs
  have other : ∀ (u : State) (b v : Nat), (b = CMX_CNT_DECERR ∨ b = CMX_CNT_SLVERR ∨ b = CMX_CNT_WR_ERR ∨ b = CMX_ERR_ADDR ∨ b = CMX_ERR_INFO) →
      Signals e u → Signals e (u.setReg b v) := by
    intro u b v hb hs
    refine signals_of_reg hs (reg_setReg_other _ ?_)
    unfold UNIT_EVENT
    rcases hb with h | h | h | h | h <;> subst h <;> simp only [CMX_CNT_DECERR, CMX_CNT_SLVERR, CMX_CNT_WR_ERR, CMX_ERR_ADDR, CMX_ERR_INFO] <;> omega
  unfold busError
  dsimp only
  generalize hs1 : s.inc (if c = 1 then CMX_CNT_DECERR else CMX_CNT_SLVERR) 1 = s1
  have e1 : Signals e s1 := by subst hs1; exact other _ _ _ (by split <;> simp) h
  generalize hs2 : (if s1.rf CMX_ERR_INFO_VALID = 1 then s1
      else (s1.setReg CMX_ERR_ADDR a).setReg CMX_ERR_INFO (m.num + 8 * c + 32 * b2n w + 2 ^ 31)) = s2
  have e2 : Signals e s2 := by
    subst hs2; split
    · exact e1
    · exact other _ _ _ (by simp) (other _ _ _ (by simp) e1)
  have e3 := key (if c = 1 then EV_CMX_DECODE_ERR else if c = 2 then EV_CMX_SLAVE_ERR else EV_CMX_TARGET_TIMEOUT) a m.num s2 e2
  split
  · exact key _ _ _ _ (other _ _ _ (by simp) e3)
  · exact e3

/-- A write that its unit refuses with event `e`. -/
theorem replied_refused (m : Master) (a : Nat) (e : Ev) (x y : Nat) (s : State) (hu : e.code / 256 ≤ 20) (hk : e.code % 256 - 1 < 32) :
    Refused e m a s (replied m a ⟨false, raise e x y (picked m a s)⟩) := by
  obtain ⟨f1, f2⟩ := busError_facts m a true 2 (raise e x y (picked m a s))
  refine ⟨?_, ?_, rfl, ?_, ?_⟩
  · exact signals_of_reg (busError_keeps m a 2 true hu hk (signals_raise e x y hu hk)) rfl
  · exact signals_of_reg (busError_signals m a true _) rfl
  · intro z hz hs
    have h1 := f2 z hz (fun u hu' => by rw [List.mem_singleton] at hu'; subst hu'; exact hs 18 (by simp))
    have h2 : (raise e x y (picked m a s)).reg z = s.reg z := reg_raise _ e _ _ _ (hs _ (by simp))
    exact h1.trans h2
  · refine sameBut_trans (sameBut_trans (sameBut_trans (sameBut_picked m a _ (by decide)) (sameBut_raise e x y _ (by simp))) (sameBut_mono f1 (by simp))) ?_
    exact sameBut_emit _ _ (by decide)

/-- A write that its unit refuses with its CFG_REFUSED. -/
theorem replied_refuse (m : Master) (a u : Nat) (x y : Nat) (s : State) (hu : (cfgRefusedEv u).code / 256 ≤ 20) (hk : (cfgRefusedEv u).code % 256 - 1 < 32) :
    Refused (cfgRefusedEv u) m a s (replied m a (refuse u x y (picked m a s))) := replied_refused m a (cfgRefusedEv u) x y s hu hk

theorem answered_acc (m : Master) (a : Nat) (t : State) : Answered m a (replied m a (acc t)) := rfl

end Sys2Proof.Machine
end

