-- ==== Sys2Proof/WellFormed.lean ====
section
/-! DEFINITION. Well-formed commands: the bounds of the operands that their types do not already fix. -/

namespace Sys2Proof

/-- A frame whose fields fit Table 2.1 and whose areas have the lengths that its fields give: a waymark area of `waymarkCount` entries, and the
32-bit and shorter fields within their widths (R31, R32). -/
def Frame.wellFormed (f : Frame) : Bool :=
  f.waymarks.length = f.waymarkCount && decide (f.waymarkCount < 256) && decide (f.srcChip < 64) && decide (f.twinGen < 16) && decide (f.seq < 65536)
    && decide (f.index < 2 ^ 64) && decide (f.streamCount < 65536) && decide (f.firstStream < 65536)

/-- A request of one transaction lies within one 64-byte unit, and only a write carries data (R338). -/
def HbmReq.wellFormed (r : HbmReq) : Bool :=
  let n := if r.write then r.data.length else r.len
  decide (1 ≤ n) && decide (r.addr % 64 + n ≤ 64) && (r.write || r.data.isEmpty)

/-- A BAR0 request carries 1 to 1,024 aligned words inside the 32-bit address space. -/
def wordsFit (addr : Word) (words : List Strobe) : Bool :=
  addr.toNat % 4 = 0 && !words.isEmpty && decide (words.length ≤ 1024) && decide (addr.toNat + 4 * words.length ≤ 2 ^ 32)

/-- Is the command well formed? -/
def Instr.wellFormed (i : Instr) : Bool :=
  match i with
  | .registerWrite _ _ _ _ => true
  | .unitEventClear _ unit _ _ => decide (1 ≤ unit.val)
  | .thermalShutdown _ => true
  | .supplyFaultReset _ _ => true
  | .supplyFaultCleared _ margins => margins.length = 64
  | .resetRelease _ margins => margins.length = 64
  | .porAssert _ _ => true
  | .tempSample temps => temps.length = 16
  | .lifeHoursStore => true
  | .supplySample mvs => mvs.length = 10
  | .fabricSecond => true
  | .epochWaymark _ => true
  | .dumpWaymark _ => true
  | .flushWaymark _ => true
  | .gainWaymark _ => true
  | .wswapWaymark _ => true
  | .haltWaymark _ => true
  | .resumeWaymark _ => true
  | .voidrunWaymark _ => true
  | .trigWaymark => true
  | .twinWaymark _ _ => true
  | .genWaymark _ => true
  | .modelWaymark => true
  | .calWaymark _ => true
  | .stepWaymark => true
  | .probeWaymark _ => true
  | .waymarkArrive _ => true
  | .octetRoleWrite _ _ _ _ => true
  | .lnsBasicWrite _ _ _ => true
  | .txFirWrite _ _ _ _ => true
  | .laneIdleSet _ _ _ _ => true
  | .laneIdleClear _ _ _ _ => true
  | .idleTimeout _ => true
  | .autoIdleExit _ _ => true
  | .relockTimeout _ => true
  | .laneRetrain _ _ _ _ => true
  | .laneAdapt _ _ _ _ => true
  | .laneTrainComplete _ _ _ _ => true
  | .blockLockLoss _ => true
  | .laneDown _ => true
  | .refLost _ => true
  | .linkinfoRx _ _ _ => true
  | .linkinfoTx _ => true
  | .sleepRx _ => true
  | .invalidBlockRx _ => true
  | .reorderTimeout _ _ _ _ => true
  | .fecUncorr _ _ => true
  | .ingressFrameRx _ f _ => f.wellFormed
  | .graticuleFrameRx _ f _ => f.wellFormed
  | .twinFrameRx _ f _ _ => f.wellFormed
  | .ckShadowWrite _ _ _ _ _ => true
  | .ckPresetWrite _ _ _ => true
  | .ckPresetLoad _ => true
  | .portCfgWrite _ _ _ _ => true
  | .ethFrameRx _ _ => true
  | .lnsCntClear _ _ _ => true
  | .frmCntClear _ _ _ => true
  | .decBasicWrite _ _ _ => true
  | .decShadowWrite _ _ _ _ _ => true
  | .decSyncGo _ _ _ => true
  | .syncReset _ => true
  | .slotDisable _ => true
  | .decInputFrame => true
  | .decCntClear _ _ _ => true
  | .chnBasicWrite _ _ _ => true
  | .chnCfgWrite _ _ _ => true
  | .chnCoefDataWrite _ _ _ => true
  | .chnGainDataWrite _ _ _ => true
  | .chnStart _ _ _ => true
  | .chnStop _ _ _ => true
  | .chnStreamBegin _ => true
  | .chnStopCommit => true
  | .chnSpectrum _ => true
  | .chnCntClear _ _ _ => true
  | .rsyBasicWrite _ _ _ => true
  | .rsyCoefDataWrite _ _ _ => true
  | .rsyStart _ _ _ => true
  | .rsyStop _ _ _ => true
  | .rsyStopCommit => true
  | .rsySliceWrite _ _ _ _ _ => true
  | .rsyHalfRead _ => true
  | .rsySynthStep _ => true
  | .rsyCntClear _ _ _ => true
  | .grtBasicWrite _ _ _ => true
  | .grtChipWrite _ _ _ => true
  | .grtApply _ _ _ => true
  | .grtApplyCommit => true
  | .grtSpectrumSend => true
  | .grtCntClear _ _ _ => true
  | .stgBasicWrite _ _ _ => true
  | .stgStart _ _ _ => true
  | .stgStop _ _ _ => true
  | .stgBlockBoundary => true
  | .stgFrameWrite => true
  | .blockClose => true
  | .closeTimeout => true
  | .ringHoldRelease => true
  | .subBlockStage => true
  | .stgCntClear _ _ _ => true
  | .brgBasicWrite _ _ _ => true
  | .brgCoreRun _ _ _ _ => true
  | .brgCoreHalt _ _ _ _ => true
  | .brgCoreStep _ _ _ _ => true
  | .brgCoreLoadbi _ _ _ _ => true
  | .brgDoorbell _ _ _ _ => true
  | .brgDirSwitchArm _ _ _ => true
  | .brgTickFire => true
  | .brgInterruptAccept _ => true
  | .brgWaitEnd _ => true
  | .brgPutWritten _ => true
  | .brgNop _ => true
  | .brgAdd _ => true
  | .brgSub _ => true
  | .brgAnd _ => true
  | .brgOr _ => true
  | .brgXor _ => true
  | .brgShl _ => true
  | .brgShr _ => true
  | .brgSra _ => true
  | .brgMul _ => true
  | .brgAddi _ => true
  | .brgOri _ => true
  | .brgLui _ => true
  | .brgLd _ => true
  | .brgSt _ => true
  | .brgSetp _ => true
  | .brgSetm _ => true
  | .brgMfs _ => true
  | .brgOmac _ => true
  | .brgCmac _ => true
  | .brgDmac _ => true
  | .brgExt _ => true
  | .brgMova _ => true
  | .brgBeq _ => true
  | .brgBne _ => true
  | .brgBlt _ => true
  | .brgBge _ => true
  | .brgJmp _ => true
  | .brgCall _ => true
  | .brgRet _ => true
  | .brgLoop _ => true
  | .brgPut _ => true
  | .brgDir _ => true
  | .brgPost _ => true
  | .brgWaitt _ => true
  | .brgWaiti _ => true
  | .brgReti _ => true
  | .brgEi _ => true
  | .brgDi _ => true
  | .brgHalt _ => true
  | .brgCntClear _ _ _ => true
  | .xarBasicWrite _ _ _ => true
  | .xarEnableWrite _ _ _ _ => true
  | .xarTableWrite _ off _ _ => decide (0x100000 ≤ off.toNat) && off.toNat % 4 = 0
  | .passDispatch _ _ _ => true
  | .passFillEnd _ _ => true
  | .exchangeEnd _ _ => true
  | .xarCntClear _ _ _ => true
  | .accBasicWrite _ _ _ => true
  | .accDrain _ _ _ => true
  | .skReset _ _ _ => true
  | .accBlockClose => true
  | .blockResultMerge _ => true
  | .setDrain _ => true
  | .drainEnd _ => true
  | .markOutputTimeout _ => true
  | .accCntClear _ _ _ => true
  | .atlBasicWrite _ _ _ => true
  | .atlRegionWrite _ _ _ _ _ => true
  | .statsReset _ _ _ => true
  | .atlUnload _ _ _ => true
  | .atlRead _ _ _ => true
  | .atlEvict _ _ _ => true
  | .atlOpAbort _ _ _ => true
  | .hostOpComplete _ => true
  | .descSnapshot _ _ _ => true
  | .ownershipGrant _ _ => true
  | .pageOutStart _ => true
  | .pageOutComplete _ => true
  | .pageInStart => true
  | .pageInComplete _ => true
  | .atlQuarantine _ _ _ => true
  | .atlRelease _ _ _ => true
  | .quarantineMoveStep _ => true
  | .moveCommit _ => true
  | .atlCntClear _ _ _ => true
  | .svyBasicWrite _ _ _ => true
  | .svyLoad _ _ _ _ => true
  | .planLoadDone _ => true
  | .svyStart _ _ _ _ => true
  | .svyStop _ _ _ _ => true
  | .svyKill _ _ _ _ => true
  | .svySuspend _ _ _ _ => true
  | .svyResume _ _ _ _ => true
  | .svyUnload _ _ _ _ => true
  | .svyHostAbort _ _ _ _ => true
  | .svyRegWrite _ _ _ _ => true
  | .stepPoint _ => true
  | .coreStopComplete _ => true
  | .planWaitEnd _ => true
  | .planNop _ => true
  | .planSet _ => true
  | .planSethi _ => true
  | .planAdd _ => true
  | .planSub _ => true
  | .planMul _ => true
  | .planAnd _ => true
  | .planOr _ => true
  | .planShl _ => true
  | .planShr _ => true
  | .planBranch _ => true
  | .planLoop _ => true
  | .planCall _ => true
  | .planRet _ => true
  | .planLoad _ => true
  | .planStore _ _ => true
  | .planStream _ => true
  | .planSpectra _ => true
  | .planTileset _ => true
  | .planBudget _ => true
  | .planCorr _ => true
  | .planBeam _ => true
  | .planMerge _ => true
  | .planDump _ => true
  | .planMark _ => true
  | .planWaitmark _ => true
  | .planWaitidx _ => true
  | .planStep _ => true
  | .planFence _ => true
  | .planCommit _ => true
  | .planAbort _ => true
  | .planHalt _ => true
  | .svyCntClear _ _ _ => true
  | .trpBasicWrite _ _ _ => true
  | .trpApply _ _ _ => true
  | .levelReset _ _ _ => true
  | .repNext _ _ _ => true
  | .capRelease _ _ _ => true
  | .trpDirRecordWrite _ _ _ _ => true
  | .trpWindow => true
  | .pinPulseEnd _ => true
  | .trpReport _ => true
  | .trigMarkTimeout _ => true
  | .ringFrameWrite => true
  | .trpCntClear _ _ _ => true
  | .cadBasicWrite _ _ _ => true
  | .cadShareWrite _ _ _ _ _ => true
  | .cadApply _ _ _ => true
  | .budgetPeriod _ _ _ => true
  | .cadCntClear _ _ _ => true
  | .hbmRequest _ presented => presented.all HbmReq.wellFormed
  | .hbmCommandSlot _ _ => true
  | .refreshDue _ => true
  | .stackTempReport _ _ => true
  | .memSrEnter _ _ _ _ => true
  | .memSrExit _ _ _ _ => true
  | .srIdleTimeout _ => true
  | .srEntryComplete _ => true
  | .srExitComplete _ _ => true
  | .memTrain _ _ _ => true
  | .trainComplete _ _ => true
  | .retrainDue _ => true
  | .retrainStep _ _ _ => true
  | .ceRateSecond => true
  | .patrolScrub => true
  | .cmdParityError _ _ _ => true
  | .ueNext _ _ _ => true
  | .retireGo _ _ _ => true
  | .retireAbort _ _ _ => true
  | .retireRestore _ _ _ => true
  | .retireCommit => true
  | .memCntClear _ _ _ => true
  | .merBasicWrite _ _ _ => true
  | .merSelect _ _ _ => true
  | .realign _ _ _ => true
  | .merEpochRequest _ _ _ => true
  | .merFsWrite _ _ _ => true
  | .offsetWrite _ _ _ _ _ => true
  | .internalPpsEdge => true
  | .refSecond _ _ _ _ _ _ _ => true
  | .refEdgeLoss _ _ => true
  | .irigFrame _ _ => true
  | .buildoutLatch _ => true
  | .loopBwStep _ => true
  | .timBasicWrite _ _ _ => true
  | .secSet _ _ _ => true
  | .todSet _ _ _ => true
  | .ptpAccept _ _ _ => true
  | .ptpReset _ _ _ => true
  | .timSelect _ _ _ => true
  | .incrHiWrite _ _ _ => true
  | .incrLoWrite _ _ _ => true
  | .evtCfgWrite _ _ _ _ => true
  | .ptpMessageRx _ _ => true
  | .timCntClear _ _ _ => true
  | .matrixBurst _ addr _ _ total beats _ => decide (1 ≤ total.val) && addr.toNat % 32 = 0 && !beats.isEmpty && decide (beats.length ≤ total.val) && beats.all (fun b => b.length = 8)
  | .targetTimeout _ _ _ => true
  | .masterReset _ => true
  | .lockExpiry => true
  | .pcieConfigRequest _ _ _ => true
  | .pcieLink rate width => if rate.val = 0 then width.val = 0 else [1, 2, 4, 8].contains width.val
  | .bar0Read addr words _ => wordsFit addr words
  | .bar0Write addr words _ => wordsFit addr words
  | .bar2Read addr len => decide (1 ≤ len.val) && decide (addr.toNat + len.val ≤ 2 ^ 36)
  | .bar2Write addr data => decide (1 ≤ data.length) && decide (data.length ≤ 512) && decide (addr.toNat + data.length ≤ 2 ^ 36)
  | .msixVectorUnmask _ _ => true
  | .mboxAbort _ _ _ _ => true
  | .getInfo _ _ => true
  | .setMode _ _ _ => true
  | .applyReference _ _ => true
  | .setEpoch _ _ _ => true
  | .selectRef _ _ _ => true
  | .planRun _ _ _ => true
  | .planStop _ _ => true
  | .drain _ _ _ _ => true
  | .haltScope _ _ _ _ => true
  | .resumeScope _ _ _ _ => true
  | .readLog _ _ => true
  | .arm _ _ _ _ => true
  | .train _ _ => true
  | .setVcore _ _ _ => true
  | .updateWrite _ _ _ _ => true
  | .updateTrial _ _ => true
  | .updateConfirm _ _ _ => true
  | .updateReject _ _ => true
  | .updateStatus _ _ => true
  | .updateTicket _ _ _ _ => true
  | .updateSafeWrite _ _ _ _ => true
  | .updateKeyfloorRevoke _ _ _ _ => true
  | .survey _ _ => true
  | .takeover _ _ => true
  | .mgtMboxRequest _ data _ => decide (data.length ≤ 1472)
  | .mgtPacketRx _ => true
  | .smbReadWord _ => true
  | .smbBlockWrite _ data _ _ => decide (data.length ≤ 255)
  | .smbBlockRead _ => true
  | .pmbVoutWrite _ _ _ => true
  | .pmbusPoll _ _ _ _ => true
  | .wdogKick _ _ _ => true
  | .wdogExpired _ => true
  | .tapInstruction _ => true
  | .cmxCntClear _ _ _ => true
  | .modeCtrlGo _ _ _ => true
  | .modeCtrlAbort _ _ _ => true
  | .readyExitProgress => true
  | .surveyStepComplete _ _ => true
  | .surveyCut _ _ _ => true
  | .beaconLost _ => true
  | .twinCtrlTakeover _ _ _ => true
  | .twinCtrlAbort _ _ _ => true
  | .peerActRise => true
  | .handoverTimeout => true
  | .switchbackHoldExpiry => true
  | .revertDelayExpiry => true
  | .sigMissingTimeout _ => true
  | .aatFire _ => true
  | .logRecordWrite => true
  | .logReadWrite _ _ _ => true
  | .hltBasicWrite _ _ _ => true
  | .hltCntClear _ _ _ => true
  | .debugTokenWrite _ _ _ _ => true
  | .recDataWrite _ _ _ => true
  | .recGo _ _ _ => true
  | .blockLockRestored _ => true
  | .domainLeavesSlave _ => true
  | .evtOutPulse _ => true
  | .flashProgramEnd _ => true
  | .slewEnd => true

end Sys2Proof
end

