-- ==== Sys2Proof/Tests/Slice0.lean ====
section
/-!
SUPPORT. Tests: ill-formed commands are refused by `wellFormed`, worked examples of the specification, and, for the statements that have hypotheses, states and
operands that meet them.
-/

open Sys2Proof Sys2Proof.Machine

namespace Sys2Proof.Tests

/-! ### Ill-formed commands -/

/-- What the outside shows nothing of. -/
def env0 : Env := ⟨0, 0, 0, false, false, [], []⟩

def start0 : StartEnv := ⟨0, true, some 2, 1024, some (5, 8), some (-12)⟩

theorem test_wf_unit : (Instr.unitEventClear .m1 0 0 env0).wellFormed = false ∧ (Instr.unitEventClear .m1 20 0 env0).wellFormed = true := by decide
theorem test_wf_start : (Instr.resetRelease start0 []).wellFormed = false ∧ (Instr.supplyFaultCleared start0 [1]).wellFormed = false := by decide
theorem test_wf_samples : (Instr.tempSample [1, 2]).wellFormed = false ∧ (Instr.supplySample [720]).wellFormed = false := by decide
theorem test_wf_frame : (Instr.ingressFrameRx 0 { Frame.blank kTIME with waymarkCount := 1 } 0).wellFormed = false ∧
    (Instr.graticuleFrameRx 0 { Frame.blank kSPEC with srcChip := 64 } 0).wellFormed = false ∧
    (Instr.twinFrameRx 95 { Frame.blank kTWIN with twinGen := 16 } 0 true).wellFormed = false ∧
    (Instr.ingressFrameRx 0 (Frame.blank kTIME) 0).wellFormed = true := by decide
theorem test_wf_table : (Instr.xarTableWrite .m1 0x100002 0 env0).wellFormed = false ∧ (Instr.xarTableWrite .m1 4 0 env0).wellFormed = false := by decide
theorem test_wf_hbm : (Instr.hbmRequest 0 [⟨0, false, 60, 8, []⟩]).wellFormed = false ∧ (Instr.hbmRequest 0 [⟨0, true, 0, 0, []⟩]).wellFormed = false ∧
    (Instr.hbmRequest 0 [⟨0, false, 0, 8, [1]⟩]).wellFormed = false ∧ (Instr.hbmRequest 0 [⟨0, false, 56, 8, []⟩]).wellFormed = true := by decide
theorem test_wf_burst : (Instr.matrixBurst .m1 0 true false 0 [] env0).wellFormed = false ∧
    (Instr.matrixBurst .m1 4 true false 1 [List.replicate 8 .skip] env0).wellFormed = false ∧
    (Instr.matrixBurst .m1 32 true false 1 [[.skip]] env0).wellFormed = false ∧
    (Instr.matrixBurst .m1 32 true false 1 [List.replicate 8 .skip] env0).wellFormed = true := by decide
theorem test_wf_link : (Instr.pcieLink 0 1).wellFormed = false ∧ (Instr.pcieLink 5 3).wellFormed = false ∧ (Instr.pcieLink 5 8).wellFormed = true := by decide
theorem test_wf_bar0 : (Instr.bar0Read 2 [.skip] env0).wellFormed = false ∧ (Instr.bar0Write 0 [] env0).wellFormed = false ∧
    (Instr.bar0Write 0xFFFFFFFC [.skip, .skip] env0).wellFormed = false := by decide
theorem test_wf_bar2 : (Instr.bar2Read 0 0).wellFormed = false ∧ (Instr.bar2Read 0xFFFFFFFFF 2).wellFormed = false ∧
    (Instr.bar2Write 0 []).wellFormed = false := by decide
theorem test_wf_packets : (Instr.mgtMboxRequest 0 (List.replicate 1473 0) env0).wellFormed = false ∧
    (Instr.smbBlockWrite 0 (List.replicate 256 0) none env0).wellFormed = false := by decide +kernel

end Sys2Proof.Tests
end

/-! SUPPORT. Granted writes of read-only registers, of UNIT_ARM and of UNIT_EVENT, and of unaligned addresses (R8 to R11, R387). -/

namespace Sys2Proof.Machine

/-! ### Words of a command and bits of a register -/

theorem word_mod (v : Word) : v.toNat % 2 ^ 32 = v.toNat := Nat.mod_eq_of_lt v.isLt

/-- Bit by bit, a masked store takes the written value under the mask and keeps the rest. -/
theorem bit_storeBits (s : State) (a w v i : Nat) (hi : i < 32) :
    bit ((storeBits a w v s).reg a) i = if bit w i then bit v i else bit (s.reg a) i := by
  unfold storeBits
  simp only [reg_setReg_same, bit_eq_testBit, Nat.testBit_mod_two_pow, hi, decide_true, Bool.true_and, testBit_masked]

theorem regsBut_storeBits (a w v : Nat) (s : State) : RegsBut [a] s (storeBits a w v s) :=
  fun _ hx => reg_storeBits_other s (fun h => hx (List.mem_singleton.mpr h))

theorem sameBut_storeBits (a w v : Nat) (s : State) (ps : List Part) (h : Part.regs ∈ ps) : SameBut ps s (storeBits a w v s) :=
  sameBut_setReg _ _ ps h

/-- What a unit leaves alone in an access stays through the port's pick and the response. -/
theorem sameBut_served {m : Master} {a : Nat} {o : Output} {ps : List Part} {s t : State} (hc : Part.cmx ∈ ps) (ho : Part.out ∈ ps)
    (h : SameBut ps (picked m a s) t) : SameBut ps s (t.emit o) :=
  sameBut_trans (sameBut_picked m a ps hc) (sameBut_trans h (sameBut_emit o ps ho))

/-! ### Read-only registers (R9) -/

/-- The registers of the mailbox by which a write acts besides, GO's and ABORT's, are not read-only (R398). -/
theorem mboxActing_not_readOnly :
    (∀ c : Fin 3, ((unitRegs 18).find? (fun d => d.covers (0x400 + 0x80 * c.val))).map RegDesc.acc ≠ some .ro) ∧
    (∀ c : Fin 3, ((unitRegs 18).find? (fun d => d.covers (0x448 + 0x80 * c.val))).map RegDesc.acc ≠ some .ro) := by decide +kernel

/-- No mailbox action follows the write of a read-only register. -/
theorem mboxActs_readOnly {m : Master} {a u v : Nat} {env : Env} {s : State} {d : RegDesc} (hu : a / 0x1000000 = u)
    (hd : (unitRegs u).find? (fun d => d.covers (a % 0x1000000)) = some d) (hro : d.acc = .ro) : mboxActs m a v env s = s := by
  have hnone : (List.range 3).find? (fun c => decide (a = CMX_MBOX_CMD c) || decide (a = CMX_MBOX_ABORT c)) = none := by
    rw [List.find?_eq_none]
    intro c hc hact
    have hc := List.mem_range.mp hc
    rw [Bool.or_eq_true, decide_eq_true_eq, decide_eq_true_eq] at hact
    unfold CMX_MBOX_CMD CMX_MBOX_ABORT at hact
    have h18 : u = 18 := by omega
    subst h18
    rcases hact with h | h
    · refine mboxActing_not_readOnly.1 ⟨c, hc⟩ ?_
      rw [show 0x400 + 0x80 * c = a % 0x1000000 by omega, hd, Option.map_some, hro]
    · refine mboxActing_not_readOnly.2 ⟨c, hc⟩ ?_
      rw [show 0x448 + 0x80 * c = a % 0x1000000 by omega, hd, Option.map_some, hro]
  unfold mboxActs
  rw [hnone]

theorem regWrite_readOnly {m : Master} {u off v : Nat} {env : Env} {s : State} {d : RegDesc}
    (hd : (unitRegs u).find? (fun d => d.covers off) = some d) (hro : d.acc = .ro) : regWrite m u off v env s = some (acc s) := by
  unfold regWrite
  simp only [hd, hro]

/-- A granted write of a read-only register is answered and does nothing. -/
theorem hostWord_readOnly {m : Master} {a u v : Nat} {env : Env} {s : State} {d : RegDesc} (h1 : 1 ≤ u) (h20 : u ≤ 20)
    (hu : a / 0x1000000 = u) (h4 : a % 4 = 0) (g : Granted m a s)
    (hd : (unitRegs u).find? (fun d => d.covers (a % 0x1000000)) = some d) (hro : d.acc = .ro) :
    hostWord m a v env s = (picked m a s).emit (.writeResp m a .okay) :=
  hostWord_accepted g (targetOf_unit h1 h20 hu) h4 (fun _ _ => mboxActs_readOnly hu hd hro) (regWrite_readOnly hd hro)

/-! ### UNIT_ARM (R11) -/

theorem regWrite_arm {m : Master} {u v : Nat} {env : Env} {s : State} {d : RegDesc}
    (hd : (unitRegs u).find? (fun d => d.covers 0x14) = some d) (hrw : d.acc = .rw) :
    regWrite m u 0x14 v env s = some (acc (afterSetting (UNIT_ARM u) (storeBits (UNIT_ARM u) d.wmask v s))) := by
  unfold regWrite afterSetting UNIT_ARM
  simp only [hd, hrw]
  cases isSetting (u * 0x1000000 + 0x14) <;> rfl

/-- A granted write of UNIT_ARM stores its implemented bits and is kept as a setting where it is one. -/
theorem hostWord_arm {m : Master} {u v : Nat} {env : Env} {s : State} {d : RegDesc} (h1 : 1 ≤ u) (h20 : u ≤ 20)
    (g : Granted m (UNIT_ARM u) s) (hd : (unitRegs u).find? (fun d => d.covers 0x14) = some d) (hrw : d.acc = .rw) :
    hostWord m (UNIT_ARM u) v env s =
      (afterSetting (UNIT_ARM u) (storeBits (UNIT_ARM u) d.wmask (v % 2 ^ 32) (picked m (UNIT_ARM u) s))).emit (.writeResp m (UNIT_ARM u) .okay) := by
  have hoff : UNIT_ARM u % 0x1000000 = 0x14 := by unfold UNIT_ARM; omega
  have hw := regWrite_arm (m := m) (v := v % 2 ^ 32) (env := env) (s := picked m (UNIT_ARM u) s) hd hrw
  rw [← hoff] at hw
  exact hostWord_accepted g (targetOf_unit h1 h20 (by unfold UNIT_ARM; omega)) (by unfold UNIT_ARM; omega)
    (fun w x => mboxActs_other m _ w env x (by unfold UNIT_ARM; omega)) hw

/-! ### UNIT_EVENT (R9, R397) -/

theorem eventRow_wc : ∀ u : Fin 21, 1 ≤ u.val → ((unitRegs u.val).find? (fun d => d.covers 0xC)).map RegDesc.acc = some .wc := by decide +kernel

/-- A clear of UNIT_EVENT is a store of zeros under the written word, and then perhaps the unit's vector. -/
theorem eventClear_eq (u v : Nat) (s : State) :
    eventClear u v s = (if intPending (storeBits (UNIT_EVENT u) v 0 s) u then sendVector u (storeBits (UNIT_EVENT u) v 0 s)
      else storeBits (UNIT_EVENT u) v 0 s) := by
  have hz : ∀ n : Nat, n + (0 &&& v) = n := fun n => by rw [Nat.zero_and, Nat.add_zero]
  simp only [eventClear, storeBits, hz]

/-- Besides its store a clear of UNIT_EVENT changes at most the pending bits of MSI-X. -/
theorem reg_eventClear (u v x : Nat) (s : State) (hx : ¬(0x12011000 ≤ x ∧ x < 0x12012000)) :
    (eventClear u v s).reg x = (storeBits (UNIT_EVENT u) v 0 s).reg x := by
  rw [eventClear_eq]
  split
  · exact reg_sendVector _ _ _ hx
  · rfl

theorem sameBut_eventClear (u v : Nat) (s : State) (ps : List Part) (hr : Part.regs ∈ ps) (ho : Part.out ∈ ps) :
    SameBut ps s (eventClear u v s) := by
  have hst : Agree ps s (storeBits (UNIT_EVENT u) v 0 s) := agree_storeBits _ _ _ hr agree_refl
  rw [eventClear_eq]
  exact sameBut_agree (agree_ite (agree_sendVector _ ho hr hst) hst)

/-- The bits written as 1 are cleared and the others stay. -/
theorem bit_eventClear (u v i : Nat) (s : State) (h20 : u ≤ 20) (hi : i < 32) :
    bit ((eventClear u v s).reg (UNIT_EVENT u)) i = (bit (s.reg (UNIT_EVENT u)) i && !(bit v i)) := by
  have hzero : bit 0 i = false := by rw [bit_eq_testBit, Nat.zero_testBit]
  rw [reg_eventClear _ _ _ _ (by unfold UNIT_EVENT; omega), bit_storeBits _ _ _ _ _ hi, hzero]
  cases bit v i <;> simp

theorem regWrite_event {m : Master} {u v : Nat} {env : Env} {s : State} (h1 : 1 ≤ u) (h20 : u ≤ 20) :
    regWrite m u 0xC v env s = some (acc (eventClear u v s)) := by
  obtain ⟨d, hd, hwc⟩ := Option.map_eq_some_iff.mp (eventRow_wc ⟨u, by omega⟩ h1)
  unfold regWrite
  simp only [hd, hwc]

/-- A granted write of UNIT_EVENT clears events and is answered. -/
theorem hostWord_event {m : Master} {u v : Nat} {env : Env} {s : State} (h1 : 1 ≤ u) (h20 : u ≤ 20) (g : Granted m (UNIT_EVENT u) s) :
    hostWord m (UNIT_EVENT u) v env s = (eventClear u (v % 2 ^ 32) (picked m (UNIT_EVENT u) s)).emit (.writeResp m (UNIT_EVENT u) .okay) := by
  have hoff : UNIT_EVENT u % 0x1000000 = 0xC := by unfold UNIT_EVENT; omega
  exact hostWord_accepted g (targetOf_unit h1 h20 (by unfold UNIT_EVENT; omega)) (by unfold UNIT_EVENT; omega)
    (fun w x => mboxActs_other m _ w env x (by unfold UNIT_EVENT; omega)) (by rw [hoff]; exact regWrite_event h1 h20)

/-! ### Unaligned addresses (R8, R387) -/

theorem busWrite_unaligned {m : Master} {a v : Nat} {env : Env} {s : State} (hr : routeResp m a s = .okay) (h4 : a % 4 ≠ 0) :
    busWrite m a v env s = (.slverr, busError m a true 2 s) := by
  unfold busWrite
  simp only [hr, if_pos h4]
  rfl

/-- A granted write of an unaligned address is counted and answered SLVERR, and no unit sees it. -/
theorem hostWord_unaligned {m : Master} {a v : Nat} {env : Env} {s : State} (g : Granted m a s) (h4 : a % 4 ≠ 0) :
    hostWord m a v env s = (busError m a true 2 (picked m a s)).emit (.writeResp m a .slverr) := by
  have hr : routeResp m a (picked m a s) = .okay := g.routed
  rw [hostWord_granted g, busWrite_unaligned hr h4, if_neg nofun]

/-! ### The obligation, clause by clause -/

theorem registerWrite_readOnly {m : Master} {a v : Word} {u : Nat} {env : Env} {s : State} {d : RegDesc} (h1 : 1 ≤ u) (h20 : u ≤ 20)
    (hu : a.toNat / 0x1000000 = u) (h4 : a.toNat % 4 = 0) (g : Granted m a.toNat s)
    (hd : (unitRegs u).find? (fun d => d.covers (a.toNat % 0x1000000)) = some d) (hro : d.acc = .ro) :
    ∃ t, exec (.registerWrite m a v env) s = .next t ∧ RegsBut [] s t ∧ SameBut [.cmx, .out] s t ∧ t.out = .writeResp m a.toNat .okay :: s.out :=
  ⟨_, congrArg Host.Outcome.next (hostWord_readOnly h1 h20 hu h4 g hd hro), fun _ _ => rfl,
    sameBut_served (by decide) (by decide) (sameBut_refl _ _), rfl⟩

theorem registerWrite_arm {m : Master} {a v : Word} {u : Nat} {env : Env} {s : State} {d : RegDesc} (h1 : 1 ≤ u) (h20 : u ≤ 20)
    (ha : a.toNat = UNIT_ARM u) (g : Granted m a.toNat s) (hd : (unitRegs u).find? (fun d => d.covers 0x14) = some d) (hrw : d.acc = .rw) :
    ∃ t, exec (.registerWrite m a v env) s = .next t ∧
      (∀ i, i < 32 → bit (t.reg (UNIT_ARM u)) i = if bit d.wmask i then bit v.toNat i else bit (s.reg (UNIT_ARM u)) i) ∧
      RegsBut [UNIT_ARM u] s t ∧ SameBut [.regs, .cmx, .tru, .out] s t ∧ t.out = .writeResp m a.toNat .okay :: s.out := by
  rw [ha] at g ⊢
  have hex := hostWord_arm (v := v.toNat) (env := env) h1 h20 g hd hrw
  rw [word_mod, ← ha] at hex
  refine ⟨_, congrArg Host.Outcome.next hex, fun i hi => ?_, fun x hx => ?_, ?_, ?_⟩
  · rw [ha, reg_emit, afterSetting_reg]
    exact bit_storeBits _ _ _ _ _ hi
  · rw [ha, reg_emit, afterSetting_reg]
    exact regsBut_storeBits _ _ _ _ x hx
  · exact sameBut_served (by decide) (by decide) (sameBut_trans (sameBut_storeBits _ _ _ _ _ (by decide)) (sameBut_afterSetting _ _ (by decide)))
  · rw [emit_out, afterSetting_out, storeBits_out, picked_out, ha]

theorem unitEventClear_clears {m : Master} {k : Fin 21} {v : Word} {u : Nat} {env : Env} {s : State} (h1 : 1 ≤ u) (h20 : u ≤ 20)
    (hk : k.val = u) (g : Granted m (UNIT_EVENT u) s) :
    ∃ t, exec (.unitEventClear m k v env) s = .next t ∧
      (∀ i, i < 32 → bit (t.reg (UNIT_EVENT u)) i = (bit (s.reg (UNIT_EVENT u)) i && !(bit v.toNat i))) ∧
      (∀ a, a ≠ UNIT_EVENT u → ¬(0x12011000 ≤ a ∧ a < 0x12012000) → t.reg a = s.reg a) ∧ SameBut [.regs, .cmx, .out] s t ∧
      t.out.head? = some (.writeResp m (UNIT_EVENT u) .okay) := by
  subst hk
  have hex := hostWord_event (v := v.toNat) (env := env) h1 h20 g
  rw [word_mod] at hex
  refine ⟨_, congrArg Host.Outcome.next hex, fun i hi => bit_eventClear _ _ _ _ h20 hi, fun a ha hpba => ?_, ?_, rfl⟩
  · rw [reg_emit, reg_eventClear _ _ _ _ hpba, reg_storeBits_other _ ha, picked_reg]
  · exact sameBut_served (by decide) (by decide) (sameBut_eventClear _ _ _ _ (by decide) (by decide))

theorem registerWrite_unaligned {m : Master} {a v : Word} {env : Env} {s : State} (h4 : a.toNat % 4 ≠ 0) (g : Granted m a.toNat s) :
    ∃ t, exec (.registerWrite m a v env) s = .next t ∧ RegsButEv [18] (busErrorRegs 2) s t ∧ SameBut [.regs, .hlt, .cmx, .out] s t ∧
      Signals EV_CMX_SLAVE_ERR t ∧ t.out.head? = some (.writeResp m a.toNat .slverr) := by
  obtain ⟨hsame, hregs⟩ := busError_facts m a.toNat true 2 (picked m a.toNat s)
  refine ⟨_, congrArg Host.Outcome.next (hostWord_unaligned g h4), hregs,
    sameBut_served (by decide) (by decide) (sameBut_mono hsame (by decide)), busError_signals m a.toNat true _, rfl⟩

/-- Settles O8: each of the four writes is carried out at once, and its one matrix write is the clause's (R8 to R11, R387). -/
theorem registerAccess : Obligations.RegisterAccess := by
  intro m u env s h1 h20
  exact ⟨fun _ _ _ hu h4 g hd hro => registerWrite_readOnly h1 h20 hu h4 g hd hro,
    fun _ _ _ ha g hd hrw => registerWrite_arm h1 h20 ha g hd hrw,
    fun _ _ hk g => unitEventClear_clears h1 h20 hk g,
    fun _ _ _ h4 g => registerWrite_unaligned h4 g⟩

end Sys2Proof.Machine

/-! SUPPORT. Which registers an update and a raised event leave alone, put together step by step. -/

namespace Sys2Proof.Machine

variable {s t : State} {us as : List Nat}

/-! ### Frames of registers -/

theorem regsBut_refl (as : List Nat) (s : State) : RegsBut as s s := fun _ _ => rfl

/-- A write of a register of the list keeps the frame; so do `State.wf` and `State.inc`, which are such writes. -/
theorem regsBut_setReg {a : Nat} (n : Nat) (ha : a ∈ as) (h : RegsBut as s t) : RegsBut as s (t.setReg a n) :=
  fun x hx => (reg_setReg_other t (fun e : x = a => hx (e ▸ ha))).trans (h x hx)

theorem regsButEv_of_regsBut (h : RegsBut as s t) : RegsButEv us as s t := fun x hx _ => h x hx

theorem regsButEv_setReg {a : Nat} (n : Nat) (ha : a ∈ as) (h : RegsButEv us as s t) : RegsButEv us as s (t.setReg a n) :=
  fun x hx hs => (reg_setReg_other t (fun e : x = a => hx (e ▸ ha))).trans (h x hx hs)

/-- A raised event of a unit of the list keeps the frame. -/
theorem regsButEv_raise (e : Ev) (x y : Nat) (hu : e.code / 256 ∈ us) (h : RegsButEv us as s t) : RegsButEv us as s (raise e x y t) :=
  fun a ha hs => (reg_raise t e x y a (hs _ hu)).trans (h a ha hs)

/-- A register below the control matrix's that is no UNIT_EVENT shows no event. -/
theorem not_shows {u a : Nat} (ha : a % 0x1000000 ≠ 0xC ∧ a < 0x12000000) : ¬shows u a := by
  unfold shows UNIT_EVENT HLT_LOG_LOST
  omega

/-! ### The low eye (R84) -/

theorem regsButEv_checkEye (n : Nat) (hu : 1 ∈ us) (h : RegsButEv us as s t) : RegsButEv us as s (checkEye n t) := by
  unfold checkEye
  dsimp only
  split
  · exact regsButEv_raise _ _ _ hu h
  · exact h

theorem reg_checkEye (n : Nat) {x : Nat} (hx : ¬shows 1 x) : (checkEye n s).reg x = s.reg x :=
  regsButEv_checkEye (us := [1]) (as := []) n (by decide) (regsButEv_of_regsBut (regsBut_refl _ _)) x (by simp)
    (fun _ hu => List.mem_singleton.mp hu ▸ hx)

theorem checkEye_signals {n : Nat} (hm : s.rf (LNS_LANE_CTRL_EYE_MIN n) ≠ 0) (hl : s.rf (LNS_EYE_HEIGHT n) < s.rf (LNS_LANE_CTRL_EYE_MIN n)) :
    Signals EV_LNS_EYE_LOW (checkEye n s) := by
  have hlow : (decide (s.rf (LNS_LANE_CTRL_EYE_MIN n) ≠ 0) && decide (s.rf (LNS_EYE_HEIGHT n) < s.rf (LNS_LANE_CTRL_EYE_MIN n))) = true := by
    simp [hm, hl]
  unfold checkEye
  rw [if_pos hlow]
  exact signals_raise _ _ _ (by decide) (by decide)

end Sys2Proof.Machine

/-! SUPPORT. Occurrences of lanes and framing that are counted and reported (R67, R84, R86). -/

namespace Sys2Proof.Machine

variable (s : State)

theorem blockLockLoss_clearsLock (lane : Fin 96) :
    ∃ t, exec (.blockLockLoss lane) s = .next t ∧ t.rf (LNS_LANE_STATUS_RX_LOCK lane.val) = 0 ∧ RegsBut [LNS_LANE_STATUS lane.val] s t :=
  ⟨_, rfl, rf_wf_same _ _ _ (by show 3 + 1 ≤ 32; decide), regsBut_setReg _ (by simp [LNS_LANE_STATUS_RX_LOCK]) (regsBut_refl _ _)⟩

theorem blockLockRestored_counts (lane : Fin 96) :
    ∃ t, exec (.blockLockRestored lane) s = .next t ∧ t.rf (LNS_LANE_STATUS_RX_LOCK lane.val) = 1 ∧
      t.reg (LNS_CNT_LOCK_LOSS lane.val) = min (s.reg (LNS_CNT_LOCK_LOSS lane.val) + 1) 0xFFFFFFFF ∧
      (s.rf (LNS_LANE_CTRL_EYE_MIN lane.val) ≠ 0 → s.rf (LNS_EYE_HEIGHT lane.val) < s.rf (LNS_LANE_CTRL_EYE_MIN lane.val) → Signals EV_LNS_EYE_LOW t) ∧
      RegsButEv [1] [LNS_LANE_STATUS lane.val, LNS_CNT_LOCK_LOSS lane.val] s t := by
  have hlane := lane.isLt
  have hapart : LNS_LANE_STATUS lane.val ≠ LNS_CNT_LOCK_LOSS lane.val := by unfold LNS_LANE_STATUS LNS_CNT_LOCK_LOSS; omega
  -- No field of the eye lies in the two registers that are written.
  have heye : ∀ f : Field, f.addr = LNS_LANE_CTRL lane.val ∨ f.addr = LNS_EYE lane.val →
      ((s.wf (LNS_LANE_STATUS_RX_LOCK lane.val) 1).inc (LNS_CNT_LOCK_LOSS lane.val) 1).rf f = s.rf f := by
    intro f hf
    have h1 : f.addr ≠ LNS_CNT_LOCK_LOSS lane.val := by unfold LNS_LANE_CTRL LNS_EYE at hf; unfold LNS_CNT_LOCK_LOSS; omega
    have h2 : f.addr ≠ LNS_LANE_STATUS lane.val := by unfold LNS_LANE_CTRL LNS_EYE at hf; unfold LNS_LANE_STATUS; omega
    unfold State.rf
    rw [reg_inc, if_neg h1, reg_wf_other s h2]
  refine ⟨_, rfl, ?_, ?_, fun hm hl => ?_, ?_⟩
  · have hk := reg_checkEye (s := (s.wf (LNS_LANE_STATUS_RX_LOCK lane.val) 1).inc (LNS_CNT_LOCK_LOSS lane.val) 1) lane.val
      (x := LNS_LANE_STATUS lane.val) (not_shows (by unfold LNS_LANE_STATUS; omega))
    have hw := rf_wf_same s (LNS_LANE_STATUS_RX_LOCK lane.val) 1 (by show 3 + 1 ≤ 32; decide)
    rw [reg_inc, if_neg hapart] at hk
    exact (congrArg (fun r => bits r 3 1) hk).trans hw
  · rw [reg_checkEye _ (not_shows (by unfold LNS_CNT_LOCK_LOSS; omega)), reg_inc, if_pos rfl,
      reg_wf_other s hapart.symm]
  · refine checkEye_signals ?_ ?_
    · rwa [heye _ (.inl rfl)]
    · rwa [heye _ (.inr rfl), heye _ (.inl rfl)]
  · exact regsButEv_checkEye _ (by decide) (regsButEv_of_regsBut (regsBut_setReg _ (by simp) (regsBut_setReg _ (by simp [LNS_LANE_STATUS_RX_LOCK]) (regsBut_refl _ _))))

theorem refLost_reports (ref : Fin 2) :
    ∃ t, exec (.refLost ref) s = .next t ∧ Signals EV_LNS_REF_LOST t ∧ bit (t.reg LNS_REF_STATUS) ref.val = false ∧
      RegsButEv [1] [LNS_REF_STATUS] s t := by
  refine ⟨_, rfl, signals_raise _ _ _ (by decide) (by decide), ?_, ?_⟩
  · have hbit : ∀ n, bit (n % 2 ^ 32) ref.val = bit n ref.val := fun n => by
      rw [bit_eq_testBit, bit_eq_testBit, Nat.testBit_mod_two_pow, decide_eq_true (by omega), Bool.true_and]
    rw [reg_raise _ _ _ _ _ (not_shows (by decide)), reg_setReg_same, hbit, bit_setBits, if_pos (by omega)]
    simp [bit_eq_testBit]
  · exact regsButEv_raise _ _ _ (by decide) (regsButEv_of_regsBut (regsBut_setReg _ (by simp) (regsBut_refl _ _)))

theorem invalidBlockRx_counts (lane : Fin 96) :
    ∃ t, exec (.invalidBlockRx lane) s = .next t ∧
      t.reg (LNS_CNT_BLOCK_ERR lane.val) = min (s.reg (LNS_CNT_BLOCK_ERR lane.val) + 1) 0xFFFFFFFF ∧ RegsBut [LNS_CNT_BLOCK_ERR lane.val] s t :=
  ⟨_, rfl, by rw [reg_inc, if_pos rfl], regsBut_setReg _ (by simp) (regsBut_refl _ _)⟩

theorem fecUncorr_counts (lane : Fin 96) (k : Nat) :
    ∃ t, exec (.fecUncorr lane k) s = .next t ∧ Signals EV_FRM_FEC_UNCORR t ∧
      t.reg (FRM_CNT_FEC_UNCORR lane.val) = min (s.reg (FRM_CNT_FEC_UNCORR lane.val) + 1) 0xFFFFFFFF ∧
      t.reg (FRM_CNT_FEC_CORR lane.val) = min (s.reg (FRM_CNT_FEC_CORR lane.val) + k) 0xFFFFFFFF ∧
      RegsButEv [2] [FRM_CNT_FEC_UNCORR lane.val, FRM_CNT_FEC_CORR lane.val] s t := by
  have hapart : FRM_CNT_FEC_UNCORR lane.val ≠ FRM_CNT_FEC_CORR lane.val := by unfold FRM_CNT_FEC_UNCORR FRM_CNT_FEC_CORR; omega
  refine ⟨_, rfl, signals_raise _ _ _ (by decide) (by decide), ?_, ?_, ?_⟩
  · rw [reg_raise _ _ _ _ _ (not_shows (by unfold FRM_CNT_FEC_UNCORR; omega)), reg_inc, if_pos rfl,
      reg_inc, if_neg hapart]
  · rw [reg_raise _ _ _ _ _ (not_shows (by unfold FRM_CNT_FEC_CORR; omega)), reg_inc, if_neg hapart.symm,
      reg_inc, if_pos rfl]
  · exact regsButEv_raise _ _ _ (by decide) (regsButEv_of_regsBut (regsBut_setReg _ (by simp) (regsBut_setReg _ (by simp) (regsBut_refl _ _))))

theorem ethFrameRx_counts (port : Fin 8) (good : Bool) :
    ∃ t, exec (.ethFrameRx port good) s = .next t ∧
      t.reg (FRM_PORT_CNT_RX port.val) = min (s.reg (FRM_PORT_CNT_RX port.val) + 1) 0xFFFFFFFF ∧
      (good = true → t.out = s.out ∧ t.reg (FRM_PORT_CNT_FCS port.val) = s.reg (FRM_PORT_CNT_FCS port.val)) ∧
      (good = false → Signals EV_FRM_ETH_FCS t ∧ t.reg (FRM_PORT_CNT_FCS port.val) = min (s.reg (FRM_PORT_CNT_FCS port.val) + 1) 0xFFFFFFFF) ∧
      RegsButEv [2] [FRM_PORT_CNT_RX port.val, FRM_PORT_CNT_FCS port.val] s t := by
  have hapart : FRM_PORT_CNT_FCS port.val ≠ FRM_PORT_CNT_RX port.val := by unfold FRM_PORT_CNT_FCS FRM_PORT_CNT_RX; omega
  have hcount : RegsBut [FRM_PORT_CNT_RX port.val, FRM_PORT_CNT_FCS port.val] s (s.inc (FRM_PORT_CNT_RX port.val) 1) :=
    regsBut_setReg _ (by simp) (regsBut_refl _ _)
  cases good with
  | true =>
    refine ⟨s.inc (FRM_PORT_CNT_RX port.val) 1, rfl, ?_, fun _ => ⟨rfl, ?_⟩, nofun, regsButEv_of_regsBut hcount⟩
    · rw [reg_inc, if_pos rfl]
    · rw [reg_inc, if_neg hapart]
  | false =>
    refine ⟨raise EV_FRM_ETH_FCS port.val 0 ((s.inc (FRM_PORT_CNT_RX port.val) 1).inc (FRM_PORT_CNT_FCS port.val) 1), rfl, ?_, nofun,
      fun _ => ⟨signals_raise _ _ _ (by decide) (by decide), ?_⟩, ?_⟩
    · rw [reg_raise _ _ _ _ _ (not_shows (by unfold FRM_PORT_CNT_RX; omega)), reg_inc, if_neg hapart.symm,
        reg_inc, if_pos rfl]
    · rw [reg_raise _ _ _ _ _ (not_shows (by unfold FRM_PORT_CNT_FCS; omega)), reg_inc, if_pos rfl,
        reg_inc, if_neg hapart]
    · exact regsButEv_raise _ _ _ (by decide) (regsButEv_of_regsBut (regsBut_setReg _ (by simp) hcount))

/-- Settles O13: each report is a counter raised, a status field set and, for four of the six, an event (R67, R84, R86). -/
theorem laneReports : Obligations.LaneReports := fun s =>
  ⟨blockLockLoss_clearsLock s, blockLockRestored_counts s, refLost_reports s, invalidBlockRx_counts s, fecUncorr_counts s, ethFrameRx_counts s⟩

end Sys2Proof.Machine

/-! SUPPORT. LINKINFO blocks and the generation that two offers agree on (R69, R136, R464). -/

namespace Sys2Proof.Machine

variable {s t : State} {us as : List Nat}

/-! ### Small rules -/

theorem regsBut_setLane {n : Nat} (l : LaneSt) (ha : LNS_LANE_STATUS n ∈ as) (h : RegsBut as s t) : RegsBut as s (t.setLane n l) :=
  fun x hx => (reg_setLane n l (fun e : x = LNS_LANE_STATUS n => hx (e ▸ ha))).trans (h x hx)

theorem regsButEv_setLane {n : Nat} (l : LaneSt) (ha : LNS_LANE_STATUS n ∈ as) (h : RegsButEv us as s t) : RegsButEv us as s (t.setLane n l) :=
  fun x hx hs => (reg_setLane n l (fun e : x = LNS_LANE_STATUS n => hx (e ▸ ha))).trans (h x hx hs)

theorem linkGen_setLane (n : Nat) (l : LaneSt) (hn : n < 96) : (s.setLane n l).rf TRU_ARITH_PROTO_GEN = s.rf TRU_ARITH_PROTO_GEN :=
  rf_setLane n l _ (by show TRU_ARITH ≠ LNS_LANE_STATUS n; unfold TRU_ARITH LNS_LANE_STATUS; omega)

/-! ### Fixing the generation (R464) -/

theorem lane_fixGen {n far : Nat} (h : (s.lane n).farOffer = some far) :
    (fixGen n s).lane n = { s.lane n with gen := agreedGen (s.rf TRU_ARITH_PROTO_GEN) far } := by
  unfold fixGen
  simp only [h]
  cases agreedGen (s.rf TRU_ARITH_PROTO_GEN) far with
  | some g => exact lane_setLane_same _ _
  | none => exact (lane_raise _ _ _ _).trans (lane_setLane_same _ _)

theorem regsButEv_fixGen (n : Nat) (hu : 19 ∈ us) (ha : LNS_LANE_STATUS n ∈ as) (h : RegsButEv us as s t) : RegsButEv us as s (fixGen n t) := by
  unfold fixGen
  dsimp only
  split
  · exact h
  · split
    · exact regsButEv_setLane _ ha h
    · exact regsButEv_raise _ _ _ hu (regsButEv_setLane _ ha h)

/-! ### A LINKINFO block that arrives, in its three stages -/

/-- Does the block open an ACTIVE period of the receiver? -/
def opensPeriod (l : LaneSt) : Bool := l.farOffer.isNone || l.rx = lIDLE

/-- The lane's record after a block: counted, the far chip learned, an idle receiver ACTIVE again. -/
def learned (l : LaneSt) (offer chip : Nat) : LaneSt :=
  { l with
    liRx := (l.liRx + 1) % 2 ^ 32, farChip := some chip
    farOffer := if opensPeriod l then some offer else l.farOffer
    rx := if l.rx = lIDLE then lACTIVE else l.rx }

/-- The lane `n` of `s` after the block's record and the generation that it may fix. -/
def blockTaken (n offer chip : Nat) (s : State) : State :=
  let u := s.setLane n (learned (s.lane n) offer chip)
  if opensPeriod (s.lane n) && (u.lane n).rx = lACTIVE then fixGen n u else u

/-- Is the lane configured for another chip than the learned one (R138)? -/
def farChipDiffers (s : State) (n chip : Nat) : Bool :=
  match (s.grt.tab.lanes.find? (fun x => x.1 = n)).map (·.2) with
  | some c => decide (c ≠ chip)
  | none => false

/-- On a graticule lane the learned chip shows in GRT_LANE_FAR, and a chip other than the configured one is reported. -/
def chipShown (n chip : Nat) (s : State) : State :=
  if n < 80 && octetRole s (n / 8) = roGRATICULE then
    let new := chip + 256 + 512 * b2n (farChipDiffers s n chip)
    let u := s.setReg (GRT_LANE_FAR n) new
    if farChipDiffers s n chip && s.reg (GRT_LANE_FAR n) ≠ new then raise EV_GRT_LINK_MISMATCH n chip u else u
  else s

theorem linkinfoRx_stages (lane : Fin 96) (offer : Fin 16) (chip : Fin 64) (s : State) :
    exec (.linkinfoRx lane offer chip) s = .next (chipShown lane.val chip.val (blockTaken lane.val offer.val chip.val s)) := by
  unfold chipShown
  rw [apply_ite Host.Outcome.next]
  rfl

theorem lane_blockTaken (n offer chip : Nat) (s : State) :
    ∃ g, (blockTaken n offer chip s).lane n = { learned (s.lane n) offer chip with gen := g } := by
  unfold blockTaken
  dsimp only
  split
  · next hfirst =>
    have hoffer : ((s.setLane n (learned (s.lane n) offer chip)).lane n).farOffer = some offer := by
      rw [lane_setLane_same]
      exact if_pos (Bool.and_eq_true_iff.mp hfirst).1
    exact ⟨_, by rw [lane_fixGen hoffer, lane_setLane_same]⟩
  · exact ⟨_, lane_setLane_same _ _⟩

/-- The first block of an ACTIVE period fixes the generation by the two offers. -/
theorem gen_blockTaken {n offer chip : Nat} (hn : n < 96) (hopen : opensPeriod (s.lane n) = true)
    (hrx : (learned (s.lane n) offer chip).rx = lACTIVE) :
    ((blockTaken n offer chip s).lane n).gen = agreedGen (s.rf TRU_ARITH_PROTO_GEN) offer := by
  have hoffer : ((s.setLane n (learned (s.lane n) offer chip)).lane n).farOffer = some offer := by
    rw [lane_setLane_same]
    exact if_pos hopen
  unfold blockTaken
  dsimp only
  rw [lane_setLane_same, if_pos (by rw [hopen, hrx]; rfl), lane_fixGen hoffer, linkGen_setLane _ _ hn]

theorem regsButEv_blockTaken (n offer chip : Nat) (s : State) (hu : 19 ∈ us) (ha : LNS_LANE_STATUS n ∈ as) :
    RegsButEv us as s (blockTaken n offer chip s) := by
  have hset := regsButEv_setLane (us := us) (learned (s.lane n) offer chip) ha (regsButEv_of_regsBut (regsBut_refl as s))
  unfold blockTaken
  dsimp only
  split
  · exact regsButEv_fixGen _ hu ha hset
  · exact hset

theorem octetRole_blockTaken {n k : Nat} (offer chip : Nat) (s : State) (hn : n < 96) (hk : k < 12) :
    octetRole (blockTaken n offer chip s) k = octetRole s k := by
  have hreg := regsButEv_blockTaken (us := [19]) (as := [LNS_LANE_STATUS n]) n offer chip s (by decide) (by simp) (LNS_OCTET_ROLE k)
    (by unfold LNS_OCTET_ROLE LNS_LANE_STATUS; simp; omega)
    (fun _ _ => not_shows (by unfold LNS_OCTET_ROLE; omega))
  exact congrArg (fun r => bits r 0 3) hreg

theorem lane_chipShown (n chip m : Nat) (s : State) : (chipShown n chip s).lane m = s.lane m := by
  unfold chipShown
  dsimp only
  split
  · split
    · exact lane_raise _ _ _ _
    · rfl
  · rfl

theorem regsButEv_chipShown (n chip : Nat) (hu : 6 ∈ us) (ha : GRT_LANE_FAR n ∈ as) (h : RegsButEv us as s t) :
    RegsButEv us as s (chipShown n chip t) := by
  unfold chipShown
  dsimp only
  split
  · split
    · exact regsButEv_raise _ _ _ hu (regsButEv_setReg _ ha h)
    · exact regsButEv_setReg _ ha h
  · exact h

theorem far_chipShown {n chip : Nat} (hn : n < 80) (hrole : octetRole s (n / 8) = roGRATICULE) :
    (chipShown n chip s).reg (GRT_LANE_FAR n) = (chip + 256 + 512 * b2n (farChipDiffers s n chip)) % 2 ^ 32 := by
  unfold chipShown
  dsimp only
  rw [if_pos (by simp [hn, hrole])]
  split
  · rw [reg_raise _ _ _ _ _ (not_shows (by unfold GRT_LANE_FAR; omega)), reg_setReg_same]
  · exact reg_setReg_same _ _ _

/-- The word of GRT_LANE_FAR holds the chip and VALID beside it. -/
theorem far_word {chip : Nat} (b : Bool) (hc : chip < 64) :
    bits ((chip + 256 + 512 * b2n b) % 2 ^ 32) 0 6 = chip ∧ bit ((chip + 256 + 512 * b2n b) % 2 ^ 32) 8 = true := by
  unfold bits bit
  rw [Nat.shiftRight_eq_div_pow, Nat.shiftRight_eq_div_pow, decide_eq_true_iff]
  cases b <;> simp only [b2n] <;> omega

/-! ### The obligation, clause by clause -/

theorem linkinfoTx_sends (lane : Fin 96) (s : State) (hact : (s.lane lane.val).tx = lACTIVE) :
    ∃ t, exec (.linkinfoTx lane) s = .next t ∧ t.lane lane.val = { s.lane lane.val with liTx := ((s.lane lane.val).liTx + 1) % 2 ^ 32 } ∧
      t.out = .linkInfo lane.val (s.rf TRU_ARITH_PROTO_GEN) (ownChip s) (s.lane lane.val).liTx :: s.out ∧ RegsBut [LNS_LANE_STATUS lane.val] s t := by
  have hex : exec (.linkinfoTx lane) s = .next (sendLinkInfo lane.val s) := congrArg Host.Outcome.next (if_pos hact)
  exact ⟨_, hex, lane_setLane_same _ _, rfl, regsBut_setLane _ (by simp) (regsBut_refl _ _)⟩

theorem linkinfoRx_learns (lane : Fin 96) (offer : Fin 16) (chip : Fin 64) (s : State) : ∃ t, exec (.linkinfoRx lane offer chip) s = .next t ∧
    (t.lane lane.val).liRx = ((s.lane lane.val).liRx + 1) % 2 ^ 32 ∧ (t.lane lane.val).farChip = some chip.val ∧
    (t.lane lane.val).rx = (if (s.lane lane.val).rx = lIDLE then lACTIVE else (s.lane lane.val).rx) ∧
    (t.lane lane.val).tx = (s.lane lane.val).tx ∧
    (((s.lane lane.val).farOffer = none ∨ (s.lane lane.val).rx = lIDLE) → (t.lane lane.val).rx = lACTIVE →
      (t.lane lane.val).gen = (if offer.val ≤ s.rf TRU_ARITH_PROTO_GEN + 1 ∧ s.rf TRU_ARITH_PROTO_GEN ≤ offer.val + 1 then
        some (min (s.rf TRU_ARITH_PROTO_GEN) offer.val) else none)) ∧
    (lane.val < 80 → octetRole s (lane.val / 8) = roGRATICULE →
      bits (t.reg (GRT_LANE_FAR lane.val)) 0 6 = chip.val ∧ bit (t.reg (GRT_LANE_FAR lane.val)) 8 = true) ∧
    RegsButEv [19, 6] [LNS_LANE_STATUS lane.val, GRT_LANE_FAR lane.val] s t := by
  obtain ⟨g, hlane⟩ := lane_blockTaken lane.val offer.val chip.val s
  have hregs : RegsButEv [19, 6] [LNS_LANE_STATUS lane.val, GRT_LANE_FAR lane.val] s (blockTaken lane.val offer.val chip.val s) :=
    regsButEv_blockTaken _ _ _ _ (by decide) (by simp)
  have hrole := octetRole_blockTaken offer.val chip.val s lane.isLt (k := lane.val / 8) (by omega)
  have hgen : ((s.lane lane.val).farOffer = none ∨ (s.lane lane.val).rx = lIDLE) → (learned (s.lane lane.val) offer.val chip.val).rx = lACTIVE →
      ((blockTaken lane.val offer.val chip.val s).lane lane.val).gen = (if offer.val ≤ s.rf TRU_ARITH_PROTO_GEN + 1 ∧
        s.rf TRU_ARITH_PROTO_GEN ≤ offer.val + 1 then some (min (s.rf TRU_ARITH_PROTO_GEN) offer.val) else none) := by
    intro hfirst hrx
    rw [gen_blockTaken lane.isLt (by simpa [opensPeriod] using hfirst) hrx]
    simp [agreedGen]
  rw [← hrole]
  refine ⟨_, linkinfoRx_stages lane offer chip s, ?_⟩
  rw [lane_chipShown, hlane]
  refine ⟨rfl, rfl, rfl, rfl, fun hfirst hrx => ?_, fun h80 hgrt => ?_, regsButEv_chipShown _ _ (by decide) (by simp) hregs⟩
  · rw [← hgen hfirst hrx, hlane]
  · rw [far_chipShown h80 hgrt]
    exact far_word _ chip.isLt

/-- Settles O11: the arriving block is taken in stages, the record, the generation and the graticule's view of the far chip (R69, R136, R464). -/
theorem linkInfo : Obligations.LinkInfo := fun lane s =>
  ⟨linkinfoTx_sends lane s, fun offer chip => linkinfoRx_learns lane offer chip s⟩

end Sys2Proof.Machine

/-! SUPPORT. Entering and leaving electrical idle (R69, R73 to R75): what the entry and the exit of Table 3.4 make of the lane, its registers and its port. -/

namespace Sys2Proof.Machine

variable {s t : State} {as : List Nat}

/-! ### Idle entry (R73) -/

theorem regsBut_emit (o : Output) (h : RegsBut as s t) : RegsBut as s (t.emit o) := h

theorem laneCode_idle {l : LaneSt} (h : l.tx = lIDLE) : laneCode l = lIDLE := by
  unfold laneCode
  simp [h, lIDLE, lENTERING, lEXITING]

theorem lane_idleEnter {n : Nat} (inProgress auto : Bool) (hact : (s.lane n).tx = lACTIVE) :
    (idleEnter n inProgress auto s).lane n = { s.lane n with tx := if inProgress then lENTERING else lIDLE, autoHeld := auto } := by
  unfold idleEnter
  dsimp only
  rw [if_neg (not_not_intro hact)]
  cases inProgress <;> exact lane_setLane_same _ _

theorem regsBut_idleEnter {n : Nat} (inProgress auto : Bool) (ha : LNS_LANE_STATUS n ∈ as) (h : RegsBut as s t) :
    RegsBut as s (idleEnter n inProgress auto t) := by
  unfold idleEnter
  dsimp only
  split
  · exact h
  · split
    · exact regsBut_setLane _ ha h
    · exact regsBut_emit _ (regsBut_setLane _ ha h)

/-! ### Idle exit (Table 3.4) -/

/-- The registers of lane `n` that an idle exit may change: its STATE, the count of exits, the status of its check engine (R78) and the count of frames
that leave after it. -/
def exitRegs (n : Nat) : List Nat := [LNS_LANE_STATUS n, LNS_CNT_IDLE_EXIT n, FRM_CK_STATUS n, FRM_CNT_TX_FRAMES n]

/-- The lane's sender ACTIVE again and the exit counted, before the burst. -/
def exitCounted (n : Nat) (s : State) : State :=
  ((ckCommitIfQuiet n s).setLane n { (ckCommitIfQuiet n s).lane n with tx := lACTIVE, autoHeld := false }).inc (LNS_CNT_IDLE_EXIT n) 1

theorem idleExit_of_idle {n : Nat} (hidle : (s.lane n).tx = lIDLE) :
    idleExit n s = flushWaiting n (sendLinkInfo n ((exitCounted n s).emit (.burst n))) := by
  unfold idleExit
  exact if_neg (not_not_intro hidle)

theorem lane_exitCounted (n : Nat) (s : State) : (exitCounted n s).lane n = { s.lane n with tx := lACTIVE, autoHeld := false } := by
  unfold exitCounted
  rw [lane_inc, lane_setLane_same, lane_ckCommitIfQuiet]

theorem regsBut_exitCounted (n : Nat) (s : State) : RegsBut (exitRegs n) s (exitCounted n s) := by
  have hck : RegsBut (exitRegs n) s (ckCommitIfQuiet n s) := fun x hx => reg_ckCommitIfQuiet n (by rintro rfl; exact hx (by simp [exitRegs]))
  exact regsBut_setReg _ (by simp [exitRegs]) (regsBut_setLane _ (by simp [exitRegs]) hck)

theorem count_exitCounted {n : Nat} (hn : n < 96) (s : State) :
    (exitCounted n s).reg (LNS_CNT_IDLE_EXIT n) = min (s.reg (LNS_CNT_IDLE_EXIT n) + 1) 0xFFFFFFFF := by
  unfold exitCounted
  rw [reg_inc, if_pos rfl, reg_setLane _ _ (by unfold LNS_CNT_IDLE_EXIT LNS_LANE_STATUS; omega),
    reg_ckCommitIfQuiet n (by unfold LNS_CNT_IDLE_EXIT FRM_CK_STATUS; omega)]

theorem regsBut_flushWaiting {n : Nat} (ha : FRM_CNT_TX_FRAMES n ∈ as) (h : RegsBut as s t) : RegsBut as s (flushWaiting n t) :=
  fun x hx => (reg_flushWaiting n (fun e : x = FRM_CNT_TX_FRAMES n => hx (e ▸ ha))).trans (h x hx)

theorem regsBut_sendLinkInfo {n : Nat} (ha : LNS_LANE_STATUS n ∈ as) (h : RegsBut as s t) : RegsBut as s (sendLinkInfo n t) := by
  unfold sendLinkInfo
  exact regsBut_emit _ (regsBut_setLane _ ha h)

theorem regsBut_idleExit (n : Nat) (s : State) : RegsBut (exitRegs n) s (idleExit n s) := by
  by_cases hidle : (s.lane n).tx = lIDLE
  · rw [idleExit_of_idle hidle]
    exact regsBut_flushWaiting (by simp [exitRegs]) (regsBut_sendLinkInfo (by simp [exitRegs]) (regsBut_emit _ (regsBut_exitCounted n s)))
  · unfold idleExit
    dsimp only
    rw [if_pos hidle]
    exact regsBut_refl _ _

/-- What an exit makes of lane `n` between `s` and `t` (Table 3.4): ACTIVE, the exit counted, a burst and a LINKINFO block that is counted. -/
structure LeavesIdle (n : Nat) (s t : State) : Prop where
  lane : t.lane n = { s.lane n with tx := lACTIVE, autoHeld := false, liTx := ((s.lane n).liTx + 1) % 2 ^ 32 }
  count : t.reg (LNS_CNT_IDLE_EXIT n) = min (s.reg (LNS_CNT_IDLE_EXIT n) + 1) 0xFFFFFFFF
  burst : .burst n ∈ t.out
  linkInfo : .linkInfo n (s.rf TRU_ARITH_PROTO_GEN) (ownChip s) (s.lane n).liTx ∈ t.out

theorem idleExit_leavesIdle {n : Nat} (hn : n < 96) (hidle : (s.lane n).tx = lIDLE) : LeavesIdle n s (idleExit n s) := by
  have hgen : (exitCounted n s).reg TRU_ARITH = s.reg TRU_ARITH := regsBut_exitCounted n s TRU_ARITH (by
    simp [exitRegs, TRU_ARITH, LNS_LANE_STATUS, LNS_CNT_IDLE_EXIT, FRM_CK_STATUS, FRM_CNT_TX_FRAMES]; omega)
  have hchip : (exitCounted n s).reg GRT_CHIP = s.reg GRT_CHIP := regsBut_exitCounted n s GRT_CHIP (by
    simp [exitRegs, GRT_CHIP, LNS_LANE_STATUS, LNS_CNT_IDLE_EXIT, FRM_CK_STATUS, FRM_CNT_TX_FRAMES]; omega)
  rw [idleExit_of_idle hidle]
  constructor
  case lane =>
    unfold sendLinkInfo
    rw [lane_flushWaiting, lane_emit, lane_setLane_same, lane_emit, lane_exitCounted]
  case count =>
    unfold sendLinkInfo
    rw [reg_flushWaiting n (by unfold LNS_CNT_IDLE_EXIT FRM_CNT_TX_FRAMES; omega), reg_emit,
      reg_setLane _ _ (by unfold LNS_CNT_IDLE_EXIT LNS_LANE_STATUS; omega), reg_emit, count_exitCounted hn]
  case burst => exact out_flushWaiting n _ (List.mem_cons_of_mem _ List.mem_cons_self)
  case linkInfo =>
    refine out_flushWaiting n _ (List.mem_cons.mpr (.inl ?_))
    rw [lane_emit, lane_exitCounted, rf_emit]
    unfold ownChip State.rf
    rw [reg_emit, hchip]
    exact congrArg (fun r => Output.linkInfo n (bits r 24 4) (s.reg GRT_CHIP) (s.lane n).liTx) hgen.symm

/-! ### The exit request (R74, R75) -/

theorem idleExitRequest_of_idle {n : Nat} (sent : Bool) (hidle : (s.lane n).tx = lIDLE) : idleExitRequest n sent s = idleExit n s := by
  unfold idleExitRequest
  exact if_neg (by rw [hidle]; decide)

theorem idleExitRequest_abandons {n : Nat} (hent : (s.lane n).tx = lENTERING) :
    idleExitRequest n false s = s.setLane n { s.lane n with tx := lACTIVE, autoHeld := false } := by
  unfold idleExitRequest
  exact if_pos hent

theorem idleExitRequest_completes {n : Nat} (hent : (s.lane n).tx = lENTERING) :
    idleExitRequest n true s = idleExit n ((s.setLane n { s.lane n with tx := lIDLE }).emit (.sleep n)) := by
  unfold idleExitRequest idleEntryDone
  dsimp only
  rw [if_pos hent, if_pos hent]
  rfl

theorem regsBut_idleExitRequest (n : Nat) (sent : Bool) (s : State) : RegsBut (exitRegs n) s (idleExitRequest n sent s) := by
  have hset : ∀ l, RegsBut (exitRegs n) s (s.setLane n l) := fun l => regsBut_setLane l (by simp [exitRegs]) (regsBut_refl _ _)
  by_cases hent : (s.lane n).tx = lENTERING
  · cases sent with
    | true =>
      rw [idleExitRequest_completes hent]
      exact regsBut_trans (regsBut_emit _ (hset _)) (regsBut_idleExit n _)
    | false =>
      rw [idleExitRequest_abandons hent]
      exact hset _
  · unfold idleExitRequest
    dsimp only
    rw [if_neg hent]
    exact regsBut_idleExit n s

/-- A lane that is IDLE, or whose first SLEEP block of an entry has left, makes the exit. -/
theorem idleExitRequest_leavesIdle {n : Nat} {sent : Bool} (hn : n < 96)
    (h : (s.lane n).tx = lIDLE ∨ ((s.lane n).tx = lENTERING ∧ sent = true)) : LeavesIdle n s (idleExitRequest n sent s) := by
  rcases h with hidle | ⟨hent, rfl⟩
  · rw [idleExitRequest_of_idle sent hidle]
    exact idleExit_leavesIdle hn hidle
  · rw [idleExitRequest_completes hent]
    generalize hu : (s.setLane n { s.lane n with tx := lIDLE }).emit (.sleep n) = u
    have hlane : u.lane n = { s.lane n with tx := lIDLE } := by rw [← hu, lane_emit, lane_setLane_same]
    have hregs : ∀ x, x ≠ LNS_LANE_STATUS n → u.reg x = s.reg x := fun x hx => by rw [← hu, reg_emit, reg_setLane _ _ hx]
    obtain ⟨e1, e2, e3, e4⟩ := idleExit_leavesIdle (s := u) hn (by rw [hlane])
    have hgen : u.rf TRU_ARITH_PROTO_GEN = s.rf TRU_ARITH_PROTO_GEN :=
      congrArg (fun r => bits r 24 4) (hregs TRU_ARITH (by unfold TRU_ARITH LNS_LANE_STATUS; omega))
    have hchip : ownChip u = ownChip s := hregs GRT_CHIP (by unfold GRT_CHIP LNS_LANE_STATUS; omega)
    rw [hlane] at e1 e4
    rw [hregs _ (by unfold LNS_CNT_IDLE_EXIT LNS_LANE_STATUS; omega)] at e2
    rw [hgen, hchip] at e4
    exact ⟨e1, e2, e3, e4⟩

/-! ### Writes of LNS_LANE_CTRL that only set or clear IDLE -/

/-- The word that the unit sees of a written `v` with IDLE set to `b`. -/
def idleWord (v b : Nat) : Nat := setBits v 0 1 b % 2 ^ 32 &&& 65295

theorem bit_idleWord_idle (v b : Nat) : bit (idleWord v b) 0 = bit b 0 := by
  unfold idleWord
  rw [bit_written _ _ _ (by decide) (by decide), bit_setBits, if_pos (by omega)]

theorem bit_idleWord_other {i : Nat} (v b : Nat) (hi : 1 ≤ i ∧ i < 32) (hm : bit 65295 i = true) : bit (idleWord v b) i = bit v i := by
  unfold idleWord
  rw [bit_written _ _ _ hm hi.2, bit_setBits, if_neg (by omega)]

/-- The lane's state once the word is stored, before the change of IDLE acts. -/
def ctrlStored (m : Master) (n w : Nat) (s : State) : State := storeBits (LNS_LANE_CTRL n) 0xFF09 w (picked m (LNS_LANE_CTRL n) s)

theorem lane_ctrlStored (m : Master) (n w k : Nat) (s : State) : (ctrlStored m n w s).lane k = s.lane k := rfl

theorem reg_ctrlStored (m : Master) (n w : Nat) (s : State) {x : Nat} (hx : x ≠ LNS_LANE_CTRL n) : (ctrlStored m n w s).reg x = s.reg x :=
  reg_storeBits_other _ hx

theorem idle_ctrlStored (m : Master) (n v b : Nat) (s : State) : (ctrlStored m n (idleWord v b) s).rf (LNS_LANE_CTRL_IDLE n) = b % 2 := by
  refine (rf_storeBits _ _ _ _ (LNS_LANE_CTRL_IDLE n) rfl (by show 0 + 1 ≤ 32; decide) (by show bits 0xFF09 0 1 = 2 ^ 1 - 1; decide)).trans ?_
  exact (bits_written _ _ 0 1 (by decide) (by decide)).trans (bits_setBits_same _ _ _ _)

theorem eyeMin_ctrlStored (m : Master) (n v b : Nat) (s : State) : (ctrlStored m n (idleWord v b) s).rf (LNS_LANE_CTRL_EYE_MIN n) = bits v 8 8 := by
  refine (rf_storeBits _ _ _ _ (LNS_LANE_CTRL_EYE_MIN n) rfl (by show 8 + 8 ≤ 32; decide) (by show bits 0xFF09 8 8 = 2 ^ 8 - 1; decide)).trans ?_
  exact (bits_written _ _ 8 8 (by decide) (by decide)).trans (bits_setBits_apart _ _ _ _ _ _ (by omega))

theorem regsBut_ctrlStored (m : Master) (n w : Nat) (s : State) (ha : LNS_LANE_CTRL n ∈ as) : RegsBut as s (ctrlStored m n w s) :=
  fun _ hx => reg_ctrlStored m n w s (by rintro rfl; exact hx ha)

/-- A write without RETRAIN and ADAPT that sets IDLE starts the entry. -/
theorem laneCtrlWrite_entry {n w : Nat} {inProgress sent : Bool} {hs : List (BitVec 8)} (h0 : bit w 0 = true) (h1 : bit w 1 = false) (h2 : bit w 2 = false)
    (hwas : s.rf (LNS_LANE_CTRL_IDLE n) = 0) :
    laneCtrlWrite n w inProgress sent hs s = acc (idleEnter n inProgress false (storeBits (LNS_LANE_CTRL n) 0xFF09 w s)) := by
  unfold laneCtrlWrite
  simp only [h0, h1, h2, hwas, Bool.false_and, Bool.and_true, Bool.false_eq_true, if_false, decide_true, if_true]

/-- A write without RETRAIN and ADAPT that clears IDLE asks for the exit. -/
theorem laneCtrlWrite_exit {n w : Nat} {inProgress sent : Bool} {hs : List (BitVec 8)} (h0 : bit w 0 = false) (h1 : bit w 1 = false) (h2 : bit w 2 = false)
    (hwas : s.rf (LNS_LANE_CTRL_IDLE n) = 1) :
    laneCtrlWrite n w inProgress sent hs s = acc (idleExitRequest n sent (storeBits (LNS_LANE_CTRL n) 0xFF09 w s)) := by
  unfold laneCtrlWrite
  simp only [h0, h1, h2, hwas, Bool.false_and, Bool.and_false, Bool.false_eq_true, if_false, Bool.not_false, Bool.and_true, decide_true, if_true]

theorem laneIdleSet_eq (lane : Fin 96) {m : Master} {v : Word} {env : Env} (g : Granted m (LNS_LANE_CTRL lane.val) s)
    (h1 : bit v.toNat 1 = false) (h2 : bit v.toNat 2 = false) (hwas : s.rf (LNS_LANE_CTRL_IDLE lane.val) = 0) :
    exec (.laneIdleSet m lane v env) s = .next ((afterSetting (LNS_LANE_CTRL lane.val) (idleEnter lane.val env.inProgress false
      (ctrlStored m lane.val (idleWord v.toNat 1) s))).emit (.writeResp m (LNS_LANE_CTRL lane.val) .okay)) := by
  have hwas' : (picked m (LNS_LANE_CTRL lane.val) s).rf (LNS_LANE_CTRL_IDLE lane.val) = 0 := hwas
  rw [row_laneIdleSet g, ← idleWord, laneCtrlWrite_entry (bit_idleWord_idle v.toNat 1) ((bit_idleWord_other _ _ (by decide) (by decide)).trans h1)
    ((bit_idleWord_other _ _ (by decide) (by decide)).trans h2) hwas', replied_acc, ctrlStored]

theorem laneIdleClear_eq (lane : Fin 96) {m : Master} {v : Word} {env : Env} (g : Granted m (LNS_LANE_CTRL lane.val) s)
    (h1 : bit v.toNat 1 = false) (h2 : bit v.toNat 2 = false) (hwas : s.rf (LNS_LANE_CTRL_IDLE lane.val) = 1) :
    exec (.laneIdleClear m lane v env) s = .next ((afterSetting (LNS_LANE_CTRL lane.val) (idleExitRequest lane.val env.sleepSent
      (ctrlStored m lane.val (idleWord v.toNat 0) s))).emit (.writeResp m (LNS_LANE_CTRL lane.val) .okay)) := by
  have hwas' : (picked m (LNS_LANE_CTRL lane.val) s).rf (LNS_LANE_CTRL_IDLE lane.val) = 1 := hwas
  rw [row_laneIdleClear g, ← idleWord, laneCtrlWrite_exit (bit_idleWord_idle v.toNat 0) ((bit_idleWord_other _ _ (by decide) (by decide)).trans h1)
    ((bit_idleWord_other _ _ (by decide) (by decide)).trans h2) hwas', replied_acc, ctrlStored]

/-! ### The obligation, clause by clause -/

theorem idleTimeout_enters (lane : Fin 96) (s : State) (hauto : s.rf LNS_BASIC_AUTO_IDLE = 1) (hact : (s.lane lane.val).tx = lACTIVE) :
    ∃ t, exec (.idleTimeout lane) s = .next t ∧ t.lane lane.val = { s.lane lane.val with tx := lIDLE, autoHeld := true } ∧
      t.rf (LNS_LANE_STATUS_STATE lane.val) = lIDLE ∧ t.out = .sleep lane.val :: s.out ∧ RegsBut [LNS_LANE_STATUS lane.val] s t := by
  have henter : idleEnter lane.val false true s = (s.setLane lane.val { s.lane lane.val with tx := lIDLE, autoHeld := true }).emit (.sleep lane.val) :=
    if_neg (not_not_intro hact)
  refine ⟨idleEnter lane.val false true s, congrArg Host.Outcome.next (if_pos hauto), lane_idleEnter _ _ hact, ?_, by rw [henter]; rfl,
    regsBut_idleEnter _ _ (by simp) (regsBut_refl _ _)⟩
  rw [henter, rf_emit, state_setLane, laneCode_idle rfl]
  rfl

/-- Without AUTO_IDLE neither the timeout nor the automatic exit does anything. -/
theorem autoIdle_off (lane : Fin 96) (s : State) (hoff : s.rf LNS_BASIC_AUTO_IDLE = 0) :
    exec (.idleTimeout lane) s = .next s ∧ ∀ b, exec (.autoIdleExit lane b) s = .next s :=
  ⟨congrArg Host.Outcome.next (if_neg (by rw [hoff]; decide)), fun _ => congrArg Host.Outcome.next (if_neg (by simp [hoff]))⟩

theorem sleepRx_idles (lane : Fin 96) (s : State) (hact : (s.lane lane.val).rx = lACTIVE) :
    ∃ t, exec (.sleepRx lane) s = .next t ∧ t.lane lane.val = { s.lane lane.val with rx := lIDLE, sleeps := 0 } ∧
      RegsBut [LNS_LANE_STATUS lane.val] s t :=
  ⟨_, congrArg Host.Outcome.next (if_pos hact), lane_setLane_same _ _, regsBut_setLane _ (by simp) (regsBut_refl _ _)⟩

theorem laneIdleSet_enters (lane : Fin 96) (s : State) (m : Master) (v : Word) (env : Env) (g : Granted m (LNS_LANE_CTRL lane.val) s)
    (h1 : bit v.toNat 1 = false) (h2 : bit v.toNat 2 = false) (hwas : s.rf (LNS_LANE_CTRL_IDLE lane.val) = 0) (hact : (s.lane lane.val).tx = lACTIVE) :
    ∃ t, exec (.laneIdleSet m lane v env) s = .next t ∧ t.rf (LNS_LANE_CTRL_IDLE lane.val) = 1 ∧
      t.rf (LNS_LANE_CTRL_EYE_MIN lane.val) = bits v.toNat 8 8 ∧
      t.lane lane.val = { s.lane lane.val with tx := if env.inProgress then lENTERING else lIDLE, autoHeld := false } ∧
      t.out.head? = some (.writeResp m (LNS_LANE_CTRL lane.val) .okay) ∧ RegsBut [LNS_LANE_CTRL lane.val, LNS_LANE_STATUS lane.val] s t := by
  have hapart : LNS_LANE_CTRL lane.val ≠ LNS_LANE_STATUS lane.val := by unfold LNS_LANE_CTRL LNS_LANE_STATUS; omega
  have hctrl : ∀ f : Field, f.addr = LNS_LANE_CTRL lane.val →
      (idleEnter lane.val env.inProgress false (ctrlStored m lane.val (idleWord v.toNat 1) s)).rf f = (ctrlStored m lane.val (idleWord v.toNat 1) s).rf f :=
    fun f hf => congrArg (fun r => bits r f.lo f.width)
      (regsBut_idleEnter (as := [LNS_LANE_STATUS lane.val]) _ _ (by simp) (regsBut_refl _ _) f.addr (by rw [hf]; simpa using hapart))
  refine ⟨_, laneIdleSet_eq lane g h1 h2 hwas, ?_, ?_, ?_, rfl, fun x hx => ?_⟩
  · rw [rf_emit, afterSetting_rf, hctrl _ rfl, idle_ctrlStored]
  · rw [rf_emit, afterSetting_rf, hctrl _ rfl, eyeMin_ctrlStored]
  · rw [lane_emit, lane_afterSetting, lane_idleEnter _ _ (by rw [lane_ctrlStored, hact]), lane_ctrlStored]
  · rw [reg_emit, afterSetting_reg]
    exact regsBut_idleEnter _ _ (by simp) (regsBut_ctrlStored m lane.val _ s (by simp)) x hx

theorem laneIdleClear_exits (lane : Fin 96) (s : State) (m : Master) (v : Word) (env : Env) (g : Granted m (LNS_LANE_CTRL lane.val) s)
    (h1 : bit v.toNat 1 = false) (h2 : bit v.toNat 2 = false) (hwas : s.rf (LNS_LANE_CTRL_IDLE lane.val) = 1) :
    ∃ t, exec (.laneIdleClear m lane v env) s = .next t ∧ t.rf (LNS_LANE_CTRL_IDLE lane.val) = 0 ∧
      ((s.lane lane.val).tx = lENTERING → env.sleepSent = false → t.lane lane.val = { s.lane lane.val with tx := lACTIVE, autoHeld := false }) ∧
      ((s.lane lane.val).tx = lIDLE ∨ ((s.lane lane.val).tx = lENTERING ∧ env.sleepSent = true) →
        t.lane lane.val = { s.lane lane.val with tx := lACTIVE, autoHeld := false, liTx := ((s.lane lane.val).liTx + 1) % 2 ^ 32 } ∧
        t.reg (LNS_CNT_IDLE_EXIT lane.val) = min (s.reg (LNS_CNT_IDLE_EXIT lane.val) + 1) 0xFFFFFFFF ∧ .burst lane.val ∈ t.out ∧
        .linkInfo lane.val (s.rf TRU_ARITH_PROTO_GEN) (ownChip s) (s.lane lane.val).liTx ∈ t.out) ∧
      RegsBut [LNS_LANE_CTRL lane.val, LNS_LANE_STATUS lane.val, LNS_CNT_IDLE_EXIT lane.val, FRM_CK_STATUS lane.val, FRM_CNT_TX_FRAMES lane.val] s t := by
  have hn := lane.isLt
  have hapart : LNS_LANE_CTRL lane.val ∉ exitRegs lane.val := by
    simp [exitRegs, LNS_LANE_CTRL, LNS_LANE_STATUS, LNS_CNT_IDLE_EXIT, FRM_CK_STATUS, FRM_CNT_TX_FRAMES]; omega
  have hregs := regsBut_idleExitRequest lane.val env.sleepSent (ctrlStored m lane.val (idleWord v.toNat 0) s)
  refine ⟨_, laneIdleClear_eq lane g h1 h2 hwas, ?_, fun hent hsent => ?_, fun hleave => ?_, fun x hx => ?_⟩
  · rw [rf_emit, afterSetting_rf]
    exact (congrArg (fun r => bits r 0 1) (hregs _ hapart)).trans (idle_ctrlStored m lane.val v.toNat 0 s)
  · rw [lane_emit, lane_afterSetting, hsent, idleExitRequest_abandons (by rw [lane_ctrlStored, hent]), lane_setLane_same, lane_ctrlStored]
  · obtain ⟨e1, e2, e3, e4⟩ := idleExitRequest_leavesIdle (s := ctrlStored m lane.val (idleWord v.toNat 0) s) hn hleave
    have hgen : (ctrlStored m lane.val (idleWord v.toNat 0) s).rf TRU_ARITH_PROTO_GEN = s.rf TRU_ARITH_PROTO_GEN :=
      rf_storeBits_other _ (by show TRU_ARITH ≠ LNS_LANE_CTRL lane.val; unfold TRU_ARITH LNS_LANE_CTRL; omega)
    have hchip : ownChip (ctrlStored m lane.val (idleWord v.toNat 0) s) = ownChip s :=
      reg_ctrlStored _ _ _ _ (by unfold GRT_CHIP LNS_LANE_CTRL; omega)
    rw [reg_ctrlStored _ _ _ _ (by unfold LNS_CNT_IDLE_EXIT LNS_LANE_CTRL; omega)] at e2
    rw [hgen, hchip] at e4
    refine ⟨?_, ?_, ?_, ?_⟩
    · rw [lane_emit, lane_afterSetting, e1, lane_ctrlStored]
    · rw [reg_emit, afterSetting_reg, e2]
    · rw [emit_out, afterSetting_out]
      exact List.mem_cons_of_mem _ e3
    · rw [emit_out, afterSetting_out]
      exact List.mem_cons_of_mem _ e4
  · rw [reg_emit, afterSetting_reg, hregs x (fun h => hx (List.mem_cons_of_mem _ h))]
    exact reg_ctrlStored _ _ _ _ (fun h : x = LNS_LANE_CTRL lane.val => hx (h ▸ List.mem_cons_self))

theorem autoIdleExit_exits (lane : Fin 96) (s : State) (sent : Bool) (hauto : s.rf LNS_BASIC_AUTO_IDLE = 1) (hheld : (s.lane lane.val).autoHeld = true)
    (hset : s.rf (LNS_LANE_CTRL_IDLE lane.val) = 0) (hidle : (s.lane lane.val).tx = lIDLE) :
    ∃ t, exec (.autoIdleExit lane sent) s = .next t ∧
      t.lane lane.val = { s.lane lane.val with tx := lACTIVE, autoHeld := false, liTx := ((s.lane lane.val).liTx + 1) % 2 ^ 32 } ∧
      t.reg (LNS_CNT_IDLE_EXIT lane.val) = min (s.reg (LNS_CNT_IDLE_EXIT lane.val) + 1) 0xFFFFFFFF ∧ .burst lane.val ∈ t.out ∧
      RegsBut [LNS_LANE_STATUS lane.val, LNS_CNT_IDLE_EXIT lane.val, FRM_CK_STATUS lane.val, FRM_CNT_TX_FRAMES lane.val] s t := by
  obtain ⟨e1, e2, e3, -⟩ := idleExitRequest_leavesIdle (sent := sent) lane.isLt (.inl hidle)
  exact ⟨_, congrArg Host.Outcome.next (if_pos (by simp [hauto, hheld, hset])), e1, e2, e3, regsBut_idleExitRequest _ _ _⟩

/-- Settles O10: the entries and the exits all go through `idleEnter` and `idleExitRequest`, whose effects are stated once (R69, R73 to R75). -/
theorem laneIdle : Obligations.LaneIdle := fun lane s =>
  ⟨idleTimeout_enters lane s, autoIdle_off lane s, sleepRx_idles lane s, laneIdleSet_enters lane s, laneIdleClear_exits lane s, autoIdleExit_exits lane s⟩

end Sys2Proof.Machine

/-! SUPPORT. The counter clears of every unit (R86 and each unit's register map): what a clear selects, and the write that carries it out. -/

namespace Sys2Proof.Machine

variable {s : State} {m : Master}

/-! ### Each clear as one zeroing of the counters it selects -/

theorem zero_ite (c : Prop) [Decidable c] (l : List Nat) (s : State) : (if c then s.zero l else s) = s.zero (if c then l else []) := by
  split <;> rfl

theorem lnsCntClear_zero (v : Nat) (s : State) : lnsCntClear v s =
    s.zero (if bit v 7 then (List.range 96).flatMap lnsCounters else if v % 128 < 96 then lnsCounters (v % 128) else []) := by
  unfold lnsCntClear
  rw [foldS_zero, zero_ite, ← apply_ite s.zero]

theorem frmCntClear_zero (v : Nat) (s : State) : frmCntClear v s =
    s.zero ((if bit v 7 then (List.range 12).map FRM_CNT_SEQ_LOST ++ (List.range 96).flatMap frmLaneCounters else []) ++
      (if bit v 8 then (List.range 8).flatMap frmPortCounters else []) ++
      (if bit v 7 = false ∧ bit v 8 = false ∧ v % 128 < 96 then frmLaneCounters (v % 128) else [])) := by
  have hone : (!(bit v 7) && !(bit v 8) && decide (v % 128 < 96)) = true ↔ (bit v 7 = false ∧ bit v 8 = false ∧ v % 128 < 96) := by
    simp [and_assoc]
  unfold frmCntClear
  dsimp only
  simp only [foldS_zero]
  rw [zero_zero, zero_ite (bit v 7 = true), zero_ite (bit v 8 = true), zero_ite, zero_zero, zero_zero, List.append_assoc]
  simp only [hone]

theorem decCntClear_zero (v : Nat) (s : State) :
    decCntClear v s = s.zero (if bit v 8 then (List.range 256).flatMap decCounters else decCounters (v % 256)) := by
  unfold decCntClear
  rw [foldS_zero, ← apply_ite s.zero]

theorem chnCntClear_zero (v : Nat) (s : State) :
    chnCntClear v s = s.zero (if bit v 8 then (List.range 256).flatMap chnCounters else chnCounters (v % 256)) := by
  unfold chnCntClear
  rw [foldS_zero, ← apply_ite s.zero]

theorem xarCntClear_zero (v : Nat) (s : State) : xarCntClear v s =
    s.zero (if bit v 7 then (List.range 80).flatMap xarArrCounters ++ [XAR_CNT_SPLIT, XAR_CNT_CORR] else
      if v % 128 < 80 then xarArrCounters (v % 128) else []) := by
  unfold xarCntClear
  rw [zero_zero, zero_ite, ← apply_ite s.zero]

theorem svyCntClear_zero (v : Nat) (s : State) :
    svyCntClear v s = s.zero (if bit v 3 then (List.range 8).flatMap svyCounters else svyCounters (v % 8)) :=
  (apply_ite s.zero _ _ _).symm

/-! ### A write that only zeroes counters -/

/-- A granted write that its unit answers by zeroing `cs`, at a register that is no setting. -/
theorem zeroed_answered {c : Instr} {a : Nat} {cs : List Nat} (hset : isSetting a = false)
    (hex : exec c s = .next (replied m a (acc ((picked m a s).zero cs)))) :
    ∃ t, exec c s = .next t ∧ (∀ x ∈ cs, t.reg x = 0) ∧ RegsBut cs s t ∧ SameBut [.regs, .cmx, .out] s t ∧ t.out = .writeResp m a .okay :: s.out := by
  rw [replied_acc, afterSetting_id hset] at hex
  refine ⟨_, hex, fun x hx => ?_, fun x hx => ?_, sameBut_served (by decide) (by decide) (sameBut_zero _ _ _ (by decide)), ?_⟩
  · rw [reg_emit, reg_zero, if_pos hx]
  · rw [reg_emit, reg_zero, if_neg hx, picked_reg]
  · rw [emit_out, zero_out, picked_out]

/-- No counter clear is a setting that is kept (R460). -/
theorem cntClear_noSetting : ∀ a ∈ [LNS_CNT_CLEAR, FRM_CNT_CLEAR, DEC_CNT_CLEAR, CHN_CNT_CLEAR, RSY_CNT_CLEAR, GRT_CNT_CLEAR, STG_CNT_CLEAR,
    BRG_CNT_CLEAR, XAR_CNT_CLEAR, ACC_CNT_CLEAR, SVY_CNT_CLEAR, TRP_CNT_CLEAR, MEM_CNT_CLEAR, TIM_CNT_CLEAR, CMX_CNT_CLEAR, HLT_CNT_CLEAR,
    ATL_CNT_CLEAR, CAD_CNT_CLEAR], isSetting a = false := by decide +kernel

/-- A clear's register is no setting, and its command zeroes what `clears` selects. -/
theorem exec_of_clears {c : Instr} {a : Nat} {cs : List Nat} (h : clears c = some (m, a, cs)) (g : Granted m a s) :
    isSetting a = false ∧ exec c s = .next (replied m a (acc ((picked m a s).zero cs))) := by
  unfold clears at h
  dsimp only at h
  split at h
  case h_17 => exact absurd h nofun
  all_goals
    simp only [Option.some.injEq, Prod.mk.injEq] at h
    obtain ⟨rfl, rfl, rfl⟩ := h
    refine ⟨cntClear_noSetting _ (by simp), ?_⟩
  case h_1 => rw [row_lnsCntClear g, full_mask, lnsCntClear_zero]
  case h_2 => rw [row_frmCntClear g, full_mask, frmCntClear_zero]
  case h_3 => rw [row_decCntClear g, full_mask, decCntClear_zero]
  case h_4 => rw [row_chnCntClear g, full_mask, chnCntClear_zero]
  case h_5 => rw [row_rsyCntClear g, full_mask, rsyCntClear, zero_ite]
  case h_6 => rw [row_grtCntClear g, full_mask, grtCntClear, zero_ite]
  case h_7 => rw [row_stgCntClear g, full_mask, stgCntClear, zero_ite]
  case h_8 => rw [row_brgCntClear g, full_mask, brgCntClear, zero_ite]
  case h_9 => rw [row_xarCntClear g, full_mask, xarCntClear_zero]
  case h_10 => rw [row_accCntClear g, full_mask, accCntClear, zero_ite]
  case h_11 => rw [row_svyCntClear g, full_mask, svyCntClear_zero]
  case h_12 => rw [row_trpCntClear g, full_mask, trpCntClear, zero_ite]
  case h_13 => rw [row_memCntClear g, full_mask, memCntClear, zero_ite]
  case h_14 => rw [row_timCntClear g, full_mask, timCntClear, zero_ite]
  case h_15 => rw [row_cmxCntClear g, full_mask, zero_ite, cmxCounters]
  case h_16 => rw [row_hltCntClear g, full_mask, hltCntClear, zero_ite]

/-! ### The atlas's clear (R258) -/

/-- The counters of the atlas. -/
def atlCounters : List Nat :=
  [ATL_CNT_DISPATCH, ATL_CNT_PAGE_IN, ATL_CNT_PAGE_OUT, ATL_CNT_SLOT_WAIT, ATL_CNT_BUSY, ATL_CNT_POISON, ATL_CNT_DESC_CORR, ATL_CNT_MOVED]

theorem atlCntClear_eq {v : Nat} (h0 : bit v 0 = true) (s : State) :
    atlCntClear v s = (s.zero atlCounters).setReg ATL_SLOTS_PEAK (usedSlots s).length := if_pos h0

theorem atlCntClear_clears {v : Word} {env : Env} (g : Granted m ATL_CNT_CLEAR s) (h0 : bit v.toNat 0 = true) :
    ∃ t, exec (.atlCntClear m v env) s = .next t ∧ (∀ x ∈ atlCounters, t.reg x = 0) ∧ t.reg ATL_SLOTS_PEAK = (usedSlots s).length % 2 ^ 32 ∧
      RegsBut (atlCounters ++ [ATL_SLOTS_PEAK]) s t ∧ SameBut [.regs, .cmx, .out] s t ∧ t.out = .writeResp m ATL_CNT_CLEAR .okay :: s.out := by
  have hpeak : ATL_SLOTS_PEAK ∉ atlCounters := by decide
  have hex := row_atlCntClear (value := v) (env := env) g
  rw [full_mask, atlCntClear_eq h0, replied_acc, afterSetting_id (cntClear_noSetting _ (by simp))] at hex
  refine ⟨_, hex, fun x hx => ?_, ?_, fun x hx => ?_, ?_, ?_⟩
  · rw [reg_emit, reg_setReg_other _ (fun e : x = ATL_SLOTS_PEAK => hpeak (e ▸ hx)), reg_zero, if_pos hx]
  · rw [reg_emit, reg_setReg_same]
    rfl
  · rw [List.mem_append, List.mem_singleton, not_or] at hx
    rw [reg_emit, reg_setReg_other _ hx.2, reg_zero, if_neg hx.1, picked_reg]
  · exact sameBut_served (by decide) (by decide) (sameBut_trans (sameBut_zero _ _ _ (by decide)) (sameBut_setReg _ _ _ (by decide)))
  · rw [emit_out, setReg_out, zero_out, picked_out]

/-! ### The cadastre's clear (R335) -/

/-- The counters of the cadastre's classes. -/
def cadCounters : List Nat := (List.range 16).flatMap (fun c => [CAD_CNT_MISS c, CAD_CNT_CEIL c])

/-- The peaks of the receive buffers of the octets `l` returned to 0. -/
def peaksCleared (l : List Nat) (s : State) : State := foldS (fun k t => t.wf (CAD_RXBUF_PEAK k) 0) l s

theorem cadCntClear_eq {v : Nat} (h0 : bit v 0 = true) (s : State) :
    cadCntClear v s = (peaksCleared (List.range 12) (s.zero cadCounters)).setReg CAD_HEADROOM_MIN 0xFFFF := if_pos h0

theorem reg_peaksCleared (l : List Nat) (s : State) {x : Nat} (hx : x ∉ l.map CAD_RXBUF) : (peaksCleared l s).reg x = s.reg x := by
  induction l generalizing s with
  | nil => rfl
  | cons k l ih =>
    rw [List.map_cons, List.mem_cons, not_or] at hx
    exact (ih (s.wf (CAD_RXBUF_PEAK k) 0) hx.2).trans (reg_wf_other s hx.1)

/-- The peak stands beside the level in one register, which keeps the level. -/
theorem level_peaksCleared (l : List Nat) (s : State) (k : Nat) : (peaksCleared l s).rf (CAD_RXBUF_LEVEL k) = s.rf (CAD_RXBUF_LEVEL k) :=
  foldS_same (fun t : State => t.rf (CAD_RXBUF_LEVEL k)) _ _ _
    (fun j t => rf_wf_apart t (CAD_RXBUF_PEAK j) (CAD_RXBUF_LEVEL k) 0 (by show 0 + 10 ≤ 32; decide) (.inr (.inl (by show 0 + 10 ≤ 16; decide))))

theorem peak_peaksCleared {l : List Nat} {k : Nat} (hk : k ∈ l) (s : State) : (peaksCleared l s).rf (CAD_RXBUF_PEAK k) = 0 := by
  have hsame : ∀ t : State, (t.wf (CAD_RXBUF_PEAK k) 0).rf (CAD_RXBUF_PEAK k) = 0 := fun t => rf_wf_same t _ _ (by show 16 + 10 ≤ 32; decide)
  have hkeep : ∀ (j : Nat) (t : State), t.rf (CAD_RXBUF_PEAK k) = 0 → (t.wf (CAD_RXBUF_PEAK j) 0).rf (CAD_RXBUF_PEAK k) = 0 := by
    intro j t ht
    by_cases hj : CAD_RXBUF k = CAD_RXBUF j
    · rw [show k = j by unfold CAD_RXBUF at hj; omega] at hsame ⊢
      exact hsame t
    · rw [rf_wf_apart t (CAD_RXBUF_PEAK j) (CAD_RXBUF_PEAK k) 0 (by show 16 + 10 ≤ 32; decide) (.inl hj), ht]
  induction l generalizing s with
  | nil => exact absurd hk List.not_mem_nil
  | cons j l ih =>
    rcases List.mem_cons.mp hk with rfl | hk
    · exact foldS_keeps (fun t : State => t.rf (CAD_RXBUF_PEAK k) = 0) _ l _ hkeep (hsame s)
    · exact ih hk _

theorem sameBut_peaksCleared (l : List Nat) (s : State) (ps : List Part) (h : Part.regs ∈ ps) : SameBut ps s (peaksCleared l s) :=
  foldS_keeps (SameBut ps s) _ l s (fun _ _ ht => sameBut_trans ht (sameBut_setReg _ _ ps h)) (sameBut_refl ps s)

theorem out_peaksCleared (l : List Nat) (s : State) : (peaksCleared l s).out = s.out :=
  foldS_same State.out _ l s (fun k t => wf_out t (CAD_RXBUF_PEAK k) 0)

theorem mem_cadCounters {x : Nat} : x ∈ cadCounters ↔ ∃ c < 16, x = CAD_CNT_MISS c ∨ x = CAD_CNT_CEIL c := by
  simp [cadCounters]

theorem cadCounters_apart {x : Nat} (hx : x ∈ cadCounters) : x ∉ (List.range 12).map CAD_RXBUF ∧ x ≠ CAD_HEADROOM_MIN := by
  obtain ⟨c, hc, h⟩ := mem_cadCounters.mp hx
  unfold CAD_CNT_MISS CAD_CNT_CEIL at h
  unfold CAD_HEADROOM_MIN CAD_RXBUF
  refine ⟨fun hm => ?_, by omega⟩
  obtain ⟨k, hk, rfl⟩ := List.mem_map.mp hm
  rw [List.mem_range] at hk
  omega

theorem cadCntClear_clears {v : Word} {env : Env} (g : Granted m CAD_CNT_CLEAR s) (h0 : bit v.toNat 0 = true) :
    ∃ t, exec (.cadCntClear m v env) s = .next t ∧ (∀ c : Fin 16, t.reg (CAD_CNT_MISS c.val) = 0 ∧ t.reg (CAD_CNT_CEIL c.val) = 0) ∧
      (∀ k : Fin 12, t.rf (CAD_RXBUF_PEAK k.val) = 0 ∧ t.rf (CAD_RXBUF_LEVEL k.val) = s.rf (CAD_RXBUF_LEVEL k.val)) ∧ t.reg CAD_HEADROOM_MIN = 0xFFFF ∧
      RegsBut (cadCounters ++ (List.range 12).map CAD_RXBUF ++ [CAD_HEADROOM_MIN]) s t ∧ SameBut [.regs, .cmx, .out] s t ∧
      t.out = .writeResp m CAD_CNT_CLEAR .okay :: s.out := by
  have hex := row_cadCntClear (value := v) (env := env) g
  rw [full_mask, cadCntClear_eq h0, replied_acc, afterSetting_id (cntClear_noSetting _ (by simp))] at hex
  generalize hu : (picked m CAD_CNT_CLEAR s).zero cadCounters = u at hex
  have hzero : ∀ x ∈ cadCounters, ((peaksCleared (List.range 12) u).setReg CAD_HEADROOM_MIN 0xFFFF).reg x = 0 := by
    intro x hx
    obtain ⟨hbuf, hmin⟩ := cadCounters_apart hx
    rw [reg_setReg_other _ hmin, reg_peaksCleared _ _ hbuf, ← hu, reg_zero, if_pos hx]
  have hbuf : ∀ (k : Nat) (f : Field), k < 12 → f.addr = CAD_RXBUF k →
      ((peaksCleared (List.range 12) u).setReg CAD_HEADROOM_MIN 0xFFFF).rf f = (peaksCleared (List.range 12) u).rf f := fun k f hk hf =>
    congrArg (fun r => bits r f.lo f.width) (reg_setReg_other _ (by rw [hf]; unfold CAD_RXBUF CAD_HEADROOM_MIN; omega))
  have hlevel : ∀ k, k < 12 → u.rf (CAD_RXBUF_LEVEL k) = s.rf (CAD_RXBUF_LEVEL k) := by
    intro k hk
    have hout : CAD_RXBUF k ∉ cadCounters := fun h => (cadCounters_apart h).1 (List.mem_map.mpr ⟨k, List.mem_range.mpr hk, rfl⟩)
    have hreg : u.reg (CAD_RXBUF k) = s.reg (CAD_RXBUF k) := by rw [← hu, reg_zero, if_neg hout, picked_reg]
    exact congrArg (fun r => bits r 0 10) hreg
  refine ⟨_, hex, fun c => ⟨?_, ?_⟩, fun k => ⟨?_, ?_⟩, ?_, fun x hx => ?_, ?_, ?_⟩
  · rw [reg_emit, hzero _ (mem_cadCounters.mpr ⟨c.val, c.isLt, .inl rfl⟩)]
  · rw [reg_emit, hzero _ (mem_cadCounters.mpr ⟨c.val, c.isLt, .inr rfl⟩)]
  · rw [rf_emit, hbuf k.val _ k.isLt rfl, peak_peaksCleared (List.mem_range.mpr k.isLt)]
  · rw [rf_emit, hbuf k.val _ k.isLt rfl, level_peaksCleared, hlevel _ k.isLt]
  · rw [reg_emit, reg_setReg_same]
    rfl
  · simp only [List.mem_append, List.mem_singleton, not_or] at hx
    obtain ⟨⟨hcnt, hbufs⟩, hmin⟩ := hx
    rw [reg_emit, reg_setReg_other _ hmin, reg_peaksCleared _ _ hbufs, ← hu, reg_zero, if_neg hcnt, picked_reg]
  · subst hu
    exact sameBut_served (by decide) (by decide)
      (sameBut_trans (sameBut_zero cadCounters _ _ (by decide)) (sameBut_trans (sameBut_peaksCleared (List.range 12) _ _ (by decide)) (sameBut_setReg _ _ _ (by decide))))
  · rw [emit_out, setReg_out, out_peaksCleared, ← hu, zero_out, picked_out]

/-- Settles O9: every clear but two is one zeroing of the counters that `clears` selects; the atlas's and the cadastre's set their peaks besides. -/
theorem counterClears : Obligations.CounterClears := by
  intro m v env s
  refine ⟨fun c a cs h g => ?_, fun g h0 => atlCntClear_clears g h0, fun g h0 => cadCntClear_clears g h0⟩
  obtain ⟨hset, hex⟩ := exec_of_clears h g
  exact zeroed_answered hset hex

end Sys2Proof.Machine

/-! SUPPORT. Check engines and rows of check failures (R77 to R79): what a receiver's checks make of them, and that nothing after the checks touches them. -/

namespace Sys2Proof.Machine

variable {s t : State}

/-! ### What the check engines hold -/

/-- The engines in use and the check failures in a row, of every lane. -/
def State.checks (s : State) : List (Nat × CkUse) × List (Nat × Nat) := (s.frm.ckUse, s.frm.ckFails)

theorem checks_of_frm (h : t.frm = s.frm) : t.checks = s.checks := congrArg (fun x : FrmSt => (x.ckUse, x.ckFails)) h

/-- An operation that touches only parts besides the framing's leaves the engines alone. -/
theorem checks_of_agree {P : List Part} (h : Agree P s t) (hP : Part.frm ∉ P) : t.checks = s.checks := checks_of_frm (h.out .frm hP)

theorem ckInUse_of_checks (h : t.checks = s.checks) (n : Nat) : ckInUse t n = ckInUse s n :=
  congrArg (fun x : List (Nat × CkUse) × List (Nat × Nat) => sget CkUse.blank x.1 n) h

theorem ckFails_of_checks (h : t.checks = s.checks) (n : Nat) : sget 0 t.frm.ckFails n = sget 0 s.frm.ckFails n :=
  congrArg (fun x : List (Nat × CkUse) × List (Nat × Nat) => sget 0 x.2 n) h

/-! ### A check failure and a good check (R77, R79) -/

theorem ckInUse_ckFail (n : Nat) : ckInUse (ckFail n s) n = ckInUse s n := by
  unfold ckFail ckInUse
  dsimp only
  split
  · rw [raise_frm]; rfl
  · rfl

theorem ckFails_ckFail (n : Nat) : sget 0 (ckFail n s).frm.ckFails n = sget 0 s.frm.ckFails n + 1 := by
  have hset : sget 0 (sset 0 s.frm.ckFails n (sget 0 s.frm.ckFails n + 1)) n = sget 0 s.frm.ckFails n + 1 := sget_sset_same 0 _ n _
  unfold ckFail
  dsimp only
  split
  · rw [raise_frm]; exact hset
  · exact hset

/-- The sixteenth failure in a row is reported. -/
theorem ckFail_signals {n : Nat} (h : sget 0 s.frm.ckFails n = 15) : Signals EV_FRM_CK_MISMATCH (ckFail n s) := by
  unfold ckFail
  dsimp only
  rw [if_pos (by rw [h])]
  exact signals_raise _ _ _ (by decide) (by decide)

theorem ckFails_ckGood (n : Nat) : sget 0 (ckGood n s).frm.ckFails n = 0 :=
  sget_sset_same 0 s.frm.ckFails n 0

/-! ### The lane-level checks -/

/-- A frame of another check value is discarded as a failure of the lane's engine. -/
theorem rxLane_bad {n c : Nat} {f : Frame} (hact : (s.lane n).rx = lACTIVE) (hgen : (s.lane n).gen ≠ none) (hen : (ckInUse s n).en = true)
    (hc : laneCheck s n f ≠ c) : rxLane n f c s = (.discard, ckFail n (s.inc (FRM_CNT_RX_FRAMES n) 1)) := by
  obtain ⟨g, hg⟩ := Option.ne_none_iff_exists'.mp hgen
  have hfail : ((ckInUse (s.inc (FRM_CNT_RX_FRAMES n) 1) n).en && decide (laneCheck (s.inc (FRM_CNT_RX_FRAMES n) 1) n f ≠ c)) = true :=
    Bool.and_eq_true_iff.mpr ⟨hen, decide_eq_true hc⟩
  unfold rxLane
  simp only [hact, hg]
  rw [if_neg (by decide), if_neg (by decide), if_pos hfail]

/-- After a frame of the right check value the row of failures is empty, whatever the later checks say. -/
theorem checks_rxLane_good {n c : Nat} {f : Frame} (hact : (s.lane n).rx = lACTIVE) (hgen : (s.lane n).gen ≠ none)
    (hc : laneCheck s n f = c) : (rxLane n f c s).2.checks = (ckGood n s).checks := by
  obtain ⟨g, hg⟩ := Option.ne_none_iff_exists'.mp hgen
  have hpass : ((ckInUse (s.inc (FRM_CNT_RX_FRAMES n) 1) n).en && decide (laneCheck (s.inc (FRM_CNT_RX_FRAMES n) 1) n f ≠ c)) = false := by
    have hsame : decide (laneCheck (s.inc (FRM_CNT_RX_FRAMES n) 1) n f ≠ c) = false := decide_eq_false (not_not_intro hc)
    rw [hsame, Bool.and_false]
  unfold rxLane
  simp only [hact, hg]
  rw [if_neg (by decide), if_neg (by decide), if_neg (by rw [hpass]; decide)]
  split
  · rfl
  · split <;> rfl

/-! ### What leaves the engines alone -/

/-- What both branches keep, the choice keeps. -/
theorem ite_keeps {β : Type} (g : State → β) {c : Prop} [Decidable c] {x : β} (h : g s = x) (h' : g t = x) : g (if c then s else t) = x := by
  split <;> assumption

@[simp] theorem checks_inc (a k : Nat) : (s.inc a k).checks = s.checks := rfl
@[simp] theorem checks_wf (x : Field) (v : Nat) : (s.wf x v).checks = s.checks := rfl
@[simp] theorem checks_setRef (e : Nat) (x : RefSt) : (s.setRef e x).checks = s.checks := rfl
@[simp] theorem checks_with_hlt (x : HltSt) : State.checks { s with hlt := x } = s.checks := rfl
@[simp] theorem checks_with_wm (x : WmSt) : State.checks { s with wm := x } = s.checks := rfl
@[simp] theorem checks_emit (o : Output) : (s.emit o).checks = s.checks := rfl
@[simp] theorem checks_setFlow (k : Nat) (fl : FlowSt) : (s.setFlow k fl).checks = s.checks := rfl
@[simp] theorem checks_raise (e : Ev) (a b : Nat) : (raise e a b s).checks = s.checks := checks_of_frm (raise_frm s e a b)

@[simp] theorem checks_seqGap (k src g : Nat) : (seqGap k src g s).checks = s.checks :=
  checks_of_agree (P := [.hlt, .out, .regs]) (agree_seqGap _ _ _ (by decide) (by decide) (by decide) agree_refl) (by decide)

@[simp] theorem checks_ite_seqGap (c : Prop) [Decidable c] (k src g : Nat) : (if c then seqGap k src g s else s).checks = s.checks :=
  ite_keeps State.checks (checks_seqGap k src g) rfl

@[simp] theorem checks_queueVoids (a b c d : Nat) (e : Bool) : (queueVoids a b c d e s).checks = s.checks :=
  checks_of_agree (P := [.dec]) (agree_queueVoids _ _ _ _ _ (by decide) agree_refl) (by decide)

@[simp] theorem checks_voidUpTo (fl : FlowSt) (i : Nat) : (voidUpTo fl i s).checks = s.checks :=
  checks_of_agree (P := [.dec]) (agree_voidUpTo _ _ (by decide) agree_refl) (by decide)

@[simp] theorem checks_ingressAccept (k n : Nat) (f : Frame) : (ingressAccept k n f s).checks = s.checks :=
  checks_of_agree (P := [.cad, .dec, .hlt, .out, .regs])
    (agree_ingressAccept _ _ _ (by decide) (by decide) (by decide) (by decide) (by decide) agree_refl) (by decide)

@[simp] theorem checks_grtTake (n link : Nat) (f : Frame) : (grtTake n link f s).checks = s.checks :=
  checks_of_agree (P := [.cad, .hlt, .out, .regs, .stg, .wm])
    (agree_grtTake _ _ _ (by decide) (by decide) (by decide) (by decide) (by decide) (by decide) agree_refl) (by decide)

@[simp] theorem checks_driveAct (b : Bool) : (driveAct b s).checks = s.checks :=
  checks_of_agree (P := [.hlt, .out, .regs]) (agree_driveAct _ (by decide) (by decide) (by decide) agree_refl) (by decide)

@[simp] theorem checks_commitMode (m c : Nat) : (commitMode m c s).checks = s.checks :=
  checks_of_agree (P := [.hlt, .out, .regs, .trp]) (agree_commitMode _ _ (by decide) (by decide) (by decide) (by decide) agree_refl) (by decide)

@[simp] theorem checks_sigArrive (own : Bool) (k : Nat) (x : SigSum) : (sigArrive own k x s).checks = s.checks :=
  checks_of_agree (P := [.hlt, .out, .regs]) (agree_sigArrive _ _ _ (by decide) (by decide) (by decide) agree_refl) (by decide)

@[simp] theorem checks_updateQl (e : Nat) : (updateQl e s).checks = s.checks :=
  checks_of_agree (P := [.hlt, .mer, .out, .regs]) (agree_updateQl _ (by decide) (by decide) (by decide) (by decide) agree_refl) (by decide)

/-! ### Frames on ingress lanes -/

@[simp] theorem checks_ingressDeliver (k n : Nat) (f : Frame) : (ingressDeliver k n f s).checks = s.checks := by
  unfold ingressDeliver
  dsimp only
  refine ite_keeps State.checks (ite_keeps State.checks ?first ?notFirst)
    (ite_keeps State.checks (ite_keeps State.checks ?implausible ?candidate) (ite_keeps State.checks ?inOrder ?lost))
  case first => simp only [checks_ingressAccept, checks_setFlow, checks_ite_seqGap]
  case notFirst => simp only [checks_inc, checks_ite_seqGap]
  case implausible => simp only [checks_setFlow, checks_inc, checks_ite_seqGap]
  case candidate =>
    cases (s.flow (flowKey k 0 (frameClass f) f.srcChip)).cand with
    | none => simp only [checks_setFlow, checks_ite_seqGap]
    | some c =>
      refine ite_keeps State.checks ?_ ?_
      · simp only [checks_ingressAccept, checks_setFlow, checks_voidUpTo, checks_ite_seqGap]
      · simp only [checks_setFlow, checks_inc, checks_ite_seqGap]
  case inOrder => simp only [checks_ingressAccept, checks_setFlow, checks_ite_seqGap]
  case lost => simp only [checks_queueVoids, checks_setFlow, checks_inc, checks_ite_seqGap]

@[simp] theorem checks_drainHeld (k n key fuel : Nat) : (drainHeld k n key fuel s).checks = s.checks := by
  induction fuel generalizing s with
  | zero => rfl
  | succ fuel ih =>
    unfold drainHeld
    dsimp only
    split
    · rw [ih, checks_ingressDeliver, checks_setFlow]
    · rfl

/-- After the lane-level checks an ingress lane leaves the engines alone. -/
theorem checks_ingressRx (n : Nat) (f : Frame) (c : Nat) (s : State) : (ingressRx n f c s).checks = (rxLane n f c s).2.checks := by
  unfold ingressRx
  dsimp only
  obtain ⟨v, u⟩ := rxLane n f c s
  cases v with
  | lost => rfl
  | old => rfl
  | discard =>
    have hvoids : (if f.kind = kTIME then queueVoids f.firstStream f.streamCount f.index 1 true u else u).checks = u.checks :=
      ite_keeps State.checks (checks_queueVoids _ _ _ _ _) rfl
    exact ite_keeps State.checks ((checks_setFlow _ _).trans hvoids) hvoids
  | good =>
    refine ite_keeps State.checks ?_ (ite_keeps State.checks rfl ?_)
    · simp only [checks_with_wm, checks_setFlow, checks_ite_seqGap]
    · simp only [checks_drainHeld, checks_ingressDeliver]

/-- A discarded frame leaves every register as the lane-level checks have left it. -/
theorem regs_ingressRx {n c : Nat} {f : Frame} {u : State} (h : rxLane n f c s = (.discard, u)) : (ingressRx n f c s).regs = u.regs := by
  have hqueue : (queueVoids f.firstStream f.streamCount f.index 1 true u).regs = u.regs := ite_keeps State.regs rfl rfl
  have hvoids : (if f.kind = kTIME then queueVoids f.firstStream f.streamCount f.index 1 true u else u).regs = u.regs :=
    ite_keeps State.regs hqueue rfl
  unfold ingressRx
  rw [h]
  exact ite_keeps State.regs hvoids hvoids

/-! ### Frames on graticule lanes -/

@[simp] theorem checks_sendLanes (ls : List Nat) (f : Frame) : (sendLanes ls f s).checks = s.checks := by
  unfold sendLanes
  split <;> rfl

@[simp] theorem checks_grtRelay (d : Nat) (f : Frame) : (grtRelay d f s).checks = s.checks := by
  unfold grtRelay
  dsimp only
  split
  · rfl
  · split
    · exact checks_sendLanes _ _
    · rfl

@[simp] theorem checks_grtDeliver (n link dest key : Nat) (f : Frame) : (grtDeliver n link dest key f s).checks = s.checks := by
  unfold grtDeliver
  dsimp only
  split
  · rw [checks_grtTake, checks_seqGap, checks_setFlow]
  · rw [checks_grtRelay, checks_setFlow]

@[simp] theorem checks_grtDrain (link dest key fuel : Nat) : (grtDrain link dest key fuel s).checks = s.checks := by
  induction fuel generalizing s with
  | zero => rfl
  | succ fuel ih =>
    unfold grtDrain
    dsimp only
    split
    · rw [ih, checks_grtDeliver, checks_setFlow]
    · rfl

theorem checks_grtRx (n : Nat) (f : Frame) (c : Nat) (s : State) : (grtRx n f c s).checks = (rxLane n f c s).2.checks := by
  unfold grtRx
  obtain ⟨v, u⟩ := rxLane n f c s
  cases v with
  | lost => rfl
  | old => rfl
  | discard => rfl
  | good =>
    dsimp only
    split
    · rw [checks_raise, checks_inc]
    · split
      · rw [checks_raise, checks_inc]
      · split
        · split <;> rfl
        · rw [checks_grtDrain, checks_grtDeliver]

/-! ### Frames on lanes of the twin link -/

@[simp] theorem checks_insertMark (point plan : Nat) (w : Waymark) : (insertMark point plan w s).checks = s.checks := by
  unfold insertMark
  split <;> rfl

@[simp] theorem checks_copyMark (w : Waymark) : (copyMark w s).checks = s.checks := by
  unfold copyMark
  split
  · exact checks_insertMark _ _ _
  · rfl

theorem checks_copyMarks (ws : List Waymark) (s : State) : (foldS copyMark ws s).checks = s.checks :=
  foldS_same State.checks copyMark ws s (fun w _ => checks_copyMark w)

theorem checks_bursts (ns : List Nat) (s : State) : (foldS (fun n t => t.emit (.burst n)) ns s).checks = s.checks :=
  foldS_same State.checks (fun n t => t.emit (.burst n)) ns s (fun n _ => checks_emit (.burst n))

@[simp] theorem checks_takeover (cause : Nat) : (takeover cause s).checks = s.checks := by
  unfold takeover
  cases s.hlt.beacon with
  | none => rfl
  | some b =>
    refine ite_keeps State.checks rfl ?_
    dsimp only
    rw [checks_bursts, checks_insertMark, checks_raise, checks_wf, checks_with_hlt, checks_commitMode, checks_driveAct]

@[simp] theorem checks_beaconTake (b : Beacon) : (beaconTake b s).checks = s.checks := by
  have hdiffer : ∀ (c : Prop) [Decidable c] (e : Ev) (x y : Nat), (if c then raise e x y s else s).checks = s.checks :=
    fun _ _ _ _ _ => ite_keeps State.checks (checks_raise _ _ _) rfl
  unfold beaconTake
  dsimp only
  refine ite_keeps State.checks ?_ ?_
  · rw [checks_takeover, checks_updateQl, checks_setRef, checks_with_hlt, hdiffer]
  · rw [checks_updateQl, checks_setRef, checks_with_hlt, hdiffer]

@[simp] theorem checks_twinElements (src n fuel : Nat) (b : List Byte) : (twinElements src n fuel b s).checks = s.checks := by
  induction fuel generalizing b s with
  | zero => rfl
  | succ fuel ih =>
    unfold twinElements
    split
    · split
      · rfl
      · rw [ih, checks_beaconTake]
    · split
      · rfl
      · rw [ih]
        split
        · exact checks_sigArrive _ _ _
        · rfl
    · rfl

theorem checks_twinRx (n : Nat) (f : Frame) (c : Nat) (fits : Bool) (s : State) : (twinRx n f c fits s).checks = (rxLane n f c s).2.checks := by
  unfold twinRx
  obtain ⟨v, u⟩ := rxLane n f c s
  cases v with
  | lost => rfl
  | old => rfl
  | discard => rfl
  | good =>
    dsimp only
    refine ite_keeps State.checks ?_ (ite_keeps State.checks ?_ ?_)
    · rw [checks_raise, checks_inc, checks_ite_seqGap, checks_setFlow]
    · rw [checks_ite_seqGap, checks_setFlow]
    · rw [checks_twinElements, checks_copyMarks, checks_ite_seqGap, checks_setFlow]

/-! ### A frame that arrives, on whatever lane receives frames -/

/-- The command of an arriving frame makes of the engines, and of the registers if it discards the frame, what the lane-level checks make of them. -/
theorem exec_frameArrives {lane : Fin 96} {f : Frame} {c : Nat} {fits : Bool} {i : Instr} (h : frameArrives lane f c fits s = some i) :
    ∃ t, exec i s = .next t ∧ t.checks = (rxLane lane.val f c s).2.checks ∧ ∀ u, rxLane lane.val f c s = (.discard, u) → t.regs = u.regs := by
  unfold frameArrives at h
  split at h
  · next hrole =>
    obtain rfl := Option.some.inj h
    exact ⟨_, congrArg Host.Outcome.next (if_pos hrole), checks_ingressRx _ _ _ _, fun u hu => regs_ingressRx hu⟩
  · split at h
    · next hrole =>
      obtain rfl := Option.some.inj h
      exact ⟨_, congrArg Host.Outcome.next (if_pos hrole), checks_grtRx _ _ _ _, fun u hu => by unfold grtRx; rw [hu]⟩
    · split at h
      · next hrole =>
        obtain rfl := Option.some.inj h
        exact ⟨_, congrArg Host.Outcome.next (if_pos hrole), checks_twinRx _ _ _ _ _, fun u hu => by unfold twinRx; rw [hu]⟩
      · exact absurd h nofun

/-- Settles O24: the lane-level checks count the failure or end the row, and nothing that follows them touches the engines (R77, R79). -/
theorem checkMismatch : Obligations.CheckMismatch := by
  intro lane f c fits s i harr hact hgen hen
  obtain ⟨t, hex, hchecks, hregs⟩ := exec_frameArrives harr
  by_cases hc : laneCheck s lane.val f = c
  · have hgood : t.checks = (ckGood lane.val s).checks := hchecks.trans (checks_rxLane_good hact hgen hc)
    exact ⟨t, hex, ckInUse_of_checks hgood _, fun hne => absurd hc hne, fun _ => (ckFails_of_checks hgood _).trans (ckFails_ckGood _)⟩
  · have hbad := rxLane_bad hact hgen hen hc
    rw [hbad] at hchecks
    have hsignals : sget 0 s.frm.ckFails lane.val = 15 → Signals EV_FRM_CK_MISMATCH t := by
      intro h15
      refine signals_of_reg (ckFail_signals (s := s.inc (FRM_CNT_RX_FRAMES lane.val) 1) h15) ?_
      unfold State.reg
      rw [hregs _ hbad]
    exact ⟨t, hex, (ckInUse_of_checks hchecks _).trans (ckInUse_ckFail _),
      fun _ => ⟨(ckFails_of_checks hchecks _).trans (ckFails_ckFail _), hsignals⟩, fun he => absurd he hc⟩

end Sys2Proof.Machine

/-! SUPPORT. Settings and synchronising resets of the decimators (R89, R90, R97, R99): what a write of `UNIT_BASIC`, of a slot's configuration and of
`DEC_SYNC_CTRL` makes of the slots and of their shadows. -/

namespace Sys2Proof.Machine

variable {s t : State} {m : Master} {us as : List Nat}

/-! ### Slots -/

theorem slot_of_dec (h : t.dec = s.dec) (k : Nat) : t.slot k = s.slot k := congrArg (fun x : DecSt => sget DecSlot.blank x.slots k) h

theorem slot_raise (e : Ev) (a b k : Nat) : (raise e a b s).slot k = s.slot k := slot_of_dec (raise_dec s e a b) k

theorem slot_setSlot (j k : Nat) (x : DecSlot) : (s.setSlot j x).slot k = if k = j then x else s.slot k :=
  sget_sset _ _ _ _ _

@[simp] theorem slot_setSlot_same (j : Nat) (x : DecSlot) : (s.setSlot j x).slot j = x := by rw [slot_setSlot, if_pos rfl]

/-- The state after an accepted write of the decimators shows the slots as the unit's rule left them. -/
theorem slot_answered (a : Nat) (o : Output) (k : Nat) : ((afterSetting a s).emit o).slot k = s.slot k :=
  slot_of_dec (afterSetting_dec a s) k

/-! ### Folds, fields and bits -/

/-- What one step of a fold brings about and every step keeps holds at its end. -/
theorem foldS_reaches {σ α : Type} (P : σ → Prop) (f : α → σ → σ) {l : List α} {a : α} (s : σ) (ha : a ∈ l) (hset : ∀ t, P (f a t))
    (hkeep : ∀ b t, P t → P (f b t)) : P (foldS f l s) := by
  induction l generalizing s with
  | nil => exact absurd ha List.not_mem_nil
  | cons b l ih =>
    rcases List.mem_cons.mp ha with rfl | ha
    · exact foldS_keeps P f l _ hkeep (hset s)
    · exact ih _ ha

theorem rf_setReg_same (f : Field) {a n : Nat} (ha : f.addr = a) (hl : f.lo + f.width ≤ 32) : (s.setReg a n).rf f = bits n f.lo f.width := by
  unfold State.rf
  rw [ha, reg_setReg_same, bits_mod _ _ _ hl]

theorem rf_setReg_other {f : Field} {a n : Nat} (ha : f.addr ≠ a) : (s.setReg a n).rf f = s.rf f := by
  unfold State.rf
  rw [reg_setReg_other s ha]

/-- A field inside another that is set reads its bits of the value. -/
theorem bits_setBits_within {n lo w v lo2 w2 : Nat} (h : lo ≤ lo2 ∧ lo2 + w2 ≤ lo + w) : bits (setBits n lo w v) lo2 w2 = bits v (lo2 - lo) w2 := by
  apply Nat.eq_of_testBit_eq
  intro i
  rw [testBit_bits, testBit_bits, testBit_setBits]
  by_cases hi : i < w2
  · rw [if_pos (by omega), show lo2 + i - lo = lo2 - lo + i by omega]
  · simp [hi]

theorem bits_one (n i : Nat) : bits n i 1 = b2n (bit n i) := by
  unfold bits bit b2n
  rcases Nat.mod_two_eq_zero_or_one (n >>> i) with h | h <;> simp [h]

/-! ### Basic settings (R90) -/

/-- The decimation and the order that R89 and R90 permit. -/
def decInRange (v : Nat) : Prop := 1 ≤ bits v 0 7 ∧ bits v 0 7 ≤ 64 ∧ 3 ≤ bits v 8 3 ∧ bits v 8 3 ≤ 5

/-- The check of the unit's rules finds a setting that is out of range. -/
theorem not_decInRange_iff {v : Nat} :
    ¬decInRange v ↔ (decide (bits v 0 7 < 1) || decide (64 < bits v 0 7) || decide (bits v 8 3 < 3) || decide (5 < bits v 8 3)) = true := by
  unfold decInRange
  simp only [Bool.or_eq_true, decide_eq_true_eq]
  omega

/-- The scale that R90 derives for a written setting, as SHIFT and GAIN. -/
def basicScale (v : Nat) : Nat × Nat := decScale (bits v 0 7) (bits v 8 3) (bits v 11 1 + 1) (bit v 12)

/-- Slot `j`'s shadow loaded with the low 13 bits of the setting `v` and with its scale. -/
def basicLoad (v j : Nat) (s : State) : State :=
  (s.setReg (DEC_STREAM_CFG j) (setBits (s.reg (DEC_STREAM_CFG j)) 0 13 v)).setReg (DEC_OUT_SCALE j) ((basicScale v).1 + 65536 * (basicScale v).2)

/-- Of the implemented bits of UNIT_BASIC the setting has none above its 13 bits, and none at bit 7. -/
theorem basicWord_whole (n : Nat) : (n &&& 8063) % 8192 - bits (n &&& 8063) 7 1 * 128 = n &&& 8063 := by
  have hle : n &&& 8063 ≤ 8063 := Nat.and_le_right
  have h7 : bits (n &&& 8063) 7 1 = 0 := by
    rw [bits_one, bit_eq_testBit, Nat.testBit_and, show Nat.testBit 8063 7 = false by decide, Bool.and_false]
    rfl
  omega

theorem decBasicWrite_refused {v : Nat} (h : ¬decInRange v) : decBasicWrite v s = refuse 3 0 0x18 s :=
  if_pos (not_decInRange_iff.mp h)

theorem decBasicWrite_accepted (n : Nat) (h : decInRange (n &&& 8063)) :
    decBasicWrite (n &&& 8063) s = acc (foldS (basicLoad (n &&& 8063)) (List.range 256) (storeBits (UNIT_BASIC 3) 0x1F7F (n &&& 8063) s)) := by
  have hm : (if bit (n &&& 8063) 11 then 2 else 1) = bits (n &&& 8063) 11 1 + 1 := by
    rw [bits_one]
    cases bit (n &&& 8063) 11 <;> rfl
  unfold decBasicWrite
  dsimp only
  rw [if_neg (mt not_decInRange_iff.mpr (not_not_intro h)), basicWord_whole, hm]
  rfl

/-- SHIFT and GAIN of R90 fit their fields. -/
theorem decScale_fits {d n k : Nat} (ci16 : Bool) (hd : d ≤ 64) (hn : n ≤ 5) (hk : k ≤ 2) :
    (decScale d n k ci16).1 < 2 ^ 6 ∧ (decScale d n k ci16).2 < 2 ^ 16 := by
  have hgain : (d * k) ^ n ≤ 2 ^ 35 :=
    calc (d * k) ^ n ≤ 128 ^ n := Nat.pow_le_pow_left (Nat.mul_le_mul hd hk) n
      _ ≤ 128 ^ 5 := Nat.pow_le_pow_right (by decide) hn
  have hlog : Nat.log2 ((d * k) ^ n) < 36 := by
    rcases Nat.eq_zero_or_pos ((d * k) ^ n) with h0 | hpos
    · rw [h0]; decide
    · exact (Nat.log2_lt (by omega)).mpr (by omega)
  unfold decScale
  refine ⟨?_, Nat.lt_succ_of_le (Nat.min_le_right _ _)⟩
  dsimp only
  split_ifs <;> omega

theorem basicScale_fits {v : Nat} (h : decInRange v) : (basicScale v).1 < 2 ^ 6 ∧ (basicScale v).2 < 2 ^ 16 :=
  decScale_fits _ h.2.1 h.2.2.2 (Nat.succ_le_succ (Nat.le_of_lt_succ (bits_lt v 11 1)))

theorem reg_basicLoad_other (v : Nat) {j x : Nat} (hc : x ≠ DEC_STREAM_CFG j) (hs : x ≠ DEC_OUT_SCALE j) : (basicLoad v j s).reg x = s.reg x := by
  unfold basicLoad
  rw [reg_setReg_other _ hs, reg_setReg_other _ hc]

theorem streamCfg_ne_outScale (i j : Nat) : DEC_STREAM_CFG i ≠ DEC_OUT_SCALE j := by
  unfold DEC_STREAM_CFG DEC_OUT_SCALE
  omega

/-- A field among the low 13 bits of slot `j`'s configuration takes the setting's bits. -/
theorem rf_basicLoad_cfg (v j : Nat) {lo w : Nat} (hl : lo + w ≤ 13) : (basicLoad v j s).rf ⟨DEC_STREAM_CFG j, lo, w⟩ = bits v lo w := by
  unfold basicLoad
  rw [rf_setReg_other (streamCfg_ne_outScale j j), rf_setReg_same ⟨DEC_STREAM_CFG j, lo, w⟩ (a := DEC_STREAM_CFG j) rfl (by dsimp only; omega),
    bits_setBits_within (by dsimp only; omega), Nat.sub_zero]

/-- A field above the setting's 13 bits of a slot's configuration stays. -/
theorem rf_basicLoad_high (v i j : Nat) {lo w : Nat} (hlo : 13 ≤ lo) (hl : lo + w ≤ 32) :
    (basicLoad v i s).rf ⟨DEC_STREAM_CFG j, lo, w⟩ = s.rf ⟨DEC_STREAM_CFG j, lo, w⟩ := by
  unfold basicLoad
  rw [rf_setReg_other (streamCfg_ne_outScale j i)]
  by_cases hij : DEC_STREAM_CFG j = DEC_STREAM_CFG i
  · rw [rf_setReg_same ⟨DEC_STREAM_CFG j, lo, w⟩ hij hl, bits_setBits_apart _ _ _ _ _ _ (by dsimp only; omega), ← hij]
    rfl
  · exact rf_setReg_other hij

theorem rf_basicLoad_shift {v : Nat} (j : Nat) (h : decInRange v) : (basicLoad v j s).rf (DEC_OUT_SCALE_SHIFT j) = (basicScale v).1 := by
  obtain ⟨hshift, _⟩ := basicScale_fits h
  unfold basicLoad
  rw [rf_setReg_same (DEC_OUT_SCALE_SHIFT j) (a := DEC_OUT_SCALE j) rfl (by show 0 + 6 ≤ 32; decide)]
  show bits _ 0 6 = _
  unfold bits
  rw [Nat.shiftRight_eq_div_pow]
  omega

theorem rf_basicLoad_gain {v : Nat} (j : Nat) (h : decInRange v) : (basicLoad v j s).rf (DEC_OUT_SCALE_GAIN j) = (basicScale v).2 := by
  obtain ⟨hshift, hgain⟩ := basicScale_fits h
  unfold basicLoad
  rw [rf_setReg_same (DEC_OUT_SCALE_GAIN j) (a := DEC_OUT_SCALE j) rfl (by show 16 + 16 ≤ 32; decide)]
  show bits _ 16 16 = _
  unfold bits
  rw [Nat.shiftRight_eq_div_pow]
  omega

/-- What loading slot `i` leaves at slot `j`: a field of one of its two registers that has the loaded value keeps it. -/
theorem rf_basicLoad_keeps (v i j : Nat) {f : Field} {x : Nat} (ha : f.addr = DEC_STREAM_CFG j ∨ f.addr = DEC_OUT_SCALE j)
    (hset : ∀ u : State, (basicLoad v j u).rf f = x) (h : s.rf f = x) : (basicLoad v i s).rf f = x := by
  by_cases hij : i = j
  · rw [hij]; exact hset s
  · have hreg : (basicLoad v i s).reg f.addr = s.reg f.addr := by
      refine reg_basicLoad_other v ?_ ?_ <;> unfold DEC_STREAM_CFG DEC_OUT_SCALE at * <;> omega
    exact (congrArg (fun r => bits r f.lo f.width) hreg).trans h

/-- After every slot is loaded a field of slot `j`'s two registers has the loaded value. -/
theorem rf_basicLoaded (v : Nat) {j : Nat} (hj : j < 256) {f : Field} {x : Nat} (ha : f.addr = DEC_STREAM_CFG j ∨ f.addr = DEC_OUT_SCALE j)
    (hset : ∀ u : State, (basicLoad v j u).rf f = x) : (foldS (basicLoad v) (List.range 256) s).rf f = x :=
  foldS_reaches (fun u : State => u.rf f = x) _ s (List.mem_range.mpr hj) hset (fun i _ hu => rf_basicLoad_keeps v i j ha hset hu)

theorem reg_basicLoaded_other (v : Nat) (l : List Nat) {x : Nat} (hx : x ∉ l.flatMap (fun j => [DEC_STREAM_CFG j, DEC_OUT_SCALE j])) :
    (foldS (basicLoad v) l s).reg x = s.reg x := by
  induction l generalizing s with
  | nil => rfl
  | cons j l ih =>
    simp only [List.flatMap_cons, List.mem_append, List.mem_cons, List.not_mem_nil, or_false, not_or] at hx
    obtain ⟨⟨hc, hs⟩, hl⟩ := hx
    exact (ih hl).trans (reg_basicLoad_other v hc hs)

theorem sameBut_basicLoaded (v : Nat) (l : List Nat) (ps : List Part) (h : Part.regs ∈ ps) : SameBut ps s (foldS (basicLoad v) l s) :=
  foldS_keeps (SameBut ps s) _ l s (fun _ _ hu => sameBut_trans hu (sameBut_trans (sameBut_setReg _ _ ps h) (sameBut_setReg _ _ ps h))) (sameBut_refl ps s)

/-! ### A slot's configuration (R89, R97, R104) -/

/-- What a stored configuration schedules for slot `j`, by its EN before (`was`) and as written (`now`): a reset anchored "now" where EN is set, the end
of the frame in progress where it is cleared (R97). -/
def enableScheduled (j : Nat) (was now : Bool) (s : State) : State :=
  if now && !was then
    s.setSlot j { s.slot j with pendEnable := true, pendReset := if (s.slot j).on then some nowAnchor else none, pendDisable := false }
  else if was && !now then
    if (s.slot j).on then (if (s.slot j).outBuf = [] then slotOff j s else s.setSlot j { s.slot j with pendDisable := true })
    else s.setSlot j { s.slot j with pendEnable := false, pendReset := none }
  else s

theorem enableScheduled_enables (j : Nat) : ((enableScheduled j false true s).slot j).pendEnable = true ∧
    ((enableScheduled j false true s).slot j).pendDisable = false := by
  unfold enableScheduled
  rw [if_pos (by decide), slot_setSlot_same]
  exact ⟨rfl, rfl⟩

theorem enableScheduled_disables {j : Nat} (hon : (s.slot j).on = true) (hbuf : (s.slot j).outBuf ≠ []) :
    ((enableScheduled j true false s).slot j).pendDisable = true := by
  unfold enableScheduled
  rw [if_neg (by decide), if_pos (by decide), if_pos hon, if_neg hbuf, slot_setSlot_same]

theorem slotOff_off (j : Nat) : ((slotOff j s).slot j).on = false ∧ (slotOff j s).reg (DEC_STREAM_STATUS j) = 0 :=
  ⟨congrArg DecSlot.on (slot_setSlot_same (s := s) j _), reg_setReg_same _ _ _⟩

/-- A running slot disabled between two frames is off at once. -/
theorem enableScheduled_off {j : Nat} (hon : (s.slot j).on = true) (hbuf : (s.slot j).outBuf = []) :
    ((enableScheduled j true false s).slot j).on = false ∧ (enableScheduled j true false s).reg (DEC_STREAM_STATUS j) = 0 := by
  unfold enableScheduled
  rw [if_neg (by decide), if_pos (by decide), if_pos hon, if_pos hbuf]
  exact slotOff_off j

theorem enableScheduled_unchanged (j : Nat) (b : Bool) : enableScheduled j b b s = s := by
  cases b <;> rfl

theorem regsBut_enableScheduled (j : Nat) (was now : Bool) : RegsBut [DEC_STREAM_STATUS j] s (enableScheduled j was now s) := by
  unfold enableScheduled
  split
  · exact regsBut_refl _ _
  · split
    · split
      · split
        · exact regsBut_setReg _ (by simp) (regsBut_refl _ _)
        · exact regsBut_refl _ _
      · exact regsBut_refl _ _
    · exact regsBut_refl _ _

/-- The limits of R89 hold where at most one slot is enabled and the sample clock is no more than the limit. -/
theorem decLimitsOk_of_single {j : Nat} (hone : ∀ k ∈ enabledSlots s, k = j) (hfs : s.reg MER_FS ≤ 204800000) : decLimitsOk s = true := by
  have hrep : enabledSlots s = List.replicate (enabledSlots s).length j := List.eq_replicate_of_mem hone
  have hlen : (enabledSlots s).length ≤ 1 := by
    have hnodup : (enabledSlots s).Nodup := List.nodup_range.filter _
    rw [hrep] at hnodup
    exact List.nodup_replicate.mp hnodup
  unfold decLimitsOk
  rw [Bool.and_eq_true, decide_eq_true_eq, decide_eq_true_eq]
  refine ⟨?_, ?_⟩
  · calc (enabledSlots s).length * s.reg MER_FS ≤ 1 * s.reg MER_FS := Nat.mul_le_mul_right _ hlen
      _ ≤ 204800000 := by omega
  · rw [hrep, List.map_replicate]
    exact List.nodup_replicate.mpr hlen

/-- A store in slot `j`'s configuration enables or disables no other slot. -/
theorem enabledSlots_storeBits {j : Nat} (w v : Nat) (h : enabledSlots s = [] ∨ enabledSlots s = [j]) :
    ∀ k ∈ enabledSlots (storeBits (DEC_STREAM_CFG j) w v s), k = j := by
  intro k hk
  by_contra hne
  have hsame : (storeBits (DEC_STREAM_CFG j) w v s).rf (DEC_STREAM_CFG_EN k) = s.rf (DEC_STREAM_CFG_EN k) :=
    rf_storeBits_other s (by show DEC_STREAM_CFG k ≠ DEC_STREAM_CFG j; unfold DEC_STREAM_CFG; omega)
  have hks : k ∈ enabledSlots s := by
    obtain ⟨hrange, hen⟩ := List.mem_filter.mp hk
    exact List.mem_filter.mpr ⟨hrange, by simpa [hsame] using hen⟩
  rcases h with h | h
  · rw [h] at hks; exact absurd hks List.not_mem_nil
  · rw [h] at hks; exact hne (List.mem_singleton.mp hks)

theorem decShadowWrite_refused {v : Nat} (j w : Nat) (h : ¬decInRange v) :
    decShadowWrite 0x1000 j v w s = refuse 3 j (0x1000 + 0x40 * j) s := by
  have hbad := not_decInRange_iff.mp h
  unfold decShadowWrite
  dsimp only
  rw [hbad]
  rfl

theorem decShadowWrite_accepted {v j w : Nat} (h : decInRange v) (hlim : decLimitsOk (storeBits (DEC_STREAM_CFG j) w v s) = true) :
    decShadowWrite 0x1000 j v w s =
      acc (enableScheduled j (decide (s.rf (DEC_STREAM_CFG_EN j) = 1)) (bit v 31) (storeBits (DEC_STREAM_CFG j) w v s)) := by
  have hgood := Bool.eq_false_iff.mpr (mt not_decInRange_iff.mpr (not_not_intro h))
  unfold decShadowWrite
  rw [show 0x3000000 + 0x1000 + 0x40 * j = DEC_STREAM_CFG j from rfl]
  dsimp only
  rw [hgood, hlim, if_neg (by decide), if_pos rfl]
  unfold enableScheduled
  simp only [apply_ite acc]

/-! ### Synchronising resets (R97, R99) -/

theorem slot_syncSchedule (j a k : Nat) :
    (syncSchedule j a s).slot k = if k = j then { s.slot k with pendReset := some a } else s.slot k := by
  have hset : (s.setSlot j { s.slot j with pendReset := some a }).slot k = if k = j then { s.slot k with pendReset := some a } else s.slot k := by
    rw [slot_setSlot]
    split
    · next hk => rw [hk]
    · rfl
  unfold syncSchedule
  dsimp only
  split
  · rw [slot_raise, hset]
  · exact hset

/-- The anchor stands as the pending reset of each slot of a list, and the others are as before. -/
theorem slot_syncSchedules (a k : Nat) (l : List Nat) :
    (foldS (fun j t => syncSchedule j a t) l s).slot k = if k ∈ l then { s.slot k with pendReset := some a } else s.slot k := by
  induction l generalizing s with
  | nil => rfl
  | cons j l ih =>
    refine (ih (s := syncSchedule j a s)).trans ?_
    rw [slot_syncSchedule]
    by_cases hj : k = j
    · simp [hj]
    · simp [hj]

theorem regsButEv_syncSchedules (a : Nat) (l : List Nat) : RegsButEv [3] [] s (foldS (fun j t => syncSchedule j a t) l s) := by
  refine foldS_keeps (RegsButEv [3] [] s) _ l s (fun j u hu => ?_) (regsButEv_of_regsBut (regsBut_refl _ _))
  unfold syncSchedule
  dsimp only
  split
  · exact regsButEv_raise _ _ _ (by decide) hu
  · exact hu

/-- An anchor that has passed is reported (R99). -/
theorem syncSchedule_late {j a : Nat} (hnow : a ≠ nowAnchor) (hlate : resetIndex s j a < (s.slot j).pos.getD 0) :
    Signals EV_DEC_SYNC_LATE (syncSchedule j a s) := by
  unfold syncSchedule
  dsimp only
  rw [if_pos (by simp [hnow, hlate])]
  exact signals_raise _ _ _ (by decide) (by decide)

/-- The slots that a GO names: one, or every running enabled slot. -/
def syncSlots (v : Nat) (s : State) : List Nat := if bit v 1 then (enabledSlots s).filter (fun j => (s.slot j).on) else [bits v 8 8]

theorem decSyncWrite_go {v : Nat} (h : bit v 0 = true) :
    decSyncWrite v s = foldS (fun j t => syncSchedule j (s.reg64 DEC_SYNC_ANCHOR_LO DEC_SYNC_ANCHOR_HI) t) (syncSlots v s) s := by
  unfold decSyncWrite
  rw [h]
  rfl

/-! ### The commands, carried out at once -/

theorem decInRange_written {n w : Nat} (hd : bits w 0 7 = 2 ^ 7 - 1) (hn : bits w 8 3 = 2 ^ 3 - 1) : decInRange (n % 2 ^ 32 &&& w) ↔ decInRange n := by
  unfold decInRange
  rw [bits_written _ _ _ _ hd (by decide), bits_written _ _ _ _ hn (by decide)]

theorem decBasicWrite_refuses {v : Word} {env : Env} (g : Granted m (UNIT_BASIC 3) s) (h : ¬decInRange v.toNat) :
    ∃ t, exec (.decBasicWrite m v env) s = .next t ∧ Refused EV_DEC_CFG_REFUSED m (UNIT_BASIC 3) s t := by
  have hex := row_decBasicWrite (value := v) (env := env) g
  rw [decBasicWrite_refused (mt (decInRange_written (by decide) (by decide)).mp h)] at hex
  exact ⟨_, hex, replied_refuse m _ 3 _ _ s (by decide) (by decide)⟩

theorem decBasicWrite_loads {v : Word} {env : Env} (g : Granted m (UNIT_BASIC 3) s) (h : decInRange v.toNat) :
    ∃ t, exec (.decBasicWrite m v env) s = .next t ∧ Answered m (UNIT_BASIC 3) t ∧
      (∀ j : Fin 256, t.rf (DEC_STREAM_CFG_DECIM j.val) = bits v.toNat 0 7 ∧ t.rf (DEC_STREAM_CFG_ORDER j.val) = bits v.toNat 8 3 ∧
        t.rf (DEC_STREAM_CFG_M2 j.val) = bits v.toNat 11 1 ∧ t.rf (DEC_STREAM_CFG_OUT_CI16 j.val) = bits v.toNat 12 1 ∧
        t.rf (DEC_STREAM_CFG_EN j.val) = s.rf (DEC_STREAM_CFG_EN j.val) ∧
        (t.rf (DEC_OUT_SCALE_SHIFT j.val), t.rf (DEC_OUT_SCALE_GAIN j.val)) = basicScale v.toNat) ∧
      RegsBut ((UNIT_BASIC 3) :: (List.range 256).flatMap (fun j => [DEC_STREAM_CFG j, DEC_OUT_SCALE j])) s t ∧ SameBut [.regs, .cmx, .tru, .out] s t := by
  have hex := row_decBasicWrite (value := v) (env := env) g
  have hrange : decInRange (v.toNat % 2 ^ 32 &&& 8063) := (decInRange_written (by decide) (by decide)).mpr h
  have hfield : ∀ lo w, bits 8063 lo w = 2 ^ w - 1 → lo + w ≤ 32 → bits (v.toNat % 2 ^ 32 &&& 8063) lo w = bits v.toNat lo w :=
    fun lo w => bits_written _ _ lo w
  have hscale : basicScale (v.toNat % 2 ^ 32 &&& 8063) = basicScale v.toNat := by
    unfold basicScale
    rw [hfield 0 7 (by decide) (by decide), hfield 8 3 (by decide) (by decide), hfield 11 1 (by decide) (by decide), bit_written _ _ _ (by decide) (by decide)]
  rw [decBasicWrite_accepted _ hrange, replied_acc] at hex
  generalize v.toNat % 2 ^ 32 &&& 8063 = w at hex hrange hfield hscale
  refine ⟨_, hex, rfl, fun j => ?_, fun x hx => ?_, ?_⟩
  · simp only [rf_emit, afterSetting_rf]
    have hcfg : ∀ lo k, lo + k ≤ 13 → bits 8063 lo k = 2 ^ k - 1 →
        (foldS (basicLoad w) (List.range 256) (storeBits (UNIT_BASIC 3) 0x1F7F w (picked m (UNIT_BASIC 3) s))).rf ⟨DEC_STREAM_CFG j.val, lo, k⟩ =
          bits v.toNat lo k :=
      fun lo k hl hm => (rf_basicLoaded w j.isLt (.inl rfl) (fun _ => rf_basicLoad_cfg w j.val hl)).trans (hfield lo k hm (by omega))
    refine ⟨hcfg 0 7 (by decide) (by decide), hcfg 8 3 (by decide) (by decide), hcfg 11 1 (by decide) (by decide), hcfg 12 1 (by decide) (by decide), ?_, ?_⟩
    · have hload := foldS_same (fun u : State => u.rf (DEC_STREAM_CFG_EN j.val)) (basicLoad w) (List.range 256)
        (storeBits (UNIT_BASIC 3) 0x1F7F w (picked m (UNIT_BASIC 3) s)) (fun i _ => rf_basicLoad_high w i j.val (by decide) (by decide))
      exact hload.trans (rf_storeBits_other _ (by show DEC_STREAM_CFG j.val ≠ UNIT_BASIC 3; unfold DEC_STREAM_CFG UNIT_BASIC; omega))
    · rw [rf_basicLoaded w j.isLt (.inr rfl) (fun _ => rf_basicLoad_shift j.val hrange),
        rf_basicLoaded w j.isLt (.inr rfl) (fun _ => rf_basicLoad_gain j.val hrange), hscale]
  · rw [List.mem_cons, not_or] at hx
    rw [reg_emit, afterSetting_reg, reg_basicLoaded_other _ _ hx.2, reg_storeBits_other _ hx.1, picked_reg]
  · exact sameBut_served (by decide) (by decide) (sameBut_trans (sameBut_storeBits _ _ _ _ _ (by decide))
      (sameBut_trans (sameBut_basicLoaded _ _ _ (by decide)) (sameBut_afterSetting _ _ (by decide))))

/-- The row of the register map that holds every slot's configuration. -/
theorem find_streamCfg : ∀ j : Fin 256, (unitRegs 3).find? (fun d => d.covers (0x1000 + 64 * j.val + 4 * (0 : Fin 16).val)) =
    some ⟨0x1000, 0x40, 256, 1, .rw, 0x10401, 0x80037F7F, 0x80037F7F⟩ := by decide +kernel

/-- A granted write of a slot's configuration is its unit's rule on the implemented bits. -/
theorem exec_cfgWrite (j : Fin 256) {v : Word} {env : Env} (g : Granted m (DEC_STREAM_CFG j.val) s) :
    exec (.decShadowWrite m j 0 v env) s = .next (replied m (DEC_STREAM_CFG j.val)
      (decShadowWrite 0x1000 j.val (v.toNat % 2 ^ 32 &&& 0x80037F7F) 0x80037F7F (picked m (DEC_STREAM_CFG j.val) s))) := by
  have haddr : DEC_STREAM_CFG j.val + 4 * (0 : Fin 16).val = DEC_STREAM_CFG j.val := rfl
  have hex := row_decShadowWrite (value := v) (env := env) (word := 0) (haddr.symm ▸ g) (find_streamCfg j) (by decide)
  rwa [haddr, show 0x1000 + 4 * (0 : Fin 16).val = 0x1000 from rfl] at hex

theorem cfgWrite_refuses (j : Fin 256) {v : Word} {env : Env} (g : Granted m (DEC_STREAM_CFG j.val) s) (h : ¬decInRange v.toNat) :
    ∃ t, exec (.decShadowWrite m j 0 v env) s = .next t ∧ Refused EV_DEC_CFG_REFUSED m (DEC_STREAM_CFG j.val) s t := by
  have hex := exec_cfgWrite (v := v) (env := env) j g
  rw [decShadowWrite_refused _ _ (mt (decInRange_written (by decide) (by decide)).mp h)] at hex
  exact ⟨_, hex, replied_refuse m _ 3 _ _ s (by decide) (by decide)⟩

/-- The state in which an accepted configuration leaves the unit, before the answer. -/
def cfgStored (m : Master) (j w : Nat) (s : State) : State :=
  enableScheduled j (decide (s.rf (DEC_STREAM_CFG_EN j) = 1)) (bit w 31) (storeBits (DEC_STREAM_CFG j) 0x80037F7F w (picked m (DEC_STREAM_CFG j) s))

theorem exec_cfgWrite_accepted (j : Fin 256) {v : Word} {env : Env} (g : Granted m (DEC_STREAM_CFG j.val) s) (h : decInRange v.toNat)
    (hone : enabledSlots s = [] ∨ enabledSlots s = [j.val]) (hfs : s.reg MER_FS ≤ 204800000) :
    exec (.decShadowWrite m j 0 v env) s = .next ((afterSetting (DEC_STREAM_CFG j.val)
      (cfgStored m j.val (v.toNat % 2 ^ 32 &&& 0x80037F7F) s)).emit (.writeResp m (DEC_STREAM_CFG j.val) .okay)) := by
  have hlim : decLimitsOk (storeBits (DEC_STREAM_CFG j.val) 0x80037F7F (v.toNat % 2 ^ 32 &&& 0x80037F7F) (picked m (DEC_STREAM_CFG j.val) s)) = true := by
    have hclock : MER_FS ≠ DEC_STREAM_CFG j.val := by unfold MER_FS DEC_STREAM_CFG; omega
    refine decLimitsOk_of_single (enabledSlots_storeBits _ _ hone) ?_
    rwa [reg_storeBits_other _ hclock, picked_reg]
  rw [exec_cfgWrite j g, decShadowWrite_accepted ((decInRange_written (by decide) (by decide)).mpr h) hlim]
  rfl

/-- A field of the configuration reads the written bits, whatever is scheduled. -/
theorem rf_cfgStored (j n : Nat) {lo k : Nat} (hl : lo + k ≤ 32) (hm : bits 0x80037F7F lo k = 2 ^ k - 1) :
    (cfgStored m j (n % 2 ^ 32 &&& 0x80037F7F) s).rf ⟨DEC_STREAM_CFG j, lo, k⟩ = bits n lo k := by
  have hreg := regsBut_enableScheduled (s := storeBits (DEC_STREAM_CFG j) 0x80037F7F (n % 2 ^ 32 &&& 0x80037F7F) (picked m (DEC_STREAM_CFG j) s)) j
    (decide (s.rf (DEC_STREAM_CFG_EN j) = 1)) (bit (n % 2 ^ 32 &&& 0x80037F7F) 31) (DEC_STREAM_CFG j)
    (by rw [List.mem_singleton]; unfold DEC_STREAM_CFG DEC_STREAM_STATUS; omega)
  exact (congrArg (fun r => bits r lo k) hreg).trans (rf_written _ _ _ _ ⟨DEC_STREAM_CFG j, lo, k⟩ rfl hl hm hm)

theorem regsBut_cfgStored (j w : Nat) : RegsBut [DEC_STREAM_CFG j, DEC_STREAM_STATUS j] s (cfgStored m j w s) :=
  regsBut_trans (regsBut_mono (regsBut_storeBits _ _ _ (picked m (DEC_STREAM_CFG j) s)) (by simp)) (regsBut_mono (regsBut_enableScheduled _ _ _) (by simp))

theorem cfgWrite_accepted (j : Fin 256) {v : Word} {env : Env} (g : Granted m (DEC_STREAM_CFG j.val) s) (h : decInRange v.toNat)
    (hone : enabledSlots s = [] ∨ enabledSlots s = [j.val]) (hfs : s.reg MER_FS ≤ 204800000) :
    ∃ t, exec (.decShadowWrite m j 0 v env) s = .next t ∧ Answered m (DEC_STREAM_CFG j.val) t ∧ t.rf (DEC_STREAM_CFG_DECIM j.val) = bits v.toNat 0 7 ∧
      t.rf (DEC_STREAM_CFG_EN j.val) = b2n (bit v.toNat 31) ∧
      (bit v.toNat 31 = true → s.rf (DEC_STREAM_CFG_EN j.val) = 0 → (t.slot j.val).pendEnable = true ∧ (t.slot j.val).pendDisable = false) ∧
      (bit v.toNat 31 = false → s.rf (DEC_STREAM_CFG_EN j.val) = 1 → (s.slot j.val).on = true → (s.slot j.val).outBuf ≠ [] →
        (t.slot j.val).pendDisable = true) ∧
      (bit v.toNat 31 = false → s.rf (DEC_STREAM_CFG_EN j.val) = 1 → (s.slot j.val).on = true → (s.slot j.val).outBuf = [] →
        (t.slot j.val).on = false ∧ t.reg (DEC_STREAM_STATUS j.val) = 0) ∧
      (b2n (bit v.toNat 31) = s.rf (DEC_STREAM_CFG_EN j.val) → SameBut [.regs, .cmx, .tru, .out] s t) ∧
      RegsBut [DEC_STREAM_CFG j.val, DEC_STREAM_STATUS j.val] s t := by
  have hen : bit (v.toNat % 2 ^ 32 &&& 0x80037F7F) 31 = bit v.toNat 31 := bit_written _ _ _ (by decide) (by decide)
  refine ⟨_, exec_cfgWrite_accepted j g h hone hfs, rfl, ?_⟩
  simp only [slot_answered, rf_emit, reg_emit, afterSetting_rf, afterSetting_reg]
  refine ⟨rf_cfgStored _ _ (by decide) (by decide), ?_, fun hnow hwas => ?_, fun hnow hwas hon hbuf => ?_,
    fun hnow hwas hon hbuf => ?_, fun hsame => ?_, fun x hx => ?_⟩
  · rw [← bits_one]
    exact rf_cfgStored _ _ (by decide) (by decide)
  · unfold cfgStored
    rw [hen, hnow, hwas]
    exact enableScheduled_enables _
  · unfold cfgStored
    rw [hen, hnow, hwas]
    exact enableScheduled_disables hon hbuf
  · unfold cfgStored
    rw [hen, hnow, hwas]
    exact enableScheduled_off hon hbuf
  · have hwas : decide (s.rf (DEC_STREAM_CFG_EN j.val) = 1) = bit v.toNat 31 := by
      rw [← hsame]
      cases bit v.toNat 31 <;> rfl
    unfold cfgStored
    rw [hen, hwas, enableScheduled_unchanged]
    exact sameBut_served (by decide) (by decide) (sameBut_trans (sameBut_storeBits _ _ _ _ _ (by decide)) (sameBut_afterSetting _ _ (by decide)))
  · rw [reg_emit, afterSetting_reg]
    exact regsBut_cfgStored _ _ x hx

/-- A granted GO schedules the anchor for the slots it names. -/
theorem exec_decSyncGo {v : Word} {env : Env} (g : Granted m DEC_SYNC_CTRL s) {l : List Nat}
    (hl : syncSlots v.toNat s = l) :
    exec (.decSyncGo m v env) s = .next ((afterSetting DEC_SYNC_CTRL
      (foldS (fun j t => syncSchedule j (s.reg64 DEC_SYNC_ANCHOR_LO DEC_SYNC_ANCHOR_HI) t) l (picked m DEC_SYNC_CTRL s))).emit
        (.writeResp m DEC_SYNC_CTRL .okay)) := by
  have hgo : bit (setBits v.toNat 0 1 1 % 2 ^ 32 &&& 4294967295) 0 = true := by
    rw [bit_written _ _ _ (by decide) (by decide), bit_setBits, if_pos (by decide)]
    decide
  have hall : bit (setBits v.toNat 0 1 1 % 2 ^ 32 &&& 4294967295) 1 = bit v.toNat 1 := by
    rw [bit_written _ _ _ (by decide) (by decide), bit_setBits, if_neg (by decide)]
  have hslot : bits (setBits v.toNat 0 1 1 % 2 ^ 32 &&& 4294967295) 8 8 = bits v.toNat 8 8 := by
    rw [bits_written _ _ _ _ (by decide) (by decide), bits_setBits_apart _ _ _ _ _ _ (by decide)]
  have hslots : syncSlots (setBits v.toNat 0 1 1 % 2 ^ 32 &&& 4294967295) (picked m DEC_SYNC_CTRL s) = l := by
    rw [← hl]
    unfold syncSlots
    rw [hall, hslot]
    rfl
  rw [row_decSyncGo g, decSyncWrite_go hgo, hslots]
  rfl

theorem regsButEv_answered {a : Nat} {o : Output} (h : RegsButEv us as s t) : RegsButEv us as s ((afterSetting a t).emit o) :=
  fun x hx hs => (afterSetting_reg a t x).trans (h x hx hs)

theorem decSyncGo_one {v : Word} {env : Env} (g : Granted m DEC_SYNC_CTRL s) (hone : bit v.toNat 1 = false) :
    ∃ t, exec (.decSyncGo m v env) s = .next t ∧ Answered m DEC_SYNC_CTRL t ∧
      (t.slot (bits v.toNat 8 8)).pendReset = some (s.reg64 DEC_SYNC_ANCHOR_LO DEC_SYNC_ANCHOR_HI) ∧
      (∀ k, k ≠ bits v.toNat 8 8 → t.slot k = s.slot k) ∧
      (s.reg64 DEC_SYNC_ANCHOR_LO DEC_SYNC_ANCHOR_HI ≠ nowAnchor →
        resetIndex s (bits v.toNat 8 8) (s.reg64 DEC_SYNC_ANCHOR_LO DEC_SYNC_ANCHOR_HI) < (s.slot (bits v.toNat 8 8)).pos.getD 0 →
        Signals EV_DEC_SYNC_LATE t) ∧ RegsButEv [3] [] s t := by
  refine ⟨_, exec_decSyncGo g (l := [bits v.toNat 8 8]) (if_neg (by rw [hone]; decide)), rfl, ?_, fun k hk => ?_, fun hnow hlate => ?_,
    regsButEv_answered (regsButEv_syncSchedules (s := picked m DEC_SYNC_CTRL s) _ _)⟩
  · rw [slot_answered, slot_syncSchedules, if_pos (List.mem_singleton.mpr rfl)]
  · rw [slot_answered, slot_syncSchedules, if_neg (fun hmem => hk (List.mem_singleton.mp hmem))]
    rfl
  · exact signals_of_reg (syncSchedule_late (s := picked m DEC_SYNC_CTRL s) hnow hlate) (afterSetting_reg _ _ _)

theorem decSyncGo_all {v : Word} {env : Env} (g : Granted m DEC_SYNC_CTRL s) (hall : bit v.toNat 1 = true) :
    ∃ t, exec (.decSyncGo m v env) s = .next t ∧ Answered m DEC_SYNC_CTRL t ∧
      (∀ j ∈ enabledSlots s, (s.slot j).on = true → (t.slot j).pendReset = some (s.reg64 DEC_SYNC_ANCHOR_LO DEC_SYNC_ANCHOR_HI)) ∧
      (∀ j, (s.slot j).on = false → t.slot j = s.slot j) ∧ RegsButEv [3] [] s t := by
  refine ⟨_, exec_decSyncGo g (if_pos hall), rfl, fun j hj hon => ?_, fun j hoff => ?_,
    regsButEv_answered (regsButEv_syncSchedules (s := picked m DEC_SYNC_CTRL s) _ _)⟩
  · rw [slot_answered, slot_syncSchedules, if_pos (List.mem_filter.mpr ⟨hj, hon⟩)]
  · have hout : j ∉ (enabledSlots s).filter (fun j => (s.slot j).on) := fun hmem => by
      rw [List.mem_filter, hoff] at hmem
      exact absurd hmem.2 (by decide)
    rw [slot_answered, slot_syncSchedules, if_neg hout]
    rfl

/-- Settles O16: a setting is refused outside its ranges and else loaded or stored with what its EN schedules, and a GO leaves its anchor pending on the
slots that it names (R89, R90, R97, R99). -/
theorem decimatorSettings : Obligations.DecimatorSettings := by
  intro m v env s
  have hout : (bits v.toNat 0 7 < 1 ∨ 64 < bits v.toNat 0 7 ∨ bits v.toNat 8 3 < 3 ∨ 5 < bits v.toNat 8 3) → ¬decInRange v.toNat := by
    unfold decInRange
    omega
  exact ⟨fun g hbad => decBasicWrite_refuses g (hout hbad),
    fun g h1 h64 h3 h5 => decBasicWrite_loads g ⟨h1, h64, h3, h5⟩,
    fun j g => ⟨fun hbad => cfgWrite_refuses j g (hout hbad), fun h1 h64 h3 h5 hone hfs => cfgWrite_accepted j g ⟨h1, h64, h3, h5⟩ hone hfs⟩,
    decSyncGo_one, decSyncGo_all⟩

end Sys2Proof.Machine

/-! SUPPORT. The settings store behind a write of a setting (R459, R460), and what it says of the frames of two coefficient writes. -/

namespace Sys2Proof.Machine

variable {m : Master} {a v : Nat} {s u : State}

/-- A part in STANDBY that runs the confirmed image of slot A and has saved no settings yet; the rest is as reset left it. -/
def unsavedPart : State :=
  { State.reset with
    regs := [(HLT_MODE, BitVec.ofNat 32 mSTANDBY)]
    tru := { State.reset.tru with slots := [(slCONFIRMED, 0), (slEMPTY, 0), (slEMPTY, 0)], running := 0 } }

theorem unsavedPart_mode : unsavedPart.mode = mSTANDBY := by decide

theorem unsavedPart_granted (h : routeResp .m1 a unsavedPart = .okay) : Granted .m1 a unsavedPart :=
  ⟨by decide, rfl, rfl, rfl, h⟩

/-- The first settings that such a part saves make area 0 the CURRENT one. -/
theorem area0_saveSettings (hmode : s.mode = mSTANDBY) (htru : s.tru = unsavedPart.tru) : (saveSettings s).tru.area0.st = 1 := by
  have hrun : s.tru.running = 0 := by rw [htru]; rfl
  have hslot : (slot s 0).1 = slCONFIRMED := by unfold slot; rw [htru]; rfl
  have harea : areaIn s 1 = none := by unfold areaIn area; rw [htru]; rfl
  have hst : (area s 0).st = 0 := by unfold area; rw [htru]; rfl
  unfold saveSettings
  simp [hmode, hrun, hslot, harea, hst, setArea, mSTANDBY, mOFF, mBOOT, slCONFIRMED, slTRIAL]

/-- An accepted write of a setting reaches the settings store too. -/
theorem not_sameBut_of_setting {ps : List Part} (hset : isSetting a = true) (hmode : u.mode = mSTANDBY) (htru : u.tru = unsavedPart.tru)
    (hps : Part.tru ∉ ps) : ¬SameBut ps unsavedPart (replied m a (acc u)) := by
  intro h
  have hsame : (afterSetting a u).tru = unsavedPart.tru := h .tru hps
  have hsaved : (afterSetting a u).tru.area0.st = 1 := by
    unfold afterSetting
    rw [if_pos hset]
    exact area0_saveSettings hmode htru
  rw [hsame] at hsaved
  exact absurd hsaved (by decide)

/-- A coefficient of the channeliser stored at its address, which moves on (R117). -/
def chnCoefPut (v : Nat) (s : State) : State :=
  { s with chn := { s.chn with
      coef := sset 0 s.chn.coef (s.reg CHN_COEF_ADDR) (v % 2 ^ 18), coefSet := sset false s.chn.coefSet (s.reg CHN_COEF_ADDR) true } }.setReg
    CHN_COEF_ADDR ((s.reg CHN_COEF_ADDR + 1) % 2 ^ 20)

theorem chnCoefDataWrite_stopped (h : chnStopped s = true) : chnCoefDataWrite v s = acc (chnCoefPut v s) := by
  unfold chnCoefDataWrite
  rw [h]
  rfl

/-- A coefficient of the resynthesiser stored at its address, which moves on (R117, R130). -/
def rsyCoefPut (v : Nat) (s : State) : State :=
  { s with rsy := { s.rsy with
      coef := sset 0 s.rsy.coef (s.reg RSY_COEF_ADDR) (v % 2 ^ 18), coefSet := sset false s.rsy.coefSet (s.reg RSY_COEF_ADDR) true } }.setReg
    RSY_COEF_ADDR ((s.reg RSY_COEF_ADDR + 1) % 2 ^ 14)

theorem rsyCoefDataWrite_stopped (h : rsyStopped s = true) : rsyCoefDataWrite v s = acc (rsyCoefPut v s) := by
  unfold rsyCoefDataWrite
  rw [h]
  rfl

theorem mode_chnCoefPut : (chnCoefPut v s).mode = s.mode := rf_setReg_other (f := HLT_MODE_MODE) (by decide)

theorem mode_rsyCoefPut : (rsyCoefPut v s).mode = s.mode := rf_setReg_other (f := HLT_MODE_MODE) (by decide)

/-- The coefficient registers are among the settings that R459 keeps. -/
theorem coefData_isSetting : isSetting CHN_COEF_DATA = true ∧ isSetting RSY_COEF_DATA = true := by decide +kernel

/-- Refutes O18: its frame of an accepted CHN_COEF_DATA leaves out the settings store, to which a part in
STANDBY saves that write (R460). -/
theorem not_channeliserSettings : ¬Obligations.ChanneliserSettings := by
  intro h
  obtain ⟨-, -, hcoef, -⟩ := h .m1 0 ⟨0, 0, 0, false, false, [], []⟩ unsavedPart
  have g : Granted .m1 CHN_COEF_DATA unsavedPart := unsavedPart_granted (by decide)
  obtain ⟨t, hex, -, -, -, -, -, -, hsame⟩ := (hcoef g).2 (by decide)
  rw [row_chnCoefDataWrite g, chnCoefDataWrite_stopped (by decide)] at hex
  obtain rfl := Host.Outcome.next.inj hex
  refine absurd hsame (not_sameBut_of_setting coefData_isSetting.1 ?_ rfl (by decide))
  exact mode_chnCoefPut.trans unsavedPart_mode

/-- Refutes O20: its frame of an accepted RSY_COEF_DATA leaves out the settings store, to which a part in
STANDBY saves that write (R460). -/
theorem not_resynthesiserSettings : ¬Obligations.ResynthesiserSettings := by
  intro h
  obtain ⟨-, hcoef, -⟩ := h .m1 0 ⟨0, 0, 0, false, false, [], []⟩ unsavedPart
  have g : Granted .m1 RSY_COEF_DATA unsavedPart := unsavedPart_granted (by decide)
  obtain ⟨t, hex, -, -, -, -, -, hsame⟩ := (hcoef g).2 (by decide)
  rw [row_rsyCoefDataWrite g, rsyCoefDataWrite_stopped (by decide)] at hex
  obtain rfl := Host.Outcome.next.inj hex
  refine absurd hsame (not_sameBut_of_setting coefData_isSetting.2 ?_ rfl (by decide))
  exact mode_rsyCoefPut.trans unsavedPart_mode

end Sys2Proof.Machine

/-! SUPPORT. Registers that the synthesis of a spectrum leaves alone: those of the units from the decimators to the atlas, but for events and the
resynthesiser's counters (R123 to R126, R299). -/

namespace Sys2Proof.Machine

variable {s : State} {x : Nat}

/-- A register of the units 3 to 11 that is no UNIT_EVENT and no counter of the resynthesiser. -/
structure Aside (x : Nat) : Prop where
  event : x % 0x1000000 ≠ 0xC
  low : 0x3000000 ≤ x
  high : x < 0xC000000
  sat : x ≠ RSY_CNT_SAT
  void : x ≠ RSY_CNT_VOID

theorem aside_rsyState : Aside RSY_STATE := ⟨by decide, by decide, by decide, by decide, by decide⟩

theorem aside_stgCfg : Aside STG_CFG := ⟨by decide, by decide, by decide, by decide, by decide⟩

theorem aside_raise (hx : Aside x) (e : Ev) (a b : Nat) : (raise e a b s).reg x = s.reg x :=
  reg_raise s e a b x (not_shows ⟨hx.event, by have := hx.high; omega⟩)

/-- Setting a register of another unit, the frame unit's or the memory's, leaves it alone. -/
theorem aside_setReg (hx : Aside x) {a : Nat} (n : Nat) (ha : a < 0x3000000 ∨ 0xC000000 ≤ a) : (s.setReg a n).reg x = s.reg x := by
  have := hx.low
  have := hx.high
  exact reg_setReg_other s (by omega)

/-! ### Reading the half (R350, R351, R299) -/

theorem aside_touchStack (hx : Aside x) (port a : Nat) : (touchStack port a s).reg x = s.reg x := by
  unfold touchStack
  dsimp only
  have hf : 0xC000000 ≤ (if stackOf (pcOf (hbmPhys s a)) = 0 then MEM_STATE_STACK0 else MEM_STATE_STACK1).addr := by
    split <;> decide
  generalize (if stackOf (pcOf (hbmPhys s a)) = 0 then MEM_STATE_STACK0 else MEM_STATE_STACK1) = f at hf ⊢
  have hleft : ∀ n, 0xC000000 ≤ n → ((s.wf f 0).inc n 1).reg x = s.reg x := fun n hn =>
    (aside_setReg hx _ (.inr hn)).trans (aside_setReg hx _ (.inr hf))
  split
  · exact (aside_raise hx _ _ _).trans (hleft _ (by decide))
  · split
    · exact (aside_setReg hx _ (.inr (by decide))).trans (hleft _ (by decide))
    · exact hleft _ (by decide)
  · rfl

theorem aside_logUe (hx : Aside x) (e : UeEnt) : (logUe e s).reg x = s.reg x := by
  have hfull : (s.wf MEM_UE_INFO_OVERFLOW 1).reg x = s.reg x := aside_setReg hx _ (.inr (by decide))
  unfold logUe
  split
  · rfl
  · split
    · split
      · rfl
      · exact hfull
    · exact hfull

theorem aside_countUe (hx : Aside x) (port source a : Nat) : (countUe port source a s).reg x = s.reg x := by
  have hpc : ∀ n, 0xC000000 ≤ MEM_PC_CNT_UE n := fun n => by unfold MEM_PC_CNT_UE; omega
  unfold countUe
  dsimp only
  rw [aside_raise hx, aside_logUe hx, State.inc, aside_setReg hx _ (.inr (by decide)), State.inc, aside_setReg hx _ (.inr (hpc _))]

theorem aside_countCe (hx : Aside x) (a : Nat) : (countCe a s).reg x = s.reg x :=
  aside_setReg hx _ (.inr (by unfold MEM_PC_CNT_CE; omega))

theorem aside_readUnit (hx : Aside x) (port a n : Nat) : (readUnit port a n s).2.reg x = s.reg x := by
  unfold readUnit
  split
  · rfl
  · dsimp only
    split
    · exact aside_touchStack hx _ _
    · split
      · exact aside_touchStack hx _ _
      · exact (aside_countCe hx _).trans (aside_touchStack hx _ _)
      · exact (aside_countUe hx _ _ _).trans (aside_touchStack hx _ _)
      · exact (aside_countUe hx _ _ _).trans (aside_touchStack hx _ _)

theorem aside_hbmRead (hx : Aside x) (port fuel a n : Nat) (s : State) : (hbmRead port fuel a n s).2.reg x = s.reg x := by
  induction fuel generalizing a n s with
  | zero => rfl
  | succ fuel ih =>
    unfold hbmRead
    split
    · rfl
    · exact (ih _ _ _).trans (aside_readUnit hx _ _ _)

theorem aside_readElem (hx : Aside x) (p n nb i c k : Nat) : (readElem p n nb i c k s).2.reg x = s.reg x := by
  unfold readElem
  dsimp only
  split
  · split <;> exact aside_hbmRead hx _ _ _ _ _
  · exact aside_hbmRead hx _ _ _ _ _

theorem aside_readElems (hx : Aside x) (p n nb i k : Nat) (cs : List Nat) (s : State) : (readElems p n nb i k cs s).2.reg x = s.reg x := by
  induction cs generalizing s with
  | nil => rfl
  | cons c cs ih => exact (ih _).trans (aside_readElem hx _ _ _ _ _ _)

/-! ### Sending the grains (R125, R223, R301) -/

theorem aside_rsySat (hx : Aside x) (n i k : Nat) : (rsySat n i k s).reg x = s.reg x := by
  have hinc : (s.inc RSY_CNT_SAT k).reg x = s.reg x := reg_setReg_other s hx.sat
  unfold rsySat
  split
  · rfl
  · dsimp only
    split
    · exact (aside_raise hx _ _ _).trans hinc
    · exact hinc

/-- The counters of an output port belong to the frame unit. -/
theorem portCounters_lt {q : Nat} (hq : q < 8) : FRM_PORT_CNT_TX q < 0x3000000 ∧ FRM_PORT_CNT_DROP q < 0x3000000 := by
  unfold FRM_PORT_CNT_TX FRM_PORT_CNT_DROP
  omega

theorem aside_sendPortFor (hx : Aside x) {q : Nat} (hq : q < 8) (pl : Nat) (f : Frame) : (sendPortFor pl q f s).reg x = s.reg x := by
  obtain ⟨htx, hdrop⟩ := portCounters_lt hq
  unfold sendPortFor
  split
  · exact (aside_raise hx _ _ _).trans (aside_setReg hx _ (.inl hdrop))
  · dsimp only
    split <;> exact aside_setReg hx _ (.inl htx)

theorem aside_sendPlan (hx : Aside x) {q : Nat} (hq : q < 8) (p : Nat) (f : Frame) : (sendPlan p q f s).reg x = s.reg x := by
  unfold sendPlan
  split
  · exact aside_sendPortFor hx hq _ _
  · exact aside_setReg hx _ (.inl (portCounters_lt hq).2)

theorem aside_dropNote (hx : Aside x) (q n : Nat) : (dropNote q n s).reg x = s.reg x := by
  unfold dropNote
  split
  · rfl
  · exact aside_raise hx _ _ _

theorem reg_sigAdd (n c p src : Nat) (bs : List Byte) (exempt : Bool) : (sigAdd n c p src bs exempt s).reg x = s.reg x := by
  have hregs : (sigAdd n c p src bs exempt s).regs = s.regs :=
    (agree_sigAdd (P := [.acc]) n c p src bs exempt (by decide) agree_refl).out .regs (by decide)
  unfold State.reg
  rw [hregs]

/-- A plan's ports are among the eight. -/
theorem planPorts_lt {p i : Nat} : (planPorts s p).getD i 0 < 8 := by
  rcases Nat.lt_or_ge i (planPorts s p).length with hi | hi
  · rw [List.getD_eq_getElem _ _ hi]
    exact List.mem_range.mp (List.mem_filter.mp (List.getElem_mem hi)).1
  · rw [List.getD_eq_default _ _ hi]
    decide

theorem aside_sendSeries (hx : Aside x) (p blk fuel : Nat) (gs : List Grain) (s : State) : (sendSeries p blk fuel gs s).reg x = s.reg x := by
  induction fuel generalizing gs s with
  | zero => rfl
  | succ fuel ih =>
    cases gs with
    | nil => rfl
    | cons g gs =>
      unfold sendSeries
      dsimp only
      rw [ih, reg_sigAdd]
      split
      · rfl
      · rw [aside_dropNote hx, aside_sendPlan hx planPorts_lt]

theorem aside_sendGrains (hx : Aside x) (p blk : Nat) (gs : List Grain) : (sendGrains p blk gs s).reg x = s.reg x := by
  unfold sendGrains
  dsimp only
  rw [foldS_same (fun w : State => w.reg x) _ _ _ (fun _ _ => aside_sendSeries hx _ _ _ _ _)]
  exact reg_setReg_other s hx.void

theorem aside_mismatchNotes (hx : Aside x) (p : Nat) : (mismatchNotes p s).reg x = s.reg x :=
  foldS_same (fun w : State => w.reg x) _ _ s (fun _ _ => aside_raise hx _ _ _)

end Sys2Proof.Machine

/-! SUPPORT. Starting, stopping and running the resynthesiser (R118, R119, R123, R126, R299, R300). -/

namespace Sys2Proof.Machine

variable {s t u : State} {m : Master} {p n k : Nat}

/-! ### The unit's state -/

theorem rsyState_setReg (n : Nat) : rsyState (s.setReg RSY_STATE n) = n % 4 := by
  unfold rsyState
  rw [reg_setReg_same]
  omega

/-! ### START and STOP (R118, R119, R122, R126) -/

theorem rsyCtrl_noSetting : isSetting RSY_CTRL = false := by decide +kernel

/-- The word that a START or a STOP writes has its own bit set. -/
theorem bit_ctrlWord_own (v : Nat) {own : Nat} (hown : own < 3) : bit (setBits v own 1 1 % 2 ^ 32 &&& 7) own = true := by
  rw [bit_written _ _ _ (by interval_cases own <;> decide) (by omega), bit_setBits, if_pos (by omega), Nat.sub_self]
  rfl

/-- The word's other bits are those of the value given. -/
theorem bit_ctrlWord_other (v : Nat) {own i : Nat} (hi : i < 3) (hne : i ≠ own) :
    bit (setBits v own 1 1 % 2 ^ 32 &&& 7) i = bit v i := by
  rw [bit_written _ _ _ (by interval_cases i <;> decide) (by omega), bit_setBits, if_neg (by omega)]

theorem rsyCtrlWrite_start {w : Nat} (h0 : bit w 0 = true) (h1 : bit w 1 = false) : rsyCtrlWrite w s = rsyStart (bit w 2) s := by
  unfold rsyCtrlWrite
  dsimp only
  rw [h0, h1, Bool.and_false]
  rfl

theorem rsyCtrlWrite_stop {w : Nat} (h0 : bit w 0 = false) (h1 : bit w 1 = true) : rsyCtrlWrite w s = acc (rsyStop (bit w 2) s) := by
  unfold rsyCtrlWrite
  rw [h0, h1]
  rfl

/-- A START without a STOP is the unit's rule of starting, now or at the anchor. -/
theorem exec_rsyStart {v : Word} {env : Env} (g : Granted m RSY_CTRL s) (hstop : bit v.toNat 1 = false) :
    exec (.rsyStart m v env) s = .next (replied m RSY_CTRL (rsyStart (bit v.toNat 2) (picked m RSY_CTRL s))) := by
  rw [row_rsyStart g, rsyCtrlWrite_start (bit_ctrlWord_own _ (by decide)) ((bit_ctrlWord_other _ (by decide) (by decide)).trans hstop),
    bit_ctrlWord_other _ (by decide) (by decide)]

/-- A STOP without a START is the unit's rule of stopping, now or at the anchor. -/
theorem exec_rsyStop {v : Word} {env : Env} (g : Granted m RSY_CTRL s) (hstart : bit v.toNat 0 = false) :
    exec (.rsyStop m v env) s = .next (replied m RSY_CTRL (acc (rsyStop (bit v.toNat 2) (picked m RSY_CTRL s)))) := by
  rw [row_rsyStop g, rsyCtrlWrite_stop ((bit_ctrlWord_other _ (by decide) (by decide)).trans hstart) (bit_ctrlWord_own _ (by decide)),
    bit_ctrlWord_other _ (by decide) (by decide)]

theorem rsyStart_busy (now : Bool) (h : rsyState s = stSTARTING ∨ rsyState s = stSTOPPING) : rsyStart now s = rsyRefuse 0x100 s := by
  unfold rsyStart
  dsimp only
  rw [if_pos (by simpa using h)]

/-- The unit in STARTING, without history, with its first spectrum now or at the anchor. -/
def rsyStarted (now : Bool) (s : State) : State :=
  { (setRsyState stSTARTING s) with rsy := { s.rsy with startAt := some (rsyAnchor now s), stopAt := none, slices := [] } }

/-- What START does in STOPPED: an incomplete window is refused first, then a capacity exceeded. -/
theorem rsyStart_stopped (now : Bool) (h : rsyState s = stSTOPPED) : rsyStart now s =
    if rsyCoefCount s = rsyPr s * rsyT s then
      match rsyBreach s (enSlices s).length with
      | some (r, l) => ⟨false, raise EV_RSY_CAPACITY r l s⟩
      | none => acc (rsyStarted now s)
    else ⟨false, raise EV_RSY_COEF_INCOMPLETE (rsyCoefCount s) (rsyPr s * rsyT s) s⟩ := by
  unfold rsyStart
  dsimp only
  rw [h, if_neg (by decide), if_neg (by decide), ite_not]
  rfl

theorem rsyStart_incomplete (now : Bool) (h : rsyState s = stSTOPPED) (hcoef : rsyCoefCount s ≠ rsyPr s * rsyT s) :
    rsyStart now s = ⟨false, raise EV_RSY_COEF_INCOMPLETE (rsyCoefCount s) (rsyPr s * rsyT s) s⟩ := by
  rw [rsyStart_stopped now h, if_neg hcoef]

theorem rsyStart_overloaded (now : Bool) {r l : Nat} (h : rsyState s = stSTOPPED) (hcoef : rsyCoefCount s = rsyPr s * rsyT s)
    (hbreach : rsyBreach s (enSlices s).length = some (r, l)) : rsyStart now s = ⟨false, raise EV_RSY_CAPACITY r l s⟩ := by
  rw [rsyStart_stopped now h, if_pos hcoef, hbreach]

theorem rsyStart_starting (now : Bool) (h : rsyState s = stSTOPPED) (hcoef : rsyCoefCount s = rsyPr s * rsyT s)
    (hbreach : rsyBreach s (enSlices s).length = none) : rsyStart now s = acc (rsyStarted now s) := by
  rw [rsyStart_stopped now h, if_pos hcoef, hbreach]

theorem rsyStart_refused_busy {v : Word} {env : Env} (g : Granted m RSY_CTRL s) (hstop : bit v.toNat 1 = false)
    (h : rsyState s = stSTARTING ∨ rsyState s = stSTOPPING) :
    ∃ t, exec (.rsyStart m v env) s = .next t ∧ Refused EV_RSY_CFG_REFUSED m RSY_CTRL s t := by
  have hex := exec_rsyStart (env := env) g hstop
  rw [rsyStart_busy (s := picked m RSY_CTRL s) _ h] at hex
  exact ⟨_, hex, replied_refuse m _ 5 _ _ s (by decide) (by decide)⟩

theorem rsyStart_refused_incomplete {v : Word} {env : Env} (g : Granted m RSY_CTRL s) (hstop : bit v.toNat 1 = false)
    (h : rsyState s = stSTOPPED) (hcoef : rsyCoefCount s ≠ rsyPr s * rsyT s) :
    ∃ t, exec (.rsyStart m v env) s = .next t ∧ Refused EV_RSY_COEF_INCOMPLETE m RSY_CTRL s t := by
  have hex := exec_rsyStart (env := env) g hstop
  rw [rsyStart_incomplete (s := picked m RSY_CTRL s) _ h hcoef] at hex
  exact ⟨_, hex, replied_refused m _ EV_RSY_COEF_INCOMPLETE _ _ s (by decide) (by decide)⟩

theorem rsyStart_refused_capacity {v : Word} {env : Env} (g : Granted m RSY_CTRL s) (hstop : bit v.toNat 1 = false)
    (h : rsyState s = stSTOPPED) (hcoef : rsyCoefCount s = rsyPr s * rsyT s) (hbreach : rsyBreach s (enSlices s).length ≠ none) :
    ∃ t, exec (.rsyStart m v env) s = .next t ∧ Refused EV_RSY_CAPACITY m RSY_CTRL s t := by
  obtain ⟨⟨r, l⟩, hrl⟩ := Option.ne_none_iff_exists'.mp hbreach
  have hex := exec_rsyStart (env := env) g hstop
  rw [rsyStart_overloaded (s := picked m RSY_CTRL s) _ h hcoef hrl] at hex
  exact ⟨_, hex, replied_refused m _ EV_RSY_CAPACITY _ _ s (by decide) (by decide)⟩

theorem rsyStart_starts {v : Word} {env : Env} (g : Granted m RSY_CTRL s) (hstop : bit v.toNat 1 = false)
    (h : rsyState s = stSTOPPED) (hcoef : rsyCoefCount s = rsyPr s * rsyT s) (hbreach : rsyBreach s (enSlices s).length = none) :
    ∃ t, exec (.rsyStart m v env) s = .next t ∧ Answered m RSY_CTRL t ∧ rsyState t = stSTARTING ∧ t.rsy.slices = [] ∧
      t.rsy.startAt = some (rsyAnchor (bit v.toNat 2) s) ∧ RegsBut [RSY_STATE] s t ∧ SameBut [.regs, .rsy, .cmx, .out] s t := by
  have hex := exec_rsyStart (env := env) g hstop
  rw [rsyStart_starting (s := picked m RSY_CTRL s) _ h hcoef hbreach, replied_acc, afterSetting_id rsyCtrl_noSetting] at hex
  refine ⟨_, hex, rfl, rsyState_setReg (s := picked m RSY_CTRL s) stSTARTING, rfl, rfl,
    regsBut_setReg (a := RSY_STATE) (t := picked m RSY_CTRL s) stSTARTING (by simp) (regsBut_refl _ s), ?_⟩
  exact sameBut_served (by decide) (by decide) (sameBut_trans (sameBut_setReg RSY_STATE stSTARTING _ (by decide))
    (sameBut_agree (agree_with_rsy _ (by decide) agree_refl)))

theorem rsyStop_cancels {v : Word} {env : Env} (g : Granted m RSY_CTRL s) (hstart : bit v.toNat 0 = false) (h : rsyState s = stSTARTING) :
    ∃ t, exec (.rsyStop m v env) s = .next t ∧ Answered m RSY_CTRL t ∧ rsyState t = stSTOPPED ∧ t.rsy.startAt = none := by
  have hex := exec_rsyStop (env := env) g hstart
  have hhalt : rsyStop (bit v.toNat 2) (picked m RSY_CTRL s) = rsyHalt (picked m RSY_CTRL s) := if_pos h
  rw [hhalt, replied_acc, afterSetting_id rsyCtrl_noSetting] at hex
  exact ⟨_, hex, rfl, rsyState_setReg (s := picked m RSY_CTRL s) stSTOPPED, rfl⟩

theorem rsyStop_pends {v : Word} {env : Env} (g : Granted m RSY_CTRL s) (hstart : bit v.toNat 0 = false) (h : rsyState s = stRUNNING) :
    ∃ t, exec (.rsyStop m v env) s = .next t ∧ Answered m RSY_CTRL t ∧ rsyState t = stRUNNING ∧
      t.rsy.stopAt = some (rsyAnchor (bit v.toNat 2) s) ∧ RegsBut [RSY_STATE] s t := by
  have hnot : ¬rsyState (picked m RSY_CTRL s) = stSTARTING := by
    show ¬rsyState s = stSTARTING
    rw [h]
    decide
  have hex := exec_rsyStop (env := env) g hstart
  unfold rsyStop at hex
  rw [if_neg hnot, if_pos (show rsyState (picked m RSY_CTRL s) = stRUNNING from h), replied_acc, afterSetting_id rsyCtrl_noSetting] at hex
  exact ⟨_, hex, rfl, rsyState_setReg (s := picked m RSY_CTRL s) (stRUNNING + 4), rfl,
    regsBut_setReg (a := RSY_STATE) (t := picked m RSY_CTRL s) (stRUNNING + 4) (by simp) (regsBut_refl _ s)⟩

/-! ### The commit of a stop (R119) -/

theorem regsBut_rsyHalt (h : RegsBut [RSY_STATE] s t) : RegsBut [RSY_STATE] s (rsyHalt t) :=
  regsBut_setReg (a := RSY_STATE) stSTOPPED (by simp) h

theorem rsyFinish_past {a sp : Nat} (hstop : s.rsy.stopAt = some a) (h : rsyState s = stSTOPPING) (hsp : a ≤ sp) : rsyFinish sp s = rsyHalt s := by
  unfold rsyFinish
  rw [hstop]
  dsimp only
  rw [if_pos (by simp [h, hsp])]

theorem rsyFinish_before {a sp : Nat} (hstop : s.rsy.stopAt = some a) (hsp : sp < a) : rsyFinish sp s = s := by
  unfold rsyFinish
  rw [hstop]
  dsimp only
  rw [if_neg (by simp [hsp])]

/-- Only a stopping unit comes to its end. -/
theorem rsyFinish_other (sp : Nat) (h : rsyState s ≠ stSTOPPING) : rsyFinish sp s = s := by
  unfold rsyFinish
  split
  · rw [if_neg (by simp [h])]
  · rfl

theorem rsyStopCommit_none (h : s.rsy.stopAt = none) : rsyStopCommit s = s := by
  unfold rsyStopCommit
  rw [h]

theorem rsyStopCommit_running {a : Nat} (hstop : s.rsy.stopAt = some a) (h : rsyState s = stRUNNING) :
    rsyStopCommit s = rsyFinish (rsyPos s) (setRsyState stSTOPPING s) := by
  unfold rsyStopCommit
  rw [hstop]
  exact if_pos h

theorem stopCommit_stops {a : Nat} (hstop : s.rsy.stopAt = some a) (h : rsyState s = stRUNNING) :
    ∃ t, exec .rsyStopCommit s = .next t ∧ RegsBut [RSY_STATE] s t ∧ SameBut [.regs, .rsy] s t ∧
      (rsyPos s < a → rsyState t = stSTOPPING ∧ t.rsy = s.rsy) ∧
      (a ≤ rsyPos s → rsyState t = stSTOPPED ∧ t.rsy.stopAt = none ∧ t.rsy.slices = []) := by
  have hstopping : RegsBut [RSY_STATE] s (setRsyState stSTOPPING s) := regsBut_setReg stSTOPPING (by simp) (regsBut_refl _ s)
  have hstate : rsyState (setRsyState stSTOPPING s) = stSTOPPING := rsyState_setReg stSTOPPING
  have hstays : (setRsyState stSTOPPING s).rsy.stopAt = some a := hstop
  refine ⟨_, rfl, ?_, sameBut_agree (agree_rsyStopCommit (by decide) (by decide) agree_refl), fun hpos => ?_, fun hpos => ?_⟩
  · rw [rsyStopCommit_running hstop h]
    rcases Nat.lt_or_ge (rsyPos s) a with hpos | hpos
    · rw [rsyFinish_before hstays hpos]
      exact hstopping
    · rw [rsyFinish_past hstays hstate hpos]
      exact regsBut_rsyHalt hstopping
  · rw [rsyStopCommit_running hstop h, rsyFinish_before hstays hpos]
    exact ⟨hstate, rfl⟩
  · rw [rsyStopCommit_running hstop h, rsyFinish_past hstays hstate hpos]
    exact ⟨rsyState_setReg stSTOPPED, rfl, rfl⟩

/-! ### Reading a half (R299) -/

theorem rsyHalfRead_again (h : ∃ r ∈ s.rsy.reading, r.1 = p) : rsyHalfRead p s = s :=
  if_pos (by simpa using h)

/-- With one half in use, and none of the plan being read, the half is begun on once it is ready. -/
theorem rsyHalfRead_one (hn : n < 2 ^ 40) (hnone : ∀ r ∈ s.rsy.reading, r.1 ≠ p) (hhalf : s.acc.halves = [p * 2 ^ 40 + n]) :
    rsyHalfRead p s = if halfReady s p n then { s with rsy := { s.rsy with reading := s.rsy.reading ++ [(p, n, 0)] } } else s := by
  have hplan : (p * 2 ^ 40 + n) / 2 ^ 40 = p := by omega
  have hblock : (p * 2 ^ 40 + n) % 2 ^ 40 = n := by omega
  have hnot : ¬s.rsy.reading.any (fun r => r.1 = p) = true := by
    rw [List.any_eq_true]
    rintro ⟨r, hr, hp⟩
    exact hnone r hr (of_decide_eq_true hp)
  unfold rsyHalfRead
  rw [if_neg hnot, hhalf, List.filter_cons_of_pos (by simpa using hplan), List.filter_nil, List.map_singleton, hblock, List.mergeSort_singleton]

theorem halfRead_begins (q : Fin 16) (hn : n < 2 ^ 40) (hnone : ∀ r ∈ s.rsy.reading, r.1 ≠ q.val) (hhalf : s.acc.halves = [q.val * 2 ^ 40 + n]) :
    (halfReady s q.val n = true →
      ∃ t, exec (.rsyHalfRead q) s = .next t ∧ t.rsy.reading = s.rsy.reading ++ [(q.val, n, 0)] ∧ t.rsy.slices = s.rsy.slices ∧ SameBut [.rsy] s t) ∧
    (halfReady s q.val n = false → exec (.rsyHalfRead q) s = .next s) := by
  have hex : exec (.rsyHalfRead q) s = .next (rsyHalfRead q.val s) := rfl
  rw [rsyHalfRead_one hn hnone hhalf] at hex
  refine ⟨fun hready => ?_, fun hready => ?_⟩
  · rw [if_pos hready] at hex
    exact ⟨_, hex, rfl, rfl, sameBut_agree (agree_with_rsy _ (by decide) agree_refl)⟩
  · rwa [hready] at hex

/-! ### A step of the synthesis (R123, R126, R299, R300) -/

/-- A starting unit that takes its first spectrum is RUNNING. -/
def rsyBegun (s : State) : State := { (setRsyState stRUNNING s) with rsy := { s.rsy with startAt := none } }

/-- What the unit makes of spectrum `k` of block `n` of plan `p`, which it takes: a starting unit runs, and the slices' output is sent. -/
def spectrumTaken (p n k : Nat) (s : State) : State :=
  let mine := (enSlices s).filter (fun i => beamPlan s (sliceBeam s i) = some p)
  let nb := (planSlices s p).length
  let fmt := s.rf (ACC_PLAN_CFG_OUT_FMT p)
  let ok := (fmt = 6 || fmt = 5) && s.reg RSY_HOP = stgHop s
  let s := if rsyState s = stSTARTING then rsyBegun s else s
  let s := if ok then s else mismatchNotes p s
  let (gs, s) := sliceSteps p n k nb ok mine s
  sendGrains p n gs s

/-- Plan `p` moves on by one spectrum; a stopping unit past its stop ends there. -/
def movedOn (p n k sp : Nat) (s : State) : State :=
  rsyFinish (sp + 1) { s with rsy := { s.rsy with reading := s.rsy.reading.map (fun r => if r.1 = p then (p, n, k + 1) else r) } }

theorem rsySynthStep_none (h : ∀ r ∈ s.rsy.reading, r.1 ≠ p) : rsySynthStep p s = s := by
  have hfind : s.rsy.reading.find? (fun r => r.1 = p) = none := by simpa using h
  unfold rsySynthStep
  rw [hfind]

/-- A step takes the spectrum if it lies within the run, moves on, and frees the half after its last spectrum. -/
theorem rsySynthStep_reading (h : s.rsy.reading = [(p, n, k)])
    (hu : u = movedOn p n k (n * stgB s + k) (if rsyTakes s (n * stgB s + k) then spectrumTaken p n k s else s)) :
    rsySynthStep p s = if k + 1 < stgB u then u else halfDone p n u := by
  have hfind : s.rsy.reading.find? (fun r => r.1 = p) = some (p, n, k) := by simp [h]
  subst hu
  unfold rsySynthStep movedOn spectrumTaken rsyBegun
  rw [hfind]

theorem stgB_with_rsy (x : RsySt) : stgB { s with rsy := x } = stgB s := rfl

theorem movedOn_running {sp : Nat} (h : s.rsy.reading = [(p, n, k)]) (hstate : rsyState s ≠ stSTOPPING) :
    movedOn p n k sp s = { s with rsy := { s.rsy with reading := [(p, n, k + 1)] } } := by
  unfold movedOn
  rw [h, rsyFinish_other _ (by exact hstate), List.map_singleton, if_pos rfl]

theorem reading_halfDone (h : s.rsy.reading = [(p, n, k)]) : (halfDone p n s).rsy.reading = [] := by
  show (s.rsy.reading.filter (fun r => decide (r.1 ≠ p))) = []
  rw [h]
  simp

theorem halves_halfDone : p * 2 ^ 40 + n ∉ (halfDone p n s).acc.halves := by
  show _ ∉ (List.filter (fun h => decide (h ≠ p * 2 ^ 40 + n)) _)
  simp

/-- A spectrum that the unit does not take is passed over. -/
theorem synthStep_passes (q : Fin 16) (h : s.rsy.reading = [(q.val, n, k)]) (htakes : rsyTakes s (n * stgB s + k) = false)
    (hstate : rsyState s ≠ stSTOPPING) :
    (k + 1 < stgB s → ∃ t, exec (.rsySynthStep q) s = .next t ∧ t.rsy = { s.rsy with reading := [(q.val, n, k + 1)] } ∧ SameBut [.rsy] s t) ∧
    (stgB s ≤ k + 1 → ∃ t, exec (.rsySynthStep q) s = .next t ∧ t.rsy.reading = [] ∧ q.val * 2 ^ 40 + n ∉ t.acc.halves ∧ RegsBut [] s t) := by
  have hex : exec (.rsySynthStep q) s = .next (rsySynthStep q.val s) := rfl
  rw [rsySynthStep_reading h rfl, htakes, if_neg Bool.false_ne_true, movedOn_running h hstate] at hex
  refine ⟨fun hk => ?_, fun hk => ?_⟩
  · rw [if_pos (by exact hk)] at hex
    exact ⟨_, hex, rfl, sameBut_agree (agree_with_rsy _ (by decide) agree_refl)⟩
  · rw [if_neg (by exact Nat.not_lt.mpr hk)] at hex
    exact ⟨_, hex, reading_halfDone rfl, halves_halfDone, regsBut_refl _ s⟩

/-! ### The first spectrum of a run (R118, R123) -/

/-- What making a spectrum's output leaves of the unit: every register aside, and all of its own state but the slices. -/
structure SliceFrame (s t : State) : Prop where
  regs : ∀ x, Aside x → t.reg x = s.reg x
  rsy : ∃ l, t.rsy = { s.rsy with slices := l }

theorem sliceFrame_of_same (hregs : ∀ x, Aside x → t.reg x = s.reg x) (hrsy : t.rsy = s.rsy) : SliceFrame s t :=
  ⟨hregs, s.rsy.slices, hrsy⟩

theorem sliceFrame_refl (s : State) : SliceFrame s s := sliceFrame_of_same (fun _ _ => rfl) rfl

theorem sliceFrame_trans (h : SliceFrame s t) (h' : SliceFrame t u) : SliceFrame s u := by
  obtain ⟨hregs, l, hl⟩ := h
  obtain ⟨hregs', l', hl'⟩ := h'
  exact ⟨fun x hx => (hregs' x hx).trans (hregs x hx), l', by rw [hl', hl]⟩

theorem sliceFrame_readElems (n nb i k : Nat) (cs : List Nat) (s : State) : SliceFrame s (readElems p n nb i k cs s).2 :=
  sliceFrame_of_same (fun _ hx => aside_readElems hx _ _ _ _ _ _ _)
    ((agree_readElems (P := [.hlt, .mem, .out, .regs]) p n nb i k cs (by decide) (by decide) (by decide) (by decide) agree_refl).out .rsy (by decide))

theorem sliceFrame_rsySat (n i k : Nat) (s : State) : SliceFrame s (rsySat n i k s) :=
  sliceFrame_of_same (fun _ hx => aside_rsySat hx _ _ _)
    ((agree_rsySat (P := [.hlt, .out, .regs]) n i k (by decide) (by decide) (by decide) agree_refl).out .rsy (by decide))

theorem sliceFrame_mismatchNotes (p : Nat) (s : State) : SliceFrame s (mismatchNotes p s) :=
  sliceFrame_of_same (fun _ hx => aside_mismatchNotes hx _)
    ((agree_mismatchNotes (P := [.hlt, .out, .regs]) p (by decide) (by decide) (by decide) agree_refl).out .rsy (by decide))

theorem sliceFrame_sendGrains (p n : Nat) (gs : List Grain) (s : State) : SliceFrame s (sendGrains p n gs s) :=
  sliceFrame_of_same (fun _ hx => aside_sendGrains hx _ _ _)
    ((agree_sendGrains (P := [.acc, .frm, .hlt, .out, .regs]) p n gs (by decide) (by decide) (by decide) (by decide) (by decide)
      agree_refl).out .rsy (by decide))

/-- A slice reads its elements if its plan's frames are accepted, counts what clamps on the way in and out, and keeps its history. -/
theorem sliceStep_stages (p n k nb : Nat) (ok : Bool) (i : Nat) (s : State) : ∃ j cs els i₁ k₁ i₂ k₂ l,
    (sliceStep p n k nb ok i s).2 =
      { rsySat i i₂ k₂ (rsySat i i₁ k₁ (if ok then readElems p n nb j k cs s else (els, s)).2) with
        rsy := { (rsySat i i₂ k₂ (rsySat i i₁ k₁ (if ok then readElems p n nb j k cs s else (els, s)).2)).rsy with slices := l } } :=
  ⟨_, _, _, _, _, _, _, _, rfl⟩

theorem sliceFrame_sliceStep (p n k nb : Nat) (ok : Bool) (i : Nat) (s : State) : SliceFrame s (sliceStep p n k nb ok i s).2 := by
  obtain ⟨j, cs, els, i₁, k₁, i₂, k₂, l, hstep⟩ := sliceStep_stages p n k nb ok i s
  have hread : SliceFrame s (if ok then readElems p n nb j k cs s else (els, s)).2 := by
    split
    · exact sliceFrame_readElems _ _ _ _ _ _
    · exact sliceFrame_refl s
  have hcount := sliceFrame_trans (sliceFrame_trans hread (sliceFrame_rsySat i i₁ k₁ _)) (sliceFrame_rsySat i i₂ k₂ _)
  rw [hstep]
  exact sliceFrame_trans hcount ⟨fun _ _ => rfl, l, rfl⟩

theorem sliceFrame_sliceSteps (p n k nb : Nat) (ok : Bool) (is : List Nat) (s : State) : SliceFrame s (sliceSteps p n k nb ok is s).2 := by
  induction is generalizing s with
  | nil => exact sliceFrame_refl s
  | cons i is ih => exact sliceFrame_trans (sliceFrame_sliceStep _ _ _ _ _ _ _) (ih _)

/-- With the first spectrum that it takes, a starting unit runs; of its own state only the start and the slices change. -/
theorem spectrumTaken_starting (p n k : Nat) (h : rsyState s = stSTARTING) :
    SliceFrame (rsyBegun s) (spectrumTaken p n k s) := by
  unfold spectrumTaken
  dsimp only
  rw [if_pos h]
  refine sliceFrame_trans (sliceFrame_trans ?_ (sliceFrame_sliceSteps _ _ _ _ _ _ _)) (sliceFrame_sendGrains _ _ _ _)
  split
  · exact sliceFrame_refl _
  · exact sliceFrame_mismatchNotes _ _

theorem synthStep_begins (q : Fin 16) (h : s.rsy.reading = [(q.val, n, k)]) (htakes : rsyTakes s (n * stgB s + k) = true)
    (hstate : rsyState s = stSTARTING) (hk : k + 1 < stgB s) :
    ∃ t, exec (.rsySynthStep q) s = .next t ∧ rsyState t = stRUNNING ∧ t.rsy.startAt = none ∧ t.rsy.reading = [(q.val, n, k + 1)] := by
  obtain ⟨hregs, l, hrsy⟩ := spectrumTaken_starting q.val n k hstate
  have hrun : rsyState (spectrumTaken q.val n k s) = stRUNNING := by
    unfold rsyState
    rw [hregs _ aside_rsyState]
    exact rsyState_setReg (s := s) stRUNNING
  have hblock : stgB (spectrumTaken q.val n k s) = stgB s := by
    unfold stgB
    rw [hregs _ aside_stgCfg]
    have hcfg : (rsyBegun s).reg STG_CFG = s.reg STG_CFG := reg_setReg_other (a := RSY_STATE) (n := stRUNNING) s (by decide)
    rw [hcfg]
  have hreading : (spectrumTaken q.val n k s).rsy.reading = [(q.val, n, k)] := by rw [hrsy]; exact h
  have hex : exec (.rsySynthStep q) s = .next (rsySynthStep q.val s) := rfl
  rw [rsySynthStep_reading h rfl, if_pos htakes, movedOn_running hreading (by rw [hrun]; decide), stgB_with_rsy, hblock, if_pos hk] at hex
  generalize spectrumTaken q.val n k s = w at hex hrun hrsy
  exact ⟨_, hex, hrun, congrArg RsySt.startAt hrsy, rfl⟩

/-- Settles O21: START and STOP go by the unit's state, and a step is a spectrum taken or passed over, a move by one spectrum, and at the end of the
block a half freed (R118, R119, R123, R126, R299, R300). -/
theorem resynthesiserRuns : Obligations.ResynthesiserRuns := fun _ =>
  ⟨fun _ _ _ g hstop => ⟨rsyStart_refused_busy g hstop, rsyStart_refused_incomplete g hstop, rsyStart_refused_capacity g hstop, rsyStart_starts g hstop⟩,
    fun _ _ _ g hstart => ⟨rsyStop_cancels g hstart, rsyStop_pends g hstart⟩,
    fun hstop => congrArg Host.Outcome.next (rsyStopCommit_none hstop),
    fun _ hstop hrun => stopCommit_stops hstop hrun,
    fun _ hreads => congrArg Host.Outcome.next (rsyHalfRead_again hreads),
    fun q _ hn hnone hhalf => halfRead_begins q hn hnone hhalf,
    fun _ hnone => congrArg Host.Outcome.next (rsySynthStep_none hnone),
    fun q _ _ hreading htakes hstate => synthStep_passes q hreading htakes hstate,
    fun q _ _ hreading htakes hstate hk => synthStep_begins q hreading htakes hstate hk⟩

end Sys2Proof.Machine

/-! SUPPORT. Writing the graticule's settings: an APPLY and what it leaves pending, the presets of UNIT_BASIC, and the chip number (R131, R133, R134). -/

namespace Sys2Proof.Machine

variable {s t : State} {m : Master} {as : List Nat}

/-! ### Answered writes -/

theorem reg_answered (a x : Nat) : (replied m a (acc t)).reg x = t.reg x := afterSetting_reg a t x

theorem grt_answered (a : Nat) : (replied m a (acc t)).grt = t.grt := afterSetting_grt a t

theorem regsBut_answered {a : Nat} (h : RegsBut as s t) : RegsBut as s (replied m a (acc t)) :=
  fun x hx => (reg_answered a x).trans (h x hx)

/-- A write that the graticule refuses (R486). -/
theorem grtRefuse_refused (a off cause : Nat) (s : State) :
    Refused EV_GRT_CFG_REFUSED m a s (replied m a (grtRefuse off cause (picked m a s))) :=
  replied_refuse m a uGRT off cause s (by decide) (by decide)

/-! ### Folds of register writes -/

theorem regsBut_foldS {α : Type} {f : α → State → State} {l : List α} (hf : ∀ a ∈ l, ∀ u, RegsBut as s u → RegsBut as s (f a u))
    (h : RegsBut as s t) : RegsBut as s (foldS f l t) := by
  induction l generalizing t with
  | nil => exact h
  | cons a l ih => exact ih (fun b hb => hf b (List.mem_cons_of_mem a hb)) (hf a List.mem_cons_self t h)

theorem regsBut_zero (l : List Nat) (s : State) : RegsBut l s (s.zero l) :=
  fun x hx => by rw [reg_zero, if_neg hx]

/-- What the step of a fold commutes with, the fold does too. -/
theorem foldS_commutes {σ α : Type} (g : σ → σ) (f : α → σ → σ) (l : List α) (s : σ) (hf : ∀ a t, f a (g t) = g (f a t)) :
    foldS f l (g s) = g (foldS f l s) := by
  induction l generalizing s with
  | nil => rfl
  | cons a l ih =>
    show foldS f l (f a (g s)) = g (foldS f l (f a s))
    rw [hf, ih]

theorem foldS_append {σ α : Type} (f : α → σ → σ) (l₁ l₂ : List α) (s : σ) : foldS f (l₁ ++ l₂) s = foldS f l₂ (foldS f l₁ s) := by
  induction l₁ generalizing s with
  | nil => rfl
  | cons a l ih => exact ih (f a s)

/-! ### APPLY (R134) -/

/-- The shadow pending, from one past the newest spectrum seen or from the anchor. -/
def grtPending (now : Bool) (s : State) : State :=
  State.wf { s with grt := { s.grt with
    pend := some (grtShadow s, if now then s.grt.seen else s.reg64 GRT_ANCHOR_LO GRT_ANCHOR_HI) } } ⟨GRT_STATE, 0, 1⟩ 1

/-- With staging STOPPED, a shadow that overlaps or leaves an owner without a way is refused. -/
theorem grtApply_conflict (off : Nat) (now : Bool) (hstop : s.rf ⟨STG_STATE, 0, 2⟩ = stSTOPPED)
    (hbad : (grtShadow t).overlaps = true ∨ (grtShadow t).reachable (ownChip s) = false) :
    grtApply off now t s = grtRefuse off cCONFLICT s := by
  unfold grtApply
  dsimp only
  rw [if_neg (by simp [hstop]), if_pos (by simpa using hbad)]

/-- With staging STOPPED, any other shadow is pending. -/
theorem grtApply_pends (off : Nat) (now : Bool) (hstop : s.rf ⟨STG_STATE, 0, 2⟩ = stSTOPPED)
    (hapart : (grtShadow t).overlaps = false) (hreach : (grtShadow t).reachable (ownChip s) = true) :
    grtApply off now t s = acc (grtPending now t) := by
  unfold grtApply
  dsimp only
  rw [if_neg (by simp [hstop]), if_neg (by simp [hapart, hreach])]
  rfl

theorem regsBut_grtPending (now : Bool) (ha : GRT_STATE ∈ as) (h : RegsBut as s t) : RegsBut as s (grtPending now t) :=
  regsBut_setReg _ ha h

theorem reg_grtPending (now : Bool) {x : Nat} (hx : x ≠ GRT_STATE) : (grtPending now s).reg x = s.reg x := reg_setReg_other _ hx

/-! ### GRT_CTRL -/

/-- A write of GRT_CTRL with APPLY set applies the shadow, now or from the anchor. -/
theorem exec_grtApply {v : Word} {env : Env} (g : Granted m GRT_CTRL s) :
    exec (.grtApply m v env) s = .next (replied m GRT_CTRL (grtApply 0x104 (bit v.toNat 1) (picked m GRT_CTRL s) (picked m GRT_CTRL s))) := by
  have hgo : bit (setBits v.toNat 0 1 1 % 2 ^ 32 &&& 4294967295) 0 = true := by
    rw [bit_written _ _ _ (by decide) (by decide), bit_setBits, if_pos (by decide)]
    rfl
  have hnow : bit (setBits v.toNat 0 1 1 % 2 ^ 32 &&& 4294967295) 1 = bit v.toNat 1 := by
    rw [bit_written _ _ _ (by decide) (by decide), bit_setBits, if_neg (by decide)]
  rw [row_grtApply g, if_pos hgo, hnow]

theorem apply_refused {v : Word} {env : Env} (g : Granted m GRT_CTRL s) (hstop : s.rf ⟨STG_STATE, 0, 2⟩ = stSTOPPED)
    (hbad : (grtShadow s).overlaps = true ∨ (grtShadow s).reachable (ownChip s) = false) :
    ∃ t, exec (.grtApply m v env) s = .next t ∧ Refused EV_GRT_CFG_REFUSED m GRT_CTRL s t := by
  have hex := exec_grtApply (v := v) (env := env) g
  rw [grtApply_conflict (s := picked m GRT_CTRL s) (t := picked m GRT_CTRL s) _ _ hstop hbad] at hex
  exact ⟨_, hex, grtRefuse_refused _ _ _ s⟩

theorem apply_pends {v : Word} {env : Env} (g : Granted m GRT_CTRL s) (hstop : s.rf ⟨STG_STATE, 0, 2⟩ = stSTOPPED)
    (hapart : (grtShadow s).overlaps = false) (hreach : (grtShadow s).reachable (ownChip s) = true) :
    ∃ t, exec (.grtApply m v env) s = .next t ∧ Answered m GRT_CTRL t ∧ t.grt.tab = s.grt.tab ∧ RegsBut [GRT_STATE] s t ∧
      t.grt.pend = some (grtShadow s, if bit v.toNat 1 then s.grt.seen else s.reg64 GRT_ANCHOR_LO GRT_ANCHOR_HI) := by
  have hex := exec_grtApply (v := v) (env := env) g
  rw [grtApply_pends (s := picked m GRT_CTRL s) (t := picked m GRT_CTRL s) _ _ hstop hapart hreach] at hex
  refine ⟨_, hex, answered_acc _ _ _, ?_, regsBut_answered (regsBut_grtPending _ (by simp) (regsBut_refl _ s)), ?_⟩
  · rw [grt_answered]
    rfl
  · rw [grt_answered]
    rfl

/-! ### The presets' tables (R131, R142) -/

/-- The registers of the shadow tables. -/
def shadowRegs : List Nat :=
  (List.range 64).map GRT_ROUTE_CHAN ++ (List.range 64).map GRT_ROUTE_OWNER ++ (List.range 64).map GRT_HOP ++ (List.range 80).map GRT_LANE_CFG

/-- Entry `k` of a preset: part `k` owns its `chans` channels. -/
def presetRoute (chans k : Nat) (s : State) : State :=
  (s.setReg (GRT_ROUTE_CHAN k) (chans * k + 65536 * chans)).setReg (GRT_ROUTE_OWNER k) (k + 2 ^ 31)

/-- The shadow with a preset's entries and nothing else. -/
def presetRoutes (parts chans : Nat) (s : State) : State := foldS (presetRoute chans) (List.range parts) (s.zero shadowRegs)

/-- Lane `n` configured for the far chip that it has learned. -/
def presetLearned (n : Nat) (s : State) : State :=
  if octetRole s (n / 8) = roGRATICULE && bit (s.reg (GRT_LANE_FAR n)) 8
  then s.setReg (GRT_LANE_CFG n) (bits (s.reg (GRT_LANE_FAR n)) 0 6 + 256) else s

/-- The reference wiring's lane `40 + i` of part `me`. -/
def presetLane (me i : Nat) (s : State) : State := s.setReg (GRT_LANE_CFG (40 + i)) ((me + refOffset i) % 32 + 256)

/-- The relay of Table 6.1 for the destination `x.1` parts on from part `me`. -/
def presetHop (me : Nat) (x : Nat × Nat) (s : State) : State := s.setReg (GRT_HOP ((me + x.1) % 32)) ((me + x.2) % 32 + 0x8000)

/-- The lanes and relays of part `me` in a preset: those learned, or those of the reference wiring. -/
def presetLinks (preset me : Nat) (s : State) : State :=
  if preset = 1 then foldS presetLearned (List.range 80) s
  else foldS (presetHop me) refRelays (foldS (presetLane me) (List.range 40) s)

theorem grtPreset_stages (preset parts chans : Nat) (s : State) :
    grtPreset preset parts chans s = presetLinks preset (ownChip s) (presetRoutes parts chans s) := rfl

theorem mem_shadowRegs {x : Nat} : x ∈ shadowRegs ↔
    ((∃ k < 64, GRT_ROUTE_CHAN k = x) ∨ ∃ k < 64, GRT_ROUTE_OWNER k = x) ∨ (∃ k < 64, GRT_HOP k = x) ∨ ∃ k < 80, GRT_LANE_CFG k = x := by
  simp only [shadowRegs, List.mem_append, List.mem_map, List.mem_range, or_assoc]

theorem regsBut_presetRoutes {parts : Nat} (chans : Nat) (hparts : parts ≤ 64) (s : State) : RegsBut shadowRegs s (presetRoutes parts chans s) := by
  refine regsBut_foldS (fun k hk u hu => ?_) (regsBut_zero shadowRegs s)
  have hk64 : k < 64 := (List.mem_range.mp hk).trans_le hparts
  exact regsBut_setReg _ (mem_shadowRegs.mpr (.inl (.inr ⟨k, hk64, rfl⟩))) (regsBut_setReg _ (mem_shadowRegs.mpr (.inl (.inl ⟨k, hk64, rfl⟩))) hu)

/-- The links of a preset lie in the hop and lane registers. -/
theorem regsBut_presetLinks (preset me : Nat) (s : State) :
    RegsBut ((List.range 64).map GRT_HOP ++ (List.range 80).map GRT_LANE_CFG) s (presetLinks preset me s) := by
  have hhop : ∀ d < 64, GRT_HOP d ∈ (List.range 64).map GRT_HOP ++ (List.range 80).map GRT_LANE_CFG := fun d hd =>
    List.mem_append_left _ (List.mem_map_of_mem (List.mem_range.mpr hd))
  have hlane : ∀ n < 80, GRT_LANE_CFG n ∈ (List.range 64).map GRT_HOP ++ (List.range 80).map GRT_LANE_CFG := fun n hn =>
    List.mem_append_right _ (List.mem_map_of_mem (List.mem_range.mpr hn))
  unfold presetLinks
  split
  · refine regsBut_foldS (fun n hn u hu => ?_) (regsBut_refl _ s)
    unfold presetLearned
    split
    · exact regsBut_setReg _ (hlane n (List.mem_range.mp hn)) hu
    · exact hu
  · refine regsBut_foldS (fun x _ u hu => regsBut_setReg _ (hhop _ (by omega)) hu) (regsBut_foldS (fun i hi u hu => ?_) (regsBut_refl _ s))
    have hi40 := List.mem_range.mp hi
    exact regsBut_setReg _ (hlane _ (by omega)) hu

theorem regsBut_grtPreset (preset chans : Nat) {parts : Nat} (hparts : parts ≤ 64) (s : State) :
    RegsBut shadowRegs s (grtPreset preset parts chans s) := by
  rw [grtPreset_stages]
  refine regsBut_trans (regsBut_presetRoutes chans hparts s) (regsBut_mono (regsBut_presetLinks _ _ _) (fun x hx => ?_))
  unfold shadowRegs
  rw [List.append_assoc]
  exact List.mem_append_right _ hx

/-- Entry `k` of the preset is the part's of that number, or none beyond the parts. -/
theorem routes_presetRoutes (parts chans : Nat) (s : State) {k : Nat} (hk : k < 64) :
    (presetRoutes parts chans s).reg (GRT_ROUTE_CHAN k) = (if k < parts then (chans * k + 65536 * chans) % 2 ^ 32 else 0) ∧
    (presetRoutes parts chans s).reg (GRT_ROUTE_OWNER k) = (if k < parts then k + 2 ^ 31 else 0) := by
  induction parts with
  | zero =>
    have hzero : presetRoutes 0 chans s = s.zero shadowRegs := by simp only [presetRoutes, List.range_zero, foldS]
    rw [hzero, reg_zero, reg_zero, if_pos (mem_shadowRegs.mpr (.inl (.inl ⟨k, hk, rfl⟩))), if_pos (mem_shadowRegs.mpr (.inl (.inr ⟨k, hk, rfl⟩)))]
    exact ⟨rfl, rfl⟩
  | succ parts ih =>
    have hlast : presetRoutes (parts + 1) chans s = presetRoute chans parts (presetRoutes parts chans s) := by
      unfold presetRoutes
      rw [List.range_succ, foldS_append]
      rfl
    have hapart : GRT_ROUTE_CHAN k ≠ GRT_ROUTE_OWNER parts ∧ GRT_ROUTE_OWNER k ≠ GRT_ROUTE_CHAN parts := by
      unfold GRT_ROUTE_CHAN GRT_ROUTE_OWNER
      omega
    rw [hlast]
    unfold presetRoute
    rcases eq_or_ne k parts with rfl | hne
    · rw [if_pos (Nat.lt_add_one k), if_pos (Nat.lt_add_one k), reg_setReg_other _ hapart.1, reg_setReg_same, reg_setReg_same]
      exact ⟨rfl, Nat.mod_eq_of_lt (by omega)⟩
    · have hchan : GRT_ROUTE_CHAN k ≠ GRT_ROUTE_CHAN parts := by unfold GRT_ROUTE_CHAN; omega
      have howner : GRT_ROUTE_OWNER k ≠ GRT_ROUTE_OWNER parts := by unfold GRT_ROUTE_OWNER; omega
      have hbefore : k < parts + 1 ↔ k < parts := by omega
      rw [reg_setReg_other _ hapart.1, reg_setReg_other _ hchan, reg_setReg_other _ howner, reg_setReg_other _ hapart.2]
      simpa only [hbefore] using ih

theorem routes_grtPreset (preset parts chans : Nat) (s : State) {k : Nat} (hk : k < 64) :
    (grtPreset preset parts chans s).reg (GRT_ROUTE_CHAN k) = (if k < parts then (chans * k + 65536 * chans) % 2 ^ 32 else 0) ∧
    (grtPreset preset parts chans s).reg (GRT_ROUTE_OWNER k) = (if k < parts then k + 2 ^ 31 else 0) := by
  have hnot : ∀ x < 0x6002000, x ∉ (List.range 64).map GRT_HOP ++ (List.range 80).map GRT_LANE_CFG := by
    intro x hx
    simp only [List.mem_append, List.mem_map, GRT_HOP, GRT_LANE_CFG]
    omega
  rw [grtPreset_stages, regsBut_presetLinks _ _ _ _ (hnot _ (by unfold GRT_ROUTE_CHAN; omega)),
    regsBut_presetLinks _ _ _ _ (hnot _ (by unfold GRT_ROUTE_OWNER; omega))]
  exact routes_presetRoutes parts chans s hk

/-! A preset writes registers only, and the port's pick is nothing to it. -/

theorem presetRoute_grt (chans k : Nat) (s : State) : (presetRoute chans k s).grt = s.grt := by
  unfold presetRoute
  rw [setReg_grt, setReg_grt]

theorem presetLearned_grt (n : Nat) (s : State) : (presetLearned n s).grt = s.grt := by
  unfold presetLearned
  split
  · exact setReg_grt _ _ _
  · rfl

theorem presetRoutes_grt (parts chans : Nat) (s : State) : (presetRoutes parts chans s).grt = s.grt := by
  unfold presetRoutes
  rw [foldS_same State.grt _ _ _ (presetRoute_grt chans), zero_grt]

theorem presetLinks_grt (preset me : Nat) (s : State) : (presetLinks preset me s).grt = s.grt := by
  have hlane : ∀ i u, (presetLane me i u).grt = u.grt := fun i u => setReg_grt u _ _
  have hhop : ∀ x u, (presetHop me x u).grt = u.grt := fun x u => setReg_grt u _ _
  unfold presetLinks
  split
  · exact foldS_same State.grt _ _ s presetLearned_grt
  · rw [foldS_same State.grt _ _ _ hhop, foldS_same State.grt _ _ _ hlane]

theorem grtPreset_grt (preset parts chans : Nat) (s : State) : (grtPreset preset parts chans s).grt = s.grt := by
  rw [grtPreset_stages, presetLinks_grt, presetRoutes_grt]

theorem setReg_picked (a b n : Nat) (s : State) : (picked m a s).setReg b n = picked m a (s.setReg b n) := rfl

theorem zero_picked (a : Nat) (l : List Nat) (s : State) : (picked m a s).zero l = picked m a (s.zero l) :=
  foldS_commutes (picked m a) _ l s (fun b u => setReg_picked a b 0 u)

theorem presetRoute_picked (a chans k : Nat) (s : State) : presetRoute chans k (picked m a s) = picked m a (presetRoute chans k s) := by
  unfold presetRoute
  rw [setReg_picked, setReg_picked]

theorem presetLearned_picked (a n : Nat) (s : State) : presetLearned n (picked m a s) = picked m a (presetLearned n s) := by
  unfold presetLearned
  rw [apply_ite (picked m a), ← setReg_picked]
  rfl

theorem presetRoutes_picked (a parts chans : Nat) (s : State) : presetRoutes parts chans (picked m a s) = picked m a (presetRoutes parts chans s) := by
  unfold presetRoutes
  rw [zero_picked, foldS_commutes (picked m a) _ _ _ (presetRoute_picked a chans)]

theorem presetLinks_picked (a preset me : Nat) (s : State) : presetLinks preset me (picked m a s) = picked m a (presetLinks preset me s) := by
  have hlane : ∀ i u, presetLane me i (picked m a u) = picked m a (presetLane me i u) := fun i u => setReg_picked a _ _ u
  have hhop : ∀ x u, presetHop me x (picked m a u) = picked m a (presetHop me x u) := fun x u => setReg_picked a _ _ u
  unfold presetLinks
  split
  · exact foldS_commutes (picked m a) _ _ s (presetLearned_picked a)
  · rw [foldS_commutes (picked m a) _ _ s hlane, foldS_commutes (picked m a) _ _ _ hhop]

theorem grtPreset_picked (a preset parts chans : Nat) (s : State) :
    grtPreset preset parts chans (picked m a s) = picked m a (grtPreset preset parts chans s) := by
  have hchip : ownChip (picked m a s) = ownChip s := rfl
  rw [grtPreset_stages, grtPreset_stages, hchip, presetRoutes_picked, presetLinks_picked]

/-! ### UNIT_BASIC (R131) -/

/-- The fields of a written word as the unit's rule sees them. -/
theorem basicWord_fields (n : Nat) :
    bits (n % 2 ^ 32 &&& 4294934275) 0 2 = bits n 0 2 ∧ bits (n % 2 ^ 32 &&& 4294934275) 8 7 = bits n 8 7 ∧
      bits (n % 2 ^ 32 &&& 4294934275) 16 16 = bits n 16 16 :=
  ⟨bits_written _ _ _ _ (by decide) (by decide), bits_written _ _ _ _ (by decide) (by decide), bits_written _ _ _ _ (by decide) (by decide)⟩

/-- Storing a word under the mask that was already laid on it. -/
theorem storeBits_masked (a w : Nat) (v : Word) (s : State) : storeBits a w (v.toNat % 2 ^ 32 &&& w) s = storeBits a w v.toNat s := by
  unfold storeBits
  rw [Nat.and_assoc, Nat.and_self, word_mod]

/-- What R131 asks of PRESET, PARTS and CHANS. -/
def grtBasicInRange (v : Nat) : Prop :=
  bits v 0 2 ≠ 3 ∧ 1 ≤ bits v 8 7 ∧ bits v 8 7 ≤ 64 ∧ (bits v 0 2 ≠ 0 → bits v 16 16 * bits v 8 7 ≤ 65536)

/-- What R131 asks of the reference wiring: 32 parts, and the graticule on the octets that it uses. -/
def wiringReady (v : Nat) (s : State) : Prop := bits v 8 7 = 32 ∧ ∀ k ∈ rangeFrom 5 5, octetRole s k = roGRATICULE

theorem grtBasicWrite_range {v : Nat} (h : ¬grtBasicInRange v) : grtBasicWrite v s = grtRefuse 0x18 cRANGE s := by
  refine if_pos ?_
  unfold grtBasicInRange at h
  simp only [Bool.or_eq_true, Bool.and_eq_true, decide_eq_true_eq]
  omega

/-- A word in range meets the rules of the reference wiring, and then applies the shadow, as a preset fills it. -/
theorem grtBasicWrite_inRange {v : Nat} (h : grtBasicInRange v) (hpreset : bits v 0 2 ≠ 0) :
    (bits v 0 2 = 2 → ¬wiringReady v s → grtBasicWrite v s = grtRefuse 0x18 cCONFLICT s) ∧
    ((bits v 0 2 = 2 → wiringReady v s) → grtBasicWrite v s =
      grtApply 0x18 true (grtPreset (bits v 0 2) (bits v 8 7) (bits v 16 16) (storeBits (UNIT_BASIC 6) 0xFFFF7F03 v s)) s) := by
  have hin : ¬(decide (bits v 0 2 = 3) || decide (bits v 8 7 < 1) || decide (64 < bits v 8 7) ||
      (decide (bits v 0 2 ≠ 0) && decide (65536 < bits v 16 16 * bits v 8 7))) = true := by
    unfold grtBasicInRange at h
    simp only [Bool.or_eq_true, Bool.and_eq_true, decide_eq_true_eq]
    omega
  have hready : (decide (bits v 0 2 = 2) && (decide (bits v 8 7 ≠ 32) || !((rangeFrom 5 5).all (fun k => octetRole s k = roGRATICULE)))) = true ↔
      bits v 0 2 = 2 ∧ ¬wiringReady v s := by
    unfold wiringReady
    simp only [Bool.and_eq_true, Bool.or_eq_true, Bool.not_eq_true', decide_eq_true_eq, ← Bool.not_eq_true, List.all_eq_true]
    tauto
  unfold grtBasicWrite
  dsimp only
  rw [if_neg hin]
  refine ⟨fun h2 hno => if_pos (hready.mpr ⟨h2, hno⟩), fun hyes => ?_⟩
  rw [if_neg (fun hc => (hready.mp hc).2 (hyes (hready.mp hc).1)), if_neg hpreset]

theorem grtBasicInRange_written (n : Nat) : grtBasicInRange (n % 2 ^ 32 &&& 4294934275) ↔ grtBasicInRange n := by
  obtain ⟨hpreset, hparts, hchans⟩ := basicWord_fields n
  unfold grtBasicInRange
  rw [hpreset, hparts, hchans]

theorem grtBasic_refuses_range {v : Word} {env : Env} (g : Granted m (UNIT_BASIC 6) s) (h : ¬grtBasicInRange v.toNat) :
    ∃ t, exec (.grtBasicWrite m v env) s = .next t ∧ Refused EV_GRT_CFG_REFUSED m (UNIT_BASIC 6) s t := by
  have hex := row_grtBasicWrite (value := v) (env := env) g
  rw [grtBasicWrite_range (mt (grtBasicInRange_written _).mp h)] at hex
  exact ⟨_, hex, grtRefuse_refused _ _ _ s⟩

theorem grtBasic_refuses_wiring {v : Word} {env : Env} (g : Granted m (UNIT_BASIC 6) s) (h : grtBasicInRange v.toNat)
    (h2 : bits v.toNat 0 2 = 2) (h32 : bits v.toNat 8 7 ≠ 32) :
    ∃ t, exec (.grtBasicWrite m v env) s = .next t ∧ Refused EV_GRT_CFG_REFUSED m (UNIT_BASIC 6) s t := by
  obtain ⟨hpreset, hparts, -⟩ := basicWord_fields v.toNat
  have hex := row_grtBasicWrite (value := v) (env := env) g
  rw [(grtBasicWrite_inRange ((grtBasicInRange_written _).mpr h) (by omega)).1 (by omega) (fun hready => h32 (hparts ▸ hready.1))] at hex
  exact ⟨_, hex, grtRefuse_refused _ _ _ s⟩

/-- A preset that its rules permit is applied as if the port had not been picked. -/
theorem exec_grtPreset {v : Word} {env : Env} (g : Granted m (UNIT_BASIC 6) s) (h : grtBasicInRange v.toNat) (hpreset : bits v.toNat 0 2 ≠ 0)
    (hready : bits v.toNat 0 2 = 2 → wiringReady v.toNat s) {u : State}
    (hu : grtPreset (bits v.toNat 0 2) (bits v.toNat 8 7) (bits v.toNat 16 16) (storeBits (UNIT_BASIC 6) 0xFFFF7F03 v.toNat s) = u) :
    exec (.grtBasicWrite m v env) s =
      .next (replied m (UNIT_BASIC 6) (grtApply 0x18 true (picked m (UNIT_BASIC 6) u) (picked m (UNIT_BASIC 6) s))) := by
  obtain ⟨h02, h87, h16⟩ := basicWord_fields v.toNat
  have hready' : bits (v.toNat % 2 ^ 32 &&& 4294934275) 0 2 = 2 → wiringReady (v.toNat % 2 ^ 32 &&& 4294934275) (picked m (UNIT_BASIC 6) s) := by
    unfold wiringReady
    rw [h02, h87]
    exact hready
  have hstored : storeBits (UNIT_BASIC 6) 0xFFFF7F03 v.toNat (picked m (UNIT_BASIC 6) s) =
      picked m (UNIT_BASIC 6) (storeBits (UNIT_BASIC 6) 0xFFFF7F03 v.toNat s) := rfl
  rw [← hu, ← grtPreset_picked, ← hstored]
  have hex : exec (.grtBasicWrite m v env) s = .next (replied m (UNIT_BASIC 6) (grtBasicWrite _ (picked m (UNIT_BASIC 6) s))) := row_grtBasicWrite g
  rw [hex, (grtBasicWrite_inRange ((grtBasicInRange_written _).mpr h) (by omega)).2 hready', h02, h87, h16, storeBits_masked]

/-- A preset that leaves every owner a way fills the shadow and has it pending now (R131, R134). -/
theorem grtBasic_presets {v : Word} {env : Env} (g : Granted m (UNIT_BASIC 6) s) (h : grtBasicInRange v.toNat) (hpreset : bits v.toNat 0 2 ≠ 0)
    (hready : bits v.toNat 0 2 = 2 → wiringReady v.toNat s) {u : State}
    (hu : grtPreset (bits v.toNat 0 2) (bits v.toNat 8 7) (bits v.toNat 16 16) (storeBits (UNIT_BASIC 6) 0xFFFF7F03 v.toNat s) = u)
    (hstop : s.rf ⟨STG_STATE, 0, 2⟩ = stSTOPPED) (hapart : (grtShadow u).overlaps = false) (hreach : (grtShadow u).reachable (ownChip s) = true) :
    ∃ t, exec (.grtBasicWrite m v env) s = .next t ∧ Answered m (UNIT_BASIC 6) t ∧ t.grt.pend = some (grtShadow u, s.grt.seen) ∧ t.grt.tab = s.grt.tab ∧
      (∀ k : Fin 64, t.reg (GRT_ROUTE_CHAN k.val) =
        (if k.val < bits v.toNat 8 7 then (bits v.toNat 16 16 * k.val + 65536 * bits v.toNat 16 16) % 2 ^ 32 else 0) ∧
        t.reg (GRT_ROUTE_OWNER k.val) = (if k.val < bits v.toNat 8 7 then k.val + 2 ^ 31 else 0)) ∧
      RegsBut ([UNIT_BASIC 6, GRT_STATE] ++ (List.range 64).map GRT_ROUTE_CHAN ++ (List.range 64).map GRT_ROUTE_OWNER ++ (List.range 64).map GRT_HOP
        ++ (List.range 80).map GRT_LANE_CFG) s t := by
  have hex := exec_grtPreset (env := env) g h hpreset hready hu
  rw [grtApply_pends (s := picked m (UNIT_BASIC 6) s) (t := picked m (UNIT_BASIC 6) u) _ _ hstop hapart hreach] at hex
  obtain ⟨-, -, hparts, -⟩ := h
  have hgrt : u.grt = s.grt := by rw [← hu, grtPreset_grt]; rfl
  refine ⟨_, hex, answered_acc _ _ _, ?_, ?_, fun k => ?_, ?_⟩
  · rw [grt_answered, ← hgrt]
    rfl
  · rw [grt_answered, ← hgrt]
    rfl
  · have hchan : GRT_ROUTE_CHAN k.val ≠ GRT_STATE := by unfold GRT_ROUTE_CHAN GRT_STATE; omega
    have howner : GRT_ROUTE_OWNER k.val ≠ GRT_STATE := by unfold GRT_ROUTE_OWNER GRT_STATE; omega
    rw [reg_answered, reg_answered, reg_grtPending _ hchan, reg_grtPending _ howner, picked_reg, picked_reg, ← hu]
    exact routes_grtPreset _ _ _ _ k.isLt
  · have hlist : [UNIT_BASIC 6, GRT_STATE] ++ (List.range 64).map GRT_ROUTE_CHAN ++ (List.range 64).map GRT_ROUTE_OWNER ++
        (List.range 64).map GRT_HOP ++ (List.range 80).map GRT_LANE_CFG = [UNIT_BASIC 6, GRT_STATE] ++ shadowRegs := by
      simp only [shadowRegs, List.append_assoc]
    have hregs : RegsBut ([UNIT_BASIC 6, GRT_STATE] ++ shadowRegs) s u := by
      rw [← hu]
      exact regsBut_trans (regsBut_mono (regsBut_storeBits _ _ _ s) (by simp))
        (regsBut_mono (regsBut_grtPreset _ _ hparts _) (fun x hx => List.mem_append_right _ hx))
    rw [hlist]
    exact regsBut_answered (regsBut_grtPending _ (by simp) hregs)

/-! ### GRT_CHIP (R133) -/

/-- Is a lane of the graticule neither DISABLED nor IDLE? -/
def grtBusy (s : State) : Prop := ∃ n, n < 80 ∧ octetRole s (n / 8) = roGRATICULE ∧ laneCode (s.lane n) ≠ lDISABLED ∧ laneCode (s.lane n) ≠ lIDLE

theorem grtChipWrite_check : ((List.range 80).any (fun n => octetRole s (n / 8) = roGRATICULE
    && laneCode (s.lane n) ≠ lDISABLED && laneCode (s.lane n) ≠ lIDLE)) = true ↔ grtBusy s := by
  simp only [grtBusy, List.any_eq_true, List.mem_range, Bool.and_eq_true, decide_eq_true_eq, and_assoc]

theorem chip_refused {v : Word} {env : Env} (g : Granted m GRT_CHIP s) (h : grtBusy s) :
    ∃ t, exec (.grtChipWrite m v env) s = .next t ∧ Refused EV_GRT_CFG_REFUSED m GRT_CHIP s t := by
  have hex := row_grtChipWrite (value := v) (env := env) g
  unfold grtChipWrite at hex
  dsimp only at hex
  rw [if_pos ((grtChipWrite_check (s := picked m GRT_CHIP s)).mpr h)] at hex
  exact ⟨_, hex, grtRefuse_refused _ _ _ s⟩

theorem chip_set {v : Word} {env : Env} (g : Granted m GRT_CHIP s) (h : ¬grtBusy s) :
    ∃ t, exec (.grtChipWrite m v env) s = .next t ∧ Answered m GRT_CHIP t ∧ ownChip t = v.toNat % 64 ∧ RegsBut [GRT_CHIP] s t := by
  have hex := row_grtChipWrite (value := v) (env := env) g
  have hword : (v.toNat % 2 ^ 32 &&& 63) % 64 = v.toNat % 64 := by
    rw [show (63 : Nat) = 2 ^ 6 - 1 by decide, Nat.and_two_pow_sub_one_eq_mod]
    omega
  unfold grtChipWrite at hex
  dsimp only at hex
  rw [if_neg (mt (grtChipWrite_check (s := picked m GRT_CHIP s)).mp h), hword] at hex
  refine ⟨_, hex, answered_acc _ _ _, ?_, regsBut_answered (regsBut_setReg _ (by simp) (regsBut_refl _ s))⟩
  unfold ownChip
  rw [reg_answered, reg_setReg_same]
  exact Nat.mod_eq_of_lt (by omega)

end Sys2Proof.Machine

/-! SUPPORT. A table that comes into force, and the spectra of one index on their way to staging and to the links (R133 to R135, R137). -/

namespace Sys2Proof.Machine

variable {s t : State}

/-! ### The commit of a pending table (R134) -/

theorem grtCommit_none (h : s.grt.pend = none) : grtCommit s = s := by
  unfold grtCommit
  rw [h]

theorem grtCommit_some {x : RouteTab × Nat} (h : s.grt.pend = some x) : grtCommit s = State.wf { s with grt := { s.grt with
    prev := some s.grt.tab, tab := x.1, since := x.2, pend := none, moved := [] } } ⟨GRT_STATE, 0, 2⟩ 2 := by
  unfold grtCommit
  rw [h]

theorem applyCommit_commits {x : RouteTab × Nat} (h : s.grt.pend = some x) :
    ∃ t, exec .grtApplyCommit s = .next t ∧ t.grt.tab = x.1 ∧ t.grt.prev = some s.grt.tab ∧ t.grt.since = x.2 ∧ t.grt.pend = none ∧ t.grt.moved = [] ∧
      RegsBut [GRT_STATE] s t ∧ SameBut [.regs, .grt] s t := by
  have hex : exec .grtApplyCommit s = .next (grtCommit s) := rfl
  have hsame : SameBut [.regs, .grt] s (grtCommit s) := sameBut_agree (agree_grtCommit (by decide) (by decide) agree_refl)
  rw [grtCommit_some h] at hex hsame
  exact ⟨_, hex, rfl, rfl, rfl, rfl, rfl, regsBut_setReg _ (by simp) (regsBut_refl _ s), hsame⟩

/-! ### What sending leaves of the graticule's own state -/

/-- The queue, the table in force with its first index, and the newest index. -/
def State.routing (s : State) : List SpecIn × RouteTab × Nat × Nat := (s.grt.inQ, s.grt.tab, s.grt.since, s.grt.seen)

theorem routing_of_grt (h : t.grt = s.grt) : t.routing = s.routing := by
  unfold State.routing
  rw [h]

theorem routing_raise (e : Ev) (a b : Nat) (s : State) : (raise e a b s).routing = s.routing := routing_of_grt (raise_grt s e a b)

theorem routing_sendLanes (ls : List Nat) (f : Frame) (s : State) : (sendLanes ls f s).routing = s.routing :=
  routing_of_grt ((agree_sendLanes (P := [.frm, .regs, .out]) ls f (by decide) (by decide) (by decide) agree_refl).out .grt (by decide))

theorem routing_grtReview (d : Nat) (s : State) : (grtReview d s).routing = s.routing := by
  unfold grtReview
  dsimp only
  split
  · split
    · rfl
    · split
      · rw [routing_raise]
        rfl
      · rfl
  · split
    · rw [routing_raise]
      rfl
    · rfl

theorem routing_grtOnRoute (tab : RouteTab) (d r : Nat) (f : Frame) (s : State) : (grtOnRoute tab d r f s).routing = s.routing := by
  unfold grtOnRoute
  split
  · dsimp only
    split
    · rfl
    · rw [routing_raise]
      rfl
  · dsimp only
    split
    · rw [routing_sendLanes]
      rfl
    · rfl

theorem routing_grtSend (tab : RouteTab) (d : Nat) (f : Frame) (s : State) : (grtSend tab d f s).routing = s.routing :=
  (routing_grtOnRoute _ _ _ _ _).trans (routing_grtReview d s)

/-! ### One run of spectra (R135, R137) -/

/-- A frame to its owner: staging of this part, or the owner's link. -/
def sendOwner (tab : RouteTab) (owner : Nat) (f : Frame) (s : State) : State :=
  if owner = ownChip s then toStaging none (ownChip s) f s else grtSend tab owner f s

/-- A frame to the entry's twin besides. -/
def sendToTwin (tab : RouteTab) (twin : Option Nat) (f : Frame) (s : State) : State :=
  match twin with
  | some d => if d = ownChip s then s else grtOnRoute tab d 0 f s
  | none => s

/-- The frame of an entry's share of a run. -/
def sendShare (run : List SpecIn) (tab : RouteTab) (base : Nat) (x : (Nat × Nat) × RouteEnt) (s : State) : State :=
  sendToTwin tab x.2.twin (specFrame s run base x.1.1 x.1.2) (sendOwner tab x.2.owner (specFrame s run base x.1.1 x.1.2) s)

theorem routing_sendOwner (tab : RouteTab) (owner : Nat) (f : Frame) (s : State) : (sendOwner tab owner f s).routing = s.routing := by
  unfold sendOwner
  split
  · rfl
  · exact routing_grtSend _ _ _ _

theorem routing_sendToTwin (tab : RouteTab) (twin : Option Nat) (f : Frame) (s : State) : (sendToTwin tab twin f s).routing = s.routing := by
  unfold sendToTwin
  split
  · split
    · rfl
    · exact routing_grtOnRoute _ _ _ _ _
  · rfl

theorem routing_sendShare (run : List SpecIn) (tab : RouteTab) (base : Nat) (x : (Nat × Nat) × RouteEnt) (s : State) :
    (sendShare run tab base x s).routing = s.routing := (routing_sendToTwin _ _ _ _).trans (routing_sendOwner _ _ _ _)

/-- The shares of a run for the entries of a table: the channels of an entry that are sent, cut to frames of at most `cc`. -/
def runShares (cc : Nat) (half : Bool) (c0 n0 : Nat) (es : List RouteEnt) : List ((Nat × Nat) × RouteEnt) :=
  es.flatMap (fun e => (chanCuts cc half n0 (max c0 e.first) (min (c0 + n0) (e.first + e.count) - max c0 e.first)).map (fun x => (x, e)))

/-- A run is sent share by share; the frames that its other channels would fill are counted. -/
theorem grtSendRun_shares (run : List SpecIn) (s : State) : grtSendRun run s = s ∨
    ∃ tab base cc half c0 n0 k, grtSendRun run s = (foldS (sendShare run tab base) (runShares cc half c0 n0 tab.entries) s).inc GRT_CNT_UNROUTED k := by
  cases run with
  | nil => exact .inl rfl
  | cons h run => exact .inr ⟨_, _, _, _, _, _, _, rfl⟩

theorem routing_grtSendRun (run : List SpecIn) (s : State) : (grtSendRun run s).routing = s.routing := by
  rcases grtSendRun_shares run s with h | ⟨tab, base, cc, half, c0, n0, k, h⟩
  · rw [h]
  · rw [h]
    exact (routing_of_grt (inc_grt _ _ _)).trans (foldS_same State.routing _ _ s (routing_sendShare run tab base))

/-- The most channels of one stream that a frame holds. -/
def streamChans (x : SpecIn) : Nat := if x.ch16 then 2048 else 4096

/-- One spectrum under the table in force. -/
theorem grtSendRun_one {x : SpecIn} (hsince : s.grt.since ≤ x.s) : grtSendRun [x] s =
    (foldS (sendShare [x] s.grt.tab (s.reg CHN_CHAN_BASE))
      (runShares (streamChans x) false (s.reg CHN_CHAN_BASE + x.first) (chnCount s) s.grt.tab.entries) s).inc GRT_CNT_UNROUTED
      (ceilDiv ((rangeFrom (s.reg CHN_CHAN_BASE + x.first) (chnCount s)).filter (fun c => (s.grt.tab.ofChan c).isNone)).length (streamChans x)) := by
  have htab : grtTab s x.s = s.grt.tab := if_neg (Nat.not_lt.mpr hsince)
  have hcap : max 1 (8192 / ([x].length * 2 * (if x.ch16 then 2 else 1)) / 2 * 2) = streamChans x := by
    unfold streamChans
    cases x.ch16 <;> simp
  have hhalf : ([x].any (fun y => y.void) && !([x].all (fun y => y.void))) = false := by
    cases hv : x.void <;> simp [hv]
  unfold grtSendRun
  dsimp only
  rw [htab, hcap, hhalf]
  rfl

theorem length_rangeFrom (lo n : Nat) : (rangeFrom lo n).length = n := by
  induction n generalizing lo with
  | zero => rfl
  | succ n ih => exact congrArg Nat.succ (ih (lo + 1))

theorem mem_rangeFrom {c lo n : Nat} : c ∈ rangeFrom lo n ↔ lo ≤ c ∧ c < lo + n := by
  induction n generalizing lo with
  | zero => simp only [rangeFrom, List.not_mem_nil, false_iff]; omega
  | succ n ih => simp only [rangeFrom, List.mem_cons, ih]; omega

/-- Under a table without entries nothing is sent, and every channel counts. -/
theorem grtSendRun_unrouted {x : SpecIn} (hsince : s.grt.since ≤ x.s) (hnone : s.grt.tab.entries = []) :
    grtSendRun [x] s = s.inc GRT_CNT_UNROUTED (ceilDiv (chnCount s) (streamChans x)) := by
  have hall : (rangeFrom (s.reg CHN_CHAN_BASE + x.first) (chnCount s)).filter (fun c => (s.grt.tab.ofChan c).isNone) =
      rangeFrom (s.reg CHN_CHAN_BASE + x.first) (chnCount s) := by
    refine List.filter_eq_self.mpr (fun c _ => ?_)
    unfold RouteTab.ofChan
    rw [hnone]
    rfl
  rw [grtSendRun_one hsince, hall, length_rangeFrom, hnone]
  rfl

/-- Channels that fill no more than a frame make one share. -/
theorem runShares_one {cc c0 n0 : Nat} {e : RouteEnt} (hpos : 0 < n0) (hcap : n0 ≤ cc) (hfirst : e.first ≤ c0) (hlast : c0 + n0 ≤ e.first + e.count) :
    runShares cc false c0 n0 [e] = [((c0, n0), e)] := by
  obtain ⟨k, rfl⟩ : ∃ k, n0 = k + 1 := ⟨n0 - 1, by omega⟩
  have hrest : chanCuts cc false k (c0 + (k + 1)) 0 = [] := by cases k <;> rfl
  have hcut : chanCuts cc false (k + 1) c0 (k + 1) = [(c0, k + 1)] := by
    unfold chanCuts
    dsimp only
    rw [if_neg (Nat.succ_ne_zero k), Nat.min_eq_right hcap, Nat.sub_self, hrest]
    rfl
  unfold runShares
  rw [List.flatMap_singleton, Nat.max_eq_left hfirst, Nat.min_eq_left hlast, Nat.add_sub_cancel_left, hcut]
  rfl

/-- A spectrum whose channels one entry gives to this part alone goes to staging in one frame. -/
theorem grtSendRun_owned {x : SpecIn} {e : RouteEnt} (hsince : s.grt.since ≤ x.s) (hone : s.grt.tab.entries = [e]) (howner : e.owner = ownChip s)
    (htwin : e.twin = none) (hpos : 0 < chnCount s) (hcap : chnCount s ≤ 2048) (hfirst : e.first ≤ s.reg CHN_CHAN_BASE + x.first)
    (hlast : s.reg CHN_CHAN_BASE + x.first + chnCount s ≤ e.first + e.count) :
    grtSendRun [x] s = (toStaging none (ownChip s)
      (specFrame s [x] (s.reg CHN_CHAN_BASE) (s.reg CHN_CHAN_BASE + x.first) (chnCount s)) s).inc GRT_CNT_UNROUTED 0 := by
  have hcap' : chnCount s ≤ streamChans x := by unfold streamChans; split <;> omega
  have hrouted : (rangeFrom (s.reg CHN_CHAN_BASE + x.first) (chnCount s)).filter (fun c => (s.grt.tab.ofChan c).isNone) = [] := by
    refine List.filter_eq_nil_iff.mpr (fun c hc => ?_)
    have hin : e.first ≤ c ∧ c < e.first + e.count := by rw [mem_rangeFrom] at hc; omega
    unfold RouteTab.ofChan
    simp [hone, hin]
  have hshare : sendShare [x] s.grt.tab (s.reg CHN_CHAN_BASE) ((s.reg CHN_CHAN_BASE + x.first, chnCount s), e) s =
      toStaging none (ownChip s) (specFrame s [x] (s.reg CHN_CHAN_BASE) (s.reg CHN_CHAN_BASE + x.first) (chnCount s)) s := by
    unfold sendShare sendOwner
    rw [if_pos howner, htwin]
    rfl
  have hceil : ceilDiv 0 (streamChans x) = 0 := by unfold streamChans; split <;> rfl
  rw [grtSendRun_one hsince, hrouted, hone, runShares_one hpos hcap' hfirst hlast, List.length_nil, hceil]
  exact congrArg (fun u => State.inc u GRT_CNT_UNROUTED 0) hshare

/-- The SPEC frame of one spectrum, from its first channel on (R135). -/
theorem specFrame_one (x : SpecIn) (base n : Nat) (s : State) :
    (specFrame s [x] base (base + x.first) n).kind = kSPEC ∧ (specFrame s [x] base (base + x.first) n).index = x.s ∧
    (specFrame s [x] base (base + x.first) n).firstStream = x.stream ∧ (specFrame s [x] base (base + x.first) n).streamCount = 1 ∧
    (specFrame s [x] base (base + x.first) n).firstChan = base + x.first ∧ (specFrame s [x] base (base + x.first) n).chanCount = n ∧
    (specFrame s [x] base (base + x.first) n).isVoid = x.void ∧
    (specFrame s [x] base (base + x.first) n).samples = (if x.void then [] else packElems (if x.ch16 then fCH16 else fC8) (x.vals.take n)) := by
  refine ⟨rfl, rfl, rfl, rfl, rfl, rfl, ?_, ?_⟩
  · show bit (b2n (x.void && true) + 2 * b2n ((x.void || false) && !(x.void && true)) + 8 * b2n x.fore) 0 = x.void
    cases x.void <;> cases x.fore <;> rfl
  · have hfrom : base + x.first - base - x.first = 0 := by omega
    show (if (x.void && true) = true then [] else List.flatMap (fun y => packElems (if x.ch16 then fCH16 else fC8)
      (if y.void then List.replicate n (0, 0) else (y.vals.drop (base + x.first - base - y.first)).take n)) [x]) = _
    rw [List.flatMap_singleton, hfrom, List.drop_zero, Bool.and_true]
    cases x.void <;> rfl

/-! ### The spectra of the oldest index -/

/-- Index `i` is seen, and its spectra leave the queue. -/
def spectraOff (i : Nat) (s : State) : State :=
  { s with grt := { s.grt with inQ := s.grt.inQ.filter (fun y => y.s ≠ i), seen := max s.grt.seen (i + 1) } }

/-- A pending table that index `i` reaches is then in force. -/
def spectraTaken (i : Nat) (s : State) : State := grtCommitAt i { s with grt := { s.grt with inQ := s.grt.inQ.filter (fun y => y.s ≠ i) } }

theorem spectraTaken_due {x : RouteTab × Nat} {i : Nat} (h : s.grt.pend = some x) (hdue : x.2 ≤ i) :
    spectraTaken i s = grtCommit (spectraOff i s) := by
  unfold spectraTaken grtCommitAt
  dsimp only
  split
  next p a hp =>
    obtain rfl : x = (p, a) := Option.some.inj (h.symm.trans hp)
    exact if_pos hdue
  next hp => exact absurd (h.symm.trans hp) (by simp)

/-- Short of the anchor, and without a pending table, the table in force stays. -/
theorem spectraTaken_waits {i : Nat} (h : ∀ x ∈ s.grt.pend, i < x.2) : spectraTaken i s = spectraOff i s := by
  unfold spectraTaken grtCommitAt
  dsimp only
  split
  next p a hp => exact if_neg (Nat.not_le.mpr (h (p, a) hp))
  next => rfl

theorem spectraTaken_none {i : Nat} (h : s.grt.pend = none) : spectraTaken i s = spectraOff i s :=
  spectraTaken_waits (by simp [h])

/-- The queue, the newest index, and the table of an anchor that index `i` reaches. -/
theorem routing_spectraTaken (i : Nat) (s : State) :
    (spectraTaken i s).grt.inQ = s.grt.inQ.filter (fun y => y.s ≠ i) ∧ i + 1 ≤ (spectraTaken i s).grt.seen ∧
      ∀ p ∈ s.grt.pend, p.2 ≤ i → (spectraTaken i s).grt.tab = p.1 ∧ (spectraTaken i s).grt.since = p.2 := by
  have hseen : i + 1 ≤ max s.grt.seen (i + 1) := Nat.le_max_right _ _
  by_cases hdue : ∃ x ∈ s.grt.pend, x.2 ≤ i
  · obtain ⟨x, hx, hle⟩ := hdue
    rw [spectraTaken_due hx hle, grtCommit_some (s := spectraOff i s) hx]
    refine ⟨rfl, hseen, fun p hp _ => ?_⟩
    obtain rfl : x = p := Option.mem_unique hx hp
    exact ⟨rfl, rfl⟩
  · have hwait : ∀ x ∈ s.grt.pend, i < x.2 := fun x hx => Nat.lt_of_not_le (fun hle => hdue ⟨x, hx, hle⟩)
    rw [spectraTaken_waits hwait]
    exact ⟨rfl, hseen, fun p hp hle => absurd ⟨p, hp, hle⟩ hdue⟩

/-- The spectra of the queue's first index are sent in runs, in order of their streams. -/
theorem spectrumSend_cons {x : SpecIn} {rest : List SpecIn} (h : s.grt.inQ = x :: rest) : exec .grtSpectrumSend s =
    .next (foldS grtSendRun (specRuns ((s.grt.inQ.filter (fun y => y.s = x.s)).foldl (fun l y => specInsert y l) [])) (spectraTaken x.s s)) := by
  show execGrtSpectrumSend s = _
  unfold execGrtSpectrumSend
  split
  next hnil => exact absurd (h.symm.trans hnil) (by simp)
  next y tail hcons =>
    obtain ⟨rfl, rfl⟩ := List.cons.inj (h.symm.trans hcons)
    rfl

theorem spectrumSend_nil (h : s.grt.inQ = []) : exec .grtSpectrumSend s = .next s := by
  show execGrtSpectrumSend s = _
  unfold execGrtSpectrumSend
  rw [h]

theorem spectrumSend_one {x : SpecIn} (h : s.grt.inQ = [x]) : exec .grtSpectrumSend s = .next (grtSendRun [x] (spectraTaken x.s s)) := by
  have hmine : s.grt.inQ.filter (fun y => y.s = x.s) = [x] := by rw [h, List.filter_cons_of_pos (by simp), List.filter_nil]
  rw [spectrumSend_cons h, hmine]
  rfl

/-- The spectra of the oldest index leave the queue, under the table that is in force from it on. -/
theorem spectrumSend_takes {x : SpecIn} {rest : List SpecIn} (h : s.grt.inQ = x :: rest) :
    ∃ t, exec .grtSpectrumSend s = .next t ∧ t.grt.inQ = rest.filter (fun y => y.s ≠ x.s) ∧ x.s + 1 ≤ t.grt.seen ∧
      (∀ p ∈ s.grt.pend, p.2 ≤ x.s → t.grt.tab = p.1 ∧ t.grt.since = p.2) := by
  have hex := spectrumSend_cons h
  generalize specRuns _ = runs at hex
  have hkeep := foldS_same State.routing grtSendRun runs (spectraTaken x.s s) routing_grtSendRun
  obtain ⟨hinQ, htab, hsince, hseen⟩ : (foldS grtSendRun runs (spectraTaken x.s s)).grt.inQ = (spectraTaken x.s s).grt.inQ ∧
      (foldS grtSendRun runs (spectraTaken x.s s)).grt.tab = (spectraTaken x.s s).grt.tab ∧
      (foldS grtSendRun runs (spectraTaken x.s s)).grt.since = (spectraTaken x.s s).grt.since ∧
      (foldS grtSendRun runs (spectraTaken x.s s)).grt.seen = (spectraTaken x.s s).grt.seen := by
    simpa only [State.routing, Prod.mk.injEq] using hkeep
  obtain ⟨hq, hs, hp⟩ := routing_spectraTaken x.s s
  refine ⟨_, hex, ?_, hseen ▸ hs, fun p hmem hle => htab ▸ hsince ▸ hp p hmem hle⟩
  rw [hinQ, hq, h, List.filter_cons_of_neg (by simp)]

theorem spectrumSend_unrouted {x : SpecIn} (h : s.grt.inQ = [x]) (hpend : s.grt.pend = none) (hsince : s.grt.since ≤ x.s)
    (hnone : s.grt.tab.entries = []) :
    ∃ t, exec .grtSpectrumSend s = .next t ∧
      t.reg GRT_CNT_UNROUTED = min (s.reg GRT_CNT_UNROUTED + ceilDiv (chnCount s) (if x.ch16 then 2048 else 4096)) 0xFFFFFFFF ∧
      RegsBut [GRT_CNT_UNROUTED] s t ∧ t.stg = s.stg := by
  have hex := spectrumSend_one h
  rw [spectraTaken_none hpend, grtSendRun_unrouted (s := spectraOff x.s s) hsince hnone] at hex
  exact ⟨_, hex, (reg_inc _ _ _ _).trans (if_pos rfl), regsBut_setReg (t := spectraOff x.s s) _ (by simp) (regsBut_refl _ s), rfl⟩

theorem spectrumSend_owned {x : SpecIn} {e : RouteEnt} (h : s.grt.inQ = [x]) (hone : s.grt.tab.entries = [e]) (hpend : s.grt.pend = none)
    (hsince : s.grt.since ≤ x.s) (howner : e.owner = ownChip s) (htwin : e.twin = none) (hpos : 0 < chnCount s) (hcap : chnCount s ≤ 2048)
    (hfirst : e.first ≤ s.reg CHN_CHAN_BASE + x.first) (hlast : s.reg CHN_CHAN_BASE + x.first + chnCount s ≤ e.first + e.count) :
    ∃ t, exec .grtSpectrumSend s = .next t ∧ t.stg.inQ.length = s.stg.inQ.length + 1 ∧
      (∀ y ∈ t.stg.inQ.getLast?, y.octet = none ∧ y.f.kind = kSPEC ∧ y.f.index = x.s ∧ y.f.firstStream = x.stream ∧ y.f.streamCount = 1 ∧
        y.f.firstChan = s.reg CHN_CHAN_BASE + x.first ∧ y.f.chanCount = chnCount s ∧ y.f.isVoid = x.void ∧
        y.f.samples = (if x.void then [] else packElems (if x.ch16 then fCH16 else fC8) (x.vals.take (chnCount s)))) ∧
      t.reg GRT_CNT_UNROUTED = s.reg GRT_CNT_UNROUTED := by
  have hex := spectrumSend_one h
  rw [spectraTaken_none hpend, grtSendRun_owned (s := spectraOff x.s s) hsince hone howner htwin hpos hcap hfirst hlast] at hex
  refine ⟨_, hex, List.length_append, fun y hy => ?_, ?_⟩
  · obtain rfl := Option.some.inj (List.getLast?_concat.symm.trans hy)
    exact ⟨rfl, specFrame_one x _ _ (spectraOff x.s s)⟩
  · have hlt := reg_lt s GRT_CNT_UNROUTED
    refine ((reg_inc _ _ _ _).trans (if_pos rfl)).trans ?_
    exact Nat.min_eq_left (by show s.reg GRT_CNT_UNROUTED ≤ _; omega)

/-- Settles O22: UNIT_BASIC, GRT_CHIP and APPLY by what they refuse and what they leave, a pending table by its commit, and the oldest spectra by the
table in force, which gives their channels to this part or to nobody (R131, R133, R134, R135, R137). -/
theorem graticule : Obligations.Graticule := by
  intro s
  refine ⟨fun m v env g => ⟨fun hbad => grtBasic_refuses_range g ?_, fun h2 h1 h64 h32 => ?_, fun u hu hpreset h1 h64 hchans hstop hapart hreach => ?_⟩,
    fun m v env g => ⟨chip_refused g, fun hquiet => chip_set g ?_⟩,
    fun m v env g hstop => ⟨apply_refused g hstop, apply_pends g hstop⟩,
    fun hpend => congrArg Host.Outcome.next (grtCommit_none hpend),
    fun x hpend => applyCommit_commits hpend,
    fun hempty => spectrumSend_nil hempty,
    fun x rest h => spectrumSend_takes h,
    fun x h hpend hsince hnone _ => spectrumSend_unrouted h hpend hsince hnone,
    fun x e h hone hpend hsince howner htwin => spectrumSend_owned h hone hpend hsince howner htwin⟩
  · unfold grtBasicInRange
    omega
  · by_cases hrange : grtBasicInRange v.toNat
    · exact grtBasic_refuses_wiring g hrange h2 h32
    · exact grtBasic_refuses_range g hrange
  · have hrange : grtBasicInRange v.toNat := by
      unfold grtBasicInRange
      omega
    have hready : bits v.toNat 0 2 = 2 → wiringReady v.toNat s := fun h2 => by
      rcases hpreset with hlearned | ⟨-, h32, hroles⟩
      · omega
      · exact ⟨h32, hroles⟩
    exact grtBasic_presets g hrange (by omega) hready hu hstop hapart hreach
  · rintro ⟨n, hn, hrole, hdis, hidle⟩
    exact (hquiet n hn hrole).elim hdis hidle

end Sys2Proof.Machine

/-! SUPPORT. One meridian tick: the clocks move on, and the frame and event outputs follow them (R368, R371, R378, R379). -/

namespace Sys2Proof.Machine

variable {s t : State}

/-! ### The clocks -/

/-- The time of day with its fraction, the remainder and the count of the array clock, and the sample index. -/
def State.clocks (s : State) : Nat × Nat × Nat × Nat × Nat := (s.tim.tod, s.tim.todFrac, s.mer.frac, s.mer.since, s.mer.idx)

/-- The periods of the array clock that one tick ends (R368). -/
def tickPeriods (s : State) : Nat := (s.mer.frac + s.reg MER_FS) / 100000

/-- The clocks moved on by one tick: the time of day by its increment, and the index, while it is valid, by the periods. -/
def clocksMoved (s : State) : State :=
  { s with
    tim := { s.tim with
      tod := u64 (s.tim.tod + (s.tim.todFrac + s.tim.incr) / 2 ^ 32)
      todFrac := (s.tim.todFrac + s.tim.incr) % 2 ^ 32 }
    mer := { s.mer with
      frac := (s.mer.frac + s.reg MER_FS) % 100000
      since := s.mer.since + tickPeriods s
      idx := if s.rf MER_STATE_IDX_VALID = 1 then u64 (s.mer.idx + tickPeriods s) else s.mer.idx } }

theorem agree_clocksMoved : Agree [.mer, .tim] s (clocksMoved s) :=
  agree_with_mer (s := { s with tim := (clocksMoved s).tim }) _ (by decide) (agree_with_tim _ (by decide) agree_refl)

/-! ### The outputs -/

/-- An event output stays as it is, or reports its pulses: it counts them and notes its next one. -/
theorem evtTick_cases (i k : Nat) (s : State) : evtTick i k s = s ∨ ∃ next n cnt,
    evtTick i k s = (State.inc { s with tim := { s.tim with evtNext := next } } (TIM_EVT_COUNT k) cnt).emit (.evt k n cnt) := by
  unfold evtTick
  by_cases hoff : (s.rf (TIM_EVT_CFG_EN k) = 0 || !(drivesEvents s)) = true
  · exact .inl (if_pos hoff)
  rw [if_neg hoff]
  cases sget none s.tim.evtNext k with
  | none => exact .inl rfl
  | some n =>
    by_cases hearly : i < n
    · exact .inl (if_pos hearly)
    · exact .inr ⟨_, n, _, if_neg hearly⟩

/-- A frame output changes no more than the mark of an edge to be left out, and what is sent. -/
theorem frameTick_eq (old new n : Nat) (s : State) :
    ∃ skip os, frameTick old new n s = { s with mer := { s.mer with skip := skip }, out := os } := by
  unfold frameTick
  dsimp only
  split
  · exact ⟨s.mer.skip, s.out, rfl⟩
  · split
    · split <;> exact ⟨_, _, rfl⟩
    · exact ⟨_, _, rfl⟩

theorem clocks_evtTick (i k : Nat) (s : State) : (evtTick i k s).clocks = s.clocks := by
  rcases evtTick_cases i k s with h | ⟨_, _, _, h⟩
  · rw [h]
  · rw [h]
    rfl

theorem regsBut_evtTick {as : List Nat} (i : Nat) {k : Nat} (hk : TIM_EVT_COUNT k ∈ as) (h : RegsBut as s t) : RegsBut as s (evtTick i k t) := by
  rcases evtTick_cases i k t with he | ⟨next, n, cnt, he⟩
  · rw [he]
    exact h
  · rw [he]
    exact regsBut_setReg (t := { t with tim := { t.tim with evtNext := next } }) _ hk h

theorem clocks_frameTick (old new n : Nat) (s : State) : (frameTick old new n s).clocks = s.clocks := by
  obtain ⟨_, _, h⟩ := frameTick_eq old new n s
  rw [h]
  rfl

theorem reg_frameTick (old new n a : Nat) (s : State) : (frameTick old new n s).reg a = s.reg a := by
  obtain ⟨_, _, h⟩ := frameTick_eq old new n s
  rw [h]
  rfl

theorem agree_frameTick {P : List Part} (old new n : Nat) (hm : Part.mer ∈ P) (ho : Part.out ∈ P) (h : Agree P s t) :
    Agree P s (frameTick old new n t) := by
  obtain ⟨skip, os, he⟩ := frameTick_eq old new n t
  rw [he]
  exact agree_with_out (s := { t with mer := { t.mer with skip := skip } }) os ho (agree_with_mer _ hm h)

/-- The frame outputs over the periods from `old` to `new`, and, while the index is valid, the event outputs up to it. -/
def outputsDriven (old new : Nat) (s : State) : State :=
  let t := foldS (frameTick old new) (List.range 4) s
  if s.rf MER_STATE_IDX_VALID = 1 then foldS (evtTick t.mer.idx) (List.range 4) t else t

theorem clocks_outputsDriven (old new : Nat) (s : State) : (outputsDriven old new s).clocks = s.clocks := by
  have hframes := foldS_same State.clocks (frameTick old new) (List.range 4) s (clocks_frameTick old new)
  unfold outputsDriven
  split
  · exact (foldS_same State.clocks _ _ _ (clocks_evtTick _)).trans hframes
  · exact hframes

theorem regsBut_outputsDriven (old new : Nat) (s : State) : RegsBut ((List.range 4).map TIM_EVT_COUNT) s (outputsDriven old new s) := by
  have hframes : RegsBut ((List.range 4).map TIM_EVT_COUNT) s (foldS (frameTick old new) (List.range 4) s) :=
    fun a _ => foldS_same (State.reg · a) _ _ s (fun n t => reg_frameTick old new n a t)
  unfold outputsDriven
  split
  · exact regsBut_foldS (fun k hk _ => regsBut_evtTick _ (List.mem_map_of_mem hk)) hframes
  · exact hframes

theorem agree_outputsDriven (old new : Nat) (h : Agree [.regs, .mer, .tim, .out] s t) :
    Agree [.regs, .mer, .tim, .out] s (outputsDriven old new t) := by
  have hframes := agree_foldS (frameTick old new) (List.range 4) (fun n _ => agree_frameTick old new n (by decide) (by decide)) h
  unfold outputsDriven
  exact agree_ite (agree_foldS _ _ (fun k _ => agree_evtTick _ k (by decide) (by decide) (by decide)) hframes) hframes

/-! ### The tick -/

/-- The count that the frame edges go by: the sample index where it is valid. -/
def frameClock (s : State) : Nat := if s.rf MER_STATE_IDX_VALID = 1 then s.mer.idx else s.mer.since

theorem meridianTick_off (h : s.mode = mOFF) : meridianTick s = s := if_pos h

theorem meridianTick_on (h : s.mode ≠ mOFF) :
    meridianTick s = outputsDriven (frameClock s) (frameClock s + tickPeriods s) (clocksMoved s) := if_neg h

theorem clocks_meridianTick (h : s.mode ≠ mOFF) : (meridianTick s).clocks = (clocksMoved s).clocks := by
  rw [meridianTick_on h, clocks_outputsDriven]

theorem sameBut_meridianTick (s : State) : SameBut [.regs, .mer, .tim, .out] s (meridianTick s) := by
  by_cases h : s.mode = mOFF
  · rw [meridianTick_off h]
    exact sameBut_refl _ s
  · rw [meridianTick_on h]
    exact sameBut_agree (agree_outputsDriven _ _ ⟨sameBut_mono agree_clocksMoved.out (by decide)⟩)

theorem regsBut_meridianTick (s : State) : RegsBut ((List.range 4).map TIM_EVT_COUNT) s (meridianTick s) := by
  by_cases h : s.mode = mOFF
  · rw [meridianTick_off h]
    exact regsBut_refl _ s
  · rw [meridianTick_on h]
    exact regsBut_outputsDriven _ _ (clocksMoved s)

theorem step_empty (h : s.pending = []) : step s = .next (meridianTick s) := by
  unfold step
  rw [h]

/-- Settles O2: with the queue empty a step is a tick, which moves the clocks on and drives the time outputs, and these leave the clocks as they are. -/
theorem emptyQueueTicks : Obligations.EmptyQueueTicks := by
  intro s h
  refine ⟨meridianTick s, step_empty h, (sameBut_meridianTick s .pending (by decide)).trans h, meridianTick_off, fun hon => ?_,
    sameBut_meridianTick s, regsBut_meridianTick s⟩
  have hclocks := clocks_meridianTick hon
  simp only [State.clocks, Prod.mk.injEq] at hclocks
  obtain ⟨htod, htodFrac, hfrac, hsince, hidx⟩ := hclocks
  exact ⟨congrArg₂ (fun n f => 2 ^ 32 * n + f) htod htodFrac, hfrac, hsince, hidx⟩

end Sys2Proof.Machine

/-! SUPPORT. The invariant along the machine's steps: reset meets it, and a command or a tick keeps it. -/

namespace Sys2Proof.Machine

variable {s : State} {q rest : List Instr} {i : Instr}

/-! ### The invariant, whatever commands wait -/

theorem Inv.kept (h : Inv s) : Kept s.pending s := ⟨h.regs, h.hbm, rfl, h.logQ, h.ueLog⟩

theorem Kept.inv (h : Kept q s) : Inv s := ⟨h.regs, h.hbm, h.logQ, h.ueLog⟩

/-- What is kept says nothing of which commands wait, so it stays when the queue is replaced. -/
theorem kept_with_pending (h : Kept q s) : Kept rest { s with pending := rest } := ⟨h.regs, h.hbm, rfl, h.logQ, h.ueLog⟩

/-! ### Commands and steps -/

/-- No command breaks what is kept: a case for each row of the opcode table, closed by that command's own lemma. -/
theorem kept_exec (i : Instr) (h : Kept q s) : ∀ t, exec i s = .next t → Kept q t :=
  match i with
  | .registerWrite m addr value env => kept_execRegisterWrite m addr value env h
  | .unitEventClear m unit value env => kept_execUnitEventClear m unit value env h
  | .thermalShutdown sensor => kept_execThermalShutdown sensor h
  | .supplyFaultReset supply mv => kept_execSupplyFaultReset supply mv h
  | .supplyFaultCleared e margins => kept_execSupplyFaultCleared e margins h
  | .resetRelease e margins => kept_execResetRelease e margins h
  | .porAssert ns taken => kept_execPorAssert ns taken h
  | .tempSample temps => kept_execTempSample temps h
  | .lifeHoursStore => kept_execLifeHoursStore h
  | .supplySample mvs => kept_execSupplySample mvs h
  | .fabricSecond => kept_execFabricSecond h
  | .epochWaymark unit => kept_execEpochWaymark unit h
  | .dumpWaymark plan => kept_execDumpWaymark plan h
  | .flushWaymark unit => kept_execFlushWaymark unit h
  | .gainWaymark unit => kept_execGainWaymark unit h
  | .wswapWaymark unit => kept_execWswapWaymark unit h
  | .haltWaymark unit => kept_execHaltWaymark unit h
  | .resumeWaymark unit => kept_execResumeWaymark unit h
  | .voidrunWaymark unit => kept_execVoidrunWaymark unit h
  | .trigWaymark => kept_execTrigWaymark h
  | .twinWaymark chip gen => kept_execTwinWaymark chip gen h
  | .genWaymark unit => kept_execGenWaymark unit h
  | .modelWaymark => kept_execModelWaymark h
  | .calWaymark unit => kept_execCalWaymark unit h
  | .stepWaymark => kept_execStepWaymark h
  | .probeWaymark unit => kept_execProbeWaymark unit h
  | .waymarkArrive unit => kept_execWaymarkArrive unit h
  | .octetRoleWrite m octet value env => kept_execOctetRoleWrite m octet value env h
  | .lnsBasicWrite m value env => kept_execLnsBasicWrite m value env h
  | .txFirWrite m lane value env => kept_execTxFirWrite m lane value env h
  | .laneIdleSet m lane value env => kept_execLaneIdleSet m lane value env h
  | .laneIdleClear m lane value env => kept_execLaneIdleClear m lane value env h
  | .idleTimeout lane => kept_execIdleTimeout lane h
  | .autoIdleExit lane firstSleepSent => kept_execAutoIdleExit lane firstSleepSent h
  | .relockTimeout lane => kept_execRelockTimeout lane h
  | .laneRetrain m lane value env => kept_execLaneRetrain m lane value env h
  | .laneAdapt m lane value env => kept_execLaneAdapt m lane value env h
  | .laneTrainComplete lane lock height width => kept_execLaneTrainComplete lane lock height width h
  | .blockLockLoss lane => kept_execBlockLockLoss lane h
  | .laneDown lane => kept_execLaneDown lane h
  | .refLost ref => kept_execRefLost ref h
  | .linkinfoRx lane offer chip => kept_execLinkinfoRx lane offer chip h
  | .linkinfoTx lane => kept_execLinkinfoTx lane h
  | .sleepRx lane => kept_execSleepRx lane h
  | .invalidBlockRx lane => kept_execInvalidBlockRx lane h
  | .reorderTimeout path dest control chip => kept_execReorderTimeout path dest control chip h
  | .fecUncorr lane corrected => kept_execFecUncorr lane corrected h
  | .ingressFrameRx lane f check => kept_execIngressFrameRx lane f check h
  | .graticuleFrameRx lane f check => kept_execGraticuleFrameRx lane f check h
  | .twinFrameRx lane f check fits => kept_execTwinFrameRx lane f check fits h
  | .ckShadowWrite m lane word value env => kept_execCkShadowWrite m lane word value env h
  | .ckPresetWrite m value env => kept_execCkPresetWrite m value env h
  | .ckPresetLoad lane => kept_execCkPresetLoad lane h
  | .portCfgWrite m port value env => kept_execPortCfgWrite m port value env h
  | .ethFrameRx port fcsGood => kept_execEthFrameRx port fcsGood h
  | .lnsCntClear m value env => kept_execLnsCntClear m value env h
  | .frmCntClear m value env => kept_execFrmCntClear m value env h
  | .decBasicWrite m value env => kept_execDecBasicWrite m value env h
  | .decShadowWrite m slot word value env => kept_execDecShadowWrite m slot word value env h
  | .decSyncGo m value env => kept_execDecSyncGo m value env h
  | .syncReset slot => kept_execSyncReset slot h
  | .slotDisable slot => kept_execSlotDisable slot h
  | .decInputFrame => kept_execDecInputFrame h
  | .decCntClear m value env => kept_execDecCntClear m value env h
  | .chnBasicWrite m value env => kept_execChnBasicWrite m value env h
  | .chnCfgWrite m value env => kept_execChnCfgWrite m value env h
  | .chnCoefDataWrite m value env => kept_execChnCoefDataWrite m value env h
  | .chnGainDataWrite m value env => kept_execChnGainDataWrite m value env h
  | .chnStart m value env => kept_execChnStart m value env h
  | .chnStop m value env => kept_execChnStop m value env h
  | .chnStreamBegin slot => kept_execChnStreamBegin slot h
  | .chnStopCommit => kept_execChnStopCommit h
  | .chnSpectrum slot => kept_execChnSpectrum slot h
  | .chnCntClear m value env => kept_execChnCntClear m value env h
  | .rsyBasicWrite m value env => kept_execRsyBasicWrite m value env h
  | .rsyCoefDataWrite m value env => kept_execRsyCoefDataWrite m value env h
  | .rsyStart m value env => kept_execRsyStart m value env h
  | .rsyStop m value env => kept_execRsyStop m value env h
  | .rsyStopCommit => kept_execRsyStopCommit h
  | .rsySliceWrite m slice half value env => kept_execRsySliceWrite m slice half value env h
  | .rsyHalfRead plan => kept_execRsyHalfRead plan h
  | .rsySynthStep plan => kept_execRsySynthStep plan h
  | .rsyCntClear m value env => kept_execRsyCntClear m value env h
  | .grtBasicWrite m value env => kept_execGrtBasicWrite m value env h
  | .grtChipWrite m value env => kept_execGrtChipWrite m value env h
  | .grtApply m value env => kept_execGrtApply m value env h
  | .grtApplyCommit => kept_execGrtApplyCommit h
  | .grtSpectrumSend => kept_execGrtSpectrumSend h
  | .grtCntClear m value env => kept_execGrtCntClear m value env h
  | .stgBasicWrite m value env => kept_execStgBasicWrite m value env h
  | .stgStart m value env => kept_execStgStart m value env h
  | .stgStop m value env => kept_execStgStop m value env h
  | .stgBlockBoundary => kept_execStgBlockBoundary h
  | .stgFrameWrite => kept_execStgFrameWrite h
  | .blockClose => kept_execBlockClose h
  | .closeTimeout => kept_execCloseTimeout h
  | .ringHoldRelease => kept_execRingHoldRelease h
  | .subBlockStage => kept_execSubBlockStage h
  | .stgCntClear m value env => kept_execStgCntClear m value env h
  | .brgBasicWrite m value env => kept_execBrgBasicWrite m value env h
  | .brgCoreRun m core value env => kept_execBrgCoreRun m core value env h
  | .brgCoreHalt m core value env => kept_execBrgCoreHalt m core value env h
  | .brgCoreStep m core value env => kept_execBrgCoreStep m core value env h
  | .brgCoreLoadbi m core value env => kept_execBrgCoreLoadbi m core value env h
  | .brgDoorbell m core value env => kept_execBrgDoorbell m core value env h
  | .brgDirSwitchArm m value env => kept_execBrgDirSwitchArm m value env h
  | .brgTickFire => kept_execBrgTickFire h
  | .brgInterruptAccept core => kept_execBrgInterruptAccept core h
  | .brgWaitEnd core => kept_execBrgWaitEnd core h
  | .brgPutWritten core => kept_execBrgPutWritten core h
  | .brgNop core => kept_execBrgNop core h
  | .brgAdd core => kept_execBrgAdd core h
  | .brgSub core => kept_execBrgSub core h
  | .brgAnd core => kept_execBrgAnd core h
  | .brgOr core => kept_execBrgOr core h
  | .brgXor core => kept_execBrgXor core h
  | .brgShl core => kept_execBrgShl core h
  | .brgShr core => kept_execBrgShr core h
  | .brgSra core => kept_execBrgSra core h
  | .brgMul core => kept_execBrgMul core h
  | .brgAddi core => kept_execBrgAddi core h
  | .brgOri core => kept_execBrgOri core h
  | .brgLui core => kept_execBrgLui core h
  | .brgLd core => kept_execBrgLd core h
  | .brgSt core => kept_execBrgSt core h
  | .brgSetp core => kept_execBrgSetp core h
  | .brgSetm core => kept_execBrgSetm core h
  | .brgMfs core => kept_execBrgMfs core h
  | .brgOmac core => kept_execBrgOmac core h
  | .brgCmac core => kept_execBrgCmac core h
  | .brgDmac core => kept_execBrgDmac core h
  | .brgExt core => kept_execBrgExt core h
  | .brgMova core => kept_execBrgMova core h
  | .brgBeq core => kept_execBrgBeq core h
  | .brgBne core => kept_execBrgBne core h
  | .brgBlt core => kept_execBrgBlt core h
  | .brgBge core => kept_execBrgBge core h
  | .brgJmp core => kept_execBrgJmp core h
  | .brgCall core => kept_execBrgCall core h
  | .brgRet core => kept_execBrgRet core h
  | .brgLoop core => kept_execBrgLoop core h
  | .brgPut core => kept_execBrgPut core h
  | .brgDir core => kept_execBrgDir core h
  | .brgPost core => kept_execBrgPost core h
  | .brgWaitt core => kept_execBrgWaitt core h
  | .brgWaiti core => kept_execBrgWaiti core h
  | .brgReti core => kept_execBrgReti core h
  | .brgEi core => kept_execBrgEi core h
  | .brgDi core => kept_execBrgDi core h
  | .brgHalt core => kept_execBrgHalt core h
  | .brgCntClear m value env => kept_execBrgCntClear m value env h
  | .xarBasicWrite m value env => kept_execXarBasicWrite m value env h
  | .xarEnableWrite m reg value env => kept_execXarEnableWrite m reg value env h
  | .xarTableWrite m off value env => kept_execXarTableWrite m off value env h
  | .passDispatch desc corr ue => kept_execPassDispatch desc corr ue h
  | .passFillEnd array parity => kept_execPassFillEnd array parity h
  | .exchangeEnd array upset => kept_execExchangeEnd array upset h
  | .xarCntClear m value env => kept_execXarCntClear m value env h
  | .accBasicWrite m value env => kept_execAccBasicWrite m value env h
  | .accDrain m value env => kept_execAccDrain m value env h
  | .skReset m value env => kept_execSkReset m value env h
  | .accBlockClose => kept_execAccBlockClose h
  | .blockResultMerge index => kept_execBlockResultMerge index h
  | .setDrain plan => kept_execSetDrain plan h
  | .drainEnd plan => kept_execDrainEnd plan h
  | .markOutputTimeout port => kept_execMarkOutputTimeout port h
  | .accCntClear m value env => kept_execAccCntClear m value env h
  | .atlBasicWrite m value env => kept_execAtlBasicWrite m value env h
  | .atlRegionWrite m plan reg value env => kept_execAtlRegionWrite m plan reg value env h
  | .statsReset m value env => kept_execStatsReset m value env h
  | .atlUnload m value env => kept_execAtlUnload m value env h
  | .atlRead m value env => kept_execAtlRead m value env h
  | .atlEvict m value env => kept_execAtlEvict m value env h
  | .atlOpAbort m value env => kept_execAtlOpAbort m value env h
  | .hostOpComplete fast => kept_execHostOpComplete fast h
  | .descSnapshot m value env => kept_execDescSnapshot m value env h
  | .ownershipGrant cls fast => kept_execOwnershipGrant cls fast h
  | .pageOutStart fast => kept_execPageOutStart fast h
  | .pageOutComplete index => kept_execPageOutComplete index h
  | .pageInStart => kept_execPageInStart h
  | .pageInComplete index => kept_execPageInComplete index h
  | .atlQuarantine m value env => kept_execAtlQuarantine m value env h
  | .atlRelease m value env => kept_execAtlRelease m value env h
  | .quarantineMoveStep fast => kept_execQuarantineMoveStep fast h
  | .moveCommit index => kept_execMoveCommit index h
  | .atlCntClear m value env => kept_execAtlCntClear m value env h
  | .svyBasicWrite m value env => kept_execSvyBasicWrite m value env h
  | .svyLoad m core value env => kept_execSvyLoad m core value env h
  | .planLoadDone core => kept_execPlanLoadDone core h
  | .svyStart m core value env => kept_execSvyStart m core value env h
  | .svyStop m core value env => kept_execSvyStop m core value env h
  | .svyKill m core value env => kept_execSvyKill m core value env h
  | .svySuspend m core value env => kept_execSvySuspend m core value env h
  | .svyResume m core value env => kept_execSvyResume m core value env h
  | .svyUnload m core value env => kept_execSvyUnload m core value env h
  | .svyHostAbort m core value env => kept_execSvyHostAbort m core value env h
  | .svyRegWrite m core value env => kept_execSvyRegWrite m core value env h
  | .stepPoint core => kept_execStepPoint core h
  | .coreStopComplete core => kept_execCoreStopComplete core h
  | .planWaitEnd core => kept_execPlanWaitEnd core h
  | .planNop core => kept_execPlanNop core h
  | .planSet core => kept_execPlanSet core h
  | .planSethi core => kept_execPlanSethi core h
  | .planAdd core => kept_execPlanAdd core h
  | .planSub core => kept_execPlanSub core h
  | .planMul core => kept_execPlanMul core h
  | .planAnd core => kept_execPlanAnd core h
  | .planOr core => kept_execPlanOr core h
  | .planShl core => kept_execPlanShl core h
  | .planShr core => kept_execPlanShr core h
  | .planBranch core => kept_execPlanBranch core h
  | .planLoop core => kept_execPlanLoop core h
  | .planCall core => kept_execPlanCall core h
  | .planRet core => kept_execPlanRet core h
  | .planLoad core => kept_execPlanLoad core h
  | .planStore core env => kept_execPlanStore core env h
  | .planStream core => kept_execPlanStream core h
  | .planSpectra core => kept_execPlanSpectra core h
  | .planTileset core => kept_execPlanTileset core h
  | .planBudget core => kept_execPlanBudget core h
  | .planCorr core => kept_execPlanCorr core h
  | .planBeam core => kept_execPlanBeam core h
  | .planMerge core => kept_execPlanMerge core h
  | .planDump core => kept_execPlanDump core h
  | .planMark core => kept_execPlanMark core h
  | .planWaitmark core => kept_execPlanWaitmark core h
  | .planWaitidx core => kept_execPlanWaitidx core h
  | .planStep core => kept_execPlanStep core h
  | .planFence core => kept_execPlanFence core h
  | .planCommit core => kept_execPlanCommit core h
  | .planAbort core => kept_execPlanAbort core h
  | .planHalt core => kept_execPlanHalt core h
  | .svyCntClear m value env => kept_execSvyCntClear m value env h
  | .trpBasicWrite m value env => kept_execTrpBasicWrite m value env h
  | .trpApply m value env => kept_execTrpApply m value env h
  | .levelReset m value env => kept_execLevelReset m value env h
  | .repNext m value env => kept_execRepNext m value env h
  | .capRelease m value env => kept_execCapRelease m value env h
  | .trpDirRecordWrite m word value env => kept_execTrpDirRecordWrite m word value env h
  | .trpWindow => kept_execTrpWindow h
  | .pinPulseEnd pin => kept_execPinPulseEnd pin h
  | .trpReport suspect => kept_execTrpReport suspect h
  | .trigMarkTimeout port => kept_execTrigMarkTimeout port h
  | .ringFrameWrite => kept_execRingFrameWrite h
  | .trpCntClear m value env => kept_execTrpCntClear m value env h
  | .cadBasicWrite m value env => kept_execCadBasicWrite m value env h
  | .cadShareWrite m cls res value env => kept_execCadShareWrite m cls res value env h
  | .cadApply m value env => kept_execCadApply m value env h
  | .budgetPeriod count uses peerAct => kept_execBudgetPeriod count uses peerAct h
  | .cadCntClear m value env => kept_execCadCntClear m value env h
  | .hbmRequest pc presented => kept_execHbmRequest pc presented h
  | .hbmCommandSlot pc banks => kept_execHbmCommandSlot pc banks h
  | .refreshDue pc => kept_execRefreshDue pc h
  | .stackTempReport stack temp => kept_execStackTempReport stack temp h
  | .memSrEnter m stack value env => kept_execMemSrEnter m stack value env h
  | .memSrExit m stack value env => kept_execMemSrExit m stack value env h
  | .srIdleTimeout stack => kept_execSrIdleTimeout stack h
  | .srEntryComplete stack => kept_execSrEntryComplete stack h
  | .srExitComplete stack wait => kept_execSrExitComplete stack wait h
  | .memTrain m value env => kept_execMemTrain m value env h
  | .trainComplete pc margin => kept_execTrainComplete pc margin h
  | .retrainDue pc => kept_execRetrainDue pc h
  | .retrainStep pc count margin => kept_execRetrainStep pc count margin h
  | .ceRateSecond => kept_execCeRateSecond h
  | .patrolScrub => kept_execPatrolScrub h
  | .cmdParityError pc reissues failed => kept_execCmdParityError pc reissues failed h
  | .ueNext m value env => kept_execUeNext m value env h
  | .retireGo m value env => kept_execRetireGo m value env h
  | .retireAbort m value env => kept_execRetireAbort m value env h
  | .retireRestore m value env => kept_execRetireRestore m value env h
  | .retireCommit => kept_execRetireCommit h
  | .memCntClear m value env => kept_execMemCntClear m value env h
  | .merBasicWrite m value env => kept_execMerBasicWrite m value env h
  | .merSelect m value env => kept_execMerSelect m value env h
  | .realign m value env => kept_execRealign m value env h
  | .merEpochRequest m value env => kept_execMerEpochRequest m value env h
  | .merFsWrite m value env => kept_execMerFsWrite m value env h
  | .offsetWrite m output half value env => kept_execOffsetWrite m output half value env h
  | .internalPpsEdge => kept_execInternalPpsEdge h
  | .refSecond a b c d twin y phase => kept_execRefSecond a b c d twin y phase h
  | .refEdgeLoss entry companion => kept_execRefEdgeLoss entry companion h
  | .irigFrame entry f => kept_execIrigFrame entry f h
  | .buildoutLatch steps => kept_execBuildoutLatch steps h
  | .loopBwStep phase => kept_execLoopBwStep phase h
  | .timBasicWrite m value env => kept_execTimBasicWrite m value env h
  | .secSet m value env => kept_execSecSet m value env h
  | .todSet m value env => kept_execTodSet m value env h
  | .ptpAccept m value env => kept_execPtpAccept m value env h
  | .ptpReset m value env => kept_execPtpReset m value env h
  | .timSelect m value env => kept_execTimSelect m value env h
  | .incrHiWrite m value env => kept_execIncrHiWrite m value env h
  | .incrLoWrite m value env => kept_execIncrLoWrite m value env h
  | .evtCfgWrite m output value env => kept_execEvtCfgWrite m output value env h
  | .ptpMessageRx domain msg => kept_execPtpMessageRx domain msg h
  | .timCntClear m value env => kept_execTimCntClear m value env h
  | .matrixBurst m addr write lock total beats env => kept_execMatrixBurst m addr write lock total beats env h
  | .targetTimeout m addr write => kept_execTargetTimeout m addr write h
  | .masterReset m => kept_execMasterReset m h
  | .lockExpiry => kept_execLockExpiry h
  | .pcieConfigRequest early bars msix => kept_execPcieConfigRequest early bars msix h
  | .pcieLink rate width => kept_execPcieLink rate width h
  | .bar0Read addr words env => kept_execBar0Read addr words env h
  | .bar0Write addr words env => kept_execBar0Write addr words env h
  | .bar2Read addr len => kept_execBar2Read addr len h
  | .bar2Write addr data => kept_execBar2Write addr data h
  | .msixVectorUnmask vector env => kept_execMsixVectorUnmask vector env h
  | .mboxAbort m channel value env => kept_execMboxAbort m channel value env h
  | .getInfo channel env => kept_execGetInfo channel env h
  | .setMode channel mode env => kept_execSetMode channel mode env h
  | .applyReference channel env => kept_execApplyReference channel env h
  | .setEpoch channel label env => kept_execSetEpoch channel label env h
  | .selectRef channel entry env => kept_execSelectRef channel entry env h
  | .planRun channel blocks env => kept_execPlanRun channel blocks env h
  | .planStop channel env => kept_execPlanStop channel env h
  | .drain channel plan arg env => kept_execDrain channel plan arg env h
  | .haltScope channel scope anchor env => kept_execHaltScope channel scope anchor env h
  | .resumeScope channel scope anchor env => kept_execResumeScope channel scope anchor env h
  | .readLog channel env => kept_execReadLog channel env h
  | .arm channel unit value env => kept_execArm channel unit value env h
  | .train channel env => kept_execTrain channel env h
  | .setVcore channel mv env => kept_execSetVcore channel mv env h
  | .updateWrite channel addr len env => kept_execUpdateWrite channel addr len env h
  | .updateTrial channel env => kept_execUpdateTrial channel env h
  | .updateConfirm channel force env => kept_execUpdateConfirm channel force env h
  | .updateReject channel env => kept_execUpdateReject channel env h
  | .updateStatus channel env => kept_execUpdateStatus channel env h
  | .updateTicket channel addr len env => kept_execUpdateTicket channel addr len env h
  | .updateSafeWrite channel addr len env => kept_execUpdateSafeWrite channel addr len env h
  | .updateKeyfloorRevoke channel addr len env => kept_execUpdateKeyfloorRevoke channel addr len env h
  | .survey channel env => kept_execSurvey channel env h
  | .takeover channel env => kept_execTakeover channel env h
  | .mgtMboxRequest port data env => kept_execMgtMboxRequest port data env h
  | .mgtPacketRx pkt => kept_execMgtPacketRx pkt h
  | .smbReadWord addr => kept_execSmbReadWord addr h
  | .smbBlockWrite addr data pec env => kept_execSmbBlockWrite addr data pec env h
  | .smbBlockRead addr => kept_execSmbBlockRead addr h
  | .pmbVoutWrite m value env => kept_execPmbVoutWrite m value env h
  | .pmbusPoll failed vout iout status => kept_execPmbusPoll failed vout iout status h
  | .wdogKick m value env => kept_execWdogKick m value env h
  | .wdogExpired pc => kept_execWdogExpired pc h
  | .tapInstruction instruction => kept_execTapInstruction instruction h
  | .cmxCntClear m value env => kept_execCmxCntClear m value env h
  | .modeCtrlGo m value env => kept_execModeCtrlGo m value env h
  | .modeCtrlAbort m value env => kept_execModeCtrlAbort m value env h
  | .readyExitProgress => kept_execReadyExitProgress h
  | .surveyStepComplete word expected => kept_execSurveyStepComplete word expected h
  | .surveyCut m value env => kept_execSurveyCut m value env h
  | .beaconLost peerAct => kept_execBeaconLost peerAct h
  | .twinCtrlTakeover m value env => kept_execTwinCtrlTakeover m value env h
  | .twinCtrlAbort m value env => kept_execTwinCtrlAbort m value env h
  | .peerActRise => kept_execPeerActRise h
  | .handoverTimeout => kept_execHandoverTimeout h
  | .switchbackHoldExpiry => kept_execSwitchbackHoldExpiry h
  | .revertDelayExpiry => kept_execRevertDelayExpiry h
  | .sigMissingTimeout own => kept_execSigMissingTimeout own h
  | .aatFire env => kept_execAatFire env h
  | .logRecordWrite => kept_execLogRecordWrite h
  | .logReadWrite m value env => kept_execLogReadWrite m value env h
  | .hltBasicWrite m value env => kept_execHltBasicWrite m value env h
  | .hltCntClear m value env => kept_execHltCntClear m value env h
  | .debugTokenWrite m word value env => kept_execDebugTokenWrite m word value env h
  | .recDataWrite m value env => kept_execRecDataWrite m value env h
  | .recGo m value env => kept_execRecGo m value env h
  | .blockLockRestored lane => kept_execBlockLockRestored lane h
  | .domainLeavesSlave domain => kept_execDomainLeavesSlave domain h
  | .evtOutPulse output => kept_execEvtOutPulse output h
  | .flashProgramEnd good => kept_execFlashProgramEnd good h
  | .slewEnd => kept_execSlewEnd h

theorem step_cons (h : s.pending = i :: rest) : step s = exec i { s with pending := rest } := by
  unfold step
  rw [h]

/-- Settles O3: nothing is written yet in the maps of the reset state, and its logs are empty. -/
theorem resetMeetsInvariant : Obligations.ResetMeetsInvariant :=
  ⟨rfl, rfl, Nat.zero_le _, Nat.zero_le _⟩

/-- Settles O4: a step is a tick, or the front command run with the rest of the queue, and each of them keeps the canonical forms and the bounds
(R336, R351, R439). -/
theorem stepKeepsInvariant : Obligations.StepKeepsInvariant := by
  intro s t hinv hstep
  cases hq : s.pending with
  | nil =>
    rw [step_empty hq] at hstep
    obtain rfl := Host.Outcome.next.inj hstep
    exact (kept_meridianTick hinv.kept).inv
  | cons i rest =>
    rw [step_cons hq] at hstep
    exact (kept_exec i (kept_with_pending hinv.kept) t hstep).inv

end Sys2Proof.Machine

/-! SUPPORT. What a command ends in: a next state, but for readings beyond the absolute maximum ratings of Table 20.1. -/

namespace Sys2Proof.Machine

variable {s : State} {a b : Host.Outcome State Fault Refusal}

/-! ### Outcomes that are a next state -/

/-- The outcome is a next state. -/
def Answers (o : Host.Outcome State Fault Refusal) : Prop := ∃ t, o = .next t

theorem answers_next (t : State) : Answers (.next t) := ⟨t, rfl⟩

theorem answers_ite {c : Prop} [Decidable c] (ha : Answers a) (hb : Answers b) : Answers (if c then a else b) := by
  split <;> assumption

/-! ### The commands whose meaning chooses between several next states -/

theorem answers_chnStreamBegin (slot : Fin 256) (s : State) : Answers (exec (.chnStreamBegin slot) s) := by
  show Answers (execChnStreamBegin slot s)
  unfold execChnStreamBegin
  split
  · exact answers_next _
  · exact answers_next _

theorem answers_chnStopCommit (s : State) : Answers (exec .chnStopCommit s) :=
  answers_ite (answers_next _) (answers_next _)

theorem answers_chnSpectrum (slot : Fin 256) (s : State) : Answers (exec (.chnSpectrum slot) s) :=
  answers_ite (answers_next _) (answers_next _)

theorem answers_laneTrainComplete (lane : Fin 96) (lock : Bool) (height width : BitVec 8) (s : State) :
    Answers (exec (.laneTrainComplete lane lock height width) s) :=
  answers_ite (answers_next _) (answers_ite (answers_next _) (answers_next _))

theorem answers_linkinfoRx (lane : Fin 96) (offer : Fin 16) (chip : Fin 64) (s : State) : Answers (exec (.linkinfoRx lane offer chip) s) :=
  ⟨_, linkinfoRx_stages lane offer chip s⟩

theorem answers_reorderTimeout (path : Fin 80) (dest : Fin 64) (control : Bool) (chip : Fin 64) (s : State) :
    Answers (exec (.reorderTimeout path dest control chip) s) :=
  answers_ite (answers_next _) (answers_next _)

theorem answers_markOutputTimeout (port : Fin 8) (s : State) : Answers (exec (.markOutputTimeout port) s) := by
  show Answers (execMarkOutputTimeout port s)
  unfold execMarkOutputTimeout
  dsimp only
  split
  · exact answers_next _
  · exact answers_next _

theorem answers_trigMarkTimeout (port : Fin 8) (s : State) : Answers (exec (.trigMarkTimeout port) s) := by
  show Answers (execTrigMarkTimeout port s)
  unfold execTrigMarkTimeout
  dsimp only
  split
  · exact answers_next _
  · exact answers_next _

theorem answers_decInputFrame (s : State) : Answers (exec .decInputFrame s) := by
  refine answers_ite (answers_next s) ?_
  split
  · exact answers_next _
  · exact answers_next _
  · exact answers_next _

theorem answers_grtSpectrumSend (s : State) : Answers (exec .grtSpectrumSend s) := by
  cases h : s.grt.inQ with
  | nil => exact ⟨s, spectrumSend_nil h⟩
  | cons x rest => exact ⟨_, spectrumSend_cons h⟩

/-! ### Readings beyond the absolute maximum ratings (R468) -/

/-- Does the command bring a reading beyond Table 20.1: one of the sixteen junction temperatures outside −40 to 125 °C, or one of the ten supplies
outside its row? -/
def bringsBeyond : Instr → Bool
  | .tempSample temps => (List.range 16).any (fun i => decide ((temps.getD i 0#8).toInt < -40) || decide (125 < (temps.getD i 0#8).toInt))
  | .supplySample mvs => (List.range 10).any (fun v => !supplyRated v (mvs.getD v 0))
  | .supplyFaultReset supply mv => !supplyRated supply.val mv
  | _ => false

/-- Only the three commands that bring readings can bring one beyond the ratings. -/
theorem bringsReadings_of_bringsBeyond {c : Instr} (h : bringsBeyond c = true) :
    (∃ l, c = .tempSample l) ∨ (∃ l, c = .supplySample l) ∨ (∃ v mv, c = .supplyFaultReset v mv) := by
  unfold bringsBeyond at h
  split at h
  · exact .inl ⟨_, rfl⟩
  · exact .inr (.inl ⟨_, rfl⟩)
  · exact .inr (.inr ⟨_, _, rfl⟩)
  · exact absurd h Bool.false_ne_true

theorem exec_tempSample (temps : List (BitVec 8)) (s : State) : exec (.tempSample temps) s =
    if bringsBeyond (.tempSample temps) then .fault .beyondAbsoluteMaximum
    else .next (unlessOff (tempSample ((List.range 16).map (fun i => (temps.getD i 0#8).toInt))) s) := rfl

theorem exec_supplySample (mvs : List Int) (s : State) : exec (.supplySample mvs) s =
    if bringsBeyond (.supplySample mvs) then .fault .beyondAbsoluteMaximum
    else .next (unlessOff (supplySample ((List.range 10).map (fun v => mvs.getD v 0))) s) := rfl

theorem exec_supplyFaultReset (supply : Fin 10) (mv : Int) (s : State) : exec (.supplyFaultReset supply mv) s =
    if bringsBeyond (.supplyFaultReset supply mv) then .fault .beyondAbsoluteMaximum
    else .next (if mv < (faultWindow supply.val).1 || (faultWindow supply.val).2 < mv then supplyFault supply.val s else s) := rfl

/-! ### Every command -/

/-- A reading beyond the ratings stops the machine. -/
theorem exec_of_bringsBeyond {c : Instr} (h : bringsBeyond c = true) (s : State) : exec c s = .fault .beyondAbsoluteMaximum := by
  obtain ⟨temps, rfl⟩ | ⟨mvs, rfl⟩ | ⟨supply, mv, rfl⟩ := bringsReadings_of_bringsBeyond h
  · rw [exec_tempSample, if_pos h]
  · rw [exec_supplySample, if_pos h]
  · rw [exec_supplyFaultReset, if_pos h]

/-- Every other command answers. The rows that are not named below have one next state as their meaning. -/
theorem answers_of_not_bringsBeyond {c : Instr} (h : ¬ bringsBeyond c = true) (s : State) : Answers (exec c s) := by
  cases c with
  | tempSample temps => exact ⟨_, (exec_tempSample temps s).trans (if_neg h)⟩
  | supplySample mvs => exact ⟨_, (exec_supplySample mvs s).trans (if_neg h)⟩
  | supplyFaultReset supply mv => exact ⟨_, (exec_supplyFaultReset supply mv s).trans (if_neg h)⟩
  | chnStreamBegin slot => exact answers_chnStreamBegin slot s
  | chnStopCommit => exact answers_chnStopCommit s
  | chnSpectrum slot => exact answers_chnSpectrum slot s
  | laneTrainComplete lane lock height width => exact answers_laneTrainComplete lane lock height width s
  | linkinfoRx lane offer chip => exact answers_linkinfoRx lane offer chip s
  | reorderTimeout path dest control chip => exact answers_reorderTimeout path dest control chip s
  | markOutputTimeout port => exact answers_markOutputTimeout port s
  | trigMarkTimeout port => exact answers_trigMarkTimeout port s
  | decInputFrame => exact answers_decInputFrame s
  | grtSpectrumSend => exact answers_grtSpectrumSend s
  | _ => exact answers_next _

/-- A next state has the queue that the command was given, wherever the invariant holds. -/
theorem pending_exec {c : Instr} {t : State} (hinv : Inv s) (hexec : exec c s = .next t) : t.pending = s.pending :=
  (kept_exec c hinv.kept t hexec).pending

/-- Settles O5: a command that brings a reading beyond Table 20.1 stops, any other answers, and what it answers keeps the queue (R29, R443, R444,
R468; which readings stop is log entry 75). -/
theorem commandsAnswer : Obligations.CommandsAnswer := by
  intro c s
  by_cases h : bringsBeyond c = true
  · exact .inr ⟨exec_of_bringsBeyond h s, bringsReadings_of_bringsBeyond h⟩
  · obtain ⟨t, hexec⟩ := answers_of_not_bringsBeyond h s
    exact .inl ⟨t, hexec, fun hinv => pending_exec hinv hexec⟩

end Sys2Proof.Machine

/-! SUPPORT. The step on a queue that is not empty, which shows the commands in the order in which they stand there (log entry 45). -/

namespace Sys2Proof.Machine

/-- Settles O1: this is `step_cons`, the branch of the step that a queue with a front takes (log entries 45 and 107). -/
theorem stepRunsFrontCommand : Obligations.StepRunsFrontCommand :=
  fun _ _ _ hqueue => step_cons hqueue

end Sys2Proof.Machine
